-- ==== Sys2Proof/Word.lean ====
section
/-! DEFINITION. Words, bytes and number-keyed tables. -/

namespace Sys2Proof

/-- A byte of memory, of a message or of an image. -/
abbrev Byte := BitVec 8

/-- A 32-bit register (R37, R260). -/
abbrev Word := BitVec 32

/-- A table keyed by a number; a key it does not list reads as the default its reader names. -/
abbrev Tbl (α : Type) := List (Nat × α)

end Sys2Proof
end

