-- ==== Sys2Proof/Syntax.lean ====
section
/-! DEFINITION. The commands of the block: one constructor for each row of spec/opcode_table.json. The operands say which object is acted on and what the environment decides; the table itself gives no operands and no encoding. A `note` is an operand that carries nothing: what such a step receives or counts stands in the state. -/

namespace Sys2Proof

/-- Packet operations (Table 3.2). -/
inductive Op where
  | rd | wr | wrp | atom | msg | rsp | probe
deriving DecidableEq, Repr

/-- STATUS codes (Table 3.11). -/
inductive Status where
  | ok | okPoison | timeout | fenced | denied | decode | uncorrectable | keyRetired | collide | route | farUnreachable
deriving DecidableEq, Repr

/-- A request as an initiator presents it to its NI (R79, R80, R296). -/
structure Req where
  op : Op := .rd
  far : Bool := false
  farDev : Nat := 0
  /-- Endpoint on the other device when `far`. -/
  farEp : Nat := 0
  /-- 48-bit address; bits 47:42 are the KID of an initiator in KID-in-address mode (R29). -/
  addr : Nat := 0
  len : Nat := 0
  /-- KID presented beside the address (Table 10.2). -/
  kid : Nat := 0
  pageHint : Nat := 0
  bulk : Bool := false
  data : List Byte := []
  /-- Ranges (offset, length) of the data that are bad: their data flits leave with POISON (R371). -/
  poison : List (Nat × Nat) := []
  /-- Headwater issues it on behalf of a debugger (R81). -/
  debug : Bool := false
deriving DecidableEq, Repr

/-- Which port of the lock unit an access comes from (R67). -/
inductive LockPort where
  | braid (pid : Nat)
  | headwater (lock : Nat)
deriving DecidableEq, Repr

/-- A register write (R7): delivered over Braid, or by the host to BAR0. -/
inductive RegAccess where
  | braid (pid : Nat)
  | bar0 (offset : Nat) (value : Nat)
deriving DecidableEq, Repr

/-- Causes of a Headwater reset (Table 2.1, EV441). -/
inductive HwResetCause where
  | lockstep | watchdog | stylus | device
deriving DecidableEq, Repr

/-- One 66-bit block: sync header and 64 payload bits (R175). -/
structure Block where
  header : Nat := 2
  payload : Nat := 0
deriving DecidableEq, Repr

/-- Equalizer coefficients of a lane (R195, R215). -/
structure Coeffs where
  ctle : Nat := 0
  ffe : List Int := []
  dfe : List Int := []
deriving DecidableEq, Repr

/-- One adaptation trial: the coefficients it would set, whether MARGIN fell on the shadow path, and whether it moves the CTLE (R196). -/
structure Trial where
  coeffs : Coeffs := {}
  marginFell : Bool := false
  movesCtle : Bool := false
  newMargin : Nat := 0
deriving DecidableEq, Repr

/-- What the two members of a pair learn of each other (R241, R594). -/
structure PairReply where
  m : Nat := 0
  partnerActive : Bool := false
  partnerRequestsActive : Bool := false
deriving DecidableEq, Repr

/-- State that the active mirrors to the standby (Table 6.10). -/
inductive MirrorItem where
  | routes (ni : Nat) (table : Tbl Nat)
  | calendar (image : List Byte)
  | farTable (table : Tbl Nat)
  | log (channel opcode seq code timebase : Nat)
  | keySlot (kid : Nat) (sealedMode : Bool) (key : List Byte)
  | linkKey (link dir slot : Nat) (key : List Byte) (salt : Nat)
deriving DecidableEq, Repr

/-- A memory with power states of its own (Table 9.4). -/
inductive MemUnit where
  | basin (group : Nat)
  | engines (quad : Nat)
deriving DecidableEq, Repr

/-- Flipped bits found in an aligned 64-bit word: physical word number and how many bits (R368). -/
structure WordErr where
  word : Nat := 0
  bits : Nat := 1
deriving DecidableEq, Repr

/-- Bytes in error found in a stored DRAM line: index 0-79 and mask (R349). -/
structure LineErr where
  index : Nat := 0
  mask : Nat := 1
deriving DecidableEq, Repr

/-- A token of the reservation sideband about one counter (R410). -/
inductive CounterOp where
  | lookup | answer (value : Nat) | increment | writeBack (value : Nat)
deriving DecidableEq, Repr

/-- Which stored item fails when a sealed counter is fetched (Table 10.6). -/
inductive CounterFault where
  | none | corrected | cleanDropped | dirtyLost | nodeLost | rootVote
deriving DecidableEq, Repr

/-- Wake sources (Table 13.6). -/
inductive WakeSource where
  | bellOrBar0 | event | energyDetect | stipple | tamper | bmc | timer
deriving DecidableEq, Repr

/-- Rails of Table 17.2. -/
inductive Rail where
  | aon | core | me | shore | ret | lane | laneHv | vddq | io | bw | fuse
deriving DecidableEq, Repr

/-- The commands. Every constructor is a row of the opcode table, in the table's order. -/
inductive Instr where
  | powerOnReset
  | crystalWatchExpiry (oscillating : Bool)
  | rillAccess
  | eventRillArrival (ev : Nat)
  | requestPresented (ep agent : Nat) (r : Req)
  | packetInject (ep pid : Nat)
  | flitArrival (router port : Nat) (parityError : Bool)
  | routerPipelineStart (router : Nat)
  | routerSleep (router : Nat)
  | urgAgeing (router port vc pid : Nat)
  | outputArbitration (router out : Nat)
  | creditReturn (router port vc : Nat)
  | requestDelivery (ep pid : Nat) (parity : Option Nat)
  | probeAnswer (ep pid : Nat) (parity : Option Nat := none)
  | responseArrival (ep pid : Nat) (parity : Option Nat)
  | orbExpiry (ep index : Nat)
  | niTableSwap (ep : Nat)
  | fenceBitmapUpdate
  | gateDrained (gate : Nat)
  | drainMaxExpiry (gate : Nat)
  | routerMaintStep (testPassed : Bool)
  | vc2FlitPresent (ep flow addr : Nat) (data : List Byte) (poison : Bool)
  | vc2Inject (ep flow : Nat)
  | calendarSwap
  | tokenArrival (token : Nat)
  | ferryMsgWrite (pid : Nat)
  | bellPost (pid : Nat)
  | bellClear (pid : Nat)
  | headwaterInterrupt
  | take
  | ferryAckWrite
  | completionNotification (channel : Nat)
  | senderReset (channel : Nat)
  | headwaterReset (cause : HwResetCause)
  | lockstepMismatch
  | headwaterWatchdogExpiry
  | hwReady (lostJobs : List Nat)
  | firmwareSwitch
  | lockRead (port : LockPort)
  | lockRelease (port : LockPort) (value : Nat)
  | lockHoldExpiry (lock : Nat)
  | timebaseLoRead (debug : Bool)
  | fatalSummaryClear (mask : Nat)
  | evDoorbellClear (mask : Nat)
  | bar2Request (offset : Nat) (r : Req)
  | pcieReset
  | registerWrite (a : RegAccess)
  | kmRngOutRead (pid : Nat) (draw : BitVec 64)
  | cfgXspiRdRead (pid : Nat)
  | lanePllLock (quad : Nat)
  | pllLockTimeout (quad : Nat)
  | energyDetected (lane : Nat)
  | cdrLock (lane : Nat)
  | equalizerConverged (lane : Nat) (c : Coeffs)
  | blockLock (lane : Nat)
  | frameLock (lane : Nat)
  | rxBoundExpiry (lane : Nat)
  | energyLoss (lane : Nat)
  | cdrLoss (lane : Nat)
  | blockLockLoss (lane : Nat)
  | frameLockLoss (lane : Nat)
  | pllUnlock (quad : Nat)
  | nativeFrameReceive (lane : Nat) (symbols : List Nat)
  | nativeFrameTransmit (lane : Nat)
  | passBlockReceive (lane : Nat) (symbols : List Nat) (note1 note2 : Unit := ())
  | passStreamSend (lane bytes : Nat)
  | txStreamWrite (pid : Nat)
  | passBlockTransmit (lane : Nat)
  | txSettingsApply (lane : Nat)
  | adaptationUpdate (lane : Nat) (t : Trial)
  | marginRefresh (lane margin : Nat)
  | corrWindowEnd (lane : Nat)
  | energyDetect (lane : Nat)
  | eyeScanDone (lane : Nat) (counts : List Nat)
  | laneStateReached (lane : Nat)
  | portInit (port : Nat)
  | portUp (port flight : Nat)
  | portDown (port cause : Nat)
  | linkFlitReceive (port : Nat) (note : Unit := ())
  | linkFlitSend (port : Nat)
  | linkctlReceive (port : Nat) (note : Unit := ())
  | replayTimeout (port : Nat)
  | linkctlSend (port : Nat)
  | deltaPacketEntry (port : Nat)
  | keySwitchApply (link : Nat)
  | pairingDone (p : PairReply)
  | pairTimeout
  | stateMirrorApply (item : MirrorItem) (applied : Bool)
  | heartbeatArm
  | heartbeatSend
  | heartbeatArmTimeout
  | heartbeatReceive (note : Unit := ())
  | heartbeatMissed
  | mirrorForward (channel : Nat)
  | mirrorCompletion (note : Unit := ())
  | resyncPageCopy
  | bundleIssue (engine : Nat)
  | operationResult (engine : Nat)
  | decisionWrite (engine : Nat)
  | rldCompletion (engine : Nat)
  | ticketCompletion (engine ticket : Nat)
  | interruptInputRise (engine line : Nat)
  | interruptEntry (engine : Nat)
  | exceptionEntry (engine : Nat)
  | debugHalt (engine : Nat)
  | engineReset (pid : Nat)
  | run (pid : Nat)
  | qmDescWrite (pid : Nat)
  | abort (pid : Nat)
  | kick (pid : Nat)
  | descriptorStart (engine : Nat)
  | moverPieceCompletion (engine : Nat)
  | portBAccess (pid : Nat) (collides : Option Nat) (errs : List WordErr)
  | portBRetry (pid : Nat) (collides : Option Nat)
  | watchdogWarn (engine : Nat)
  | watchdogExpiry (engine : Nat)
  | dramRequestAccept (channel pid : Nat)
  | dramAccessIssue (channel : Nat) (draw : Nat)
  | dramReadComplete (channel : Nat) (errs : List LineErr)
  | pageClose (channel bank : Nat)
  | mergeFlush (channel : Nat)
  | refresh (channel : Nat)
  | temperatureReport (channel : Nat) (hot : Bool)
  | actWindowEnd (channel : Nat)
  | selfRefreshEntry (channel : Nat)
  | selfRefreshExit (channel : Nat)
  | dqsRetrain (channel driftMilliUi : Nat)
  | trainingDone (channel : Nat) (converged : Bool)
  | initLostDone (channel : Nat)
  | imbalanceWindow (channel : Nat) (note : Unit := ())
  | scourWalkLine (region : Nat)
  | scourPassLine
  | scourPassDone
  | basinRequestAccept (group pid : Nat)
  | basinRequestStart (group : Nat) (errs : List WordErr)
  | basinMergeFlush (group : Nat) (errs : List WordErr)
  | retentionEntry (m : MemUnit)
  | memoryWake (m : MemUnit)
  | memoryInitDone (m : MemUnit)
  | tamperFilter (input : Nat)
  | glitchTrip
  | zeroization
  | sealInitDone
  | counterToken (channel : Nat) (counter : Nat) (op : CounterOp) (fault : CounterFault)
  | reseal (channel page : Nat)
  | subtreeReinit (channel : Nat)
  | keyRetireDone (kid : Nat)
  | tidelineLine (tideline : Nat)
  | initialLoad
  | imageRecord (flashFails : Bool := false)
  | loadDone
  | scrubPassStart
  | frameReadback (flips : List Nat)
  | hatchReadResult
  | policyResetEnd (reach : Nat)
  | tmrVote
  | directoryRewrite
  | syncPulse (width : Nat) (position : Nat)
  | bwFrame (slots : Tbl Byte) (syncMissing : Bool)
  | clockLoss
  | bwLockTimeout
  | multiframeBoundary
  | braidTxSend
  | ringWrite (pid : Nat)
  | ringConsume
  | prepareVote (domain : Nat) (sleepOk : Bool)
  | voteTimeout (domain : Nat)
  | sleepCommit
  | retentionStep
  | stippleEntered
  | sleepAborted
  | wakeEvent (source : WakeSource)
  | dozeExit
  | stippleExitDone
  | stipplePeriod (samples : List Int)
  | powerGood
  | dvfsFrequencyChange (quad : Nat)
  | pgTimeout (busFailed : Bool)
  | slowClockLoss
  | trimMeasureDone (pllCycles : Nat)
  | thermalSample (sensor : Nat) (eighths : Int)
  | railFault (r : Rail)
  | rstStyNPulse (widthNs : Nat)
  | deviceReset
  | resetRelease (bootMode slotId : Nat) (vmePg : Bool)
  | firmwareLoad (octal : Bool)
  | attach
  | stylusFrameTimeout
  | idcode
  | challenge (record : Nat) (nonce : BitVec 256)
  | respond (tag : List Byte)
  | detach
  | result
  | stylusRead (sysAddr size : Nat)
  | stylusWrite (sysAddr size : Nat) (data : List Byte)
  | stylusHalt (engine : Nat)
  | stylusRun (engine : Nat)
  | stylusStep (engine : Nat)
  | engReset (engine : Nat)
  | regrd (engine cls index : Nat)
  | regwr (engine cls index : Nat) (value : BitVec 64)
  | resetHw
  | resetDevice
  | eventRaise (ev cause : Nat) (detail : List Byte)
  | eventTake
  | eventDrain
  | sysInfo
  | sysBootStatus
  | sysFwStage
  | sysFwActivate
  | sysLifecycle
  | laneSetMode
  | laneSetTaps
  | laneLoadSlotTable
  | laneState
  | laneStatus
  | laneEye
  | routeLoad
  | routeCommit
  | sluiceLoad
  | sluiceCommit
  | weirFence
  | weirOpen
  | routerMaint
  | timeoutSet
  | dramConfig
  | dramTrain
  | dramPower
  | scourSet
  | scourPass
  | hammerSet
  | flipMask
  | keyInstall
  | keyRetire
  | tidelineStart
  | tidelineStatus
  | sealWindow
  | protectRange
  | linkKey
  | reachLoad
  | reachIsolate
  | reachRelease
  | hatchLoad
  | scrubSet
  | reachStatus
  | pwrState
  | pwrDomain
  | dvfsSet
  | stippleProgram
  | timeSet
  | wdtSet
  | deltaPortSet
  | farRouteLoad
  | twinPair
  | twinMirror
  | twinSwitchover
  | deviceIdSet
  | bwInit
  | bwConnect
  | bwStatus
  | proofSelect
  | diagCounters
  | diagLoopback
  | evRoute
  | evRead
  | twinHbInEdge
  | tamperNRise (input : Nat)
  | railReturn (r : Rail)
  | fuseProgrammingDone (verified : Bool)
  | flashStagingDone (completed : Bool)
  | directoryRewriteDone
  | zeroFillDone
deriving DecidableEq, Repr

end Sys2Proof
end

