-- ==== Sys2Proof/Config.lean ====
section
/-! DEFINITION. What the manual leaves to a cited standard or leaves open: opaque functions, so that no proof can see a value. -/

namespace Sys2Proof

/-- A byte whose value the manual does not give: contents of DRAM after a first training (R346), lines lost in self-refresh (R342), data moved while a ticket is busy (R299). Free value, log entry 3. -/
opaque Config.freeByte : Nat → Byte

/-- A free number, for a count or a code the manual does not give (log entry 3). -/
opaque Config.freeNat : Nat → Nat

/-- Data read when a stored line is decrypted under another key or at another address than it was written with (R401): old key, old address, new key, new address, plaintext, byte index. AES-256-XTS of IEEE Std 1619 is not restated by the manual. Log entry 12. -/
opaque Config.crossByte : List Byte → Nat → List Byte → Nat → List Byte → Nat → Byte

/-- Bytes of a line with more errors than its code corrects and that the code does not detect (R349): free. -/
opaque Config.miscorrectByte : Nat → Nat → Byte

/-- RFC 3394 unwrap of a blob under a key-encryption key of the firmware key store: the keys, or none when the check fails (R418, R431, R447). Log entry 12. -/
opaque Config.keyUnwrap : List Byte → List Byte → Option (List Byte)

/-- The key-encryption key of an index 0-15; KEK 0 derives from the device unique-key derivative (R418). -/
opaque Config.kek : Nat → List Byte

/-- The fabric image key that fuses and the secure bank hold (R447). -/
opaque Config.imageKey : List Byte

/-- AES-256-GCM keystream decryption of one image or frame segment: key, IV, ciphertext (R239, R447). -/
opaque Config.gcmPlain : List Byte → List Byte → List Byte → List Byte

/-- AES-256-GCM tag: key, IV, additional data, ciphertext (R239, R447). -/
opaque Config.gcmTag : List Byte → List Byte → List Byte → List Byte → List Byte

/-- Leading bytes of AES-256-CMAC of NIST SP 800-38B: key, input (R407, R537). -/
opaque Config.cmac : List Byte → List Byte → List Byte

/-- Key of a debugger authentication record (R537). -/
opaque Config.authKey : Nat → List Byte

/-- ECDSA P-384 verification of a firmware image with the public key of an index (R529). -/
opaque Config.sigOk : Nat → List Byte → List Byte → Bool

/-- Whether the public key of an index matches its fuse hash (Table 14.4). -/
opaque Config.pubKeyOk : Nat → Bool

/-- Fixed part T of a request to a reach endpoint, which the loaded design sets: Table 4.9 states none (R159). Free value, log entry 3. -/
opaque Config.reachT : Nat → Nat

/-- Whether the design in a reach takes a VC2 flit that its NI holds, by endpoint and Braid cycle: the design decides (R144). Free value, log entry 3. -/
opaque Config.reachTakes : Nat → Nat → Bool

/-- Whether the components of a channel implement a bank mask for partial-array self-refresh (R342). Free value, log entry 3. -/
opaque Config.pasrBanks : Nat → Bool

/-- Alignment markers that open a codeword, as 257-bit blocks, by mode and number of the codeword since the stream's start; none for most. Table 5.2 leaves them to IEEE Std 802.3. Log entry 91. -/
opaque Config.alignMarkers : Nat → Nat → List Nat

/-- Where the PRBS31 generator starts, by lane (R598). Free value, log entry 3. -/
opaque Config.prbsSeed : Nat → Nat

/-- Internal test points of Proof groups, signals 8-63: not specified (R548). -/
opaque Config.testPoint : Nat → Nat → Bool

/-- Whether Headwater stops PLL_ME in a Braid cycle in which every quad is idle: Table 1.7 states no time. Free value, log entry 3. -/
opaque Config.stopsPllMe : Nat → Bool

/-- How much longer than 1.0 µs, in Braid cycles, the device holds RST_STY_N low for a 1 that it answers: R534 allows up to 0.4 µs. Free value, log entry 3. -/
opaque Config.styHold : Nat → Nat

/-- Whether the bridge can send the MSI-X message of a vector in a Braid cycle: neither masked nor held back (R562): the PCIe specification governs both. Free value, log entry 3. -/
opaque Config.msixReady : Nat → Nat → Bool

end Sys2Proof
end

