-- ==== Sys2Proof/Machine/State.lean ====
section
/-! DEFINITION. The state of the ZX9616 as plain data: everything INVENTORY.md lists, in groups by chapter. -/

namespace Sys2Proof.Machine
open Sys2Proof

/-- Why the block stops. -/
inductive Fault where
  /-- RST_STY_N_PULSE with a width that R532 calls not specified. Safe: the manual gives no effect. -/
  | pulseNotSpecified
deriving DecidableEq, Repr

/-- Why a command has no meaning. -/
inductive Refusal where
  /-- Raised by an arm of exec whose command is not reached yet. Safe. -/
  | notModelled (mnemonic : String)
deriving DecidableEq, Repr

/-! ## Packets, flits, routers, NIs (chapter 03) -/

/-- A packet: the head-flit fields of Table 3.5, its data, and the model's own number for it. -/
structure Packet where
  /-- Model bookkeeping: unique number of the packet. A response keeps its request's number. -/
  pid : Nat := 0
  vc : Nat := 0
  dst : Nat := 0
  src : Nat := 0
  far : Bool := false
  farId : Nat := 0
  srcDev : Nat := 0
  route : Nat := 0
  urg : Nat := 0
  op : Op := .rd
  len : Nat := 0
  addr : Nat := 0
  kid : Nat := 0
  pageHint : Nat := 0
  debug : Bool := false
  dma : Bool := false
  sealedAttr : Bool := false
  tag : Nat := 0
  status : Status := .ok
  wait : Nat := 0
  flow : Nat := 0
  deadline : Nat := 0
  data : List Byte := []
  /-- Data flits whose POISON is set (R77). -/
  poison : List Nat := []
  /-- Initiator within the endpoint: engine index 0-3, 4 + i for mover channel i, 0 elsewhere. -/
  agent : Nat := 0
  /-- Number of the access the packet is a part of (R79). -/
  group : Nat := 0
  /-- Instant of presentation, for WAIT and RT (R156). -/
  presentedAt : Nat := 0
  /-- ORB held, for a request that needs one (R101). -/
  orb : Option Nat := none
  /-- HOPS of the link the packet came in by (R223), and the SET it travels in (R237). -/
  hops : Nat := 0
  set1 : Bool := false
  /-- Exit port of a packet that leaves the device, kept from when its reservation was asked for (R236, R237). -/
  exit : Option Nat := none
  /-- Source event of an event-record MSG (R13). -/
  ev : Option Nat := none
deriving DecidableEq, Repr

/-- A flit of a packet. A head flit carries the current head fields in `pkt`. -/
structure Flit where
  pkt : Packet := {}
  idx : Nat := 0
  isHead : Bool := true
  isLast : Bool := true
  poison : Bool := false
  /-- When it entered the buffer it is in; in a port's receive buffer its last symbol, in hundredths of a Braid cycle (R228). -/
  at_ : Nat := 0
  /-- When its present age began (R105); in a port's receive buffer its LEADER's last symbol. -/
  ageFrom : Nat := 0
deriving DecidableEq, Repr

/-- Where the flits on a link go. -/
inductive Hop where
  | input (router port : Nat)
  | ni (ep : Nat)
deriving DecidableEq, Repr

/-- A flit between an output and the next input. -/
structure Wire where
  hop : Hop := .ni 0
  flit : Flit := {}
  sentAt : Nat := 0
deriving DecidableEq, Repr

/-- A router (x, y), numbered 8x + y. Ports by their turn codes 1-7 (Table 3.7). -/
structure Router where
  /-- Input buffers: (input port, flit) in order of arrival (R83, R87). -/
  buf : List (Nat × Flit) := []
  /-- rr[o]: index of the last winning candidate, default 20 = (L2, VC3) (R106). -/
  rr : Tbl Nat := []
  /-- Packet in progress on output o: input port * 4 + VC (R84). -/
  busy : Tbl Nat := []
  /-- Credits taken of the buffer behind output o on VC v, key 4 o + v (R85). -/
  used : Tbl Nat := []
  /-- Credits to return upstream: input port, VC, and when the credit is there. -/
  owed : List (Nat × Nat × Nat) := []
  disabled : List Nat := []
  /-- Outputs to disable after the packet in progress (R128). -/
  goingDown : List Nat := []
  asleep : Bool := false
  /-- First arrival at a sleeping router (R131). -/
  wakingSince : Option Nat := none
  /-- When the pipeline last started after sleep: a flit that arrived before has its cycles counted from then (R131). -/
  pipeFrom : Nat := 0
  lastFlit : Nat := 0
  /-- Packets whose remaining flits are discarded (R127). -/
  dropping : List Nat := []
  /-- 0 POSTED_DISCARD, 1 WAKE, 2-8 PARITY_ERR of N E S W L0 L1 L2, 9 ROUTE_DROP, 10 URG15_GRANT (Table 3.15). -/
  ctr : Tbl Nat := []
deriving DecidableEq, Repr

/-- An outstanding response buffer (R101, R108). -/
structure Orb where
  index : Nat := 0
  pid : Nat := 0
  /-- Share of a quad NI: 0-3 engines, 4 mover (R256); 0 elsewhere. -/
  share : Nat := 0
  agent : Nat := 0
  group : Nat := 0
  dst : Nat := 0
  vc : Nat := 0
  probe : Bool := false
  far : Bool := false
  /-- None until the head flit has left (R109). -/
  deadline : Option Nat := none
  injectedAt : Nat := 0
deriving DecidableEq, Repr

/-- A destination whose packets are held on a VC until the PROBE answers (R98). -/
structure Hold where
  dst : Nat := 0
  vc : Nat := 0
  share : Nat := 0
deriving DecidableEq, Repr

/-- A network interface, keyed by endpoint ID. -/
structure Ni where
  /-- Entries that differ from the default table of R631. -/
  routes : Tbl Nat := []
  shadow : Tbl Nat := []
  /-- The shadow table has passed ROUTE_LOAD's checks (R96). -/
  shadowOk : Bool := true
  swapPending : Bool := false
  /-- (destination, VC, agent) of packets injected under the table in force (R98). -/
  sent : List (Nat × Nat × Nat) := []
  holds : List Hold := []
  /-- Requests waiting to leave, and responses waiting to be injected. -/
  queue : List Packet := []
  orbs : List Orb := []
  /-- Credits taken of the router's local input buffer, by VC. -/
  used : Tbl Nat := []
  /-- Local port out of service after a parity error (R128). -/
  down : Bool := false
  /-- VC2 flits delivered to a reach and not yet taken by it: at most 4 (R144). -/
  holding : List Packet := []
  /-- 0 TX_PKT 1 RX_PKT 2 LOCAL_FENCED 3 LOCAL_DECODE 4 LOCAL_ROUTE 5 ORB_TIMEOUT 6 LATE_RSP 7 LATE_RSP_TGT 8 POSTED_DISCARD 9 ORB_FULL (Table 3.15). -/
  ctr : Tbl Nat := []
deriving DecidableEq, Repr

/-- One part of a split access (R79). -/
structure Part where
  pid : Nat := 0
  off : Nat := 0
  len : Nat := 0
  answered : Bool := false
  status : Status := .ok
  wait : Nat := 0
  data : List Byte := []
  /-- Data flits that came with POISON (R371). -/
  poison : List Nat := []
deriving DecidableEq, Repr

/-- An access of an initiator, with its parts in address order (R79, R299). -/
structure Group where
  gid : Nat := 0
  ep : Nat := 0
  agent : Nat := 0
  op : Op := .rd
  presentedAt : Nat := 0
  parts : List Part := []
deriving DecidableEq, Repr

/-- The one completion an initiator gets for an access (R79). -/
structure Completion where
  gid : Nat := 0
  ep : Nat := 0
  agent : Nat := 0
  op : Op := .rd
  status : Status := .ok
  wait : Nat := 0
  data : List Byte := []
  /-- The parts, so that what arrived of a divided transfer is known (R299). -/
  parts : List Part := []
  rt : Nat := 0
  /-- When it reaches the initiator (R116, R156, R257). -/
  doneAt : Nat := 0
deriving DecidableEq, Repr

/-- A request delivered to an endpoint and not yet served. -/
structure Delivered where
  ep : Nat := 0
  pkt : Packet := {}
  /-- When it came: a wake of a memory counts from here (Table 9.4). -/
  came : Nat := 0
  /-- When the endpoint can use it: a quad that slept has woken by then. -/
  at_ : Nat := 0
  /-- Operating point of the quad when it was delivered (R160). -/
  op : Nat := 0
deriving DecidableEq, Repr

/-- Gate states (Table 3.12). -/
inductive GateState where
  | opened | fencing | drained | closed
deriving DecidableEq, Repr

/-- A weir gate (R118-R126). -/
structure Gate where
  st : GateState := .opened
  force : Bool := false
  since : Nat := 0
  /-- DRAIN_MAX in force when FENCING began (R591), in Braid cycles. -/
  limit : Nat := 3200000
  job : Option Nat := none
  timedOut : Bool := false
deriving DecidableEq, Repr

/-- A router maintenance sequence (Table 3.13). -/
structure Maint where
  router : Nat := 0
  action : Nat := 0
  port : Nat := 0
  force : Bool := false
  step : Nat := 1
  job : Nat := 0
  saved : Tbl (Tbl Nat) := []
deriving DecidableEq, Repr

/-- What a sideband token says (R237, R410). -/
inductive TokenKind where
  /-- Flits, 8 * port + LVC, packet. -/
  | request (flits lvc : Nat) (pid : Nat)
  | grant (pid : Nat)
  | counter (channel counter : Nat) (op : CounterOp)
deriving DecidableEq, Repr

/-- A token of the reservation sideband (R237). -/
structure Token where
  id : Nat := 0
  src : Nat := 0
  dst : Nat := 0
  kind : TokenKind := .grant 0
  /-- A request that has arrived and waits for room. -/
  waiting : Bool := false
deriving DecidableEq, Repr

/-- Braid. -/
structure Braid where
  routers : Tbl Router := []
  nis : Tbl Ni := []
  wires : List Wire := []
  inbox : List Delivered := []
  completions : List Completion := []
  groups : List Group := []
  /-- Next number for packets, groups and tokens. -/
  nextPid : Nat := 1
  ageQuantum : Nat := 64
  /-- Limits in microseconds (R108, R125). -/
  orbLocal : Nat := 1000
  orbFar : Nat := 10000
  drainMax : Nat := 2000
  /-- Endpoints whose fence bit is 1 (R120). -/
  fence : List Nat := []
  /-- A gate has changed since the bitmaps were last updated (R121). -/
  fenceStale : Bool := false
  gates : Tbl Gate := []
  maint : Option Maint := none
  tokens : List Token := []
  /-- Grants of exit reservations held: packet numbers (R237). -/
  granted : List Nat := []
  /-- Value of `time` at which BRAID_NOW was 0 (R134). -/
  epoch : Nat := 0
  /-- Discarded by a missing return route etc.: packets that end nowhere are only counted. -/
  commitJob : Option (List Nat) := none
deriving DecidableEq, Repr

/-! ## Sluice (chapter 04) -/

/-- A flow record (Table 4.3). -/
structure Flow where
  flow : Nat := 0
  src : Nat := 0
  dst : Nat := 0
  route : Nat := 0
  slots : List Nat := []
deriving DecidableEq, Repr

/-- A VC2 flit in a release queue (R139). -/
structure Released where
  ep : Nat := 0
  flow : Nat := 0
  addr : Nat := 0
  data : List Byte := []
  poison : Bool := false
  presentedAt : Nat := 0
  /-- A flit forwarded from a Delta port keeps its packet (R232). -/
  pkt : Option Packet := none
deriving DecidableEq, Repr

/-- Why a calendar is being installed. -/
inductive CommitKind where
  | command | suspend | resume
deriving DecidableEq, Repr

/-- Calendars. -/
structure Sluice where
  committed : List Flow := []
  shadow : List Flow := []
  shadowOk : Bool := false
  /-- The image the shadow calendar came from, for the standby (R242). -/
  shadowImg : List Byte := []
  suspended : Option (List Flow) := none
  /-- Boundary B of the commit in progress, as BRAID_NOW (R149). -/
  commitB : Option Nat := none
  commitKind : CommitKind := .command
  queue : List Released := []
  /-- Flits accepted in the slot of the present cycle by (ep): last acceptance. -/
  lastInject : Tbl Nat := []
deriving DecidableEq, Repr

/-! ## Ferry, Headwater, locks (chapter 02) -/

/-- Channel states (Table 2.7). -/
inductive ChState where
  | empty | posted | taken | done | aborted
deriving DecidableEq, Repr

/-- A Ferry channel (R37). -/
structure Channel where
  msg : Tbl Word := []
  resp : Tbl Word := []
  st : ChState := .empty
  wdraw : Bool := false
  seq : Nat := 0
  ackSeq : Nat := 0
  ackCode : Nat := 0
  postedAt : Nat := 0
  qwait : Nat := 0
  /-- When a POSTED message was last withdrawn: a take in that Braid cycle comes first (R45). -/
  withdrawnAt : Option Nat := none
deriving DecidableEq, Repr

/-- Reply of a command: return code and result bytes (R41). -/
structure Reply where
  code : Nat := 0
  result : List Byte := []
deriving DecidableEq, Repr

/-- The message Headwater is serving (R40, R42). -/
structure Serving where
  ch : Nat := 0
  opcode : Nat := 0
  seq : Nat := 0
  target : Nat := 0
  flags : Nat := 0
  len : Nat := 0
  /-- 56 payload bytes; bytes beyond LEN are 0 (R569). -/
  payload : List Byte := []
  qwait : Nat := 0
  reply : Option Reply := none
  /-- Work that must finish before FERRY_ACK (ROUTE_COMMIT, SLUICE_COMMIT, LANE_STATE ...). -/
  waitingFor : Nat := 0
  takenAt : Nat := 0
deriving DecidableEq, Repr

/-- An ACCEPTED command that has not ended (R48). -/
structure Job where
  id : Nat := 0
  ch : Nat := 0
  seq : Nat := 0
  opcode : Nat := 0
  obj : Nat := 0
  /-- FERRY_ACK of the command has been written (R48). -/
  acked : Bool := false
  /-- Final code and completion result, once the job has ended. -/
  ended : Option (Nat × List Byte) := none
  /-- TIMEBASE when it ended (R54). -/
  endTb : Nat := 0
  /-- Its command was withdrawn and is logged so (Table 2.11). -/
  withdrawn : Bool := false
deriving DecidableEq, Repr

/-- An entry of the command log (R54). -/
structure LogEntry where
  ch : Nat := 0
  opcode : Nat := 0
  seq : Nat := 0
  code : Nat := 0
  timebase : Nat := 0
deriving DecidableEq, Repr

/-- Ferry block and Headwater. -/
structure Ferry where
  chans : Tbl Channel := []
  serving : Option Serving := none
  lastDone : Nat := 127
  irq : Bool := false
  irqAt : Nat := 0
  /-- Channels to notify, with whether the notification is that of an EV445 and the Braid cycle it is owed from (Table 2.12). -/
  notify : List (Nat × Bool × Nat) := []
  jobs : List Job := []
  nextJob : Nat := 1
  log : List LogEntry := []
  /-- EV440 raised and no Headwater reset since (Table 2.15). -/
  ready : Bool := false
  resetting : Bool := true
  recovery : Bool := false
  /-- SYS_FW_ACTIVATE has returned DONE and firmware has not switched (R53). -/
  switchPending : Bool := false
  commitSvn : Bool := false
deriving DecidableEq, Repr

/-- A lock (R64-R70). Times in Braid cycles. -/
structure Lock where
  held : Bool := false
  owner : Nat := 0
  since : Nat := 0
  /-- Hold time run up to the last pause, and whether the timer is paused (R70). -/
  ran : Nat := 0
  paused : Bool := false
deriving DecidableEq, Repr

/-- The lock unit. -/
structure LockUnit where
  locks : Tbl Lock := []
  holdMax : Nat := 10000
  /-- The next conflict goes to the Braid port (R67). -/
  braidFirst : Bool := true
  /-- Braid cycle of the last access served: one a cycle (R67). -/
  lastAccess : Option Nat := none
  /-- The access of the Headwater port that lost a conflict: its lock, and the value when it is a write (R67). -/
  hwWaiting : Option (Nat × Option Nat) := none
  /-- What the last read of the Headwater port returned (R65). -/
  hwRead : Option Nat := none
deriving DecidableEq, Repr

/-- Host bridge registers (section 2.8). -/
structure HostBridge where
  tbHi : Nat := 0
  tbHiDebug : Nat := 0
  doorbell : Nat := 0
  /-- BAR2_APa: ENABLE and BASE. -/
  apertures : Tbl (Bool × Nat) := []
  /-- MSI-X messages sent, oldest first (R562). -/
  msixSent : List Nat := []
  /-- Vectors whose message the bridge has not sent yet, or keeps masked (R562). -/
  msixHeld : List Nat := []
  /-- Request TLPs received whole, each with the Braid cycle in which the bridge presents it at its NI (Table 4.12). -/
  inbound : List (Nat × Req) := []
  /-- Outcomes of BAR2 requests that never entered Braid: Unsupported Request (R63). -/
  unsupported : Nat := 0
  /-- Engine bookkeeping of completion messages to the partner, Stylus, remote devices and reaches (Table 2.13). -/
  ferryDone : List Nat := []
deriving DecidableEq, Repr

/-! ## Lanes (chapter 05) -/

/-- Lane power states (Table 5.7). -/
inductive LanePwr where
  | active | quiet | slackwater | unset
deriving DecidableEq, Repr

/-- Receiver states (Table 5.6). -/
inductive RxState where
  | off | pllWait | signalWait | cdrAcq | adaptInit | lockHunt | frameHunt | up
deriving DecidableEq, Repr

/-- Transmit and polarity settings (R183, Table 5.4). -/
structure TxSet where
  pre : Nat := 0
  post : Nat := 0
  swing : Bool := false
  txpre : Bool := false
  rxpre : Bool := false
  txinv : Bool := false
  rxinv : Bool := false
deriving DecidableEq, Repr

/-- A lane's eye scan (R199, Table 16.7). -/
structure Scan where
  phMin : Int := 0
  phMax : Int := 0
  vMin : Int := 0
  vMax : Int := 0
  eyes : Nat := 1
  k : Nat := 16
  result : Nat := 0
  job : Nat := 0
deriving DecidableEq, Repr

/-- A lane, 0-63 HS and 64-67 Twin (R167). -/
structure Lane where
  mode : Nat := 0
  pwr : LanePwr := .unset
  rx : RxState := .off
  energy : Bool := false
  blockLock : Bool := false
  fecAlign : Bool := false
  frozen : Bool := false
  margin : Nat := 0
  tx : TxSet := {}
  nextTx : Option TxSet := none
  ctleStart : Nat := 0
  coeffs : Coeffs := {}
  stored : Option Coeffs := none
  scramble : Bool := false
  rxFlow : Nat := 0
  rxDst : Nat := 0
  txSrc : Nat := 0
  marginWarn : Nat := 0
  corrWarn : Nat := 0
  fecCorr : Nat := 0
  fecUncorr : Nat := 0
  hdrErr : Nat := 0
  lockLoss : Nat := 0
  rxDrop : Nat := 0
  lastUp : Nat := 0
deriving DecidableEq, Repr

/-- A block a native receiver delivers, marked bad when its frame could not be corrected (R179), with the instant of its last symbol in hundredths of a Braid cycle (R228). -/
structure RxBlk where
  block : Block := {}
  bad : Bool := false
  at_ : Nat := 0
deriving DecidableEq, Repr

/-- The lane's data path and bookkeeping (R192-R205, R209). -/
structure LanePath where
  /-- Scrambler memories: the last 58 bits, as a number (R173, R176). -/
  scrTx : Nat := 0
  scrRx : Nat := 0
  /-- Precoder memories P: the last symbol sent, the last received (R182). -/
  preTx : Nat := 0
  preRx : Nat := 0
  /-- Port-stream blocks dealt to this lane for its next frame (section 6.2). -/
  txBlocks : List Block := []
  /-- Received bits from the present block or codeword boundary on (R192, R193). -/
  rxRaw : List Bool := []
  /-- Native frames delivered to the Delta logic and not yet joined to the port stream, each with the time of its last symbol; and that time of the last frame (R179, R219). -/
  rxQueue : List (Nat × List RxBlk) := []
  lastFrame : Nat := 0
  /-- Modes 4 and 5: blocks waiting for their codeword, codewords sent since the start, received since alignment-marker lock (R173). -/
  txGroup : List Block := []
  txCw : Nat := 0
  rxCw : Nat := 0
  /-- Symbols of the last frame or block sent (R181, R182). -/
  lastSymbols : List Nat := []
  transmitting : Bool := false
  /-- Receive stream buffer: bits of records not yet sent, and offset S (R203, R204). -/
  rxBits : List Bool := []
  rxBitsOff : Nat := 0
  /-- Transmit stream buffer, bits in arrival order (R205). -/
  txBits : List Bool := []
  goodHdr : Nat := 0
  /-- Validity of the last 256 headers, newest first (R192). -/
  hdrWindow : List Bool := []
  goodFrames : Nat := 0
  badFrames : Nat := 0
  /-- Corrected symbols in the present 1 ms window (R216). -/
  corrWin : Nat := 0
  lastLowered : Option Nat := none
  lastCtle : Option Nat := none
  scan : Option Scan := none
  /-- DIAG_LOOPBACK mode, PRBS, errors and bits (16 R598). -/
  loopMode : Nat := 0
  prbs : Bool := false
  prbsErr : Nat := 0
  prbsBits : Nat := 0
  /-- PRBS31 generator and checker: their last 31 bits, and how many the checker has taken in (R598). -/
  prbsTx : Nat := 0
  prbsRx : Nat := 0
  prbsHave : Nat := 0
  /-- Power state being entered or left (R209). -/
  moving : Option LanePwr := none
  /-- State held before STIPPLE (R212). -/
  before : Option LanePwr := none
  setJob : Option Nat := none
  /-- Consecutive frames whose tag failed (R239). -/
  tagFails : Nat := 0
deriving DecidableEq, Repr

/-- Quad PLL: off, starting or locked at a mode's rate (R189). -/
inductive PllState where
  | off | starting (mode : Nat) | locked (mode : Nat)
deriving DecidableEq, Repr

/-- An entry of the slot table (Table 5.4). -/
structure SlotEntry where
  slot : Nat := 0
  gen : Nat := 0
  lane : Nat := 0
  flags : Nat := 0
  pre : Nat := 0
  post : Nat := 0
  ctleStart : Nat := 0
deriving DecidableEq, Repr

/-- All lanes. -/
structure Lanes where
  lanes : Tbl Lane := []
  paths : Tbl LanePath := []
  /-- PLLs of lane quads 0-15 and of the Twin lanes (16). -/
  plls : Tbl PllState := []
  slotTable : List SlotEntry := []
  /-- Settings kept for a quad whose domain is off (R576). -/
  stored : Tbl TxSet := []
deriving DecidableEq, Repr

/-! ## Delta and Twin (chapter 06) -/

/-- Port states (Table 6.3). -/
inductive PortState where
  | disabled | waitLanes | init | up | down
deriving DecidableEq, Repr

/-- A link flit kept for replay (R227). -/
structure LinkFlit where
  seq : Nat := 0
  lvc : Nat := 0
  flit : Flit := {}
deriving DecidableEq, Repr

/-- What waits in a port's transmit stream: a block, or a link flit that is put into blocks, with its WAIT, when its LEADER is placed (R222, R228). -/
inductive TxItem where
  | block (b : Block)
  | flit (f : LinkFlit)
deriving DecidableEq, Repr

/-- A Delta port, or the Twin link as port 64. -/
structure Port where
  width : Nat := 0
  st : PortState := .disabled
  dateline : Bool := false
  encrypt : Bool := false
  bind : Option (Nat × Nat) := none
  flight : Nat := 0
  txSeq : Nat := 0
  rxSeq : Nat := 0
  /-- SEQ last acknowledged by the far end, and when it advanced. -/
  acked : Nat := 511
  ackAt : Nat := 0
  replay : List LinkFlit := []
  /-- Flits of the replay buffer still to resend. -/
  resend : List LinkFlit := []
  replays : Nat := 0
  txq : List (Nat × Flit) := []
  /-- Flits of granted packets still on their Braid leg, by LVC (R237). -/
  reserved : Tbl Nat := []
  /-- Credits left per LVC; default 0 until INIT (R225). -/
  credits : Tbl Nat := []
  rxBuf : List (Nat × Flit) := []
  freed : Tbl Nat := []
  nakSent : Bool := false
  ackPending : Bool := false
  nakPending : Bool := false
  initSeen : Bool := false
  tagFails : Nat := 0
  keysel : Nat := 0
  /-- The port stream: what waits to be sent, and what has been received in order (section 6.2). -/
  txStream : List TxItem := []
  rxStream : List RxBlk := []
deriving DecidableEq, Repr

/-- Twin roles (Table 6.12). -/
inductive Role where
  | unpaired | active | standbyHot | standbyStipple | fenced
deriving DecidableEq, Repr

/-- Mirror-window states (R243-R246, R595). -/
inductive WinState where
  | inactive | mirrored | tracked
deriving DecidableEq, Repr

/-- A mirror window. -/
structure Window where
  start : Nat := 0
  length : Nat := 0
  bitmap : Nat := 0
  st : WinState := .inactive
deriving DecidableEq, Repr

/-- A write forwarded to the partner (R243). -/
structure Mirrored where
  pkt : Packet := {}
  channel : Nat := 0
  addr : Nat := 0
  data : List Byte := []
  sent : Bool := false
  /-- A piece of a page that RESYNC copies (R245). -/
  copy : Bool := false
  /-- When the channel accepted it, its fixed part without M, and an ATOM's old value. -/
  at_ : Nat := 0
  t : Nat := 20
  old : List Byte := []
deriving DecidableEq, Repr

/-- A message Headwater or the Ferry block sends over the Twin link: an item of mirrored state (Table 6.10), or the completion of the partner's command with its SEQ and code (Table 2.13). -/
inductive TwinMsg where
  | item (m : MirrorItem)
  | completion (seq code : Nat)
deriving DecidableEq, Repr

/-- The Twin endpoint. -/
structure Twin where
  role : Role := .unpaired
  member : Nat := 0
  pairId : Nat := 0
  encrypt : Bool := false
  mirrorKeys : Bool := false
  epoch : Nat := 0
  hbSeq : Nat := 0
  armed : Bool := false
  armedAt : Nat := 0
  lastSent : Nat := 0
  lastHb : Nat := 0
  missed : Nat := 0
  handover : Bool := false
  twinHb : Bool := false
  lastEdge : Nat := 0
  edges : Nat := 0
  m : Nat := 0
  /-- Requested role of the pairing in progress, its job and start. -/
  pairing : Option (Nat × Nat × Nat) := none
  partnerActiveAt : Option Nat := none
  partnerHot : Bool := false
  windows : Tbl Window := []
  /-- Dirty 4 KiB pages by device address / 4096 (R245). -/
  dirty : List Nat := []
  queue : List Mirrored := []
  lagging : Bool := false
  resyncJob : Option Nat := none
  copied : List Nat := []
  /-- Answers of the partner that have come, by channel, oldest first (R243). -/
  answers : List (Nat × Status) := []
  /-- Messages sent over the link: an item stays until the partner says whether it was applied (R242). -/
  outbox : List TwinMsg := []
  /-- A mirrored calendar that waits for the commit before it (R242). -/
  mirrorCal : Option (List Byte) := none
deriving DecidableEq, Repr

/-- Delta ports and far routing. -/
structure Delta where
  ports : Tbl Port := []
  /-- 0 TX_FLIT 1 RX_FLIT 2 CRC_ERR 3 BAD_BLOCK 4 REPLAY 5 TAG_FAIL 6 FAR_UNREACH, key 8 port + i (R253). -/
  ctr : Tbl Nat := []
  deviceId : Nat := 0
  /-- Far table: device -> entry with VALID in bit 7 (R231); and the table before the last load, for NIs not yet swapped (R236). -/
  far : Tbl Nat := []
  farOld : Tbl Nat := []
  farPending : List Nat := []
deriving DecidableEq, Repr

/-! ## Engines (chapter 07) -/

/-- ENG_STAT.STATE (Table 7.14). -/
inductive EngState where
  | reset | running | stopped | halted | debug | wfi
deriving DecidableEq, Repr

/-- Where a result goes. -/
inductive Dest where
  | g (n : Nat)
  | vreg (n : Nat)
  | vlane (n i : Nat)
  | acc (c : Nat)
  | agu (n : Nat)
  /-- Special register. -/
  | sr (n : Nat)
  /-- `count` path metrics from `first` in a bank (R277, R280). -/
  | pms (bank first count : Nat)
  | nowhere
deriving DecidableEq, Repr

/-- A result in flight (R262-R265): bundles until it is usable, and its order of issue. -/
structure InFlight where
  left : Nat := 1
  dest : Dest := .nowhere
  val : BitVec 160 := 0
  /-- Issue order: bundle count * 4 + slot, so that the later wins (R265). -/
  order : Nat := 0
  /-- The operation clamped: ST.SAT is set with the result (R276). -/
  sat : Bool := false
  poisoned : Bool := false
  /-- Bundle and address of a load, for POISON (R293), and whether that bundle was a delay slot. -/
  pc : Nat := 0
  addr : Nat := 0
  dslot : Bool := false
deriving DecidableEq, Repr

/-- A ticketed transfer with the operands it read at issue (R299). -/
structure Xfer where
  t : Nat := 0
  get : Bool := false
  addr : Nat := 0
  far : Bool := false
  dev : Nat := 0
  localAddr : Nat := 0
  len : Nat := 0
  hint : Nat := 0
  bulk : Bool := false
deriving DecidableEq, Repr

/-- Why an engine is frozen (R266). -/
inductive Freeze where
  /-- RLD or RATOM: its access, destination register, width, bundle, address, order of issue, and whether the bundle was a delay slot. -/
  | remote (gid reg : Nat) (wide : Bool) (pc addr order : Nat) (dslot : Bool)
  | waitt (t : Nat)
  /-- RGET or RPUT naming a busy ticket. -/
  | ticket (x : Xfer)
  /-- QMGO while the channel runs, with its descriptor. -/
  | mover (desc : Nat)
deriving DecidableEq, Repr

/-- A ticket (R299). -/
structure Ticket where
  busy : Bool := false
  status : Status := .ok
  wait : Nat := 0
  /-- RGET: local address of the data; the group the ticket waits for. -/
  gid : Nat := 0
  get : Bool := false
  localAddr : Nat := 0
  len : Nat := 0
deriving DecidableEq, Repr

/-- A mover piece (R309). -/
structure Piece where
  gid : Nat := 0
  src : Nat := 0
  dst : Nat := 0
  len : Nat := 0
  writing : Bool := false
  row : Nat := 0
deriving DecidableEq, Repr

/-- Mover channel states (Table 7.17). -/
inductive QmState where
  | idle | run | done | error | aborted
deriving DecidableEq, Repr

/-- A quad-mover channel (R308-R311). -/
structure Mover where
  st : QmState := .idle
  desc : Nat := 0
  /-- Descriptor being performed (Table 7.11). -/
  src : Nat := 0
  dst : Nat := 0
  xlen : Nat := 0
  ycnt : Nat := 0
  flags : Nat := 0
  sstride : Int := 0
  dstride : Int := 0
  next : Nat := 0
  loaded : Bool := false
  /-- Next byte to copy: row and column. -/
  row : Nat := 0
  col : Nat := 0
  rowsDone : Nat := 0
  pieces : List Piece := []
  /-- Rows with a piece that was not written OK: they are not completed (R310). -/
  badRows : List Nat := []
  status : Status := .ok
  maxWait : Nat := 0
  abort : Bool := false
  paused : Bool := false
deriving DecidableEq, Repr

/-- Exceptions found but not yet entered (R291-R294). -/
structure PendExc where
  cause : Nat := 0
  slot : Nat := 0
  status : Nat := 0
  pc : Nat := 0
  epc : Nat := 0
  addr : Nat := 0
  dslot : Bool := false
deriving DecidableEq, Repr

/-- An engine's register files (R260, R261). Keys: g n; v n; a 4 c + i; AGU 8 K + i; special S. -/
structure EngRegs where
  g : Tbl Word := []
  v : Tbl (BitVec 64) := []
  a : Tbl (BitVec 40) := []
  /-- Order of issue of the operation whose value an accumulator holds (R264). -/
  accAt : Tbl Nat := []
  agu : Tbl Word := []
  sr : Tbl Word := []
  /-- ACS path metrics, key 256 bank + n (R277). -/
  pm : Tbl (BitVec 16) := []
  decision : BitVec 64 := 0
  /-- BEXP.SH, COUNT and the largest width W of the block (R275). -/
  bexpSh : Int := 0
  bexpCount : Nat := 0
  bexpW : Nat := 0
  cyc : Nat := 0
  cycPhase : Nat := 0
  cycHi : Nat := 0
  cycHiDebug : Nat := 0
  rlast : Nat := 0
deriving DecidableEq, Repr

/-- A word of engine memory written in an engine cycle, with what it held before: a read by the other port in that cycle still gets it (R303). -/
structure PortWrite where
  at_ : Nat := 0
  cyc : Nat := 0
  word : Nat := 0
  old : List Byte := []
  bits : Nat := 0
  poisoned : Bool := false
deriving DecidableEq, Repr

/-- A Millrace engine. -/
structure Engine where
  r : EngRegs := {}
  st : EngState := .reset
  pc : Nat := 0
  excHalt : Bool := true
  runBit : Bool := false
  start : Nat := 0
  excInfo : Nat := 0
  excPc : Nat := 0
  excAddr : Nat := 0
  /-- Freeze of the bundle issued last by its slot Y, and by its slot X (R266). -/
  frozen : Option Freeze := none
  frozenX : Option Freeze := none
  /-- Engine cycle of the last bundle issued, of the last decision write, and of the freeze a decision write makes (R254, R279). -/
  lastIssue : Option Nat := none
  decAt : Option Nat := none
  stall : Option Nat := none
  /-- Words that port A and port B wrote last (R303). -/
  wroteA : List PortWrite := []
  wroteB : List PortWrite := []
  inFlight : List InFlight := []
  issued : Nat := 0
  /-- Branch taken or not, with its target and delay slots left (R282). -/
  branch : Option (Option Nat × Nat) := none
  /-- ST that a RETI or RETE restores when it lands. -/
  retSt : Option Nat := none
  /-- Decision words waiting for port A, oldest first: bundles until it is due, address, word (R279). -/
  decWords : List (Nat × Nat × BitVec 64) := []
  tickets : Tbl Ticket := []
  pend : Option PendExc := none
  stopReq : Bool := false
  haltReq : Bool := false
  stepping : Bool := false
  mover : Mover := {}
deriving DecidableEq, Repr

/-- An engine quad. -/
structure Quad where
  /-- When work last reached the quad: it sleeps from then on while idle (R22). -/
  lastBusy : Nat := 0
  /-- When the quad is awake after work last reached it asleep (Table 4.8). -/
  wakeAt : Nat := 0
  /-- When the quad last began to wake. -/
  woke : Nat := 0
  op : Nat := 3
deriving DecidableEq, Repr

/-- All engines. -/
structure Engines where
  eng : Tbl Engine := []
  quads : Tbl Quad := []
  /-- Completions owed to engines reset meanwhile: groups to discard (R313). -/
  dead : List Nat := []
  /-- PLL_ME runs, or has been started: then it is locked from `pllMeAt` on (Table 1.7). -/
  pllMe : Bool := true
  pllMeAt : Nat := 0
deriving DecidableEq, Repr

/-! ## DRAM (chapter 08) -/

/-- A channel arrangement (Table 8.2). Timing in nCK. -/
structure Arrange where
  rate : Nat := 20
  width : Nat := 8
  density : Nat := 16
  ranks : Nat := 1
  tCL : Nat := 64
  tRCD : Nat := 64
  tRP : Nat := 64
  tRAS : Nat := 0
  tRC : Nat := 0
  tWR : Nat := 0
  tRFC : Nat := 0
  tRFM : Nat := 0
  tREFI : Nat := 0
  ageCap : Nat := 1000
deriving DecidableEq, Repr

/-- What a queue entry does. -/
inductive DKind where
  | read | write | atom | scrub | convert | mergeFlush
deriving DecidableEq, Repr

/-- A queue entry: one line of a request (R325). -/
structure DEntry where
  pid : Nat := 0
  kind : DKind := .read
  /-- Channel-local line number, and its device address. -/
  line : Nat := 0
  addr : Nat := 0
  kid : Nat := 0
  hint : Nat := 0
  src : Nat := 0
  data : List Byte := []
  /-- Byte-valid mask of a partial write, bit j for byte j. -/
  mask : Nat := 0
  poison : Bool := false
  at_ : Nat := 0
  untracked : Bool := false
  /-- Position of the line within the request. -/
  part : Nat := 0
  /-- ATOM operands. -/
  off : Nat := 0
  width : Nat := 0
  /-- Number of its acceptance at the channel. -/
  seq : Nat := 0
  /-- A read: the bytes of `data` that the writes accepted before it leave over the stored line (R326, R327). -/
  cover : Nat := 0
  /-- The requester's packet came from another device (R337). -/
  far : Bool := false
  /-- Braid cycles that reopening its row takes beyond its fixed part (R332). -/
  extra : Nat := 0
deriving DecidableEq, Repr

/-- A line being read: what was read, for DRAM_READ_COMPLETE. -/
structure DAccess where
  e : DEntry := {}
  /-- KID chosen at issue (R399, R422). -/
  kid : Nat := 0
  t : Nat := 0
deriving DecidableEq, Repr

/-- Answers gathered for a request of several lines. -/
structure DPending where
  pid : Nat := 0
  left : Nat := 0
  status : Status := .ok
  data : List (Nat × List Byte) := []
  poison : List Nat := []
  pkt : Packet := {}
  at_ : Nat := 0
  t : Nat := 0
  extra : Nat := 0
  sealedOk : Bool := false
deriving DecidableEq, Repr

/-- An open row: row number, policy hint, last request (R331). -/
structure OpenRow where
  row : Nat := 0
  hint : Nat := 0
  last : Nat := 0
  /-- Closed by refresh, RFM or retraining while opened by PAGE_HINT 1 (R332). -/
  shut : Bool := false
  /-- PAGE_HINT of the request that opened the row (R332); a precharge put off until the next request to it (Table 8.6). -/
  opener : Nat := 0
  closing : Bool := false
deriving DecidableEq, Repr

/-- Row-disturbance settings (Table 8.7). -/
structure Hammer where
  prob : Nat := 10
  actMax : Nat := 8192
  actGap : Nat := 1000
deriving DecidableEq, Repr

/-- Channel power (Table 8.14 PWR). -/
inductive DPwr where
  | active | selfRefresh | training | untrained
deriving DecidableEq, Repr

/-- A DRAM channel. -/
structure Chan where
  arr : Option Arrange := none
  active : Option Arrange := none
  trained : Bool := false
  everTrained : Bool := false
  pwr : DPwr := .untrained
  rq : List DEntry := []
  wq : List DEntry := []
  merge : List DEntry := []
  inProgress : List DAccess := []
  pending : List DPending := []
  cam : Nat := 0
  /-- Open rows by bank number. -/
  rows : Tbl OpenRow := []
  inOrder : List Nat := []
  writeFirst : Bool := false
  /-- Writes to mirror windows the Twin endpoint cannot take (R329). -/
  hold : List Packet := []
  hammer : Hammer := {}
  nextHammer : Option Hammer := none
  /-- Activates by requester in this window; 256 stands for FAR requests (R337). -/
  acts : Tbl Nat := []
  throttled : List Nat := []
  lastThrottledAct : Tbl Nat := []
  /-- Activates since the last RFM, and draws deferred, by bank (R336). -/
  sinceRfm : Tbl Nat := []
  rfmDue : List Nat := []
  owedRefresh : Nat := 0
  tempHigh : Bool := false
  /-- µs; 0 never (R340). -/
  srIdle : Nat := 64
  keep : Nat := 255
deriving DecidableEq, Repr

/-- More of a DRAM channel. -/
structure ChanX where
  lastReq : Nat := 0
  /-- Eighths lost by the last self-refresh exit (R342). -/
  lost : Nat := 0
  /-- Eighths whose lines not written since hold zeros with a valid Strong code (R343). -/
  zeroed : Nat := 0
  drift : Nat := 0
  driftRaised : Bool := false
  flip : Option (List (Nat × Nat) × Option Nat) := none
  flipAddr : Nat := 0
  ctr : Tbl Nat := []
  /-- Boundary B_c by tideline (10 R422). -/
  bounds : Tbl Nat := []
  /-- Counter buffer: verified counter blocks, pages (10 R410). -/
  ctrBuf : List Nat := []
  frozenPages : List Nat := []
  shareReadOnly : Bool := false
  /-- Lines accepted in the 1 ms window, and its Braid cycles with the queues above 75 % (R360). -/
  linesWin : Nat := 0
  busyWin : Nat := 0
  /-- Eighths that the self-refresh in progress keeps: KEEP at its entry (R342). -/
  srKeep : Nat := 255
  initLostJob : Option Nat := none
  trainJob : Option Nat := none
  /-- Counter subtrees lost and not yet re-initialized, by counter number level * 2^24 + index (10 R415). -/
  lostPages : List Nat := []
  /-- Counter-buffer entries changed since they were fetched (10 R410). -/
  ctrDirty : List Nat := []
  /-- Number of the next acceptance. -/
  nextSeq : Nat := 1
  /-- Last refresh; start of the activate window; start of the imbalance window, with the lines of the one before. -/
  lastRef : Nat := 0
  actWin : Nat := 0
  imbAt : Nat := 0
  linesLast : Nat := 0
  /-- Since when the mirror hold is full (R362). -/
  holdFull : Option Nat := none
  /-- Last retraining update (R347). -/
  lastDqs : Nat := 0
deriving DecidableEq, Repr

/-- A region of the DRAM map (Table 8.4), sizes in GiB, CH_BASE in MiB. -/
structure Region where
  base : Nat := 0
  size : Nat := 0
  first : Nat := 0
  count : Nat := 1
  grain : Nat := 12
  hash : Bool := false
  chBase : Nat := 0
deriving DecidableEq, Repr

/-- A Scour walk (R357). -/
structure Walk where
  memory : Nat := 0
  rate : Nat := 1
  start : Nat := 0
  length : Nat := 0
  pos : Nat := 0
  skipped : Nat := 0
  last : Nat := 0
deriving DecidableEq, Repr

/-- A Scour pass (R358, Table 8.12). -/
structure Pass where
  memory : Nat := 0
  rate : Nat := 0
  start : Nat := 0
  length : Nat := 0
  pos : Nat := 0
  resultAddr : Nat := 0
  read : Nat := 0
  corrected : Nat := 0
  uncorr : Nat := 0
  poisoned : Nat := 0
  failing : Nat := 0
  skipped : Nat := 0
  addrs : List Nat := []
  job : Nat := 0
  last : Nat := 0
deriving DecidableEq, Repr

/-- All DRAM channels, the map and Scour. -/
structure Dram where
  chans : Tbl Chan := []
  chansX : Tbl ChanX := []
  map : List Region := []
  mapOld : List Region := []
  mapPending : List Nat := []
  walks : Tbl Walk := []
  pass : Option Pass := none
deriving DecidableEq, Repr

/-! ## Memories (chapter 09) and crypto (chapter 10) -/

/-- Stored form of a DRAM line: how many flips, poison marker, the key and address it was written with, and its sealed counters (R349-R355, R398, R406). -/
structure LineTag where
  /-- Flipped bytes: (index, mask). -/
  errs : List (Nat × Nat) := []
  poisoned : Bool := false
  key : List Byte := []
  addr : Nat := 0
  sealedLine : Bool := false
  major : Nat := 0
  minor : Nat := 0
  macKey : List Byte := []
  /-- Contents undefined: first training or lost in self-refresh. -/
  undef : Bool := false
deriving DecidableEq, Repr

/-- Stored form of an on-chip 64-bit word: flipped bits and poison (R368, R371). -/
structure WordTag where
  bits : Nat := 0
  poisoned : Bool := false
deriving DecidableEq, Repr

/-- A Basin merge entry (R372). -/
structure BMerge where
  word : Nat := 0
  data : List Byte := []
  mask : Nat := 0
  poison : Bool := false
  at_ : Nat := 0
deriving DecidableEq, Repr

/-- A Basin group (R366, R383, R384). -/
structure BGroup where
  queue : List Delivered := []
  merge : List BMerge := []
  repair : Nat := 0
  errAddr : Nat := 0
  ctr : Tbl Nat := []
  lastReq : Nat := 0
  /-- When each bank is free again (R365). -/
  free : Tbl Nat := []
  /-- A merge flush has been performed since the last start (R366). -/
  flushed : Bool := false
deriving DecidableEq, Repr

/-- Memory power states (Table 9.4). -/
inductive MemPwr where
  | on | retention | init | off
deriving DecidableEq, Repr

/-- Port-B request waiting to retry collided words (R304). -/
structure BRetry where
  pid : Nat := 0
  word : Nat := 0
  attempts : Nat := 1
  /-- Braid cycle of the first attempt. -/
  at_ : Nat := 0
deriving DecidableEq, Repr

/-- Memories. -/
structure Mems where
  /-- Physical byte address -> byte, canonical form (Memory.wf). -/
  mem : List Host.Cell := []
  lines : Tbl LineTag := []
  words : Tbl WordTag := []
  groups : Tbl BGroup := []
  /-- Power of Basin groups (0-7) and engine-memory quads (8 + q). -/
  pwr : Tbl MemPwr := []
  retries : List BRetry := []
  /-- Units whose words were lost with VCC_RET and not written since (R382). -/
  lost : List Nat := []
deriving DecidableEq, Repr

/-- Key-slot states (Table 10.9). -/
inductive KeyState where
  | empty | installed | retiring
deriving DecidableEq, Repr

/-- A key slot. -/
structure KeySlot where
  st : KeyState := .empty
  sealedMode : Bool := false
  /-- K1 and K2, 64 bytes; in sealed mode the MAC key follows (Table 10.8). -/
  key : List Byte := []
  job : Option Nat := none
deriving DecidableEq, Repr

/-- Tideline states (Table 10.11). -/
inductive TideState where
  | unbound | running | paused | done
deriving DecidableEq, Repr

/-- A tideline (R421-R426). -/
structure Tide where
  st : TideState := .unbound
  old : Nat := 0
  new : Nat := 0
  rate : Nat := 1
  start : Nat := 0
  length : Nat := 0
  boundary : Nat := 0
  poisoned : Nat := 0
  unwritten : Nat := 0
  job : Nat := 0
  last : Nat := 0
deriving DecidableEq, Repr

/-- A page's counter block (R406). -/
structure PageCtr where
  major : Nat := 0
  minors : Tbl Nat := []
deriving DecidableEq, Repr

/-- A link key slot (R431, R432). -/
structure LinkSlot where
  key : List Byte := []
  salt : Nat := 0
  fctr : Nat := 0
  lastUse : Option Nat := none
deriving DecidableEq, Repr

/-- A protected range (R428). -/
structure Protect where
  enable : Bool := false
  lock : Bool := false
  start : Nat := 0
  length : Nat := 0
deriving DecidableEq, Repr

/-- Encryption and the secure bank. -/
structure Crypto where
  slots : Tbl KeySlot := []
  tides : Tbl Tide := []
  /-- Sealed window: START, LENGTH and whether it is ready (R402). -/
  window : Option (Nat × Nat × Bool) := none
  sealJob : Option Nat := none
  /-- Counter blocks by channel * 2^22 + page of the channel's share. -/
  pages : Tbl PageCtr := []
  /-- Root entry by 16 copy + channel, three copies (R408, R412). -/
  roots : Tbl Nat := []
  rootsSaved : Tbl Nat := []
  /-- Counter cache: counter number -> value, and which entries are dirty (R410). -/
  cache : Tbl Nat := []
  cacheDirty : List Nat := []
  /-- Counters in the tree lines of the channels' components, by the same numbers: 2^32 channel + 2^24 level + index (R403). -/
  tree : Tbl Nat := []
  /-- Key slots of links: key 4 link + 2 dir + slot. -/
  linkSlots : Tbl LinkSlot := []
  /-- Links told to switch at the next frame boundary (R240). -/
  switching : List Nat := []
  ranges : Tbl Protect := []
  /-- Tree key of the sealed window, drawn by SEAL_WINDOW (R402): a free value. -/
  treeKey : Nat := 0
  /-- Braid cycle in which the key manager last served a counter token: it serves one in each (R410). -/
  tokenAt : Option Nat := none
  /-- Held half of KM_RNG_OUT (14 R545). -/
  rngHeld : Nat := 0
  /-- A zeroization since the last device reset: image key and unique-key derivative are gone (R389). -/
  zeroized : Bool := false
  /-- A trigger has come and zeroization has not run yet: 1 tamper, 2 glitch, 3 life cycle (R387). -/
  trigger : Option Nat := none
deriving DecidableEq, Repr

/-! ## Fabric (chapter 11) -/

/-- Reach states (Table 11.8). -/
inductive ReachState where
  | off | empty | loading | isolating | isolated | active | invalid
deriving DecidableEq, Repr

/-- Why a reach is being isolated. -/
inductive IsoFor where
  | isolate | load | reset | reload | policy
deriving DecidableEq, Repr

/-- A reach (R456, R471). -/
structure Reach where
  st : ReachState := .empty
  reason : Nat := 0
  failFrame : Nat := 0
  designId : Nat := 0
  encrypted : Bool := false
  loadedAt : Nat := 0
  benign : Nat := 0
  critical : Nat := 0
  uncorr : Nat := 0
  loads : Nat := 0
  /-- Recorded SOURCE (0 device address, 1 flash) and ADDR. -/
  recorded : Option (Nat × Nat) := none
  hatch : Option Nat := none
  isoFor : IsoFor := .isolate
  isoJob : Option Nat := none
  /-- RST_N asserted for a policy reset, and since when (R461). -/
  rstSince : Option Nat := none
  /-- RST_N asserted since this cycle by an exit from STIPPLE, for 10 µs (Table 13.7). -/
  rstHeld : Option Nat := none
  /-- State to restore after a policy reload (Table 11.15). -/
  priorIsolated : Bool := false
  regionalClocks : Bool := false
  stage1 : Bool := true
  stage2 : Bool := true
deriving DecidableEq, Repr

/-- A load in progress (R449, R456). -/
structure Load where
  /-- Reach, or 31 for a full image. -/
  target : Nat := 0
  full : Bool := false
  source : Nat := 0
  addr : Nat := 0
  release : Bool := false
  force : Bool := false
  job : Option Nat := none
  policy : Bool := false
  /-- 0 first fabric image, 1 second, none for a commanded load. -/
  boot : Option Nat := none
  started : Bool := false
  length : Nat := 0
  encrypted : Bool := false
  designId : Nat := 0
  shellId : Nat := 0
  /-- Offset of the next record in the body, without the KEYROLL records that open segments. -/
  pos : Nat := 0
  /-- Segments of an encrypted image entered so far (R447). -/
  segs : Nat := 0
  plates : Tbl (BitVec 4096) := []
  frames : Nat := 0
  written : List Nat := []
  ended : Bool := false
  failed : Option (Nat × Nat) := none
  /-- Since when the target's frames are written: from the records, or with zeros after a failure (R448, R458). -/
  since : Nat := 0
deriving DecidableEq, Repr

/-- Scrub settings (Table 11.14). -/
structure ScrubCfg where
  passMs : Nat := 25
  enable : Bool := true
  policy : Nat := 0x55555555
deriving DecidableEq, Repr

/-- Scrubber (R463-R465). -/
structure Scrub where
  cfg : ScrubCfg := {}
  next : Option ScrubCfg := none
  started : Nat := 0
  /-- Frames still to read in the present pass. -/
  reading : Bool := false
  frame : Nat := 0
  shellPos : Nat := 0
  shellLeft : Nat := 0
  /-- Corrected word waiting for its hatch bit: reach, frame index, word. -/
  judging : Option (Nat × Nat × Nat) := none
deriving DecidableEq, Repr

/-- The fabric. -/
structure Fabric where
  /-- Logic frames as loaded, by frame address; an unlisted frame is zero. -/
  frames : Tbl (BitVec 4096) := []
  /-- Block RAM contents as the init frames wrote them, by frame address; an unlisted frame is zero (R441). -/
  bram : Tbl (BitVec 4096) := []
  /-- Flipped bits of logic frames that readback could not correct (R464). -/
  upsets : Tbl (List Nat) := []
  reaches : Tbl Reach := []
  load : Option Load := none
  /-- Policy reloads waiting (R469). -/
  reloads : List Nat := []
  cfgDone : Bool := false
  cfgErr : Bool := false
  shellId : Nat := 0
  scrub : Scrub := {}
  /-- Flash read stream position of CFG_XSPI_RD (14 R545). -/
  xspiPos : Nat := 0
  /-- Shell drives GPIO[15:12] as outputs (14 R549). -/
  gpioDriven : Bool := false
  initialRunning : Bool := false
deriving DecidableEq, Repr

/-! ## Backwater (chapter 12) -/

/-- Frame lock states (Table 12.2). -/
inductive BwState where
  | uninit | hunt | locked
deriving DecidableEq, Repr

/-- Source of a destination: an input slot or a receive channel (R487). -/
structure BwConn where
  dst : Nat := 0
  dstBraid : Bool := false
  src : Nat := 0
  srcBraid : Bool := false
  disconnect : Bool := false
deriving DecidableEq, Repr

/-- Pending changes of one BW_CONNECT (R488). -/
structure BwBatch where
  conns : List BwConn := []
  job : Nat := 0
  at_ : Nat := 0
deriving DecidableEq, Repr

/-- Backwater. -/
structure Backwater where
  st : BwState := .uninit
  source : Nat := 0
  txBraid : Bool := false
  txAddr : Nat := 0
  mframe : Nat := 0
  mfSet : Bool := false
  frameStart : Nat := 0
  /-- HUNT: a sync has been taken. -/
  synced : Bool := false
  /-- LOCKED: a misplaced sync has come in the present frame. -/
  misplaced : Bool := false
  /-- The frame that begins next is frame 0 (R477). -/
  mfZero : Bool := false
  /-- BW_CLK has been lost: outputs high-impedance until LOCKED (Table 12.2). -/
  clockLost : Bool := false
  badSyncs : Nat := 0
  syncErr : Nat := 0
  lateFrame : Nat := 0
  lateWrite : Nat := 0
  slot0 : Tbl Byte := []
  conns : List BwConn := []
  batches : List BwBatch := []
  /-- The last whole input frame, by slot number, and the connections that govern it (R485, R488). -/
  in1 : Tbl Byte := []
  conns1 : List BwConn := []
  /-- Connections that govern the output frame being sent. -/
  conns2 : List BwConn := []
  /-- Output bytes of the frame being sent, by output slot number. -/
  out : Tbl Byte := []
  txChan : Tbl Byte := []
  txPending : Bool := false
  ring : Tbl Byte := []
  /-- Ring bytes written in their window and not yet consumed. -/
  ringWritten : List Nat := []
deriving DecidableEq, Repr

/-- Backwater, continued. -/
structure BackwaterX where
  /-- The ring frame of the present output frame has been consumed (R491). -/
  consumed : Bool := false
  /-- Multiframe number of the input frame whose transmit bytes wait (R489). -/
  txFrame : Nat := 0
  lockedAt : Nat := 0
  initJob : Option Nat := none
  initAt : Nat := 0
deriving DecidableEq, Repr

/-! ## Power, time (chapter 13) -/

/-- Device states (Table 13.2). -/
inductive DevState where
  | active | trim | doze | stipple
deriving DecidableEq, Repr

/-- A sleep entry in progress (Table 13.4). -/
structure Entry where
  target : DevState := .doze
  /-- 1 voting, 2 committed, 3 in retention. -/
  step : Nat := 1
  /-- Domains that have voted yes, in order. -/
  agreed : List Nat := []
  /-- Domains that refused, with the cause: 1 a condition of Table 13.5, 2 NO_VOTE. -/
  refused : List (Nat × Nat) := []
  /-- A1 has passed: the calendar is being suspended (R155). -/
  past : Bool := false
  /-- Abort point at which a wake event aborts the entry: 1 to 3; 0 none (R503). -/
  wakeAt : Nat := 0
  job : Nat := 0
  since : Nat := 0
  emulated : Bool := false
deriving DecidableEq, Repr

/-- A Stipple entry (Table 13.9). -/
structure StipEntry where
  source : Nat := 0
  index : Nat := 0
  n : Nat := 1
  low : Int := 0
  high : Int := 0
  hyst : Nat := 0
  violating : Bool := false
  count : Nat := 0
deriving DecidableEq, Repr

/-- A Stipple program (Table 13.8). -/
structure StipProg where
  periodMs : Nat := 1
  entries : List StipEntry := []
deriving DecidableEq, Repr

/-- A DVFS command being performed (R513, R514). -/
structure Dvfs where
  /-- Quads named that are off: they take the point when the change ends (R513, R515). -/
  later : List Nat := []
  quads : List Nat := []
  op : Nat := 0
  job : Nat := 0
  /-- New voltage commanded, in mV, when one is needed. -/
  volt : Option Nat := none
  pgAt : Option Nat := none
  /-- Whether the PMC has begun it, and when. -/
  begun : Option Nat := none
deriving DecidableEq, Repr

/-- A watchdog: TIMEOUT and count in slow ticks, GRACE in ms (R519-R522). -/
structure Wdt where
  action : Nat := 0
  timeout : Nat := 0
  grace : Nat := 100
  armed : Bool := false
  count : Nat := 0
  warned : Bool := false
  paused : Bool := false
  kicked : Bool := false
deriving DecidableEq, Repr

/-- Power. -/
structure Power where
  /-- Domains that are on. -/
  on : Tbl Bool := []
  retIdle : Tbl Nat := []
  dev : DevState := .active
  prev : DevState := .active
  entry : Option Entry := none
  trimMask : List Nat := []
  trimJob : Option Nat := none
  trimFailed : Bool := false
  sleepJob : Option Nat := none
  wakeAfter : Nat := 0
  sleptAt : Nat := 0
  wakeSrc : Option WakeSource := none
  wakeEntries : List Nat := []
  emulated : Bool := false
  /-- The exit from STIPPLE is at step 6 of Table 13.7: it waits for the suspended calendar (R155). -/
  resuming : Bool := false
  prog : Option StipProg := none
  /-- Slow tick at which the present Stipple period began (R509). -/
  lastPeriod : Nat := 0
  vccMe : Nat := 620
  pmbus : Option Nat := none
  dvfs : List Dvfs := []
  tripped : Bool := false
  sensors : Tbl Int := []
  raisedHigh : List Nat := []
  raisedCrit : List Nat := []
  supplies : Tbl Nat := []
  /-- Rails outside their limits. VCC_FUSE is held at 0 V except for programming (R606). -/
  railsOut : List Rail := [.fuse]
deriving DecidableEq, Repr

/-- Clocks, time base, watchdogs. -/
structure TimeBase where
  tb : Nat := 0
  valid : Bool := false
  incSlow : Nat := 2000000000
  slowDriven : Bool := false
  /-- The swap to the slow clock is made at the next slow-clock edge (R516). -/
  swapDue : Bool := false
  /-- The slow clock runs from the crystal (R19). -/
  crystal : Bool := false
  crystalAbsent : Bool := false
  watching : Bool := true
  /-- Value of the model's time when VCC_AON became good (R19). -/
  watchFrom : Nat := 0
  slowTicks : Nat := 0
  wdts : Tbl Wdt := []
  /-- TRIM measurement: its job, and the slow tick at which it began (R518). -/
  trimJob : Option Nat := none
  trimAt : Nat := 0
deriving DecidableEq, Repr

/-! ## Debug (chapter 14), boot, events (chapter 15) -/

/-- Stylus states (Table 14.7). -/
inductive StyState where
  | detached | attached | authorized | lockedOut
deriving DecidableEq, Repr

/-- A Stylus response: STATUS and data (Table 14.8). -/
structure StyResp where
  status : Nat := 0
  data : List Byte := []
deriving DecidableEq, Repr

/-- Stylus line logic. -/
structure Stylus where
  st : StyState := .detached
  fails : Nat := 0
  refusedUntil : Nat := 0
  nonce : Option (BitVec 256 × Nat) := none
  /-- Access outstanding: group, size, write. -/
  outstanding : Option (Nat × Nat × Bool) := none
  last : Option StyResp := none
  resp : StyResp := {}
  ferry : Bool := false
  symbols : List Bool := []
  lastSymbol : Nat := 0
  /-- Bits of the response that are still to be sent, in order (R534). -/
  respBits : List Bool := []
  /-- The bit answered in the last response window, and when that window's pulse fell (R534). -/
  sentBit : Option (Bool × Nat) := none
  glitch : Nat := 0
deriving DecidableEq, Repr

/-- A Proof selection (Table 14.13). -/
structure Proof where
  clkDiv : Nat := 0
  flags : Nat := 0
  entries : List Nat := []
deriving DecidableEq, Repr

/-- Life-cycle states (R391). -/
inductive Life where
  | blank | provisioned | secured | retired
deriving DecidableEq, Repr

/-- Fuses and part data. -/
structure Fuses where
  life : Life := .blank
  svn : Nat := 0
  serial : Nat := 0
  grade : Nat := 1
  cryptoS : Bool := true
  revoked : List Nat := []
  /-- Repair of engine memories: bit per memory, bytes 0-23 of SYS_INFO page 3. -/
  repair : Tbl Nat := []
  headwaterSpare : Nat := 0
  cacheSpare : Nat := 0
  basinRepair : Tbl Nat := []
deriving DecidableEq, Repr

/-- Boot results (Table 16.5) and firmware staging (R580-R582). -/
structure Boot where
  bootMode : Nat := 0
  slotId : Nat := 0
  vmePg : Bool := false
  lastReset : Nat := 0
  singleWire : Bool := false
  secondDir : Bool := false
  fwImage : Nat := 0
  failA : Nat := 0
  failB : Nat := 0
  fabImage : Nat := 0xFE
  fabReasons : List Nat := []
  lastFatal : Nat := 0
  tbReady : Nat := 0
  tbCfgDone : Nat := 0
  fwVersion : Nat := 0
  fwSvn : Nat := 0
  /-- Boot flash bytes; unlisted reads 0xFF (log 11). -/
  flash : Tbl Byte := []
  stageState : Nat := 0
  /-- Staging in progress: kind, prefer, offset, bytes, job. -/
  staging : Option (Nat × Bool × Nat × List Byte × Nat) := none
  dirRewrite : Bool := false
  dirDue : Bool := false
  /-- Image to boot after a failed activation (R582). -/
  fallback : Option Nat := none
  nextSvn : Option Nat := none
  fuseJob : Option (Nat × Nat) := none
  loaded : Bool := false
deriving DecidableEq, Repr

/-- Debug, fuses, boot. -/
structure Debug where
  sty : Stylus := {}
  proof : Tbl Proof := []
  fuses : Fuses := {}
  boot : Boot := {}
  /-- TAMPER_N inputs that are low. -/
  tamperLow : List Nat := []
  inReset : Bool := false
deriving DecidableEq, Repr

/-- An event record (Table 15.2). -/
structure Rec where
  ev : Nat := 0
  sev : Nat := 0
  cause : Nat := 0
  ovf : Bool := false
  coal : Bool := false
  count : Nat := 1
  tb : Nat := 0
  detail : List Byte := []
  /-- NI that injects the record; none for Rill (R632). -/
  ni : Option Nat := none
  /-- Routed to the host when the router took it (R559, R560). -/
  host : Bool := false
deriving DecidableEq, Repr

/-- A source's pending record and the one behind it (R556). -/
structure Pend where
  r : Rec := {}
  /-- The record has reached the router. -/
  arrived : Bool := false
  waiting : Option Rec := none
  /-- The record waited behind another: every raise is added to it (R556). -/
  second : Bool := false
deriving DecidableEq, Repr

/-- Event router and AON fatal summary. -/
structure Events where
  cfg : Tbl Word := []
  fatalFence : Bool := true
  pend : Tbl Pend := []
  /-- The OVERFLOW record is the one whose `ovf` is set (R558). -/
  fifo : List Rec := []
  /-- Source served last (R557). -/
  last : Nat := 511
  /-- Headwater cycle in which the router last took a record: it takes one in each (R557). -/
  takenAt : Option Nat := none
  /-- Braid cycle in which a FATAL record last set a GROUP bit, by group (R564). -/
  fatalAt : Tbl Nat := []
  hostQ : List Rec := []
  /-- AON copy of EV_CFGn: used for OVR, SEV, TO_FATAL (01 R17). -/
  aon : Tbl Word := []
  fatalN : Bool := false
  firstEv : Nat := 0
  groups : List Nat := []
  /-- Rate limits: time of the last event and count since, by key. -/
  limits : Tbl (Nat × Nat) := []
deriving DecidableEq, Repr

/-- Rill messages under way (R16). -/
inductive Rill where
  | kick (engine : Nat)
  | access (pid : Nat)
deriving DecidableEq, Repr

/-- The whole machine. -/
structure State where
  pending : List Instr := []
  time : Nat := 0
  hwPhase : Nat := 0
  slowPhase : Nat := 0
  freeCtr : Nat := 0
  braid : Braid := {}
  sluice : Sluice := {}
  ferry : Ferry := {}
  locks : LockUnit := {}
  host : HostBridge := {}
  lanes : Lanes := {}
  delta : Delta := {}
  twin : Twin := {}
  eng : Engines := {}
  dram : Dram := {}
  mems : Mems := {}
  crypto : Crypto := {}
  fabric : Fabric := {}
  bw : Backwater := {}
  bwx : BackwaterX := {}
  power : Power := {}
  tbase : TimeBase := {}
  dbg : Debug := {}
  events : Events := {}
  rill : List Rill := []
deriving DecidableEq, Repr

/-- Right after a reset: every field at the value the manual states, or that a log entry names. Tables list nothing: an unlisted key reads as the default of its reader. -/
def State.reset : State := {}

end Sys2Proof.Machine
end

