-- ==== Sys2Proof/Machine/Tbl.lean ====
section
/-! DEFINITION. Number-keyed tables, byte fields and small list helpers that every family uses. -/

namespace Sys2Proof.Machine
open Sys2Proof

/-- What table `t` holds under `k`; `d` where it lists nothing. -/
def tget {α : Type} (t : Tbl α) (d : α) (k : Nat) : α :=
  match t with
  | [] => d
  | (j, v) :: r => if j = k then v else tget r d k

/-- `t` with `v` under `k`; keys stay in rising order. -/
def tset {α : Type} (t : Tbl α) (k : Nat) (v : α) : Tbl α :=
  match t with
  | [] => [(k, v)]
  | (j, w) :: r => if j = k then (k, v) :: r else if k < j then (k, v) :: (j, w) :: r else (j, w) :: tset r k v

/-- `t` with what is under `k` changed by `f`. -/
def tmod {α : Type} (t : Tbl α) (d : α) (k : Nat) (f : α → α) : Tbl α := tset t k (f (tget t d k))

/-- `t` without key `k`. -/
def tdel {α : Type} (t : Tbl α) (k : Nat) : Tbl α := t.filter (fun p => p.1 != k)

/-- Whether `t` lists `k`. -/
def thas {α : Type} (t : Tbl α) (k : Nat) : Bool := t.any (fun p => p.1 == k)

/-- What `t` lists under `k`. -/
def tfind {α : Type} (t : Tbl α) (k : Nat) : Option α :=
  match t with
  | [] => none
  | (j, v) :: r => if j = k then some v else tfind r k

/-- Counter `k` of a counter table, one more; 32-bit counters saturate (R136, R215, R253, R362, R384). -/
def tinc (t : Tbl Nat) (k : Nat) : Tbl Nat := tset t k (min (tget t 0 k + 1) 4294967295)

/-- Counter `k` of a counter table, `n` more. -/
def tadd (t : Tbl Nat) (k n : Nat) : Tbl Nat := tset t k (min (tget t 0 k + n) 4294967295)

/-- Little-endian number of `n` bytes of `l` from offset `o`; bytes the list lacks read 0 (R41, R569). -/
def leAt (l : List Byte) (o n : Nat) : Nat :=
  match n with
  | 0 => 0
  | n + 1 => (l.getD o 0).toNat + 256 * leAt l (o + 1) n

/-- The `n` low bytes of `v`, little-endian. -/
def leBytes (n v : Nat) : List Byte :=
  match n with
  | 0 => []
  | n + 1 => BitVec.ofNat 8 v :: leBytes n (v / 256)

/-- Bits `hi` down to `lo` of `v`. -/
def bits (v hi lo : Nat) : Nat := (v / 2 ^ lo) % 2 ^ (hi + 1 - lo)

/-- Bit `i` of `v`. -/
def bit (v i : Nat) : Bool := Nat.testBit v i

/-- 1 for true. -/
def b2n (b : Bool) : Nat := if b then 1 else 0

/-- A number of `n` bits as a two's-complement integer. -/
def sext (n v : Nat) : Int := if v % 2 ^ n < 2 ^ (n - 1) then Int.ofNat (v % 2 ^ n) else Int.ofNat (v % 2 ^ n) - 2 ^ n

/-- An integer as an unsigned number of `n` bits. -/
def toBits (n : Nat) (v : Int) : Nat := (v % (2 ^ n : Nat)).toNat

/-- The first `n` bytes of `l`, filled with zeros. -/
def padTo (n : Nat) (l : List Byte) : List Byte := (l ++ List.replicate n 0).take n

/-- `l` with element `i` replaced, when it exists. -/
def lset {α : Type} (l : List α) (i : Nat) (v : α) : List α := l.set i v

/-- The numbers below `n` whose bit is 1 in `m`. -/
def maskList (n m : Nat) : List Nat := (List.range n).filter (fun i => bit m i)

/-- The mask of a list of bit numbers. -/
def listMask (l : List Nat) : Nat := l.eraseDups.foldl (fun a i => a + 2 ^ i) 0

/-- The first number from `a` on, below `a + n`, that `p` holds of. -/
def findFrom (p : Nat → Bool) (a n : Nat) : Option Nat :=
  match n with
  | 0 => none
  | n + 1 => if p a then some a else findFrom p (a + 1) n

/-- Add an element a list does not hold. -/
def ladd {α : Type} [DecidableEq α] (l : List α) (x : α) : List α := if l.contains x then l else l ++ [x]

/-- A list without an element. -/
def ldel {α : Type} [DecidableEq α] (l : List α) (x : α) : List α := l.filter (fun y => decide (y ≠ x))

/-! Updates of one group of the state. -/

/-- Braid changed by `f`. -/
def modBraid (s : State) (f : Braid → Braid) : State := { s with braid := f s.braid }
/-- The calendars changed by `f`. -/
def modSluice (s : State) (f : Sluice → Sluice) : State := { s with sluice := f s.sluice }
/-- Ferry changed by `f`. -/
def modFerry (s : State) (f : Ferry → Ferry) : State := { s with ferry := f s.ferry }
/-- The lock unit changed by `f`. -/
def modLocks (s : State) (f : LockUnit → LockUnit) : State := { s with locks := f s.locks }
/-- The host bridge changed by `f`. -/
def modHost (s : State) (f : HostBridge → HostBridge) : State := { s with host := f s.host }
/-- The lanes changed by `f`. -/
def modLanes (s : State) (f : Lanes → Lanes) : State := { s with lanes := f s.lanes }
/-- Delta changed by `f`. -/
def modDelta (s : State) (f : Delta → Delta) : State := { s with delta := f s.delta }
/-- The Twin endpoint changed by `f`. -/
def modTwin (s : State) (f : Twin → Twin) : State := { s with twin := f s.twin }
/-- The engines changed by `f`. -/
def modEngines (s : State) (f : Engines → Engines) : State := { s with eng := f s.eng }
/-- DRAM and Scour changed by `f`. -/
def modDram (s : State) (f : Dram → Dram) : State := { s with dram := f s.dram }
/-- The memories changed by `f`. -/
def modMems (s : State) (f : Mems → Mems) : State := { s with mems := f s.mems }
/-- Encryption and secure bank changed by `f`. -/
def modCrypto (s : State) (f : Crypto → Crypto) : State := { s with crypto := f s.crypto }
/-- The fabric changed by `f`. -/
def modFabric (s : State) (f : Fabric → Fabric) : State := { s with fabric := f s.fabric }
/-- Backwater changed by `f`. -/
def modBw (s : State) (f : Backwater → Backwater) : State := { s with bw := f s.bw }
/-- The rest of Backwater changed by `f`. -/
def modBwx (s : State) (f : BackwaterX → BackwaterX) : State := { s with bwx := f s.bwx }
/-- Power changed by `f`. -/
def modPower (s : State) (f : Power → Power) : State := { s with power := f s.power }
/-- Clocks, time base and watchdogs changed by `f`. -/
def modTime (s : State) (f : TimeBase → TimeBase) : State := { s with tbase := f s.tbase }
/-- Debug, fuses and boot changed by `f`. -/
def modDebug (s : State) (f : Debug → Debug) : State := { s with dbg := f s.dbg }
/-- Boot results and staging changed by `f`. -/
def modBoot (s : State) (f : Boot → Boot) : State := { s with dbg := { s.dbg with boot := f s.dbg.boot } }
/-- The Stylus logic changed by `f`. -/
def modSty (s : State) (f : Stylus → Stylus) : State := { s with dbg := { s.dbg with sty := f s.dbg.sty } }
/-- The event router changed by `f`. -/
def modEvents (s : State) (f : Events → Events) : State := { s with events := f s.events }

/-- `f` where `c` holds, nothing elsewhere. -/
def when_ (c : Bool) (f : State → State) (s : State) : State := if c then f s else s

/-- Apply `f` for each element of a list, in order. -/
def forAll {α : Type} (l : List α) (f : State → α → State) (s : State) : State := l.foldl f s

/-- A free number nobody has seen: the counter of free values moves on (log entry 3). -/
def freshNat (s : State) : Nat × State := (Config.freeNat s.freeCtr, { s with freeCtr := s.freeCtr + 1 })

/-- A free byte (log entry 3). -/
def freshByte (s : State) : Byte × State := (Config.freeByte s.freeCtr, { s with freeCtr := s.freeCtr + 1 })

/-- `n` free bytes (log entry 3). -/
def freshBytes (n : Nat) (s : State) : List Byte × State :=
  ((List.range n).map (fun i => Config.freeByte (s.freeCtr + i)), { s with freeCtr := s.freeCtr + n })

end Sys2Proof.Machine
end

