-- ==== Sys2Proof/Machine/Ops.lean ====
section
/-! DEFINITION. Operations every family shares: places of endpoints, domains, gates and fences, events, jobs, checksums. -/

namespace Sys2Proof.Machine
open Sys2Proof

/-! ## Time -/

/-- Braid cycles in a microsecond (Table 0.5). -/
def usCycles : Nat := 1600

/-- Braid cycles in a millisecond. -/
def msCycles : Nat := 1600000

/-- BRAID_NOW (R109, R134). -/
def braidNow (s : State) : Nat := s.time - s.braid.epoch

/-- Slow ticks of a number of ms, rounded up (R509, R519). -/
def msTicks (ms : Nat) : Nat := (ms * 32768 + 999) / 1000

/-- The device is in STIPPLE, not in its emulation for a debugger (R546). -/
def inStipple (s : State) : Bool := s.power.dev == .stipple && !s.power.emulated

/-- The clocks of a domain are stopped: it has agreed to a sleep entry, or the device is in DOZE or STIPPLE (Tables 13.2, 13.4). Under emulation a gated block wakes by itself (R546). -/
def clockStopped (s : State) (d : Nat) : Bool :=
  d != 0 && (s.power.entry.any (fun e => e.agreed.contains d) || ((s.power.dev == .doze || s.power.dev == .stipple) && !s.power.emulated))

/-- A step of a block's own clock domain: it waits while those clocks are stopped (R498, R501). -/
def whileClocked (d : Nat) (s t : State) : State := if clockStopped s d then s else t

/-- The Stipple sequencer is awake: its period is over and STIPPLE_PERIOD has not ended it (R509). -/
def sequencerAwake (s : State) : Bool := s.power.prog.any (fun g => decide (s.power.lastPeriod + msTicks g.periodMs ≤ s.tbase.slowTicks))

/-- The Rill oscillator runs: in every state but OFF, in STIPPLE only while the sequencer is awake; a wake that has been decided starts it (R18, Table 13.7). -/
def rillRuns (s : State) : Bool :=
  !(s.power.railsOut.contains .aon) && (!(inStipple s) || s.power.wakeSrc.isSome || sequencerAwake s)

/-! ## Endpoints (Table 1.2) -/

/-- Router (8x + y), local port code and power domain of an endpoint (R10). -/
def epPlace (e : Nat) : Option (Nat × Nat × Nat) :=
  if e < 0x08 then [(32, 5, 1), (34, 5, 83), (36, 5, 1), (37, 5, 82), (35, 5, 1), (33, 5, 1), (56, 7, 0), (1, 7, 1)][e]?
  else if e < 0x10 then some (24 + (e - 0x08), 5, 78 + (e - 0x08) / 2)
  else if e < 0x18 then some (e - 0x10, 6, 46 + (e - 0x10))
  else if e < 0x20 then some (56 + (e - 0x18), 6, 46 + (e - 0x10))
  else if e < 0x28 then some (e - 0x20, 5, 62 + (e - 0x20))
  else if e < 0x30 then some (56 + (e - 0x28), 5, 62 + (e - 0x20))
  else if e < 0x38 then some (8 + (e - 0x30), 5, 30 + (e - 0x30))
  else if e < 0x40 then some (48 + (e - 0x38), 5, 30 + (e - 0x30))
  else if e < 0x48 then some (16 + (e - 0x40), 5, 6 + (e - 0x40))
  else if e < 0x50 then some (16 + (e - 0x48), 6, 6 + (e - 0x40))
  else if e < 0x58 then some (40 + (e - 0x50), 5, 6 + (e - 0x40))
  else if e < 0x5D then [(6, 7, 84), (4, 7, 85), (38, 5, 82), (39, 5, 0), (32, 6, 1)][e - 0x58]?
  else if e < 0x60 then none
  else if e < 0x68 then some (8 + (e - 0x60), 6, 30 + (e - 0x60))
  else if e < 0x70 then some (48 + (e - 0x68), 6, 30 + (e - 0x60))
  else none

/-- Whether Table 1.2 lists the ID. -/
def epListed (e : Nat) : Bool := (epPlace e).isSome

/-- Router of an endpoint. -/
def epRouter (e : Nat) : Nat := ((epPlace e).map (·.1)).getD 64

/-- Local port of an endpoint. -/
def epPort (e : Nat) : Nat := ((epPlace e).map (·.2.1)).getD 0

/-- Power domain of an endpoint. -/
def epDomain (e : Nat) : Nat := ((epPlace e).map (·.2.2)).getD 86

/-- Endpoint on a local port of a router. -/
def epAt (router port : Nat) : Option Nat :=
  (List.range 0x70).find? (fun e => epPlace e |>.any (fun p => p.1 == router && p.2.1 == port))

/-- Column of a router. -/
def colOf (r : Nat) : Nat := r / 8

/-- Row of a router. -/
def rowOf (r : Nat) : Nat := r % 8

/-- Braid domain of a column (R11), as a domain number. -/
def braidDomain (x : Nat) : Nat := if x = 0 then 2 else if x < 4 then 3 else if x < 7 then 4 else 5

/-- Whether a router has the port of a turn code (R73, Table 3.7). -/
def hasPort (r code : Nat) : Bool :=
  match code with
  | 1 => decide (1 ≤ rowOf r)
  | 2 => decide (colOf r ≤ 6)
  | 3 => decide (rowOf r ≤ 6)
  | 4 => decide (1 ≤ colOf r)
  | 5 => true
  | 6 => true
  | 7 => decide (colOf r = 0 ∨ colOf r = 7)
  | _ => false

/-- The router a direction code leads to (R73). -/
def neighbour (r code : Nat) : Nat :=
  match code with
  | 1 => r - 1
  | 2 => r + 8
  | 3 => r + 1
  | 4 => r - 8
  | _ => r

/-- The port by which a flit leaving by a direction code enters the next router. -/
def opposite (code : Nat) : Nat :=
  match code with
  | 1 => 3
  | 2 => 4
  | 3 => 1
  | 4 => 2
  | c => c

/-- Whether the link out of a router by a direction code crosses a die boundary (R9). -/
def crossing (r code : Nat) : Bool :=
  match code with
  | 2 => colOf r == 0 || colOf r == 6
  | 4 => colOf r == 1 || colOf r == 7
  | _ => false

/-! ## Power domains (Table 13.1) -/

/-- Whether a domain is on after a device reset. REACH domains are powered and hold no design until the initial load (R452). -/
def domDefault (d : Nat) : Bool :=
  decide (d ≤ 5 ∨ (30 ≤ d ∧ d ≤ 61) ∨ (78 ≤ d ∧ d ≤ 83))

/-- Whether a domain is on. -/
def domOn (s : State) (d : Nat) : Bool := tget s.power.on (domDefault d) d

/-- Switch a domain on or off. -/
def setDom (d : Nat) (on : Bool) (s : State) : State := modPower s (fun p => { p with on := tset p.on d on })

/-! ## Gates and fences (R118-R124) -/

/-- State of a gate after a device reset (Table 13.1, Table 11.8). -/
def gateDefault (g : Nat) : GateState :=
  if g < 0x100 ∧ (¬ domDefault g ∨ (30 ≤ g ∧ g ≤ 61)) then .closed else .opened

/-- A gate. -/
def gateOf (s : State) (g : Nat) : Gate := tget s.braid.gates { st := gateDefault g } g

/-- Whether a number names a gate: every domain but AON, every router (R118). -/
def isGate (g : Nat) : Bool := decide ((1 ≤ g ∧ g ≤ 85) ∨ (0x100 ≤ g ∧ g < 0x140))

/-- Whether a gate covers an endpoint (R118). -/
def covers (g e : Nat) : Bool :=
  match epPlace e with
  | none => false
  | some (r, _, d) => (decide (1 ≤ d) && g == d) || g == braidDomain (colOf r) || g == 0x100 + r

/-- The gates that cover an endpoint. -/
def gatesOf (e : Nat) : List Nat :=
  match epPlace e with
  | none => []
  | some (r, _, d) => (if 1 ≤ d then [d] else []) ++ [braidDomain (colOf r), 0x100 + r]

/-- Whether a gate that covers an endpoint is not OPEN. -/
def gateShut (s : State) (e : Nat) : Bool := (gatesOf e).any (fun g => (gateOf s g).st != .opened)

/-- Whether a gate that covers an endpoint is CLOSED. -/
def gateClosed (s : State) (e : Nat) : Bool := (gatesOf e).any (fun g => (gateOf s g).st == .closed)

/-- Fence bit of an endpoint in every NI (R120): the gates as they were before the changes that Rill has not yet delivered (R121). -/
def fenced (s : State) (e : Nat) : Bool :=
  if s.braid.fenceStale then s.braid.fence.contains e else gateShut s e

/-- Change a gate; where a fence bit depends on it, the bitmaps follow with FENCE_BITMAP_UPDATE (R121). -/
def setGate (g : Nat) (v : Gate) (s : State) : State :=
  let f := if s.braid.fenceStale then s.braid.fence else (List.range 0x70).filter (fun e => gateShut s e)
  if ((gateOf s g).st == .opened) == (v.st == .opened) then modBraid s (fun b => { b with gates := tset b.gates g v })
  else modBraid s (fun b => { b with gates := tset b.gates g v, fence := f, fenceStale := true })

/-- Change the state of a gate. -/
def setGateSt (g : Nat) (st : GateState) (s : State) : State := setGate g { gateOf s g with st := st } s

/-! ## Accessors -/

/-- A network interface. -/
def niOf (s : State) (e : Nat) : Ni := tget s.braid.nis {} e

/-- Change a network interface. -/
def modNi (e : Nat) (f : Ni → Ni) (s : State) : State := modBraid s (fun b => { b with nis := tmod b.nis {} e f })

/-- A router. -/
def routerOf (s : State) (r : Nat) : Router := tget s.braid.routers {} r

/-- Change a router. -/
def modRouter (r : Nat) (f : Router → Router) (s : State) : State :=
  modBraid s (fun b => { b with routers := tmod b.routers {} r f })

/-- A Ferry channel. -/
def chanOf (s : State) (c : Nat) : Channel := tget s.ferry.chans {} c

/-- Change a Ferry channel. -/
def modChan (c : Nat) (f : Channel → Channel) (s : State) : State :=
  modFerry s (fun y => { y with chans := tmod y.chans {} c f })

/-- A lane. -/
def laneOf (s : State) (l : Nat) : Lane := tget s.lanes.lanes {} l

/-- Change a lane. -/
def modLane (l : Nat) (f : Lane → Lane) (s : State) : State := modLanes s (fun y => { y with lanes := tmod y.lanes {} l f })

/-- A lane's data path. -/
def pathOf (s : State) (l : Nat) : LanePath := tget s.lanes.paths {} l

/-- Change a lane's data path. -/
def modPath (l : Nat) (f : LanePath → LanePath) (s : State) : State :=
  modLanes s (fun y => { y with paths := tmod y.paths {} l f })

/-- A Delta port (64: the Twin link). -/
def portOf (s : State) (p : Nat) : Port := tget s.delta.ports {} p

/-- Change a Delta port. -/
def modPort (p : Nat) (f : Port → Port) (s : State) : State := modDelta s (fun y => { y with ports := tmod y.ports {} p f })

/-- An engine. -/
def engOf (s : State) (k : Nat) : Engine := tget s.eng.eng {} k

/-- Change an engine. -/
def modEng (k : Nat) (f : Engine → Engine) (s : State) : State := modEngines s (fun y => { y with eng := tmod y.eng {} k f })

/-- An engine quad. -/
def quadOf (s : State) (q : Nat) : Quad := tget s.eng.quads {} q

/-- Change an engine quad. -/
def modQuad (q : Nat) (f : Quad → Quad) (s : State) : State :=
  modEngines s (fun y => { y with quads := tmod y.quads {} q f })

/-- A DRAM channel. -/
def dchOf (s : State) (c : Nat) : Chan := tget s.dram.chans {} c

/-- Change a DRAM channel. -/
def modDch (c : Nat) (f : Chan → Chan) (s : State) : State := modDram s (fun y => { y with chans := tmod y.chans {} c f })

/-- More of a DRAM channel. -/
def dchX (s : State) (c : Nat) : ChanX := tget s.dram.chansX {} c

/-- Change more of a DRAM channel. -/
def modDchX (c : Nat) (f : ChanX → ChanX) (s : State) : State :=
  modDram s (fun y => { y with chansX := tmod y.chansX {} c f })

/-- A reach. -/
def reachOf (s : State) (n : Nat) : Reach := tget s.fabric.reaches {} n

/-- Change a reach. -/
def modReach (n : Nat) (f : Reach → Reach) (s : State) : State :=
  modFabric s (fun y => { y with reaches := tmod y.reaches {} n f })

/-- A key slot. -/
def slotOf (s : State) (k : Nat) : KeySlot := tget s.crypto.slots {} k

/-- A tideline. -/
def tideOf (s : State) (t : Nat) : Tide := tget s.crypto.tides {} t

/-- Change a tideline. -/
def modTide (t : Nat) (f : Tide → Tide) (s : State) : State := modCrypto s (fun y => { y with tides := tmod y.tides {} t f })

/-- A Basin group. -/
def bgroupOf (s : State) (g : Nat) : BGroup := tget s.mems.groups {} g

/-- Change a Basin group. -/
def modBgroup (g : Nat) (f : BGroup → BGroup) (s : State) : State := modMems s (fun y => { y with groups := tmod y.groups {} g f })

/-! ## Events (chapter 15) -/

/-- GROUP bit of an event (Table 15.1). -/
def evGroup (n : Nat) : Nat :=
  if n < 128 then 0 else if n < 192 then 1 else if n < 288 then 2 else if n < 320 then 3 else if n < 384 then 4
  else if n < 400 then 5 else if n < 416 then 6 else if n < 440 then 7 else if n < 456 then 8 else if n < 464 then 9
  else if n < 480 then 10 else if n < 496 then 11 else 12

/-- EV_CFGn (Table 15.4); reset value 0x8C00_0000. -/
def evCfg (s : State) (n : Nat) : Nat := (tget s.events.cfg (0x8C000000 : Word) n).toNat

/-- The AON copy of EV_CFGn (R17). -/
def evCfgAon (s : State) (n : Nat) : Nat := (tget s.events.aon (0x8C000000 : Word) n).toNat

/-- NI that injects a source's records, where the source alone fixes it; none for Rill (R632). Sources whose NI depends on the place (EV385, EV387, EV389, EV464-EV467, EV488) name it when they raise. -/
def evNi (n : Nat) : Option Nat :=
  if n < 128 then some (0x20 + n / 8)
  else if n < 192 then some (0x10 + (n - 128) / 4)
  else if n < 288 then some (0x40 + (n - 192) / 4)
  else if n < 320 ∨ (400 ≤ n ∧ n < 416) ∨ 496 ≤ n then some 0x01
  else if n < 384 then epAt (n - 320) 5
  else if n = 384 ∨ n = 386 ∨ n = 388 ∨ n = 398 then some 0x5A
  else if n < 400 then some 0x03
  else if n < 440 then none
  else if n = 440 ∨ n = 443 ∨ n = 445 ∨ n = 492 then some 0x00
  else if n = 441 ∨ n = 442 ∨ n = 446 then none
  else if n = 444 then some 0x05
  else if n = 454 then some 0x5C
  else if n < 464 then some 0x58
  else if n < 480 then some 0x59
  else if n < 488 then some (0x08 + (n - 480))
  else none

/-- Severity a record takes: SEV where OVR is 1, else the default (R555). -/
def evSev (cfg default : Nat) : Nat := if bit cfg 30 then bits cfg 29 28 else default

/-- Queue a record's single-flit MSG packet on VC3 at an NI (R13). The event router's own NI hands it over. -/
def sendRecord (ni ev : Nat) (s : State) : State :=
  if ni = 0x04 then modEvents s (fun e => { e with pend := tmod e.pend {} ev (fun p => { p with arrived := true }) })
  else
    let p : Packet := { pid := s.braid.nextPid, vc := 3, dst := 0x04, src := ni, urg := 8, op := .msg, len := 32, ev := some ev, presentedAt := s.time }
    modBraid (modNi ni (fun n => { n with queue := n.queue ++ [p] }) s) (fun b => { b with nextPid := b.nextPid + 1 })

/-- Raise an event whose records the given NI injects (none: Rill), with its cause, default severity and DETAIL (R555, R556). -/
def raiseEvAt (ni : Option Nat) (ev cause sev : Nat) (detail : List Byte) (s : State) : State :=
  if bit (evCfg s ev) 31 then
    let r : Rec := { ev := ev, sev := sev, cause := cause, tb := s.tbase.tb, detail := padTo 16 detail, ni := ni }
    match tfind s.events.pend ev with
    | none =>
      let t := modEvents s (fun e => { e with pend := tset e.pend ev { r := r } })
      match ni with
      | some n => sendRecord n ev t
      | none => t
    | some p =>
      match p.waiting with
      | some w =>
        modEvents s (fun e => { e with pend := tset e.pend ev { p with waiting := some { w with count := w.count + 1, coal := true } } })
      | none =>
        if p.r.cause = cause ∨ p.second then
          modEvents s (fun e => { e with pend := tset e.pend ev { p with r := { p.r with count := p.r.count + 1, coal := true } } })
        else modEvents s (fun e => { e with pend := tset e.pend ev { p with waiting := some r } })
  else s

/-- Raise an event by the path of R632. -/
def raiseEv (ev cause sev : Nat) (detail : List Byte) (s : State) : State := raiseEvAt (evNi ev) ev cause sev detail s

/-- Raise an event no more often than once per `period` Braid cycles for each `key`, with the count since the last one after the detail (rate limits of the source tables, before R556). -/
def raiseLimitedAt (ni : Option Nat) (key period ev cause sev : Nat) (detail : List Byte) (s : State) : State :=
  let held := match tfind s.events.limits key with
    | some (t, _) => decide (s.time < t + period)
    | none => false
  let n := match tfind s.events.limits key with
    | some (_, n) => n
    | none => 0
  if held then modEvents s (fun e => { e with limits := tmod e.limits (0, 0) key (fun p => (p.1, p.2 + 1)) })
  else raiseEvAt ni ev cause sev (detail ++ leBytes 4 (n + 1)) (modEvents s (fun e => { e with limits := tset e.limits key (s.time, 0) }))

/-- The same by the path of R632. -/
def raiseLimited (key period ev cause sev : Nat) (detail : List Byte) (s : State) : State :=
  raiseLimitedAt (evNi ev) key period ev cause sev detail s

/-- FATAL_N asserts for a record: its GROUP bit is set, FIRST_EV captured when VALID was 0 (R563, Table 2.16). HEARTBEAT_ARM looks at it (R565). -/
def assertFatal (ev : Nat) (s : State) : State :=
  modEvents s (fun e =>
    { e with fatalN := true, firstEv := if e.groups.isEmpty then ev else e.firstEv, groups := ladd e.groups (evGroup ev), fatalAt := tset e.fatalAt (evGroup ev) s.time })

/-! ## Checksums -/

/-- One bit of the reflected CRC-32. -/
def crc32Bit (c : Nat) : Nat := if c % 2 = 1 then (c / 2) ^^^ 0xEDB88320 else c / 2

/-- One byte of the reflected CRC-32. -/
def crc32Byte (c : Nat) (b : Byte) : Nat :=
  let c0 := c ^^^ b.toNat
  crc32Bit (crc32Bit (crc32Bit (crc32Bit (crc32Bit (crc32Bit (crc32Bit (crc32Bit c0)))))))

/-- CRC-32 with the IEEE 802.3 polynomial, in that standard's form: reflected, initial value and final XOR all ones. -/
def crc32 (l : List Byte) : Nat := (l.foldl crc32Byte 0xFFFFFFFF) ^^^ 0xFFFFFFFF

/-- One bit of the CRC-8 of R224, most significant bit first. -/
def crc8Bit (c : Nat) : Nat := if 128 ≤ c then ((2 * c) % 256) ^^^ 0x07 else 2 * c

/-- CRC-8 of R224 over bytes, each most significant bit first: polynomial x^8 + x^2 + x + 1, initial value 0. -/
def crc8 (l : List Byte) : Nat :=
  l.foldl (fun c b => crc8Bit (crc8Bit (crc8Bit (crc8Bit (crc8Bit (crc8Bit (crc8Bit (crc8Bit (c ^^^ b.toNat))))))))) 0

/-! ## Return codes and jobs (Table 2.10, R48, R573) -/

/-- DONE. -/
def rcDone : Nat := 0x0000
/-- ACCEPTED. -/
def rcAccepted : Nat := 0x0001
/-- BAD_OPCODE. -/
def rcBadOpcode : Nat := 0x0010
/-- BAD_ARG. -/
def rcBadArg : Nat := 0x0011
/-- BAD_STATE. -/
def rcBadState : Nat := 0x0012
/-- DENIED. -/
def rcDenied : Nat := 0x0013
/-- CONFLICT. -/
def rcConflict : Nat := 0x0014
/-- BUSY. -/
def rcBusy : Nat := 0x0015
/-- NO_RESOURCE. -/
def rcNoResource : Nat := 0x0016
/-- FAILED_CHECK. -/
def rcFailedCheck : Nat := 0x0017
/-- TIMEOUT. -/
def rcTimeout : Nat := 0x0018
/-- ABORTED. -/
def rcAborted : Nat := 0x0019
/-- WITHDRAWN. -/
def rcWithdrawn : Nat := 0x001A

/-- DETAIL of an EV445 record (R573). -/
def ev445Detail (j : Job) (code : Nat) (result : List Byte) : List Byte :=
  leBytes 1 j.ch ++ leBytes 1 0 ++ leBytes 2 j.seq ++ leBytes 2 j.opcode ++ leBytes 2 code ++ padTo 8 result

/-- The pair is linked: this member is ACTIVE and the Twin link is UP (R242). -/
def pairLinked (s : State) : Bool := s.twin.role == .active && (portOf s 64).st == .up

/-- Headwater sends an item of the mirrored state to the partner while the pair is linked (Table 6.10). -/
def mirrorItem (m : MirrorItem) (s : State) : State := when_ (pairLinked s) (fun t => modTwin t (fun w => { w with outbox := w.outbox ++ [.item m] })) s

/-- The command log keeps the last 4096 commands; the partner gets a copy of each entry (R54). -/
def addLog (e : LogEntry) (s : State) : State :=
  mirrorItem (.log e.ch e.opcode e.seq e.code e.timebase) (modFerry s (fun f => { f with log := (f.log ++ [e]).drop (f.log.length + 1 - 4096) }))

/-- Report one job when it has ended, its FERRY_ACK is written and Headwater serves channels (R48, R52); its command is logged with the final code and the TIMEBASE at its end (R54). -/
def reportJob (s : State) (j : Job) : State :=
  match j.ended with
  | some (code, result) =>
    if j.acked && (s.ferry.ready || s.ferry.recovery) then
      let t := raiseEv 445 1 0 (ev445Detail j code result) s
      let t := when_ (!j.withdrawn) (addLog { ch := j.ch, opcode := j.opcode, seq := j.seq, code := code, timebase := j.endTb }) t
      modFerry t (fun f => { f with jobs := f.jobs.filter (fun k => k.id != j.id), notify := f.notify ++ [(j.ch, true, s.time)] })
    else s
  | none => s

/-- Report every job that can be reported. -/
def reportJobs (s : State) : State := forAll s.ferry.jobs reportJob s

/-- A job ends with a final return code and a completion result. -/
def endJob (id code : Nat) (result : List Byte) (s : State) : State :=
  reportJobs (modFerry s (fun f =>
    { f with jobs := f.jobs.map (fun j => if j.id = id ∧ j.ended = none then { j with ended := some (code, result), endTb := s.tbase.tb } else j) }))

/-- A job, if there is one, ends. -/
def endJob? (id : Option Nat) (code : Nat) (result : List Byte) (s : State) : State :=
  match id with
  | some i => endJob i code result s
  | none => s

/-- A job that has not ended works on an object (R574). -/
def jobOn (s : State) (opcode obj : Nat) : Bool :=
  s.ferry.jobs.any (fun j => j.opcode == opcode && j.obj == obj && j.ended == none)

end Sys2Proof.Machine
end

