-- ==== Sys2Proof/Machine/Mem.lean ====
section
/-! DEFINITION. The addressed memories: canonical byte list, address decode (Table 1.8, R319, R364), stored lines and words, Headwater's reads of arguments. -/

namespace Sys2Proof.Machine
open Sys2Proof

/-! ## Bytes -/

/-- Canonical form of memory: addresses strictly rising, and no entry equal to the 0 that an unlisted address reads as. -/
abbrev Memory.wf (m : List Host.Cell) : Prop := m.Pairwise (fun a b => a.1 < b.1) ∧ ∀ c ∈ m, c.2 ≠ 0

/-- The byte at a physical address; an address not listed reads 0 (INIT clears on-chip memories, R382; DRAM lines never written are free, see `lineTag`). -/
def mget (m : List Host.Cell) (a : Nat) : Byte :=
  match m with
  | [] => 0
  | c :: r => if c.1 = a then c.2 else mget r a

/-- Drop the entry of an address. -/
def mclear (m : List Host.Cell) (a : Nat) : List Host.Cell := m.filter (fun c => c.1 != a)

/-- Insert an entry for an address the list does not hold. -/
def minsert (m : List Host.Cell) (a : Nat) (b : Byte) : List Host.Cell :=
  match m with
  | [] => [(a, b)]
  | c :: r => if a < c.1 then (a, b) :: c :: r else c :: minsert r a b

/-- Write one byte, keeping the canonical form. -/
def mset (m : List Host.Cell) (a : Nat) (b : Byte) : List Host.Cell :=
  if b = 0 then mclear m a else minsert (mclear m a) a b

/-- `n` bytes from an address. -/
def mgetN (m : List Host.Cell) (a n : Nat) : List Byte := (List.range n).map (fun i => mget m (a + i))

/-- Write bytes from an address on. -/
def msetN (m : List Host.Cell) (a : Nat) (l : List Byte) : List Host.Cell :=
  match l with
  | [] => m
  | b :: r => msetN (mset m a b) (a + 1) r

/-- Drop every entry from `a` on below `a + n`. -/
def mzero (m : List Host.Cell) (a n : Nat) : List Host.Cell := m.filter (fun c => decide (c.1 < a ∨ a + n ≤ c.1))

/-- Replace the memory bytes. -/
def setMem (m : List Host.Cell) (s : State) : State := modMems s (fun y => { y with mem := m })

/-! ## Address map (R27) -/

/-- Physical address of a byte of a DRAM channel. -/
def dramPhys (ch loc : Nat) : Nat := 0x100000000000 + ch * 17179869184 + loc

/-- Start of Basin. -/
def basinBase : Nat := 0x100000000

/-- Start of instruction memory of engine `k`. -/
def imBase (k : Nat) : Nat := 0x200000000 + k * 0x40000

/-- Start of data memory of engine `k`. -/
def dmBase (k : Nat) : Nat := 0x200020000 + k * 0x40000

/-- Start of the DRAM window. -/
def dramBase : Nat := 0x1000000000

/-- Where the DRAM window ends. -/
def dramEnd : Nat := 0x5000000000

/-- A region of the map holds an offset in the window. -/
def inRegion (r : Region) (o : Nat) : Bool := decide (r.base * 1073741824 ≤ o ∧ o < (r.base + r.size) * 1073741824)

/-- Binary logarithm of 1, 2, 4, 8, 16. -/
def log2c (n : Nat) : Nat := if n ≤ 1 then 0 else if n = 2 then 1 else if n = 4 then 2 else if n = 8 then 3 else 4

/-- The hash of R319: fold every field of `n` bits from bit `k` up to bit 37 into the selector. -/
def hashSel (u n k sel fuel : Nat) : Nat :=
  match fuel with
  | 0 => sel
  | f + 1 => if k ≤ 37 then hashSel u n (k + n) (sel ^^^ ((u / 2 ^ k) % 2 ^ n)) f else sel

/-- Channel and channel-local address of a DRAM address in a map (R319). -/
def dramDecode (map : List Region) (a : Nat) : Option (Nat × Nat) :=
  if dramBase ≤ a ∧ a < dramEnd then
    let o := a - dramBase
    match map.find? (fun r => inRegion r o) with
    | none => none
    | some r =>
      let u := o - r.base * 1073741824
      let n := log2c r.count
      let g := r.grain
      let sel0 := (u / 2 ^ g) % 2 ^ n
      let sel := if r.hash && decide (0 < n) then hashSel u n (g + n) sel0 38 else sel0
      some (r.first + sel, r.chBase * 1048576 + (u / 2 ^ (g + n)) * 2 ^ g + u % 2 ^ g)
  else none

/-- The map an NI decodes with: the old one until its two-phase swap (R322). -/
def mapOf (s : State) (ep : Nat) : List Region := if s.dram.mapPending.contains ep then s.dram.mapOld else s.dram.map

/-- Target endpoint of an address (Table 1.8). -/
def addrTarget (map : List Region) (a : Nat) : Option Nat :=
  if a < 0x10000000 then (if epListed (a / 0x200000) then some (a / 0x200000) else none)
  else if basinBase ≤ a ∧ a < basinBase + 0x4000000 then some (0x08 + (a - basinBase) / 8388608)
  else if 0x200000000 ≤ a ∧ a < 0x200000000 + 96 * 0x40000 then
    (if (a - 0x200000000) % 0x40000 < 0x10000 ∨ 0x20000 ≤ (a - 0x200000000) % 0x40000 then
      some (0x40 + (a - 0x200000000) / 0x40000 / 4) else none)
  else if dramBase ≤ a ∧ a < dramEnd then (dramDecode map a).map (fun p => 0x10 + p.1)
  else if 0x10000000000 ≤ a ∧ a < 0x20000000000 then
    some ((if (a - 0x10000000000) % 0x1000000000 < 0x800000000 then 0x30 else 0x60) + (a - 0x10000000000) / 0x1000000000)
  else none

/-- A byte range meets another. -/
def overlaps (a n b m : Nat) : Bool := decide (a < b + m ∧ b < a + n)

/-- The enabled protected range a request meets (R429). -/
def protectHit (s : State) (a n : Nat) : Option Nat :=
  (List.range 16).find? (fun i =>
    let r := tget s.crypto.ranges {} i
    r.enable && overlaps a (max n 1) r.start r.length)

/-! ## Power of memories (Table 9.4) -/

/-- State of a memory: Basin group 0-7, or 8 + q for the engine memories of quad q. Basin passes through INIT at device reset; ME domains are off. -/
def memPwr (s : State) (u : Nat) : MemPwr := tget s.mems.pwr (if u < 8 then .init else .off) u

/-- Change the state of a memory. -/
def setMemPwr (u : Nat) (p : MemPwr) (s : State) : State := modMems s (fun y => { y with pwr := tset y.pwr u p })

/-- Domain of a memory. -/
def memDomain (u : Nat) : Nat := if u < 8 then 78 + u / 2 else 6 + (u - 8)

/-! ## On-chip words (R368-R371) -/

/-- Outcome of reading a word. -/
inductive WordRead where
  | clean | corrected | uncorr | poisoned
deriving DecidableEq, Repr

/-- Memory unit of an on-chip word (physical address / 8): Basin group, or 8 + quad. -/
def unitOfWord (w : Nat) : Nat := if 8 * w < 0x200000000 then (8 * w - basinBase) / 8388608 else 8 + (8 * w - 0x200000000) / 0x100000

/-- The word was lost with VCC_RET and reads as uncorrectable until it is written (R382). -/
def lostWord (s : State) (w : Nat) : Bool := s.mems.lost.contains (unitOfWord w)

/-- Tag of an on-chip word. -/
def wordTag (s : State) (w : Nat) : WordTag := tget s.mems.words (if lostWord s w then { bits := 2 } else {}) w

/-- Change a word's tag; a plain tag is not listed. -/
def setWordTag (w : Nat) (t : WordTag) (s : State) : State :=
  modMems s (fun y => { y with words := if t = {} ∧ ¬ lostWord s w then tdel y.words w else tset y.words w t })

/-- What the SECDED code finds in a word with the flips it holds (R368, R371). Three or more flips: a free outcome. -/
def wordOutcome (t : WordTag) (free : Nat) : WordRead :=
  if t.poisoned then (if t.bits = 0 then .poisoned else .uncorr)
  else if t.bits = 0 then .clean
  else if t.bits = 1 then .corrected
  else if t.bits = 2 then .uncorr
  else if free % 4 = 0 then .clean else if free % 4 = 1 then .corrected else if free % 4 = 2 then .uncorr else .poisoned

/-- An upset of some bits of a word; with three or more in error nothing is guaranteed of what the word holds, and its bytes are free (R368). -/
def upsetWord (e : WordErr) (s : State) : State :=
  let n := (wordTag s e.word).bits + e.bits
  let t := setWordTag e.word { wordTag s e.word with bits := n } s
  if 2 < n then
    { setMem (msetN t.mems.mem (e.word * 8) ((List.range 8).map (fun i => Config.miscorrectByte (t.freeCtr + e.word) i))) t with freeCtr := t.freeCtr + 1 }
  else t

/-- Upsets found in words are added to their tags before the access. -/
def addWordErrs (errs : List WordErr) (s : State) : State := forAll errs (fun t e => upsetWord e t) s

/-- The words an access touches. -/
def wordsOf (a n : Nat) : List Nat := (List.range ((a + max n 1 + 7) / 8 - a / 8)).map (fun i => a / 8 + i)

/-- Read words: the worst outcome in order of severity, with corrected words written back (R369). -/
def readWords (ws : List Nat) (s : State) : List (Nat × WordRead) × State :=
  let f := s.freeCtr
  let rs := ws.map (fun w => (w, wordOutcome (wordTag s w) (Config.freeNat (f + w))))
  (rs, { forAll rs (fun t r => if r.2 = .corrected then setWordTag r.1 { wordTag t r.1 with bits := 0 } t else t) s with freeCtr := s.freeCtr + (if ws.any (fun w => decide (2 < (wordTag s w).bits)) then 1 else 0) })

/-- Whether some word read ended in an outcome. -/
def anyRead (rs : List (Nat × WordRead)) (o : WordRead) : Bool := rs.any (fun r => r.2 == o)

/-- Write bytes on chip: whole words become clean or poisoned; the bytes of words with a poisoned merge are stored as given (R371). -/
def writeWords (a : Nat) (l : List Byte) (poison : Nat → Bool) (s : State) : State :=
  let t := setMem (msetN s.mems.mem a l) s
  forAll (wordsOf a l.length) (fun u w => setWordTag w { bits := 0, poisoned := poison w } u) t

/-! ## Stored DRAM lines (R349-R352, R398) -/

/-- Key of a line in the table of stored lines: channel, channel-local line number. -/
def lineKey (ch line : Nat) : Nat := ch * 268435456 + line

/-- Eighth of the channel-local space that holds a line of a channel with a given capacity in lines. -/
def eighthOf (cap line : Nat) : Nat := line * 8 / max cap 1

/-- Capacity of an arrangement in lines of 64 bytes (Table 8.1). -/
def arrLines (a : Arrange) : Nat := ((if a.width = 8 then a.density / 2 else a.density / 4) * a.ranks) * 16777216

/-- START and LENGTH of the sealed window, when set. -/
def sealedWin (s : State) : Option (Nat × Nat) := s.crypto.window.map (fun w => (w.1, w.2.1))

/-- The address lies in the window. -/
def inWindow (s : State) (a : Nat) : Bool :=
  match sealedWin s with
  | some (st, ln) => decide (st ≤ a ∧ a < st + ln)
  | none => false

/-- The address lies in the counter area, the top 1/32 of the window (R403). -/
def inCounterArea (s : State) (a : Nat) : Bool :=
  match sealedWin s with
  | some (st, ln) => decide (st + 31 * ln / 32 ≤ a ∧ a < st + ln)
  | none => false

/-- Channel-local byte spans of a device range, by map region. -/
def localSpans (s : State) (c a n : Nat) : List (Nat × Nat) :=
  s.dram.map.filterMap (fun r =>
    let b := dramBase + r.base * 1073741824
    let lo := max a b
    let hi := min (a + n) (b + r.size * 1073741824)
    if r.first ≤ c ∧ c < r.first + r.count ∧ lo < hi then
      some (r.chBase * 1048576 + (lo - b) / max r.count 1, r.chBase * 1048576 + (hi - b + (r.count - 1)) / max r.count 1)
    else none)

/-- The line's address gives it the Sealed code (R349). -/
def sealedCode (s : State) (ch line : Nat) : Bool :=
  match sealedWin s with
  | some (a, n) => (localSpans s ch a n).any (fun p => decide (p.1 ≤ line * 64 ∧ line * 64 < p.2))
  | none => false

/-- Tag of a stored line. A line that nothing has written since the first training, or since it was lost in self-refresh, is undefined (R342, R346), unless INIT_LOST has zeroed its eighth (R343). -/
def lineTag (s : State) (ch line : Nat) : LineTag :=
  match tfind s.mems.lines (lineKey ch line) with
  | some t => if t.sealedLine = sealedCode s ch line then t else { undef := true }
  | none =>
    let cap := match (dchOf s ch).active with
      | some a => arrLines a
      | none => 1
    if bit (dchX s ch).zeroed (eighthOf cap line) then {} else { undef := true }

/-- Change the tag of a stored line. -/
def setLineTag (ch line : Nat) (t : LineTag) (s : State) : State :=
  modMems s (fun y => { y with lines := tset y.lines (lineKey ch line) t })

/-- The 64 plaintext bytes under which a line was stored. -/
def lineBytes (s : State) (ch line : Nat) : List Byte := mgetN s.mems.mem (dramPhys ch (line * 64)) 64

/-- Number of distinct bytes in error in a list of (index, mask), below a limit index. -/
def errBytes (l : List (Nat × Nat)) (limit : Nat) : Nat :=
  ((List.range limit).filter (fun i => (l.filter (fun p => p.1 == i)).foldl (fun a p => a ^^^ p.2) 0 != 0)).length

/-- What a read of a stored line finds before decryption. -/
inductive LineRead where
  | clean | corrected (bytes : Nat) | uncorr | poisoned
deriving DecidableEq, Repr

/-- The check code's outcome (R349, R352); more errors than it corrects, and undefined lines, give a free outcome. -/
def lineOutcome (t : LineTag) (free : Nat) : LineRead :=
  if t.undef then (if free % 3 = 0 then .clean else if free % 3 = 1 then .poisoned else .uncorr)
  else
    let n := if t.sealedLine then errBytes t.errs 72 else errBytes t.errs 80
    let lim := if t.sealedLine then 4 else 8
    if t.poisoned then (if n = 0 then .poisoned else .uncorr)
    else if n = 0 then .clean
    else if n ≤ lim then .corrected n
    else if free % 2 = 0 then .uncorr else .corrected n

/-- The data a read returns under a key at an address: the plaintext when key and address are those it was written with, else what decryption under the other key gives (R398, R401). Undefined and miscorrected lines give free bytes. -/
def lineData (s : State) (ch line : Nat) (key : List Byte) (addr : Nat) (free : Nat) : List Byte :=
  let t := lineTag s ch line
  let p := lineBytes s ch line
  let lim := if t.sealedLine then 4 else 8
  if t.undef then (List.range 64).map (fun i => Config.freeByte (free + i))
  else if lim < errBytes t.errs (if t.sealedLine then 72 else 80) then (List.range 64).map (fun i => Config.miscorrectByte (free + line) i)
  else if t.key = key ∧ (key = [] ∨ t.addr = addr) then p
  else (List.range 64).map (fun i => Config.crossByte t.key t.addr key addr p i)

/-- Store a line: plaintext, with the key and address it is encrypted with; the flip mask, when armed, is applied by the caller. -/
def storeLine (ch line : Nat) (l : List Byte) (t : LineTag) (s : State) : State :=
  setLineTag ch line t (setMem (msetN s.mems.mem (dramPhys ch (line * 64)) (padTo 64 l)) s)

/-- Overlay bytes whose mask bit is 1. -/
def overlayBytes (base new : List Byte) (mask : Nat) : List Byte :=
  (List.range base.length).map (fun i => if bit mask i then new.getD i 0 else base.getD i 0)

/-- What a request accepted now observes of a line: the stored line under a key, with the channel's accepted writes to it overlaid in order (R326, R327). Answers data, outcome, poison. -/
def lineView (s : State) (ch line : Nat) (key : List Byte) (addr : Nat) : List Byte × LineRead :=
  let c := dchOf s ch
  let t := lineTag s ch line
  let o := lineOutcome t (Config.freeNat s.freeCtr)
  let ws := (c.wq.filter (fun e => e.line == line)) ++ (c.merge.filter (fun e => e.line == line))
  let mask : Nat := ws.foldl (fun m e => m ||| e.mask) 0
  let data := ws.foldl (fun d e => overlayBytes d e.data e.mask) (lineData s ch line key addr s.freeCtr)
  let poison := ws.any (fun e => e.poison)
  if mask = 2 ^ 64 - 1 then (data, if poison then .poisoned else .clean)
  else (data, if poison && decide (o ≠ .uncorr) then .poisoned else o)

/-! ## Pieces of lines -/

/-- Write one whole or partial line's bytes at once, under KID 0, in its tag and its memory. -/
def pokeLine (ch line off : Nat) (l : List Byte) (s : State) : State :=
  let t := lineTag s ch line
  let base := if t.undef then List.replicate 64 0 else lineBytes s ch line
  let new := (List.range 64).map (fun i => if off ≤ i ∧ i < off + l.length then l.getD (i - off) 0 else base.getD i 0)
  let full := decide (off = 0 ∧ l.length = 64)
  let o := lineOutcome t (Config.freeNat s.freeCtr)
  storeLine ch line new { poisoned := !full && (decide (o = .uncorr) || decide (o = .poisoned)) } s

/-! ## Headwater's own accesses (R570) -/

/-- A chunk of at most 64 bytes within one line, as Headwater reads it with KID 0; none for any STATUS other than OK. -/
def hwReadLine (s : State) (a n : Nat) : Option (List Byte) :=
  match addrTarget (mapOf s 0x00) a with
  | none => none
  | some ep =>
    if fenced s ep then none
    else if 0x10 ≤ ep ∧ ep < 0x20 then
      match dramDecode (mapOf s 0x00) a with
      | none => none
      | some (ch, loc) =>
        if inWindow s a then none
        else
          let v := lineView s ch (loc / 64) [] (a / 64 * 64)
          match v.2 with
          | .clean => some ((v.1.drop (loc % 64)).take n)
          | .corrected _ => some ((v.1.drop (loc % 64)).take n)
          | _ => none
    else if (0x08 ≤ ep ∧ ep < 0x10) ∨ (0x40 ≤ ep ∧ ep < 0x58) then
      let bad := (wordsOf a n).any (fun w =>
        let o := wordOutcome (wordTag s w) (Config.freeNat (s.freeCtr + w))
        decide (o = .uncorr) || decide (o = .poisoned))
      let merge := if ep < 0x10 then (bgroupOf s (ep - 0x08)).merge else []
      let byte := fun i =>
        match merge.find? (fun e => e.word == (a + i) / 8 && bit e.mask ((a + i) % 8)) with
        | some e => e.data.getD ((a + i) % 8) 0
        | none => mget s.mems.mem (a + i)
      if bad || merge.any (fun e => e.poison && (wordsOf a n).contains e.word) then none else some ((List.range n).map byte)
    else none

/-- The argument bytes Headwater reads, or none when some read does not end OK (R570). -/
def hwRead (s : State) (a n : Nat) : Option (List Byte) :=
  match n with
  | 0 => some []
  | k + 1 =>
    let chunks := (List.range ((a + k) / 64 - a / 64 + 1)).map (fun i =>
      let b := max a ((a / 64 + i) * 64)
      hwReadLine s b (min (a + n) ((a / 64 + i + 1) * 64) - b))
    chunks.foldr (fun c r => match c, r with
      | some x, some y => some (x ++ y)
      | _, _ => none) (some [])

/-- Instruction memory may be written (R306). -/
def imWritable (s : State) (k : Nat) : Bool :=
  let st := (engOf s k).st
  st == .reset || st == .stopped || st == .halted

/-- Headwater, Scour and Tideline write results to memory with KID 0: none when some write does not end OK. -/
def hwWriteByteOk (s : State) (a : Nat) : Bool :=
  match addrTarget (mapOf s 0x00) a with
  | none => false
  | some ep => !fenced s ep && !inWindow s a && (decide (0x08 ≤ ep ∧ ep < 0x20) ||
      (decide (0x40 ≤ ep ∧ ep < 0x58) && !(decide (0x200000000 ≤ a ∧ (a - 0x200000000) % 0x40000 < 0x10000) && !(imWritable s ((a - 0x200000000) / 0x40000)))))

/-- Write one byte of a result where it lives. -/
def hwWriteByte (a : Nat) (b : Byte) (s : State) : State :=
  if dramBase ≤ a ∧ a < dramEnd then
    match dramDecode (mapOf s 0x00) a with
    | some (ch, loc) =>
      modDch ch (fun c =>
        { c with wq := c.wq.filter (fun e => e.line != loc / 64), merge := c.merge.filter (fun e => e.line != loc / 64),
                 cam := c.cam - ((c.wq ++ c.merge).filter (fun e => e.line == loc / 64 && !e.untracked)).length })
        (let v := lineView s ch (loc / 64) [] (a / 64 * 64)
         storeLine ch (loc / 64) ((List.range 64).map (fun i => if i = loc % 64 then b else v.1.getD i 0))
          { poisoned := decide (v.2 = .uncorr) || decide (v.2 = .poisoned) } s)
    | none => s
  else
    let t := setMem (mset s.mems.mem a b) (setWordTag (a / 8) { bits := 0, poisoned := (wordTag s (a / 8)).poisoned } s)
    if a < basinBase + 0x4000000 then
      modBgroup ((a - basinBase) / 8388608) (fun g =>
        { g with merge := g.merge.map (fun e => if e.word = a / 8 then { e with data := (padTo 8 e.data).set (a % 8) b } else e) }) t
    else t

/-- Write a result; none when some byte's write does not end OK (nothing is then written). -/
def hwWrite (a : Nat) (l : List Byte) (s : State) : Option State :=
  if (List.range l.length).all (fun i => hwWriteByteOk s (a + i)) then
    some ((List.range l.length).foldl (fun t i => hwWriteByte (a + i) (l.getD i 0) t) s)
  else none

end Sys2Proof.Machine
end

