-- ==== Sys2Proof/Machine/BraidOps.lean ====
section
/-! DEFINITION. Braid operations: route tables, packets, requests and their completions, weir counts (chapter 03). -/

namespace Sys2Proof.Machine
open Sys2Proof

/-! ## Routes -/

/-- A list of turn codes as the 48-bit ROUTE field, code 0 in bits [2:0] (Table 3.7). -/
def packRoute (l : List Nat) : Nat := l.foldr (fun c r => c + 8 * r) 0

/-- The default string of R631: all W codes, then N or S, then E, then the local code. -/
def defaultRoute (src dst : Nat) : Nat :=
  let a := epRouter src
  let b := epRouter dst
  packRoute (List.replicate (colOf a - colOf b) 4 ++ List.replicate (rowOf a - rowOf b) 1 ++
    List.replicate (rowOf b - rowOf a) 3 ++ List.replicate (colOf b - colOf a) 2 ++ [epPort dst])

/-- Default entry (R631): VALID and the string; 0 for the NI's own ID and for IDs Table 1.2 does not list. -/
def defaultEntry (src dst : Nat) : Nat :=
  if epListed dst && src != dst then 2 ^ 63 + defaultRoute src dst else 0

/-- Route-table entry of a destination in force at an NI (R90). -/
def routeEntry (s : State) (ni dst : Nat) : Nat := tget (niOf s ni).routes (defaultEntry ni dst) dst

/-- ROUTE of a valid entry. -/
def routeOf (s : State) (ni dst : Nat) : Option Nat :=
  if bit (routeEntry s ni dst) 63 then some (routeEntry s ni dst % 2 ^ 48) else none

/-- Turn codes of a ROUTE, all 16. -/
def unpackRoute (r : Nat) : List Nat := (List.range 16).map (fun i => (r / 8 ^ i) % 8)

/-- Routers a string visits from a router, with the output code taken at each; stops at a local or END code. -/
def walkRoute (r : Nat) (codes : List Nat) : List (Nat × Nat) :=
  match codes with
  | [] => []
  | c :: cs => if 1 ≤ c ∧ c ≤ 4 then (r, c) :: walkRoute (neighbour r c) cs else [(r, c)]

/-- Die crossings on a walk before each of its routers (R142). -/
def crossBefore (w : List (Nat × Nat)) (j : Nat) : Nat := ((w.take j).filter (fun p => crossing p.1 p.2)).length

/-! ## Flits and packets -/

/-- Flits of a packet (Table 3.2). -/
def flitCount (p : Packet) : Nat :=
  match p.op with
  | .wr => 1 + (p.len + 127) / 128
  | .wrp => if p.vc = 2 then 1 else 1 + (p.len + 127) / 128
  | .rsp => 1 + (p.len + 127) / 128
  | _ => 1

/-- The flits of a packet; data flits whose number is in `poison` carry POISON (R77). -/
def flitsOf (p : Packet) : List Flit :=
  let n := flitCount p
  (List.range n).map (fun i =>
    { pkt := p, idx := i, isHead := i == 0, isLast := i + 1 == n, poison := if i = 0 then (n == 1 && p.poison != []) else p.poison.contains (i - 1) })

/-! ## The words of a flit (R75, R80, Tables 3.2 to 3.5) -/

/-- Code of an OP (Table 3.2). -/
def opCode (o : Op) : Nat :=
  match o with
  | .rd => 0
  | .wr => 1
  | .wrp => 2
  | .atom => 3
  | .msg => 4
  | .rsp => 5
  | .probe => 6

/-- OP of a code; codes beyond Table 3.2 are never generated. -/
def opOf (c : Nat) : Op :=
  match c with
  | 0 => .rd
  | 1 => .wr
  | 2 => .wrp
  | 3 => .atom
  | 4 => .msg
  | 5 => .rsp
  | _ => .probe

/-- Status codes of Table 3.11. -/
def statusCode (st : Status) : Nat :=
  match st with
  | .ok => 0
  | .okPoison => 1
  | .timeout => 2
  | .fenced => 3
  | .denied => 4
  | .decode => 5
  | .uncorrectable => 6
  | .keyRetired => 7
  | .collide => 8
  | .route => 9
  | .farUnreachable => 10

/-- Control field of a head flit (Table 3.5); a field that does not apply to the OP is 0 (R80). -/
def headField (p : Packet) : Nat :=
  (if flitCount p = 1 then 3 else 0) * 2 ^ 254 + p.vc % 4 * 2 ^ 252 + p.dst % 256 * 2 ^ 244 + p.src % 256 * 2 ^ 236 + b2n p.far * 2 ^ 235 +
  (if p.far then p.farId % 2 ^ 14 else 0) * 2 ^ 221 + p.srcDev % 2 ^ 14 * 2 ^ 207 + p.route % 2 ^ 48 * 2 ^ 159 + p.urg % 16 * 2 ^ 155 + opCode p.op * 2 ^ 151 +
  p.len % 1024 * 2 ^ 141 + p.addr % 2 ^ 48 * 2 ^ 93 + p.kid % 64 * 2 ^ 87 + p.pageHint % 4 * 2 ^ 85 + (b2n p.debug + 2 * b2n p.dma + 4 * b2n p.sealedAttr) * 2 ^ 81 +
  p.tag % 256 * 2 ^ 73 + (if p.op = .rsp then statusCode p.status else 0) * 2 ^ 69 + p.wait % 2 ^ 16 * 2 ^ 53 + (if p.vc = 2 then p.flow % 2 ^ 12 else 0) * 2 ^ 41 + p.deadline % 2 ^ 32 * 2 ^ 9

/-- Control field of a data flit (Table 3.3). -/
def dataField (f : Flit) : Nat :=
  (if f.isLast then 2 else 1) * 2 ^ 254 + f.pkt.vc % 4 * 2 ^ 252 + (f.idx - 1) % 4 * 2 ^ 250 + b2n f.poison * 2 ^ 249

/-- The head carries its payload itself: a sluice flit, an ATOM, a MSG, an ATOM's answer (Table 3.2). -/
def headCarries (p : Packet) : Bool := p.vc == 2 || p.op == .atom || p.op == .msg || (p.op == .rsp && p.len == 0)

/-- The 128 data bytes of a flit (Table 3.2, R77). -/
def flitData (f : Flit) : List Byte :=
  padTo 128 (if f.isHead then (if headCarries f.pkt then f.pkt.data else []) else f.pkt.data.drop (128 * (f.idx - 1)))

/-- The 160 bytes of a flit: control-field bytes 0-31, then data bytes 0-127 (R222). -/
def flitBytes (f : Flit) : List Byte := leBytes 32 (if f.isHead then headField f.pkt else dataField f) ++ flitData f

/-- Ones in a byte. -/
def byteOnes (b : Byte) : Nat := ((List.range 8).filter (fun i => bit b.toNat i)).length

/-- Parity bit that a byte travels with: odd parity (R75). -/
def parityBit (b : Byte) : Bool := byteOnes b % 2 == 0

/-- The parity bits of a flit as its sender, or a router that changed its control field, generates them (R75). -/
def flitParity (f : Flit) : List Bool := (flitBytes f).map parityBit

/-- The check of a receiver: every byte with its parity bit holds an odd number of ones (R75). The parity operand of an arrival says that this check fails. -/
def parityHolds (bytes : List Byte) (par : List Bool) : Bool := (bytes.zip par).all (fun x => (byteOnes x.1 + b2n x.2) % 2 == 1)

/-! ## What a packet's OP and way mean -/

/-- A request has a response (R101, R117). -/
def nonPosted (o : Op) : Bool :=
  match o with
  | .rd => true
  | .wr => true
  | .atom => true
  | .probe => true
  | _ => false

/-- Braid cycles a flit is on its way: 4 into the first router, 1 between routers, 4 more across a die boundary, 1 + 4 into and through the delivering NI (R74, R9). -/
def wireDelay (w : Wire) : Nat :=
  match w.hop with
  | .input r p => if 5 ≤ p then 4 else if crossing r p then 5 else 1
  | .ni _ => 5

/-- Cycles from a flit's leaving an input buffer to the use of its credit upstream: the loop of a link, from output to output, is 6 cycles, or 14 over a die crossing, and the flit takes 3 or 7 of them (R85). -/
def creditDelay (r port : Nat) : Nat := if 5 ≤ port then 1 else if crossing r port then 7 else 3

/-- The flit has arrived at the end of its link. -/
def wireDue (s : State) (w : Wire) : Bool := decide (w.sentAt + wireDelay w ≤ s.time)

/-- Buffer size of a VC (Table 3.6). -/
def vcDepth (vc : Nat) : Nat := if vc = 2 then 4 else 8

/-! ## Classes -/

/-- VC of a request (R12, R13). Stylus and PMC send every request on VC3, an ATOM too, though Table 3.2 lists ATOM on VC0 alone (R13 over Table 3.2; DESIGN CHOICE, log entry 82). -/
def reqVc (ep : Nat) (op : Op) : Nat :=
  if ep = 0x06 ∨ ep = 0x5B then 3
  else if op = .msg ∧ (ep = 0x00 ∨ ep = 0x02 ∨ ep = 0x04) then 3 else 0

/-- Endpoint is an engine quad. -/
def isQuad (ep : Nat) : Bool := decide (0x40 ≤ ep ∧ ep < 0x58)

/-- Endpoint is a reach port. -/
def isReach (ep : Nat) : Bool := decide ((0x30 ≤ ep ∧ ep < 0x40) ∨ (0x60 ≤ ep ∧ ep < 0x70))

/-- OUT_VALID of a reach's ports is clamped to 0: its outputs reach no NI (R439). -/
def outClamped (s : State) (ep : Nat) : Bool := isReach ep && (reachOf s (ep % 16)).stage2

/-- Starting URG (Table 3.10). -/
def startUrg (ep vc : Nat) (bulk : Bool) : Nat :=
  if vc = 3 then 8
  else if bulk && (isQuad ep || isReach ep) then 0
  else if ep = 0x01 ∨ ep = 0x02 then 0 else if ep = 0x03 then 1 else 2

/-- DMA attribute (R81). -/
def dmaAttr (ep agent : Nat) : Bool := ep == 0x07 || (isQuad ep && decide (4 ≤ agent)) || decide (0x60 ≤ ep ∧ ep < 0x70)

/-- KID-in-address mode (Table 10.2). -/
def kidInAddr (ep : Nat) : Bool := isQuad ep || ep == 0x07

/-- Initiators that choose a KID per request (Table 10.2). -/
def kidChosen (ep : Nat) : Bool := isReach ep || ep == 0x00 || ep == 0x59 || ep == 0x03

/-- ORB share of an initiator within its NI (R256). -/
def orbShare (ep agent : Nat) : Nat := if isQuad ep then min agent 4 else 0

/-- ORBs of a share (R101, R256). -/
def shareSize (ep share : Nat) : Nat := if isQuad ep then (if share < 4 then 12 else 16) else 64

/-- A free ORB index of a share, if there is one. -/
def freeOrb (s : State) (ep share : Nat) : Option Nat :=
  let n := niOf s ep
  if (n.orbs.filter (fun o => o.share == share)).length < shareSize ep share then
    findFrom (fun i => !(n.orbs.any (fun o => o.index == i))) 0 64
  else none

/-! ## Events and discards -/

/-- A Braid event of a router, with port, VC, DST, SRC and TAG (R135). -/
def braidEv (router cause sev port : Nat) (p : Packet) (s : State) : State :=
  raiseEv (320 + router) cause sev (leBytes 1 port ++ leBytes 1 p.vc ++ leBytes 1 p.dst ++ leBytes 1 p.src ++ leBytes 1 p.tag) s

/-- Count at an NI. -/
def niCount (ep k : Nat) (s : State) : State := modNi ep (fun n => { n with ctr := tinc n.ctr k }) s

/-- Count at a router. -/
def routerCount (r k : Nat) (s : State) : State := modRouter r (fun n => { n with ctr := tinc n.ctr k }) s

/-- Discard a posted packet at an NI (R117). -/
def discardAtNi (ep : Nat) (p : Packet) (s : State) : State :=
  let t := niCount ep 8 s
  if p.ev.isSome then t else braidEv (epRouter ep) 5 1 (epPort ep) p t

/-- Discard a posted packet at a router (R117). -/
def discardAtRouter (r port : Nat) (p : Packet) (s : State) : State :=
  let t := routerCount r 0 s
  if p.ev.isSome then t else braidEv r 5 1 port p t

/-! ## Completions (R79) -/

/-- First STATUS other than OK in address order. -/
def firstStatus (ps : List Part) : Status :=
  match ps with
  | [] => .ok
  | p :: r => if p.status = .ok then firstStatus r else p.status

/-- A part is answered; when it is the last, the initiator gets its one completion: first STATUS other than OK in address order, largest WAIT (R79); a completion owed to an engine that has been reset is discarded (R313). `least` is the least round trip of a local answer (R116). -/
def finishPart (pid : Nat) (st : Status) (wait : Nat) (data : List Byte) (least : Nat) (s : State) : State :=
  match s.braid.groups.find? (fun g => g.parts.any (fun p => p.pid == pid)) with
  | none => s
  | some g =>
    let ps := g.parts.map (fun p => if p.pid = pid then { p with answered := true, status := st, wait := wait, data := data } else p)
    if ps.all (fun p => p.answered) then
      let rt := max least (s.time - g.presentedAt)
      let c : Completion := { gid := g.gid, ep := g.ep, agent := g.agent, op := g.op, status := firstStatus ps, wait := ps.foldl (fun m p => max m p.wait) 0, data := ps.foldl (fun d p => d ++ p.data) [], parts := ps, rt := rt, doneAt := g.presentedAt + rt }
      let gone := s.eng.dead.contains g.gid
      modEngines (modBraid s (fun b => { b with groups := b.groups.filter (fun x => x.gid != g.gid), completions := if gone then b.completions else b.completions ++ [c] })) (fun y => { y with dead := ldel y.dead g.gid })
    else modBraid s (fun b => { b with groups := b.groups.map (fun x => if x.gid = g.gid then { x with parts := ps } else x) })

/-- Release the packets held for a destination and VC (R98). -/
def releaseHold (ep dst vc : Nat) (s : State) : State :=
  modNi ep (fun n => { n with holds := n.holds.filter (fun h => !(h.dst == dst && h.vc == vc)) }) s

/-- The initiator NI answers locally: FENCED, DECODE, ROUTE, DENIED or FAR_UNREACHABLE, with WAIT 0 after 8 cycles (R116); a posted packet is discarded (R117). -/
def localAnswer (ep : Nat) (p : Packet) (st : Status) (s : State) : State :=
  if nonPosted p.op then
    finishPart p.pid st 0 [] 8 (match st with
      | .fenced => niCount ep 2 s
      | .decode => niCount ep 3 s
      | .route => niCount ep 4 s
      | _ => s)
  else discardAtNi ep p s

/-! ## Requests -/

/-- Where an access must be divided: the next aligned 512-byte boundary, and in a region of grain 256 the next grain boundary (R79). -/
def nextCut (map : List Region) (a : Nat) : Nat :=
  let b := (a / 512 + 1) * 512
  match map.find? (fun r => inRegion r (a - dramBase)) with
  | some r => if dramBase ≤ a ∧ a < dramEnd ∧ r.grain < 9 then (a / 256 + 1) * 256 else b
  | none => b

/-- The parts of an access: (offset, length) (R79, R299). -/
def cutAccess (map : List Region) (a off len fuel : Nat) : List (Nat × Nat) :=
  match fuel with
  | 0 => []
  | f + 1 =>
    if len = 0 then []
    else
      let n := min len (nextCut map a - a)
      (off, n) :: cutAccess map (a + n) (off + n) (len - n) f

/-- Address a request carries: KID bits cleared in KID-in-address mode; bits [4:3] of a lock-unit access replaced by the engine's index (R29, R64, R297). -/
def reqAddr (ep agent : Nat) (r : Req) : Nat :=
  let a := if kidInAddr ep then r.addr % 2 ^ 42 else r.addr
  if isQuad ep && decide (agent < 4) && decide (0xB800000 ≤ a ∧ a < 0xBA00000) && !r.far then a / 32 * 32 + agent * 8 + a % 8 else a

/-- KID a request carries (R29, R394). -/
def reqKid (ep : Nat) (r : Req) : Nat :=
  if kidInAddr ep then bits r.addr 47 42 else if kidChosen ep then r.kid else 0

/-- The Ferry channel an address names, if it lies in the channel range. -/
def ferryChanOf (a : Nat) : Option Nat := if 0xA00000 ≤ a ∧ a < 0xA10000 then some ((a - 0xA00000) / 0x200) else none

/-- Exit lane quad of a far packet at an NI: the far table's port, when valid (R231). -/
def farEntry (s : State) (ep dev : Nat) : Nat := tget (if s.delta.farPending.contains ep then s.delta.farOld else s.delta.far) 0 dev

/-- The packet's destination is on another device (R230). -/
def leaving (s : State) (p : Packet) : Bool := p.far && p.farId != s.delta.deviceId

/-- The packet came from another device: it holds no ORB here and keeps its DEADLINE (R232, R113). -/
def fromFar (s : State) (p : Packet) : Bool := p.far && p.srcDev != s.delta.deviceId

/-- NI toward which a packet travels inside this device: its DST, or the exit lane quad of a far packet (R231). -/
def legDst (s : State) (ep : Nat) (p : Packet) : Nat :=
  if leaving s p then 0x20 + p.exit.getD (farEntry s ep p.farId % 64) / 4 else p.dst

/-- A packet of a quad for itself turns around in its NI and never enters Braid (R257); so does what a Delta port brings to the quad of its exit port or of its destination (R231, R232; DEDUCED, log entry 95). -/
def turnsAround (s : State) (ep : Nat) (p : Packet) : Bool := legDst s ep p == ep && p.op != .probe && (p.far || p.op == .rsp || isQuad ep)

/-- The flits of a packet that turns around: delivered 4 Braid cycles after the cycle that follows `at_` (R257). -/
def turnAround (ep at_ : Nat) (p : Packet) (s : State) : State :=
  modBraid s (fun b => { b with wires := b.wires ++ (flitsOf p).map (fun f => { hop := .ni ep, flit := f, sentAt := at_ + f.idx }) })

/-- EV466 of a far failure: the port, 0xFF where no port is concerned, FAR_ID, DST, SRC (Table 6.6, R252; the order is a DESIGN CHOICE, log entry 17). -/
def farEv (ni cause port : Nat) (p : Packet) (s : State) : State :=
  raiseEvAt (some ni) 466 cause 2 (leBytes 1 port ++ leBytes 1 0 ++ leBytes 2 p.farId ++ leBytes 1 p.dst ++ leBytes 1 p.src) s

/-- Port a far entry names is the Twin link when the partner is addressed through it; ports are 0-63. -/
def farExitUp (s : State) (ep dev : Nat) : Bool := decide ((portOf s (farEntry s ep dev % 64)).st = .up)

/-- The packet with the exit port its NI's far table names. -/
def withExit (s : State) (ep : Nat) (p : Packet) : Packet := { p with exit := some (farEntry s ep p.farId % 64) }

/-- LVC by which a packet leaves a port (R223, R237). -/
def outLvc (s : State) (port : Nat) (p : Packet) : Nat := p.vc + (if p.set1 || (portOf s port).dateline then 4 else 0)

/-- Ask the exit lane quad for room (R237). -/
def askReserve (ep : Nat) (p : Packet) (s : State) : State :=
  let t : Token := { id := s.braid.nextPid, src := ep, dst := legDst s ep p, kind := .request (flitCount p) (p.exit.getD 0 * 8 + outLvc s (p.exit.getD 0) p) p.pid }
  modBraid s (fun b => { b with tokens := b.tokens ++ [t], nextPid := b.nextPid + 1 })

/-- Reserve an ORB for a waiting packet, when its share has a free one (R101). -/
def reserveOrb (ep : Nat) (p : Packet) (s : State) : Packet × State :=
  if nonPosted p.op && p.orb.isNone && !(fromFar s p) then
    let sh := orbShare ep p.agent
    match freeOrb s ep sh with
    | some i =>
      ({ p with orb := some i, tag := i },
        modNi ep (fun n => { n with orbs := n.orbs ++ [{ index := i, pid := p.pid, share := sh, agent := p.agent, group := p.group, dst := p.dst, vc := p.vc, probe := decide (p.op = .probe), far := p.far }] }) s)
    | none => (p, s)
  else (p, s)

/-- A target NI refuses an access to a protected range: EV389, once in 1 ms for each range at each NI (R430). -/
def protectEv (ep range : Nat) (p : Packet) (s : State) : State :=
  raiseLimitedAt (some ep) (3890000 + 256 * range + ep) msCycles 389 1 1 (leBytes 1 range ++ leBytes 1 p.src ++ leBytes 6 p.addr) s

/-- A mover request that would turn around at its own quad meets the same check (R429). -/
def protectTurn (ep : Nat) (p : Packet) (s : State) : Option State :=
  if p.dma then
    (protectHit s p.addr p.len).map (fun r =>
      let t := protectEv ep r p s
      if nonPosted p.op then finishPart p.pid .denied 0 [] 8 t else discardAtNi ep p t)
  else none

/-- One part of an access at its NI: decode, fence, turn-around, far entry, then the waiting list (R28, R36, R91, R116, R120, R233, R257). -/
def presentPart (ep : Nat) (p : Packet) (badKid : Bool) (s : State) : State :=
  let n := niOf s ep
  if p.far then
    if fenced s ep then localAnswer ep p .fenced s
    else if !(bit (farEntry s ep p.farId) 7) then localAnswer ep p .farUnreachable (farEv ep 1 0xFF p s)
    else if !(farExitUp s ep p.farId) then localAnswer ep p .farUnreachable (farEv (0x20 + farEntry s ep p.farId % 64 / 4) 2 (farEntry s ep p.farId % 64) p s)
    else if n.down then localAnswer ep p .route s
    else
      let (q, t) := reserveOrb ep (withExit s ep p) s
      askReserve ep q (modNi ep (fun m => { m with queue := m.queue ++ [q] }) t)
  else
    match (if badKid then none else addrTarget (mapOf s ep) p.addr) with
    | none => localAnswer ep p .decode s
    | some dst =>
      let p := { p with dst := dst }
      let sibling := match ferryChanOf p.addr with
        | some c => dst == 0x05 && isQuad ep && decide (p.agent < 4) && decide (c / 4 = ep - 0x40) && decide (c % 4 ≠ p.agent)
        | none => false
      if fenced s ep || fenced s dst then localAnswer ep p .fenced s
      else if sibling then localAnswer ep p .denied (raiseEv 444 1 1 (leBytes 1 ep ++ leBytes 1 p.agent ++ leBytes 4 p.addr) s)
      else if isQuad ep && dst == ep then
        match protectTurn ep p s with
        | some t => t
        | none =>
          let (q, t) := reserveOrb ep p s
          modNi ep (fun m => { m with queue := m.queue ++ [q] }) t
      else if n.down then localAnswer ep p .route s
      else
        let (q, t) := reserveOrb ep p s
        modNi ep (fun m => { m with queue := m.queue ++ [q] }) t

/-- Data flits of the `len` bytes from `off` on that hold a bad byte (R371). -/
def poisonFlits (bad : List (Nat × Nat)) (off len : Nat) : List Nat :=
  (List.range (max 1 ((len + 127) / 128))).filter (fun i => bad.any (fun r => overlaps (off + 128 * i) (min 128 (len - 128 * i)) r.1 r.2))

/-- Ranges of a completed access whose data came with POISON. A part that ends OK_POISON with no flit marked is bad throughout. -/
def badRanges (c : Completion) : List (Nat × Nat) :=
  c.parts.flatMap (fun p =>
    if p.status = .okPoison ∧ p.poison = [] then [(p.off, p.len)] else p.poison.map (fun i => (p.off + 128 * i, min 128 (p.len - 128 * i))))

/-- The flits of a part's answer that came with POISON. -/
def notePoison (pid : Nat) (poison : List Nat) (s : State) : State :=
  if poison = [] then s
  else modBraid s (fun b => { b with groups := b.groups.map (fun g => { g with parts := g.parts.map (fun p => if p.pid = pid then { p with poison := poison } else p) }) })

/-- An initiator presents an access at its NI: it is divided (R79, R299), each part decoded and checked; answers the number of the access. -/
def presentReq (ep agent : Nat) (r : Req) (s : State) : Nat × State :=
  let gid := s.braid.nextPid
  let far := r.far && r.farDev != s.delta.deviceId
  let a := reqAddr ep agent { r with far := far }
  let kid := reqKid ep r
  let badKid := kidInAddr ep && decide (kid ≠ 0) && !(decide (dramBase ≤ a ∧ a < dramEnd)) && !far
  let split := decide (r.op = .rd ∨ r.op = .wr ∨ r.op = .wrp)
  let cuts := if split then cutAccess (mapOf s ep) a 0 r.len 16 else [(0, r.len)]
  let vc := reqVc ep r.op
  let base : Packet := { vc := vc, dst := r.farEp, src := ep, far := far, farId := r.farDev, srcDev := if far then s.delta.deviceId else 0, urg := startUrg ep vc r.bulk, op := r.op, kid := kid, pageHint := r.pageHint, debug := ep == 0x06 || (ep == 0x00 && r.debug), dma := dmaAttr ep agent, agent := agent, group := gid, presentedAt := s.time }
  let pkts := cuts.zipIdx.map (fun (c, i) =>
    { base with pid := gid + 1 + i, addr := a + c.1, len := c.2, data := if split then (r.data.drop c.1).take c.2 else r.data, poison := poisonFlits r.poison c.1 c.2 })
  let g : Group := { gid := gid, ep := ep, agent := agent, op := r.op, presentedAt := s.time, parts := pkts.map (fun p => { pid := p.pid, off := p.addr - a, len := p.len }) }
  let t := modBraid s (fun b => { b with nextPid := gid + 1 + pkts.length, groups := if nonPosted r.op then b.groups ++ [g] else b.groups })
  (gid, forAll pkts (fun u p => presentPart ep p badKid u) t)

/-- A completion has reached its initiator (R116, R156). -/
def hasCome (s : State) (c : Completion) : Bool := decide (c.doneAt ≤ s.time)

/-- Take the completion of an access, if it has come. -/
def takeCompletion (gid : Nat) (s : State) : Option (Completion × State) :=
  match s.braid.completions.find? (fun c => c.gid == gid && hasCome s c) with
  | none => none
  | some c => some (c, modBraid s (fun b => { b with completions := b.completions.filter (fun x => x.gid != gid) }))

/-! ## Delivered requests and their responses -/

/-- The delivered request a command serves. -/
def inboxFind (s : State) (ep pid : Nat) : Option Delivered := s.braid.inbox.find? (fun d => d.ep == ep && d.pkt.pid == pid)

/-- The delivered request at any endpoint. -/
def inboxAny (s : State) (pid : Nat) : Option Delivered := s.braid.inbox.find? (fun d => d.pkt.pid == pid)

/-- Take a request out of the inbox. -/
def inboxDrop (pid : Nat) (s : State) : State := modBraid s (fun b => { b with inbox := b.inbox.filter (fun d => d.pkt.pid != pid) })

/-- A memory or channel is awake: the requests that waited for it start now, and have waited until now (R158). -/
def restartInbox (ep : Nat) (s : State) : State :=
  modBraid s (fun b => { b with inbox := b.inbox.map (fun d =>
    if d.ep = ep ∧ 0x10000000 ≤ d.pkt.addr ∧ d.at_ < s.time then { d with pkt := { d.pkt with wait := min 0xFFFF (d.pkt.wait + (s.time - d.at_)) }, at_ := s.time } else d) })

/-- The signed difference of a value of BRAID_NOW and a DEADLINE is positive (R110). -/
def isPast (now d : Nat) : Bool :=
  let x := (now % 2 ^ 32 + 2 ^ 32 - d % 2 ^ 32) % 2 ^ 32
  decide (0 < x ∧ x < 2 ^ 31)

/-- The endpoint (or its NI) ends a request with a STATUS: a response goes into the NI, starting from the request's WAIT plus the cycles beyond the fixed part (R113, R117, Table 4.7); a NI whose local port is down discards it (R128). A posted packet ends here. -/
def respond (ep : Nat) (p : Packet) (deliveredAt fixed : Nat) (st : Status) (data : List Byte) (poison : List Nat) (sealedOk : Bool) (s : State) : State :=
  if !(nonPosted p.op) then (if st = .ok ∨ st = .okPoison then s else discardAtNi ep p s)
  else
    let wait := min 0xFFFF (p.wait + (s.time - deliveredAt - fixed))
    if !p.far && isPast (max s.time (deliveredAt + fixed) - s.braid.epoch) p.deadline then niCount ep 7 s
    else
      let far := p.far && p.srcDev != s.delta.deviceId
      let q : Packet := { pid := p.pid, vc := 1, dst := p.src, src := ep, far := far, farId := p.srcDev, srcDev := if far then s.delta.deviceId else 0, urg := p.urg, op := .rsp, len := if p.op = .atom then 0 else data.length, sealedAttr := sealedOk, tag := p.tag, status := st, wait := wait, deadline := p.deadline, data := data, poison := poison, agent := 8, presentedAt := max s.time (deliveredAt + fixed), set1 := false }
      if turnsAround s ep q then turnAround ep (q.presentedAt - 1) q s
      else if (niOf s ep).down then discardAtNi ep q s
      else if far && !(bit (farEntry s ep p.srcDev) 7) then discardAtNi ep q (farEv ep 1 0xFF q s)
      else
        let q := if far then withExit s ep q else q
        let t := modNi ep (fun n => { n with queue := n.queue ++ [q] }) s
        if far then askReserve ep q t else t

/-- End a delivered request and take it out of the inbox. -/
def respondInbox (d : Delivered) (fixed : Nat) (st : Status) (data : List Byte) (s : State) : State :=
  respond d.ep d.pkt d.at_ fixed st data [] false (inboxDrop d.pkt.pid s)

/-- Status of a code; codes beyond Table 3.11 do not occur. -/
def statusOf (c : Nat) : Status :=
  match c with
  | 0 => .ok
  | 1 => .okPoison
  | 2 => .timeout
  | 3 => .fenced
  | 4 => .denied
  | 5 => .decode
  | 6 => .uncorrectable
  | 7 => .keyRetired
  | 8 => .collide
  | 9 => .route
  | _ => .farUnreachable

/-! ## Packets that lie at an NI -/

/-- Two packets come from one source on one VC: they are delivered in the order they came (R87). -/
def sameSource (a b : Packet) : Bool := a.src == b.src && a.vc == b.vc && a.far == b.far && (!a.far || a.srcDev == b.srcDev)

/-- A packet is the first of its source and VC that lies at an NI (R87). -/
def firstAtNi (s : State) (ep : Nat) (p : Packet) : Bool :=
  (s.braid.wires.find? (fun w => decide (w.hop = .ni ep) && sameSource w.flit.pkt p)).all (fun w => w.flit.pkt.pid == p.pid)

/-- When the last flit of a packet has come through its delivering NI. -/
def arrivedAt (s : State) (ep pid : Nat) : Nat :=
  (s.braid.wires.filter (fun w => decide (w.hop = .ni ep) && w.flit.pkt.pid == pid)).foldl (fun m w => max m (w.sentAt + wireDelay w)) 0

/-- Flits of a VC that an endpoint has not yet taken: on the way through its NI, or delivered and not accepted. A reach takes what is delivered (R103); a quad's own requests never came over the link (R257). -/
def heldAtNi (s : State) (ep vc : Nat) : Nat :=
  (s.braid.wires.filter (fun w => decide (w.hop = .ni ep) && w.flit.pkt.vc == vc && !(w.flit.pkt.src == ep && !w.flit.pkt.far))).length +
  (if isReach ep then 0 else (s.braid.inbox.filter (fun d => d.ep == ep && d.pkt.vc == vc && !(d.pkt.src == ep && !d.pkt.far))).foldl (fun n d => n + flitCount d.pkt) 0)

/-! ## Weir counts (R123) -/

/-- Flits anywhere between an NI and an NI. -/
def flitsInFlight (s : State) : List Flit :=
  s.braid.wires.map (fun w => w.flit) ++ (s.braid.routers.foldl (fun l r => l ++ r.2.buf.map (fun b => b.2)) [])

/-- A packet that a gate counts as a request: no response, no PROBE, no event record, no VC2 flit (R123). -/
def isRequest (p : Packet) : Bool := p.op != .rsp && p.op != .probe && p.vc != 2 && p.ev.isNone

/-- INBOUND of a gate is zero: every request injected toward its endpoints has been answered, and its answer has left; a posted one has been delivered (R123). -/
def inboundZero (s : State) (g : Nat) : Bool :=
  (flitsInFlight s).all (fun f => !(f.isHead && isRequest f.pkt && !(leaving s f.pkt) && covers g f.pkt.dst)) &&
  s.braid.inbox.all (fun d => !(isRequest d.pkt && covers g d.ep)) &&
  s.braid.nis.all (fun n => !(covers g n.1) || n.2.queue.all (fun p => p.op != .rsp)) &&
  s.mems.groups.all (fun b => !(covers g (0x08 + b.1)) || b.2.queue.all (fun d => !(isRequest d.pkt))) &&
  s.dram.chans.all (fun c => !(covers g (0x10 + c.1)) || (c.2.pending.all (fun d => !(isRequest d.pkt)) && c.2.hold.all (fun p => !(isRequest p)))) &&
  s.twin.queue.all (fun m => !(covers g (0x10 + m.channel)) || !(nonPosted m.pkt.op))

/-- OUTBOUND of a gate is zero: no request of its endpoints waits in its NI, is owed a response, or is on its way as a posted one (R123). -/
def outboundZero (s : State) (g : Nat) : Bool :=
  let ours := fun (p : Packet) => isRequest p && !(fromFar s p) && covers g p.src
  s.braid.nis.all (fun n => !(covers g n.1) || n.2.orbs.isEmpty) &&
  s.braid.nis.all (fun n => n.2.queue.all (fun p => !(ours p))) &&
  (flitsInFlight s).all (fun f => !(f.isHead && ours f.pkt)) && s.braid.inbox.all (fun d => !(ours d.pkt))

/-- TRANSIT of a gate is zero: a router gate's router, or the routers of a BRAID domain. -/
def transitZero (s : State) (g : Nat) : Bool :=
  s.braid.routers.all (fun r => !(g == 0x100 + r.1 || g == braidDomain (colOf r.1)) || r.2.buf.isEmpty)

/-- Every NI has applied the fence and all three quantities are zero. -/
def gateIdle (s : State) (g : Nat) : Bool := !s.braid.fenceStale && inboundZero s g && outboundZero s g && transitZero s g

/-! ## Calendars (R142) -/

/-- (router, output, slot) entries of a flow. -/
def flowEntries (f : Flow) : List (Nat × Nat × Nat × Nat) :=
  let w := walkRoute (epRouter f.src) (unpackRoute f.route)
  w.zipIdx.foldl (fun l (p, j) =>
    let inp := if j = 0 then epPort f.src else match w[j - 1]? with
      | some q => opposite q.2
      | none => 0
    l ++ f.slots.map (fun k => (p.1, p.2, (k + 6 + 3 * j + 4 * crossBefore w j) % 1024, inp))) []

/-- The flow a calendar names for an output and slot, with its input port (R142, R143). -/
def calEntry (cal : List Flow) (router out slot : Nat) : Option (Nat × Nat) :=
  match cal.find? (fun f => (flowEntries f).any (fun e => e.1 == router && e.2.1 == out && e.2.2.1 == slot)) with
  | none => none
  | some f =>
    match (flowEntries f).find? (fun e => e.1 == router && e.2.1 == out && e.2.2.1 == slot) with
    | some e => some (f.flow, e.2.2.2)
    | none => none

/-- A calendar has a flow through a router. -/
def calUses (cal : List Flow) (router : Nat) : Bool :=
  cal.any (fun f => (walkRoute (epRouter f.src) (unpackRoute f.route)).any (fun p => p.1 == router))

/-- The flow of an NI in a calendar. -/
def flowAt (cal : List Flow) (ep flow : Nat) : Option Flow := cal.find? (fun f => f.flow == flow && f.src == ep)

end Sys2Proof.Machine
end

