-- ==== Sys2Proof/Machine/Flags.lean ====
section
/-! DEFINITION. Arithmetic of the engines: rounding, saturation with its flag, circular wrap, load and store rotation, block widths (sections 7.5 to 7.7). -/

namespace Sys2Proof.Machine
open Sys2Proof

/-- rnd(x, s) = (x + 2^(s-1)) arithmetic-shifted right by s, for s at least 1 (R273). -/
def rnd (x : Int) (s : Nat) : Int := (x + 2 ^ (s - 1)) / (2 ^ s : Nat)

/-- Clamp to a signed range of `n` bits, and whether it clamped (Table 7.4). -/
def satN (n : Nat) (x : Int) : Int × Bool :=
  if x < -(2 ^ (n - 1)) then (-(2 ^ (n - 1)), true)
  else if (2 : Int) ^ (n - 1) - 1 < x then ((2 : Int) ^ (n - 1) - 1, true) else (x, false)

/-- sat16 (Table 7.4). -/
def sat16 (x : Int) : Int × Bool := satN 16 x

/-- sat40 (Table 7.4). -/
def sat40 (x : Int) : Int × Bool := satN 40 x

/-- Clamp between -16 and +15 (R275). -/
def clampSh (x : Int) : Int := if x < -16 then -16 else if 15 < x then 15 else x

/-- Two's-complement width of a value: 0 and -1 have width 1 (R275). -/
def widthOf (x : Int) : Nat := (if x < 0 then (-(x + 1)).toNat else x.toNat).log2 + (if x = 0 ∨ x = -1 then 1 else 2)

/-- Scaled move of R274: shift right with rounding, none, or shift left; then sat16. -/
def moveScaled (x sh : Int) : Int × Bool :=
  if 0 < sh then sat16 (rnd x sh.toNat) else if sh = 0 then sat16 x else sat16 (x * 2 ^ (-sh).toNat)

/-- wrap(p, d) with base and length (R269); unsigned; only q is taken modulo 2^32 (DEDUCED, log entry 13). -/
def wrapPtr (p d b l : Nat) : Nat :=
  let q := (p + d) % 2 ^ 32
  if l ≠ 0 then
    if b + l ≤ q then (q + 2 ^ 32 - l) % 2 ^ 32 else if q < b then (q + l) % 2 ^ 32 else q
  else q

/-- Rotate the `n` bytes of a unit right by `k` bytes, as a number (R271). -/
def rotRight (n k v : Nat) : Nat := v / 2 ^ (8 * k) + (v % 2 ^ (8 * k)) * 2 ^ (8 * (n - k))

/-- Rotate left by `k` bytes (R271). -/
def rotLeft (n k v : Nat) : Nat := if k = 0 then v else rotRight n (n - k) (v % 2 ^ (8 * n))

/-- c > c' in the sense of R278: (c - c') mod 2^16 is positive as a signed 16-bit number. -/
def acsGt (c c' : Nat) : Bool :=
  let d := (c + 65536 - c' % 65536) % 65536
  decide (0 < d ∧ d < 32768)

/-- Signed lane `i` of a vector register. -/
def vlane (v : BitVec 64) (i : Nat) : Int := sext 16 (v.toNat / 2 ^ (16 * i))

/-- Four lanes as a vector register. -/
def packV (f : Nat → Int) : BitVec 64 :=
  BitVec.ofNat 64 (toBits 16 (f 0) + toBits 16 (f 1) * 2 ^ 16 + toBits 16 (f 2) * 2 ^ 32 + toBits 16 (f 3) * 2 ^ 48)

/-- Four accumulator lanes as one number of 160 bits. -/
def packA (f : Nat → Int) : BitVec 160 :=
  BitVec.ofNat 160 (toBits 40 (f 0) + toBits 40 (f 1) * 2 ^ 40 + toBits 40 (f 2) * 2 ^ 80 + toBits 40 (f 3) * 2 ^ 120)

/-- Accumulator lane `i` out of 160 bits. -/
def alane (v : BitVec 160) (i : Nat) : Int := sext 40 (v.toNat / 2 ^ (40 * i))

end Sys2Proof.Machine
end

