-- ==== Sys2Proof/Machine/Operands.lean ====
section
/-! DEFINITION. Bundles and operation formats of the engines: which words are operations, which raise ILLEGAL, and their latencies (R258, R259, R262). -/

namespace Sys2Proof.Machine
open Sys2Proof

/-- OPC of an operation word. -/
def opc (w : Nat) : Nat := bits w 31 26

/-- Fields D, G, REG [25:21]. -/
def fD (w : Nat) : Nat := bits w 25 21
/-- Fields A and S of XR, XI, XS, YA, YR [20:16]. -/
def fA (w : Nat) : Nat := bits w 20 16
/-- Field B of XR [15:11]. -/
def fB (w : Nat) : Nat := bits w 15 11
/-- IMM [15:0]. -/
def fImm (w : Nat) : Nat := bits w 15 0
/-- OFF or a signed IMM [15:0]. -/
def fOff (w : Nat) : Int := sext 16 (fImm w)
/-- P or I [20:18]. -/
def fP (w : Nat) : Nat := bits w 20 18
/-- UPD or K [17:16]. -/
def fK (w : Nat) : Nat := bits w 17 16

/-- Fields of XL: loop, count, LOOPR's register in the top bits of its field (DEDUCED, log entry 13), END. -/
def fL (w : Nat) : Nat := bits w 25 25
/-- CNT of LOOPI. -/
def fCnt (w : Nat) : Nat := bits w 24 13
/-- A of LOOPR. -/
def fLoopA (w : Nat) : Nat := bits w 24 20
/-- END. -/
def fEnd (w : Nat) : Nat := bits w 12 0

/-- Fields of ZV. -/
def zD (w : Nat) : Nat := bits w 25 22
/-- A of ZV. -/
def zA (w : Nat) : Nat := bits w 21 18
/-- B of ZV. -/
def zB (w : Nat) : Nat := bits w 17 14
/-- C of ZV. -/
def zC (w : Nat) : Nat := bits w 13 11
/-- IMM7. -/
def zI (w : Nat) : Nat := bits w 10 4

/-- Whether a slot-X word is an operation of Table 7.5 with every field it does not use 0 (R259, R261, R262, R284). -/
def legalX (w : Nat) : Bool :=
  let o := opc w
  if o = 0 then w == 0
  else if o ≤ 0x0E then bits w 10 0 == 0
  else if 0x10 ≤ o ∧ o ≤ 0x13 then true
  else if 0x14 ≤ o ∧ o ≤ 0x16 then bits w 15 5 == 0
  else if o = 0x17 then fA w == 0
  else if o = 0x18 then true
  else if 0x20 ≤ o ∧ o ≤ 0x25 then true
  else if o = 0x26 then fD w == 0 && fA w == 0
  else if o = 0x27 then fA w == 0 && fImm w == 0
  else if o = 0x28 ∨ o = 0x29 then bits w 25 0 == 0
  else if o = 0x30 then fCnt w != 0 && decide (3 ≤ fEnd w)
  else if o = 0x31 then bits w 19 13 == 0 && decide (3 ≤ fEnd w)
  else if o = 0x38 ∨ o = 0x39 then fImm w == 0 && decide (fA w ≤ 26)
  else if o = 0x3A then fD w == 0 && fImm w == 0
  else if o = 0x3B then fD w == 0 && fA w == 0 && decide (fImm w < 8)
  else if o = 0x3C then fA w == 0 && decide (fImm w < 8)
  else if 0x3D ≤ o then bits w 25 0 == 0
  else false

/-- Load and store opcodes: (width in bytes, load). -/
def memOp (o : Nat) : Option (Nat × Bool) :=
  let b := if 0x11 ≤ o then o - 0x10 else o
  if o = 0x0B ∨ o = 0x10 then none
  else match b with
  | 1 => some (4, true)
  | 2 => some (2, true)
  | 3 => some (2, true)
  | 4 => some (1, true)
  | 5 => some (1, true)
  | 6 => some (8, true)
  | 7 => some (4, false)
  | 8 => some (2, false)
  | 9 => some (1, false)
  | 10 => some (8, false)
  | _ => none

/-- Whether a slot-Y word is an operation (R259, R262, R268, R296, R298). -/
def legalY (w : Nat) : Bool :=
  let o := opc w
  if o = 0 then w == 0
  else if o ≤ 0x0A then (!(o == 6 || o == 10) || !(bit w 25)) && (decide (2 ≤ fK w) || fImm w == 0)
  else if 0x11 ≤ o ∧ o ≤ 0x1A then (!(o == 0x16 || o == 0x1A) || !(bit w 25))
  else if o = 0x20 ∨ o = 0x21 then fImm w == 0
  else if o = 0x22 then fK w == 0 && fD w == 0
  else if o = 0x23 then fD w == 0
  else if o = 0x24 ∨ o = 0x25 then decide (fA w < 16) && decide (fImm w < 4)
  else if o = 0x30 ∨ o = 0x31 then
    fA w % 2 == 0 && bits w 13 10 == 0 && bits w 8 0 == 0 && (!(bit w 9) || fD w % 2 == 0)
  else if o = 0x32 ∨ o = 0x33 then fA w % 2 == 0
  else if o = 0x34 then
    fA w % 2 == 0 && bits w 13 10 == 0 && bits w 8 3 == 0 && fD w % 2 == 0 &&
    (!(bit w 9 && bits w 2 0 == 1) || fD w % 4 == 0)
  else false

/-- Whether a slot-Z word is an operation (R259, R262). -/
def legalZ (w : Nat) : Bool :=
  let o := opc w
  let z := fun (d a b c i : Bool) =>
    (d || zD w == 0) && (a || zA w == 0) && (b || zB w == 0) && (c || zC w == 0) && (i || zI w == 0) && bits w 3 0 == 0
  if o = 0 then w == 0
  else if o ≤ 3 then z false true true true false
  else if o = 4 then z false false false true false
  else if o = 5 then z false true false true true && decide (zI w ≤ 24)
  else if o = 6 then z true false false true false
  else if 0x10 ≤ o ∧ o ≤ 0x18 then z true true true false false
  else if o = 0x19 then z true true false false true && decide (zI w ≤ 15)
  else if o = 0x1A then z true true false false true && decide (1 ≤ zI w ∧ zI w ≤ 16)
  else if o = 0x1B ∨ o = 0x1C then z true true false false false
  else if o = 0x20 then z false false true false false
  else if o = 0x21 then z false true false false true && decide (zI w ≤ 63)
  else if o = 0x22 then z true false false false true && decide (zI w ≤ 63)
  else false

/-- An XB-format operation (R282). -/
def isXB (w : Nat) : Bool := decide (0x20 ≤ opc w ∧ opc w ≤ 0x29)

/-- An XL-format operation. -/
def isXL (w : Nat) : Bool := opc w == 0x30 || opc w == 0x31

end Sys2Proof.Machine
end

