-- ==== Sys2Proof/Machine/EngineOps.lean ====
section
/-! DEFINITION. Engine registers, special registers, results in flight, tickets, faults of a bundle (chapter 07). -/

namespace Sys2Proof.Machine
open Sys2Proof

/-- Endpoint of an engine's quad. -/
def engNi (k : Nat) : Nat := 0x40 + k / 4

/-! ## Registers -/

/-- g register; g0 reads 0 (Table 7.1). -/
def gReg (e : Engine) (n : Nat) : Nat := if n = 0 then 0 else (tget e.r.g 0 n).toNat

/-- v register. -/
def vReg (e : Engine) (n : Nat) : BitVec 64 := tget e.r.v 0 n

/-- Accumulator lane, signed. -/
def aReg (e : Engine) (c i : Nat) : Int := (tget e.r.a (0 : BitVec 40) (4 * c + i)).toInt

/-- AGU register (kind, index): 0 p, 1 b, 2 l, 3 m. -/
def aguReg (e : Engine) (kind i : Nat) : Nat := (tget e.r.agu 0 (8 * kind + i)).toNat

/-- A stored special register. -/
def srRaw (e : Engine) (n : Nat) : Nat := (tget e.r.sr 0 n).toNat

/-- ST (Table 7.2). -/
def stReg (e : Engine) : Nat := srRaw e 0

/-- Store a special register as it stands. -/
def setSrRaw (n v : Nat) (e : Engine) : Engine := { e with r := { e.r with sr := tset e.r.sr n (BitVec.ofNat 32 v) } }

/-- Set or clear a bit of ST. -/
def setStBit (i : Nat) (b : Bool) (e : Engine) : Engine :=
  let v := stReg e
  setSrRaw 0 (if b then v ||| 2 ^ i else if bit v i then v - 2 ^ i else v) e

/-- Clear L0ACT and L1ACT (R285). -/
def clearLoops (e : Engine) : Engine := setStBit 4 false (setStBit 5 false e)

/-- Moves per block: 0 means 256 (Table 7.3). -/
def blkOf (e : Engine) : Nat := let b := srRaw e 3 % 256; if b = 0 then 256 else b

/-- BEXP (Table 7.7). -/
def bexpVal (e : Engine) : Nat :=
  e.r.bexpCount % 512 * 65536 + (if e.r.bexpCount = 0 then 0 else toBits 5 (clampSh (Int.ofNat e.r.bexpW - 15))) * 256 + toBits 5 e.r.bexpSh

/-- BUSY bits of the tickets. -/
def tktVal (e : Engine) : Nat := ((List.range 8).filter (fun t => (tget e.tickets {} t).busy)).foldl (fun a t => a + 2 ^ t) 0

/-- A special register as MVSR reads it (Table 7.3). -/
def srRead (k : Nat) (e : Engine) (n : Nat) : Nat :=
  match n with
  | 2 => bexpVal e
  | 20 => e.r.cyc % 2 ^ 32
  | 21 => e.r.cycHi
  | 22 => tktVal e
  | 23 => k
  | 26 => e.r.rlast
  | _ => srRaw e n

/-- Bits of a special register that a write reaches (Tables 7.2, 7.3, 7.8; R7). -/
def srMask (n : Nat) : Nat :=
  match n with
  | 0 => 0xF7
  | 1 => 0x1F
  | 3 => 0xFF
  | 12 => 0x1FFF
  | 13 => 0x1FFF
  | 14 => 0xFFFF
  | 16 => 0x11F07
  | _ => 0xFFFFFFFF

/-- MVRS: a write to an RO register is discarded, IPEND clears by writing 1, AUTO rising starts block scaling (R261, R275). -/
def srWrite (n v : Nat) (e : Engine) : Engine :=
  if n = 2 ∨ (20 ≤ n ∧ n ≤ 23) ∨ 26 ≤ n then e
  else if n = 15 then setSrRaw 15 (srRaw e 15 &&& (0xFFFF - v % 65536)) e
  else
    let t := setSrRaw n (v &&& srMask n) e
    if n = 0 ∧ bit v 1 ∧ ¬ bit (stReg e) 1 then
      { t with r := { t.r with bexpSh := sext 5 (srRaw e 1), bexpCount := 0, bexpW := 0 } }
    else t

/-! ## Results in flight -/

/-- A value reaches its register (R263); an accumulator keeps the value of the operation issued last, with which a later one chains (R264). -/
def applyDest (f : InFlight) (e : Engine) : Engine :=
  let v := f.val.toNat
  let t := match f.dest with
    | .g n => if n = 0 then e else { e with r := { e.r with g := tset e.r.g n (BitVec.ofNat 32 v) } }
    | .vreg n => { e with r := { e.r with v := tset e.r.v n (BitVec.ofNat 64 v) } }
    | .vlane n i =>
      let old := (vReg e n).toNat
      { e with r := { e.r with v := tset e.r.v n (BitVec.ofNat 64 (old - bits old (16 * i + 15) (16 * i) * 2 ^ (16 * i) + (v % 65536) * 2 ^ (16 * i))) } }
    | .acc c => if f.order < tget e.r.accAt 0 c then e else { e with r := { e.r with accAt := tset e.r.accAt c f.order, a := (List.range 4).foldl (fun a i => tset a (4 * c + i) (BitVec.ofNat 40 (v / 2 ^ (40 * i)))) e.r.a } }
    | .agu n => { e with r := { e.r with agu := tset e.r.agu n (BitVec.ofNat 32 v) } }
    | .sr n => srWrite n v e
    | .pms b first count => { e with r := { e.r with pm := (List.range count).foldl (fun m i => tset m (256 * b + first + i) (BitVec.ofNat 16 (v / 2 ^ (16 * i)))) e.r.pm } }
    | .nowhere => e
  if f.sat then setStBit 0 true t else t

/-- Put an element into a list sorted by (bundles left, order of issue). -/
def insertFlight (f : InFlight) (l : List InFlight) : List InFlight :=
  match l with
  | [] => [f]
  | g :: r => if f.left < g.left ∨ (f.left = g.left ∧ f.order ≤ g.order) then f :: g :: r else g :: insertFlight f r

/-- Sort results by when they land (R265). -/
def sortFlights (l : List InFlight) : List InFlight := l.foldr insertFlight []

/-- Results that must reach their registers before the next bundle issues. -/
def dueNow (e : Engine) : Bool := e.inFlight.any (fun f => f.left == 0)

/-- Deliver a list of results in order; the first poisoned load becomes the pending POISON exception, and its destination is not written (R293). -/
def deliver (l : List InFlight) (e : Engine) : Engine :=
  l.foldl (fun t f =>
    if f.poisoned then
      (if t.pend.isNone then { t with pend := some { cause := 6, slot := 1, pc := f.pc, epc := t.pc, addr := f.addr, dslot := f.dslot } } else t)
    else applyDest f t) e

/-- Every operation in flight completes (R288, R294, R541). -/
def drain (e : Engine) : Engine := { deliver (sortFlights e.inFlight) e with inFlight := [] }

/-- Results due reach their registers. -/
def landDue (e : Engine) : Engine :=
  let d := sortFlights (e.inFlight.filter (fun f => f.left == 0))
  deliver d { e with inFlight := e.inFlight.filter (fun f => f.left != 0) }

/-- The value of an accumulator that the next accumulation chains with: that of the operation issued last, in flight or in the register (R264). -/
def chainedAcc (e : Engine) (c i : Nat) : Int :=
  match (e.inFlight.filter (fun f => decide (f.dest = .acc c))).foldl (fun (m : Option InFlight) f => match m with
      | none => some f
      | some g => if g.order < f.order then some f else some g) none with
  | some f => if f.order < tget e.r.accAt 0 c then aReg e c i else alane f.val i
  | none => aReg e c i

/-! ## Clean boundaries and loops (R283, R287) -/

/-- A loop is active. -/
def loopActive (e : Engine) (l : Nat) : Bool := bit (stReg e) (4 + l)

/-- LE of a loop. -/
def loopEnd (e : Engine) (l : Nat) : Nat := srRaw e (6 + 3 * l)

/-- A bundle is one of the last 2 of an active loop body. -/
def inLoopTail (e : Engine) (pc : Nat) : Bool :=
  [0, 1].any (fun l => loopActive e l && (pc == loopEnd e l || pc + 1 == loopEnd e l))

/-- The engine is frozen (R266). -/
def isFrozen (e : Engine) : Bool := e.frozen.isSome || e.frozenX.isSome || e.stall == some e.r.cyc

/-- The boundary before the next bundle is clean (R287). -/
def cleanAt (e : Engine) : Bool := e.branch.isNone && !(inLoopTail e e.pc) && !(isFrozen e)

/-- An enabled interrupt is pending (R286). -/
def irqPending (e : Engine) : Bool := bit (stReg e) 2 && (srRaw e 15 &&& srRaw e 14) != 0

/-- A debugger is attached. -/
def dbgAttached (s : State) : Bool := s.dbg.sty.st != .detached

/-! ## Data memory -/

/-- Size of data memory. -/
def dmSize : Nat := 0x20000

/-- A word found corrected in an engine memory: counted event EV488 (R385). -/
def ev488 (k cause sev : Nat) (im : Bool) (a : Nat) (s : State) : State :=
  if cause = 1 then raiseLimitedAt (some (engNi k)) (1000 + k) msCycles 488 1 0 (leBytes 1 k ++ leBytes 1 (b2n im)) s
  else raiseEvAt (some (engNi k)) 488 cause sev (leBytes 1 k ++ leBytes 1 (b2n im) ++ leBytes 4 a) s

/-- Events of the words read. -/
def memReadEvents (k : Nat) (im : Bool) (rs : List (Nat × WordRead)) (s : State) : State :=
  forAll rs (fun t r => match r.2 with
    | .corrected => ev488 k 1 0 im (r.1 * 8) t
    | .uncorr => ev488 k 2 2 im (r.1 * 8) t
    | _ => t) s

/-- Sixteenths of a Braid cycle that one engine cycle of a point gives in a Braid cycle: 1.2 GHz (1.0 GHz in grade 2), 0.9, 0.6 and 0.3 GHz at 1.6 GHz (Table 13.11). -/
def opRate (grade op : Nat) : Nat :=
  match op with
  | 0 => if grade = 2 then 10 else 12
  | 1 => 9
  | 2 => 6
  | _ => 3

/-- Braid cycles that `n` engine cycles of a quad take, rounded up. -/
def engCycles (s : State) (q n : Nat) : Nat :=
  let r := opRate s.dbg.fuses.grade (quadOf s q).op
  (16 * n + r - 1) / r

/-- A write of engine `k`'s memory fell into the engine cycle of now. -/
def sameCycle (s : State) (k : Nat) (w : PortWrite) : Bool := w.cyc == (engOf s k).r.cyc && decide (s.time < w.at_ + engCycles s (k / 4) 1)

/-- What a word held before a write of this engine cycle in a list of them. -/
def priorOf (s : State) (k : Nat) (l : List PortWrite) (word : Nat) : Option PortWrite := l.find? (fun w => w.word == word && sameCycle s k w)

/-- Add words about to be written to a list of this engine cycle's writes. -/
def noteWords (s : State) (k : Nat) (ws : List Nat) (l : List PortWrite) : List PortWrite :=
  let here := l.filter (fun w => sameCycle s k w)
  here ++ (ws.filter (fun w => !(here.any (fun x => x.word == w)))).map (fun w =>
    { at_ := s.time, cyc := (engOf s k).r.cyc, word := w, old := mgetN s.mems.mem (8 * w) 8, bits := (wordTag s w).bits, poisoned := (wordTag s w).poisoned })

/-- Port A is about to write a word. -/
def noteA (k word : Nat) (s : State) : State := modEng k (fun e => { e with wroteA := noteWords s k [word] e.wroteA }) s

/-- Port B is about to write words. -/
def noteB (k : Nat) (ws : List Nat) (s : State) : State := modEng k (fun e => { e with wroteB := noteWords s k ws e.wroteB }) s

/-- A load of `w` bytes through port A: value before extension, and whether the word is poisoned or uncorrectable (R271, R370). A word that port B writes in this engine cycle gives what it held before (R303). -/
def portALoad (k a w : Nat) (s : State) : Nat × Bool × State :=
  let u := a / w * w
  match priorOf s k (engOf s k).wroteB ((dmBase k + u) / 8) with
  | some x => (rotRight w (a % w) (leAt ((x.old.drop (u % 8)).take w) 0 w), x.poisoned || decide (2 ≤ x.bits), s)
  | none =>
    let (rs, t) := readWords [(dmBase k + u) / 8] s
    let t := memReadEvents k false rs t
    let v := leAt (mgetN s.mems.mem (dmBase k + u) w) 0 w
    (rotRight w (a % w) v, anyRead rs .uncorr || anyRead rs .poisoned, t)

/-- A store of `w` bytes through port A; a narrow one merges with the word, which a bad word poisons (R271, R373). -/
def portAStore (k a w v : Nat) (s : State) : State :=
  let u := a / w * w
  let word := (dmBase k + u) / 8
  let (rs, t) := if w < 8 then readWords [word] s else ([], s)
  let bad := anyRead rs .uncorr || anyRead rs .poisoned
  let t := if bad then ev488 k 3 2 false u t else if anyRead rs .corrected then ev488 k 1 0 false u t else t
  writeWords (dmBase k + u) (leBytes w (rotLeft w (a % w) (v % 2 ^ (8 * w)))) (fun _ => bad) (noteA k word t)

/-- Write a decision word (R279). -/
def putDecision (k : Nat) (d : Nat × Nat × BitVec 64) (s : State) : State :=
  let a := dmBase k + d.2.1 / 8 * 8
  writeWords a (leBytes 8 d.2.2.toNat) (fun _ => false) (noteA k (a / 8) s)

/-- The decision words still waiting are written: their ACS operations complete (R288, R292, R294). -/
def writeDecisions (k : Nat) (s : State) : State :=
  modEng k (fun e => { e with decWords := [] }) (forAll (engOf s k).decWords (fun t d => putDecision k d t) s)

/-- Bad words of `n` bytes as ranges from the first byte on. -/
def badWordRanges (a : Nat) (rs : List (Nat × WordRead)) : List (Nat × Nat) :=
  (rs.filter (fun r => r.2 == .uncorr || r.2 == .poisoned)).map (fun r => (8 * r.1 - a, 8 * r.1 + 8 - max a (8 * r.1)))

/-! ## Remote addresses (R296) -/

/-- Address, FAR flag and device of a register pair. -/
def pairAddr (e : Engine) (a : Nat) : Nat × Bool × Nat :=
  (gReg e a + gReg e (a + 1) % 65536 * 2 ^ 32, bit (gReg e (a + 1)) 31, bits (gReg e (a + 1)) 29 16)

/-- Endpoint a far address names on the other device. -/
def farEpOf (s : State) (a : Nat) : Nat := (addrTarget s.dram.map (a % 2 ^ 42)).getD 0

/-- Present a ticketed transfer: RGET reads, RPUT sends the bytes it reads now through port B; a flit with a bad word leaves with POISON (R299, R370, R371). -/
def startXfer (k : Nat) (x : Xfer) (s : State) : State :=
  let a := dmBase k + x.localAddr
  let (rs, s) := if x.get then ([], s) else readWords (wordsOf a x.len) s
  let s := memReadEvents k false rs s
  let r : Req := { op := if x.get then .rd else .wr, far := x.far, farDev := x.dev, farEp := farEpOf s x.addr, addr := x.addr, len := x.len, pageHint := x.hint, bulk := x.bulk, data := if x.get then [] else mgetN s.mems.mem a x.len, poison := badWordRanges a rs }
  let (gid, t) := presentReq (engNi k) (k % 4) r s
  modEng k (fun e => { e with tickets := tset e.tickets x.t { busy := true, gid := gid, get := x.get, localAddr := x.localAddr, len := x.len } }) t

/-- Start a mover channel at a descriptor (R308). -/
def startMover (k desc : Nat) (s : State) : State :=
  modEng k (fun e => { e with mover := { st := .run, desc := desc } }) s

/-! ## Events of engines (R314) -/

/-- EV192 + k with its cause; the record carries ENG_EXC. -/
def engEv (k cause sev : Nat) (s : State) : State := raiseEv (192 + k) cause sev (leBytes 4 (engOf s k).excInfo) s

/-! ## Quads at rest (Table 1.7) -/

/-- The engine is idle for quad sleep. -/
def engIdle (e : Engine) : Bool := e.st != .running && e.mover.st != .run

/-- All four engines and the quad mover are idle. -/
def quadIdle (s : State) (q : Nat) : Bool := (List.range 4).all (fun i => engIdle (engOf s (4 * q + i)))

/-- A quad is awake, or wakes already: it has work, or a waiting request has woken it. A sleeping quad takes 64 Braid cycles to wake, 32 000 with PLL_ME stopped (Table 4.8). -/
def quadAwake (s : State) (q : Nat) : Bool :=
  !(quadIdle s q) || decide (s.time < (quadOf s q).wakeAt) || s.braid.inbox.any (fun d => d.ep == 0x40 + q)

/-- Headwater may have PLL_ME stopped: every quad is idle (Table 1.7). -/
def quadsIdle (s : State) : Bool := (List.range 24).all (fun q => !(quadAwake s q))

/-- PLL_ME starts when it is stopped; it is locked 32 000 Braid cycles later (Table 1.7). -/
def startPllMe (s : State) : State :=
  if s.eng.pllMe then s else modEngines s (fun e => { e with pllMe := true, pllMeAt := s.time + 32000 })

/-- Braid cycles that waking a sleeping quad takes: 64 with PLL_ME running, 32 000 with it stopped, what is left of them while it locks (Table 1.7). -/
def quadWakeCost (s : State) : Nat := if s.eng.pllMe then max 64 (s.eng.pllMeAt - s.time) else 32000

/-- Work reaches a quad: one that sleeps begins to wake, and PLL_ME with it. -/
def wakeQuad (q : Nat) (s : State) : State :=
  if quadAwake s q then modQuad q (fun x => { x with lastBusy := s.time, wakeAt := max s.time x.wakeAt }) s
  else modQuad q (fun x => { x with lastBusy := s.time, woke := s.time, wakeAt := s.time + quadWakeCost s }) (startPllMe s)

/-! ## Interrupt inputs -/

/-- A rising interrupt input sets its IPEND bit and wakes the quad; WFI ends when an enabled bit is pending (R22, R286, R290). -/
def raiseLine (k line : Nat) (s : State) : State :=
  if domOn s (6 + k / 4) then
    modEng k (fun e =>
      let t := setSrRaw 15 (srRaw e 15 ||| 2 ^ (line % 16)) e
      if t.st = .wfi ∧ (srRaw t 15 &&& srRaw t 14) ≠ 0 then { t with st := .running } else t) (wakeQuad (k / 4) s)
  else s

end Sys2Proof.Machine
end

