-- ==== Sys2Proof/Machine/Engine.lean ====
section
/-! DEFINITION. Steps of a Millrace engine: bundle issue with every operation of Table 7.5, results, exceptions, interrupts, completions (chapter 07). -/

namespace Sys2Proof.Machine
open Sys2Proof

/-! ## Hardware loops (R283) -/

/-- The bundle that follows without a branch, with the loop counts it changes (R283): loop 1 first. -/
def afterLoops (e : Engine) : Engine :=
  let step := fun (t : Engine) (l : Nat) (back : Bool) =>
    if !back && loopActive t l && t.pc == loopEnd t l then
      if 1 < srRaw t (4 + 3 * l) then (setSrRaw (4 + 3 * l) (srRaw t (4 + 3 * l) - 1) t, true)
      else (setStBit (4 + l) false (setSrRaw (4 + 3 * l) 0 t), false)
    else (t, back)
  let (e1, b1) := step e 1 false
  if b1 then { e1 with pc := srRaw e1 8 }
  else
    let (e0, b0) := step e1 0 false
    if b0 then { e0 with pc := srRaw e0 5 } else { e0 with pc := e0.pc + 1 }

/-- A delay slot of a branch at the PC is one of the last 2 bundles of a loop body that is active there (R284). -/
def tailSlots (e : Engine) : Bool :=
  let e1 := afterLoops e
  let e2 := afterLoops e1
  inLoopTail e1 e1.pc || inLoopTail e2 e2.pc

/-! ## Faults found at issue (R292) -/

/-- Fault of slot X: cause, address. -/
def faultX (s : State) (e : Engine) (w : Nat) : Option (Nat × Nat) :=
  let act0 := loopActive e 0
  let act1 := loopActive e 1
  if !(legalX w) then some (1, 0)
  else if (isXB w || isXL w) && e.branch.isSome then some (1, 0)
  else if isXB w && tailSlots e then some (2, 0)
  else if isXL w && (loopActive e (fL w) || (fL w == 0 && act1) || (fL w == 1 && act0 && decide (loopEnd e 0 < e.pc + fEnd w))) then some (1, 0)
  else if opc w = 0x3A then
    let a := gReg e (fA w)
    if a % 16 ≠ 0 then some (4, a) else if dmSize < a + 48 then some (3, a) else none
  else if opc w = 0x3D ∧ ¬ dbgAttached s then some (8, 0)
  else none

/-- Address of a slot-Y local access (Table 7.6, YA). -/
def addrY (e : Engine) (w : Nat) : Nat :=
  if opc w ≤ 0x0A then
    let p := aguReg e 0 (fP w)
    if fK w = 3 then toBits 32 (Int.ofNat p + fOff w) else p
  else toBits 32 (Int.ofNat (gReg e (fA w)) + fOff w)

/-- Fault of slot Y. -/
def faultY (e : Engine) (w : Nat) : Option (Nat × Nat) :=
  if !(legalY w) then some (1, 0)
  else match memOp (opc w) with
  | some (n, _) => if dmSize ≤ addrY e w / n * n then some (3, addrY e w) else none
  | none =>
    if opc w = 0x30 ∨ opc w = 0x31 ∨ opc w = 0x34 then
      let a := (pairAddr e (fA w)).1
      if a % (if bit w 9 then 8 else 4) ≠ 0 then some (4, a % 2 ^ 32) else none
    else if opc w = 0x32 ∨ opc w = 0x33 then
      let a := gReg e (fD w)
      if dmSize < a + (bits w 9 0 + 1) then some (3, a) else none
    else none

/-- State count of the trellis: ACSC.LOGN 6, 7 or 8. -/
def acsLogn (e : Engine) : Nat := srRaw e 16 % 8

/-- BF of ACSC. -/
def acsBf (e : Engine) : Nat := bits (srRaw e 16) 12 8

/-- Fault of slot Z: ACS with a bad LOGN, or a decision word outside data memory (R277, R279). -/
def faultZ (e : Engine) (w : Nat) : Option (Nat × Nat) :=
  if !(legalZ w) then some (1, 0)
  else if opc w = 0x20 then
    if acsLogn e < 6 ∨ 8 < acsLogn e then some (1, 0)
    else if acsBf e % 8 = 7 ∧ dmSize < srRaw e 17 + 8 then some (3, srRaw e 17)
    else none
  else none

/-- The first fault of a bundle: slots X, Y, Z in this order (DESIGN CHOICE, log entry 13). -/
def bundleFault (s : State) (e : Engine) (x y z : Nat) : Option (Nat × Nat × Nat) :=
  match faultX s e x with
  | some (c, a) => some (c, 0, a)
  | none =>
    match faultY e y with
    | some (c, a) => some (c, 1, a)
    | none => (faultZ e z).map (fun p => (p.1, 2, p.2))

/-! ## Slot X -/

/-- Result of an XR operation: value (R262). -/
def aluR (o a b : Nat) : Nat :=
  let sa := sext 32 a
  let sb := sext 32 b
  let sh := b % 32
  match o with
  | 0x01 => (a + b) % 2 ^ 32
  | 0x02 => (a + 2 ^ 32 - b) % 2 ^ 32
  | 0x03 => a &&& b
  | 0x04 => a ||| b
  | 0x05 => a ^^^ b
  | 0x06 => (a * 2 ^ sh) % 2 ^ 32
  | 0x07 => a / 2 ^ sh
  | 0x08 => toBits 32 (sa / (2 ^ sh : Nat))
  | 0x09 => b2n (decide (sa < sb))
  | 0x0A => b2n (decide (a < b))
  | 0x0B => if sa < sb then a else b
  | 0x0C => if sa < sb then b else a
  | 0x0D => (a / 2 ^ sh) % 2
  | _ => (a * b) % 2 ^ 32

/-- Result of an XI arithmetic operation (R262). -/
def aluI (o a imm : Nat) : Nat :=
  match o with
  | 0x10 => toBits 32 (Int.ofNat a + sext 16 imm)
  | 0x11 => aluR 0x03 a imm
  | 0x12 => aluR 0x04 a imm
  | 0x13 => aluR 0x05 a imm
  | 0x14 => aluR 0x06 a imm
  | 0x15 => aluR 0x07 a imm
  | 0x16 => aluR 0x08 a imm
  | 0x17 => imm * 65536
  | _ => b2n (decide (sext 32 a < sext 16 imm))

/-- Whether a conditional branch is taken. -/
def taken (o a b : Nat) : Bool :=
  match o with
  | 0x20 => a == b
  | 0x21 => a != b
  | 0x22 => decide (sext 32 a < sext 32 b)
  | 0x23 => decide (sext 32 b ≤ sext 32 a)
  | 0x24 => decide (a < b)
  | _ => decide (b ≤ a)

/-- A branch target as a bundle number; one outside 0 to 5460 raises IFETCH when it is fetched (R282). -/
def targetOf (t : Int) : Nat := if t < 0 then 8191 else t.toNat

/-- The results a slot-X operation puts in flight: destination, value, latency (R262). -/
def resultsX (k : Nat) (e : Engine) (w : Nat) : List InFlight :=
  let o := opc w
  let mk := fun (lat : Nat) (d : Dest) (v : Nat) => [({ left := lat, dest := d, val := BitVec.ofNat 160 v, order := 4 * e.issued } : InFlight)]
  if 1 ≤ o ∧ o ≤ 0x0D then mk 1 (.g (fD w)) (aluR o (gReg e (fA w)) (gReg e (fB w)))
  else if o = 0x0E then mk 3 (.g (fD w)) (aluR o (gReg e (fA w)) (gReg e (fB w)))
  else if 0x10 ≤ o ∧ o ≤ 0x18 then mk 1 (.g (fD w)) (aluI o (gReg e (fA w)) (fImm w))
  else if o = 0x26 then mk 1 (.g 31) ((e.pc + 3) % 2 ^ 32)
  else if o = 0x38 then mk 1 (.g (fD w)) (srRead k e (fA w))
  else if o = 0x39 then mk 1 (.sr (fA w)) (gReg e (fD w))
  else if o = 0x3C then
    let t := tget e.tickets {} (fImm w % 8)
    mk 1 (.g (fD w)) (b2n t.busy * 2 ^ 31 + statusCode t.status * 65536 + t.wait)
  else []

/-- What an XB operation leaves pending: target when taken, and the ST that a return restores (R282, R285). -/
def branchOf (e : Engine) (w : Nat) : Option Nat × Option Nat :=
  match opc w with
  | 0x26 => (some (targetOf (Int.ofNat e.pc + fOff w)), none)
  | 0x27 => (some (gReg e (fD w) % 8192), none)
  | 0x28 => (some (srRaw e 10), some (srRaw e 11))
  | 0x29 => (some (srRaw e 24), some (srRaw e 25))
  | o => (if taken o (gReg e (fD w)) (gReg e (fA w)) then some (targetOf (Int.ofNat e.pc + fOff w)) else none, none)

/-- Start a hardware loop, effective from the next bundle (R283). -/
def startLoop (e : Engine) (w : Nat) : Engine :=
  let l := fL w
  let n := if opc w = 0x30 then fCnt w else gReg e (fLoopA w)
  let t := setSrRaw (5 + 3 * l) (e.pc + 1) (setSrRaw (6 + 3 * l) (e.pc + fEnd w) (setSrRaw (4 + 3 * l) n e))
  if n = 0 then { t with pc := e.pc + fEnd w + 1 } else { setStBit (4 + l) true t with pc := e.pc + 1 }

/-- Move the program counter past the bundle at `pc`: delay slots, a branch that lands, loops (R282, R283). -/
def advance (e : Engine) (x : Nat) : Engine :=
  if isXB x then
    let (t, st) := branchOf e x
    { afterLoops e with branch := some (t, 2), retSt := st }
  else
    match e.branch with
    | some (t, n) =>
      if 1 < n then { afterLoops e with branch := some (t, n - 1) }
      else
        let f := { afterLoops e with branch := none, retSt := none }
        let f := match e.retSt with
          | some st => srWrite 0 st f
          | none => f
        match t with
        | some p => { f with pc := p }
        | none => f
    | none => if isXL x then startLoop e x else afterLoops e

/-! ## Slot Y -/

/-- Results of slot-Y register operations and pointer updates (R262, R268, R269). -/
def resultsY (e : Engine) (w : Nat) : List InFlight :=
  let o := opc w
  let mk := fun (lat : Nat) (d : Dest) (v : Nat) => [({ left := lat, dest := d, val := BitVec.ofNat 160 v, order := 4 * e.issued + 1 } : InFlight)]
  let p := fP w
  let wrap := fun (d : Int) => wrapPtr (aguReg e 0 p) (toBits 32 d) (aguReg e 1 p) (aguReg e 2 p)
  if 1 ≤ o ∧ o ≤ 0x0A then
    if fK w = 1 then mk 1 (.agu p) (wrap (Int.ofNat (aguReg e 3 p)))
    else if fK w = 2 then mk 1 (.agu p) (wrap (fOff w))
    else []
  else if o = 0x20 then mk 1 (.agu (8 * fK w + p)) (gReg e (fD w))
  else if o = 0x21 then mk 1 (.g (fD w)) (aguReg e (fK w) p)
  else if o = 0x22 then mk 1 (.agu p) (wrap (fOff w))
  else if o = 0x23 then mk 1 (.agu (8 * fK w + p)) (toBits 32 (fOff w))
  else if o = 0x24 then mk 1 (.g (fD w)) (toBits 32 (vlane (vReg e (fA w)) (fImm w % 4)))
  else if o = 0x25 then mk 1 (.vlane (fA w) (fImm w % 4)) (gReg e (fD w) % 65536)
  else []

/-- Sign or zero extension of a load (R271). -/
def extendLoad (o v : Nat) : Nat :=
  match (if 0x11 ≤ o then o - 0x10 else o) with
  | 2 => toBits 32 (sext 16 v)
  | 3 => v % 65536
  | 4 => toBits 32 (sext 8 v)
  | 5 => v % 256
  | _ => v

/-- A local load or store (R268, R271, R272). -/
def localY (k : Nat) (w : Nat) (s : State) : State :=
  let e := engOf s k
  match memOp (opc w) with
  | none => s
  | some (n, load) =>
    let a := addrY e w
    if load then
      let (v, bad, t) := portALoad k a n s
      let f : InFlight := { left := 3, dest := if n = 8 then .vreg (fD w % 16) else .g (fD w), val := BitVec.ofNat 160 (if n = 8 then v else extendLoad (opc w) v), order := 4 * e.issued + 1, poisoned := bad, pc := e.pc, addr := a, dslot := e.branch.isSome }
      modEng k (fun x => { x with inFlight := x.inFlight ++ [f] }) t
    else portAStore k a n (if n = 8 then (vReg e (fD w % 16)).toNat else gReg e (fD w)) s

/-- The value of a register or a register pair. -/
def pairVal (e : Engine) (r : Nat) (wide : Bool) : Nat := gReg e r + (if wide then gReg e (r + 1) * 2 ^ 32 else 0)

/-- ATOM operand bytes (Table 3.4). -/
def atomBytes (sub a b : Nat) : List Byte := leBytes 8 sub ++ leBytes 8 a ++ leBytes 8 b

/-- A remote operation (R296-R300). -/
def remoteY (k : Nat) (w : Nat) (s : State) : State :=
  let e := engOf s k
  let o := opc w
  let (a, far, dev) := pairAddr e (fA w)
  let wide := bit w 9
  let base : Req := { far := far, farDev := dev, farEp := farEpOf s a, addr := a, len := if wide then 8 else 4, pageHint := bits w 15 14 }
  let freeze := fun (r : Req) =>
    let (gid, t) := presentReq (engNi k) (k % 4) r s
    modEng k (fun x => { x with frozen := some (.remote gid (fD w) wide e.pc (a % 2 ^ 32) (4 * e.issued + 1) e.branch.isSome) }) t
  if o = 0x30 then freeze { base with op := .rd }
  else if o = 0x34 then
    let wd := fD w
    freeze { base with op := .atom, data := atomBytes (bits w 2 0) (pairVal e wd wide) (pairVal e (if wide then wd + 2 else wd + 1) wide) }
  else if o = 0x31 then (presentReq (engNi k) (k % 4) { base with op := .wrp, data := leBytes base.len (pairVal e (fD w) wide) } s).2
  else if o = 0x32 ∨ o = 0x33 then
    let x : Xfer := { t := bits w 12 10, get := decide (o = 0x32), addr := a, far := far, dev := dev, localAddr := gReg e (fD w), len := bits w 9 0 + 1, hint := bits w 15 14, bulk := bit w 13 }
    if (tget e.tickets {} x.t).busy then modEng k (fun y => { y with frozen := some (.ticket x) }) s else startXfer k x s
  else s

/-! ## Slot Z -/

/-- Lane results of the vector operations: value and whether it clamped (R262, R273). -/
def vecLane (o imm : Nat) (a b : Int) : Int × Bool :=
  match o with
  | 0x10 => (a + b, false)
  | 0x11 => sat16 (a + b)
  | 0x12 => (a - b, false)
  | 0x13 => sat16 (a - b)
  | 0x14 => (max a b, false)
  | 0x15 => (min a b, false)
  | 0x16 => (sext 16 (toBits 16 a &&& toBits 16 b), false)
  | 0x17 => (sext 16 (toBits 16 a ||| toBits 16 b), false)
  | 0x18 => (sext 16 (toBits 16 a ^^^ toBits 16 b), false)
  | 0x19 => (a * 2 ^ imm, false)
  | 0x1A => (rnd a imm, false)
  | 0x1B => sat16 (if a < 0 then -a else a)
  | _ => sat16 (-a)

/-- Path metric of a bank. -/
def metric (e : Engine) (bank n : Nat) : Nat := (tget e.r.pm (0 : BitVec 16) (256 * bank + n)).toNat

/-- One butterfly (R277): new metrics and decisions of states 2j and 2j + 1. -/
def butterfly (m0 m1 lam : Nat) : (Nat × Bool) × (Nat × Bool) :=
  let c0 := (m0 + lam) % 65536
  let c1 := (m1 + 65536 - lam) % 65536
  let c2 := (m0 + 65536 - lam) % 65536
  let c3 := (m1 + lam) % 65536
  ((if acsGt c1 c0 then c1 else c0, acsGt c1 c0), (if acsGt c3 c2 then c3 else c2, acsGt c3 c2))

/-- The four butterflies of an ACS: eight new metrics from state 8 BF on, with their decisions. -/
def acsStep (e : Engine) (v : BitVec 64) : List (Nat × Bool) :=
  let n := 2 ^ acsLogn e
  let cur := bits (srRaw e 16) 16 16
  (List.range 4).foldl (fun l i =>
    let j := 4 * acsBf e + i
    let r := butterfly (metric e cur j) (metric e cur (j + n / 2)) (toBits 16 (vlane v i))
    l ++ [r.1, r.2]) []

/-- ACS: metrics into the other bank after 2 bundles; BF and CUR advance for the next bundle, and TBP with a completed word, over what slot X of the bundle writes (R265); decision bits gather, and the ACS whose BF was 7 mod 8 completes a word that goes to TBP (R277-R279). -/
def issueAcs (w : Nat) (e : Engine) : Engine :=
  let rs := acsStep e (vReg e (zB w))
  let cur := bits (srRaw e 16) 16 16
  let bf := acsBf e
  let n := 2 ^ acsLogn e
  let val := (rs.zipIdx).foldl (fun a p => a + p.1.1 * 2 ^ (16 * p.2)) 0
  let f : InFlight := { left := 2, dest := .pms (1 - cur) (8 * bf) 8, val := BitVec.ofNat 160 val, order := 4 * e.issued + 2 }
  let wrapped := bf + 1 = n / 8
  let acsc := acsLogn e + (if wrapped then 0 else bf + 1) * 256 + (if wrapped then 1 - cur else cur) * 65536
  let base := (8 * bf) % 64
  let dec := (rs.zipIdx).foldl (fun (a : Nat) p =>
    let b := 2 ^ (base + p.2)
    (a &&& (2 ^ 64 - 1 - b)) + (if p.1.2 then b else 0)) e.r.decision.toNat
  let sr := fun (n v : Nat) => ({ left := 1, dest := .sr n, val := BitVec.ofNat 160 v, order := 4 * e.issued + 2 } : InFlight)
  let t := { e with inFlight := e.inFlight ++ [f, sr 16 acsc], r := { e.r with decision := BitVec.ofNat 64 dec } }
  if bf % 8 = 7 then
    { t with inFlight := t.inFlight ++ [sr 17 (wrapPtr (srRaw e 17) 8 (srRaw e 18) (srRaw e 19))], decWords := t.decWords ++ [(2, srRaw e 17, BitVec.ofNat 64 dec)] }
  else t

/-- MVAV: scaled move, with block scaling when AUTO is 1 (R274, R275). -/
def issueMvav (w : Nat) (e : Engine) : Engine :=
  let auto := bit (stReg e) 1
  let sh := if auto then e.r.bexpSh else sext 5 (srRaw e 1)
  let lane := fun i => moveScaled (aReg e (zC w) i) sh
  let f : InFlight := { left := 2, dest := .vreg (zD w), val := BitVec.ofNat 160 (packV (fun i => (lane i).1)).toNat, order := 4 * e.issued + 2, sat := (List.range 4).any (fun i => (lane i).2) }
  let t := { e with inFlight := e.inFlight ++ [f] }
  if auto then
    let wid := (List.range 4).foldl (fun m i => max m (widthOf (aReg e (zC w) i))) e.r.bexpW
    if e.r.bexpCount + 1 = blkOf e then { t with r := { t.r with bexpSh := clampSh (Int.ofNat wid - 15), bexpCount := 0, bexpW := 0 } }
    else { t with r := { t.r with bexpCount := e.r.bexpCount + 1, bexpW := wid } }
  else t

/-- Slot Z of a bundle (R262, R264, R280). -/
def issueZ (w : Nat) (e : Engine) : Engine :=
  let o := opc w
  let push := fun (lat : Nat) (d : Dest) (v : BitVec 160) (st : Bool) =>
    { e with inFlight := e.inFlight ++ [{ left := lat, dest := d, val := v, order := 4 * e.issued + 2, sat := st }] }
  let va := vReg e (zA w)
  let vb := vReg e (zB w)
  let c := zC w
  let cur := bits (srRaw e 16) 16 16
  if o = 1 ∨ o = 2 then
    let lane := fun i => sat40 (chainedAcc e c i + (if o = 1 then 1 else -1) * (vlane va i * vlane vb i))
    push 3 (.acc c) (packA (fun i => (lane i).1)) ((List.range 4).any (fun i => (lane i).2))
  else if o = 3 then push 3 (.acc c) (packA (fun i => vlane va i * vlane vb i)) false
  else if o = 4 then push 3 (.acc c) 0 false
  else if o = 5 then push 1 (.acc c) (packA (fun i => vlane va i * 2 ^ zI w)) false
  else if o = 6 then issueMvav w e
  else if 0x10 ≤ o ∧ o ≤ 0x1C then
    let lane := fun i => vecLane o (zI w) (vlane va i) (vlane vb i)
    push 1 (.vreg (zD w)) (BitVec.ofNat 160 (packV (fun i => (lane i).1)).toNat) ((List.range 4).any (fun i => (lane i).2))
  else if o = 0x20 then issueAcs w e
  else if o = 0x21 then push 1 (.pms cur (4 * zI w) 4) (BitVec.ofNat 160 va.toNat) false
  else if o = 0x22 then
    push 2 (.vreg (zD w)) (BitVec.ofNat 160 ((List.range 4).foldl (fun a i => a + metric e cur (4 * zI w + i) * 2 ^ (16 * i)) 0)) false
  else e

/-! ## Bundle issue -/

/-- The three words of the bundle at the PC (R258), with the instruction memory read; none for IFETCH (R291). -/
def fetchBundle (k : Nat) (s : State) : Option (Nat × Nat × Nat) × State :=
  let pc := (engOf s k).pc
  if 5460 < pc then (none, s)
  else
    let a := imBase k + 12 * pc
    let (rs, t) := readWords (wordsOf a 12) s
    let t := memReadEvents k true rs t
    let l := mgetN s.mems.mem a 12
    if anyRead rs .uncorr || anyRead rs .poisoned then (none, t) else (some (leAt l 0 4, leAt l 4 4, leAt l 8 4), t)

/-- The engine stops issuing and its operations complete. -/
def halt (k : Nat) (st : EngState) (s : State) : State := modEng k (fun e => { drain e with st := st }) (writeDecisions k s)

/-- A found fault waits for its exception entry (R292). -/
def setFault (k cause slot addr : Nat) (s : State) : State :=
  modEng k (fun e => { e with pend := some { cause := cause, slot := slot, pc := e.pc, epc := e.pc, addr := addr, dslot := e.branch.isSome } }) s

/-- Control effects of slot X after the bundle has issued: freezes, HALT, WFI, BREAK for a debugger, QMGO (R266, R290, R294, R308). -/
def afterX (k w : Nat) (e : Engine) (s : State) : State :=
  let o := opc w
  if o = 0x3A then
    let d := gReg e (fA w)
    if e.mover.st = .run then modEng k (fun x => { x with frozenX := some (.mover d) }) s else startMover k d s
  else if o = 0x3B then
    if (tget e.tickets {} (fImm w % 8)).busy then modEng k (fun x => { x with frozenX := some (.waitt (fImm w % 8)) }) s else s
  else if o = 0x3D then modEng k (fun x => { x with haltReq := true }) s
  else if o = 0x3E then engEv k 2 0 (modEng k (fun x => { x with pend := none }) (halt k .halted s))
  else if o = 0x3F then modEng k (fun x => if (srRaw x 15 &&& srRaw x 14) = 0 then { x with st := .wfi } else x) s
  else if o = 0x38 ∧ fA w = 20 then modEng k (fun x => { x with r := { x.r with cycHi := x.r.cyc / 2 ^ 32 % 2 ^ 32 } }) s
  else s

/-- Issue a bundle without fault: every slot reads its sources now (R263); results go into flight; the PC advances. -/
def issueBundle (k x y z : Nat) (s : State) : State :=
  let e := engOf s k
  let s1 := modEng k (fun t => { t with inFlight := t.inFlight ++ resultsX k e x ++ resultsY e y }) s
  let s2 := localY k y s1
  let s3 := modEng k (fun t => issueZ z t) s2
  let s5 := remoteY k y s3
  let s6 := modEng k (fun t =>
    let a := advance t x
    { a with issued := t.issued + 1, lastIssue := some t.r.cyc, inFlight := a.inFlight.map (fun f => { f with left := f.left - 1 }), decWords := a.decWords.map (fun d => (d.1 - 1, d.2)), haltReq := a.haltReq || a.stepping }) s5
  modQuad (k / 4) (fun q => { q with lastBusy := s.time }) (afterX k x e s6)

/-- The engine can issue now: running, not frozen, no bundle issued in this engine cycle (R254), results and a due decision word delivered, nothing pending that goes first, its quad awake with its clock running. -/
def canIssue (s : State) (k : Nat) : Bool :=
  let e := engOf s k
  decide (k < 96) && e.st == .running && !(isFrozen e) && e.lastIssue != some e.r.cyc && !(dueNow e) && !(e.decWords.any (fun d => d.1 == 0)) && e.pend.isNone &&
  !(cleanAt e && e.haltReq) && !(cleanAt e && irqPending e && !e.stepping && !e.stopReq) && domOn s (6 + k / 4) && !(clockStopped s (6 + k / 4)) && decide ((quadOf s (k / 4)).wakeAt ≤ s.time)

/-- Port A has written a decision word in this engine cycle, and the bundle needs it: the engine freezes for the cycle (R279). -/
def decConflict (e : Engine) (y : Nat) : Bool := e.decAt == some e.r.cyc && (memOp (opc y)).isSome

/-- BUNDLE_ISSUE (R254, R263): one bundle; a stop asked for takes effect at a clean boundary (Table 7.13). -/
def bundleIssue (k : Nat) (s : State) : State :=
  if canIssue s k then
    let e := engOf s k
    if e.stopReq && cleanAt e then modEng k (fun t => { t with stopReq := false }) (halt k .stopped s)
    else
      match fetchBundle k s with
      | (none, t) => setFault k 5 0 0 t
      | (some (x, y, z), t) =>
        match bundleFault s e x y z with
        | some (c, slot, a) => setFault k c slot a t
        | none => if decConflict e y then modEng k (fun u => { u with stall := some u.r.cyc }) t else issueBundle k x y z t
  else s

/-- BUNDLE_ISSUE. -/
def execBundleIssue (k : Nat) (s : State) : Host.Outcome State Fault Refusal := .next (bundleIssue k s)

/-- OPERATION_RESULT: results whose latency has passed reach their registers in order of issue (R263-R265). -/
def operationResult (k : Nat) (s : State) : State :=
  let e := engOf s k
  if !(isFrozen e) && dueNow e then modEng k landDue s else s

/-- OPERATION_RESULT. -/
def execOperationResult (k : Nat) (s : State) : Host.Outcome State Fault Refusal := .next (whileClocked (6 + k / 4) s (operationResult k s))

/-- DECISION_WRITE: the oldest gathered decision word takes port A, 2 engine cycles after its ACS issued (R279). -/
def decisionWrite (k : Nat) (s : State) : State :=
  let e := engOf s k
  match e.decWords with
  | d :: rest =>
    if d.1 = 0 ∧ isFrozen e = false then modEng k (fun t => { t with decWords := rest, decAt := some t.r.cyc }) (putDecision k d s) else s
  | [] => s

/-- DECISION_WRITE. -/
def execDecisionWrite (k : Nat) (s : State) : Host.Outcome State Fault Refusal := .next (whileClocked (6 + k / 4) s (decisionWrite k s))

/-- RLD_COMPLETION: the freeze of an RLD or RATOM ends (R293, R298, R301). -/
def rldCompletion (k : Nat) (s : State) : State :=
  match (engOf s k).frozen with
  | some (.remote gid reg wide pc addr order dslot) =>
    match takeCompletion gid s with
    | none => s
    | some (c, t) =>
      modEng k (fun e =>
        let e := { e with frozen := none, r := { e.r with rlast := statusCode c.status * 65536 + c.wait } }
        if c.status = .ok then
          let v := leAt c.data 0 (if wide then 8 else 4)
          let f : InFlight := { left := 0, dest := .g reg, val := BitVec.ofNat 160 v, order := order }
          { e with inFlight := e.inFlight ++ [f] ++ (if wide then [{ f with dest := .g (reg + 1), val := BitVec.ofNat 160 (v / 2 ^ 32) }] else []) }
        else
          { e with pend := some { cause := if c.status = .okPoison then 6 else 7, slot := 1, status := statusCode c.status, pc := pc, epc := e.pc, addr := addr, dslot := dslot } }) t
  | _ => s

/-- RLD_COMPLETION. -/
def execRldCompletion (k : Nat) (s : State) : Host.Outcome State Fault Refusal := .next (whileClocked (6 + k / 4) s (rldCompletion k s))

/-- Bytes that arrived of a divided RGET go into data memory through port B; the words of a flit that came with POISON become poisoned, and a word written in part stays poisoned (R299, R307, R371, R373). -/
def storeParts (k localAddr : Nat) (c : Completion) (s : State) : State :=
  let base := dmBase k + localAddr
  let bad := badRanges c
  forAll c.parts (fun t p =>
    if p.status = .ok ∨ p.status = .okPoison then
      let a := base + p.off
      writeWords a (p.data.take p.len) (fun w => bad.any (fun r => overlaps (base + r.1) r.2 (w * 8) 8) || (decide (w * 8 < a ∨ a + p.len < w * 8 + 8) && (wordTag t w).poisoned)) (noteB k (wordsOf a p.len) t)
    else t) s

/-- The freezes on a ticket end when it is free: WAITT goes on, RGET and RPUT start (R266). -/
def endTicketFreeze (k ticket : Nat) (s : State) : State :=
  let s := if (engOf s k).frozenX = some (.waitt ticket) then modEng k (fun e => { e with frozenX := none }) s else s
  match (engOf s k).frozen with
  | some (.ticket x) => if x.t = ticket then startXfer k x (modEng k (fun e => { e with frozen := none }) s) else s
  | _ => s

/-- TICKET_COMPLETION: the completions of all requests of a ticket have arrived (R299). -/
def ticketCompletion (k ticket : Nat) (s : State) : State :=
  let tk := tget (engOf s k).tickets {} ticket
  if tk.busy then
    match takeCompletion tk.gid s with
    | none => s
    | some (c, t) =>
      let u := if tk.get then storeParts k tk.localAddr c t else t
      endTicketFreeze k ticket (modEng k (fun e => { e with tickets := tset e.tickets ticket { tk with busy := false, status := c.status, wait := c.wait } }) u)
  else s

/-- TICKET_COMPLETION. -/
def execTicketCompletion (k ticket : Nat) (s : State) : Host.Outcome State Fault Refusal := .next (ticketCompletion k ticket s)

/-- INTERRUPT_INPUT_RISE. -/
def interruptInputRise (k line : Nat) (s : State) : State := if k < 96 ∧ line < 16 then raiseLine k line s else s

/-- INTERRUPT_INPUT_RISE. -/
def execInterruptInputRise (k line : Nat) (s : State) : Host.Outcome State Fault Refusal := .next (interruptInputRise k line s)

/-- Interrupt entry (R285, R288). -/
def enterInterrupt (e : Engine) : Engine :=
  let t := drain e
  let st := stReg t
  let u := setStBit 6 true (setStBit 2 false (clearLoops (setSrRaw 11 st (setSrRaw 10 t.pc t))))
  { u with pc := srRaw u 12 % 8192, pend := u.pend.map (fun p => { p with epc := srRaw u 12 % 8192 }) }

/-- INTERRUPT_ENTRY: at the first clean boundary; a halt goes first and a step takes none (R287, R543, R544). -/
def interruptEntry (k : Nat) (s : State) : State :=
  let e := engOf s k
  if e.st = .running ∧ cleanAt e ∧ irqPending e ∧ ¬ e.haltReq ∧ ¬ e.stepping ∧ ¬ e.stopReq ∧ e.pend = none then modEng k enterInterrupt (writeDecisions k s) else s

/-- INTERRUPT_ENTRY. -/
def execInterruptEntry (k : Nat) (s : State) : Host.Outcome State Fault Refusal := .next (whileClocked (6 + k / 4) s (interruptEntry k s))

/-- ENG_EXC of a pending exception (Table 7.16). -/
def excWord (e : Engine) (p : PendExc) (cause : Nat) : Nat :=
  p.status * 2 ^ 28 + p.slot * 1024 + b2n (loopActive e 0 || loopActive e 1) * 512 + b2n p.dslot * 256 + cause

/-- Exception entry with EXC_HALT = 0 (R294); a halt asked for by the debugger then takes effect before the handler's first bundle (R544). -/
def enterException (p : PendExc) (e : Engine) : Engine :=
  let st := stReg e
  let t := setStBit 7 true (setStBit 2 false (clearLoops (setSrRaw 25 st (setSrRaw 24 p.epc e))))
  let h := srRaw t 13 % 8192
  { t with st := .running, pc := h, branch := none, retSt := none, pend := t.pend.map (fun q => { q with epc := h }) }

/-- EXCEPTION_ENTRY: every earlier bundle completes; EPC is written; DOUBLE and EXC_HALT halt the engine with their event (R291-R294). A second poisoned load that completes here is an exception in the handler; a halt drops it (log entry 96). -/
def exceptionEntry (k : Nat) (s : State) : State :=
  let e := engOf s k
  match e.pend with
  | none => s
  | some p =>
    if (e.st = .running ∨ e.st = .wfi) ∧ isFrozen e = false then
      let s := writeDecisions k s
      let d := drain { engOf s k with pend := none }
      let double := bit (stReg d) 7
      let info := excWord d p (if double then 9 else p.cause)
      let d := { d with excInfo := info, excPc := p.pc % 8192, excAddr := if p.cause = 3 ∨ p.cause = 4 ∨ p.cause = 6 ∨ p.cause = 7 then p.addr else 0 }
      if double || d.excHalt then
        engEv k (if double then 3 else 1) 2 (modEng k (fun _ => { setSrRaw 24 p.epc d with st := .halted, pc := p.epc, branch := none, retSt := none, pend := none }) s)
      else modEng k (fun _ => enterException p d) s
    else s

/-- EXCEPTION_ENTRY. -/
def execExceptionEntry (k : Nat) (s : State) : Host.Outcome State Fault Refusal := .next (whileClocked (6 + k / 4) s (exceptionEntry k s))

end Sys2Proof.Machine
end

