-- ==== Sys2Proof/Machine/Braid.lean ====
section
/-! DEFINITION. Steps of the Braid network and of the sluice calendars (chapters 03, 04). -/

namespace Sys2Proof.Machine
open Sys2Proof

/-! ## Initiator side -/

/-- Requests waiting at a reach port or any other initiator enter their NI (R91). A reach answers a delivered request by presenting an RSP: `addr` names the request by its number, `kid` the STATUS (R438), one of those a target produces, with data when it is OK or OK_POISON (Table 3.11). -/
def requestPresented (ep agent : Nat) (r : Req) (s : State) : State :=
  if epListed ep ∧ ¬ outClamped s ep then
    if r.op = .rsp then
      match inboxFind s ep r.addr with
      | some d => if isReach ep && d.pkt.vc != 2 && [0, 1, 4, 5].contains r.kid then respond ep { d.pkt with wait := min 0xFFFF (d.pkt.wait + (s.time - d.at_ - Config.reachT ep)) } s.time 0 (statusOf r.kid) (if r.kid < 2 then r.data else []) (if r.kid < 2 then poisonFlits r.poison 0 r.data.length else []) false (inboxDrop r.addr s) else s
      | none => s
    else if r.op = .probe then s
    else (presentReq ep agent r s).2
  else s

/-- REQUEST_PRESENTED. -/
def execRequestPresented (ep agent : Nat) (r : Req) (s : State) : Host.Outcome State Fault Refusal := .next (whileClocked (epDomain ep) s (requestPresented ep agent r s))

/-- A flit of the NI is on its way onto the local input in this cycle or later: a link carries one flit per Braid cycle. -/
def linkBusy (s : State) (ep : Nat) : Bool := s.braid.wires.any (fun w => decide (w.hop = .input (epRouter ep) (epPort ep)) && decide (s.time ≤ w.sentAt))

/-- A packet may be chosen at its NI: the link is free, nothing of its VC and initiator waits ahead of it (R87, R300), its destination is not held (R98), and a far packet has its grant (R237). -/
def mayInject (s : State) (ep : Nat) (p : Packet) : Bool :=
  let n := niOf s ep
  let ahead := n.queue.takeWhile (fun q => q.pid != p.pid)
  !(ahead.any (fun q => q.vc == p.vc && q.agent == p.agent)) &&
  (p.op == .probe || !(n.holds.any (fun h => h.dst == legDst s ep p && h.vc == p.vc))) &&
  (!(leaving s p) || s.braid.granted.contains p.pid) && decide (p.presentedAt ≤ s.time) && (turnsAround s ep p || !(linkBusy s ep))

/-- A packet dropped before it left its NI gives back the room it holds at its exit port (R237). -/
def ungrant (p : Packet) (s : State) : State :=
  let coming := s.braid.tokens.any (fun t => decide (t.kind = .grant p.pid))
  if s.braid.granted.contains p.pid || coming then
    let port := p.exit.getD 0
    let lvc := outLvc s port p
    modPort port (fun x => { x with reserved := tset x.reserved lvc (tget x.reserved 0 lvc - flitCount p) }) (modBraid s (fun b => { b with granted := ldel b.granted p.pid, tokens := b.tokens.filter (fun t => decide (t.kind ≠ .grant p.pid)) }))
  else modBraid s (fun b => { b with tokens := b.tokens.filter (fun t => match t.kind with
      | .request _ _ pid => pid != p.pid
      | _ => true) })

/-- Take a packet that will not be injected out of its NI, with its ORB and its room at an exit port. -/
def dropQueued (ep : Nat) (p : Packet) (s : State) : State :=
  modNi ep (fun n => { n with queue := n.queue.filter (fun q => q.pid != p.pid), orbs := n.orbs.filter (fun o => o.pid != p.pid) }) (ungrant p s)

/-- A waiting request meets a fence: the bit of its DST, or of its own endpoint, has become 1 (R120). PROBEs and event records are no requests of an endpoint. -/
def meetsFence (s : State) (ep : Nat) (p : Packet) : Bool :=
  isRequest p && ((!(leaving s p) && fenced s p.dst) || (!(fromFar s p) && fenced s ep))

/-- End a waiting request with a STATUS at its NI: a local answer, or a response to the device it came from. -/
def refuseQueued (ep : Nat) (p : Packet) (st : Status) (s : State) : State :=
  if fromFar s p then respond ep p s.time 0 st [] [] false (dropQueued ep p s) else localAnswer ep p st (dropQueued ep p s)

/-- Inject a packet: route of this cycle, DEADLINE, WAIT, flits onto the local input (R91, R98, R101, R109). WAIT takes every cycle since presentation: waits for an ORB, a PROBE, the link, local credit and reserved VC2 slots (log entry 49). -/
def injectPacket (ep : Nat) (p : Packet) (s : State) : State :=
  let leg := legDst s ep p
  let turn := turnsAround s ep p
  let rt := if p.op = .probe then some p.route else if turn then some 0 else routeOf s ep leg
  match rt with
  | none =>
    if p.op = .rsp then braidEv (epRouter ep) 6 2 (epPort ep) p (dropQueued ep p s)
    else refuseQueued ep p .route s
  | some route =>
    let (q, s1) := reserveOrb ep p s
    let n := flitCount q
    let n1 := niOf s1 ep
    if nonPosted q.op && q.orb.isNone && !(fromFar s q) then s
    else if !turn && decide (vcDepth q.vc < tget n1.used 0 q.vc + n) then s
    else
      let lim := if q.far then s.braid.orbFar else s.braid.orbLocal
      let dl := braidNow s + lim * usCycles
      let waited := s.time - q.presentedAt
      let q := { q with route := route, wait := min 0xFFFF (q.wait + waited), deadline := if nonPosted q.op && !(fromFar s q) then dl % 2 ^ 32 else q.deadline }
      let t := modNi ep (fun m =>
        { m with queue := m.queue.filter (fun x => x.pid != p.pid), used := if turn then m.used else tadd m.used q.vc n, sent := if q.vc = 1 then m.sent else ladd (m.sent.filter (fun x => !(x.1 == leg && x.2.1 == q.vc))) (leg, q.vc, q.agent), orbs := m.orbs.map (fun o => if o.pid = q.pid then { o with deadline := some dl, injectedAt := s.time } else o), ctr := if turn then m.ctr else tinc m.ctr 0 }) s1
      let t := modBraid t (fun b => { b with granted := ldel b.granted q.pid })
      if turn then turnAround ep (s.time - 1) q t
      else modBraid t (fun b => { b with wires := b.wires ++ (flitsOf q).map (fun f => { hop := .input (epRouter ep) (epPort ep), flit := f, sentAt := s.time + f.idx }) })

/-- PACKET_INJECT. A NI whose local port is down injects nothing: it discards responses and posted packets, answers requests with ROUTE, and its PROBEs end with the packets they hold free (R128); a request toward a fenced endpoint ends FENCED (R120, log entry 89). -/
def packetInject (ep pid : Nat) (s : State) : State :=
  match (niOf s ep).queue.find? (fun q => q.pid == pid) with
  | none => s
  | some p =>
    if (niOf s ep).down && !(turnsAround s ep p) then
      if p.op = .rsp then discardAtNi ep p (dropQueued ep p s)
      else if p.op = .probe then releaseHold ep p.dst p.vc (dropQueued ep p s)
      else refuseQueued ep p .route s
    else if meetsFence s ep p then refuseQueued ep p .fenced s
    else if mayInject s ep p then injectPacket ep p s else s

/-- PACKET_INJECT. -/
def execPacketInject (ep pid : Nat) (s : State) : Host.Outcome State Fault Refusal := .next (whileClocked (braidDomain (colOf (epRouter ep))) s (packetInject ep pid s))

/-! ## Routers -/

/-- Take a link out of service at one router, after the packet in progress on that output (R128). -/
def linkDownAt (r port : Nat) (s : State) : State :=
  modRouter r (fun n => if thas n.busy port then { n with goingDown := ladd n.goingDown port } else { n with disabled := ladd n.disabled port }) s

/-- Take a link out of service in both directions (R128). -/
def linkDown (r port : Nat) (s : State) : State :=
  let t := linkDownAt r port s
  if 5 ≤ port then
    match epAt r port with
    | some e => modNi e (fun n => { n with down := true }) t
    | none => t
  else linkDownAt (neighbour r port) (opposite port) t

/-- A router cannot send by an output: the port is missing or disabled, leads to a router whose gate is CLOSED, is a local port without endpoint, or the code is END (R127). -/
def badPort (s : State) (r out : Nat) : Bool :=
  !(hasPort r out) || (routerOf s r).disabled.contains out ||
  (if 5 ≤ out then (epAt r out).isNone
   else (gateOf s (0x100 + neighbour r out)).st == .closed || (gateOf s (braidDomain (colOf (neighbour r out)))).st == .closed)

/-- Give a credit back for a discarded flit. -/
def owe (r port vc : Nat) (s : State) : State := modRouter r (fun n => { n with owed := n.owed ++ [(port, vc, s.time + creditDelay r port)] }) s

/-- Write an arriving flit into its input buffer. -/
def bufferFlit (r port : Nat) (f : Flit) (s : State) : State := modRouter r (fun n => { n with buf := n.buf ++ [(port, f)] }) s

/-- Drop a flit at a router; the rest of its packet follows (R127). -/
def dropFlit (r port : Nat) (f : Flit) (s : State) : State :=
  let t := owe r port f.pkt.vc s
  modRouter r (fun n =>
    { n with dropping := if f.isLast then ldel n.dropping f.pkt.pid else ladd n.dropping f.pkt.pid }) t

/-- A flit reaches a router input that is in service. A parity error counts and takes the link down even in a flit of a packet that is being discarded (R128). -/
def acceptFlit (r port : Nat) (f : Flit) (arrived : Nat) (parityError : Bool) (s : State) : State :=
  let out := f.pkt.route % 8
  let discarded := (routerOf s r).dropping.contains f.pkt.pid
  if parityError then
    let t := linkDown r port (braidEv r 1 2 port f.pkt (routerCount r (1 + port) s))
    if discarded then dropFlit r port f t
    else if f.isHead then dropFlit r port f (routerCount r 9 t)
    else bufferFlit r port { f with poison := true, at_ := arrived, ageFrom := arrived } t
  else if discarded then dropFlit r port f s
  else if f.isHead && f.pkt.vc == 2 then
    if badPort s r out then dropFlit r port f (braidEv r 2 2 port f.pkt (routerCount r 9 s))
    else if calEntry s.sluice.committed r out ((arrived + 2 - s.braid.epoch) % 1024) = some (f.pkt.flow, port) then
      bufferFlit r port { f with at_ := arrived, ageFrom := arrived } s
    else dropFlit r port f (discardAtRouter r port f.pkt s)
  else if f.isHead && badPort s r out then dropFlit r port f (braidEv r 2 2 port f.pkt (routerCount r 9 s))
  else bufferFlit r port { f with at_ := arrived, ageFrom := arrived } s

/-- The flit that has arrived first on a link. -/
def nextWire (s : State) (h : Hop) : Option Wire :=
  (s.braid.wires.filter (fun w => decide (w.hop = h) && wireDue s w)).foldl (fun m w => match m with
    | none => some w
    | some x => if w.sentAt < x.sentAt then some w else m) none

/-- FLIT_ARRIVAL: the next flit on a router's input link has arrived; a sleeping router starts to wake (R22, R131). -/
def flitArrival (r port : Nat) (parityError : Bool) (s : State) : State :=
  match nextWire s (.input r port) with
  | none => s
  | some w =>
    let t := modBraid s (fun b => { b with wires := b.wires.erase w })
    let at_ := w.sentAt + wireDelay w
    let asleep := (routerOf s r).asleep
    let u := modRouter r (fun n =>
      { n with lastFlit := at_, wakingSince := if asleep then some (n.wakingSince.getD at_) else none, ctr := if asleep && n.wakingSince.isNone then tinc n.ctr 1 else n.ctr }) t
    acceptFlit r port w.flit at_ parityError u

/-- FLIT_ARRIVAL. -/
def execFlitArrival (r port : Nat) (parityError : Bool) (s : State) : Host.Outcome State Fault Refusal := .next (whileClocked (braidDomain (colOf r)) s (flitArrival r port parityError s))

/-- ROUTER_PIPELINE_START: 24 Braid cycles after the first arrival (R131). -/
def routerPipelineStart (r : Nat) (s : State) : State :=
  match (routerOf s r).wakingSince with
  | some t => if (routerOf s r).asleep && decide (t + 24 ≤ s.time) then modRouter r (fun n => { n with asleep := false, wakingSince := none, pipeFrom := t + 24 }) s else s
  | none => s

/-- ROUTER_PIPELINE_START. -/
def execRouterPipelineStart (r : Nat) (s : State) : Host.Outcome State Fault Refusal := .next (whileClocked (braidDomain (colOf r)) s (routerPipelineStart r s))

/-- A router may sleep (R22-R24, R132): 4096 cycles without arrival, none arriving now, buffers empty, its gate OPEN, no maintenance, no committed or coming sluice path. -/
def maySleep (s : State) (r : Nat) : Bool :=
  let n := routerOf s r
  !n.asleep && decide (n.lastFlit + 4096 ≤ s.time) && n.buf.isEmpty &&
  !(s.braid.wires.any (fun w => wireDue s w && (match w.hop with
    | .input q _ => q == r
    | .ni _ => false))) &&
  (gateOf s (0x100 + r)).st == .opened && (gateOf s (braidDomain (colOf r))).st == .opened &&
  !(s.braid.maint.any (fun m => m.router == r)) && !(calUses s.sluice.committed r) &&
  !(s.sluice.commitB.isSome && calUses s.sluice.shadow r)

/-- ROUTER_SLEEP. -/
def routerSleep (r : Nat) (s : State) : State :=
  if decide (r < 64) && maySleep s r then modRouter r (fun n => { n with asleep := true, wakingSince := none }) s else s

/-- ROUTER_SLEEP. -/
def execRouterSleep (r : Nat) (s : State) : Host.Outcome State Fault Refusal := .next (whileClocked (braidDomain (colOf r)) s (routerSleep r s))

/-- URG_AGEING: a waiting head flit's age reaches AGE_QUANTUM (R105). -/
def urgAgeing (r port vc pid : Nat) (s : State) : State :=
  modRouter r (fun n =>
    { n with buf := n.buf.map (fun (p, f) =>
        if p = port ∧ f.pkt.vc = vc ∧ f.pkt.pid = pid ∧ f.isHead ∧ vc ≠ 2 ∧ f.ageFrom + s.braid.ageQuantum ≤ s.time then
          (p, { f with ageFrom := f.ageFrom + s.braid.ageQuantum, pkt := { f.pkt with urg := min (f.pkt.urg + 1) 15 } })
        else (p, f)) }) s

/-- URG_AGEING. -/
def execUrgAgeing (r port vc pid : Nat) (s : State) : Host.Outcome State Fault Refusal := .next (whileClocked (braidDomain (colOf r)) s (urgAgeing r port vc pid s))

/-- The flit at the front of an input buffer of a VC. -/
def frontFlit (n : Router) (port vc : Nat) : Option Flit :=
  (n.buf.find? (fun b => b.1 == port && b.2.pkt.vc == vc)).map (·.2)

/-- Remove the flit at the front of an input buffer of a VC. -/
def popFlit (l : List (Nat × Flit)) (port vc : Nat) : List (Nat × Flit) :=
  match l with
  | [] => []
  | b :: r => if b.1 = port ∧ b.2.pkt.vc = vc then r else b :: popFlit r port vc

/-- VC of a candidate of an input: VC0, VC1, VC3. -/
def candVc (i : Nat) : Nat := if i % 3 = 2 then 3 else i % 3

/-- Input port of a candidate: N E S W L0 L1 L2. -/
def candPort (i : Nat) : Nat := i / 3 + 1

/-- Free downstream credits of an output of a router on a VC (R84). An ejection port never withholds VC1 credit (R102); on VC0 and VC3 the NI holds the 8 flits of Table 3.6 for its endpoint (R83; DEDUCED, log entry 81). -/
def freeCredits (s : State) (r out vc : Nat) : Nat :=
  if out < 5 then vcDepth vc - tget (routerOf s r).used 0 (4 * out + vc)
  else if vc = 1 then vcDepth vc
  else match epAt r out with
    | some e => vcDepth vc - heldAtNi s e vc
    | none => vcDepth vc

/-- URG of a candidate that may win an output now: its head flit is at the front, is routed there, has been in the pipeline for its cycles and has credit for its whole packet (R74, R84, R106). -/
def candUrg (s : State) (r out i : Nat) : Option Nat :=
  let n := routerOf s r
  match frontFlit n (candPort i) (candVc i) with
  | none => none
  | some f =>
    if f.isHead && f.pkt.route % 8 == out && decide (max f.at_ n.pipeFrom + 2 ≤ s.time) && decide (flitCount f.pkt ≤ freeCredits s r out (candVc i)) then some f.pkt.urg else none

/-- The candidate that wins: the highest URG, the first after rr in candidate order (R106). -/
def arbWinner (s : State) (r out : Nat) : Option Nat :=
  let rr := tget (routerOf s r).rr 20 out
  let order := (List.range 21).map (fun k => (rr + 1 + k) % 21)
  let top : Nat := order.foldl (fun m i => match candUrg s r out i with
    | some u => max m (u + 1)
    | none => m) 0
  if top = 0 then none else order.find? (fun i => candUrg s r out i == some (top - 1))

/-- Where an output leads. -/
def outHop (r out : Nat) : Option Hop :=
  if 5 ≤ out then (epAt r out).map Hop.ni else some (.input (neighbour r out) (opposite out))

/-- Send the front flit of an input buffer by an output: ROUTE shifted, WAIT charged for the cycles beyond 3 (R82, R89); the credit is owed upstream, one is taken downstream (R85). -/
def sendFlit (r out port vc : Nat) (f : Flit) (s : State) : State :=
  let wait := if f.isHead ∧ vc ≠ 2 then min 0xFFFF (f.pkt.wait + (s.time - (f.at_ + 2))) else f.pkt.wait
  let g := if f.isHead then { f with pkt := { f.pkt with route := f.pkt.route / 8, wait := wait } } else f
  let t := modRouter r (fun n =>
    { n with buf := popFlit n.buf port vc, owed := n.owed ++ [(port, vc, s.time + creditDelay r port)], used := if out < 5 then tinc n.used (4 * out + vc) else n.used, busy := if vc = 2 then n.busy else if f.isLast then tdel n.busy out else tset n.busy out (port * 4 + vc), disabled := if f.isLast && n.goingDown.contains out then ladd n.disabled out else n.disabled, goingDown := if f.isLast then ldel n.goingDown out else n.goingDown }) s
  match outHop r out with
  | some h => modBraid t (fun b => { b with wires := b.wires ++ [{ hop := h, flit := g, sentAt := s.time }] })
  | none => t

/-- The output has sent its flit of this cycle. -/
def sentNow (s : State) (r out : Nat) : Bool :=
  match outHop r out with
  | some h => s.braid.wires.any (fun w => decide (w.hop = h) && w.sentAt == s.time)
  | none => false

/-- A packet whose head flit waits for an output that can no longer be used: its output has been disabled, or leads to a router whose gate has closed since it came (R127). -/
def strandedHead (s : State) (r out : Nat) : Option (Nat × Flit) :=
  if badPort s r out && !(thas (routerOf s r).busy out) then
    ((List.range 32).findSome? (fun i => (frontFlit (routerOf s r) (i / 4) (i % 4)).map (fun f => (i / 4, f)) |>.filter (fun b => b.2.isHead && b.2.pkt.route % 8 == out)))
  else none

/-- Drop a packet whose head is in an input buffer: its flits there leave, their credits return, the rest follows as it comes (R127). -/
def dropBuffered (r port : Nat) (f : Flit) (s : State) : State :=
  let mine := (routerOf s r).buf.filter (fun b => b.1 == port && b.2.pkt.pid == f.pkt.pid)
  let t := braidEv r 2 2 port f.pkt (routerCount r 9 s)
  forAll mine (fun u b => dropFlit r port b.2 u) (modRouter r (fun n => { n with buf := n.buf.filter (fun b => !(b.1 == port && b.2.pkt.pid == f.pkt.pid)) }) t)

/-- OUTPUT_ARBITRATION: one Braid cycle of one router output (R106); VC2 flits take their slot (R137, R142), a packet in progress goes on (R84). A packet for an output that is out of service is dropped (R127). -/
def outputArbitration (r out : Nat) (s : State) : State :=
  let n := routerOf s r
  let vc2 := match calEntry s.sluice.committed r out (braidNow s % 1024) with
    | some (flow, port) => (n.buf.find? (fun b => b.1 == port && b.2.pkt.vc == 2 && b.2.pkt.flow == flow && decide (b.2.at_ + 2 ≤ s.time))).map (fun b => (b.1, b.2))
    | none => none
  if n.asleep || sentNow s r out then s
  else match strandedHead s r out with
  | some (port, f) => dropBuffered r port f s
  | none =>
    match vc2 with
    | some (port, f) => sendFlit r out port 2 f s
    | none =>
      match tfind n.busy out with
      | some k =>
        match frontFlit n (k / 4) (k % 4) with
        | some f => if f.isHead ∨ s.time < f.at_ + 2 then s else sendFlit r out (k / 4) (k % 4) f s
        | none => s
      | none =>
        match arbWinner s r out with
        | none => s
        | some w =>
          match frontFlit n (candPort w) (candVc w) with
          | none => s
          | some f =>
            let t := modRouter r (fun m => { m with rr := tset m.rr out w }) s
            sendFlit r out (candPort w) (candVc w) f (if f.pkt.urg = 15 then routerCount r 10 t else t)

/-- OUTPUT_ARBITRATION. -/
def execOutputArbitration (r out : Nat) (s : State) : Host.Outcome State Fault Refusal := .next (whileClocked (braidDomain (colOf r)) s (outputArbitration r out s))

/-- CREDIT_RETURN: a credit of an input buffer reaches the output or NI upstream of it when its time has come (R85). -/
def creditReturn (r port vc : Nat) (s : State) : State :=
  match (routerOf s r).owed.find? (fun c => c.1 == port && c.2.1 == vc && decide (c.2.2 ≤ s.time)) with
  | none => s
  | some c =>
    let t := modRouter r (fun n => { n with owed := n.owed.erase c }) s
    if 5 ≤ port then
      match epAt r port with
      | some e => modNi e (fun n => { n with used := tset n.used vc (tget n.used 0 vc - 1) }) t
      | none => t
    else modRouter (neighbour r port) (fun n => { n with used := tset n.used (4 * opposite port + vc) (tget n.used 0 (4 * opposite port + vc) - 1) }) t

/-- CREDIT_RETURN. -/
def execCreditReturn (r port vc : Nat) (s : State) : Host.Outcome State Fault Refusal := .next (whileClocked (braidDomain (colOf r)) s (creditReturn r port vc s))

/-! ## Arrivals at NIs -/

/-- The flits of a packet that have come through the delivering NI. -/
def niFlits (s : State) (ep pid : Nat) : List Flit :=
  (s.braid.wires.filter (fun w => decide (w.hop = .ni ep) && w.flit.pkt.pid == pid && wireDue s w)).map (fun w => w.flit)

/-- A packet that has come whole, with its head's fields, the POISON of its data flits, and WAIT charged for its last flit's lag (Table 4.7). -/
def wholePacket (s : State) (ep pid : Nat) : Option Packet :=
  let l := niFlits s ep pid
  match l.find? (fun f => f.isHead) with
  | none => none
  | some h =>
    if l.length = flitCount h.pkt then
      let ws := s.braid.wires.filter (fun w => decide (w.hop = .ni ep) && w.flit.pkt.pid == pid)
      let first := ws.foldl (fun m w => min m w.sentAt) (s.time)
      let last := ws.foldl (fun m w => max m w.sentAt) 0
      let lag := last - first - (l.length - 1)
      some { h.pkt with wait := min 0xFFFF (h.pkt.wait + lag), poison := if l.length = 1 then h.pkt.poison else (l.filter (fun f => f.poison && !f.isHead)).map (fun f => f.idx - 1) }
    else none

/-- Remove the flits of a packet that lie at an NI. -/
def clearNi (ep pid : Nat) (s : State) : State :=
  modBraid s (fun b => { b with wires := b.wires.filter (fun w => !(decide (w.hop = .ni ep) && w.flit.pkt.pid == pid)) })

/-- A parity error at an NI in flit `i` of a packet: the local port goes out of service; an error in the head loses the packet, one in a data flit poisons its data (R128). Answers what is left of the packet. `none`: every flit passed the check. -/
def niParity (ep : Nat) (parity : Option Nat) (p : Packet) (s : State) : Option Packet × State :=
  match parity with
  | none => (some p, s)
  | some i =>
    (if i = 0 then none else some { p with poison := ladd p.poison (i - 1), status := if p.op = .rsp ∧ p.status = .ok then .okPoison else p.status },
      linkDown (epRouter ep) (epPort ep) (braidEv (epRouter ep) 1 2 (epPort ep) p s))

/-- The flit a parity operand names is one of the packet's. -/
def parityFits (parity : Option Nat) (p : Packet) : Bool := parity.all (fun i => decide (i < flitCount p))

/-- PROBE_ANSWER: the target NI answers a PROBE itself, after it has delivered every earlier packet of that source on that VC (R99). -/
def probeAnswer (ep pid : Nat) (parity : Option Nat) (s : State) : State :=
  match wholePacket s ep pid with
  | none => s
  | some p =>
    if p.op = .probe ∧ firstAtNi s ep p ∧ parityFits parity p then
      match niParity ep parity p (clearNi ep pid s) with
      | (some q, t) => respond ep q s.time 2 .ok [] [] false (niCount ep 1 t)
      | (none, t) => t
    else s

/-- PROBE_ANSWER. -/
def execProbeAnswer (ep pid : Nat) (s : State) (parity : Option Nat := none) : Host.Outcome State Fault Refusal := .next (whileClocked (braidDomain (colOf (epRouter ep))) s (probeAnswer ep pid parity s))

/-- A gate that covers the endpoint went through a forced drain: responses owed to it are discarded (R126). -/
def forcedShut (s : State) (ep : Nat) : Bool :=
  (gatesOf ep).any (fun g => let x := gateOf s g; x.timedOut && x.force && (x.st == .drained || x.st == .closed))

/-- An ORB had expired in a Braid cycle before a value of BRAID_NOW: it expires at DEADLINE + 1, and an arrival in that cycle comes first (R110, R111). -/
def expiredBefore (now : Nat) (o : Orb) : Bool := o.deadline.any (fun d => decide (d + 1 < now))

/-- A response that came at `came` reaches the initiator NI: one whose ORB has expired is dropped (R112), the ORB is freed and the part answered (R101, R102); a PROBE's answer releases its packets (R98). A forced drain discards it (R126). -/
def acceptResponse (ep : Nat) (p : Packet) (came : Nat) (s : State) : State :=
  if forcedShut s ep then niCount ep 7 s
  else match (niOf s ep).orbs.find? (fun o => o.pid == p.pid && !(expiredBefore (came - s.braid.epoch) o)) with
  | none => braidEv (epRouter ep) 4 1 (epPort ep) p (niCount ep 6 s)
  | some o =>
    let t := modNi ep (fun n => { n with orbs := n.orbs.filter (fun x => x.pid != p.pid), ctr := tinc n.ctr 1 }) s
    if o.probe then releaseHold ep o.dst o.vc t else finishPart p.pid p.status p.wait p.data 0 (notePoison p.pid p.poison t)

/-- RESPONSE_ARRIVAL. A parity error takes the local port out of service (R128): in the head it loses the response, in a data flit it poisons the data. -/
def responseArrival (ep pid : Nat) (parity : Option Nat) (s : State) : State :=
  match wholePacket s ep pid with
  | none => s
  | some p =>
    if p.op = .rsp ∧ ¬ leaving s p ∧ parityFits parity p then
      match niParity ep parity { p with status := if p.poison != [] && decide (p.status = .ok) then .okPoison else p.status } (clearNi ep pid s) with
      | (some q, t) => acceptResponse ep q (arrivedAt s ep pid) t
      | (none, t) => t
    else s

/-- RESPONSE_ARRIVAL. -/
def execResponseArrival (ep pid : Nat) (parity : Option Nat) (s : State) : Host.Outcome State Fault Refusal := .next (whileClocked (braidDomain (colOf (epRouter ep))) s (responseArrival ep pid parity s))

/-- ORB_EXPIRY: BRAID_NOW exceeds the DEADLINE and no response arrives in this cycle (R110, R111). -/
def orbExpiry (ep index : Nat) (s : State) : State :=
  match (niOf s ep).orbs.find? (fun o => o.index == index) with
  | none => s
  | some o =>
    match o.deadline with
    | none => s
    | some d =>
      if d < braidNow s ∧ ¬ ((wholePacket s ep o.pid).isSome ∧ arrivedAt s ep o.pid - s.braid.epoch ≤ d + 1) then
        let p : Packet := { vc := o.vc, dst := o.dst, src := ep, tag := o.index }
        let t := modNi ep (fun n => { n with orbs := n.orbs.filter (fun x => x.index != index), ctr := tinc n.ctr 5 }) s
        let u := braidEv (epRouter ep) 3 1 (epPort ep) p t
        if o.probe then releaseHold ep o.dst o.vc (braidEv (epRouter ep) 7 1 (epPort ep) p u)
        else finishPart o.pid .timeout (min 0xFFFF (s.time - o.injectedAt)) [] 0 u
      else s

/-- ORB_EXPIRY. -/
def execOrbExpiry (ep index : Nat) (s : State) : Host.Outcome State Fault Refusal := .next (whileClocked (braidDomain (colOf (epRouter ep))) s (orbExpiry ep index s))

/-! ## Table swaps -/

/-- Hold a destination whose string changes: a PROBE on the old string on each VC used under the old table; a VC not used needs none (R98). -/
def holdDst (ep dst : Nat) (old : Nat) (sent : List (Nat × Nat × Nat)) (s : State) : State :=
  forAll (sent.filter (fun x => x.1 == dst)) (fun t x =>
    let p : Packet := { pid := t.braid.nextPid, vc := x.2.1, dst := dst, src := ep, op := .probe, route := old % 2 ^ 48, urg := startUrg ep x.2.1 false, agent := x.2.2, presentedAt := t.time }
    let h : Hold := { dst := dst, vc := x.2.1, share := orbShare ep x.2.2 }
    let u := modBraid t (fun b => { b with nextPid := b.nextPid + 1 })
    let (q, v) := reserveOrb ep p u
    modNi ep (fun n => { n with holds := n.holds.filter (fun y => !(y.dst == dst && y.vc == x.2.1)) ++ [h], queue := q :: n.queue }) v) s

/-- Swap the route tables of an NI (R96-R98). -/
def swapRoutes (ep : Nat) (s : State) : State :=
  let n := niOf s ep
  let oldE := fun d => tget n.routes (defaultEntry ep d) d
  let newE := fun d => tget n.shadow (defaultEntry ep d) d
  let changed := (List.range 0x70).filter (fun d => oldE d != newE d)
  let t := modNi ep (fun m =>
    { m with routes := m.shadow, shadow := m.routes, swapPending := false, sent := m.sent.filter (fun x => !(changed.contains x.1)) }) s
  forAll changed (fun u d => holdDst ep d (oldE d) n.sent u) t

/-- Headwater's command that waits for the swaps goes on. -/
def swapsDone (s : State) : State :=
  let on := fun (l : List Nat) => l.all (fun e => !(domOn s (braidDomain (colOf (epRouter e)))))
  let done := fun (o : Nat) => match o with
    | 0x0301 => (s.braid.commitJob.getD []).all (fun e => !(domOn s (braidDomain (colOf (epRouter e)))))
    | 0x0801 => on s.delta.farPending
    | 0x0400 => on s.dram.mapPending
    | _ => false
  let t := modFerry s (fun f => { f with serving := f.serving.map (fun v => { v with waitingFor := if done v.opcode then 0 else v.waitingFor }) })
  if s.braid.commitJob = some [] then modBraid t (fun b => { b with commitJob := none }) else t

/-- NI_TABLE_SWAP: at a packet boundary the NI installs what a two-phase commit has prepared: route tables, far table, DRAM map (R96, R236, R322). -/
def niTableSwap (ep : Nat) (s : State) : State :=
  let t := if (niOf s ep).swapPending then
      modBraid (swapRoutes ep s) (fun b => { b with commitJob := b.commitJob.map (fun l => ldel l ep) })
    else s
  let u := modDelta t (fun d => { d with farPending := ldel d.farPending ep })
  let v := modDram u (fun d => { d with mapPending := ldel d.mapPending ep })
  swapsDone v

/-- NI_TABLE_SWAP. -/
def execNiTableSwap (ep : Nat) (s : State) : Host.Outcome State Fault Refusal := .next (niTableSwap ep s)

/-- FENCE_BITMAP_UPDATE: Rill has brought the gates' state to every NI (R121). -/
def fenceBitmapUpdate (s : State) : State := when_ (rillRuns s) (fun t => modBraid t (fun b => { b with fence := [], fenceStale := false })) s

/-- FENCE_BITMAP_UPDATE. -/
def execFenceBitmapUpdate (s : State) : Host.Outcome State Fault Refusal := .next (fenceBitmapUpdate s)

/-! ## Sluice -/

/-- Slot of a calendar's flow at this cycle. -/
def slotNow (s : State) : Nat := braidNow s % 1024

/-- Between B and B + 63 no NI injects VC2 (R149). -/
def inGap (s : State) : Bool :=
  match s.sluice.commitB with
  | some b => decide (b ≤ braidNow s ∧ braidNow s < b + 64)
  | none => false

/-- A reserved VC2 flit takes its slot on the local input; what the NI is sending leaves one cycle later (R84), which goes into the WAIT of a head flit (R82). -/
def yieldSlot (ep : Nat) (s : State) : State :=
  let mine := fun (w : Wire) => decide (w.hop = .input (epRouter ep) (epPort ep)) && decide (s.time ≤ w.sentAt)
  if s.braid.wires.any (fun w => mine w && w.sentAt == s.time) then
    modBraid s (fun b => { b with wires := b.wires.map (fun w => if mine w then
      { w with sentAt := w.sentAt + 1, flit := if w.flit.isHead then { w.flit with pkt := { w.flit.pkt with wait := min 0xFFFF (w.flit.pkt.wait + 1) } } else w.flit } else w) })
  else s

/-- Inject a VC2 flit: the release wait goes into WAIT (R140), then the local input 4 cycles on (R142). -/
def sluiceInject (f : Flow) (r : Released) (s : State) : State :=
  let old : Packet := r.pkt.getD { src := f.src, dst := f.dst }
  let p : Packet := { old with pid := s.braid.nextPid, vc := 2, route := f.route, op := .wrp, len := r.data.length, addr := r.addr, wait := min 0xFFFF (old.wait + (s.time - r.presentedAt)), flow := f.flow, data := r.data, poison := if r.poison then [0] else [], presentedAt := r.presentedAt }
  modBraid (modSluice (niCount f.src 0 (yieldSlot f.src s)) (fun y => { y with lastInject := tset y.lastInject f.src (s.time + 1) })) (fun b =>
    { b with nextPid := b.nextPid + 1, granted := ldel b.granted old.pid, wires := b.wires ++ (flitsOf p).map (fun x => { hop := .input (epRouter f.src) (epPort f.src), flit := x, sentAt := s.time }) })

/-- The NI may accept a flit of a flow in this cycle: an injection slot, outside the gap, none accepted yet (R139, R149). -/
def slotOpen (s : State) (f : Flow) : Bool :=
  f.slots.contains (slotNow s) && !(inGap s) && tget s.sluice.lastInject 0 f.src != s.time + 1

/-- A VC2 flit's pseudo-packet, for the discard's event. -/
def flowPacket (ep flow dst : Nat) : Packet := { vc := 2, src := ep, dst := dst, flow := flow, op := .wrp }

/-- A flit that leaves by a Delta port has its exit reservation (R237). -/
def flitGranted (s : State) (r : Released) : Bool :=
  match r.pkt with
  | some p => !(leaving s p) || s.braid.granted.contains p.pid
  | none => true

/-- A Delta port's flit that ends at its NI gives back the room it holds at its exit port (R237). -/
def ungrant? (pkt : Option Packet) (s : State) : State :=
  match pkt with
  | some p => ungrant p s
  | none => s

/-- A flit is presented on a flow, with the packet it comes from when a Delta port forwards it (R139, R141, R145, R232). The record of a flit whose flow the calendar does not hold carries DST 0 (R135; DESIGN CHOICE, log entry 86). A flit that finds its release queue full is not taken: its release wait counts from the presentation that is (R140; DESIGN CHOICE, log entry 87). -/
def presentFlit (ep flow addr : Nat) (data : List Byte) (poison : Bool) (pkt : Option Packet) (s : State) : State :=
  match flowAt s.sluice.committed ep flow with
  | none => if epListed ep then discardAtNi ep (flowPacket ep flow 0) (ungrant? pkt s) else s
  | some f =>
    if fenced s ep || fenced s f.dst || (niOf s ep).down then discardAtNi ep (flowPacket ep flow f.dst) (ungrant? pkt s)
    else
      let r : Released := { ep := ep, flow := flow, addr := addr, data := data.take 128, poison := poison, presentedAt := s.time, pkt := pkt }
      let waiting := (s.sluice.queue.filter (fun x => x.ep == ep && x.flow == flow)).length
      if waiting = 0 ∧ slotOpen s f ∧ flitGranted s r then sluiceInject f r s
      else if waiting < 4 then modSluice s (fun y => { y with queue := y.queue ++ [r] })
      else s

/-- VC2_FLIT_PRESENT (R139, R141, R145). -/
def vc2FlitPresent (ep flow addr : Nat) (data : List Byte) (poison : Bool) (s : State) : State :=
  if outClamped s ep then s else presentFlit ep flow addr data poison none s

/-- VC2_FLIT_PRESENT. -/
def execVc2FlitPresent (ep flow addr : Nat) (data : List Byte) (poison : Bool) (s : State) : Host.Outcome State Fault Refusal :=
  .next (whileClocked (epDomain ep) s (vc2FlitPresent ep flow addr data poison s))

/-- Remove the oldest flit of a release queue. -/
def popRelease (l : List Released) (ep flow : Nat) : List Released :=
  match l with
  | [] => []
  | r :: t => if r.ep = ep ∧ r.flow = flow then t else r :: popRelease t ep flow

/-- VC2_INJECT: the oldest waiting flit of a flow leaves in an injection slot (R139). One whose endpoint or DST is fenced by now, or whose NI's local port is down, is discarded (R117, R120, R128; log entry 89). -/
def vc2Inject (ep flow : Nat) (s : State) : State :=
  match flowAt s.sluice.committed ep flow, s.sluice.queue.find? (fun r => r.ep == ep && r.flow == flow) with
  | some f, some r =>
    let t := modSluice s (fun y => { y with queue := popRelease y.queue ep flow })
    if fenced s ep || fenced s f.dst || (niOf s ep).down then discardAtNi ep (flowPacket ep flow f.dst) (ungrant? r.pkt t)
    else if slotOpen s f && flitGranted s r then sluiceInject f r t
    else s
  | _, _ => s

/-- VC2_INJECT. -/
def execVc2Inject (ep flow : Nat) (s : State) : Host.Outcome State Fault Refusal := .next (whileClocked (braidDomain (colOf (epRouter ep))) s (vc2Inject ep flow s))

/-- The sleeping routers on the paths of a calendar wake (R24). -/
def wakeRouters (cal : List Flow) (s : State) : State :=
  modBraid s (fun y => { y with routers := y.routers.map (fun p => if calUses cal p.1 && p.2.asleep then (p.1, { p.2 with asleep := false, ctr := if p.2.wakingSince.isNone then tinc p.2.ctr 1 else p.2.ctr, wakingSince := none }) else p) })

/-- CALENDAR_SWAP: at B + 64 every router and NI swaps (Table 4.5); queued flits of flows the new calendar does not hold are discarded (R151); new routers are awake (R24). -/
def calendarSwap (s : State) : State :=
  match s.sluice.commitB with
  | none => s
  | some b =>
    if b + 64 ≤ braidNow s then
      let new := match s.sluice.commitKind with
        | .command => s.sluice.shadow
        | .suspend => []
        | .resume => s.sluice.suspended.getD []
      let gone := s.sluice.queue.filter (fun r => (flowAt new r.ep r.flow).isNone)
      let t := modSluice s (fun y =>
        { y with committed := new, shadow := if y.commitKind = .command then y.committed else y.shadow, suspended := (match y.commitKind with
            | .command => y.suspended
            | .suspend => some y.committed
            | .resume => none), commitB := none, queue := y.queue.filter (fun r => (flowAt new r.ep r.flow).isSome) })
      let u := forAll gone (fun v r => discardAtNi r.ep (flowPacket r.ep r.flow (((flowAt s.sluice.committed r.ep r.flow).map (fun f => f.dst)).getD 0)) (ungrant? r.pkt v)) t
      let w := wakeRouters new u
      if s.sluice.commitKind = .command then modFerry w (fun f => { f with serving := f.serving.map (fun v => { v with waitingFor := if v.opcode = 0x0303 then 0 else v.waitingFor }) }) else w
    else s

/-- CALENDAR_SWAP. -/
def execCalendarSwap (s : State) : Host.Outcome State Fault Refusal := .next (calendarSwap s)

end Sys2Proof.Machine
end

