-- ==== Sys2Proof/Machine/Regs.lean ====
section
/-! DEFINITION. What a read of each register returns: the register windows of Table 1.8 and BAR0. -/

namespace Sys2Proof.Machine
open Sys2Proof

/-! ## Ferry channels (R37) -/

/-- Code of a channel state (Table 2.7). -/
def chStCode (c : ChState) : Nat :=
  match c with
  | .empty => 0
  | .posted => 1
  | .taken => 2
  | .done => 3
  | .aborted => 4

/-- SEQ of the message now in a channel. -/
def chanSeq (c : Channel) : Nat := (tget c.msg 0 0).toNat / 65536

/-- BELL reads 1 while the channel is not EMPTY and not withdrawn (Table 2.6, Table 2.11; DEDUCED, log entry 14). -/
def bellBit (c : Channel) : Nat := b2n (decide (c.st ≠ .empty) && !c.wdraw)

/-- A word of a Ferry channel's registers (Tables 2.3 to 2.8). -/
def ferryWord (s : State) (c o : Nat) : Nat :=
  let h := chanOf s c
  if o < 0x40 then (tget h.msg 0 (o / 4)).toNat
  else if o < 0x80 then (tget h.resp 0 ((o - 0x40) / 4)).toNat
  else if o = 0x80 then bellBit h
  else if o = 0x84 then h.seq * 65536 + b2n h.wdraw * 8 + chStCode h.st
  else if o = 0x88 then h.ackSeq * 65536 + h.ackCode
  else 0

/-! ## Lanes (Tables 5.8 to 5.10) -/

/-- Code of a lane's power state. -/
def lanePwrCode (p : LanePwr) : Nat :=
  match p with
  | .active => 0
  | .quiet => 1
  | .slackwater => 2
  | .unset => 3

/-- Code of a receiver state (Table 5.6). -/
def rxCode (r : RxState) : Nat :=
  match r with
  | .off => 0
  | .pllWait => 1
  | .signalWait => 2
  | .cdrAcq => 3
  | .adaptInit => 4
  | .lockHunt => 5
  | .frameHunt => 6
  | .up => 7

/-- LANE_LSTAT (Table 5.9). -/
def laneLstat (l : Lane) : Nat :=
  (if l.rx = .up then l.margin % 256 else 0) * 2 ^ 24 + lanePwrCode l.pwr * 2 ^ 18 + l.mode % 8 * 2 ^ 15 + b2n l.energy * 2048 +
  b2n l.tx.txpre * 1024 + b2n l.tx.rxpre * 512 + b2n l.frozen * 256 + b2n l.fecAlign * 128 + b2n l.blockLock * 64 + rxCode l.rx

/-- A word of a lane quad's register window. -/
def laneWord (s : State) (q o : Nat) : Nat :=
  if 0x1000 ≤ o ∧ o < 0x1400 then
    let l := laneOf s (4 * q + (o - 0x1000) / 0x100)
    match o % 0x100 with
    | 0x00 => laneLstat l
    | 0x04 => l.fecCorr
    | 0x08 => l.fecUncorr
    | 0x0C => l.hdrErr
    | 0x10 => l.lockLoss
    | 0x14 => l.rxDrop
    | _ => 0
  else 0

/-! ## Engines and movers (Tables 7.12 to 7.17) -/

/-- Code of ENG_STAT.STATE. -/
def engStCode (x : EngState) : Nat :=
  match x with
  | .reset => 0
  | .running => 1
  | .stopped => 2
  | .halted => 3
  | .debug => 4
  | .wfi => 5

/-- Code of QM_STAT.STATE. -/
def qmStCode (x : QmState) : Nat :=
  match x with
  | .idle => 0
  | .run => 1
  | .done => 2
  | .error => 3
  | .aborted => 4

/-- A word of a quad's register window. -/
def quadWord (s : State) (q o : Nat) : Nat :=
  if 0x1000 ≤ o ∧ o < 0x1400 then
    let e := engOf s (4 * q + (o - 0x1000) / 0x100)
    match o % 0x100 with
    | 0x00 => b2n e.excHalt * 4 + b2n e.runBit
    | 0x04 => b2n (isFrozen e) * 2 ^ 19 + engStCode e.st * 65536 + e.pc % 8192
    | 0x08 => e.start % 8192
    | 0x0C => e.excInfo
    | 0x10 => e.excPc % 8192
    | 0x14 => e.excAddr
    | _ => 0
  else if 0x2000 ≤ o ∧ o < 0x2100 then
    let m := (engOf s (4 * q + (o - 0x2000) / 0x40)).mover
    match o % 0x40 with
    | 0x00 => m.rowsDone % 65536 * 65536 + statusCode m.status * 16 + qmStCode m.st
    | 0x04 => m.desc
    | _ => 0
  else 0

/-! ## DRAM channels and Basin groups (Tables 8.13, 9.5) -/

/-- Code of DRAM_CSTAT.PWR. -/
def dPwrCode (p : DPwr) : Nat :=
  match p with
  | .active => 0
  | .selfRefresh => 1
  | .training => 2
  | .untrained => 3

/-- DRAM_CSTAT (Table 8.14). -/
def dramCstat (s : State) (c : Nat) : Nat :=
  let h := dchOf s c
  dPwrCode h.pwr * 2 ^ 30 + b2n (!h.inOrder.isEmpty) * 2 ^ 29 + b2n (!h.throttled.isEmpty) * 2 ^ 28 + b2n (dchX s c).flip.isSome * 2 ^ 27 +
  b2n h.tempHigh * 2 ^ 26 + min h.wq.length 128 * 65536 + min h.rq.length 64 * 256 + min h.cam 64

/-- A word of a DRAM channel's register window. -/
def dramWord (s : State) (c o : Nat) : Nat :=
  if o = 0 then dramCstat s c
  else if o = 4 then (dchX s c).flipAddr / 4 % 2 ^ 32
  else if 0x100 ≤ o ∧ o < 0x134 then tget (dchX s c).ctr 0 ((o - 0x100) / 4)
  else 0

/-- Code of a memory power state (Table 9.6). -/
def memPwrCode (p : MemPwr) : Nat :=
  match p with
  | .on => 0
  | .retention => 1
  | .init => 2
  | .off => 3

/-- A word of a Basin group's register window. -/
def basinWord (s : State) (g o : Nat) : Nat :=
  let b := bgroupOf s g
  if o = 0 then memPwrCode (memPwr s g) * 2 ^ 30 + b.merge.length % 32 * 2 ^ 20 + b.queue.length % 64 * 256
  else if o = 4 then tget s.dbg.fuses.basinRepair 0 g % 65536
  else if o = 8 then b.errAddr / 8 * 8 % 2 ^ 23
  else if 0x100 ≤ o ∧ o < 0x118 then tget b.ctr 0 ((o - 0x100) / 4)
  else 0

/-! ## Backwater, event router (Tables 12.7, 15.5) -/

/-- BW_HWY[31:16] are driven (R481, R482, Table 1.9). -/
def bwOut (s : State) : Bool :=
  s.bw.st != .uninit && (s.twin.role == .unpaired || s.twin.role == .active) && !s.fabric.cfgErr && s.power.dev != .stipple && !s.dbg.inReset && !(s.power.railsOut.contains .bw) && !s.bw.clockLost

/-- Code of BW_STAT.STATE. -/
def bwStCode (b : BwState) : Nat :=
  match b with
  | .uninit => 0
  | .hunt => 1
  | .locked => 2

/-- BW_STAT (Table 12.7). -/
def bwStat (s : State) : Nat :=
  bwStCode s.bw.st * 2 ^ 30 + s.bw.source % 4 * 2 ^ 28 + b2n (bwOut s) * 2 ^ 27 + b2n s.bw.txBraid * 2 ^ 26 + s.bw.mframe % 16 * 2 ^ 20

/-- A word of the event router's window (Table 15.3). -/
def evWord (s : State) (o : Nat) : Nat :=
  if o = 0 then b2n s.events.fatalFence
  else if o = 4 then b2n (s.events.fifo.any (fun r => r.ovf)) * 2 ^ 31 + s.events.fifo.length
  else if 0x1000 ≤ o ∧ o < 0x1800 then evCfg s ((o - 0x1000) / 4)
  else 0

/-! ## Register windows -/

/-- A 32-bit word of a register window; reserved offsets read 0 (R7). Reads with side effects are commands of their own. -/
def regWord (s : State) (ep o : Nat) : Nat :=
  if ep = 0x04 then evWord s o
  else if ep = 0x05 then (if o < 0x10000 then ferryWord s (o / 0x200) (o % 0x200) else 0)
  else if 0x08 ≤ ep ∧ ep < 0x10 then basinWord s (ep - 0x08) o
  else if 0x10 ≤ ep ∧ ep < 0x20 then dramWord s (ep - 0x10) o
  else if 0x20 ≤ ep ∧ ep < 0x30 then laneWord s (ep - 0x20) o
  else if isQuad ep then quadWord s (ep - 0x40) o
  else if ep = 0x58 then (if o = 0 then bwStat s else if 0x100000 ≤ o ∧ o < 0x110000 then leAt ((List.range 4).map (fun i => tget s.bw.ring 0 (o - 0x100000 + i))) 0 4 else 0)
  else 0

/-- A byte of a register window. -/
def regByte (s : State) (ep o : Nat) : Byte := BitVec.ofNat 8 (regWord s ep (o / 4 * 4) / 2 ^ (8 * (o % 4)))

/-- Bytes of a register window. -/
def regBytes (s : State) (ep o n : Nat) : List Byte := (List.range n).map (fun i => regByte s ep (o + i))

/-! ## BAR0 (Table 2.14) -/

/-- Life-cycle code (Table 2.15). -/
def lifeCode (l : Life) : Nat :=
  match l with
  | .blank => 0
  | .provisioned => 1
  | .secured => 2
  | .retired => 3

/-- DEVICE_STATE code (Table 2.15). -/
def devCode (d : DevState) : Nat :=
  match d with
  | .active => 0
  | .trim => 1
  | .doze => 2
  | .stipple => 3

/-- DEV_STATUS (Table 2.15). -/
def devStatus (s : State) : Nat :=
  s.delta.deviceId % 16384 * 65536 + b2n (decide (s.twin.role = .active)) * 1024 + lifeCode s.dbg.fuses.life * 256 + devCode s.power.dev * 32 +
  b2n s.tbase.valid * 16 + b2n s.events.fatalN * 8 + b2n s.fabric.cfgErr * 4 + b2n s.fabric.cfgDone * 2 + b2n s.ferry.ready

/-- FATAL_SUMMARY (Table 2.16). -/
def fatalSummary (s : State) : Nat :=
  b2n (!s.events.groups.isEmpty) * 2 ^ 31 + s.events.firstEv % 512 * 65536 + listMask s.events.groups

/-- EV_DOORBELL (Table 2.18): EV_PENDING while the host queue holds a record. -/
def evDoorbell (s : State) : Nat := b2n (!s.events.hostQ.isEmpty) * 16 + s.host.doorbell % 16

/-- A 32-bit word of BAR0 outside the host channels. -/
def bar0Word (s : State) (o : Nat) : Nat :=
  if o < 0x800 then ferryWord s (96 + o / 0x200) (o % 0x200)
  else if o = 0x10000 then devStatus s
  else if o = 0x10100 then fatalSummary s
  else if o = 0x10200 then s.tbase.tb % 2 ^ 32
  else if o = 0x10204 then s.host.tbHi
  else if o = 0x10300 then evDoorbell s
  else if 0x20000 ≤ o ∧ o < 0x20080 then
    let a := tget s.host.apertures (false, 0) ((o - 0x20000) / 8)
    if o % 8 = 4 then b2n a.1 * 2 ^ 31 + a.2 % 65536 else 0
  else 0

/-- A 32-bit word of BAR0 as a debug read returns it: TIMEBASE_HI comes from the debug latch (R545). -/
def bar0DebugWord (s : State) (o : Nat) : Nat := if o = 0x10204 then s.host.tbHiDebug else bar0Word s o

end Sys2Proof.Machine
end

