-- ==== Sys2Proof/Machine/Channel.lean ====
section
/-! DEFINITION. What writes do to one Ferry channel (Tables 2.4 to 2.11, R38, R39, R50). -/

namespace Sys2Proof.Machine
open Sys2Proof

/-- The sender writes BELL = 0, or resets: POSTED is withdrawn, TAKEN runs on with WDRAW, DONE and ABORTED clear (Table 2.11, R49). A take in the same Braid cycle still finds the message (R45). -/
def clearBell (now : Nat) (c : Channel) : Channel :=
  match c.st with
  | .empty => c
  | .posted => { c with st := .empty, withdrawnAt := some now }
  | .taken => { c with wdraw := true }
  | .done => { c with st := .empty }
  | .aborted => { c with st := .empty }

/-- FERRY_MSG may be written (Table 2.4). -/
def msgOpen (c : Channel) : Bool := decide (c.st = .empty ∨ c.st = .done ∨ c.st = .aborted)

/-- Bytes written from an offset into FERRY_MSG; bytes beyond it are not. -/
def msgBytes (c : Channel) (o : Nat) (l : List Byte) : Channel :=
  match l with
  | [] => c
  | b :: r =>
    let w := (tget c.msg 0 (o / 4)).toNat
    let v := w - bits w (8 * (o % 4) + 7) (8 * (o % 4)) * 2 ^ (8 * (o % 4)) + b.toNat * 2 ^ (8 * (o % 4))
    msgBytes (if o < 0x40 then { c with msg := tset c.msg (o / 4) (BitVec.ofNat 32 v) } else c) (o + 1) r

/-- A message is aborted by the Ferry block: ACK takes its SEQ and 0x0019 (R50). -/
def abortChan (c : Channel) : Channel := { c with st := .aborted, seq := chanSeq c, ackSeq := chanSeq c, ackCode := 0x0019, wdraw := false }

/-- BELL = 1: an EMPTY channel posts; during a Headwater reset it is ABORTED (Table 2.11). FERRY_STAT.SEQ keeps the SEQ of the message posted last until then: what it reads while an EMPTY channel is being written is open (R37; DESIGN CHOICE, log entry 79). -/
def postBell (now : Nat) (served : Bool) (c : Channel) : Channel :=
  if c.st = .empty then
    if served then { c with st := .posted, seq := chanSeq c, postedAt := now, wdraw := false, withdrawnAt := none } else abortChan c
  else c

/-- The channels that are served now: every one while Headwater runs, the host's in recovery (R531). -/
def chanServed (s : State) (c : Nat) : Bool := !s.ferry.resetting || (s.ferry.recovery && decide (96 ≤ c ∧ c < 100))

/-- What a delivered write does to its channel. -/
def chanWrite (s : State) (c : Nat) (p : Packet) (h : Channel) : Channel :=
  let o := p.addr % 0x200
  if o < 0x40 then (if msgOpen h then msgBytes h o p.data else h)
  else if o = 0x80 then (if bit (leAt p.data 0 1) 0 then postBell s.time (chanServed s c) h else clearBell s.time h)
  else h

/-- Channel of a packet delivered to the Ferry block. -/
def chanOfPkt (p : Packet) : Nat := p.addr % 0x200000 / 0x200

/-- The channels as they are once the writes delivered ahead of a read have taken effect (R39, R46): what that read returns. -/
def afterWrites (pid : Nat) (s : State) : State :=
  forAll ((s.braid.inbox.filter (fun d => d.ep == 0x05)).takeWhile (fun d => d.pkt.pid != pid)) (fun t d => modChan (chanOfPkt d.pkt) (if d.pkt.op = .rd then fun h => h else chanWrite t (chanOfPkt d.pkt) d.pkt) t) s

end Sys2Proof.Machine
end

