-- ==== Sys2Proof/Machine/Delivery.lean ====
section
/-! DEFINITION. REQUEST_DELIVERY: what a target NI does with a request that has come whole (R14, R36, R78, R117, R123, R312, R361, R383, R429, R438, R492, R561). -/

namespace Sys2Proof.Machine
open Sys2Proof

/-- A request of an initiator of this device's Headwater. -/
def fromHw (p : Packet) : Bool := p.src == 0x00 && !p.far

/-- A request of a quad mover. -/
def fromMover (p : Packet) : Bool := isQuad p.src && decide (4 ≤ p.agent) && !p.far

/-- The device a Ferry channel 102-105 is bound to (Table 6.2). -/
def boundDev (s : State) (c : Nat) : Option Nat :=
  (s.delta.ports.filterMap (fun p => match p.2.bind with
    | some (ch, d) => if ch = c then some d else none
    | none => none)).head?

/-- A request comes from the owner of a Ferry channel (R35, R36). -/
def ownsChan (s : State) (c : Nat) (p : Packet) : Bool :=
  if c < 96 then !p.far && p.src == 0x40 + c / 4 && p.agent == c % 4
  else if c < 100 then !p.far && p.src == 0x07
  else if c = 100 then !p.far && p.src == 0x59
  else if c = 101 then !p.far && p.src == 0x06
  else if c < 106 then p.far && boundDev s c == some p.srcDev
  else if c < 122 then !p.far && (p.src == 0x30 + (c - 106) || p.src == 0x60 + (c - 106))
  else false

/-- Reads that Table 1.5 permits. -/
def readAllowed (ep : Nat) (p : Packet) : Bool :=
  if ep = 0x00 ∨ ep = 0x01 ∨ ep = 0x03 ∨ ep = 0x06 ∨ ep = 0x5A then fromHw p else true

/-- Writes that Table 1.5, R213, R312, R361, R383 and R492 permit, outside stream and ring ranges. -/
def writeAllowed (ep : Nat) (p : Packet) : Bool :=
  if ep ≤ 0x04 ∨ ep = 0x06 ∨ ep = 0x5A ∨ ep = 0x5B ∨ (0x08 ≤ ep ∧ ep < 0x30) ∨ ep = 0x58 then fromHw p
  else if isQuad ep then !p.far && (p.src == 0x00 || p.src == 0x07 || (isQuad p.src && decide (p.agent < 4)) || decide (0x30 ≤ p.src ∧ p.src < 0x40))
  else true

/-- A register write that a command of its own performs: engine, mover and watchdog registers, the event router's. -/
def hasRow (ep o : Nat) : Bool :=
  (isQuad ep && (decide (0x1000 ≤ o ∧ o < 0x1400 ∧ (o % 0x100 < 4 ∨ (8 ≤ o % 0x100 ∧ o % 0x100 < 12))) || decide (0x2000 ≤ o ∧ o < 0x2100 ∧ 4 ≤ o % 0x40 ∧ o % 0x40 < 12) || decide (0x3000 ≤ o ∧ o < 0x3040 ∧ o % 0x10 < 4))) ||
  (ep == 0x04 && (decide (o < 4) || decide (0x1000 ≤ o ∧ o < 0x1800)))

/-- EV444 (R36). -/
def ferryDenied (p : Packet) (s : State) : State :=
  raiseEv 444 1 1 (leBytes 1 p.src ++ leBytes 1 p.agent ++ leBytes 4 p.addr ++ leBytes 2 p.srcDev) s

/-- Wait a request adds by waking a sleeping quad (R22, R158). -/
def wakeCost (s : State) (ep : Nat) : Nat := if isQuad ep then (quadOf s (ep - 0x40)).wakeAt - s.time else 0

/-- A delivered request waits for its endpoint; a quad that sleeps wakes first, at the request's cost. -/
def intoInbox (ep : Nat) (p : Packet) (s : State) : State :=
  let w := wakeCost s ep
  modBraid s (fun b => { b with inbox := b.inbox ++ [{ ep := ep, pkt := { p with wait := min 0xFFFF (p.wait + w) }, came := s.time, at_ := s.time + w, op := (quadOf s (ep - 0x40)).op }] })

/-- Answer at once with the fixed part `t`; a quad that slept wakes first. -/
def answerNow (ep : Nat) (p : Packet) (t : Nat) (st : Status) (data : List Byte) (s : State) : State :=
  let w := wakeCost s ep
  respond ep { p with wait := min 0xFFFF (p.wait + w) } s.time (t + w) st data [] false s

/-- A Ferry block access (R35 to R38). What its NI refuses itself has T = 2 (Table 4.9). -/
def deliverFerry (p : Packet) (o : Nat) (s : State) : State :=
  if 0x10000 ≤ o then answerNow 0x05 p 2 .decode [] s
  else if !(ownsChan s (o / 0x200) p) then answerNow 0x05 p 2 .denied [] (ferryDenied p s)
  else if p.op = .rd then intoInbox 0x05 p s
  else if o % 0x200 < 0x40 ∨ o % 0x200 = 0x80 then intoInbox 0x05 p s
  else if 0x80 < o % 0x200 ∧ o % 0x200 < 0x84 then answerNow 0x05 p 6 .ok [] s
  else answerNow 0x05 p 6 .denied [] s

/-- An access to registers of the PMC goes over Rill; the access time goes into WAIT (R15, R159). -/
def overRill (p : Packet) (s : State) : State := intoInbox 0x5B p { s with rill := s.rill ++ [.access p.pid] }

/-- A read or write of a register window (R14 and the windows' own rules). -/
def deliverReg (ep : Nat) (p : Packet) (o : Nat) (s : State) : State :=
  if ep = 0x05 then deliverFerry p o s
  else if ep = 0x5C then
    (if p.far || fromMover p then answerNow ep p 2 .denied [] s
     else if 0x2000 ≤ o then answerNow ep p 2 .ok (if p.op = .rd then List.replicate p.len 0 else []) s
     else intoInbox ep p s)
  else if p.op = .rd then
    if !(readAllowed ep p) then answerNow ep p 2 .denied [] s
    else if (ep = 0x5A ∧ (o = 0x100 ∨ o = 0x104)) ∨ (ep = 0x01 ∧ o = 0x200) then intoInbox ep p s
    else if ep = 0x5B then overRill p s
    else answerNow ep p 10 .ok (regBytes s ep o p.len) s
  else if 0x20 ≤ ep ∧ ep < 0x30 ∧ 0x100000 ≤ o then intoInbox ep p s
  else if ep = 0x58 ∧ 0x100000 ≤ o ∧ o < 0x110000 then intoInbox ep p s
  else if !(writeAllowed ep p) then answerNow ep p 2 .denied [] s
  else if ep = 0x5B then overRill p s
  else if hasRow ep o then intoInbox ep p s
  else answerNow ep p 10 .ok [] s

/-- ATOM operands are good: SUBOP 0-5, LEN 4 or 8, ADDR aligned (R78). -/
def atomOk (p : Packet) : Bool :=
  decide (leAt p.data 0 1 ≤ 5) && (p.len == 4 || p.len == 8) && p.addr % p.len == 0

/-- The endpoint memory an address names performs ATOM (R78). -/
def atomTarget (ep a : Nat) : Bool :=
  decide (0x10000000 ≤ a) && (decide (0x08 ≤ ep ∧ ep < 0x20) || (isQuad ep && decide (0x20000 ≤ (a - 0x200000000) % 0x40000)))

/-- A refusal by a protected range (R429, R430). -/
def protectRefuse (ep range : Nat) (p : Packet) (s : State) : State :=
  answerNow ep p 2 .denied [] (protectEv ep range p s)

/-- A VC2 flit for a reach enters the 4-flit holding buffer of its NI, or is discarded when that is full (R144). -/
def holdVc2 (ep : Nat) (p : Packet) (s : State) : State :=
  if (niOf s ep).holding.length < 4 then modNi ep (fun n => { n with holding := n.holding ++ [p] }) s else discardAtNi ep p s

/-- A reach takes at most one VC2 flit a Braid cycle from its NI (R144): whether it does is the design's. -/
def takeVc2 (s : State) : State :=
  forAll ((s.braid.nis.filter (fun n => isReach n.1 && !n.2.holding.isEmpty && Config.reachTakes n.1 s.time)).map (·.1))
    (fun t e => modNi e (fun n => { n with holding := n.holding.drop 1 }) t) s

/-- A request that its target NI delivers or answers. -/
def deliverReq (ep : Nat) (p : Packet) (s : State) : State :=
  let hit := if p.debug || p.dma then protectHit s p.addr p.len else none
  match hit with
  | some r => protectRefuse ep r p s
  | none =>
    if gateClosed s ep then answerNow ep p 2 .fenced [] s
    else if p.op = .msg then (if ep = 0x00 ∨ ep = 0x04 ∨ isReach ep then s else answerNow ep p 2 .decode [] s)
    else if addrTarget s.dram.map p.addr ≠ some ep then answerNow ep p 2 .decode [] s
    else if p.op = .atom then
      (if atomTarget ep p.addr && atomOk p then intoInbox ep p s else answerNow ep p 2 .decode [] s)
    else if isReach ep then (if nonPosted p.op then intoInbox ep p s else if p.vc = 2 then holdVc2 ep p s else s)
    else if p.addr < 0x10000000 then deliverReg ep p (p.addr % 0x200000) s
    else intoInbox ep p s

/-- A packet that leaves by a Delta port reaches its exit lane quad: its flits enter the transmit queue (R231, R237); a port that is not UP fails it (R220, R233). -/
def farFail (ni cause port : Nat) (p : Packet) (s : State) : State :=
  let t := modDelta (farEv ni cause port p s) (fun d => { d with ctr := tinc d.ctr (8 * port + 6) })
  if nonPosted p.op then
    let back := p.srcDev != s.delta.deviceId
    let q : Packet := { pid := p.pid, vc := 1, dst := p.src, src := p.dst, far := back, farId := p.srcDev, srcDev := s.delta.deviceId, urg := p.urg, op := .rsp, tag := p.tag, status := .farUnreachable, wait := p.wait, deadline := p.deadline, agent := 8, presentedAt := s.time }
    if back && !(bit (farEntry s ni p.srcDev) 7) then discardAtNi ni q t
    else
      let q := if back then withExit s ni q else q
      let u := modNi ni (fun n => { n with queue := n.queue ++ [q] }) t
      if back then askReserve ni q u else u
  else discardAtNi ni p t

/-- Take a packet into the transmit queue of its exit port. -/
def exitAccept (ni : Nat) (p : Packet) (s : State) : State :=
  let port := p.exit.getD (farEntry s ni p.farId % 64)
  let lvc := outLvc s port p
  let n := flitCount p
  let t := modPort port (fun x => { x with reserved := tset x.reserved lvc (tget x.reserved 0 lvc - n) }) s
  if (portOf s port).st = .up then
    modPort port (fun x => { x with txq := x.txq ++ (flitsOf p).map (fun f => (lvc, { f with at_ := s.time })) }) t
  else farFail ni 2 port p t

/-- REQUEST_DELIVERY, in the order in which the packets of a source came on a VC (R87). A request to a domain whose clocks are stopped waits in Braid (R503). A parity error at the NI takes the local port out of service: in a head flit it loses the packet, in a data flit it poisons the data (R128). -/
def requestDelivery (ep pid : Nat) (parity : Option Nat) (s : State) : State :=
  match wholePacket s ep pid with
  | none => s
  | some p =>
    if p.op = .probe ∨ (p.op = .rsp ∧ ¬ leaving s p) ∨ clockStopped s (epDomain ep) ∨ ¬ firstAtNi s ep p ∨ ¬ parityFits parity p then s
    else match niParity ep parity p (clearNi ep pid s) with
      | (none, t) => t
      | (some p, t) =>
        let t := niCount ep 1 t
        let t := if isQuad ep then wakeQuad (ep - 0x40) t else t
        match p.ev with
        | some ev => if ep = 0x04 then modEvents t (fun e => { e with pend := tmod e.pend {} ev (fun x => { x with arrived := true }) }) else t
        | none => if leaving s p then exitAccept ep p t else deliverReq ep p t

/-- REQUEST_DELIVERY. -/
def execRequestDelivery (ep pid : Nat) (parity : Option Nat) (s : State) : Host.Outcome State Fault Refusal := .next (requestDelivery ep pid parity s)

end Sys2Proof.Machine
end

