-- ==== Sys2Proof/Machine/FerryOps.lean ====
section
/-! DEFINITION. Operations on Ferry channels and locks that several families use: sender resets, notifications, releases (R43 to R50, R64 to R72). -/

namespace Sys2Proof.Machine
open Sys2Proof

/-! ## Locks -/

/-- Owner ID of an engine (R64). -/
def ownerOf (k : Nat) : Nat := 0x40 + k / 4 + 256 * (k % 4)

/-- A lock. -/
def lockOf (s : State) (n : Nat) : Lock := tget s.locks.locks {} n

/-- Change a lock. -/
def setLock (n : Nat) (l : Lock) (s : State) : State := modLocks s (fun u => { u with locks := tset u.locks n l })

/-- EV454 of a lock the unit released on its own (Table 2.1). -/
def lockEv (n owner cause : Nat) (s : State) : State := raiseEv 454 cause 1 (leBytes 1 n ++ leBytes 2 owner) s

/-- The locks an owner holds. -/
def heldBy (s : State) (owner : Nat) : List Nat := (s.locks.locks.filter (fun p => p.2.held && p.2.owner == owner)).map (·.1)

/-- An owner resets: every lock it holds becomes free (R71). -/
def freeLocks (owner : Nat) (s : State) : State :=
  forAll (heldBy s owner) (fun t n => lockEv n owner 1 (setLock n {} t)) s

/-- Engine of a Ferry channel's or lock owner's ID (R64). -/
def ownerEngine (owner : Nat) : Option Nat :=
  if isQuad (owner % 256) then some (4 * (owner % 256 - 0x40) + owner / 256 % 4) else none

/-- The owner is an engine the debugger has halted (R70). -/
def ownerHalted (s : State) (owner : Nat) : Bool := (ownerEngine owner).any (fun k => (engOf s k).st == .debug)

/-- The owner is halted by the debugger: its hold timers pause (R70). -/
def pauseLocks (owner : Nat) (s : State) : State :=
  forAll (heldBy s owner) (fun t n =>
    let l := lockOf t n
    if l.paused then t else setLock n { l with paused := true, ran := l.ran + (t.time - l.since) } t) s

/-- The owner is released: its hold timers resume (R70). -/
def resumeLocks (owner : Nat) (s : State) : State :=
  forAll (heldBy s owner) (fun t n =>
    let l := lockOf t n
    if l.paused then setLock n { l with paused := false, since := t.time } t else t) s

/-- Time a hold timer has run, in Braid cycles. -/
def lockRan (s : State) (l : Lock) : Nat := l.ran + (if l.paused then 0 else s.time - l.since)

/-! ## Senders -/

/-- Lock owners that reset with the sender of a channel: an engine, the PCIe bridge, the Twin link, Stylus, both ports of a reach (R49, R71). A remote device owns no lock. -/
def chanOwners (c : Nat) : List Nat :=
  if c < 96 then [ownerOf c]
  else if c < 100 then [0x07]
  else if c = 100 then [0x59]
  else if c = 101 then [0x06]
  else if c < 106 then []
  else [0x30 + (c - 106), 0x60 + (c - 106)]

/-- A sender reset of a channel: its message is withdrawn, the sender's locks are free (R49, R71). -/
def senderResetChan (c : Nat) (s : State) : State := forAll (chanOwners c) (fun t o => freeLocks o t) (modChan c (clearBell s.time) s)

/-- A completion notification of a channel is owed from now (Table 2.12, R47); `cmd` for that of an EV445 (R48). -/
def addNotify (c : Nat) (cmd : Bool) (s : State) : State := modFerry s (fun f => { f with notify := f.notify ++ [(c, cmd, s.time)] })

end Sys2Proof.Machine
end

