-- ==== Sys2Proof/Machine/EngineCtl.lean ====
section
/-! DEFINITION. Engine control registers, the quad mover, port B, watchdogs, the debugger's halt (sections 7.12 to 7.14, 13.8, 14.6). -/

namespace Sys2Proof.Machine
open Sys2Proof

/-! ## Registers written over Braid -/

/-- Engine a write to a quad's register window names, for registers of `stride` bytes from `base` on. -/
def regEngine (p : Packet) (dst base stride : Nat) : Nat := 4 * (dst - 0x40) + (p.addr % 0x200000 - base) / stride

/-- A delivered write to one of a group of engine registers: base of the group, stride, offset of the register. -/
def engWrite (s : State) (pid base stride off : Nat) : Option (Delivered × Nat × Nat) :=
  match inboxAny s pid with
  | some d =>
    let o := d.pkt.addr % 0x200000
    if isQuad d.ep ∧ d.at_ ≤ s.time ∧ d.pkt.addr < 0x10000000 ∧ (d.pkt.op = .wr ∨ d.pkt.op = .wrp) ∧ base ≤ o ∧ o < base + 4 * stride ∧ o % stride / 4 * 4 = off then
      some (d, regEngine d.pkt d.ep base stride, leAt d.pkt.data 0 (min 4 d.pkt.len) * 2 ^ (8 * (o % 4)))
    else none
  | none => none

/-- End a served register write. -/
def writeDone (d : Delivered) (s : State) : State :=
  respondInbox d 10 .ok [] s

/-- Numbers of the accesses an engine waits for. -/
def engGroups (e : Engine) : List Nat :=
  (match e.frozen with
    | some (.remote gid _ _ _ _ _ _) => [gid]
    | _ => []) ++ (e.tickets.filter (fun t => t.2.busy)).map (fun t => t.2.gid)

/-- The RUN and EXC_HALT bits of ENG_CTRL take effect (Table 7.13). -/
def applyCtrl (v : Nat) (e : Engine) : Engine :=
  let r := bit v 0
  let f := { e with excHalt := bit v 2, runBit := r }
  if r then
    match e.st with
    | .reset => { f with st := .running, pc := e.start }
    | .stopped => { f with st := .running }
    | _ => { f with stopReq := false }
  else
    match e.st with
    | .wfi => { f with st := .stopped }
    | .running => { f with stopReq := true }
    | .debug => { f with stopReq := true }
    | _ => f

/-- RUN: a write of ENG_CTRL without RESET. -/
def runWrite (pid : Nat) (s : State) : State :=
  match engWrite s pid 0x1000 0x100 0 with
  | some (d, k, v) => if bit v 1 then s else writeDone d (modEng k (applyCtrl v) s)
  | none => s

/-- RUN. -/
def execRun (pid : Nat) (s : State) : Host.Outcome State Fault Refusal := .next (runWrite pid s)

/-- QM_DESC_WRITE: starts the channel when it does not run, else discarded (Table 7.17). -/
def qmDescWrite (pid : Nat) (s : State) : State :=
  match engWrite s pid 0x2000 0x40 4 with
  | some (d, k, v) => writeDone d (if (engOf s k).mover.st = .run then s else startMover k (v % 2 ^ 32) s)
  | none => s

/-- QM_DESC_WRITE. -/
def execQmDescWrite (pid : Nat) (s : State) : Host.Outcome State Fault Refusal := .next (qmDescWrite pid s)

/-- KICK: 0xA5 to ENG_WDT starts a Rill access that brings the kick to the watchdog (R520). -/
def kickWrite (pid : Nat) (s : State) : State :=
  match engWrite s pid 0x3000 0x10 0 with
  | some (d, k, v) => writeDone d (if v % 256 = 0xA5 then { s with rill := s.rill ++ [.kick k] } else s)
  | none => s

/-- KICK. -/
def execKick (pid : Nat) (s : State) : Host.Outcome State Fault Refusal := .next (kickWrite pid s)

/-! ## The quad mover (R308 to R311) -/

/-- Address, FAR flag and device of a system address laid out as a register pair (R296). -/
def sysAddr (v : Nat) : Nat × Bool × Nat := (v % 2 ^ 48, bit v 63, bits v 61 48)

/-- Pieces in flight of a quad's four channels. -/
def quadPieces (s : State) (q : Nat) : Nat :=
  ((List.range 4).map (fun i => (engOf s (4 * q + i)).mover.pieces.length)).foldl (· + ·) 0

/-- Signed offset added to a 48-bit address. -/
def addStride (a : Nat) (d : Int) : Nat := toBits 48 (Int.ofNat a + d)

/-- Addresses of the next byte to copy. -/
def nextSrc (m : Mover) : Nat := addStride (sysAddr m.src).1 (m.sstride * Int.ofNat m.row + Int.ofNat m.col)

/-- Destination of the next byte to copy. -/
def nextDst (m : Mover) : Nat := addStride (sysAddr m.dst).1 (m.dstride * Int.ofNat m.row + Int.ofNat m.col)

/-- Request of a mover channel at a system address. -/
def moverReq (s : State) (m : Mover) (op : Op) (base addr len : Nat) (data : List Byte) (poison : List (Nat × Nat)) : Req :=
  let (_, far, dev) := sysAddr base
  { op := op, far := far, farDev := dev, farEp := farEpOf s addr, addr := addr, len := len, pageHint := bits m.flags 2 1, bulk := bit m.flags 0, data := data, poison := poison }

/-- No further piece is started: all are, or the descriptor is stopping. -/
def moverStopping (m : Mover) : Bool := m.abort || m.status != .ok || m.row == m.ycnt

/-- Issue pieces while the quad's ORBs allow (R309). -/
def issuePieces (k fuel : Nat) (s : State) : State :=
  match fuel with
  | 0 => s
  | f + 1 =>
    let m := (engOf s k).mover
    if m.st = .run ∧ m.loaded ∧ ¬ moverStopping m ∧ ¬ m.paused ∧ quadPieces s (k / 4) < 16 then
      let a := nextSrc m
      let b := nextDst m
      let n := min (m.xlen - m.col) (min (512 - a % 512) (512 - b % 512))
      let (gid, t) := presentReq (engNi k) (4 + k % 4) (moverReq s m .rd m.src a n [] []) s
      let p : Piece := { gid := gid, src := a, dst := b, len := n, writing := false, row := m.row }
      let t := modEng k (fun e =>
        let m := e.mover
        let last := m.col + n = m.xlen
        { e with mover := { m with pieces := m.pieces ++ [p], row := if last then m.row + 1 else m.row, col := if last then 0 else m.col + n } }) t
      issuePieces k f t
    else s

/-- Rows completed: rows wholly issued, with no piece in flight and every piece written OK (Table 7.17 ROWS). -/
def rowsComplete (m : Mover) : Nat :=
  m.row - ((m.badRows ++ m.pieces.map (fun p => p.row)).filter (fun r => decide (r < m.row))).eraseDups.length

/-- CODE of a descriptor that ends (Table 7.11). -/
def moverCode (m : Mover) : Nat := if m.abort then 2 else if m.status ≠ .ok then 1 else 0

/-- A stopped channel lets a QMGO that waits for it start its own descriptor (R266). -/
def endMoverFreeze (k : Nat) (s : State) : State :=
  match (engOf s k).frozenX with
  | some (.mover d) => if (engOf s k).mover.st = .run then s else startMover k d (modEng k (fun e => { e with frozenX := none }) s)
  | _ => s

/-- A descriptor ends: RESULT and ROWS are written, the chain goes on or stops (R310). -/
def endDescriptor (k : Nat) (s : State) : State :=
  let m := (engOf s k).mover
  let code := moverCode m
  let word := code + statusCode m.status * 16 + min m.maxWait 0xFFFF * 256
  let a := dmBase k + m.desc + 0x28
  let t := if m.desc + 48 ≤ dmSize then writeWords a (leBytes 4 word ++ leBytes 4 m.rowsDone) (fun _ => false) s else s
  if code = 0 ∧ bit m.flags 4 then
    let u := startMover k m.next t
    if bit m.flags 3 then raiseLine k 14 u else u
  else
    let u := modEng k (fun e => { e with mover := { m with st := (if code = 0 then .done else if code = 1 then .error else .aborted), loaded := false, abort := false } }) t
    let v := if code = 0 then u else engEv k 4 1 u
    endMoverFreeze k (if code ≠ 0 ∨ bit m.flags 3 then raiseLine k 14 v else v)

/-- Go on with a channel: more pieces, or the end of its descriptor once nothing is in flight. -/
def moverGo (k : Nat) (s : State) : State :=
  let t := issuePieces k 16 s
  let m := (engOf t k).mover
  let t := modEng k (fun e => { e with mover := { e.mover with rowsDone := rowsComplete e.mover } }) t
  if m.st = .run ∧ m.loaded ∧ moverStopping m ∧ m.pieces = [] then endDescriptor k t else t

/-- The channels of a quad go on: an ORB of the mover's share or a channel has become free. -/
def quadGo (q : Nat) (s : State) : State := forAll [0, 1, 2, 3] (fun t i => if (engOf t (4 * q + i)).mover.st = .run then moverGo (4 * q + i) t else t) s

/-- ABORT: a write of 1 to QM_CTRL stops the channel after its requests in flight (R311). -/
def abortWrite (pid : Nat) (s : State) : State :=
  match engWrite s pid 0x2000 0x40 8 with
  | some (d, k, v) =>
    let t := if bit v 0 ∧ (engOf s k).mover.st = .run then quadGo (k / 4) (modEng k (fun e => { e with mover := { e.mover with abort := true } }) s) else s
    writeDone d t
  | none => s

/-- ABORT. -/
def execAbort (pid : Nat) (s : State) : Host.Outcome State Fault Refusal := .next (abortWrite pid s)

/-- Engine reset (R313): at once; its completions are discarded, its mover channel is aborted (R311), its Ferry channel sees a sender reset, its locks are free. Memories and ENG_START stay. -/
def resetEngine (k : Nat) (s : State) : State :=
  let e := engOf s k
  let gs := engGroups e
  let here := gs.filter (fun g => s.braid.completions.any (fun c => c.gid == g))
  let m := e.mover
  let t := modEng k (fun _ => { start := e.start, pc := e.start, mover := if m.st = .run then { m with abort := true, paused := false } else m }) s
  let u := modBraid t (fun b => { b with completions := b.completions.filter (fun c => !(here.contains c.gid)) })
  let v := modEngines u (fun y => { y with dead := y.dead ++ gs.filter (fun g => !(here.contains g)) })
  quadGo (k / 4) (senderResetChan k v)

/-- ENGINE_RESET: a write of ENG_CTRL with RESET = 1 (Table 7.13). -/
def engineReset (pid : Nat) (s : State) : State :=
  match engWrite s pid 0x1000 0x100 0 with
  | some (d, k, v) => if bit v 1 then writeDone d (resetEngine k s) else s
  | none => s

/-- ENGINE_RESET. -/
def execEngineReset (pid : Nat) (s : State) : Host.Outcome State Fault Refusal := .next (engineReset pid s)

/-- A descriptor the mover cannot perform: outside data memory, unreadable, or a field out of its range (DESIGN CHOICE, log entry 15: it ends with ERROR and STATUS DECODE, or OK_POISON for bad words). -/
def descStatus (s : State) (k desc : Nat) : Status :=
  let l := mgetN s.mems.mem (dmBase k + desc) 48
  if dmSize < desc + 48 ∨ desc % 16 ≠ 0 then .decode
  else if (wordsOf (dmBase k + desc) 40).any (fun w => (wordTag s w).poisoned || decide (2 ≤ (wordTag s w).bits)) then .okPoison
  else if leAt l 0x10 4 = 0 ∨ 2 ^ 24 < leAt l 0x10 4 ∨ leAt l 0x14 2 = 0 ∨ 32 ≤ leAt l 0x16 2 then .decode
  else .ok

/-- DESCRIPTOR_START: the channel reads its descriptor through port B and starts it (R308, R309). -/
def descriptorStart (k : Nat) (s : State) : State :=
  let m := (engOf s k).mover
  if m.st = .run ∧ ¬ m.loaded ∧ ¬ m.paused ∧ memPwr s (8 + k / 4) = .on then
    let (rs, t) := readWords (wordsOf (dmBase k + m.desc) 40) s
    let t := memReadEvents k false rs t
    let l := mgetN s.mems.mem (dmBase k + m.desc) 48
    let st := descStatus s k m.desc
    let t := modEng k (fun e => { e with mover := { m with loaded := true, src := leAt l 0 8, dst := leAt l 8 8, xlen := leAt l 0x10 4, ycnt := leAt l 0x14 2, flags := leAt l 0x16 2, sstride := sext 32 (leAt l 0x18 4), dstride := sext 32 (leAt l 0x1C 4), next := leAt l 0x20 4, status := st } }) t
    quadGo (k / 4) t
  else s

/-- DESCRIPTOR_START. -/
def execDescriptorStart (k : Nat) (s : State) : Host.Outcome State Fault Refusal := .next (whileClocked (6 + k / 4) s (descriptorStart k s))

/-- A piece's RD or WR has completed (R309, R310, R417): read data is written, data that came with POISON again with POISON, and the descriptor then stops. Once it stops, no further WR leaves and the piece is dropped: its row is not complete. -/
def pieceDone (k : Nat) (p : Piece) (c : Completion) (s : State) : State :=
  let m := (engOf s k).mover
  let note : Mover → Mover := fun m => { m with
    maxWait := max m.maxWait c.wait, status := if m.status = .ok then c.status else m.status,
    badRows := if c.status = .ok then m.badRows else ladd m.badRows p.row }
  if p.writing then modEng k (fun e => { e with mover := { note e.mover with pieces := m.pieces.filter (fun x => x.gid != p.gid) } }) s
  else if ¬ (c.status = .ok ∨ c.status = .okPoison) ∨ m.abort ∨ m.status ≠ .ok then
    modEng k (fun e => { e with mover := { note e.mover with pieces := m.pieces.filter (fun x => x.gid != p.gid), badRows := ladd m.badRows p.row } }) s
  else
    let (gid, t) := presentReq (engNi k) (4 + k % 4) (moverReq s m .wr m.dst p.dst p.len (c.data.take p.len) (badRanges c)) s
    modEng k (fun e =>
      let m := note e.mover
      { e with mover := { m with pieces := m.pieces.map (fun x => if x.gid = p.gid then { x with gid := gid, writing := true } else x) } }) t

/-- MOVER_PIECE_COMPLETION. -/
def moverPieceCompletion (k : Nat) (s : State) : State :=
  match (engOf s k).mover.pieces.find? (fun p => s.braid.completions.any (fun c => c.gid == p.gid && hasCome s c)) with
  | none => s
  | some p =>
    match takeCompletion p.gid s with
    | none => s
    | some (c, t) => quadGo (k / 4) (pieceDone k p c t)

/-- MOVER_PIECE_COMPLETION. -/
def execMoverPieceCompletion (k : Nat) (s : State) : Host.Outcome State Fault Refusal := .next (whileClocked (6 + k / 4) s (moverPieceCompletion k s))

/-! ## Port B (R302 to R307) -/

/-- Fixed part T of engine memory at an operating point (R160, R255). -/
def portBT (s : State) (op : Nat) (atom : Bool) : Nat :=
  match op with
  | 0 => if s.dbg.fuses.grade = 2 then (if atom then 21 else 15) else (if atom then 19 else 14)
  | 1 => if atom then 23 else 16
  | 2 => if atom then 30 else 19
  | _ => if atom then 51 else 30

/-- Engine an engine-memory address belongs to. -/
def memEngine (a : Nat) : Nat := (a - 0x200000000) / 0x40000

/-- The address is in instruction memory. -/
def inIm (a : Nat) : Bool := decide ((a - 0x200000000) % 0x40000 < 0x10000)

/-- New value of an ATOM (Table 3.4). -/
def atomNew (sub old a b n : Nat) : Nat :=
  let m := 2 ^ (8 * n)
  match sub with
  | 0 => a % m
  | 1 => if old = b % m then a % m else old
  | 2 => (old + a) % m
  | 3 => old &&& (a % m)
  | 4 => old ||| (a % m)
  | _ => old ^^^ (a % m)

/-- Data flits of a transfer that hold a bad word. -/
def badFlits (a n : Nat) (bad : Nat → Bool) : List Nat :=
  (List.range ((n + 127) / 128)).filter (fun i => (wordsOf (a + 128 * i) (min 128 (n - 128 * i))).any bad)

/-- Words a poisoned data flit covers. -/
def flitPoison (p : Packet) (w : Nat) : Bool :=
  p.poison.any (fun i => overlaps (p.addr + 128 * i) (min 128 (p.len - 128 * i)) (w * 8) 8)

/-- Braid cycles by which port B, at 64 bytes an engine cycle, lags the flits of a transfer: T has room for the first flit's (R302, log entry 32). -/
def portBLag (s : State) (q len : Nat) : Nat := engCycles s q ((len + 63) / 64 - 2) - ((len + 127) / 128 - 1)

/-- Answer a port-B request, with T of the operating point in force when it was delivered (R160); the cycles up to now, retries among them, and the lag of a long transfer go into WAIT (R302, R304). -/
def portBAnswer (d : Delivered) (st : Status) (data : List Byte) (poison : List Nat) (s : State) : State :=
  let lag := if st = .ok ∨ st = .okPoison then portBLag s (d.ep - 0x40) d.pkt.len else 0
  respond d.ep { d.pkt with wait := min 0xFFFF (d.pkt.wait + (s.time - d.at_) + lag) } s.time (portBT s d.op (decide (d.pkt.op = .atom)) + lag) st data poison false (inboxDrop d.pkt.pid s)

/-- Perform a port-B read (R370). A word that port A writes in this engine cycle gives what it held before (R303). -/
def portBRead (d : Delivered) (s : State) : State :=
  let p := d.pkt
  let k := memEngine p.addr
  let prior := fun w => priorOf s k (engOf s k).wroteA w
  let (rs, t) := readWords ((wordsOf p.addr p.len).filter (fun w => (prior w).isNone)) s
  let t := memReadEvents k (inIm p.addr) rs t
  let bad := fun w => rs.any (fun r => r.1 == w && (r.2 == .uncorr || r.2 == .poisoned)) || (prior w).any (fun x => x.poisoned || decide (2 ≤ x.bits))
  let fl := badFlits p.addr p.len bad
  let data := (List.range p.len).map (fun i => match prior ((p.addr + i) / 8) with
    | some x => x.old.getD ((p.addr + i) % 8) 0
    | none => mget s.mems.mem (p.addr + i))
  portBAnswer d (if fl = [] then .ok else .okPoison) data fl t

/-- The words of a port-B write from word `lo` on below word `hi`: a word written in part is merged with what it holds (R307, R373). -/
def portBPut (d : Delivered) (lo hi : Nat) (s : State) : State :=
  let p := d.pkt
  let k := memEngine p.addr
  let a := max p.addr (8 * lo)
  let n := min (p.addr + p.len) (8 * hi) - a
  let part := (wordsOf a n).filter (fun w => decide (w * 8 < a ∨ a + n < w * 8 + 8))
  let (rs, t) := readWords part (noteB k (wordsOf a n) s)
  let bad := fun w => rs.any (fun r => r.1 == w && (r.2 == .uncorr || r.2 == .poisoned))
  let t := forAll rs (fun u r => match r.2 with
    | .clean => u
    | .corrected => ev488 k 1 0 (inIm p.addr) (r.1 * 8) u
    | _ => ev488 k 3 2 (inIm p.addr) (r.1 * 8) u) t
  writeWords a (((padTo p.len p.data).drop (a - p.addr)).take n) (fun w => bad w || flitPoison p w) t

/-- Perform a port-B ATOM; a bad word is not written (Table 10.7). -/
def portBAtom (d : Delivered) (s : State) : State :=
  let p := d.pkt
  let k := memEngine p.addr
  let (rs, t) := readWords (wordsOf p.addr p.len) s
  let t := memReadEvents k false rs t
  let old := leAt (mgetN s.mems.mem p.addr p.len) 0 p.len
  if anyRead rs .uncorr || anyRead rs .poisoned then portBAnswer d .okPoison (leBytes 8 old) [0] t
  else
    let new := atomNew (leAt p.data 0 1) old (leAt p.data 8 8) (leAt p.data 16 8) p.len
    portBAnswer d .ok (leBytes 8 old) [] (writeWords p.addr (leBytes p.len new) (fun _ => false) (noteB k [p.addr / 8] t))

/-- Serve a port-B request from word `lo` on. `coll` is the word that port A writes in this engine cycle: a write or ATOM of that word of data memory waits to retry, the words before it are written (R304, R305). -/
def portBServe (d : Delivered) (lo : Nat) (coll : Option Nat) (s : State) : State :=
  let p := d.pkt
  let stop := match coll with
    | some w => decide (lo ≤ w ∧ 8 * w < p.addr + p.len) && !(inIm p.addr)
    | none => false
  if p.op = .rd then portBRead d s
  else if stop then
    let w := coll.getD 0
    let t := if p.op = .atom then s else portBPut d lo w s
    modMems t (fun m => { m with retries := m.retries ++ [{ pid := p.pid, word := w, at_ := s.time }] })
  else if p.op = .atom then portBAtom d s
  else if inIm p.addr && !(imWritable s (memEngine p.addr)) then portBAnswer d .denied [] [] s
  else portBAnswer d .ok [] [] (portBPut d lo ((p.addr + p.len + 7) / 8) s)

/-- A request for engine memory that waits at its NI. -/
def portBFind (s : State) (pid : Nat) : Option Delivered :=
  match inboxAny s pid with
  | some d => if isQuad d.ep ∧ 0x10000000 ≤ d.pkt.addr then some d else none
  | none => none

/-- PORT_B_ACCESS: once quad and memory are awake. `collides` names the word that port A writes in the engine cycle of port B's access to it (R304, R305). -/
def portBAccess (pid : Nat) (collides : Option Nat) (errs : List WordErr) (s : State) : State :=
  match portBFind s pid with
  | none => s
  | some d =>
    let q := d.ep - 0x40
    if s.mems.retries.any (fun r => r.pid == pid) then s
    else if memPwr s (8 + q) = .on ∧ d.at_ ≤ s.time then portBServe d (d.pkt.addr / 8) collides (addWordErrs errs s)
    else s

/-- PORT_B_ACCESS. -/
def execPortBAccess (pid : Nat) (collides : Option Nat) (errs : List WordErr) (s : State) : Host.Outcome State Fault Refusal := .next (portBAccess pid collides errs s)

/-- PORT_B_RETRY: one attempt in each of the engine cycles after the first; the fourth attempt that collides ends the request with COLLIDE, and the words written before stay (R304). -/
def portBRetry (pid : Nat) (collides : Option Nat) (s : State) : State :=
  match portBFind s pid, s.mems.retries.find? (fun r => r.pid == pid) with
  | some d, some r =>
    let clear := modMems s (fun m => { m with retries := m.retries.filter (fun x => x.pid != pid) })
    if s.time < r.at_ + engCycles s (d.ep - 0x40) r.attempts then s
    else if collides = some r.word then
      if r.attempts < 3 then modMems s (fun m => { m with retries := m.retries.map (fun x => if x.pid = pid then { x with attempts := x.attempts + 1 } else x) })
      else portBAnswer d .collide [] [] clear
    else portBServe d r.word collides clear
  | _, _ => s

/-- PORT_B_RETRY. -/
def execPortBRetry (pid : Nat) (collides : Option Nat) (s : State) : Host.Outcome State Fault Refusal := .next (portBRetry pid collides s)

/-! ## Debugger halt (R541 to R544) -/

/-- The debugger's halt takes effect on an engine: STATE DEBUG, lock timers and mover pause (Table 14.10). -/
def enterDebug (k : Nat) (s : State) : State :=
  pauseLocks (ownerOf k) (modEng k (fun e => { e with haltReq := false, stepping := false, mover := { e.mover with paused := true } }) (halt k .debug s))

/-- DEBUG_HALT: a halt asked for takes effect at a clean boundary, after any exception entry (R541, R544). -/
def debugHalt (k : Nat) (s : State) : State :=
  let e := engOf s k
  if e.haltReq ∧ (e.st = .wfi ∨ (e.st = .running ∧ cleanAt e ∧ e.pend = none)) then enterDebug k s else s

/-- DEBUG_HALT. -/
def execDebugHalt (k : Nat) (s : State) : Host.Outcome State Fault Refusal := .next (debugHalt k s)

/-! ## Watchdogs (R519 to R522) -/

/-- A watchdog. -/
def wdtOf (s : State) (k : Nat) : Wdt := tget s.tbase.wdts {} k

/-- Change a watchdog. -/
def modWdt (k : Nat) (f : Wdt → Wdt) (s : State) : State := modTime s (fun b => { b with wdts := tmod b.wdts {} k f })

/-- WATCHDOG_WARN: half of TIMEOUT has passed without a kick (R521). -/
def watchdogWarn (k : Nat) (s : State) : State :=
  let w := wdtOf s k
  if w.armed ∧ ¬ w.warned ∧ ¬ w.kicked ∧ ¬ w.paused ∧ 2 * w.count ≤ w.timeout then
    raiseEv 432 1 1 (leBytes 1 k) (modWdt k (fun x => { x with warned := true }) s)
  else s

/-- WATCHDOG_WARN. -/
def execWatchdogWarn (k : Nat) (s : State) : Host.Outcome State Fault Refusal := .next (watchdogWarn k s)

/-- WATCHDOG_EXPIRY: the count is zero, and no kick falls in the same slow tick (R521): ACTION is performed, the watchdog is disarmed until the next kick. -/
def watchdogExpiry (k : Nat) (s : State) : State :=
  let w := wdtOf s k
  if w.armed ∧ w.count = 0 ∧ ¬ w.kicked ∧ ¬ w.paused then
    let t := modWdt k (fun x => { x with armed := false }) s
    let u := if w.action = 2 then resetEngine k t else t
    raiseEv 432 2 (if w.action = 3 then 3 else 2) (leBytes 1 k) u
  else s

/-- WATCHDOG_EXPIRY. -/
def execWatchdogExpiry (k : Nat) (s : State) : Host.Outcome State Fault Refusal := .next (watchdogExpiry k s)

end Sys2Proof.Machine
end

