-- ==== Sys2Proof/Machine/Events.lean ====
section
/-! DEFINITION. The event router, the AON fatal summary and the host's doorbell (chapter 15, R17, R59, R632). -/

namespace Sys2Proof.Machine
open Sys2Proof

/-! ## Default severities (R555) -/

/-- Entry `cause` of a list of severities whose first entry is that of cause 1. -/
def sevAt (l : List Nat) (cause : Nat) : Option Nat := if cause = 0 then none else l[cause - 1]?

/-- Default severity of a cause: 0 INFO, 1 WARN, 2 ERROR, 3 FATAL; none for a reserved event or a cause no table lists (R554; Tables 2.1, 3.14, 5.12, 6.14, 7.18, 8.16, 9.7, 10.14, 11.17, 12.8, 13.12, 14.18). EV432 and EV489 depend on the record: see `evDefault`. -/
def evSevDefault (n cause : Nat) : Option Nat :=
  if n < 128 then (if n % 2 = 0 then sevAt [0, 1, 1, 1, 1, 2] cause else sevAt [1, 1, 2, 2, 0] cause)
  else if n < 192 then
    (match n % 4 with
      | 0 => sevAt [0, 2, 2] cause
      | 1 => sevAt [1, 1] cause
      | 2 => sevAt [1] cause
      | _ => sevAt [1, 2, 2, 0, 1] cause)
  else if n < 288 then sevAt [2, 0, 2, 1] cause
  else if n < 320 then (if n % 2 = 0 then sevAt [0, 2, 0, 0, 1] cause else sevAt [2, 2, 1] cause)
  else if n < 384 then sevAt [2, 2, 1, 1, 1, 2, 1] cause
  else
    match n with
    | 384 => sevAt [0, 0] cause
    | 385 => sevAt [2] cause
    | 386 => sevAt [2, 0] cause
    | 387 => sevAt [0, 2] cause
    | 388 => sevAt [0, 0] cause
    | 389 => sevAt [1] cause
    | 398 => sevAt [2] cause
    | 400 => sevAt [0, 1, 3] cause
    | 401 => sevAt [1] cause
    | 402 => sevAt [3] cause
    | 403 => sevAt [0] cause
    | 404 => sevAt [1, 2] cause
    | 416 => sevAt [1] cause
    | 417 => sevAt [0] cause
    | 418 => sevAt [2, 2] cause
    | 419 => sevAt [2] cause
    | 428 => sevAt [3] cause
    | 430 => sevAt [0, 0] cause
    | 431 => sevAt [1, 2] cause
    | 432 => sevAt [1, 2] cause
    | 433 => sevAt [1] cause
    | 440 => sevAt [0] cause
    | 441 => sevAt [1, 1, 1, 1] cause
    | 442 => sevAt [2] cause
    | 443 => sevAt [0] cause
    | 444 => sevAt [1] cause
    | 445 => sevAt [0] cause
    | 446 => sevAt [1, 3, 1] cause
    | 454 => (if cause ≤ 1 then some 1 else none)
    | 456 => sevAt [0, 1] cause
    | 457 => sevAt [1, 1] cause
    | 458 => sevAt [1, 1] cause
    | 459 => sevAt [0] cause
    | 460 => sevAt [2] cause
    | 464 => sevAt [0, 1, 1, 1] cause
    | 465 => sevAt [1] cause
    | 466 => sevAt [2, 2, 2, 2] cause
    | 467 => sevAt [1, 0, 1] cause
    | 468 => sevAt [0, 1, 1, 1, 1, 2] cause
    | 469 => sevAt [0, 2] cause
    | 470 => sevAt [1] cause
    | 471 => sevAt [2, 2, 2] cause
    | 472 => sevAt [1, 2] cause
    | 473 => sevAt [2, 2] cause
    | 474 => sevAt [3] cause
    | 475 => sevAt [2] cause
    | 488 => sevAt [0, 2, 2] cause
    | 489 => sevAt [3] cause
    | 490 => sevAt [0, 0, 1, 2] cause
    | 491 => sevAt [1] cause
    | 492 => sevAt [0, 0] cause
    | _ =>
      if 390 ≤ n ∧ n < 398 then sevAt [0, 1, 1] cause
      else if 420 ≤ n ∧ n < 428 then sevAt [1, 2] cause
      else if 480 ≤ n ∧ n < 488 then sevAt [0, 2, 2] cause
      else if 496 ≤ n ∧ n < 512 then sevAt [0] cause
      else none

/-- Default severity of a record: EXPIRED of a watchdog with ACTION 3 is FATAL, ZEROIZED by a life-cycle change is INFO. -/
def evDefault (s : State) (n cause : Nat) (detail : List Byte) : Option Nat :=
  if n = 432 ∧ cause = 2 ∧ (wdtOf s (leAt detail 0 1)).action = 3 then some 3
  else if n = 489 ∧ cause = 1 ∧ leAt detail 0 1 = 3 then some 0
  else evSevDefault n cause

/-- NI that injects a record: R632, where the record's first field names the place of the source when the event does not. -/
def evPlace (s : State) (n : Nat) (detail : List Byte) : Option Nat :=
  if n = 385 ∨ n = 387 then some (0x10 + leAt detail 0 1 % 16)
  else if n = 389 then addrTarget s.dram.map (leAt detail 2 6)
  else if 464 ≤ n ∧ n < 468 then some (0x20 + leAt detail 0 1 % 64 / 4)
  else if n = 488 then some (engNi (leAt detail 0 1 % 96))
  else evNi n

/-- EVENT_RAISE: a source raises an event; a reserved event or cause is never raised (R554). -/
def eventRaise (ev cause : Nat) (detail : List Byte) (s : State) : State :=
  match evDefault s ev cause detail with
  | some sev => raiseEvAt (evPlace s ev detail) ev cause sev detail s
  | none => s

/-- EVENT_RAISE. -/
def execEventRaise (ev cause : Nat) (detail : List Byte) (s : State) : Host.Outcome State Fault Refusal := .next (eventRaise ev cause detail s)

/-! ## Taking records (R556 to R559, R562, R563) -/

/-- EVENT_RILL_ARRIVAL, while Rill runs (R18): a record that comes over Rill reaches the AON fatal summary and the router (R17, R563). -/
def eventRillArrival (ev : Nat) (s : State) : State :=
  match tfind s.events.pend ev with
  | none => s
  | some p =>
    if p.arrived || p.r.ni.isSome || !(rillRuns s) then s
    else
      let t := modEvents s (fun e => { e with pend := tset e.pend ev { p with arrived := true } })
      let c := evCfgAon s ev
      if evSev c p.r.sev = 3 ∧ bit c 26 then assertFatal ev t else t

/-- EVENT_RILL_ARRIVAL. -/
def execEventRillArrival (ev : Nat) (s : State) : Host.Outcome State Fault Refusal := .next (eventRillArrival ev s)

/-- Groups of Table 15.1 that a lost record stands for. -/
def recGroups (r : Rec) : Nat := if r.ovf then leAt r.detail 0 2 else 2 ^ evGroup r.ev

/-- The OVERFLOW record, grown by a lost record; made of it when there is none (R558). -/
def ovfAdd (o : Option Rec) (r : Rec) : Rec :=
  match o with
  | none => { r with ovf := true, detail := padTo 16 (leBytes 2 (recGroups r)) }
  | some o => { o with count := o.count + r.count, tb := r.tb, detail := padTo 16 (leBytes 2 (leAt o.detail 0 2 ||| recGroups r)) }

/-- Put a record into a queue of `cap` entries, the last of which is for the OVERFLOW record (R558, R560). -/
def pushRec (cap : Nat) (l : List Rec) (r : Rec) : List Rec :=
  if (l.filter (fun x => !x.ovf)).length + 1 < cap then l ++ [r]
  else if l.any (fun x => x.ovf) then l.map (fun x => if x.ovf then ovfAdd (some x) r else x)
  else l ++ [ovfAdd none r]

/-- The source served next: round-robin in event-number order after the one served last (R557). -/
def nextSource (s : State) : Option Nat :=
  (findFrom (fun i => (tfind s.events.pend (i % 512)).any (fun p => p.arrived)) (s.events.last + 1) 512).map (· % 512)

/-- Interrupt inputs a record raises (Table 15.4). -/
def raiseEvLine (c : Nat) (s : State) : State :=
  let k := bits c 16 10
  if bit c 17 then forAll [0, 1, 2, 3] (fun t i => raiseLine (4 * (k / 4) + i) (bits c 9 6) t) s else raiseLine k (bits c 9 6) s

/-- A record's message of a vector: none while the one before is pending; sent at once unless the bridge keeps it, masked or not yet sent (R562). -/
def msixRecord (v : Nat) (s : State) : State :=
  if s.host.msixHeld.contains v then s
  else if Config.msixReady v s.time then modHost s (fun h => { h with msixSent := h.msixSent ++ [v] })
  else modHost s (fun h => { h with msixHeld := h.msixHeld ++ [v] })

/-- Fan a taken record out (R559, R562, R563). -/
def routeRec (r : Rec) (c : Nat) (s : State) : State :=
  let t := if bit c 25 then msixRecord (bits c 24 19) s else s
  let t := if bit c 18 then raiseEvLine c t else t
  let t := if r.sev = 3 ∧ bit c 26 ∧ r.ni.isSome then assertFatal r.ev t else t
  if bit c 27 then modEvents t (fun e => { e with fifo := pushRec 1024 e.fifo r }) else t

/-- The record behind a taken one becomes the pending one and sets out (R556). -/
def promote (ev : Nat) (p : Pend) (s : State) : State :=
  match p.waiting with
  | none => modEvents s (fun e => { e with pend := tdel e.pend ev })
  | some w =>
    let t := modEvents s (fun e => { e with pend := tset e.pend ev { r := w, second := true } })
    match w.ni with
    | some n => sendRecord n ev t
    | none => t

/-- Number of the Headwater cycle: PLL_HW runs five cycles in eight of PLL_BRAID (Table 0.5). -/
def hwCycle (s : State) : Nat := 5 * s.time / 8

/-- EVENT_TAKE: the router takes one record in a Headwater cycle (R557, R559). -/
def eventTake (s : State) : State :=
  if s.events.takenAt = some (hwCycle s) then s
  else
    match nextSource s with
    | none => s
    | some ev =>
      match tfind s.events.pend ev with
      | none => s
      | some p =>
        let c := evCfg s ev
        let r := { p.r with sev := evSev c p.r.sev, host := bit c 25 }
        promote ev p (routeRec r c (modEvents s (fun e => { e with last := ev, takenAt := some (hwCycle s) })))

/-- EVENT_TAKE. -/
def execEventTake (s : State) : Host.Outcome State Fault Refusal := .next (eventTake s)

/-- A record is kept for the host (R560). -/
def forHost (r : Rec) : Bool := r.ovf || r.host

/-- EVENT_DRAIN: Headwater removes records: 64 while some channel is POSTED or TAKEN, else every one (R56, R560). -/
def eventDrain (s : State) : State :=
  if s.ferry.ready then
    let busy := s.ferry.chans.any (fun c => c.2.st == .posted || c.2.st == .taken)
    let n := if busy then 64 else s.events.fifo.length
    modEvents s (fun e => { e with fifo := e.fifo.drop n, hostQ := ((e.fifo.take n).filter forHost).foldl (pushRec 4096) e.hostQ })
  else s

/-- EVENT_DRAIN. -/
def execEventDrain (s : State) : Host.Outcome State Fault Refusal := .next (eventDrain s)

/-! ## W1C registers of BAR0 (R564, Tables 2.16, 2.18) -/

/-- FATAL_SUMMARY_CLEAR: GROUP bits written 1 clear; a record of the same cycle wins; bit 7 stays after EV428 until a device reset (R564, R523). -/
def fatalSummaryClear (mask : Nat) (s : State) : State :=
  modEvents s (fun e =>
    let g := e.groups.filter (fun i => !(bit mask i) || (i == 7 && s.power.tripped) || tfind e.fatalAt i == some s.time)
    { e with groups := g, fatalN := !g.isEmpty })

/-- FATAL_SUMMARY_CLEAR. -/
def execFatalSummaryClear (mask : Nat) (s : State) : Host.Outcome State Fault Refusal := .next (fatalSummaryClear mask s)

/-- EV_DOORBELL_CLEAR: DONE bits written 1 clear. -/
def evDoorbellClear (mask : Nat) (s : State) : State :=
  modHost s (fun h => { h with doorbell := listMask ((List.range 4).filter (fun i => bit h.doorbell i && !(bit mask i))) })

/-- EV_DOORBELL_CLEAR. -/
def execEvDoorbellClear (mask : Nat) (s : State) : Host.Outcome State Fault Refusal := .next (evDoorbellClear mask s)

/-! ## Router registers (Tables 15.3 to 15.5) -/

/-- Write EV_CFGn, and the AON copy of OVR, SEV and TO_FATAL (R17, R561). -/
def setEvCfg (n v : Nat) (s : State) : State :=
  let w : Word := BitVec.ofNat 32 (v / 64 * 64)
  modEvents s (fun e => { e with cfg := tset e.cfg n w, aon := tset e.aon n w })

/-- Write EV_CTRL. -/
def setEvCtrl (v : Nat) (s : State) : State := modEvents s (fun e => { e with fatalFence := bit v 0 })

end Sys2Proof.Machine
end

