-- ==== Sys2Proof/Machine/Ferry.lean ====
section
/-! DEFINITION. The Ferry block and Headwater's service: writes of senders, takes, acknowledgements, notifications, Headwater resets (sections 2.3 to 2.7, R568 to R577). -/

namespace Sys2Proof.Machine
open Sys2Proof

/-! ## Writes of senders -/

/-- A delivered write to the Ferry block whose turn it is: its effect comes 2 Braid cycles after delivery, after every earlier write to the channel (R39, R46). -/
def ferryWriteAt (s : State) (pid : Nat) : Option Delivered :=
  match s.braid.inbox.find? (fun d => d.ep == 0x05 && (d.pkt.pid == pid)) with
  | some d =>
    if d.pkt.op ≠ .rd ∧ d.at_ + 2 ≤ s.time ∧ (s.braid.inbox.find? (fun e => e.ep == 0x05 && chanOfPkt e.pkt == chanOfPkt d.pkt)).any (fun e => e.pkt.pid == pid) then some d else none
  | none => none

/-- The reads delivered to the Ferry block 2 Braid cycles ago or earlier take effect: the value of that cycle, with the writes ahead of them done; the response leaves 6 cycles after delivery (R46). -/
def ferryReads (s : State) : State :=
  forAll (s.braid.inbox.filter (fun d => d.ep == 0x05 && decide (d.pkt.op = .rd) && decide (d.at_ + 2 ≤ s.time))) (fun t d =>
    respondInbox d 6 .ok (regBytes (afterWrites d.pkt.pid t) 0x05 (d.pkt.addr % 0x200000) d.pkt.len) t) s

/-- End a write: OK, or DENIED when it had no effect (R38); the response leaves 6 cycles after delivery (R46). -/
def ferryWriteDone (d : Delivered) (ok : Bool) (s : State) : State := respondInbox d 6 (if ok then .ok else .denied) [] s

/-- A write named by its number changes its channel. -/
def ferryWrite (pid : Nat) (mine : Nat → Nat → Bool) (s : State) : State :=
  match ferryWriteAt s pid with
  | none => s
  | some d =>
    let o := d.pkt.addr % 0x200
    let c := chanOfPkt d.pkt
    if mine o (leAt d.pkt.data 0 1) then
      let aborts := decide (o = 0x80) && bit (leAt d.pkt.data 0 1) 0 && decide ((chanOf s c).st = .empty) && !(chanServed s c)
      let ok := decide (o = 0x80) || (msgOpen (chanOf s c) && decide (o + d.pkt.data.length ≤ 0x40))
      let t := ferryWriteDone d ok (modChan c (chanWrite s c d.pkt) s)
      if aborts then addNotify c false t else t
    else s

/-- FERRY_MSG_WRITE (Table 2.4). -/
def ferryMsgWrite (pid : Nat) (s : State) : State := ferryWrite pid (fun o _ => decide (o < 0x40)) s

/-- FERRY_MSG_WRITE. -/
def execFerryMsgWrite (pid : Nat) (s : State) : Host.Outcome State Fault Refusal := .next (ferryMsgWrite pid s)

/-- BELL_POST: BELL = 1 (Table 2.11). -/
def bellPost (pid : Nat) (s : State) : State := ferryWrite pid (fun o v => decide (o = 0x80) && bit v 0) s

/-- BELL_POST. -/
def execBellPost (pid : Nat) (s : State) : Host.Outcome State Fault Refusal := .next (bellPost pid s)

/-- BELL_CLEAR: BELL = 0 (Table 2.11). -/
def bellClear (pid : Nat) (s : State) : State := ferryWrite pid (fun o v => decide (o = 0x80) && !(bit v 0)) s

/-- BELL_CLEAR. -/
def execBellClear (pid : Nat) (s : State) : Host.Outcome State Fault Refusal := .next (bellClear pid s)

/-- SENDER_RESET of a channel (R49). -/
def senderReset (c : Nat) (s : State) : State := if c < 122 then senderResetChan c s else s

/-- SENDER_RESET. -/
def execSenderReset (c : Nat) (s : State) : Host.Outcome State Fault Refusal := .next (senderReset c s)

/-! ## Taking a message -/

/-- HEADWATER_INTERRUPT: 38 Braid cycles after a channel is POSTED (Table 2.12). -/
def headwaterInterrupt (s : State) : State :=
  if s.ferry.chans.any (fun c => c.2.st == .posted && decide (c.2.postedAt + 38 ≤ s.time)) then modFerry s (fun f => { f with irq := true, irqAt := s.time }) else s

/-- HEADWATER_INTERRUPT. -/
def execHeadwaterInterrupt (s : State) : Host.Outcome State Fault Refusal := .next (headwaterInterrupt s)

/-- Channel sets of Table 16.1. -/
inductive ChanSet where
  | a | c | m
deriving DecidableEq, Repr

/-- A channel is in a set (R568). -/
def inSet (k : ChanSet) (ch : Nat) : Bool :=
  match k with
  | .a => decide (ch < 122)
  | .c => decide (96 ≤ ch ∧ ch ≤ 101)
  | .m => decide ((96 ≤ ch ∧ ch ≤ 99) ∨ ch = 101)

/-- Opcodes of Table 16.3 with their sets. -/
def opcodeSet (o : Nat) : Option ChanSet :=
  if o = 0x0100 ∨ o = 0x0101 ∨ o = 0x0204 ∨ o = 0x0503 ∨ o = 0x0605 ∨ o = 0x0705 ∨ o = 0x0902 ∨ o = 0x0A00 then some .a
  else if (0x0102 ≤ o ∧ o ≤ 0x0104) ∨ (0x0500 ≤ o ∧ o ≤ 0x0502) ∨ (0x0504 ≤ o ∧ o ≤ 0x0506) ∨ o = 0x0B01 then some .m
  else if (0x0200 ≤ o ∧ o ≤ 0x0205) ∨ (0x0300 ≤ o ∧ o ≤ 0x0307) ∨ (0x0400 ≤ o ∧ o ≤ 0x0406) ∨ (0x0600 ≤ o ∧ o ≤ 0x0604) ∨
    (0x0700 ≤ o ∧ o ≤ 0x0704) ∨ (0x0800 ≤ o ∧ o ≤ 0x0805) ∨ o = 0x0900 ∨ o = 0x0901 ∨ o = 0x0A01 ∨ o = 0x0A02 ∨ o = 0x0B00 then some .c
  else none

/-- The command is accepted from the channel it came by (step 3 of R42; R568, R577, R586). PROOF_SELECT checks its channel itself (R549). -/
def chanAccepts (v : Serving) : Bool :=
  let b0 := leAt v.payload 0 1
  match opcodeSet v.opcode with
  | none => false
  | some k =>
    if v.opcode = 0x0503 then inSet (if b0 = 0 then .a else .m) v.ch
    else if v.opcode = 0x0204 ∨ v.opcode = 0x0605 ∨ v.opcode = 0x0902 then inSet (if bit b0 0 then .c else .a) v.ch
    else if v.opcode = 0x0705 then inSet .c v.ch || (decide (v.ch < 96) && v.ch == v.target)
    else inSet k v.ch

/-- The message in a channel (R40, R569). -/
def readMsg (s : State) (c : Nat) : Serving :=
  let h := chanOf s c
  let w := fun i => (tget h.msg 0 i).toNat
  let len := bits (w 1) 7 0
  let bytes := (List.range 14).foldl (fun l i => l ++ leBytes 4 (w (2 + i))) []
  { ch := c, opcode := bits (w 0) 15 0, seq := bits (w 0) 31 16, target := bits (w 1) 31 16, flags := bits (w 1) 15 8, len := len, payload := padTo 56 (bytes.take len), qwait := min 0xFFFF ((s.time - h.postedAt) * 5 / 512), takenAt := s.time }

/-- Steps 1 to 3 of R42; in recovery R531. -/
def firstChecks (s : State) (v : Serving) : Option Reply :=
  if s.ferry.recovery then
    (if v.opcode = 0x0101 ∨ v.opcode = 0x0102 then (if 56 < v.len ∨ 4 ≤ v.flags then some { code := rcBadArg } else none)
     else some { code := rcBadState })
  else if (opcodeSet v.opcode).isNone then some { code := rcBadOpcode }
  else if 56 < v.len ∨ 4 ≤ v.flags then some { code := rcBadArg }
  else if chanAccepts v then none
  else some { code := rcDenied }

/-- A channel holds a message to take: POSTED, or withdrawn in this Braid cycle, since the take comes first (R45). -/
def takeable (s : State) (c : Nat) : Bool := decide ((chanOf s c).st = .posted ∨ ((chanOf s c).st = .empty ∧ (chanOf s c).withdrawnAt = some s.time))

/-- The first channel to take after the one served last (R55). -/
def nextChannel (s : State) : Option Nat :=
  (findFrom (fun i => takeable s (i % 128)) (s.ferry.lastDone + 1) 128).map (· % 128)

/-- Headwater serves channels: running or in recovery, not switching firmware, the device awake (R53, R507, R531). -/
def serves (s : State) : Bool :=
  (s.ferry.ready || s.ferry.recovery) && s.ferry.serving.isNone && !s.ferry.switchPending && (s.power.dev == .active || s.power.dev == .trim)

/-- TAKE: the message is taken and steps 1 to 3 of R42 are applied (R42, R55); one withdrawn in the same cycle runs with WDRAW (R45). -/
def take (s : State) : State :=
  if s.ferry.irq ∧ serves s then
    match nextChannel s with
    | none => modFerry s (fun f => { f with irq := false })
    | some c =>
      let v := readMsg s c
      let t := modChan c (fun h => { h with st := .taken, qwait := v.qwait, wdraw := decide (h.st ≠ .posted), withdrawnAt := none }) s
      modFerry t (fun f => { f with serving := some { v with reply := firstChecks s v }, irq := t.ferry.chans.any (fun x => x.2.st == .posted) })
  else s

/-- TAKE. -/
def execTake (s : State) : Host.Outcome State Fault Refusal := .next (take s)

/-! ## Serving a command -/

/-- A reply with a code alone. -/
def rc (c : Nat) : Reply := { code := c }

/-- The FAILED_CHECK result of Table 16.2. -/
def failedCheck (offset reason position router port slot : Nat) : Reply :=
  { code := rcFailedCheck, result := leBytes 4 offset ++ leBytes 1 reason ++ leBytes 1 position ++ leBytes 1 router ++ leBytes 1 port ++ leBytes 2 slot ++ List.replicate 6 0 }

/-- FAILED_CHECK with a reason at an offset, of no router and no slot. -/
def failedAt (offset reason : Nat) : Reply := failedCheck offset reason 0 0xFF 0 0xFFFF

/-- FAILED_CHECK with reason 0xFE READ (R570, R600). -/
def failedRead : Reply := failedAt 0 0xFE

/-- Payload field. -/
def pay (v : Serving) (o n : Nat) : Nat := leAt v.payload o n

/-- Payload bytes from one offset up to another are zero (R569). -/
def payZero (v : Serving) (a b : Nat) : Bool := (List.range (b - a)).all (fun i => leAt v.payload (a + i) 1 == 0)

/-- Give the served message its reply. -/
def setReply (r : Reply) (s : State) : State :=
  modFerry s (fun f => { f with serving := f.serving.map (fun v => { v with reply := some r }) })

/-- The acknowledgement waits for work that another command finishes. -/
def waitFor (k : Nat) (s : State) : State :=
  modFerry s (fun f => { f with serving := f.serving.map (fun v => { v with waitingFor := k }) })

/-- A dry run's reply: DONE for ACCEPTED; the result of a failed check and of ROUTER_MAINT stays (R571, R572, R590). -/
def dryReply (opcode : Nat) (r : Reply) : Reply :=
  { code := if r.code = rcAccepted then rcDone else r.code, result := if r.code = rcFailedCheck ∨ opcode = 0x0306 then r.result else [] }

/-- Serve a command at step 4 of R42: LEN and TARGET, then the command's own checks and effect (R569, R571). A dry run changes nothing. -/
def ferryServe (opcode maxLen : Nat) (target : Nat → Bool) (body : Serving → State → Reply × State) (s : State) : State :=
  match s.ferry.serving with
  | none => s
  | some v =>
    if v.opcode = opcode ∧ v.reply = none then
      if maxLen < v.len ∨ ¬ target v.target then setReply (rc rcBadArg) s
      else
        let (r, t) := body v s
        if bit v.flags 1 then setReply (dryReply opcode r) s else setReply r t
    else s

/-- A command with no TARGET (R569). -/
def noTarget (t : Nat) : Bool := t == 0xFFFF

/-- Start the job of a command that returns ACCEPTED: its number and the state that holds it. -/
def startJob (v : Serving) (obj : Nat) (s : State) : Nat × State :=
  (s.ferry.nextJob, modFerry s (fun f => { f with nextJob := f.nextJob + 1, jobs := f.jobs ++ [{ id := f.nextJob, ch := v.ch, seq := v.seq, opcode := v.opcode, obj := obj }] }))

/-- Commands whose synchronous part waits on hardware, with S in Braid cycles (Table 16.3, R575); NREC of FAR_ROUTE_LOAD is the sum of the two counts of its result (R236). -/
def waitLimit (v : Serving) : Nat :=
  match v.opcode with
  | 0x0203 => 1760000
  | 0x0301 => 48000
  | 0x0303 => 16000
  | 0x0803 => 16000
  | 0x0700 => 32000
  | 0x0400 => 64000
  | 0x0506 => 48000
  | 0x0801 => 48000 + 160 * (v.reply.elim 0 (fun r => leAt r.result 0 2 + leAt r.result 2 2))
  | 0x0804 => 240000
  | 0x0701 => 16000
  | _ => 0

/-- The time a served command may wait has passed: it returns TIMEOUT (R575). -/
def waitExpired (s : State) (v : Serving) : Bool := decide (v.waitingFor ≠ 0) && decide (v.takenAt + waitLimit v ≤ s.time)

/-! ## FERRY_ACK and notifications -/

/-- Reply words (R41). -/
def respWords (v : Serving) (r : Reply) : Tbl Word :=
  let l := leBytes 2 v.opcode ++ leBytes 2 v.seq ++ leBytes 1 r.result.length ++ leBytes 1 0 ++ leBytes 2 v.qwait ++ padTo 56 r.result
  (List.range 16).map (fun i => (i, BitVec.ofNat 32 (leAt l (4 * i) 4)))

/-- Write the answer of a served message (Tables 2.8 and 2.11, R44). A command that goes on is logged when its job ends (R54). -/
def ackWith (v : Serving) (r : Reply) (s : State) : State :=
  let h := chanOf s v.ch
  let t := if h.wdraw then modChan v.ch (fun c => { c with st := .empty, wdraw := false }) s
    else modChan v.ch (fun c => { c with resp := respWords v r, ackSeq := v.seq, ackCode := r.code, st := .done }) s
  let t := if !h.wdraw && !(bit v.flags 0) then addNotify v.ch false t else t
  let t := when_ (h.wdraw || r.code != rcAccepted) (addLog { ch := v.ch, opcode := v.opcode, seq := v.seq, code := if h.wdraw then rcWithdrawn else r.code, timebase := s.tbase.tb }) t
  let t := modFerry t (fun f => { f with serving := none, lastDone := v.ch, jobs := f.jobs.map (fun j => if j.ch = v.ch ∧ j.seq = v.seq ∧ j.opcode = v.opcode then { j with acked := true, withdrawn := h.wdraw } else j) })
  reportJobs t

/-- FERRY_ACK_WRITE: Headwater writes FERRY_RESP, then FERRY_ACK (R44). A command that still waits at its worst-case time returns TIMEOUT (R575). -/
def ferryAckWrite (s : State) : State :=
  match s.ferry.serving with
  | none => s
  | some v =>
    match v.reply with
    | none => s
    | some r => if v.waitingFor = 0 then ackWith v r s else if waitExpired s v then ackWith v (rc rcTimeout) s else s

/-- FERRY_ACK_WRITE. -/
def execFerryAckWrite (s : State) : Host.Outcome State Fault Refusal := .next (ferryAckWrite s)

/-- The completion message to the device a channel is bound to: a far MSG of the Ferry block to that device's Headwater with the channel number and FERRY_ACK (Table 2.13; DESIGN CHOICE, log entry 90). -/
def remoteDone (c dev : Nat) (s : State) : State :=
  (presentReq 0x05 0 { op := .msg, far := true, farDev := dev, farEp := 0x00, len := 8, data := leBytes 4 c ++ leBytes 4 (ferryWord s c 0x88) } s).2

/-- A notification reaches its sender (Table 2.13). -/
def notifySender (c : Nat) (s : State) : State :=
  if c < 96 then raiseLine c 15 s
  else if c < 100 then modHost s (fun h => { h with doorbell := h.doorbell ||| 2 ^ (c - 96), msixSent := h.msixSent ++ [c - 96] })
  else if c = 100 then modTwin s (fun w => { w with outbox := w.outbox ++ [.completion (chanOf s c).ackSeq (chanOf s c).ackCode] })
  else if c = 101 then modSty s (fun y => { y with ferry := true })
  else if c < 106 then
    match boundDev s c with
    | some dev => remoteDone c dev s
    | none => s
  else modHost s (fun h => { h with ferryDone := h.ferryDone ++ [c] })

/-- Remove the first notification owed to a channel. -/
def popNotify (l : List (Nat × Bool × Nat)) (c : Nat) : List (Nat × Bool × Nat) :=
  match l with
  | [] => []
  | x :: r => if x.1 = c then r else x :: popNotify r c

/-- The first notification owed to a channel may leave: 4 Braid cycles after the FERRY_ACK write (Table 2.12); for that of an EV445 no delay is stated. -/
def notifyDue (s : State) (c : Nat) : Bool :=
  match s.ferry.notify.find? (fun x => x.1 == c) with
  | some x => x.2.1 || decide (x.2.2 + 4 ≤ s.time)
  | none => false

/-- COMPLETION_NOTIFICATION (Table 2.12, R47, R48). -/
def completionNotification (c : Nat) (s : State) : State :=
  if notifyDue s c then notifySender c (modFerry s (fun f => { f with notify := popNotify f.notify c })) else s

/-- COMPLETION_NOTIFICATION. -/
def execCompletionNotification (c : Nat) (s : State) : Host.Outcome State Fault Refusal := .next (completionNotification c s)

/-! ## Headwater resets (R33, R34, R50 to R55) -/

/-- Code of a cause in EV441. -/
def hwCause (c : HwResetCause) : Nat :=
  match c with
  | .lockstep => 1
  | .watchdog => 2
  | .stylus => 3
  | .device => 4

/-- The Ferry block aborts every channel in POSTED or TAKEN and notifies its sender (R50). -/
def abortChannels (s : State) : State :=
  forAll ((s.ferry.chans.filter (fun c => c.2.st == .posted || c.2.st == .taken)).map (·.1)) (fun t c => addNotify c false (modChan c abortChan t)) s

/-- A Headwater reset begins (R50, R52, R55): channels abort, EV441, Headwater's locks are free, jobs run on. -/
def hwReset (c : HwResetCause) (s : State) : State :=
  let t := abortChannels s
  let t := modFerry t (fun f => { f with serving := none, lastDone := 127, irq := false, ready := false, resetting := true, recovery := false, switchPending := false, jobs := f.jobs.map (fun j => { j with acked := true }) })
  let t := modBoot t (fun b => { b with loaded := false, fallback := if c = .watchdog then b.fallback else none })
  freeLocks 0 (raiseEv 441 (hwCause c) 1 [] t)

/-- HEADWATER_RESET. -/
def execHeadwaterReset (c : HwResetCause) (s : State) : Host.Outcome State Fault Refusal := .next (hwReset c s)

/-- LOCKSTEP_MISMATCH: EV442 and a Headwater reset (R33). -/
def lockstepMismatch (s : State) : State := hwReset .lockstep (raiseEv 442 1 2 [] s)

/-- LOCKSTEP_MISMATCH. -/
def execLockstepMismatch (s : State) : Host.Outcome State Fault Refusal := .next (lockstepMismatch s)

/-- HEADWATER_WATCHDOG_EXPIRY: before the new firmware has raised EV443, the reset boots the image that ran before (R34, R582). -/
def headwaterWatchdogExpiry (s : State) : State :=
  let t := if s.ferry.switchPending then modBoot s (fun b => { b with fallback := some b.fwImage }) else modBoot s (fun b => { b with fallback := none })
  hwReset .watchdog t

/-- HEADWATER_WATCHDOG_EXPIRY. -/
def execHeadwaterWatchdogExpiry (s : State) : Host.Outcome State Fault Refusal := .next (headwaterWatchdogExpiry s)

end Sys2Proof.Machine
end

