-- ==== Sys2Proof/Machine/Host.lean ====
section
/-! DEFINITION. Locks, the host's BAR0 and BAR2, register windows with side effects, Rill accesses (R15, R16, R59 to R72, R525, R545). -/

namespace Sys2Proof.Machine
open Sys2Proof

/-! ## Lock unit (R64 to R72) -/

/-- Owner ID of a requester (R64). -/
def ownerId (p : Packet) : Nat := if isQuad p.src then p.src + 256 * (p.addr / 8 % 4) else p.src

/-- Lock an address names. Bytes 4 to 7 of an alias, where no register stands, name the lock too (R65; DESIGN CHOICE, log entry 80). -/
def lockIndex (p : Packet) : Nat := p.addr % 0x200000 / 0x20

/-- What a read of a held lock returns (R65). -/
def lockValue (l : Lock) : Nat := 0x8000 + b2n l.paused * 0x4000 + l.owner

/-- A read: a free lock becomes the reader's, unless it is a debug read (R65, R545); the timer of a halted owner starts paused (R70). Answers the value read. -/
def readLock (n owner : Nat) (debug : Bool) (s : State) : Nat × State :=
  let l := lockOf s n
  if l.held then (lockValue l, s)
  else if debug then (0, s)
  else (0, setLock n { held := true, owner := owner, since := s.time, paused := ownerHalted s owner } s)

/-- A 4-byte write of the owner's ID by the owner releases the lock (R66). -/
def lockReleases (l : Lock) (owner value len : Nat) : Bool := l.held && l.owner == owner && value == owner && len == 4

/-- A request of the Braid port waits: an access of the Headwater port meets a conflict (R67). -/
def lockConflict (s : State) : Bool := s.braid.inbox.any (fun d => d.ep == 0x5C)

/-- The unit has served its access of this Braid cycle (R67). -/
def lockUsed (s : State) : Bool := s.locks.lastAccess == some s.time

/-- The Headwater port's access is served: a read of a lock, or a write of a value to it. -/
def hwLockServe (n : Nat) (value : Option Nat) (s : State) : State :=
  let t := match value with
    | none =>
      let (v, u) := readLock n 0 false s
      modLocks u (fun x => { x with hwRead := some v })
    | some v => if lockReleases (lockOf s n) 0 v 4 then setLock n {} s else s
  modLocks t (fun u => { u with lastAccess := some s.time, hwWaiting := none })

/-- An access of the Headwater port. Where the Braid port has the turn, or the unit has served its access of this cycle, it is served in the next cycle (R67). -/
def hwLockAccess (n : Nat) (value : Option Nat) (s : State) : State :=
  if s.locks.hwWaiting.isSome then s
  else if lockUsed s then modLocks s (fun u => { u with hwWaiting := some (n, value) })
  else if lockConflict s then
    if s.locks.braidFirst then modLocks s (fun u => { u with braidFirst := false, hwWaiting := some (n, value) })
    else modLocks (hwLockServe n value s) (fun u => { u with braidFirst := true })
  else hwLockServe n value s

/-- The loser of a conflict is served in the next Braid cycle (R67). -/
def hwLockTick (s : State) : State :=
  match s.locks.hwWaiting with
  | some (n, v) => hwLockServe n v s
  | none => s

/-- A lock-unit request of the Braid port whose turn it is: the unit serves one access a Braid cycle (R67). -/
def lockRequest (s : State) (pid : Nat) : Option Delivered :=
  match s.braid.inbox.find? (fun d => d.ep == 0x5C) with
  | some d => if d.pkt.pid = pid ∧ ¬ lockUsed s then some d else none
  | none => none

/-- The Braid port's access is served. -/
def lockServed (s : State) : State := modLocks s (fun u => { u with lastAccess := some s.time })

/-- LOCK_READ (R65, R67). -/
def lockRead (port : LockPort) (s : State) : State :=
  match port with
  | .headwater n => if n < 256 then hwLockAccess n none s else s
  | .braid pid =>
    match lockRequest s pid with
    | none => s
    | some d =>
      if d.pkt.op = .rd then
        let (v, t) := readLock (lockIndex d.pkt) (ownerId d.pkt) d.pkt.debug s
        respondInbox d 2 .ok (padTo d.pkt.len (leBytes 4 v)) (lockServed t)
      else s

/-- LOCK_READ. -/
def execLockRead (port : LockPort) (s : State) : Host.Outcome State Fault Refusal := .next (lockRead port s)

/-- LOCK_RELEASE: a write; any but a release has no effect and ends DENIED when non-posted (R66). -/
def lockRelease (port : LockPort) (value : Nat) (s : State) : State :=
  match port with
  | .headwater n =>
    if n < 256 then hwLockAccess n (some value) s else s
  | .braid pid =>
    match lockRequest s pid with
    | none => s
    | some d =>
      if d.pkt.op = .rd then s
      else
        let n := lockIndex d.pkt
        if lockReleases (lockOf s n) (ownerId d.pkt) (leAt d.pkt.data 0 4) d.pkt.len then respondInbox d 2 .ok [] (lockServed (setLock n {} s))
        else respondInbox d 2 .denied [] (lockServed s)

/-- LOCK_RELEASE. -/
def execLockRelease (port : LockPort) (value : Nat) (s : State) : Host.Outcome State Fault Refusal := .next (lockRelease port value s)

/-- An access to a lock was there in the Braid cycle in which its timer reached HOLD_MAX, or before: it is applied first (R72). -/
def accessFirst (s : State) (n : Nat) : Bool :=
  let due := s.time - (lockRan s (lockOf s n) - s.locks.holdMax * usCycles)
  s.locks.hwWaiting.any (fun a => a.1 == n) || s.braid.inbox.any (fun d => d.ep == 0x5C && lockIndex d.pkt == n && decide (d.at_ ≤ due))

/-- LOCK_HOLD_EXPIRY: the hold timer reaches HOLD_MAX (R69, R72). -/
def lockHoldExpiry (n : Nat) (s : State) : State :=
  let l := lockOf s n
  if l.held ∧ ¬ l.paused ∧ s.locks.holdMax * usCycles ≤ lockRan s l ∧ ¬ accessFirst s n then lockEv n l.owner 0 (setLock n {} s) else s

/-- LOCK_HOLD_EXPIRY. -/
def execLockHoldExpiry (n : Nat) (s : State) : Host.Outcome State Fault Refusal := .next (lockHoldExpiry n s)

/-! ## BAR0 and BAR2 (R59 to R63, R525) -/

/-- TIMEBASE_LO_READ: bits [63:32] are latched, by a debug read into its own latch (Table 2.17, R545). -/
def timebaseLoRead (debug : Bool) (s : State) : State :=
  let hi := s.tbase.tb / 2 ^ 32 % 2 ^ 32
  modHost s (fun h => if debug then { h with tbHiDebug := hi } else { h with tbHi := hi })

/-- TIMEBASE_LO_READ. -/
def execTimebaseLoRead (debug : Bool) (s : State) : Host.Outcome State Fault Refusal := .next (timebaseLoRead debug s)

/-- Device address of a BAR2 offset (R63). -/
def bar2Addr (s : State) (o : Nat) : Nat := (tget s.host.apertures (false, 0) (o / 2 ^ 32 % 16)).2 * 2 ^ 32 + o % 2 ^ 32

/-- A request TLP has been received whole: the bridge presents it at its NI 32 Braid cycles later (Table 4.12). -/
def receiveTlp (r : Req) (s : State) : State := modHost s (fun h => { h with inbound := h.inbound ++ [(s.time + 32, r)] })

/-- Messages that the bridge kept are sent as soon as it may (R562). -/
def msixTick (s : State) : State :=
  modHost s (fun h => { h with msixSent := h.msixSent ++ h.msixHeld.filter (fun v => Config.msixReady v s.time), msixHeld := h.msixHeld.filter (fun v => !(Config.msixReady v s.time)) })

/-- The bridge presents the requests whose time has come, in order. -/
def bridgeTick (s : State) : State :=
  forAll (s.host.inbound.filter (fun x => decide (x.1 ≤ s.time))) (fun t x => (presentReq 0x07 0 x.2 t).2)
    (modHost s (fun h => { h with inbound := h.inbound.filter (fun x => !(decide (x.1 ≤ s.time))) }))

/-- BAR2_REQUEST: a read, or a posted write, by an enabled aperture; else Unsupported Request (R63). -/
def bar2Request (o : Nat) (r : Req) (s : State) : State :=
  if (tget s.host.apertures (false, 0) (o / 2 ^ 32 % 16)).1 then
    receiveTlp { r with op := if r.op = .rd then .rd else .wrp, far := false, addr := bar2Addr s o } s
  else modHost s (fun h => { h with unsupported := h.unsupported + 1 })

/-- BAR2_REQUEST. -/
def execBar2Request (o : Nat) (r : Req) (s : State) : Host.Outcome State Fault Refusal := .next (bar2Request o r s)

/-- How a host request through BAR2 ends at the host (Table 15.6). -/
inductive HostOutcome where
  /-- Successful, with EP set for poisoned data. -/
  | success (ep : Bool)
  | completerAbort
  | unsupportedRequest
deriving DecidableEq, Repr

/-- What the bridge makes of a STATUS (R63, Table 15.6). -/
def bar2Outcome (st : Status) : HostOutcome :=
  match st with
  | .ok => .success false
  | .okPoison => .success true
  | .timeout => .completerAbort
  | .fenced => .completerAbort
  | .uncorrectable => .completerAbort
  | .keyRetired => .completerAbort
  | .collide => .completerAbort
  | .farUnreachable => .completerAbort
  | .denied => .unsupportedRequest
  | .decode => .unsupportedRequest
  | .route => .unsupportedRequest

/-- The host's answers to its BAR2 reads so far, with the data of a successful one and the Braid cycle of the completion TLP's first symbol, 40 after delivery at the bridge (R63, Table 4.12). -/
def bar2Answers (s : State) : List (Nat × HostOutcome × List Byte × Nat) :=
  (s.braid.completions.filter (fun c => c.ep == 0x07)).map (fun c =>
    (c.gid, bar2Outcome c.status, if c.status = .ok ∨ c.status = .okPoison then c.data else [], c.doneAt + 40))

/-- PCIE_RESET: sender reset of channels 96 to 99, completions owed to the bridge are discarded on arrival, the doorbell and the apertures clear (R49, R63, R525). -/
def pcieReset (s : State) : State :=
  let t := forAll [96, 97, 98, 99] (fun u c => senderResetChan c u) s
  let owed := (s.braid.groups.filter (fun g => g.ep == 0x07)).map (fun g => g.gid)
  let t := modEngines t (fun y => { y with dead := y.dead ++ owed })
  modHost t (fun h => { h with doorbell := 0, apertures := [] })

/-- PCIE_RESET. -/
def execPcieReset (s : State) : Host.Outcome State Fault Refusal := .next (pcieReset s)

/-- A write of BAR0 (Table 2.14): host channels over Braid, apertures and W1C registers in the bridge and AON. -/
def bar0Write (o v : Nat) (s : State) : State :=
  if o < 0x800 then receiveTlp { op := .wrp, addr := 0xA0C000 + o, len := 4, data := leBytes 4 v } s
  else if o = 0x10100 then fatalSummaryClear v s
  else if o = 0x10300 then evDoorbellClear v s
  else if 0x20000 ≤ o ∧ o < 0x20080 ∧ o % 8 = 4 then modHost s (fun h => { h with apertures := tset h.apertures ((o - 0x20000) / 8) (bit v 31, v % 65536) })
  else s

/-- Registers that REGISTER_WRITE writes over Braid: EV_CTRL, EV_CFGn, ENG_START (Tables 7.12, 15.3). -/
def braidWrite (d : Delivered) (s : State) : Option State :=
  let o := d.pkt.addr % 0x200000
  let v := leAt d.pkt.data 0 4
  if d.pkt.op = .rd ∨ 0x10000000 ≤ d.pkt.addr ∨ s.time < d.at_ then none
  else if d.ep = 0x04 ∧ o < 4 then some (setEvCtrl v s)
  else if d.ep = 0x04 ∧ 0x1000 ≤ o ∧ o < 0x1800 then some (setEvCfg ((o - 0x1000) / 4) v s)
  else if isQuad d.ep ∧ 0x1000 ≤ o ∧ o < 0x1400 ∧ 8 ≤ o % 0x100 ∧ o % 0x100 < 12 then
    some (modEng (regEngine d.pkt d.ep 0x1000 0x100) (fun e => { e with start := v % 8192 }) s)
  else none

/-- REGISTER_WRITE (R7, R14, R59). -/
def registerWrite (a : RegAccess) (s : State) : State :=
  match a with
  | .bar0 o v => bar0Write o v s
  | .braid pid =>
    match inboxAny s pid with
    | none => s
    | some d =>
      match braidWrite d s with
      | some t => writeDone d t
      | none => s

/-- REGISTER_WRITE. -/
def execRegisterWrite (a : RegAccess) (s : State) : Host.Outcome State Fault Refusal := .next (registerWrite a s)

/-! ## Registers whose reads have side effects (R545) -/

/-- A delivered read of an offset of a register window. -/
def regRead (s : State) (pid ep : Nat) : Option (Delivered × Nat) :=
  match inboxFind s ep pid with
  | some d => if d.pkt.op = .rd ∧ d.pkt.addr < 0x10000000 then some (d, d.pkt.addr % 0x200000) else none
  | none => none

/-- KM_RNG_OUT_READ: offset 0x100 draws 64 bits and holds the upper half of a read of at most 4 bytes; offset 0x104 returns and clears the held half; a debug read returns 0 (Table 14.11). -/
def kmRngOutRead (pid : Nat) (draw : BitVec 64) (s : State) : State :=
  match regRead s pid 0x5A with
  | none => s
  | some (d, o) =>
    let n := d.pkt.len
    if d.pkt.debug then respondInbox d 10 .ok (List.replicate n 0) s
    else if o = 0x100 then
      let t := if n ≤ 4 then modCrypto s (fun c => { c with rngHeld := draw.toNat / 2 ^ 32 }) else s
      respondInbox d 10 .ok (padTo n (leBytes (if n ≤ 4 then 4 else 8) draw.toNat)) t
    else respondInbox d 10 .ok (padTo n (leBytes 4 s.crypto.rngHeld)) (modCrypto s (fun c => { c with rngHeld := 0 }))

/-- KM_RNG_OUT_READ. -/
def execKmRngOutRead (pid : Nat) (draw : BitVec 64) (s : State) : Host.Outcome State Fault Refusal := .next (kmRngOutRead pid draw s)

/-- Bytes of boot flash from an offset on. -/
def flashBytes (s : State) (o n : Nat) : List Byte := (List.range n).map (fun i => tget s.dbg.boot.flash (0xFF : Byte) (o + i))

/-- CFG_XSPI_RD_READ: returns and advances the flash read stream; a debug read returns 0 (Table 14.11). -/
def cfgXspiRdRead (pid : Nat) (s : State) : State :=
  match regRead s pid 0x01 with
  | none => s
  | some (d, _) =>
    let n := d.pkt.len
    if d.pkt.debug then respondInbox d 10 .ok (List.replicate n 0) s
    else respondInbox d 10 .ok (flashBytes s s.fabric.xspiPos n) (modFabric s (fun f => { f with xspiPos := f.xspiPos + n }))

/-- CFG_XSPI_RD_READ. -/
def execCfgXspiRdRead (pid : Nat) (s : State) : Host.Outcome State Fault Refusal := .next (cfgXspiRdRead pid s)

/-! ## Rill -/

/-- RILL_ACCESS, while Rill runs (R18): the oldest access on it reaches its station: a kick its watchdog (R520), an access the PMC (R159). -/
def rillAccess (s : State) : State :=
  if ¬ rillRuns s then s else
  match s.rill with
  | [] => s
  | .kick k :: r => modWdt k (fun w => { w with kicked := true }) { s with rill := r }
  | .access pid :: r =>
    match inboxAny s pid with
    | some d => respondInbox d 10 .ok (if d.pkt.op = .rd then List.replicate d.pkt.len 0 else []) { s with rill := r }
    | none => { s with rill := r }

/-- RILL_ACCESS. -/
def execRillAccess (s : State) : Host.Outcome State Fault Refusal := .next (rillAccess s)

end Sys2Proof.Machine
end

