-- ==== Sys2Proof/Machine/PowerOps.lean ====
section
/-! DEFINITION. Switching a power domain on or off, and waking one for a command (Table 13.1, R26, R344, R382, R496, R497). -/

namespace Sys2Proof.Machine
open Sys2Proof

/-- Clear the words of a memory: bytes and tags from a physical address on. -/
def clearWords (a n : Nat) (s : State) : State :=
  modMems s (fun m => { m with mem := mzero m.mem a n, words := m.words.filter (fun w => decide (w.1 * 8 < a ∨ a + n ≤ w.1 * 8)) })

/-- Clear a memory unit: a Basin group, or the engine memories of a quad (R382). -/
def clearUnit (u : Nat) (s : State) : State :=
  let t := if u < 8 then clearWords (basinBase + u * 8388608) 8388608 s else clearWords (imBase (4 * (u - 8))) 0x100000 s
  modMems t (fun m => { m with lost := ldel m.lost u })

/-- A memory unit is switched off: its contents are lost. -/
def unitOff (u : Nat) (s : State) : State :=
  let t := setMemPwr u .off (clearUnit u s)
  if u < 8 then modBgroup u (fun g => { repair := g.repair }) t else t

/-- An engine whose domain is switched off. -/
def engineOff (k : Nat) (s : State) : State := modEng k (fun _ => {}) (resetEngine k s)

/-- An eye scan ends before its time: EV445 with BAD_STATE, adaptation resumes (R200). -/
def endScan (l : Nat) (s : State) : State :=
  match (pathOf s l).scan with
  | some c => endJob c.job rcBadState [] (modPath l (fun p => { p with scan := none }) (modLane l (fun y => { y with frozen := false }) s))
  | none => s

/-- Lanes that lose their power: an eye scan ends (R200). -/
def lanesOff (ls : List Nat) (pll : Nat) (s : State) : State :=
  modLanes (forAll ls (fun t l => endScan l t) s) (fun l => { l with lanes := l.lanes.filter (fun p => !(ls.contains p.1)), paths := l.paths.filter (fun p => !(ls.contains p.1)), plls := tdel l.plls pll })

/-- Frames of a region are lost. -/
def clearRegion (r : Nat) (s : State) : State :=
  modFabric s (fun f => { f with frames := f.frames.filter (fun p => p.1 / 2 ^ 19 != r), bram := f.bram.filter (fun p => p.1 / 2 ^ 19 != r) })

/-- The eighths that a self-refresh which begins now keeps (R342). -/
def keepNow (c : Nat) (s : State) : State := modDchX c (fun x => { x with srKeep := (dchOf s c).keep % 256 }) s

/-- The DRAM components of a channel go to self-refresh (R344). -/
def channelOff (c : Nat) (s : State) : State :=
  keepNow c <| modDch c (fun h => { h with pwr := if h.trained then .selfRefresh else h.pwr, rows := [], sinceRfm := [], acts := [], throttled := [] }) s

/-- What is lost while a domain is off (Table 13.1). -/
def domainLoss (d : Nat) (s : State) : State :=
  if 6 ≤ d ∧ d < 30 then unitOff (8 + (d - 6)) (forAll [0, 1, 2, 3] (fun t i => engineOff (4 * (d - 6) + i) t) s)
  else if 30 ≤ d ∧ d < 46 then clearRegion (d - 30) (modReach (d - 30) (fun r => { st := .off, loads := r.loads }) s)
  else if 46 ≤ d ∧ d < 62 then channelOff (d - 46) s
  else if 62 ≤ d ∧ d < 78 then lanesOff [4 * (d - 62), 4 * (d - 62) + 1, 4 * (d - 62) + 2, 4 * (d - 62) + 3] (d - 62) s
  else if 78 ≤ d ∧ d < 82 then unitOff (2 * (d - 78) + 1) (unitOff (2 * (d - 78)) s)
  else if d = 82 then modCrypto s (fun c => { c with roots := [], cache := [], cacheDirty := [] })
  else if d = 83 then clearRegion 31 s
  else if d = 84 then { s with bw := {}, bwx := {} }
  else if d = 85 then lanesOff [64, 65, 66, 67] 16 (modTwin s (fun _ => {}))
  else s

/-- VCC_ME of an operating point, in mV (Table 13.11). -/
def voltOf (op : Nat) : Nat :=
  match op with
  | 0 => 850
  | 1 => 780
  | 2 => 700
  | _ => 620

/-- The voltage that the ME domains that are on need (R512). -/
def needVcc (s : State) : Nat :=
  ((List.range 24).filter (fun q => domOn s (6 + q))).foldl (fun v q => max v (voltOf (quadOf s q).op)) 620

/-- The PMC holds VCC_ME at the voltage the domains that are on need, where a PMBus address is set and no operating-point change is in progress (R512). -/
def holdVcc (s : State) : State := if s.power.pmbus.isSome ∧ s.power.dvfs.isEmpty then modPower s (fun p => { p with vccMe := needVcc s }) else s

/-- An ME domain comes on: at its point when VCC_ME can be set to it, else at the highest point that VCC_ME allows (R514). -/
def quadOn (q : Nat) (s : State) : State :=
  let op := (quadOf s q).op
  if s.power.pmbus.isSome ∨ voltOf op ≤ s.power.vccMe then holdVcc s
  else modQuad q (fun x => { x with op := if 780 ≤ s.power.vccMe then 1 else if 700 ≤ s.power.vccMe then 2 else 3 }) s

/-- Switch a domain off: gate CLOSED, contents lost (R496). -/
def domainOff (d : Nat) (s : State) : State :=
  let t := domainLoss d (setDom d false (setGateSt d .closed s))
  if 6 ≤ d ∧ d < 30 then holdVcc t else t

/-- Settings kept for lanes whose domain was off reach them at its next ON (R576, R584): lanes 4 q to 4 q + 3, the Twin lanes for q = 16. -/
def storedLanes (q : Nat) (s : State) : State :=
  forAll [4 * q, 4 * q + 1, 4 * q + 2, 4 * q + 3] (fun t l =>
    match tfind t.lanes.stored l with
    | some x => modLanes (modLane l (fun y => { y with nextTx := some x }) t) (fun y => { y with stored := tdel y.stored l })
    | none => t) s

/-- The arrangement in force. -/
def activeArr (s : State) (c : Nat) : Arrange := (dchOf s c).active.getD {}

/-- Counter `i` of Table 8.15, `n` more. -/
def dramCount (c i n : Nat) (s : State) : State := modDchX c (fun x => { x with ctr := tadd x.ctr i n }) s

/-- Lines of the eighths of a mask hold undefined contents from now on (R342). -/
def loseEighths (c lost : Nat) (s : State) : State :=
  let cap := arrLines (activeArr s c)
  let t := modMems s (fun m => { m with lines := m.lines.filter (fun x => !(x.1 / 268435456 == c && bit lost (eighthOf cap (x.1 % 268435456)))) })
  modDchX c (fun x => { x with lost := lost, zeroed := listMask ((List.range 8).filter (fun i => bit x.zeroed i && !(bit lost i))) }) t

/-- The eighths whose contents are lost: those not kept, or, where the components have no bank mask, those of a rank of which none is kept (R342). -/
def pasrLost (s : State) (c : Nat) : Nat :=
  let keep := (dchX s c).srKeep
  if Config.pasrBanks c then 255 - keep
  else if (activeArr s c).ranks = 2 then (if keep % 16 = 0 then 15 else 0) + (if keep / 16 = 0 then 240 else 0)
  else if keep = 0 then 255 else 0

/-- The channel leaves self-refresh: excluded eighths are lost, one retraining update is made (R342, R344, R347). -/
def leaveSelfRefresh (c : Nat) (s : State) : State :=
  let t := modDchX c (fun x => { x with lastReq := s.time, lastDqs := s.time }) (modDch c (fun h => { h with pwr := .active, owedRefresh := 0 }) s)
  loseEighths c (pasrLost s c) (dramCount c 10 1 t)

/-- NIs of a BRAID domain take the tables prepared while it was off (R576). -/
def braidSwaps (d : Nat) (s : State) : State :=
  forAll ((List.range 0x70).filter (fun e => epListed e && braidDomain (colOf (epRouter e)) == d)) (fun t e => niTableSwap e t) s

/-- Switch a domain on and restore it (Table 13.1). Memories pass through INIT before the gate can open (R382); a reach and an untrained channel keep their gate CLOSED. -/
def domainOn (d : Nat) (s : State) : State :=
  if domOn s d then s
  else
    let t := setDom d true s
    if 2 ≤ d ∧ d < 6 then setGateSt d .opened (braidSwaps d t)
    else if 6 ≤ d ∧ d < 30 then setMemPwr (8 + (d - 6)) .init (quadOn (d - 6) (startPllMe t))
    else if 78 ≤ d ∧ d < 82 then setMemPwr (2 * (d - 78) + 1) .init (setMemPwr (2 * (d - 78)) .init t)
    else if 30 ≤ d ∧ d < 46 then modReach (d - 30) (fun r => { r with st := .empty }) t
    else if 46 ≤ d ∧ d < 62 then
      (if (dchOf s (d - 46)).trained then setGateSt d .opened (leaveSelfRefresh (d - 46) t) else t)
    else if 62 ≤ d ∧ d < 78 then setGateSt d .opened (storedLanes (d - 62) t)
    else if d = 85 then setGateSt d .opened (storedLanes 16 t)
    else setGateSt d .opened t

/-- A domain passes no INIT: it is ready as soon as it is on. -/
def domainReady (s : State) (d : Nat) : Bool :=
  domOn s d &&
    (if 6 ≤ d ∧ d < 30 then memPwr s (8 + (d - 6)) != .init
     else if 78 ≤ d ∧ d < 82 then memPwr s (2 * (d - 78)) != .init && memPwr s (2 * (d - 78) + 1) != .init
     else true)

/-- A command needs a domain: it is powered when it is off (R26), unless TRIM masks it (R500: BAD_STATE). -/
def wakeFor (d : Nat) (s : State) : Option State :=
  if domOn s d then some s
  else if s.power.trimMask.contains d then none
  else some (domainOn d s)

end Sys2Proof.Machine
end

