-- ==== Sys2Proof/Machine/LaneOps.lean ====
section
/-! DEFINITION. Lane coding: scrambler, Reed-Solomon check symbols, symbol mapping, precoding, records (R173 to R184, R201 to R203). -/

namespace Sys2Proof.Machine
open Sys2Proof

/-! ## Bits of blocks -/

/-- Bits of a number, least significant first. -/
def lsbBits (n v : Nat) : List Bool := (List.range n).map (fun i => bit v i)

/-- Number of a list of bits, least significant first. -/
def bitsNum (l : List Bool) : Nat := l.foldr (fun b a => b2n b + 2 * a) 0

/-- A header is valid (R192). -/
def hdrValid (b : Block) : Bool := b.header == 1 || b.header == 2

/-- The 66 bits of a block in transmission order: header, then payload (R175). -/
def blockBits (b : Block) : List Bool := [bit b.header 1, bit b.header 0] ++ lsbBits 64 b.payload

/-- An IDLE block (R177); its type stands where the types of Table 6.4's other blocks stand, in bits [63:56] (DEDUCED, log entry 16). -/
def idleBlock : Block := { header := 2, payload := 0x1E * 2 ^ 56 }

/-- The payload of an error record: block type 0x1E and eight 7-bit codes 0x1E (R202). -/
def errorPayload : Nat := (List.range 8).foldl (fun a i => a + 0x1E * 2 ^ (8 + 7 * i)) 0x1E

/-- The 65 bits of a record (R201). -/
def recordBits (b : Block) : List Bool := (b.header == 2) :: lsbBits 64 b.payload

/-! ## The scrambler x^58 + x^39 + 1 (R173, R176) -/

/-- One bit scrambled: the memory holds the last 58 bits sent, the latest in bit 0. -/
def scrBit (m : Nat) (d : Bool) : Bool × Nat :=
  let o := (d != bit m 38) != bit m 57
  (o, (2 * m + b2n o) % 2 ^ 58)

/-- One bit descrambled: the memory holds the last 58 bits received. -/
def descrBit (m : Nat) (r : Bool) : Bool × Nat := ((r != bit m 38) != bit m 57, (2 * m + b2n r) % 2 ^ 58)

/-- Run a bit list through a scrambler or a descrambler. -/
def runBits (f : Nat → Bool → Bool × Nat) (m : Nat) (l : List Bool) : List Bool × Nat :=
  match l with
  | [] => ([], m)
  | b :: r =>
    let (o, m1) := f m b
    let (os, m2) := runBits f m1 r
    (o :: os, m2)

/-- A block with its payload scrambled or descrambled. -/
def runBlock (f : Nat → Bool → Bool × Nat) (m : Nat) (b : Block) : Block × Nat :=
  let (l, m1) := runBits f m (lsbBits 64 b.payload)
  ({ b with payload := bitsNum l }, m1)

/-- A list of blocks, the memory running on from block to block. -/
def runBlocks (f : Nat → Bool → Bool × Nat) (m : Nat) (l : List Block) : List Block × Nat :=
  match l with
  | [] => ([], m)
  | b :: r =>
    let (o, m1) := runBlock f m b
    let (os, m2) := runBlocks f m1 r
    (o :: os, m2)

/-! ## Reed-Solomon codes over GF(2^10): RS(527,495) and RS(544,514) (R173, R178) -/

/-- Multiply by x modulo x^10 + x^3 + 1. -/
def gfX (a : Nat) : Nat := if 512 ≤ a then (2 * a) ^^^ 0x409 else 2 * a

/-- Product in GF(2^10). -/
def gfMul (a b : Nat) : Nat := ((List.range 10).foldl (fun (p : Nat × Nat) i => (if bit b i then p.1 ^^^ p.2 else p.1, gfX p.2)) (0, a)).1

/-- α^i. -/
def gfPow (i : Nat) : Nat := (List.range i).foldl (fun a _ => gfX a) 1

/-- Multiply a polynomial, lowest coefficient first, by (x - r). -/
def polyMulRoot (p : List Nat) (r : Nat) : List Nat :=
  (List.range (p.length + 1)).map (fun i => (if i = 0 then 0 else p.getD (i - 1) 0) ^^^ gfMul r (p.getD i 0))

/-- Inverse of a nonzero element: its power 1022. -/
def gfInv (a : Nat) : Nat := ((List.range 9).foldl (fun (p : Nat × Nat) _ => let q := gfMul p.2 p.2; (gfMul p.1 q, q)) (1, a)).1

/-- The generator polynomial ∏ (x - α^i), i = 0 to r - 1, lowest coefficient first. -/
def rsGen (r : Nat) : List Nat := (List.range r).foldl (fun p i => polyMulRoot p (gfPow i)) [1]

/-- One message symbol into the division. -/
def rsStep (r : Nat) (g c : List Nat) (m : Nat) : List Nat :=
  let fb := m ^^^ c.getD (r - 1) 0
  (List.range r).map (fun k => (if k = 0 then 0 else c.getD (k - 1) 0) ^^^ gfMul fb (g.getD k 0))

/-- The r check symbols of a message, P_0 first. -/
def rsCheck (r : Nat) (msg : List Nat) : List Nat := let g := rsGen r; msg.foldl (rsStep r g) (List.replicate r 0)

/-- Value of a polynomial, lowest coefficient first. -/
def polyEval (p : List Nat) (x : Nat) : Nat := p.foldr (fun c a => c ^^^ gfMul x a) 0

/-- Sum of two polynomials. -/
def polyAdd (p q : List Nat) : List Nat := (List.range (max p.length q.length)).map (fun i => p.getD i 0 ^^^ q.getD i 0)

/-- The first n coefficients of a product. -/
def polyMulLow (n : Nat) (p q : List Nat) : List Nat :=
  (List.range n).map (fun k => (List.range (k + 1)).foldl (fun a i => a ^^^ gfMul (p.getD i 0) (q.getD (k - i) 0)) 0)

/-- Values of a received word, highest coefficient first, at the r roots of the generator. -/
def syndromes (r : Nat) (w : List Nat) : List Nat := (List.range r).map (fun i => let x := gfPow i; w.foldl (fun a c => gfMul a x ^^^ c) 0)

/-- The Berlekamp-Massey state: locator, its last rival, its length, the rival's age and discrepancy. -/
structure Locator where
  c : List Nat := [1]
  rival : List Nat := [1]
  len : Nat := 0
  age : Nat := 1
  disc : Nat := 1
deriving DecidableEq, Repr

/-- One syndrome into the locator. -/
def locStep (syn : List Nat) (k : Locator) (n : Nat) : Locator :=
  let d := (List.range k.len).foldl (fun a i => a ^^^ gfMul (k.c.getD (i + 1) 0) (syn.getD (n - (i + 1)) 0)) (syn.getD n 0)
  if d = 0 then { k with age := k.age + 1 }
  else
    let f := gfMul d (gfInv k.disc)
    let c := polyAdd k.c (List.replicate k.age 0 ++ k.rival.map (gfMul f))
    if 2 * k.len ≤ n then { c := c, rival := k.c, len := n + 1 - k.len, age := 1, disc := d } else { k with c := c, age := k.age + 1 }

/-- Powers of x at which a locator finds an error in a word of n symbols. -/
def errorPlaces (n : Nat) (c : List Nat) : List Nat := (List.range n).filter (fun j => polyEval c (gfPow ((1023 - j) % 1023)) == 0)

/-- The error at a place, by Forney's formula for a first root α^0. -/
def errorValue (r : Nat) (syn c : List Nat) (j : Nat) : Nat :=
  let x := gfPow ((1023 - j) % 1023)
  let om := polyEval (polyMulLow r syn c) x
  let dc := polyEval ((List.range (c.length - 1)).map (fun i => if i % 2 = 0 then c.getD (i + 1) 0 else 0)) x
  gfMul (gfPow j) (gfMul om (gfInv dc))

/-- Decode a received word, highest coefficient first, of a code with r check symbols: the corrected word and its number of symbol errors; none with more than r / 2 (R178). -/
def rsDecode (r : Nat) (w : List Nat) : Option (List Nat × Nat) :=
  let syn := syndromes r w
  if syn.all (fun x => x == 0) then some (w, 0)
  else
    let k := (List.range r).foldl (locStep syn) {}
    let places := errorPlaces w.length k.c
    if r / 2 < k.len ∨ places.length ≠ k.len then none
    else
      let v := w.zipIdx.map (fun (c, i) => let j := w.length - 1 - i; if places.contains j then c ^^^ errorValue r syn k.c j else c)
      if (syndromes r v).all (fun x => x == 0) then some (v, k.len) else none

/-- Cut a list into pieces of `n`. -/
def chunks {α : Type} (n fuel : Nat) (l : List α) : List (List α) :=
  match fuel with
  | 0 => []
  | f + 1 => if l.isEmpty then [] else l.take n :: chunks n f (l.drop n)

/-- Blocks 75 to 79 of a native frame (R175, R178). -/
def checkBlocks (data : List Block) : List Block :=
  let bits := data.foldl (fun l b => l ++ blockBits b) []
  let msg := (chunks 10 495 bits).map bitsNum
  let chk := (rsCheck 32 msg).reverse.foldl (fun l p => l ++ lsbBits 10 p) []
  (chunks 64 5 chk).map (fun p => { header := 2, payload := bitsNum p })

/-- The block of 66 bits in transmission order. -/
def bitsBlock (l : List Bool) : Block := { header := 2 * b2n (l.getD 0 false) + b2n (l.getD 1 false), payload := bitsNum ((l.drop 2).take 64) }

/-- Decode the 80 blocks of a native frame: blocks 0 to 74 corrected, with the symbols corrected; none when the decoder finds more than 16 symbol errors (R178, R179). -/
def frameDecode (fr : List Block) : Option (List Block × Nat) :=
  let msg := (chunks 10 495 ((fr.take 75).foldl (fun l b => l ++ blockBits b) [])).map bitsNum
  let chk := (chunks 10 32 ((fr.drop 75).foldl (fun l b => l ++ lsbBits 64 b.payload) [])).map bitsNum
  (rsDecode 32 (msg ++ chk)).map (fun (w, n) => ((chunks 66 75 ((w.take 495).foldl (fun l m => l ++ lsbBits 10 m) [])).map bitsBlock, n))

/-! ## Modes 4 and 5: 256b/257b transcoding, codewords (R173; PRESUMED from IEEE Std 802.3, log entry 91) -/

/-- The second nibble of a control block type, by its first in transmission order: the 15 types of the 64b/66b code. -/
def typeHigh (n : Nat) : Option Nat := [none, some 0xE, some 0xD, some 3, some 0xB, some 5, some 6, some 8, some 7, some 9, some 0xA, some 4, some 0xC, some 2, some 1, some 0xF][n]?.getD none

/-- Four 66-bit blocks as one of 257 bits: a leading 1 and four payloads, or a leading 0, a bit for each block that is data, and the payloads without the second nibble of the first control block's type. -/
def transcode (g : List Block) : List Bool :=
  let pay := g.foldl (fun l b => l ++ lsbBits 64 b.payload) []
  match g.findIdx? (fun b => b.header == 2) with
  | none => true :: pay
  | some c => false :: g.map (fun b => b.header == 1) ++ (pay.take (64 * c + 4) ++ pay.drop (64 * c + 8))

/-- The four blocks of 257 bits; blocks with an invalid header where the bits are none a transcoder makes. -/
def untranscode (l : List Bool) : List Block :=
  if l.headD false then (chunks 64 4 (l.drop 1)).map (fun p => { header := 1, payload := bitsNum p })
  else
    let data := (l.drop 1).take 4
    let rest := l.drop 5
    match data.findIdx? (fun b => !b) with
    | none => List.replicate 4 { header := 0, payload := 0 }
    | some c =>
      match typeHigh (bitsNum ((rest.drop (64 * c)).take 4)) with
      | none => List.replicate 4 { header := 0, payload := 0 }
      | some h =>
        let pay := rest.take (64 * c + 4) ++ lsbBits 4 h ++ rest.drop (64 * c + 4)
        (chunks 64 4 pay).zip data |>.map (fun (p, d) => { header := if d then 1 else 2, payload := bitsNum p })

/-- 66-bit blocks that a codeword carries beside its alignment markers. -/
def groupSize (mode n : Nat) : Nat := 4 * (20 - (Config.alignMarkers mode n).length)

/-- Codeword number n of a stream: its alignment markers, then its blocks transcoded and, where the lane scrambles, scrambled; 514 symbols and their 30 check symbols. Answers the 5440 bits and the scrambler's memory. -/
def codewordBits (mode n : Nat) (scramble : Bool) (m : Nat) (g : List Block) : List Bool × Nat :=
  let body := (chunks 4 20 g).foldl (fun l x => l ++ transcode x) []
  let (sc, m1) := if scramble then runBits scrBit m body else (body, m)
  let msg := (chunks 10 514 (((Config.alignMarkers mode n).foldl (fun l a => l ++ lsbBits 257 a) [] ++ sc).take 5140)).map bitsNum
  ((msg ++ (rsCheck 30 msg).reverse).foldl (fun l x => l ++ lsbBits 10 x) [], m1)

/-- The blocks of a received codeword without its markers, the symbols corrected (none: uncorrectable), and the descrambler's memory. -/
def codewordBlocks (mode n : Nat) (scramble : Bool) (m : Nat) (bits : List Bool) : List Block × Option Nat × Nat :=
  let w := (chunks 10 544 bits).map bitsNum
  let dec := rsDecode 30 w
  let body := ((match dec with
    | some (v, _) => v
    | none => w).take 514).foldl (fun l x => l ++ lsbBits 10 x) []
  let (pl, m1) := let b := body.drop (257 * (Config.alignMarkers mode n).length); if scramble then runBits descrBit m b else (b, m)
  ((chunks 257 20 pl).flatMap untranscode, dec.map (fun x => x.2), m1)

/-! ## Symbols (R181, R182) -/

/-- The Gray map of a pair of bits. -/
def gray (a b : Bool) : Nat := if a then (if b then 2 else 3) else if b then 1 else 0

/-- The pair of bits of a Gray-mapped value. -/
def ungray (g : Nat) : List Bool :=
  match g with
  | 0 => [false, false]
  | 1 => [false, true]
  | 2 => [true, true]
  | _ => [true, false]

/-- PAM4 symbols of a bit list. -/
def pam4 (l : List Bool) : List Nat :=
  match l with
  | a :: b :: r => gray a b :: pam4 r
  | _ => []

/-- Transmit precoding from the memory P (R182). -/
def precode (p : Nat) (l : List Nat) : List Nat × Nat :=
  match l with
  | [] => ([], p)
  | g :: r =>
    let q := (g + 4 - p) % 4
    let (os, e) := precode q r
    (q :: os, e)

/-- Receive precoding: G(j) = (P(j) + P(j - 1)) mod 4 (R182). -/
def unprecode (p : Nat) (l : List Nat) : List Nat × Nat :=
  match l with
  | [] => ([], p)
  | x :: r =>
    let (os, e) := unprecode x r
    ((x + p) % 4 :: os, e)

/-- PAM4 modes (Table 5.1). -/
def isPam4 (mode : Nat) : Bool := mode == 1 || mode == 4 || mode == 5

/-- Symbol rate in kBd (Table 5.1). -/
def symbolRate (mode : Nat) : Nat :=
  match mode with
  | 1 => 55000000
  | 2 => 10312500
  | 3 => 25781250
  | 4 => 26562500
  | 5 => 53125000
  | _ => 1

/-- The symbols a lane sends for a bit list, with its precoder memory after them: PAM4 or NRZ, precoding, polarity. -/
def laneSymbols (l : Lane) (p : Nat) (bits : List Bool) : List Nat × Nat :=
  if isPam4 l.mode then
    let g := pam4 bits
    let (s, q) := if l.tx.txpre then precode p g else (g, p)
    (if l.tx.txinv then s.map (fun v => 3 - v) else s, q)
  else (bits.map (fun b => b2n (b != l.tx.txinv)), p)

/-- The bits a receiver takes from sliced symbols, with its precoder memory after them: polarity, precoding, Gray map (R181, R182). -/
def laneBits (l : Lane) (p : Nat) (syms : List Nat) : List Bool × Nat :=
  if isPam4 l.mode then
    let v := syms.map (fun x => if l.tx.rxinv then 3 - x % 4 else x % 4)
    let (g, q) := if l.tx.rxpre then unprecode p v else (v, v.getLast?.getD p)
    (g.flatMap ungray, q)
  else (syms.map (fun x => (x % 2 == 1) != l.tx.rxinv), p)

/-- Level of a symbol in thirds of the output swing's amplitude (R181). -/
def symbolLevel (mode v : Nat) : Int := if isPam4 mode then 2 * (v : Int) - 3 else 6 * (v : Int) - 3

/-- Tap weights c(-1), c(0), c(+1) in 64ths (R183). -/
def txTaps (x : TxSet) : Int × Int × Int := (-(x.pre : Int), 64 - x.pre - x.post, -(x.post : Int))

/-- Peak-to-peak swing in mV (R183). -/
def swingMv (x : TxSet) : Nat := if x.swing then 1000 else 800

/-- y(n) of three consecutive symbols, in microvolts: full scale is half the swing either way (R183). -/
def driven (x : TxSet) (mode before now after : Nat) : Int :=
  let (a, b, c) := txTaps x
  (a * symbolLevel mode after + b * symbolLevel mode now + c * symbolLevel mode before) * (swingMv x * 500 : Nat) / 192

/-- One bit of PRBS31, x^31 + x^28 + 1: the memory holds the last 31 bits (R598). -/
def prbsBit (m : Nat) : Bool × Nat := let o := bit m 27 != bit m 30; (o, (2 * m + b2n o) % 2 ^ 31)

/-- The next n bits of PRBS31. -/
def prbsBitsOf (n m : Nat) : List Bool × Nat :=
  match n with
  | 0 => ([], m)
  | n + 1 =>
    let (o, m1) := prbsBit m
    let (os, m2) := prbsBitsOf n m1
    (o :: os, m2)

/-! ## Lanes and quads -/

/-- PLL of a lane: its quad, or 16 for the Twin lanes. -/
def pllOf (l : Nat) : Nat := if l < 64 then l / 4 else 16

/-- Lanes of a PLL. -/
def quadLanes (q : Nat) : List Nat := [4 * q, 4 * q + 1, 4 * q + 2, 4 * q + 3]

/-- State of a PLL. -/
def pllSt (s : State) (q : Nat) : PllState := tget s.lanes.plls .off q

/-- Change the state of a PLL. -/
def setPll (q : Nat) (p : PllState) (s : State) : State := modLanes s (fun l => { l with plls := tset l.plls q p })

/-- Domain of a lane. -/
def laneDomain (l : Nat) : Nat := if l < 64 then 62 + l / 4 else 85

/-- A lane is a member of an enabled Delta port, or of the Twin link (R217, R241). -/
def portMember (s : State) (l : Nat) : Bool :=
  s.delta.ports.any (fun p => p.2.st != .disabled && decide (p.1 ≤ l ∧ l < p.1 + p.2.width))

/-- The Delta port (64: the Twin link) that a lane is a member of (R217). -/
def portOfLane (s : State) (l : Nat) : Option Nat :=
  (s.delta.ports.find? (fun p => p.2.st != .disabled && decide (p.1 ≤ l ∧ l < p.1 + p.2.width))).map (·.1)

/-! ## Link encryption (R239, R240, R432) -/

/-- Key of a link's slot: direction 0 TX, 1 RX (R431). -/
def linkSlotKey (link dir slot : Nat) : Nat := 4 * link + 2 * dir + slot

/-- A key slot of a link. -/
def linkSlot (s : State) (link dir slot : Nat) : LinkSlot := tget s.crypto.linkSlots {} (linkSlotKey link dir slot)

/-- Change a key slot of a link. -/
def modLinkSlot (link dir slot : Nat) (f : LinkSlot → LinkSlot) (s : State) : State :=
  modCrypto s (fun c => { c with linkSlots := tmod c.linkSlots {} (linkSlotKey link dir slot) f })

/-- The 96-bit IV: link salt, lane number, FCTR, high byte first (R239). -/
def frameIv (salt lane fctr : Nat) : List Byte := (leBytes 3 salt).reverse ++ leBytes 1 lane ++ (leBytes 8 fctr).reverse

/-- Additional data of a frame: the headers of blocks 0-71 and the SEAL payload. -/
def frameAad (data : List Block) (sealWord : Nat) : List Byte :=
  leBytes 18 (data.foldr (fun b a => b.header + 4 * a) 0) ++ leBytes 8 sealWord

/-- Payload bytes of blocks. -/
def payloadBytes (l : List Block) : List Byte := l.foldl (fun r b => r ++ leBytes 8 b.payload) []

/-- Blocks with other payload bytes. -/
def withPayload (l : List Block) (p : List Byte) : List Block := l.zipIdx.map (fun (b, i) => { b with payload := leAt p (8 * i) 8 })

/-- Encrypt the 72 blocks of a lane's frame and append the trailer: FCTR rises by 1 with each frame; EV467 REKEY_DUE at 2^48. -/
def sealFrame (link l : Nat) (data : List Block) (s : State) : List Block × State :=
  let sel := (tget s.delta.ports {} link).keysel
  let k := linkSlot s link 0 sel
  let n := k.fctr + 1
  let iv := frameIv k.salt l n
  let enc := withPayload data (Config.gcmPlain k.key iv (payloadBytes data))
  let sw := 0xD5 * 2 ^ 56 + sel % 2 * 2 ^ 55 + n % 2 ^ 48
  let tag := Config.gcmTag k.key iv (frameAad enc sw) (payloadBytes enc)
  let t := modLinkSlot link 0 sel (fun x => { x with fctr := n }) s
  let t := if n = 2 ^ 48 then raiseEvAt (if link < 64 then some (0x20 + link / 4) else some 0x59) 467 3 1 (leBytes 1 link) t else t
  (enc ++ [{ header := 2, payload := sw }, { header := 2, payload := leAt tag 8 8 }, { header := 2, payload := leAt tag 0 8 }], t)

/-- The FCTR a receiver takes a SEAL block's low 48 bits for (R432). -/
def fullFctr (last low : Nat) : Nat := last / 2 ^ 48 * 2 ^ 48 + low + (if low ≤ last % 2 ^ 48 then 2 ^ 48 else 0)

/-- Decrypt a lane's received frame: the payload blocks, none when the tag fails. -/
def openFrame (s : State) (link l : Nat) (fr : List Block) : Option (List Block × Nat × Nat) :=
  let sw := (fr.getD 72 {}).payload
  let sel := bits sw 55 55
  let k := linkSlot s link 1 sel
  let n := fullFctr k.fctr (sw % 2 ^ 48)
  let enc := fr.take 72
  let tag := leBytes 8 (fr.getD 74 {}).payload ++ leBytes 8 (fr.getD 73 {}).payload
  if (fr.getD 72 {}).header = 2 ∧ bits sw 63 56 = 0xD5 ∧ k.key ≠ [] ∧ tag = Config.gcmTag k.key (frameIv k.salt l n) (frameAad enc sw) (payloadBytes enc) then
    some (withPayload enc (Config.gcmPlain k.key (frameIv k.salt l n) (payloadBytes enc)), sel, n)
  else none

/-- Count at a port (R253): 0 TX_FLIT 1 RX_FLIT 2 CRC_ERR 3 BAD_BLOCK 4 REPLAY 5 TAG_FAIL 6 FAR_UNREACH. -/
def portCount (p k n : Nat) (s : State) : State := modDelta s (fun d => { d with ctr := tadd d.ctr (8 * p + k) n })

/-- A link event (quality 0) or a quality event (1) of a lane; Twin lanes raise EV468 (R216). -/
def laneEv (l quality cause sev : Nat) (s : State) : State :=
  if l < 64 then raiseEv (2 * l + quality) cause sev (leBytes 1 l) s else raiseEv 468 cause sev (leBytes 1 (l - 64) ++ leBytes 1 quality) s

/-- A quality event at most once per 1 ms, with the count (Table 5.12). -/
def laneEvLimited (l cause sev : Nat) (s : State) : State :=
  let key := 10000 + 8 * l + cause
  if l < 64 then raiseLimited key msCycles (2 * l + 1) cause sev (leBytes 1 l) s
  else raiseLimited key msCycles 468 cause sev (leBytes 1 (l - 64) ++ leBytes 1 1) s

/-- The receiver leaves UP, or a later state, for an earlier one; locks are lost, the counts of hunting restart (R191, R194). -/
def rxFallTo (l : Nat) (r : RxState) (s : State) : State :=
  let keepBlock := decide (r = .frameHunt)
  let t := modLane l (fun y => { y with rx := r, blockLock := y.blockLock && keepBlock, fecAlign := false }) s
  let t := modPath l (fun p => { p with goodHdr := 0, goodFrames := 0, badFrames := 0, rxRaw := if keepBlock then p.rxRaw else [], hdrWindow := if keepBlock then p.hdrWindow else [] }) t
  endScan l t

/-- The receiver enters UP (R190, R216). -/
def rxUp (l : Nat) (s : State) : State :=
  let t := modLane l (fun y => { y with rx := .up, fecAlign := decide (y.mode = 1 ∨ y.mode = 4 ∨ y.mode = 5), blockLock := true, lastUp := s.tbase.tb }) s
  laneEv l 0 1 0 (modPath l (fun p => { p with goodFrames := 0, badFrames := 0 }) t)

/-- The codes of receiver states in order, for comparisons. -/
def rxAtLeast (l : Lane) (n : Nat) : Bool := decide (n ≤ rxCode l.rx)

/-- The stored or the starting coefficients from which ADAPT_INIT runs (R210). -/
def startCoeffs (l : Lane) : Coeffs := l.stored.getD { ctle := l.ctleStart, ffe := List.replicate 8 0, dfe := List.replicate 12 0 }

end Sys2Proof.Machine
end

