-- ==== Sys2Proof/Machine/LinkOps.lean ====
section
/-! DEFINITION. The port stream of a Delta port: blocks of link flits and of control, what the member lanes send of it, and what their frames bring (section 6.2, R228, R239, Table 4.12). -/

namespace Sys2Proof.Machine
open Sys2Proof

/-! ## Ports -/

/-- Member lanes of a port, in stripe order (R217). -/
def portLanes (s : State) (p : Nat) : List Nat := (List.range (portOf s p).width).map (fun k => p + k)

/-- NI that carries a port's traffic: its lane quad, or the Twin endpoint (R217, section 6.7). -/
def portNi (p : Nat) : Nat := if p < 64 then 0x20 + p / 4 else 0x59

/-- Both ends exchange blocks: the port is in INIT or UP (R219). -/
def streams (s : State) (p : Nat) : Bool := (portOf s p).st == .init || (portOf s p).st == .up

/-! ## Times at the device edge (Table 4.12), in hundredths of a Braid cycle -/

/-- Lane-group cycles from acceptance at the lane-quad NI to the first symbol at the pins, by mode. -/
def txCycles (mode : Nat) : Nat := if mode = 1 then 72 else if mode ≤ 3 then 40 else 80

/-- Lane-group cycles from the last symbol at the pins to delivery at the NI, by mode and, in native mode, the port's width. -/
def rxCycles (mode width : Nat) : Nat := if mode = 1 then (if width = 1 then 196 else 208) else if mode ≤ 3 then 56 else 240

/-- A lane-group cycle is 32 symbol periods: n of them, rounded up. -/
def laneCycles (mode n : Nat) : Nat := (n * 32 * 160000000 + symbolRate mode - 1) / symbolRate mode

/-- Duration of a native block of 66 bits (R228): 0.6 ns. -/
def blockTime : Nat := 96

/-- Whole Braid cycles of a time in hundredths, rounded up (R228). -/
def upCycles (h : Nat) : Nat := (h + 99) / 100

/-! ## Blocks of the port stream (R221 to R224, R247) -/

/-- LEADER bits [63:32] (R223). -/
def leaderHigh (seq lvc ack hops : Nat) : Nat := 0xD1 * 2 ^ 24 + seq % 512 * 2 ^ 15 + lvc % 8 * 2 ^ 12 + ack % 512 * 2 ^ 3 + hops % 8

/-- The CRC of a link flit: LEADER bits [63:32], then the 160 flit bytes (R223). -/
def flitCrc (hi : Nat) (body : List Byte) : Nat := crc32 (leBytes 4 hi ++ body)

/-- A link flit in 21 blocks (R222). -/
def flitBlocks (seq lvc ack hops : Nat) (f : Flit) : List Block :=
  let body := flitBytes f
  let hi := leaderHigh seq lvc ack hops
  { header := 2, payload := hi * 2 ^ 32 + flitCrc hi body } :: (List.range 20).map (fun i => { header := 1, payload := leAt body (8 * i) 8 })

/-- A control block with its CRC8 over bits [63:8] (R224). -/
def crcBlock (hi : Nat) : Block := { header := 2, payload := hi * 256 + crc8 (leBytes 7 hi).reverse }

/-- A LINKCTL block (R224). -/
def linkctlBlock (ack nak ini : Nat) (credit : Nat → Nat) : Block :=
  crcBlock (0xD2 * 2 ^ 48 + ack % 512 * 2 ^ 39 + nak % 2 * 2 ^ 38 + ini % 2 * 2 ^ 37 + (List.range 8).foldl (fun a v => a + credit v % 16 * 2 ^ (5 + 4 * v)) 0)

/-- A HEARTBEAT block (R247). -/
def heartbeatBlock (role mbr seq epoch : Nat) : Block :=
  crcBlock (0xD3 * 2 ^ 48 + role % 4 * 2 ^ 46 + mbr % 2 * 2 ^ 45 + seq % 2 ^ 32 * 2 ^ 8 + epoch % 256)

/-- The CRC8 of a control block is right (R224). -/
def crcBlockOk (b : Block) : Bool := b.payload % 256 == crc8 (leBytes 7 (b.payload / 256)).reverse

/-- A control block of a type. -/
def isType (b : Block) (t : Nat) : Bool := b.header == 2 && bits b.payload 63 56 == t

/-! ## Sending: from the port stream to the lanes -/

/-- Blocks wait in the port stream (section 6.2). -/
def pushBlocks (p : Nat) (l : List Block) (s : State) : State := modPort p (fun x => { x with txStream := x.txStream ++ l.map TxItem.block }) s

/-- WAIT of a head flit grows by what it waited here; VC2 flits too (R228). -/
def waitHead (f : Flit) (n : Nat) : Flit :=
  if f.isHead then { f with pkt := { f.pkt with wait := min 0xFFFF (f.pkt.wait + n) } } else f

/-- Time a flit waits from its acceptance until its LEADER's first symbol at `t`, less the 72 lane-group cycles of Table 4.12 (R180, R228). A replay counts from the same acceptance, so it adds the delay since the transmission before (R227). -/
def sendWait (f : Flit) (t : Nat) : Nat := upCycles (t - (100 * f.at_ + laneCycles 1 (txCycles 1)))

/-- The blocks of a link flit whose LEADER is placed at `t`, with the ACK of this end (R222, R223). -/
def placeFlit (ack t : Nat) (f : LinkFlit) : List Block :=
  flitBlocks f.seq f.lvc ack (if f.flit.isHead then f.flit.pkt.hops else 0) (waitHead f.flit (sendWait f.flit t))

/-- Blocks for the next positions of the port stream: position k of `w` lanes starts at `start` and k / w block times; a flit that is not 72 lane-group cycles old lets IDLE pass. Answers what still waits. -/
def fillStream (ack start w k n : Nat) (l : List TxItem) : List Block × List TxItem :=
  match n with
  | 0 => ([], l)
  | n + 1 =>
    let t := start + blockTime * (k / w)
    let (b, rest) : Block × List TxItem := match l with
      | [] => (idleBlock, [])
      | .block b :: r => (b, r)
      | .flit f :: r =>
        if t < 100 * f.flit.at_ + laneCycles 1 (txCycles 1) then (idleBlock, l)
        else
          match placeFlit ack t f with
          | [] => (idleBlock, r)
          | b :: more => (b, more.map TxItem.block ++ r)
    let (bs, left) := fillStream ack start w (k + 1) n rest
    (b :: bs, left)

/-- Free positions of a frame (section 6.2, R239). -/
def frameRoom (s : State) (p : Nat) : Nat := if (portOf s p).encrypt then 72 else 75

/-- Block k of the port stream goes to stripe position k mod WIDTH: one frame of blocks is dealt to every member lane. -/
def dealFrame (p : Nat) (s : State) : State :=
  let x := portOf s p
  let w := x.width
  let (bs, left) := fillStream ((x.rxSeq + 511) % 512) (100 * s.time) w 0 (frameRoom s p * w) x.txStream
  let t := modPort p (fun y => { y with txStream := left, ackPending := y.ackPending && !(bs.any (fun b => isType b 0xD1)) }) s
  forAll (List.range w) (fun u k => modPath (p + k) (fun z => { z with txBlocks := z.txBlocks ++ (bs.zipIdx.filter (fun e => e.2 % w == k)).map (·.1) }) u) t

/-- A member lane about to send a frame has its share of the port stream (section 6.2). -/
def loadFrame (l : Nat) (s : State) : State :=
  match portOfLane s l with
  | some p => if streams s p ∧ (pathOf s l).txBlocks.isEmpty then dealFrame p s else s
  | none => s

/-! ## Receiving: from the lanes to the port stream -/

/-- Blocks 0 to 74 of a lane's frame, with the time of each block's last symbol, and the mark of an uncorrectable frame (R179). -/
def markBlocks (bad : Bool) (last : Nat) (l : List Block) : List RxBlk :=
  l.zipIdx.map (fun (b, i) => { block := b, bad := bad, at_ := last - blockTime * (79 - i) })

/-- Frames of the member lanes are joined while every lane has one: block i of stripe position k is block i times WIDTH plus k of the port stream. A frame whose last symbol comes more than 8 block times before another lane's has lost its partners (R219). With a frame that is discarded for its tag, kept as a frame of no blocks, the frames joined to it go too (DEDUCED, log entry 93). -/
def gather (p fuel : Nat) (s : State) : State :=
  match fuel with
  | 0 => s
  | n + 1 =>
    let lanes := portLanes s p
    let heads := lanes.filterMap (fun l => (pathOf s l).rxQueue.head?)
    if heads.length ≠ lanes.length ∨ lanes = [] then s
    else
      let late := heads.foldl (fun m h => max m h.1) 0
      let old := lanes.filter (fun l => (pathOf s l).rxQueue.head?.any (fun h => decide (h.1 + 8 * blockTime < late)))
      if old = [] then
        let t := forAll lanes (fun u l => modPath l (fun x => { x with rxQueue := x.rxQueue.drop 1 }) u) s
        let row := fun i => heads.filterMap (fun h => h.2[i]?)
        gather p n (if heads.any (fun h => h.2.isEmpty) then t else modPort p (fun x => { x with rxStream := x.rxStream ++ (List.range (frameRoom s p)).flatMap row }) t)
      else gather p n (forAll old (fun u l => modPath l (fun x => { x with rxQueue := x.rxQueue.drop 1 }) u) s)

/-- A tag fails on a lane: the frame is discarded whole (R239). -/
def tagFail (p l : Nat) (s : State) : State :=
  let t := raiseEvAt (some (portNi p)) 467 1 1 (leBytes 1 p) (portCount p 5 1 s)
  modPath l (fun x => { x with tagFails := x.tagFails + 1 }) t

/-- A lane's descrambled frame reaches the port it is a member of: decrypted where the link is, kept until every member lane has one (R226, R239). -/
def deliverFrame (l last : Nat) (bad : Bool) (fr : List Block) (s : State) : State :=
  match portOfLane s l with
  | none => s
  | some p =>
    let keep := fun (bs : List RxBlk) (u : State) => gather p (u.lanes.paths.length + 1 + (pathOf u l).rxQueue.length) (modPath l (fun x => { x with rxQueue := x.rxQueue ++ [(last, bs)] }) u)
    if ¬ streams s p then s
    else if (portOf s p).encrypt then
      match openFrame s p l fr with
      | some (bs, sel, n) => keep (markBlocks bad last bs) (modPath l (fun x => { x with tagFails := 0 }) (modLinkSlot p 1 sel (fun k => { k with fctr := n }) s))
      | none => keep [] (tagFail p l s)
    else keep (markBlocks bad last fr) s

/-! ## Reading the port stream -/

/-- What stands at the front of a port's received stream is skipped up to a block the link layer reads: IDLE, and blocks the stream does not contain, which are counted (R221). A DATA block outside a link flit is such a block (DEDUCED, log entry 93). -/
def skipStream (twin : Bool) (l : List RxBlk) : Nat × List RxBlk :=
  match l with
  | [] => (0, [])
  | b :: r =>
    if isType b.block 0x1E then skipStream twin r
    else if isType b.block 0xD1 || isType b.block 0xD2 || (twin && isType b.block 0xD3) then (0, b :: r)
    else let (n, q) := skipStream twin r; (n + 1, q)

/-- The front of the received stream is a block the link layer reads, or the stream is empty. -/
def cleanStream (p : Nat) (s : State) : State :=
  let (n, r) := skipStream (p == 64) (portOf s p).rxStream
  let t := modPort p (fun x => { x with rxStream := r }) s
  if n = 0 then t else portCount p 3 n t

/-- A link flit as the stream brings it: its LEADER, its bytes, whether it is whole, and whether a block was marked bad. -/
structure RxLinkFlit where
  leader : Nat := 0
  body : List Byte := []
  whole : Bool := true
  bad : Bool := false
  /-- Last symbols of the LEADER and of the flit, in hundredths of a Braid cycle (R228). -/
  first : Nat := 0
  last : Nat := 0
deriving DecidableEq, Repr

/-- The link flit at the front of a stream and what follows it: a LEADER with 20 DATA blocks, or with fewer when another block stands where a DATA block must; none while blocks are still to come. -/
def takeFlit (l : List RxBlk) : Option (RxLinkFlit × List RxBlk) :=
  match l with
  | [] => none
  | h :: r =>
    let body := (r.take 20).takeWhile (fun b => b.block.header == 1)
    if isType h.block 0xD1 ∧ (body.length = 20 ∨ body.length < r.length) then
      some ({ leader := h.block.payload, body := body.foldl (fun d b => d ++ leBytes 8 b.block.payload) [], whole := body.length == 20, bad := h.bad || body.any (·.bad),
              first := h.at_, last := (body.getLast?.getD h).at_ }, r.drop body.length)
    else none

/-- The flit's CRC is right (R223). -/
def RxLinkFlit.crcOk (f : RxLinkFlit) : Bool := f.leader % 2 ^ 32 == flitCrc (f.leader / 2 ^ 32) f.body

/-- LEADER fields (R223). -/
def RxLinkFlit.seq (f : RxLinkFlit) : Nat := bits f.leader 55 47
/-- The Delta virtual channel. -/
def RxLinkFlit.lvc (f : RxLinkFlit) : Nat := bits f.leader 46 44
/-- The far end's acknowledgement. -/
def RxLinkFlit.ack (f : RxLinkFlit) : Nat := bits f.leader 43 35
/-- Links crossed before this one. -/
def RxLinkFlit.hops (f : RxLinkFlit) : Nat := bits f.leader 34 32

/-- The packet a head flit's control field names (Table 3.5), with the payload the head carries itself. -/
def headPacket (hops pid : Nat) (body : List Byte) : Packet :=
  let c := leAt body 0 32
  let op := opOf (bits c 154 151)
  let vc := bits c 253 252
  let len := bits c 150 141
  let own := if op = .atom then 24 else if op = .rsp then 8 else len
  { pid := pid, vc := vc, dst := bits c 251 244, src := bits c 243 236, far := bit c 235, farId := bits c 234 221, srcDev := bits c 220 207, urg := bits c 158 155, op := op,
    len := len, addr := bits c 140 93, kid := bits c 92 87, pageHint := bits c 86 85, debug := bit c 81, dma := bit c 82, sealedAttr := bit c 83, tag := bits c 80 73,
    status := statusOf (bits c 72 69), wait := bits c 68 53, flow := bits c 52 41, deadline := bits c 40 9,
    data := if headCarries { op := op, vc := vc, len := len } then (body.drop 32).take own else [], hops := hops }

/-- A flit from its 160 bytes; `at_` and `ageFrom` hold the times of its last symbol and of its LEADER's, in hundredths of a Braid cycle, while it is in the receive buffer. -/
def flitFrom (f : RxLinkFlit) (pid : Nat) : Flit :=
  let c := leAt f.body 0 32
  let kind := bits c 255 254
  let head := decide (kind = 0 ∨ kind = 3)
  { pkt := if head then headPacket f.hops pid f.body else { data := f.body.drop 32 }, idx := if head then 0 else 1, isHead := head, isLast := decide (2 ≤ kind),
    poison := !head && bit c 249, at_ := f.last, ageFrom := f.first }

/-- A received LINKCTL (R224). -/
structure LinkCtl where
  ack : Nat := 0
  nak : Bool := false
  init : Bool := false
  credit : List Nat := []
  crcOk : Bool := true
deriving DecidableEq, Repr

/-- A LINKCTL block's fields. -/
def linkctlOf (b : Block) : LinkCtl :=
  { ack := bits b.payload 55 47, nak := bit b.payload 46, init := bit b.payload 45, credit := (List.range 8).map (fun v => bits b.payload (16 + 4 * v) (13 + 4 * v)), crcOk := crcBlockOk b }

/-- A received HEARTBEAT (R247): ROLE 1 ACTIVE, 2 STANDBY, 3 HANDOVER. -/
structure Heartbeat where
  role : Nat := 1
  member : Nat := 0
  seq : Nat := 0
  epoch : Nat := 0
  crcOk : Bool := true
deriving DecidableEq, Repr

/-- A HEARTBEAT block's fields. -/
def heartbeatOf (b : Block) : Heartbeat :=
  { role := bits b.payload 55 54, member := bits b.payload 53 53, seq := bits b.payload 47 16, epoch := bits b.payload 15 8, crcOk := crcBlockOk b }

/-- The block of a type at the front of a port's stream, taken from it. -/
def takeBlock (p t : Nat) (s : State) : Option (Block × State) :=
  let u := cleanStream p s
  match (portOf u p).rxStream with
  | b :: r => if isType b.block t then some (b.block, modPort p (fun x => { x with rxStream := r }) u) else none
  | [] => none

end Sys2Proof.Machine
end

