-- ==== Sys2Proof/Machine/Lanes.lean ====
section
/-! DEFINITION. Steps of the high-speed lanes and the Twin lanes (chapter 05). -/

namespace Sys2Proof.Machine
open Sys2Proof

/-! ## PLLs (R189) -/

/-- The lane's PLL runs at its mode: the transmitter starts, the receiver waits for a signal, LANE_SET_MODE is done (R189, R190). -/
def lanePllReady (l : Nat) (s : State) : State :=
  let y := laneOf s l
  if y.rx = .pllWait then
    let p := pathOf s l
    let t := modLane l (fun x => { x with rx := .signalWait }) s
    let t := modPath l (fun x => { x with transmitting := decide (y.pwr = .active ∨ p.moving = some .active), setJob := none, preTx := if p.transmitting then x.preTx else 0, txGroup := if p.transmitting then x.txGroup else [], txCw := if p.transmitting then x.txCw else 0 }) t
    endJob? p.setJob rcDone [] t
  else s

/-- LANE_PLL_LOCK. -/
def lanePllLock (q : Nat) (s : State) : State :=
  match pllSt s q with
  | .starting m => forAll (quadLanes q) (fun t l => if (laneOf t l).mode = m then lanePllReady l t else t) (setPll q (.locked m) s)
  | _ => s

/-- LANE_PLL_LOCK. -/
def execLanePllLock (q : Nat) (s : State) : Host.Outcome State Fault Refusal := .next (lanePllLock q s)

/-- PLL_LOCK_TIMEOUT: the PLL has not locked within 150 µs: EV445 with TIMEOUT, the lane stays in electrical idle (R189, R191). -/
def pllLockTimeout (q : Nat) (s : State) : State :=
  match pllSt s q with
  | .starting _ =>
    forAll (quadLanes q) (fun t l =>
      if (laneOf t l).rx = .pllWait then
        let j := (pathOf t l).setJob
        endJob? j rcTimeout [] (modPath l (fun p => { p with setJob := none, transmitting := false }) (modLane l (fun y => { y with lockLoss := min (y.lockLoss + 1) 0xFFFFFFFF }) t))
      else t) (setPll q .off s)
  | _ => s

/-- PLL_LOCK_TIMEOUT. -/
def execPllLockTimeout (q : Nat) (s : State) : Host.Outcome State Fault Refusal := .next (pllLockTimeout q s)

/-- PLL_UNLOCK: the quad PLL has lost lock: every lane of the quad with a mode raises PLL_UNLOCK (Table 5.12) and waits for it again. -/
def pllUnlock (q : Nat) (s : State) : State :=
  match pllSt s q with
  | .locked m =>
    forAll (quadLanes q) (fun t l =>
      if (laneOf t l).mode ≠ 0 then
        let t := laneEv l 0 6 2 t
        if rxAtLeast (laneOf t l) 2 then modPath l (fun p => { p with transmitting := false }) (rxFallTo l .pllWait t) else t
      else t) (setPll q (.starting m) s)
  | _ => s

/-- PLL_UNLOCK. -/
def execPllUnlock (q : Nat) (s : State) : Host.Outcome State Fault Refusal := .next (pllUnlock q s)

/-! ## The receiver (Table 5.6, R191) -/

/-- ENERGY_DETECTED: energy for 10 µs in SIGNAL_WAIT. -/
def energyDetected (l : Nat) (s : State) : State :=
  if (laneOf s l).rx = .signalWait then modLane l (fun y => { y with rx := .cdrAcq, energy := true }) s else s

/-- ENERGY_DETECTED. -/
def execEnergyDetected (l : Nat) (s : State) : Host.Outcome State Fault Refusal := .next (energyDetected l s)

/-- CDR_LOCK: adaptation starts from the stored or the starting coefficients. -/
def cdrLock (l : Nat) (s : State) : State :=
  if (laneOf s l).rx = .cdrAcq then modLane l (fun y => { y with rx := .adaptInit, coeffs := startCoeffs y }) s else s

/-- CDR_LOCK. -/
def execCdrLock (l : Nat) (s : State) : Host.Outcome State Fault Refusal := .next (cdrLock l s)

/-- EQUALIZER_CONVERGED. -/
def equalizerConverged (l : Nat) (c : Coeffs) (s : State) : State :=
  if (laneOf s l).rx = .adaptInit then modPath l (fun p => { p with goodHdr := 0 }) (modLane l (fun y => { y with rx := .lockHunt, coeffs := c }) s) else s

/-- EQUALIZER_CONVERGED. -/
def execEqualizerConverged (l : Nat) (c : Coeffs) (s : State) : Host.Outcome State Fault Refusal := .next (equalizerConverged l c s)

/-- BLOCK_LOCK: 128 consecutive valid headers in modes 1 to 3, alignment-marker lock in modes 4 and 5, at the start of a codeword that opens with markers (R190, R192; log entry 91). -/
def blockLock (l : Nat) (s : State) : State :=
  let y := laneOf s l
  if y.rx = .lockHunt ∧ (4 ≤ y.mode ∨ 128 ≤ (pathOf s l).goodHdr) then
    let t := modPath l (fun p => { p with hdrWindow := [], goodFrames := 0, badFrames := 0, rxRaw := if 4 ≤ y.mode then [] else p.rxRaw, rxCw := 0 }) s
    if y.mode = 1 then modLane l (fun x => { x with rx := .frameHunt, blockLock := true }) t else rxUp l t
  else s

/-- BLOCK_LOCK. -/
def execBlockLock (l : Nat) (s : State) : Host.Outcome State Fault Refusal := .next (blockLock l s)

/-- FRAME_LOCK: 4 consecutive valid frames (R193). -/
def frameLock (l : Nat) (s : State) : State :=
  if (laneOf s l).rx = .frameHunt ∧ 4 ≤ (pathOf s l).goodFrames then rxUp l s else s

/-- FRAME_LOCK. -/
def execFrameLock (l : Nat) (s : State) : Host.Outcome State Fault Refusal := .next (frameLock l s)

/-- One more lock loss (R191). -/
def countLockLoss (l : Nat) (s : State) : State := modLane l (fun y => { y with lockLoss := min (y.lockLoss + 1) 0xFFFFFFFF }) s

/-- RX_BOUND_EXPIRY: the bound of a state has failed: the receiver starts the state again (R191). -/
def rxBoundExpiry (l : Nat) (s : State) : State :=
  let r := (laneOf s l).rx
  if r = .cdrAcq ∨ r = .adaptInit ∨ r = .lockHunt ∨ r = .frameHunt then
    let t := countLockLoss l (modPath l (fun p => { p with goodHdr := 0, goodFrames := 0, badFrames := 0 }) s)
    if r = .adaptInit then modLane l (fun y => { y with coeffs := startCoeffs y }) t else t
  else s

/-- RX_BOUND_EXPIRY. -/
def execRxBoundExpiry (l : Nat) (s : State) : Host.Outcome State Fault Refusal := .next (rxBoundExpiry l s)

/-- A loss that sends the receiver back to a state, with the event's cause when it leaves UP (R191, Table 5.12). -/
def rxLoss (l cause : Nat) (r : RxState) (s : State) : State :=
  let t := if (laneOf s l).rx = .up then laneEv l 0 cause 1 s else s
  rxFallTo l r t

/-- ENERGY_LOSS: no energy for 1 µs (R191). -/
def energyLoss (l : Nat) (s : State) : State :=
  let t := modLane l (fun y => { y with energy := false }) s
  if rxAtLeast (laneOf s l) 3 then rxLoss l 2 .signalWait t else t

/-- ENERGY_LOSS. -/
def execEnergyLoss (l : Nat) (s : State) : Host.Outcome State Fault Refusal := .next (energyLoss l s)

/-- CDR_LOSS (R191). -/
def cdrLoss (l : Nat) (s : State) : State := if rxAtLeast (laneOf s l) 4 then rxLoss l 3 .cdrAcq (countLockLoss l s) else s

/-- CDR_LOSS. -/
def execCdrLoss (l : Nat) (s : State) : Host.Outcome State Fault Refusal := .next (cdrLoss l s)

/-- BLOCK_LOCK_LOSS: 24 invalid headers within 256 blocks, or loss of alignment-marker lock (R191, R192). -/
def blockLockLoss (l : Nat) (s : State) : State :=
  let y := laneOf s l
  if rxAtLeast y 6 ∧ (4 ≤ y.mode ∨ 24 ≤ ((pathOf s l).hdrWindow.filter (fun v => !v)).length) then rxLoss l 4 .lockHunt (countLockLoss l s) else s

/-- BLOCK_LOCK_LOSS. -/
def execBlockLockLoss (l : Nat) (s : State) : Host.Outcome State Fault Refusal := .next (blockLockLoss l s)

/-- FRAME_LOCK_LOSS: 4 consecutive invalid frames in UP (R193). -/
def frameLockLoss (l : Nat) (s : State) : State :=
  let y := laneOf s l
  if y.rx = .up ∧ y.mode = 1 ∧ 4 ≤ (pathOf s l).badFrames then rxLoss l 5 .frameHunt (countLockLoss l s) else s

/-- FRAME_LOCK_LOSS. -/
def execFrameLockLoss (l : Nat) (s : State) : Host.Outcome State Fault Refusal := .next (frameLockLoss l s)

/-! ## Bits received -/

/-- Bits of a native frame (R175). -/
def frameBits : Nat := 5280

/-- Headers seen: the last 256 of the states after LOCK_HUNT, and the invalid ones counted (R192, Table 5.10). -/
def seeHeaders (l : Nat) (bs : List Block) (s : State) : State :=
  let t := modPath l (fun p => { p with hdrWindow := bs.foldl (fun w b => (hdrValid b :: w).take 256) p.hdrWindow }) s
  modLane l (fun y => { y with hdrErr := min (y.hdrErr + (bs.filter (fun b => !(hdrValid b))).length) 0xFFFFFFFF }) t

/-- Symbols corrected and frames or codewords that could not be (Table 5.10, R179). -/
def fecSee (l corrected uncorrectable : Nat) (s : State) : State :=
  let t := modLane l (fun y => { y with fecCorr := min (y.fecCorr + corrected) 0xFFFFFFFF, fecUncorr := min (y.fecUncorr + uncorrectable) 0xFFFFFFFF }) s
  let t := modPath l (fun p => { p with corrWin := p.corrWin + corrected }) t
  if uncorrectable = 0 then t else laneEvLimited l 3 2 t

/-- Take n bits off the front of what a lane has received. -/
def dropBits (l n : Nat) (s : State) : State := modPath l (fun p => { p with rxRaw := p.rxRaw.drop n }) s

/-- The PRBS31 checker: its first 31 bits set it, every later one is compared (R598; DESIGN CHOICE, log entry 94). -/
def prbsSee (bs : List Bool) (p : LanePath) : LanePath :=
  bs.foldl (fun q b =>
    if q.prbsHave < 31 then { q with prbsRx := (2 * q.prbsRx + b2n b) % 2 ^ 31, prbsHave := q.prbsHave + 1 }
    else
      let (e, m) := prbsBit q.prbsRx
      { q with prbsRx := m, prbsBits := q.prbsBits + 1, prbsErr := q.prbsErr + b2n (e != b) }) p

/-- Symbols at a receiver: its own transmitter's in NEAR loopback; FAR sends them on after the CDR (R598). Polarity, precoding and the Gray map give the bits. -/
def lineIn (l : Nat) (syms : List Nat) (s : State) : State :=
  let p := pathOf s l
  let (bs, m) := laneBits (laneOf s l) p.preRx (if p.loopMode = 1 then p.lastSymbols else syms)
  modPath l (fun x =>
    let y := { x with preRx := m, lastSymbols := if x.loopMode = 2 then syms else x.lastSymbols }
    if x.prbs then prbsSee bs y else { y with rxRaw := y.rxRaw ++ bs }) s

/-- One header in LOCK_HUNT of modes 1 to 3: a valid one counts, an invalid one slips the block boundary by one bit and restarts the count. The descrambler runs over what it hears (R192, R201). -/
def huntBlock (l : Nat) (s : State) : State :=
  let p := pathOf s l
  let b := bitsBlock p.rxRaw
  if hdrValid b then dropBits l 66 (modPath l (fun x => { x with goodHdr := x.goodHdr + 1, scrRx := (runBlock descrBit x.scrRx b).2 }) s)
  else dropBits l 1 (seeHeaders l [b] (modPath l (fun x => { x with goodHdr := 0 }) s))

/-- The 80 blocks at the front of a lane's bits. -/
def frontFrame (p : LanePath) : List Block := (chunks 66 80 p.rxRaw).map bitsBlock

/-- A native frame is valid: the check blocks' headers are 0b10 and the decoder finds no more than 16 symbol errors (R193). -/
def frameValid (fr : List Block) : Bool := (fr.drop 75).all (fun b => b.header == 2) && (frameDecode fr).isSome

/-- Blocks 0 to 74 of a frame as the receiver delivers them: corrected, or as they came when they cannot be; descrambled; with the descrambler's memory (R176, R179). -/
def openBlocks (m : Nat) (fr : List Block) : List Block × Nat :=
  runBlocks descrBit m (match frameDecode fr with
    | some (bs, _) => bs
    | none => fr.take 75)

/-- Time of the last symbol of the frame at the front, in hundredths of a Braid cycle, with `left` bits received after it. -/
def frameEnd (s : State) (left : Nat) : Nat := 100 * s.time - left * blockTime / 66

/-- One candidate in FRAME_HUNT: after an invalid one the candidate moves forward by one block (R193). -/
def huntFrame (l : Nat) (s : State) : State :=
  let p := pathOf s l
  let fr := frontFrame p
  if frameValid fr then
    dropBits l frameBits (seeHeaders l fr (modPath l (fun x => { x with goodFrames := x.goodFrames + 1, scrRx := (openBlocks x.scrRx fr).2, lastFrame := frameEnd s (x.rxRaw.length - frameBits) }) s))
  else dropBits l 66 (seeHeaders l (fr.take 1) (modPath l (fun x => { x with goodFrames := 0 }) s))

/-- One frame in UP: counted, delivered to the Delta logic with its 75 blocks marked bad when the decoder could not correct it; a loopback delivers nothing (R179, R193, R598). -/
def upFrame (l : Nat) (s : State) : State :=
  let p := pathOf s l
  let fr := frontFrame p
  let (bs, m) := openBlocks p.scrRx fr
  let last := frameEnd s (p.rxRaw.length - frameBits)
  let t := modPath l (fun x => { x with badFrames := if frameValid fr then 0 else x.badFrames + 1, scrRx := m, lastFrame := last }) (seeHeaders l fr s)
  let t := dropBits l frameBits (match frameDecode fr with
    | some (_, n) => fecSee l n 0 t
    | none => fecSee l 0 1 t)
  if p.loopMode = 0 then deliverFrame l last (frameDecode fr).isNone bs t else t

/-- Take what a native lane has received as far as it goes (R190 to R194). -/
def nativeBits (l fuel : Nat) (s : State) : State :=
  match fuel with
  | 0 => s
  | n + 1 =>
    let have_ := (pathOf s l).rxRaw.length
    match (laneOf s l).rx with
    | .lockHunt => if 66 ≤ have_ then nativeBits l n (huntBlock l s) else s
    | .frameHunt => if frameBits ≤ have_ then nativeBits l n (huntFrame l s) else s
    | .up => if frameBits ≤ have_ then nativeBits l n (upFrame l s) else s
    | _ => s

/-- NATIVE_FRAME_RECEIVE: symbols of a native lane arrive: block lock, frame lock, FEC, descrambling, delivery to the Delta logic (R176 to R179, R181, R182, R192 to R194). A receiver before LOCK_HUNT recovers nothing. -/
def nativeFrameReceive (l : Nat) (syms : List Nat) (s : State) : State :=
  let y := laneOf s l
  if y.mode = 1 ∧ rxAtLeast y 5 then
    let t := lineIn l syms s
    nativeBits l ((pathOf t l).rxRaw.length + 1) t
  else s

/-- NATIVE_FRAME_RECEIVE. -/
def execNativeFrameReceive (l : Nat) (syms : List Nat) (s : State) : Host.Outcome State Fault Refusal := .next (nativeFrameReceive l syms s)

/-- A lane's transmitter sends: it has started, and an HS lane's member is not fenced (R189, Table 6.12). -/
def sends (s : State) (l : Nat) : Bool := (pathOf s l).transmitting && !(decide (l < 64) && s.twin.role == .fenced)

/-- Bits leave by the mapper and the precoder (R181, R182). -/
def lineOut (l : Nat) (bs : List Bool) (s : State) : State :=
  let (syms, q) := laneSymbols (laneOf s l) (pathOf s l).preTx bs
  modPath l (fun x => { x with preTx := q, lastSymbols := syms }) s

/-- PRBS31 leaves in place of data (R598). -/
def sendPrbs (l n : Nat) (s : State) : State :=
  let (bs, m) := prbsBitsOf n (pathOf s l).prbsTx
  lineOut l bs (modPath l (fun x => { x with prbsTx := m }) s)

/-- NATIVE_FRAME_TRANSMIT: the lane's share of the port stream, IDLE where there is none, scrambled, with its check blocks, mapped and precoded (R175 to R182). -/
def nativeFrameTransmit (l : Nat) (s : State) : State :=
  if (laneOf s l).mode = 1 ∧ sends s l ∧ (pathOf s l).loopMode ≠ 2 then
    if (pathOf s l).prbs then sendPrbs l frameBits s
    else
      let s := loadFrame l s
      let p := pathOf s l
      let link := (portOfLane s l).filter (fun x => (tget s.delta.ports {} x).encrypt)
      let n := if link.isSome then 72 else 75
      let plain := (p.txBlocks ++ List.replicate 75 idleBlock).take n
      let (data, s) := match link with
        | some x => sealFrame x l plain s
        | none => (plain, s)
      let (sc, m) := runBlocks scrBit p.scrTx data
      lineOut l ((sc ++ checkBlocks sc).foldl (fun b x => b ++ blockBits x) []) (modPath l (fun x => { x with txBlocks := x.txBlocks.drop n, scrTx := m }) s)
  else s

/-- NATIVE_FRAME_TRANSMIT. -/
def execNativeFrameTransmit (l : Nat) (s : State) : Host.Outcome State Fault Refusal := .next (nativeFrameTransmit l s)

/-! ## The Pass block stream (R201 to R205) -/

/-- Bits of the 4 KiB receive buffer. -/
def streamBits : Nat := 32768

/-- Put a record into the receive stream; a full buffer loses its oldest 8 records (R203, R204). -/
def pushRecord (l : Nat) (b : Block) (s : State) : State :=
  let p := pathOf s l
  if streamBits < p.rxBits.length + 65 then
    let t := modPath l (fun x => { x with rxBits := x.rxBits.drop 520 ++ recordBits b, rxBitsOff := x.rxBitsOff + 65 }) s
    laneEvLimited l 4 2 (modLane l (fun y => { y with rxDrop := min (y.rxDrop + 8) 0xFFFFFFFF }) t)
  else modPath l (fun x => { x with rxBits := x.rxBits ++ recordBits b }) s

/-- A block becomes a record, or an error record (R201, R202); a loopback delivers nothing (R598). -/
def passRecord (l : Nat) (bad : Bool) (b : Block) (s : State) : State :=
  if (pathOf s l).loopMode ≠ 0 then s else pushRecord l (if bad || !(hdrValid b) then { header := 2, payload := errorPayload } else b) s

/-- One block of modes 2 and 3 in UP. -/
def upBlock (l : Nat) (s : State) : State :=
  let p := pathOf s l
  let b := bitsBlock p.rxRaw
  let (d, m) := if (laneOf s l).scramble then runBlock descrBit p.scrRx b else (b, p.scrRx)
  dropBits l 66 (passRecord l false d (modPath l (fun x => { x with scrRx := m }) (seeHeaders l [b] s)))

/-- Bits of a codeword of modes 4 and 5: 544 symbols of 10 bits. -/
def cwBits : Nat := 5440

/-- One codeword of modes 4 and 5 in UP: corrected, its markers removed, descrambled, transcoded back (R173, R201). -/
def upCodeword (l : Nat) (s : State) : State :=
  let y := laneOf s l
  let p := pathOf s l
  let (bs, n, m) := codewordBlocks y.mode p.rxCw y.scramble p.scrRx (p.rxRaw.take cwBits)
  let t := modPath l (fun x => { x with scrRx := m, rxCw := x.rxCw + 1 }) s
  let t := dropBits l cwBits (match n with
    | some k => fecSee l k 0 (seeHeaders l bs t)
    | none => fecSee l 0 1 t)
  forAll bs (fun u b => passRecord l n.isNone b u) t

/-- Take what a Pass lane has received as far as it goes. Before alignment-marker lock modes 4 and 5 keep nothing. -/
def passBits (l fuel : Nat) (s : State) : State :=
  match fuel with
  | 0 => s
  | n + 1 =>
    let y := laneOf s l
    let have_ := (pathOf s l).rxRaw.length
    match y.rx with
    | .lockHunt => if 4 ≤ y.mode then dropBits l have_ s else if 66 ≤ have_ then passBits l n (huntBlock l s) else s
    | .up => if 4 ≤ y.mode then (if cwBits ≤ have_ then passBits l n (upCodeword l s) else s) else if 66 ≤ have_ then passBits l n (upBlock l s) else s
    | _ => s

/-- PASS_BLOCK_RECEIVE: symbols of a Pass lane arrive (R173, R181, R182, R192, R194, R201, R202, R204). -/
def passBlockReceive (l : Nat) (syms : List Nat) (s : State) : State :=
  let y := laneOf s l
  if 2 ≤ y.mode ∧ rxAtLeast y 5 then
    let t := lineIn l syms s
    passBits l ((pathOf t l).rxRaw.length + 1) t
  else s

/-- PASS_BLOCK_RECEIVE. -/
def execPassBlockReceive (l : Nat) (syms : List Nat) (_note1 _note2 : Unit) (s : State) : Host.Outcome State Fault Refusal := .next (passBlockReceive l syms s)

/-- Base of the reach window an endpoint answers (Table 1.8). -/
def reachBase (ep : Nat) : Option Nat :=
  if 0x30 ≤ ep ∧ ep < 0x40 then some (0x10000000000 + (ep - 0x30) * 0x1000000000)
  else if 0x60 ≤ ep ∧ ep < 0x70 then some (0x10800000000 + (ep - 0x60) * 0x1000000000)
  else none

/-- The wrap of the stream offset in addresses (R203). -/
def streamWrap : Nat := 65 * 2 ^ 28

/-- Bytes of a bit list, least significant bit first. -/
def bitsBytes (n : Nat) (l : List Bool) : List Byte := (List.range n).map (fun i => BitVec.ofNat 8 (bitsNum ((l.drop (8 * i)).take 8)))

/-- PASS_STREAM_SEND: a WRP of 1 to 128 bytes of the stream on RX_FLOW, or best-effort to RX_DST; a full release queue holds it back (R139, R203). -/
def passStreamSend (l n : Nat) (s : State) : State :=
  let y := laneOf s l
  let p := pathOf s l
  let off := p.rxBitsOff % streamWrap
  if 2 ≤ y.mode ∧ l < 64 ∧ 1 ≤ n ∧ n ≤ 128 ∧ 8 * n ≤ p.rxBits.length ∧ off + n ≤ streamWrap then
    let ep := 0x20 + l / 4
    let data := bitsBytes n p.rxBits
    let t := modPath l (fun x => { x with rxBits := x.rxBits.drop (8 * n), rxBitsOff := x.rxBitsOff + n }) s
    if y.rxFlow = 0 then
      match reachBase y.rxDst with
      | some b => (presentReq ep (l % 4) { op := .wrp, addr := b + off, len := n, data := data } t).2
      | none => discardAtNi ep { src := ep, dst := y.rxDst, op := .wrp } t
    else if 4 ≤ (s.sluice.queue.filter (fun x => x.ep == ep && x.flow == y.rxFlow)).length then s
    else
      let base := match flowAt s.sluice.committed ep y.rxFlow with
        | some f => (reachBase f.dst).getD 0
        | none => 0
      presentFlit ep y.rxFlow (base + off) data false none t
  else s

/-- PASS_STREAM_SEND. -/
def execPassStreamSend (l n : Nat) (s : State) : Host.Outcome State Fault Refusal := .next (passStreamSend l n s)

/-- TX_STREAM_WRITE: bytes of TX_SRC are appended in arrival order; a write that would overflow 4 KiB is discarded (R205, R117). The STATUS of a non-posted write so discarded is not stated: a free value among OK, DENIED and DECODE, which a lane quad produces (Table 3.11). -/
def txStreamWrite (pid : Nat) (s : State) : State :=
  match inboxAny s pid with
  | none => s
  | some d =>
    let o := d.pkt.addr % 0x200000
    if 0x20 ≤ d.ep ∧ d.ep < 0x30 ∧ d.pkt.addr < 0x10000000 ∧ 0x100000 ≤ o ∧ d.pkt.op ≠ .rd then
      let l := 4 * (d.ep - 0x20) + (o - 0x100000) / 0x40000
      let y := laneOf s l
      if y.mode < 2 ∨ d.pkt.far ∨ d.pkt.src ≠ y.txSrc then respondInbox d 10 .denied [] s
      else if streamBits < (pathOf s l).txBits.length + 8 * d.pkt.data.length then
        (if nonPosted d.pkt.op then
          let (n, t) := freshNat s
          respondInbox d 10 (statusOf ([0, 4, 5].getD (n % 3) 0)) [] t
         else discardAtNi d.ep d.pkt (inboxDrop pid s))
      else respondInbox d 10 .ok [] (modPath l (fun p => { p with txBits := p.txBits ++ d.pkt.data.foldl (fun b x => b ++ lsbBits 8 x.toNat) [] }) s)
    else s

/-- TX_STREAM_WRITE. -/
def execTxStreamWrite (pid : Nat) (s : State) : Host.Outcome State Fault Refusal := .next (txStreamWrite pid s)

/-- An IDLE block of a Pass lane: its type is the first payload byte sent, where a 64b/66b block has it (R177, R205; DEDUCED, log entry 16). -/
def passIdle : Block := { header := 2, payload := 0x1E }

/-- The codeword of modes 4 and 5 whose blocks are complete leaves (R173). -/
def sendCodeword (l : Nat) (s : State) : State :=
  let y := laneOf s l
  let p := pathOf s l
  if p.txGroup.length < groupSize y.mode p.txCw then s
  else
    let (bs, m) := codewordBits y.mode p.txCw y.scramble p.scrTx p.txGroup
    lineOut l bs (modPath l (fun q => { q with txGroup := [], txCw := q.txCw + 1, scrTx := m }) s)

/-- PASS_BLOCK_TRANSMIT: at a block time the next whole record, or IDLE (R205): scrambled and sent in modes 2 and 3, gathered into its codeword in modes 4 and 5. -/
def passBlockTransmit (l : Nat) (s : State) : State :=
  let y := laneOf s l
  let p := pathOf s l
  if 2 ≤ y.mode ∧ sends s l ∧ p.loopMode ≠ 2 then
    if p.prbs then sendPrbs l 66 s
    else
      let have_ := decide (65 ≤ p.txBits.length)
      let b : Block := if have_ then { header := if p.txBits.headD false then 2 else 1, payload := bitsNum ((p.txBits.drop 1).take 64) } else passIdle
      let t := modPath l (fun q => { q with txBits := if have_ then q.txBits.drop 65 else q.txBits }) s
      if 4 ≤ y.mode then sendCodeword l (modPath l (fun q => { q with txGroup := q.txGroup ++ [b] }) t)
      else
        let (x, m) := if y.scramble then runBlock scrBit p.scrTx b else (b, p.scrTx)
        lineOut l (blockBits x) (modPath l (fun q => { q with scrTx := m }) t)
  else s

/-- PASS_BLOCK_TRANSMIT. -/
def execPassBlockTransmit (l : Nat) (s : State) : Host.Outcome State Fault Refusal := .next (passBlockTransmit l s)

/-! ## Settings, adaptation, quality (R184, R195 to R200, R211) -/

/-- TX_SETTINGS_APPLY: at a frame or block boundary of a lane with a mode (R184). -/
def txSettingsApply (l : Nat) (s : State) : State :=
  let y := laneOf s l
  match y.nextTx with
  | some x => if y.mode ≠ 0 ∧ y.pwr ≠ .unset then modLane l (fun z => { z with tx := x, nextTx := none }) s else s
  | none => s

/-- TX_SETTINGS_APPLY. -/
def execTxSettingsApply (l : Nat) (s : State) : Host.Outcome State Fault Refusal := .next (txSettingsApply l s)

/-- Sum of the absolute differences of two coefficient lists of a length. -/
def coeffDist (n : Nat) (a b : List Int) : Nat := ((List.range n).map (fun i => (a.getD i 0 - b.getD i 0).natAbs)).foldl (· + ·) 0

/-- A trial is one the rules of R196 admit: one FFE or DFE coefficient by one least significant bit; a CTLE move is one code, with an FFE update. -/
def trialOk (c : Coeffs) (t : Trial) : Bool :=
  let f := coeffDist 8 c.ffe t.coeffs.ffe
  let d := coeffDist 12 c.dfe t.coeffs.dfe
  f + d == 1 && (if t.movesCtle then f == 1 && (c.ctle == t.coeffs.ctle + 1 || t.coeffs.ctle == c.ctle + 1) else c.ctle == t.coeffs.ctle)

/-- 100 µs have passed since an instant. -/
def since100 (s : State) (t : Option Nat) : Bool :=
  match t with
  | some x => decide (x + 100 * usCycles ≤ s.time)
  | none => true

/-- MARGIN takes a new value; below MARGIN_WARN the quality event, at most once per 1 ms (R195, R198). -/
def setMargin (l margin : Nat) (s : State) : State :=
  let m := min margin 255
  let t := modLane l (fun z => { z with margin := m }) s
  if (laneOf s l).marginWarn ≠ 0 ∧ m < (laneOf s l).marginWarn then laneEvLimited l 1 1 t else t

/-- A trial shows MARGIN falling: it says so, or in UP its MARGIN is below the present one (R196). -/
def trialFell (y : Lane) (t : Trial) : Bool := t.marginFell || (y.rx == .up && decide (t.newMargin < y.margin))

/-- ADAPTATION_UPDATE: a trial of 10 µs is applied (R196); a scan freezes adaptation (R200). -/
def adaptationUpdate (l : Nat) (t : Trial) (s : State) : State :=
  let y := laneOf s l
  let p := pathOf s l
  let near := decide (t.newMargin ≤ y.margin + 1 ∧ y.margin ≤ t.newMargin + 1)
  if rxAtLeast y 4 ∧ ¬ y.frozen ∧ trialOk y.coeffs t ∧ (¬ trialFell y t ∨ since100 s p.lastLowered) ∧ (¬ t.movesCtle ∨ (since100 s p.lastCtle ∧ near)) then
    let u := modLane l (fun z => { z with coeffs := t.coeffs }) s
    let u := if y.rx = .up then setMargin l t.newMargin u else u
    modPath l (fun q => { q with lastLowered := if trialFell y t then some s.time else q.lastLowered, lastCtle := if t.movesCtle then some s.time else q.lastCtle }) u
  else s

/-- ADAPTATION_UPDATE. -/
def execAdaptationUpdate (l : Nat) (t : Trial) (s : State) : Host.Outcome State Fault Refusal := .next (adaptationUpdate l t s)

/-- MARGIN_REFRESH: every 20 µs in UP; MARGIN_LOW at most once per 1 ms (R195, R198). -/
def marginRefresh (l margin : Nat) (s : State) : State :=
  if (laneOf s l).rx = .up then setMargin l margin s else s

/-- MARGIN_REFRESH. -/
def execMarginRefresh (l margin : Nat) (s : State) : Host.Outcome State Fault Refusal := .next (marginRefresh l margin s)

/-- CORR_WINDOW_END: the 1 ms window of corrected symbols ends (Table 5.12). -/
def corrWindowEnd (l : Nat) (s : State) : State :=
  let y := laneOf s l
  let n := (pathOf s l).corrWin
  let t := modPath l (fun p => { p with corrWin := 0 }) s
  if y.corrWarn ≠ 0 ∧ y.corrWarn < n then laneEv l 1 2 1 t else t

/-- CORR_WINDOW_END. -/
def execCorrWindowEnd (l : Nat) (s : State) : Host.Outcome State Fault Refusal := .next (corrWindowEnd l s)

/-- ENERGY_DETECT: the detector's output rises; in SLACKWATER the quality event (R211). -/
def energyDetect (l : Nat) (s : State) : State :=
  let y := laneOf s l
  if y.pwr = .slackwater ∧ ¬ y.energy then laneEv l 1 5 0 (modLane l (fun z => { z with energy := true }) s) else s

/-- ENERGY_DETECT. -/
def execEnergyDetect (l : Nat) (s : State) : Host.Outcome State Fault Refusal := .next (energyDetect l s)

/-- Number of points of a scan (R587). -/
def scanPoints (c : Scan) : Nat := (maskList 3 c.eyes).length * (c.phMax - c.phMin + 1).toNat * (c.vMax - c.vMin + 1).toNat

/-- EYE_SCAN_DONE: one 16-bit saturating count per point is written at the result address; EV445 with DONE (R199). A write that does not end OK ends the job with FAILED_CHECK (R572). -/
def eyeScanDone (l : Nat) (counts : List Nat) (s : State) : State :=
  match (pathOf s l).scan with
  | none => s
  | some c =>
    let t := modPath l (fun p => { p with scan := none }) (modLane l (fun y => { y with frozen := false }) s)
    let bytes := (List.range (scanPoints c)).foldl (fun b i => b ++ leBytes 2 (min (counts.getD i 0) 0xFFFF)) []
    match hwWrite c.result bytes t with
    | some u => endJob c.job rcDone [] u
    | none => endJob c.job rcFailedCheck [] t

/-- EYE_SCAN_DONE. -/
def execEyeScanDone (l : Nat) (counts : List Nat) (s : State) : Host.Outcome State Fault Refusal := .next (eyeScanDone l counts s)

/-! ## Power states (R208 to R210) -/

/-- The PLL stops when no lane of the quad needs it (Table 5.7). -/
def releasePll (q : Nat) (s : State) : State :=
  if (quadLanes q).any (fun l => (laneOf s l).pwr == .active || (laneOf s l).pwr == .quiet || decide ((pathOf s l).moving = some .active) || decide ((pathOf s l).moving = some .quiet)) then s else setPll q .off s

/-- Start the exit from SLACKWATER: the PLL runs at the lane's mode, the receiver starts over (R210). -/
def wakeLane (l : Nat) (s : State) : State :=
  let q := pllOf l
  let m := (laneOf s l).mode
  let t := modLane l (fun y => { y with rx := .pllWait }) s
  match pllSt s q with
  | .locked n => if n = m then lanePllReady l t else setPll q (.starting m) t
  | .starting n => if n = m then t else setPll q (.starting m) t
  | .off => setPll q (.starting m) t

/-- Start moving a lane to a power state (R209). -/
def moveLane (l : Nat) (p : LanePwr) (s : State) : State :=
  let t := modPath l (fun x => { x with moving := some p }) s
  if (laneOf s l).rx = .off ∧ p ≠ .slackwater then wakeLane l t else t

/-- The lane is in its new power state; entering SLACKWATER it stores the coefficients it has (R210). -/
def laneReached (l : Nat) (p : LanePwr) (s : State) : State :=
  let y := laneOf s l
  let t := modPath l (fun x => { x with moving := none, transmitting := decide (p = .active), preTx := if p = .active && x.transmitting then x.preTx else 0 }) s
  match p with
  | .slackwater =>
    let u := endScan l (modLane l (fun z => { z with pwr := .slackwater, stored := if y.coeffs.ffe = [] then y.stored else some y.coeffs, rx := .off, blockLock := false, fecAlign := false }) t)
    releasePll (pllOf l) u
  | _ => modLane l (fun z => { z with pwr := p }) t

/-- LANE_STATE_REACHED: the state is entered, or the exit of Table 5.7 complete: PLL, CDR and equalizer (R209, R210). -/
def laneStateReached (l : Nat) (s : State) : State :=
  match (pathOf s l).moving with
  | none => s
  | some p =>
    if p = .slackwater ∨ (laneOf s l).pwr ≠ .slackwater ∨ rxAtLeast (laneOf s l) 5 then
      let t := laneReached l p s
      modFerry t (fun f => { f with serving := f.serving.map (fun v => if v.opcode = 0x0203 ∧ v.target = l then { v with waitingFor := 0 } else v) })
    else s

/-- LANE_STATE_REACHED. -/
def execLaneStateReached (l : Nat) (s : State) : Host.Outcome State Fault Refusal := .next (laneStateReached l s)

end Sys2Proof.Machine
end

