-- ==== Sys2Proof/Machine/LaneCmds.lean ====
section
/-! DEFINITION. Lane commands of Headwater: LANE_SET_MODE, LANE_SET_TAPS, LANE_LOAD_SLOT_TABLE, LANE_STATE, LANE_STATUS, LANE_EYE, DIAG_LOOPBACK (chapter 05, R584 to R587, R598). -/

namespace Sys2Proof.Machine
open Sys2Proof

/-- TARGET names a lane (R167). -/
def laneTarget (t : Nat) : Bool := decide (t < 68)

/-! ## LANE_SET_MODE (R168 to R171, R187, R189, Table 5.5) -/

/-- Settings of a slot-table entry. -/
def entrySet (e : SlotEntry) : TxSet :=
  { pre := e.pre, post := e.post, swing := bit e.flags 2, txpre := bit e.flags 0, rxpre := bit e.flags 1, txinv := bit e.flags 3, rxinv := bit e.flags 4 }

/-- The settings LANE_SET_MODE applies, with the starting CTLE code of an entry: none when no entry matches; GEN 0xFF keeps the settings last made, those Headwater holds for a lane whose domain is off (R187, R576). -/
def modeSettings (s : State) (slot gen l : Nat) : Option (TxSet × Option Nat) :=
  if gen = 0xFF then some (if domOn s (laneDomain l) then (laneOf s l).nextTx.getD (laneOf s l).tx else tget s.lanes.stored {} l, none)
  else (s.lanes.slotTable.find? (fun e => e.slot == slot && e.gen == gen && e.lane == l)).map (fun e => (entrySet e, some e.ctleStart))

/-- Fields of the payload are in range (R569, Table 5.5, R169). -/
def modeArgsOk (v : Serving) : Bool :=
  let mode := pay v 0 1
  let gen := pay v 2 1
  decide (1 ≤ mode ∧ mode ≤ 5 ∧ 1 ≤ pay v 1 1 ∧ pay v 1 1 ≤ 31 ∧ (gen ≤ 15 ∨ gen = 0xFF) ∧ pay v 3 1 < 8 ∧ pay v 4 2 ≤ 4095 ∧ pay v 9 1 = 0 ∧ (64 ≤ v.target → mode = 1))

/-- Start a lane in its mode (R189, R190): a transmitter that must wait for its PLL goes to electrical idle. The streams keep what they hold, so that S counts on (R203). -/
def startLane (l job : Nat) (v : Serving) (x : TxSet) (ctle : Option Nat) (s : State) : State :=
  let mode := pay v 0 1
  let y := laneOf s l
  let running := (pathOf s l).transmitting && y.mode == mode && pllSt s (pllOf l) == .locked mode
  let s0 := if y.rx = .up then endScan l s else s
  let t := modLane l (fun z =>
    { z with mode := mode, pwr := .active, rx := .pllWait, blockLock := false, fecAlign := false, tx := if running then z.tx else x, nextTx := if running then some x else none, ctleStart := ctle.getD z.ctleStart, stored := if bit (pay v 3 1) 2 then none else z.stored, coeffs := if bit (pay v 3 1) 2 then {} else z.coeffs, scramble := bit (pay v 3 1) 1, rxFlow := pay v 4 2, rxDst := pay v 6 1, txSrc := pay v 7 1, marginWarn := pay v 8 1, corrWarn := pay v 10 4 }) s0
  let t := modPath l (fun p =>
    { p with setJob := some job, moving := none, goodHdr := 0, goodFrames := 0, badFrames := 0, hdrWindow := [], rxRaw := [], transmitting := running }) t
  wakeLane l t

/-- LANE_SET_MODE after its arguments are found good. The refusals of step 5 of R42 stand in this order: grade, job, receiver UP, port member, quad (DESIGN CHOICE, log entry 88). -/
def setModeBody (v : Serving) (s : State) : Reply × State :=
  let l := v.target
  let mode := pay v 0 1
  let y := laneOf s l
  if ¬ modeArgsOk v then (rc rcBadArg, s)
  else
    match modeSettings s (pay v 1 1) (pay v 2 1) l with
    | none => (rc rcBadArg, s)
    | some (x, ctle) =>
      if ¬ isPam4 mode ∧ (x.txpre ∨ x.rxpre) then (rc rcBadArg, s)
      else if l < 64 ∧ s.dbg.fuses.grade = 2 ∧ (mode = 1 ∨ mode = 5) then (rc rcDenied, s)
      else if jobOn s 0x0200 l then (rc rcBusy, s)
      else if y.rx = .up ∧ ¬ bit (pay v 3 1) 0 then (rc rcBadState, s)
      else if portMember s l then (rc rcConflict, s)
      else if (quadLanes (pllOf l)).any (fun m => m != l && (laneOf s m).mode != 0 && (laneOf s m).mode != mode) then (rc rcConflict, s)
      else
        match wakeFor (laneDomain l) s with
        | none => (rc rcBadState, s)
        | some t =>
          let (j, u) := startJob v l t
          (rc rcAccepted, startLane l j v x ctle u)

/-- LANE_SET_MODE. -/
def laneSetMode (s : State) : State := ferryServe 0x0200 14 laneTarget setModeBody s

/-- LANE_SET_MODE. -/
def execLaneSetMode (s : State) : Host.Outcome State Fault Refusal := .next (laneSetMode s)

/-! ## LANE_SET_TAPS (R182, R183, R188, R576, R584) -/

/-- LANE_SET_TAPS: on a lane with a mode by R184, on an UNSET lane stored for LANE_SET_MODE, for a lane whose domain is off kept by Headwater. -/
def setTapsBody (v : Serving) (s : State) : Reply × State :=
  let l := v.target
  let f := pay v 2 1
  let y := laneOf s l
  let on := domOn s (laneDomain l)
  let old := y.nextTx.getD (if on then y.tx else tget s.lanes.stored {} l)
  let x : TxSet := { old with pre := pay v 0 1, post := pay v 1 1, txpre := bit f 0, rxpre := bit f 1, swing := bit f 2 }
  if 16 < x.pre ∨ 24 < x.post ∨ 8 ≤ f ∨ (y.mode ≠ 0 ∧ ¬ isPam4 y.mode ∧ (x.txpre ∨ x.rxpre)) then (rc rcBadArg, s)
  else if on then (rc rcDone, modLane l (fun z => { z with nextTx := some x }) s)
  else (rc rcDone, modLanes s (fun z => { z with stored := tset z.stored l x }))

/-- LANE_SET_TAPS. -/
def laneSetTaps (s : State) : State := ferryServe 0x0201 3 laneTarget setTapsBody s

/-- LANE_SET_TAPS. -/
def execLaneSetTaps (s : State) : Host.Outcome State Fault Refusal := .next (laneSetTaps s)

/-! ## LANE_LOAD_SLOT_TABLE (R185, R186) -/

/-- The offset of a header field that is wrong. -/
def slotHeaderBad (h : List Byte) : Option Nat :=
  if leAt h 0 4 ≠ 0x51070005 then some 0
  else if leAt h 4 2 ≠ 1 then some 4
  else if leAt h 6 2 = 0 ∨ 2048 < leAt h 6 2 then some 6
  else if leAt h 8 4 ≠ 16 + 16 * leAt h 6 2 then some 8
  else none

/-- An entry of the image. -/
def slotEntryAt (img : List Byte) (i : Nat) : SlotEntry :=
  let b := img.drop (16 + 16 * i)
  { slot := leAt b 0 1, gen := leAt b 1 1, lane := leAt b 2 1, flags := leAt b 3 1, pre := leAt b 4 1, post := leAt b 5 1, ctleStart := leAt b 6 1 }

/-- An entry's fields are in range and its reserved bytes 0. -/
def slotEntryOk (img : List Byte) (i : Nat) : Bool :=
  let e := slotEntryAt img i
  decide (1 ≤ e.slot ∧ e.slot ≤ 31 ∧ e.gen ≤ 15 ∧ e.lane < 68 ∧ e.flags < 32 ∧ e.pre ≤ 16 ∧ e.post ≤ 24 ∧ e.ctleStart ≤ 15) &&
  (List.range 9).all (fun k => leAt img (16 + 16 * i + 7 + k) 1 == 0)

/-- An entry repeats the key of an earlier one. -/
def slotDup (es : List SlotEntry) (i : Nat) : Bool :=
  match es[i]? with
  | some e => (es.take i).any (fun f => f.slot == e.slot && f.gen == e.gen && f.lane == e.lane)
  | none => false

/-- The offset of the first failure of an image, none when it passes. -/
def slotTableBad (img : List Byte) : Option Nat :=
  let n := leAt img 6 2
  let es := (List.range n).map (slotEntryAt img)
  if leAt img 12 4 ≠ crc32 (img.drop 16) then some 12
  else
    match (List.range n).find? (fun i => !(slotEntryOk img i)) with
    | some i => some (16 + 16 * i)
    | none => ((List.range n).find? (slotDup es)).map (fun i => 16 + 16 * i)

/-- LANE_LOAD_SLOT_TABLE. -/
def loadSlotBody (v : Serving) (s : State) : Reply × State :=
  if ¬ payZero v 0 8 then (rc rcBadArg, s)
  else
    match hwRead s (pay v 8 8) 16 with
    | none => (failedRead, s)
    | some h =>
      match slotHeaderBad h with
      | some o => (failedAt o 0, s)
      | none =>
        match hwRead s (pay v 8 8) (leAt h 8 4) with
        | none => (failedRead, s)
        | some img =>
          match slotTableBad img with
          | some o => (failedAt o 0, s)
          | none => (rc rcDone, modLanes s (fun z => { z with slotTable := (List.range (leAt h 6 2)).map (slotEntryAt img) }))

/-- LANE_LOAD_SLOT_TABLE. -/
def laneLoadSlotTable (s : State) : State := ferryServe 0x0202 16 noTarget loadSlotBody s

/-- LANE_LOAD_SLOT_TABLE. -/
def execLaneLoadSlotTable (s : State) : Host.Outcome State Fault Refusal := .next (laneLoadSlotTable s)

/-! ## LANE_STATE (R209, R210, R585) -/

/-- Power state of a code. -/
def lanePwrOf (c : Nat) : LanePwr := if c = 0 then .active else if c = 1 then .quiet else .slackwater

/-- LANE_STATE: DONE once the state is entered or the exit complete: the acknowledgement waits for LANE_STATE_REACHED. -/
def laneStateBody (v : Serving) (s : State) : Reply × State :=
  let l := v.target
  let p := lanePwrOf (pay v 0 1)
  if 2 < pay v 0 1 then (rc rcBadArg, s)
  else if portMember s l then (rc rcConflict, s)
  else if jobOn s 0x0200 l then (rc rcBusy, s)
  else if p ≠ .slackwater ∧ (laneOf s l).mode = 0 then (rc rcBadState, s)
  else
    match wakeFor (laneDomain l) s with
    | none => (rc rcBadState, s)
    | some t => if (laneOf t l).pwr = p ∧ (pathOf t l).moving = none then (rc rcDone, t) else (rc rcDone, waitFor 1 (moveLane l p t))

/-- LANE_STATE. -/
def laneState (s : State) : State := ferryServe 0x0203 1 laneTarget laneStateBody s

/-- LANE_STATE. -/
def execLaneState (s : State) : Host.Outcome State Fault Refusal := .next (laneState s)

/-! ## LANE_STATUS (R214, R215, R586) -/

/-- The 56 bytes of Table 5.11. -/
def laneStatusBytes (y : Lane) : List Byte :=
  leBytes 4 (laneLstat y) ++ leBytes 4 y.fecCorr ++ leBytes 4 y.fecUncorr ++ leBytes 4 y.hdrErr ++ leBytes 4 y.lockLoss ++ leBytes 4 y.rxDrop ++
  leBytes 1 y.tx.pre ++ leBytes 1 y.tx.post ++ leBytes 1 (b2n y.tx.swing + 2 * b2n y.tx.txinv + 4 * b2n y.tx.rxinv) ++ leBytes 1 y.coeffs.ctle ++
  (List.range 8).foldl (fun l i => l ++ leBytes 1 (toBits 8 (y.coeffs.ffe.getD i 0))) [] ++
  (List.range 12).foldl (fun l i => l ++ leBytes 1 (toBits 8 (y.coeffs.dfe.getD i 0))) [] ++ leBytes 8 y.lastUp

/-- The counters are zero (R214). -/
def clearLaneCounters (y : Lane) : Lane := { y with fecCorr := 0, fecUncorr := 0, hdrErr := 0, lockLoss := 0, rxDrop := 0 }

/-- LANE_STATUS. -/
def laneStatusBody (v : Serving) (s : State) : Reply × State :=
  if 2 ≤ pay v 0 1 then (rc rcBadArg, s)
  else ({ code := rcDone, result := laneStatusBytes (laneOf s v.target) }, if bit (pay v 0 1) 0 then modLane v.target clearLaneCounters s else s)

/-- LANE_STATUS. -/
def laneStatus (s : State) : State := ferryServe 0x0204 1 laneTarget laneStatusBody s

/-- LANE_STATUS. -/
def execLaneStatus (s : State) : Host.Outcome State Fault Refusal := .next (laneStatus s)

/-! ## LANE_EYE (R199, R200, R587) -/

/-- The scan a payload asks for (Table 16.7). -/
def scanOf (v : Serving) : Scan :=
  { phMin := sext 8 (pay v 0 1), phMax := sext 8 (pay v 1 1), vMin := sext 8 (pay v 2 1), vMax := sext 8 (pay v 3 1), eyes := pay v 4 1, k := pay v 5 1, result := pay v 8 8 }

/-- The scan is in range for a mode, and lasts no more than 1 s (R587). -/
def scanOk (v : Serving) (mode : Nat) : Bool :=
  let c := scanOf v
  decide (-32 ≤ c.phMin ∧ c.phMax ≤ 31 ∧ -64 ≤ c.vMin ∧ c.vMax ≤ 63 ∧ c.phMin ≤ c.phMax ∧ c.vMin ≤ c.vMax ∧ 16 ≤ c.k ∧ c.k ≤ 30 ∧ c.eyes < 8 ∧ pay v 6 2 = 0) &&
  (mode == 0 || ((isPam4 mode || decide (c.eyes < 2)) && decide (scanPoints c * (2 ^ c.k * 1000000 + 200 * symbolRate mode) ≤ 1000000000 * symbolRate mode)))

/-- LANE_EYE. -/
def laneEyeBody (v : Serving) (s : State) : Reply × State :=
  let l := v.target
  let y := laneOf s l
  if ¬ scanOk v y.mode then (rc rcBadArg, s)
  else if y.rx ≠ .up then (rc rcBadState, s)
  else if (pathOf s l).scan.isSome then (rc rcBusy, s)
  else
    let (j, t) := startJob v l s
    (rc rcAccepted, modPath l (fun p => { p with scan := some { scanOf v with job := j } }) (modLane l (fun z => { z with frozen := true }) t))

/-- LANE_EYE. -/
def laneEye (s : State) : State := ferryServe 0x0205 16 laneTarget laneEyeBody s

/-- LANE_EYE. -/
def execLaneEye (s : State) : Host.Outcome State Fault Refusal := .next (laneEye s)

/-! ## DIAG_LOOPBACK (R598) -/

/-- MODE 0 ends a loopback: PRBS errors and bits are returned, the receiver relocks as R191 states. -/
def loopOff (l : Nat) (s : State) : Reply × State :=
  let p := pathOf s l
  let t := modPath l (fun x => { x with loopMode := 0, prbs := false, prbsErr := 0, prbsBits := 0 }) s
  let t := if rxAtLeast (laneOf s l) 4 ∧ (p.loopMode ≠ 0 ∨ p.prbs) then rxLoss l 3 .cdrAcq t else t
  ({ code := rcDone, result := leBytes 8 p.prbsErr ++ leBytes 8 p.prbsBits }, t)

/-- The PRBS31 generator and its checker start (R598). -/
def startPrbs (l : Nat) (p : LanePath) : LanePath := { p with prbs := true, prbsTx := Config.prbsSeed l % 2 ^ 31, prbsRx := 0, prbsHave := 0, rxRaw := [] }

/-- DIAG_LOOPBACK; BUSY while a LANE_SET_MODE or LANE_EYE job works on the lane (R574). -/
def diagLoopbackBody (v : Serving) (s : State) : Reply × State :=
  let l := v.target
  let m := pay v 0 1
  if 2 < m ∨ 2 ≤ pay v 1 1 then (rc rcBadArg, s)
  else if portMember s l then (rc rcConflict, s)
  else if (laneOf s l).mode = 0 then (rc rcBadState, s)
  else if jobOn s 0x0200 l ∨ (pathOf s l).scan.isSome then (rc rcBusy, s)
  else if m = 0 then
    (let (r, t) := loopOff l s
     (r, if bit (pay v 1 1) 0 then modPath l (startPrbs l) t else t))
  else (rc rcDone, modPath l (fun p => let q := { p with loopMode := m, prbs := false, prbsErr := 0, prbsBits := 0 }; if bit (pay v 1 1) 0 then startPrbs l q else q) s)

/-- DIAG_LOOPBACK. -/
def diagLoopback (s : State) : State := ferryServe 0x0A02 2 laneTarget diagLoopbackBody s

/-- DIAG_LOOPBACK. -/
def execDiagLoopback (s : State) : Host.Outcome State Fault Refusal := .next (diagLoopback s)

end Sys2Proof.Machine
end

