-- ==== Sys2Proof/Machine/DeltaOps.lean ====
section
/-! DEFINITION. Delta ports and the Twin link: room and grants, far failures, ports going down (sections 6.1 to 6.5). -/

namespace Sys2Proof.Machine
open Sys2Proof

/-! ## Ports -/

/-- Every member lane is UP. -/
def lanesUp (s : State) (p : Nat) : Bool := (portLanes s p).all (fun l => (laneOf s l).rx == .up)

/-- Enabled ports. -/
def portOn (s : State) (p : Nat) : Bool := (portOf s p).st != .disabled

/-- EV464 of a port, EV469 of the Twin link (Table 6.14). -/
def portEv (p cause sev : Nat) (s : State) : State :=
  if p < 64 then raiseEvAt (some (portNi p)) 464 cause sev (leBytes 1 p) s
  else if cause = 1 then raiseEv 469 1 0 [] s else raiseEv 469 2 2 (leBytes 1 cause) s

/-- Code of a port state in the result of DELTA_PORT_SET: the order of Table 6.3 (DESIGN CHOICE, log entry 17). -/
def portStCode (x : PortState) : Nat :=
  match x with
  | .disabled => 0
  | .waitLanes => 1
  | .init => 2
  | .up => 3
  | .down => 4

/-! ## Room in transmit queues (R237) -/

/-- Flits queued on an LVC of a port. -/
def queuedOn (x : Port) (lvc : Nat) : Nat := (x.txq.filter (fun e => e.1 == lvc)).length

/-- Free room of a transmit queue of 64 flits (R237). -/
def roomOn (x : Port) (lvc : Nat) : Nat := 64 - queuedOn x lvc - tget x.reserved 0 lvc

/-- Whether a request token asks for an LVC of a port. -/
def asksFor (t : Token) (p lvc : Nat) : Bool :=
  t.waiting && (match t.kind with
    | .request _ l _ => l == 8 * p + lvc
    | _ => false)

/-- Flits and packet of a request token. -/
def tokenAsk (t : Token) : Nat × Nat :=
  match t.kind with
  | .request n _ pid => (n, pid)
  | _ => (0, 0)

/-- Grant the oldest waiting request of an LVC when its flits fit: the grant travels back as a token (R237). -/
def grantLvc (p lvc fuel : Nat) (s : State) : State :=
  match fuel with
  | 0 => s
  | k + 1 =>
    match s.braid.tokens.find? (fun t => asksFor t p lvc) with
    | none => s
    | some t =>
      let (n, pid) := tokenAsk t
      if n ≤ roomOn (portOf s p) lvc ∨ (portOf s p).st ≠ .up then
        let u := modPort p (fun x => { x with reserved := tadd x.reserved lvc n }) s
        let g : Token := { id := u.braid.nextPid, src := t.dst, dst := t.src, kind := .grant pid }
        grantLvc p lvc k (modBraid u (fun b => { b with nextPid := b.nextPid + 1, tokens := b.tokens.filter (fun x => x.id != t.id) ++ [g] }))
      else s

/-- Grant what fits on every LVC of a port: the waiting requests in arrival order. A port that is not UP grants at once: what comes is answered there (R220). -/
def grantPort (p : Nat) (s : State) : State :=
  forAll (List.range 8) (fun t v => grantLvc p v (t.braid.tokens.length + 1) t) s

/-! ## Twin windows (R243 to R246, R595) -/

/-- EV471 TRACKED when windows that were MIRRORED are no more (R245, R246). -/
def trackWindows (s : State) : State :=
  if s.twin.windows.any (fun w => w.2.st == .mirrored) then
    raiseEv 471 2 2 [] (modTwin s (fun w => { w with windows := w.windows.map (fun x => (x.1, if x.2.st = .mirrored then { x.2 with st := .tracked } else x.2)) }))
  else s

/-- The windows enter TRACKED, and a resynchronization under way ends with BAD_STATE (R245, R595). -/
def trackedEntry (s : State) : State :=
  let t := trackWindows s
  endJob? t.twin.resyncJob rcBadState [] (modTwin t (fun w => { w with resyncJob := none, copied := [] }))

/-- The window that holds a device address. -/
def windowAt (s : State) (a : Nat) : Option (Nat × Window) :=
  s.twin.windows.find? (fun w => decide (w.2.start ≤ a ∧ a < w.2.start + w.2.length))

/-- Mark the page of an address dirty: the list of dirty pages, and its bit in the bitmap in DRAM, written with KID 0 (R245). -/
def markDirty (a : Nat) (s : State) : State :=
  match windowAt s a with
  | none => s
  | some (_, w) =>
    let page := a / 4096
    let bitNo := (a - w.start) / 4096
    let at_ := w.bitmap + bitNo / 8
    let t := modTwin s (fun x => { x with dirty := ladd x.dirty page })
    match hwRead t at_ 1 with
    | some b => (hwWrite at_ [BitVec.ofNat 8 (leAt b 0 1 ||| 2 ^ (bitNo % 8))] t).getD t
    | none => t

/-- Clear a page's dirty bit. -/
def clearDirty (page : Nat) (s : State) : State :=
  let t := modTwin s (fun x => { x with dirty := ldel x.dirty page })
  match windowAt t (page * 4096) with
  | none => t
  | some (_, w) =>
    let bitNo := (page * 4096 - w.start) / 4096
    let at_ := w.bitmap + bitNo / 8
    match hwRead t at_ 1 with
    | some b => (hwWrite at_ [BitVec.ofNat 8 (leAt b 0 1 - (if bit (leAt b 0 1) (bitNo % 8) then 2 ^ (bitNo % 8) else 0))] t).getD t
    | none => t

/-- A forwarded write completes: a WR or an ATOM gets its answer with T = 20 + M (R164, R243). -/
def mirrorAnswer (m : Mirrored) (s : State) : State :=
  if nonPosted m.pkt.op then
    respond (0x10 + m.channel) m.pkt m.at_ (m.t + s.twin.m) .ok m.old [] false s
  else s

/-- Release a Twin command that waits. -/
def twinDone (opcode : Nat) (s : State) : State :=
  modFerry s (fun f => { f with serving := f.serving.map (fun v => if v.opcode = opcode then { v with waitingFor := 0 } else v) })

/-- Forwarded writes of a window that have not completed. -/
def windowBusy (s : State) (w : Window) : Bool := s.twin.queue.any (fun m => decide (w.start ≤ m.addr ∧ m.addr < w.start + w.length))

/-- Remove a window. -/
def dropWindow (i : Nat) (w : Window) (s : State) : State :=
  modTwin s (fun x => { x with windows := tdel x.windows i, dirty := x.dirty.filter (fun p => !(decide (w.start ≤ p * 4096 ∧ p * 4096 < w.start + w.length))) })

/-- A CLEAR that waits for its window's writes is done when they are. -/
def clearDone (s : State) : State :=
  match s.ferry.serving with
  | none => s
  | some v =>
    if v.opcode = 0x0803 ∧ v.waitingFor ≠ 0 then
      match tfind s.twin.windows v.target with
      | some w => if windowBusy s w then s else twinDone 0x0803 (dropWindow v.target w s)
      | none => twinDone 0x0803 s
    else s

/-- Queued mirror writes end locally: their pages become dirty (R245, R246). -/
def flushMirror (s : State) : State :=
  let q := s.twin.queue
  clearDone (forAll q (fun t m => mirrorAnswer m (markDirty m.addr t)) (modTwin s (fun w => { w with queue := [], lagging := false })))

/-! ## Entry into DOWN (R219, R220) -/

/-- Answer or discard what waits in a transmit queue: packets whose head flit is still there. -/
def failQueued (p : Nat) (s : State) : State :=
  let heads := ((portOf s p).txq.filter (fun e => e.2.isHead)).map (fun e => e.2.pkt)
  let t := modPort p (fun x => { x with txq := [] }) s
  if p = 64 then t
  else forAll heads (fun u q => if q.op = .rsp then discardAtNi (portNi p) q u else farFail (portNi p) 2 p q u) t

/-- Ferry channels of devices whose link goes down: a channel bound to a port of that device with none left UP, channel 100 with the Twin link (R49). -/
def resetRemote (p : Nat) (s : State) : State :=
  if p = 64 then senderResetChan 100 s
  else
    match (portOf s p).bind with
    | none => s
    | some (ch, dev) =>
      if s.delta.ports.any (fun q => q.1 != p && q.2.st == .up && decide (q.2.bind = some (ch, dev))) then s else senderResetChan ch s

/-- A port leaves UP or INIT: DOWN, its actions, then WAIT_LANES at once (Table 6.3, R220); cause 0, a command that disables it, raises no event. -/
def portFall (p cause : Nat) (s : State) : State :=
  let up := (portOf s p).st == .up
  let s := forAll (((portOf s p).rxBuf.filter (fun e => e.2.isHead && e.2.pkt.exit.isSome)).map (fun e => e.2.pkt)) (fun u q => ungrant q u) s
  let t := modPort p (fun x => { x with st := .waitLanes, replay := [], resend := [], replays := 0, rxBuf := [], txStream := [], rxStream := [], freed := [], credits := [], ackPending := false, nakPending := false, nakSent := false, initSeen := false, tagFails := 0 }) s
  let t := forAll (portLanes t p) (fun u l => modPath l (fun x => { x with txBlocks := [], rxQueue := [], tagFails := 0 }) u) t
  if up then
    let t := resetRemote p (grantPort p (failQueued p (if cause = 0 then t else portEv p cause 1 t)))
    if p = 64 then flushMirror (trackedEntry (modTwin t (fun w => { w with answers := [], outbox := [] }))) else t
  else t

end Sys2Proof.Machine
end

