-- ==== Sys2Proof/Machine/Delta.lean ====
section
/-! DEFINITION. Steps of Delta ports and the commands DELTA_PORT_SET, FAR_ROUTE_LOAD, DEVICE_ID_SET (chapter 06). -/

namespace Sys2Proof.Machine
open Sys2Proof

/-! ## States of a port (Table 6.3) -/

/-- Skew of two lanes: how far apart their frames end, in hundredths of a Braid cycle, whichever lane's frame has come last (R219). -/
def laneSkew (a b : Nat) : Nat := let d := (max a b - min a b) % 7680; min d (7680 - d)

/-- Member-lane skew is no more than 8 block times (Table 6.3). -/
def skewOk (s : State) (p : Nat) : Bool :=
  (portLanes s p).all (fun l => (portLanes s p).all (fun k => decide (laneSkew (pathOf s l).lastFrame (pathOf s k).lastFrame ≤ 8 * blockTime)))

/-- PORT_INIT: every member lane is UP, with no more than 8 block times of skew (Table 6.3). -/
def portInit (p : Nat) (s : State) : State :=
  let x := portOf s p
  if x.st = .waitLanes ∧ x.width ≠ 0 ∧ lanesUp s p ∧ skewOk s p then
    modPort p (fun y =>
      { y with st := .init, txSeq := 0, rxSeq := 0, acked := 511, ackAt := s.time, replay := [], resend := [], replays := 0, credits := [], freed := (List.range 8).map (fun v => (v, 32)), initSeen := false, nakSent := false, ackPending := false, nakPending := false }) s
  else s

/-- PORT_INIT. -/
def execPortInit (p : Nat) (s : State) : Host.Outcome State Fault Refusal := .next (portInit p s)

/-- Both ends have exchanged INIT and every initial credit; an encrypted link whose ACTIVE transmit slot is empty stays in INIT (R225, R433). -/
def initDone (s : State) (p : Nat) : Bool :=
  let x := portOf s p
  x.st == .init && x.initSeen && (List.range 8).all (fun v => tget x.credits 0 v == 32 && tget x.freed 0 v == 0) && lanesUp s p &&
  (!x.encrypt || (linkSlot s p 0 x.keysel).key != [])

/-- PORT_UP, with FLIGHT as measured (R219, R229). -/
def portUp (p flight : Nat) (s : State) : State :=
  if initDone s p then portEv p 1 0 (modPort p (fun x => { x with st := .up, flight := flight % 65536, ackAt := s.time }) s) else s

/-- PORT_UP. -/
def execPortUp (p flight : Nat) (s : State) : Host.Outcome State Fault Refusal := .next (portUp p flight s)

/-- The condition of a cause of DOWN: a member lane is not UP, 16 replays without advance, 16 tag failures on a lane (Table 6.3, R227, R239). -/
def downCause (s : State) (p cause : Nat) : Bool :=
  match cause with
  | 2 => !(lanesUp s p)
  | 3 => decide (16 ≤ (portOf s p).replays)
  | 4 => (portLanes s p).any (fun l => decide (16 ≤ (pathOf s l).tagFails))
  | _ => false

/-- PORT_DOWN (R219, R220): from UP alone; a port in INIT stays there until it can go UP. -/
def portDown (p cause : Nat) (s : State) : State :=
  if (portOf s p).st = .up ∧ downCause s p cause then portFall p cause s else s

/-- PORT_DOWN. -/
def execPortDown (p cause : Nat) (s : State) : Host.Outcome State Fault Refusal := .next (portDown p cause s)

/-! ## The link layer (section 6.2) -/

/-- The far end acknowledges every flit up to a SEQ (R227). -/
def ackTo (p ack : Nat) (s : State) : State :=
  let x := portOf s p
  if x.replay.any (fun f => f.seq == ack) then
    let rest := (x.replay.dropWhile (fun f => f.seq != ack)).drop 1
    let kept := fun (f : LinkFlit) => rest.any (fun g => g.seq == f.seq)
    modPort p (fun y => { y with replay := rest, resend := y.resend.filter kept, acked := ack, ackAt := s.time, replays := 0 }) s
  else s

/-- A window of 1 ms and how many replays it has seen, after one more replay: a replay outside the window opens a new one. -/
def replayWindow (x : Nat × Nat) (now : Nat) : Nat × Nat := if now < x.1 + msCycles then (x.1, x.2 + 1) else (now, 1)

/-- Count a replay; EV465 when more than 16 fall into 1 ms (Table 6.14). -/
def replayRate (p : Nat) (s : State) : State :=
  let y := replayWindow ((tfind s.events.limits (20000 + p)).getD (s.time, 0)) s.time
  let t := modEvents s (fun e => { e with limits := tset e.limits (20000 + p) y })
  if y.2 = 17 then raiseEvAt (some (portNi p)) 465 1 1 (leBytes 1 p) t else t

/-- A replay starts: every unacknowledged flit is resent (R227). -/
def startReplay (p : Nat) (s : State) : State :=
  if (portOf s p).replay.isEmpty then s
  else replayRate p (portCount p 4 1 (modPort p (fun y => { y with resend := y.replay, replays := y.replays + 1, ackAt := s.time }) s))

/-- A flit accepted into the receive buffer. -/
def rxFlit (p : Nat) (f : RxLinkFlit) (s : State) : State :=
  let g := flitFrom f s.braid.nextPid
  let t := if g.isHead then modBraid s (fun b => { b with nextPid := b.nextPid + 1 }) else s
  portCount p 1 1 (modPort p (fun x => { x with rxBuf := x.rxBuf ++ [(f.lvc, g)], rxSeq := (x.rxSeq + 1) % 512, ackPending := true, nakSent := false }) t)

/-- A link flit is accepted: whole, CRC correct, SEQ as expected, no block marked bad (R226). -/
def acceptsFlit (x : Port) (f : RxLinkFlit) : Bool := x.st == .up && f.whole && f.crcOk && !f.bad && f.seq == x.rxSeq

/-- A link flit is accepted or discarded; the first discard asks for a retry. The ACK of a LEADER counts when its CRC is right (R226, R227). -/
def readFlit (p : Nat) (f : RxLinkFlit) (s : State) : State :=
  let x := portOf s p
  let t := if f.whole && f.crcOk then ackTo p f.ack s else portCount p 2 1 s
  if acceptsFlit x f then rxFlit p f t
  else if x.nakSent then t
  else modPort p (fun y => { y with nakSent := true, nakPending := true }) t

/-- LINK_FLIT_RECEIVE: the link flit at the front of the port stream (R222, R223, R226). -/
def linkFlitReceive (p : Nat) (s : State) : State :=
  let t := cleanStream p s
  match takeFlit (portOf t p).rxStream with
  | none => t
  | some (f, r) => readFlit p f (modPort p (fun x => { x with rxStream := r }) t)

/-- LINK_FLIT_RECEIVE. -/
def execLinkFlitReceive (p : Nat) (_note : Unit) (s : State) : Host.Outcome State Fault Refusal := .next (linkFlitReceive p s)

/-- A link flit goes into the port stream, where its blocks, its ACK and its WAIT are fixed as its LEADER is placed (R222, R223, R228). -/
def sendLinkFlit (p : Nat) (f : LinkFlit) (s : State) : State :=
  portCount p 0 1 (modPort p (fun y => { y with txStream := y.txStream ++ [.flit f] }) s)

/-- A completion of the Twin endpoint's own access becomes the RSP that answers the partner. -/
def twinAnswers (s : State) : State :=
  let cs := s.braid.completions.filter (fun c => c.ep == 0x59 && hasCome s c)
  let t := modBraid s (fun b => { b with completions := b.completions.filter (fun c => !(c.ep == 0x59 && hasCome s c)) })
  forAll cs (fun u c =>
    let q : Packet := { pid := c.gid, vc := 1, src := 0x59, op := .rsp, len := if c.op = .atom then 0 else c.data.length, tag := c.agent, status := c.status, wait := c.wait, data := c.data, presentedAt := u.time }
    modPort 64 (fun x => { x with txq := x.txq ++ (flitsOf q).map (fun f => (1, { f with at_ := u.time })) }) u) t

/-- LINK_FLIT_SEND: a replay first, else the oldest flit whose LVC has a credit, while fewer than 256 are unacknowledged (R225, R227, R228); room becomes free for waiting grants (R237). -/
def linkFlitSend (p : Nat) (s0 : State) : State :=
  let s := if p = 64 then twinAnswers s0 else s0
  let x := portOf s p
  if x.st = .up then
    match x.resend with
    | f :: r => sendLinkFlit p f (modPort p (fun y => { y with resend := r }) s)
    | [] =>
      match x.txq.find? (fun e => decide (0 < tget x.credits 0 e.1)) with
      | none => s
      | some (lvc, f) =>
        if x.replay.length < 256 then
          let g : LinkFlit := { seq := x.txSeq, lvc := lvc, flit := f }
          let rest := x.txq.takeWhile (fun e => e.1 != lvc) ++ (x.txq.dropWhile (fun e => e.1 != lvc)).drop 1
          grantPort p (sendLinkFlit p g (modPort p (fun y =>
            { y with txq := rest, txSeq := (y.txSeq + 1) % 512, credits := tset y.credits lvc (tget y.credits 0 lvc - 1), replay := y.replay ++ [g], ackAt := if y.replay.isEmpty then s.time else y.ackAt }) s))
        else s
  else s

/-- LINK_FLIT_SEND. -/
def execLinkFlitSend (p : Nat) (s : State) : Host.Outcome State Fault Refusal := .next (linkFlitSend p s)

/-- What a LINKCTL says: acknowledgement, credits, INIT, retry request; a bad CRC8 discards it (R224, R225, R227). -/
def readLinkctl (p : Nat) (c : LinkCtl) (s : State) : State :=
  if c.crcOk ∧ streams s p then
    let t := ackTo p c.ack s
    let t := modPort p (fun y =>
      { y with credits := (List.range 8).map (fun v => (v, tget y.credits 0 v + c.credit.getD v 0)), initSeen := y.initSeen || c.init }) t
    if c.nak && decide ((portOf s p).st = .up) then startReplay p t else t
  else s

/-- LINKCTL_RECEIVE: the LINKCTL at the front of the port stream. -/
def linkctlReceive (p : Nat) (s : State) : State :=
  match takeBlock p 0xD2 s with
  | some (b, t) => readLinkctl p (linkctlOf b) t
  | none => cleanStream p s

/-- LINKCTL_RECEIVE. -/
def execLinkctlReceive (p : Nat) (_note : Unit) (s : State) : Host.Outcome State Fault Refusal := .next (linkctlReceive p s)

/-- REPLAY_TIMEOUT: ACK has not advanced for 4 µs while flits are unacknowledged (R227). -/
def replayTimeout (p : Nat) (s : State) : State :=
  let x := portOf s p
  if x.st = .up ∧ ¬ x.replay.isEmpty ∧ x.ackAt + 4 * usCycles ≤ s.time then startReplay p s else s

/-- REPLAY_TIMEOUT. -/
def execReplayTimeout (p : Nat) (s : State) : Host.Outcome State Fault Refusal := .next (replayTimeout p s)

/-- LINKCTL_SEND: at most 15 freed flits of each LVC, ACK, NAK, INIT while the port is in INIT (R224 to R226). -/
def linkctlSend (p : Nat) (s : State) : State :=
  let x := portOf s p
  if x.st = .init ∨ x.st = .up then
    let n := fun v => min 15 (tget x.freed 0 v)
    let b := linkctlBlock ((x.rxSeq + 511) % 512) (b2n x.nakPending) (b2n (decide (x.st = .init))) n
    pushBlocks p [b] (modPort p (fun y => { y with freed := (List.range 8).map (fun v => (v, tget y.freed 0 v - n v)), ackPending := false, nakPending := false }) s)
  else s

/-- LINKCTL_SEND. -/
def execLinkctlSend (p : Nat) (s : State) : Host.Outcome State Fault Refusal := .next (linkctlSend p s)

/-! ## Tokens (R237) -/

/-- TOKEN_ARRIVAL: a request waits at the exit lane quad for room, a grant lets its packet leave; a token about a counter is served by COUNTER_TOKEN. -/
def tokenArrival (id : Nat) (s : State) : State :=
  match s.braid.tokens.find? (fun t => t.id == id) with
  | none => s
  | some t =>
    match t.kind with
    | .request _ l _ =>
      if t.waiting then s
      else grantPort (l / 8) (modBraid s (fun b => { b with tokens := b.tokens.filter (fun x => x.id != id) ++ [{ t with waiting := true }] }))
    | .grant pid => modBraid s (fun b => { b with tokens := b.tokens.filter (fun x => x.id != id), granted := ladd b.granted pid })
    | .counter _ _ _ => s

/-- TOKEN_ARRIVAL. -/
def execTokenArrival (id : Nat) (s : State) : Host.Outcome State Fault Refusal := .next (tokenArrival id s)

/-! ## Packets that enter (R228, R232, R233, R237) -/

/-- Flits of the packet at the front of an LVC's receive buffer, when it has come whole. -/
def frontFlits (x : Port) (lvc : Nat) : List Flit :=
  let l := (x.rxBuf.filter (fun e => e.1 == lvc)).map (fun e => e.2)
  match l.findIdx? (fun f => f.isLast) with
  | some i => l.take (i + 1)
  | none => []

/-- The packet of a list of flits: data joined, the flits' POISON, WAIT raised by the time from the last symbol of the head LEADER to the last of the packet; it is delivered at the NI the receive count of Table 4.12 later (R228). -/
def joinFlits (width : Nat) (l : List Flit) : Option Packet :=
  match l with
  | [] => none
  | h :: r =>
    if h.isHead then
      let last := (r.getLast?.getD h).at_
      some { h.pkt with data := if r.isEmpty then h.pkt.data else (r.foldl (fun d f => d ++ padTo 128 f.pkt.data) []).take h.pkt.len, poison := (r.zipIdx.filter (fun e => e.1.poison)).map (·.2), wait := min 0xFFFF (h.pkt.wait + upCycles (last - h.ageFrom)), presentedAt := upCycles (last + laneCycles 1 (rxCycles 1 width)) }
    else none

/-- The packet at the front of an LVC's receive buffer, with the number of its flits. -/
def frontPacket (s : State) (p lvc : Nat) : Option (Packet × Nat) :=
  let l := frontFlits (portOf s p) lvc
  (joinFlits (portOf s p).width l).map (fun q => (q, l.length))

/-- Remove the flits at the front of an LVC; their room goes back to the far end. -/
def freeFront (p lvc n : Nat) (s : State) : State :=
  modPort p (fun x =>
    let mine := ((x.rxBuf.zipIdx.filter (fun e => e.1.1 == lvc)).take n).map (fun e => e.2)
    { x with rxBuf := (x.rxBuf.zipIdx.filter (fun e => !(mine.contains e.2))).map (fun e => e.1), freed := tadd x.freed lvc n }) s

/-- Far failure of a packet that would be forwarded (Table 6.6). -/
def entryFailure (s : State) (p lvc : Nat) (q : Packet) : Option Nat :=
  let e := farEntry s (portNi p) q.farId
  if !(bit e 7) then some 1
  else if q.hops = 7 then some 3
  else if 4 ≤ lvc ∧ (portOf s (e % 64)).dateline then some 4
  else none

/-- Number of the packet whose ORB a response ends: its destination NI's ORB by TAG (R101). -/
def orbPid (s : State) (q : Packet) : Nat := (((niOf s q.dst).orbs.find? (fun o => o.index == q.tag % 64)).map (fun o => o.pid)).getD q.pid

/-- A flow of an NI has room for one more flit. -/
def flowRoom (s : State) (ep flow : Nat) : Bool := decide ((s.sluice.queue.filter (fun x => x.ep == ep && x.flow == flow)).length < 4)

/-- The packet enters this device for an endpoint of it. It keeps the URG its link flit carried (R104; DESIGN CHOICE, log entry 83). -/
def enterLocal (p lvc n : Nat) (q : Packet) (s : State) : State :=
  let ni := portNi p
  let ag := 16 + 8 * (p % 4) + lvc
  if q.vc = 2 then
    (if flowRoom s ni q.flow then presentFlit ni q.flow q.addr q.data (q.poison != []) (some { q with far := false }) (freeFront p lvc n s) else s)
  else
    let t := freeFront p lvc n s
    if q.op = .rsp then modNi ni (fun m => { m with queue := m.queue ++ [{ q with far := false, pid := orbPid s q, agent := ag }] }) t
    else if !(epListed q.dst) then respond ni q q.presentedAt 0 .decode [] [] false t
    else if fenced s q.dst then respond ni q q.presentedAt 0 .fenced [] [] false t
    else modNi ni (fun m => { m with queue := m.queue ++ [{ q with agent := ag }] }) t

/-- The packet is forwarded: it asks for room at its exit, waits in the receive buffer, and enters the NI when granted (R237). -/
def enterForward (p lvc n : Nat) (q : Packet) (s : State) : State :=
  let ni := portNi p
  if q.exit.isNone then
    match entryFailure s p lvc q with
    | some c => farFail ni c p q (freeFront p lvc n s)
    | none =>
      let r := { withExit s ni q with set1 := decide (4 ≤ lvc) }
      askReserve ni r (modPort p (fun x =>
        { x with rxBuf := x.rxBuf.map (fun e => if e.2.isHead ∧ e.2.pkt.pid = q.pid then (e.1, { e.2 with pkt := { e.2.pkt with exit := r.exit, set1 := r.set1 } }) else e) }) s)
  else if s.braid.granted.contains q.pid then
    let r := { q with hops := q.hops + 1, agent := 16 + 8 * (p % 4) + lvc }
    if q.vc = 2 then (if flowRoom s ni q.flow then presentFlit ni q.flow q.addr q.data (q.poison != []) (some r) (freeFront p lvc n s) else s)
    else modNi ni (fun m => { m with queue := m.queue ++ [r] }) (freeFront p lvc n s)
  else s

/-- A request of the partner enters by the Twin endpoint as a request of its own; the partner's answer to a forwarded write waits for MIRROR_COMPLETION, by the channel its TAG names (R243). -/
def enterTwin (lvc n : Nat) (q : Packet) (s : State) : State :=
  let t := freeFront 64 lvc n s
  if q.op = .rsp then modTwin t (fun w => { w with answers := w.answers ++ [(q.tag, q.status)] })
  else if q.op = .probe then t
  else (presentReq 0x59 q.tag { op := q.op, addr := q.addr, len := q.len, kid := q.kid, data := q.data, poison := q.poison.map (fun i => (128 * i, 128)) } t).2

/-- The packet has been delivered at the NI and can go on: it is not waiting for a grant. -/
def canEnter (s : State) (p lvc : Nat) : Bool :=
  match frontPacket s p lvc with
  | none => false
  | some (q, _) => decide (q.presentedAt ≤ s.time) && (p == 64 || !(leaving s q) || q.exit.isNone || s.braid.granted.contains q.pid)

/-- DELTA_PACKET_ENTRY: the oldest whole packet at the front of its LVC that can go on (R232). -/
def deltaPacketEntry (p : Nat) (s : State) : State :=
  match (portOf s p).rxBuf.find? (fun e => canEnter s p e.1) with
  | none => s
  | some (lvc, _) =>
    match frontPacket s p lvc with
    | none => s
    | some (q, n) =>
      if p = 64 then enterTwin lvc n q s
      else if leaving s q then enterForward p lvc n q s
      else enterLocal p lvc n q s

/-- DELTA_PACKET_ENTRY. -/
def execDeltaPacketEntry (p : Nat) (s : State) : Host.Outcome State Fault Refusal := .next (deltaPacketEntry p s)

/-! ## Key switches (R240, R431) -/

/-- KEY_SWITCH_APPLY: at a frame boundary every member lane encrypts with the NEXT slot; LINK_KEY SWITCH is done. -/
def keySwitchApply (link : Nat) (s : State) : State :=
  if s.crypto.switching.contains link then
    let t := modCrypto s (fun c => { c with switching := ldel c.switching link })
    let t := modPort link (fun x => { x with keysel := 1 - x.keysel }) t
    let t := raiseEvAt (some (portNi link)) 467 2 0 (leBytes 1 link) t
    modFerry t (fun f => { f with serving := f.serving.map (fun v => if v.opcode = 0x0506 ∧ v.target = link then { v with waitingFor := 0 } else v) })
  else s

/-- KEY_SWITCH_APPLY. -/
def execKeySwitchApply (link : Nat) (s : State) : Host.Outcome State Fault Refusal := .next (keySwitchApply link s)

/-! ## DELTA_PORT_SET (R217, R218) -/

/-- Width and port ID agree with Table 6.1. -/
def portShape (p w : Nat) : Bool := (w == 1 || w == 2 || w == 4 || w == 8) && p % w == 0

/-- A lane is a member of another enabled port. -/
def otherMember (s : State) (p l : Nat) : Bool :=
  s.delta.ports.any (fun q => q.1 != p && q.1 < 64 && q.2.st != .disabled && decide (q.1 ≤ l ∧ l < q.1 + q.2.width))

/-- A port's state and FLIGHT (log entry 17). -/
def portResult (s : State) (p : Nat) : Reply := { code := rcDone, result := leBytes 1 (portStCode (portOf s p).st) ++ leBytes 1 0 ++ leBytes 2 (portOf s p).flight }

/-- DELTA_PORT_SET. -/
def portSetBody (v : Serving) (s : State) : Reply × State :=
  let p := v.target
  let w := pay v 0 1
  let f := pay v 1 1
  let lanes := (List.range w).map (fun k => p + k)
  let old := portOf s p
  if ¬ portShape p w ∨ 16 ≤ f ∨ 4 ≤ pay v 2 1 ∨ pay v 3 1 ≠ 0 ∨ 16384 ≤ pay v 4 2 then (rc rcBadArg, s)
  else if s.dbg.fuses.grade = 2 ∨ (bit f 2 ∧ ¬ s.dbg.fuses.cryptoS) then (rc rcDenied, s)
  else if lanes.any (otherMember s p) then (rc rcConflict, s)
  else if lanes.any (fun l => (laneOf s l).mode != 1) then (rc rcBadState, s)
  else if ¬ bit f 0 then
    let t := modPort p (fun x => { reserved := x.reserved }) (portFall p 0 s)
    (portResult t p, t)
  else
    let same := old.st != .disabled && old.width == w && old.encrypt == bit f 2
    let t := if same then s else modPort p (fun x => { width := w, st := .waitLanes, keysel := old.keysel, reserved := x.reserved }) (portFall p 0 s)
    let t := modPort p (fun x => { x with dateline := bit f 1, encrypt := bit f 2, bind := if bit f 3 then some (102 + pay v 2 1, pay v 4 2) else none }) t
    (portResult t p, t)

/-- DELTA_PORT_SET. -/
def deltaPortSet (s : State) : State := ferryServe 0x0800 6 (fun t => decide (t < 64)) portSetBody s

/-- DELTA_PORT_SET. -/
def execDeltaPortSet (s : State) : Host.Outcome State Fault Refusal := .next (deltaPortSet s)

/-! ## FAR_ROUTE_LOAD (R234 to R236, R630) -/

/-- Offset of record i. -/
def farRec (i : Nat) : Nat := 32 + 40 * i

/-- DEST of a record. -/
def recDest (img : List Byte) (i : Nat) : Nat := leAt img (farRec i) 2

/-- NHOP of a record. -/
def recHops (img : List Byte) (i : Nat) : Nat := leAt img (farRec i + 2) 1

/-- HOP_DEV, HOP_PORT, HOP_FLAGS of a hop. -/
def recHop (img : List Byte) (i k : Nat) : Nat × Nat × Nat :=
  (leAt img (farRec i + 4 + 4 * k) 2, leAt img (farRec i + 6 + 4 * k) 1, leAt img (farRec i + 7 + 4 * k) 1)

/-- The hops of a record. -/
def recHopList (img : List Byte) (i : Nat) : List (Nat × Nat × Nat) := (List.range (recHops img i)).map (recHop img i)

/-- The hop of a record that names a device. -/
def hopOf (img : List Byte) (i dev : Nat) : Option (Nat × Nat × Nat) := (recHopList img i).find? (fun h => h.1 == dev)

/-- Offset of a wrong header field (Table 6.7). -/
def farHeaderBad (h : List Byte) : Option Nat :=
  if leAt h 0 4 ≠ 0xFA200006 then some 0
  else if leAt h 4 2 ≠ 1 then some 4
  else if 16384 < leAt h 6 2 then some 6
  else if leAt h 8 4 ≠ 32 + 40 * leAt h 6 2 then some 8
  else if leAt h 16 16 ≠ 0 then some 16
  else none

/-- FORMAT of a record (Table 6.9). -/
def recFormat (img : List Byte) (i : Nat) : Bool :=
  let n := recHops img i
  decide (recDest img i < 16384 ∧ 1 ≤ n ∧ n ≤ 8 ∧ leAt img (farRec i + 3) 1 = 0 ∧ leAt img (farRec i + 36) 4 = 0) &&
  (List.range 8).all (fun k =>
    let (d, _, f) := recHop img i k
    if k < n then decide (d < 16384 ∧ f < 2) else leAt img (farRec i + 4 + 4 * k) 4 == 0)

/-- The checks on record i, by reason code (Table 6.9): whether the record fails. -/
def recFails (s : State) (img : List Byte) (reason i : Nat) : Bool :=
  let dev := s.delta.deviceId
  let hops := (recHopList img i).map (·.1)
  match reason with
  | 8 => !(recFormat img i)
  | 14 => (List.range i).any (fun j => recDest img j == recDest img i)
  | 15 => hops.eraseDups.length != hops.length || hops.contains (recDest img i)
  | 16 => (hopOf img i dev).any (fun h => decide (64 ≤ h.2.1) || !(portOn s h.2.1))
  | 17 => decide (1 < ((recHopList img i).filter (fun h => bit h.2.2 0)).length) || (hopOf img i dev).any (fun h => bit h.2.2 0 != (portOf s h.2.1).dateline)
  | _ => false

/-- The first failure in the order of R630: offset and reason. -/
def farImageBad (s : State) (img : List Byte) : Option (Nat × Nat) :=
  let n := leAt img 6 2
  if leAt img 12 4 ≠ crc32 (img.drop 16) then some (12, 8)
  else [8, 14, 15, 16, 17].findSome? (fun r => ((List.range n).find? (recFails s img r)).map (fun i => (farRec i, r)))

/-- The far table of an image for a device, and how many records it ignores (R234). -/
def farTable (img : List Byte) (dev : Nat) : Tbl Nat :=
  ((List.range (leAt img 6 2)).filterMap (fun i => (hopOf img i dev).map (fun h => (recDest img i, 128 + h.2.1 % 64)))).foldl (fun t e => tset t e.1 e.2) []

/-- FAR_ROUTE_LOAD: the table goes to every NI by the two-phase swap of R96; DONE when it has. -/
def farRouteBody (v : Serving) (s : State) : Reply × State :=
  if ¬ payZero v 0 8 then (rc rcBadArg, s)
  else
    match hwRead s (pay v 8 8) 32 with
    | none => (failedRead, s)
    | some h =>
      match farHeaderBad h with
      | some o => (failedAt o 8, s)
      | none =>
        match hwRead s (pay v 8 8) (leAt h 8 4) with
        | none => (failedRead, s)
        | some img =>
          match farImageBad s img with
          | some (o, r) => (failedAt o r, s)
          | none =>
            let tbl := farTable img s.delta.deviceId
            let t := modDelta s (fun d => { d with farOld := d.far, far := tbl, farPending := (List.range 0x70).filter epListed })
            ({ code := rcDone, result := leBytes 2 tbl.length ++ leBytes 2 (leAt img 6 2 - tbl.length) }, waitFor 1 (mirrorItem (.farTable tbl) t))

/-- FAR_ROUTE_LOAD. -/
def farRouteLoad (s : State) : State := ferryServe 0x0801 16 noTarget farRouteBody s

/-- FAR_ROUTE_LOAD. -/
def execFarRouteLoad (s : State) : Host.Outcome State Fault Refusal := .next (farRouteLoad s)

/-! ## DEVICE_ID_SET (R230, R593) -/

/-- DEVICE_ID_SET. -/
def deviceIdBody (v : Serving) (s : State) : Reply × State :=
  if 16384 ≤ pay v 0 2 then (rc rcBadArg, s)
  else if (List.range 64).any (fun p => portOn s p) ∨ s.twin.role ≠ .unpaired then (rc rcBadState, s)
  else (rc rcDone, modDelta s (fun d => { d with deviceId := pay v 0 2 }))

/-- DEVICE_ID_SET. -/
def deviceIdSet (s : State) : State := ferryServe 0x0805 2 noTarget deviceIdBody s

/-- DEVICE_ID_SET. -/
def execDeviceIdSet (s : State) : Host.Outcome State Fault Refusal := .next (deviceIdSet s)

end Sys2Proof.Machine
end

