-- ==== Sys2Proof/Machine/Twin.lean ====
section
/-! DEFINITION. The Twin pair: pairing, heartbeats, roles, switchover, mirror windows, resynchronization, and the commands TWIN_PAIR, TWIN_MIRROR, TWIN_SWITCHOVER (sections 6.7 and 6.8, R593 to R596). -/

namespace Sys2Proof.Machine
open Sys2Proof

/-! ## Roles (Table 6.12) -/

/-- The HS lanes. -/
def hsLanes : List Nat := List.range 64

/-- Every HS lane in one power state moves to another; `tx` says whether it then transmits. -/
def shiftLanes (a b : LanePwr) (tx : Bool) (s : State) : State :=
  forAll hsLanes (fun t l => if (laneOf t l).pwr = a then modPath l (fun p => { p with transmitting := tx }) (modLane l (fun y => { y with pwr := b }) t) else t) s

/-- TWIN_HB_IN has had no edge for 250 µs (R248). -/
def pinSilent (s : State) : Bool := decide (s.twin.lastEdge + 250 * usCycles ≤ s.time)

/-- Takeover (R250): role ACTIVE and with it TWIN_ACTIVE and the Backwater outputs, EPOCH + 1, HS lanes from QUIET to ACTIVE, EV473; windows become TRACKED with every page clean (R595). -/
def takeover (cause : Nat) (s : State) : State :=
  let t := modTwin s (fun w =>
    { w with role := .active, epoch := (w.epoch + 1) % 256, armedAt := s.time, missed := 0, partnerHot := false, dirty := [], windows := w.windows.map (fun x => (x.1, { x.2 with st := .tracked })) })
  raiseEv 473 cause 2 [] (shiftLanes .quiet .active true t)

/-- The member fences itself (Table 6.12): the queued writes end locally with their pages marked (R244), HS transmitters idle, Backwater outputs off, TWIN_HB low, EV474. -/
def fence (s : State) : State :=
  let t := flushMirror (trackedEntry s)
  raiseEv 474 1 3 [] (modTwin t (fun w =>
    { w with role := .fenced, handover := false, armed := false, twinHb := false, windows := w.windows.map (fun x => (x.1, { x.2 with st := .inactive })) }))

/-- The member becomes the standby of an active partner: HS lanes QUIET, heartbeats counted from now. -/
def enterStandby (s : State) : State :=
  shiftLanes .active .quiet false (modTwin s (fun w => { w with role := .standbyHot, lastHb := s.time, missed := 0, armedAt := s.time }))

/-! ## Pairing (R241, R594) -/

/-- TWIN_PAIR. -/
def twinPairBody (v : Serving) (s : State) : Reply × State :=
  let f := pay v 4 1
  let ro := s.twin.role
  if 16384 ≤ pay v 0 2 ∨ 2 ≤ pay v 2 1 ∨ 2 ≤ pay v 3 1 ∨ 4 ≤ f ∨ (bit f 1 ∧ ¬ bit f 0) then (rc rcBadArg, s)
  else if bit f 0 ∧ ¬ s.dbg.fuses.cryptoS then (rc rcDenied, s)
  else if ro = .active ∨ ro = .standbyHot ∨ ro = .standbyStipple then (rc rcBadState, s)
  else if s.twin.pairing.isSome then (rc rcBusy, s)
  else
    match wakeFor 85 s with
    | none => (rc rcBadState, s)
    | some t =>
      if ¬ [64, 65, 66, 67].all (fun l => (laneOf t l).mode == 1 && (laneOf t l).rx == .up) then (rc rcBadState, t)
      else
        let (j, u) := startJob v 0xFFFF t
        let u := modPort 64 (fun x => if x.st = .disabled ∨ x.encrypt ≠ bit f 0 then { width := 4, st := .waitLanes, encrypt := bit f 0, keysel := x.keysel } else x) u
        (rc rcAccepted, modTwin u (fun w =>
          { w with pairId := pay v 0 2, member := pay v 2 1, encrypt := bit f 0, mirrorKeys := bit f 1, pairing := some (pay v 3 1, j, s.time) }))

/-- TWIN_PAIR. -/
def twinPair (s : State) : State := ferryServe 0x0802 5 noTarget twinPairBody s

/-- TWIN_PAIR. -/
def execTwinPair (s : State) : Host.Outcome State Fault Refusal := .next (twinPair s)

/-- The role a pairing ends in: STANDBY when the partner is ACTIVE; when both ask for ACTIVE, member 0 gets it (R241, R594). -/
def pairRole (want member : Nat) (p : PairReply) : Role :=
  if p.partnerActive then .standbyHot
  else if want = 0 ∧ (¬ p.partnerRequestsActive ∨ member = 0) then .active
  else .standbyHot

/-- Bytes of every page of the windows marked dirty: a window that becomes TRACKED on a member that is made ACTIVE by pairing (R595). -/
def allPages (s : State) : List Nat :=
  s.twin.windows.foldl (fun l w => l ++ (List.range (w.2.length / 4096)).map (fun i => w.2.start / 4096 + i)) []

/-- Fill a window's dirty bitmap (R595). -/
def fillBitmap (w : Window) (b : Byte) (s : State) : State := (hwWrite w.bitmap (List.replicate (w.length / 32768) b) s).getD s

/-- PAIRING_DONE: both members have paired over the Twin link, and M is measured. -/
def pairingDone (p : PairReply) (s : State) : State :=
  match s.twin.pairing with
  | none => s
  | some (want, job, _) =>
    if (portOf s 64).st = .up then
      let ro := pairRole want s.twin.member p
      let t := modTwin s (fun w => { w with pairing := none, m := p.m, armedAt := s.time, lastHb := s.time, missed := 0, handover := false })
      let t := modDelta t (fun d => { d with deviceId := s.twin.pairId })
      let t := if ro = .active then
          forAll s.twin.windows (fun u w => fillBitmap w.2 0xFF u) (modTwin t (fun w =>
            { w with role := .active, partnerHot := true, windows := w.windows.map (fun x => (x.1, { x.2 with st := .tracked })), dirty := allPages s }))
        else enterStandby t
      endJob job rcDone (leBytes 4 p.m ++ leBytes 1 (if ro = .active then 0 else 1)) t
    else s

/-- PAIRING_DONE. -/
def execPairingDone (p : PairReply) (s : State) : Host.Outcome State Fault Refusal := .next (pairingDone p s)

/-- PAIR_TIMEOUT: the partner has not paired within 1 s (R241). -/
def pairTimeout (s : State) : State :=
  match s.twin.pairing with
  | none => s
  | some (_, job, t0) =>
    if t0 + 1000 * msCycles ≤ s.time then
      let t := modTwin s (fun w => { w with pairing := none })
      endJob job rcTimeout [] (if s.twin.role = .unpaired then modPort 64 (fun _ => {}) t else t)
    else s

/-- PAIR_TIMEOUT. -/
def execPairTimeout (s : State) : Host.Outcome State Fault Refusal := .next (pairTimeout s)

/-! ## Heartbeats (R247 to R249) -/

/-- The member sends heartbeats. -/
def beats (s : State) : Bool := s.twin.role == .active || s.twin.role == .standbyHot

/-- HEARTBEAT_ARM: by Headwater while it serves, by hardware while SYS_FW_ACTIVATE pauses service; an ACTIVE member with FATAL_N and FATAL_FENCE is armed no more (R247, R565). -/
def heartbeatArm (s : State) : State :=
  if beats s && (s.ferry.ready || s.ferry.switchPending) && !(s.twin.role == .active && s.events.fatalN && s.events.fatalFence) then
    modTwin s (fun w => { w with armed := true, armedAt := s.time })
  else s

/-- HEARTBEAT_ARM. -/
def execHeartbeatArm (s : State) : Host.Outcome State Fault Refusal := .next (heartbeatArm s)

/-- ROLE of a heartbeat (R247). -/
def hbRole (w : Twin) : Nat := if w.handover then 3 else if w.role = .active then 1 else 2

/-- HEARTBEAT_SEND: every 100 µs when armed, with an edge of TWIN_HB; after HANDOVER the member fences itself (R247, R596). -/
def heartbeatSend (s : State) : State :=
  let w := s.twin
  if beats s ∧ w.armed ∧ w.lastSent + 100 * usCycles ≤ s.time then
    let t := modTwin s (fun x => { x with armed := false, lastSent := s.time, hbSeq := (x.hbSeq + 1) % 2 ^ 32, twinHb := !x.twinHb })
    let t := if (portOf s 64).st = .up then pushBlocks 64 [heartbeatBlock (hbRole w) w.member t.twin.hbSeq w.epoch] t else t
    if w.handover then twinDone 0x0804 (fence t) else t
  else s

/-- HEARTBEAT_SEND. -/
def execHeartbeatSend (s : State) : Host.Outcome State Fault Refusal := .next (heartbeatSend s)

/-- HEARTBEAT_ARM_TIMEOUT: no heartbeat armed for 200 µs on the active (Table 6.12). -/
def heartbeatArmTimeout (s : State) : State :=
  if s.twin.role = .active ∧ s.twin.armedAt + 200 * usCycles ≤ s.time then twinDone 0x0804 (fence s) else s

/-- HEARTBEAT_ARM_TIMEOUT. -/
def execHeartbeatArmTimeout (s : State) : Host.Outcome State Fault Refusal := .next (heartbeatArmTimeout s)

/-- EPOCH a is higher than b, signed modulo 256. -/
def epochAbove (a b : Nat) : Bool := let d := (a % 256 + 256 - b % 256) % 256; decide (0 < d ∧ d < 128)

/-- What a valid heartbeat means to a role (Table 6.12). -/
def heartbeatRole (h : Heartbeat) (s : State) : State :=
  match s.twin.role with
  | .active => if h.role = 1 ∧ (epochAbove h.epoch s.twin.epoch ∨ (h.epoch % 256 = s.twin.epoch % 256 ∧ s.twin.member = 1)) then twinDone 0x0804 (fence s) else s
  | .standbyHot =>
    if h.role = 3 then takeover 1 s
    else if pinSilent s then raiseEv 475 1 2 [] s
    else s
  | .fenced => if s.ferry.ready ∧ h.role = 1 then enterStandby s else s
  | _ => s

/-- A heartbeat is taken; a bad CRC8 discards it. -/
def readHeartbeat (h : Heartbeat) (s : State) : State :=
  if h.crcOk ∧ s.twin.role ≠ .unpaired then
    heartbeatRole h (modTwin s (fun w =>
      { w with lastHb := s.time, missed := 0, partnerActiveAt := if h.role = 1 then some s.time else w.partnerActiveAt, partnerHot := h.role == 2 }))
  else s

/-- HEARTBEAT_RECEIVE: the HEARTBEAT at the front of the Twin link's stream (R247). -/
def heartbeatReceive (s : State) : State :=
  match takeBlock 64 0xD3 s with
  | some (b, t) => readHeartbeat (heartbeatOf b) t
  | none => cleanStream 64 s

/-- HEARTBEAT_RECEIVE. -/
def execHeartbeatReceive (_note : Unit) (s : State) : Host.Outcome State Fault Refusal := .next (heartbeatReceive s)

/-- The partner is lost: a sender reset of its channel (R49); at the active its windows become TRACKED; the standby takes over when the pin is silent too (Table 6.12, R245). -/
def partnerLost (s : State) : State :=
  let t := if s.twin.missed = 3 then raiseEv 472 2 2 [] (senderResetChan 100 s) else s
  if s.twin.role = .active then flushMirror (trackedEntry (modTwin t (fun w => { w with partnerHot := false })))
  else if pinSilent s then takeover 1 t
  else if s.twin.missed = 3 then raiseEv 469 2 2 [] t
  else t

/-- HEARTBEAT_MISSED: each 110 µs without a valid heartbeat (R248). -/
def heartbeatMissed (s : State) : State :=
  if beats s ∧ s.twin.lastHb + 110 * usCycles * (s.twin.missed + 1) ≤ s.time then
    let t := modTwin s (fun w => { w with missed := w.missed + 1 })
    if t.twin.missed = 1 then raiseEv 472 1 1 [] t
    else if 3 ≤ t.twin.missed then partnerLost t
    else t
  else s

/-- HEARTBEAT_MISSED. -/
def execHeartbeatMissed (s : State) : Host.Outcome State Fault Refusal := .next (heartbeatMissed s)

/-- TWIN_HB_IN_EDGE. -/
def twinHbInEdge (s : State) : State := modTwin s (fun w => { w with lastEdge := s.time, edges := w.edges + 1 })

/-- TWIN_HB_IN_EDGE. -/
def execTwinHbInEdge (s : State) : Host.Outcome State Fault Refusal := .next (twinHbInEdge s)

/-! ## TWIN_SWITCHOVER (R596) -/

/-- A FENCED member may take over: no ACTIVE heartbeat for 330 µs, the pin silent for 250 µs. -/
def mayTakeOver (s : State) : Bool :=
  (match s.twin.partnerActiveAt with
    | some t => decide (t + 330 * usCycles ≤ s.time)
    | none => true) && pinSilent s

/-- TWIN_SWITCHOVER. -/
def switchoverBody (_ : Serving) (s : State) : Reply × State :=
  match s.twin.role with
  | .active => (rc rcDone, waitFor 1 (modTwin s (fun w => { w with handover := true })))
  | .fenced => if mayTakeOver s then (rc rcDone, takeover 1 s) else (rc rcBadState, s)
  | _ => (rc rcBadState, s)

/-- TWIN_SWITCHOVER. -/
def twinSwitchover (s : State) : State := ferryServe 0x0804 0 noTarget switchoverBody s

/-- TWIN_SWITCHOVER. -/
def execTwinSwitchover (s : State) : Host.Outcome State Fault Refusal := .next (twinSwitchover s)

/-! ## Mirror windows (R243 to R246, R595) -/

/-- A range lies in the DRAM window. -/
def inDram (a n : Nat) : Bool := decide (dramBase ≤ a ∧ a + n ≤ dramEnd)

/-- A range meets the sealed window. -/
def meetsSealed (s : State) (a n : Nat) : Bool := (sealedWin s).any (fun w => overlaps a n w.1 w.2)

/-- Windows but one. -/
def otherWindows (s : State) (i : Nat) : List Window := (s.twin.windows.filter (fun w => w.1 != i)).map (fun w => w.2)

/-- SET. -/
def mirrorSet (v : Serving) (s : State) : Reply × State :=
  let i := v.target
  let a := pay v 8 8
  let n := pay v 16 8
  let b := pay v 24 8
  let others := otherWindows s i
  let total : Nat := others.foldl (fun k w => k + w.length) n
  if n = 0 ∨ a % 1048576 ≠ 0 ∨ n % 1048576 ≠ 0 ∨ ¬ inDram a n ∨ 17179869184 < total ∨ b % 64 ≠ 0 ∨ ¬ inDram b (n / 32768) ∨ meetsSealed s b (n / 32768) ∨
      overlaps b (n / 32768) a n ∨ others.any (fun w => overlaps b (n / 32768) w.start w.length) then (rc rcBadArg, s)
  else if others.any (fun w => overlaps a n w.start w.length) then (rc rcConflict, s)
  else if 8 ≤ s.twin.windows.length then (rc rcNoResource, s)
  else
    let act := decide (s.twin.role = .active)
    let w : Window := { start := a, length := n, bitmap := b, st := if act then .tracked else .inactive }
    let t := modTwin s (fun x =>
      { x with windows := tset x.windows i w, dirty := if act then x.dirty ++ (List.range (n / 4096)).map (fun k => a / 4096 + k) else x.dirty })
    (rc rcDone, fillBitmap w (if act then 0xFF else 0) t)

/-- CLEAR: at once, or when the window's forwarded writes have completed. -/
def mirrorClear (v : Serving) (s : State) : Reply × State :=
  match tfind s.twin.windows v.target with
  | none => (rc rcDone, s)
  | some w =>
    if windowBusy s w then (rc rcDone, waitFor 1 (modTwin s (fun x => { x with windows := tset x.windows v.target { w with st := .inactive } })))
    else (rc rcDone, dropWindow v.target w s)

/-- RESYNC. -/
def mirrorResync (v : Serving) (s : State) : Reply × State :=
  if ¬ (s.twin.role = .active ∧ (portOf s 64).st = .up ∧ s.twin.partnerHot) then (rc rcBadState, s)
  else if s.twin.resyncJob.isSome then (rc rcBusy, s)
  else
    let (j, t) := startJob v 0xFFFF s
    (rc rcAccepted, modTwin t (fun w => { w with resyncJob := some j, copied := [] }))

/-- TWIN_MIRROR. -/
def twinMirrorBody (v : Serving) (s : State) : Reply × State :=
  let f := pay v 0 1
  if 2 < f ∨ ¬ payZero v 1 8 ∨ (f = 2 ∧ v.target ≠ 0xFFFF) ∨ (f < 2 ∧ 8 ≤ v.target) then (rc rcBadArg, s)
  else if f = 0 then mirrorSet v s
  else if f = 1 then mirrorClear v s
  else mirrorResync v s

/-- TWIN_MIRROR. -/
def twinMirror (s : State) : State := ferryServe 0x0803 32 (fun t => decide (t < 8 ∨ t = 0xFFFF)) twinMirrorBody s

/-- TWIN_MIRROR. -/
def execTwinMirror (s : State) : Host.Outcome State Fault Refusal := .next (twinMirror s)

/-- Flits in the mirror queue (R244). -/
def mirrorFlits (s : State) : Nat := s.twin.queue.foldl (fun n m => n + 1 + (m.data.length + 127) / 128) 0

/-- MIRROR_LAG: above 768 flits until below 256, at most once per 1 ms (R244). -/
def mirrorLag (s : State) : State :=
  let n := mirrorFlits s
  let lag := decide (768 < n) || (s.twin.lagging && decide (256 ≤ n))
  let t := modTwin s (fun w => { w with lagging := lag })
  if lag then raiseLimited 20100 msCycles 470 1 1 [] t else t

/-- The write a mirror entry becomes on the Twin link. -/
def mirrorPacket (s : State) (m : Mirrored) : Packet :=
  { pid := m.pkt.pid, src := 0x59, op := .wr, len := m.data.length, addr := m.addr, kid := m.pkt.kid, tag := m.channel, urg := m.pkt.urg, data := m.data, poison := m.pkt.poison, presentedAt := s.time }

/-- The first entry of a channel not sent yet becomes sent. -/
def markSent (l : List Mirrored) (c : Nat) : List Mirrored :=
  match l with
  | [] => []
  | m :: r => if m.channel = c ∧ ¬ m.sent then { m with sent := true } :: r else m :: markSent r c

/-- A channel's oldest write not yet forwarded enters the Twin link's transmit queue, in the order the channel accepted them (R243). -/
def forwardNext (c : Nat) (s : State) : State :=
  match s.twin.queue.find? (fun m => m.channel == c && !m.sent) with
  | none => s
  | some m =>
    let p := mirrorPacket s m
    if (portOf s 64).st = .up ∧ flitCount p ≤ roomOn (portOf s 64) 0 then
      let t := modPort 64 (fun x => { x with txq := x.txq ++ (flitsOf p).map (fun f => (0, { f with at_ := s.time })) }) s
      mirrorLag (modTwin t (fun w => { w with queue := markSent w.queue c }))
    else s

/-- A list without the first element of a kind. -/
def dropFirst {α : Type} (p : α → Bool) (l : List α) : List α := l.takeWhile (fun x => !(p x)) ++ (l.dropWhile (fun x => !(p x))).drop 1

/-- The partner has written a piece of a copied page: the last piece makes the page clean (R245; log entry 18). -/
def cleanCopied (m : Mirrored) (s : State) : State :=
  if m.copy && s.twin.copied.contains (m.addr / 4096) && !(s.twin.queue.any (fun x => x.copy && x.addr / 4096 == m.addr / 4096)) then clearDirty (m.addr / 4096) s else s

/-- The partner ends a channel's oldest forwarded write; any STATUS other than OK completes it locally, marks the page dirty and tracks every window (R243, R246). -/
def mirrorEnded (c : Nat) (st : Status) (s : State) : State :=
  let mine := fun (m : Mirrored) => m.channel == c && m.sent
  match s.twin.queue.find? mine with
  | none => s
  | some m =>
    let t := modTwin s (fun w => { w with queue := dropFirst mine w.queue })
    let t := if st = .ok then cleanCopied m t else trackedEntry (markDirty m.addr t)
    clearDone (mirrorLag (mirrorAnswer m t))

/-- MIRROR_COMPLETION: the oldest answer of the partner that has come (R243). -/
def mirrorCompletion (s : State) : State :=
  match s.twin.answers with
  | [] => s
  | (c, st) :: r => mirrorEnded c st (modTwin s (fun w => { w with answers := r }))

/-- MIRROR_COMPLETION. -/
def execMirrorCompletion (_note : Unit) (s : State) : Host.Outcome State Fault Refusal := .next (mirrorCompletion s)

/-- One 256-byte piece of a page as the Twin endpoint copies it: what its lines read as under KID 0, forwarded as a write of its own (log entry 18). -/
def copyPiece (page i : Nat) (s : State) : Mirrored :=
  let a := page * 4096 + 256 * i
  let (ch, loc) := (dramDecode s.dram.map a).getD (0, 0)
  let data := (List.range 4).foldl (fun d k => d ++ lineData s ch (loc / 64 + k) [] (a + 64 * k) s.freeCtr) []
  { pkt := { pid := 0, op := .wrp, len := 256, addr := a }, channel := ch, addr := a, data := data, copy := true, at_ := s.time }

/-- A channel still holds an accepted write to a page. -/
def pageQueued (s : State) (page : Nat) : Bool := s.dram.chans.any (fun c => (c.2.wq ++ c.2.merge).any (fun e => e.addr / 4096 == page))

/-- RESYNC_PAGE_COPY: one dirty page whose accepted writes are all in DRAM is copied; when none is dirty any more the windows are MIRRORED again (R245, R595). -/
def resyncPageCopy (s : State) : State :=
  match s.twin.resyncJob with
  | none => s
  | some j =>
    if s.twin.dirty = [] then
      let t := modTwin s (fun w => { w with resyncJob := none, copied := [], windows := w.windows.map (fun x => (x.1, { x.2 with st := if x.2.st = .tracked then .mirrored else x.2.st })) })
      endJob j rcDone [] (raiseEv 471 3 2 [] t)
    else
      match s.twin.dirty.find? (fun p => !(s.twin.copied.contains p) && !(pageQueued s p)) with
      | none => s
      | some page =>
        if mirrorFlits s + 48 ≤ 1024 then
          mirrorLag (modTwin s (fun w => { w with copied := w.copied ++ [page], queue := w.queue ++ (List.range 16).map (fun i => copyPiece page i s) }))
        else s

/-- RESYNC_PAGE_COPY. -/
def execResyncPageCopy (s : State) : Host.Outcome State Fault Refusal := .next (whileClocked 85 s (resyncPageCopy s))

end Sys2Proof.Machine
end

