-- ==== Sys2Proof/Machine/DramOps.lean ====
section
/-! DEFINITION. A DRAM channel: geometry, fixed parts, key choice, the sealed window, queues and their hazards, stored lines as reads find them (chapter 08, sections 10.1 to 10.5). -/

namespace Sys2Proof.Machine
open Sys2Proof

/-! ## Time and geometry (R161, R315, R324) -/

/-- Nanoseconds, or DRAM controller cycles, in Braid cycles, rounded up. -/
def nsCycles (n : Nat) : Nat := (8 * n + 4) / 5

/-- DRAM clock periods in Braid cycles, rounded up. -/
def nckCycles (a : Arrange) (n : Nat) : Nat := (8 * n + (a.rate - 1)) / max a.rate 1

/-- T of a read whose bank state costs `n` clock periods before the burst (R161). -/
def readT (a : Arrange) (n : Nat) : Nat := 48 + (8 * n + 64 + (a.rate - 1)) / max a.rate 1

/-- Bank-group bits of an arrangement (Table 8.1). -/
def bgBits (a : Arrange) : Nat := if a.width = 8 then 3 else 2

/-- Bank bits. -/
def bankBits (a : Arrange) : Nat := if a.density = 8 then 1 else 2

/-- Row bits. -/
def rowBits (a : Arrange) : Nat := if a.density = 32 then 17 else 16

/-- Bank number (rank, bank group, bank after XOR) and row of a channel-local line (R324). -/
def placeOf (a : Arrange) (line : Nat) : Nat × Nat :=
  let x := line / 64
  let bb := bankBits a
  let gb := bgBits a
  let row := x / 2 ^ (bb + gb) % 2 ^ rowBits a
  let bank := (x % 2 ^ bb) ^^^ (row % 2 ^ bb)
  let bg := (x / 2 ^ bb % 2 ^ gb) ^^^ (row / 2 ^ bb % 2 ^ gb)
  (x / 2 ^ (bb + gb + rowBits a) % 2 * 32 + bg * 4 + bank, row)

/-- Bank of a queue entry. -/
def bankOf (s : State) (c : Nat) (e : DEntry) : Nat := (placeOf (activeArr s c) e.line).1

/-- Row of a queue entry. -/
def rowOfEntry (s : State) (c : Nat) (e : DEntry) : Nat := (placeOf (activeArr s c) e.line).2

/-- Requester of a queue entry: its SRC, or 256 for every request of another device (R337). -/
def requesterOf (e : DEntry) : Nat := if e.far then 256 else e.src

/-! ## Events and counters (R362, R363) -/

/-- An event of a channel: group 0 ECC, 1 traffic, 2 hammer, 3 PHY. -/
def dramEv (c k cause sev : Nat) (detail : List Byte) (s : State) : State := raiseEv (128 + 4 * c + k) cause sev detail s

/-- A correctable error: at most once per 1 ms per channel, with the count (R350). -/
def eccCorrected (c : Nat) (s : State) : State :=
  raiseLimited (30000 + c) msCycles (128 + 4 * c) 1 0 [] (dramCount c 4 1 s)

/-- An uncorrectable line with its channel-local address (R351). -/
def eccUncorr (c line : Nat) (s : State) : State := dramEv c 0 2 2 (leBytes 6 (line * 64)) (dramCount c 5 1 s)

/-! ## Keys (R393 to R399, R418, R422) -/

/-- Data keys of a KID. -/
def keyOfKid (s : State) (kid : Nat) : List Byte := if kid = 0 then [] else (slotOf s kid).key.take 64

/-- MAC key of a sealed KID. -/
def macOfKid (s : State) (kid : Nat) : List Byte := (slotOf s kid).key.drop 64

/-- An alias KID names a bound tideline whose range holds the address. -/
def aliasOk (s : State) (kid addr : Nat) : Bool :=
  let t := tideOf s (kid - 56)
  t.st != .unbound && decide (t.start ≤ addr ∧ addr < t.start + t.length)

/-- A request with a KID may be accepted (R396). -/
def kidUsable (s : State) (kid addr : Nat) : Bool :=
  if kid = 0 then true else if kid < 56 then (slotOf s kid).st == .installed else aliasOk s kid addr

/-- A KID, or an alias through the KIDs it is bound to, is sealed. -/
def kidSealed (s : State) (kid : Nat) : Bool :=
  if kid = 0 then false
  else if kid < 56 then (slotOf s kid).sealedMode
  else
    let t := tideOf s (kid - 56)
    (slotOf s (if t.new = 0 then t.old else t.new)).sealedMode && (t.old != 0 || t.new != 0)

/-- The KID that a request's KID stands for when its access is issued (R399, R422); none when its alias is no longer bound. -/
def resolveKid (s : State) (c kid addr : Nat) : Option Nat :=
  if kid < 56 then some kid
  else if aliasOk s kid addr then
    let t := tideOf s (kid - 56)
    some (if addr < tget (dchX s c).bounds t.start (kid - 56) then t.new else t.old)
  else none

/-- Requests that Table 10.4 refuses. -/
def windowRefuses (s : State) (scour : Bool) (kid addr len : Nat) : Bool :=
  let hit := meetsSealed s addr (max len 1)
  !scour && (if kidSealed s kid then !(inWindow s addr) || inCounterArea s addr || inCounterArea s (addr + len - 1) else hit)

/-! ## The sealed window in a channel (R403, R406) -/

/-- A channel's share of the sealed window. -/
def shareOf (s : State) (c : Nat) : Option (Nat × Nat) := (sealedWin s).bind (fun w => (localSpans s c w.1 w.2).head?)

/-- 4 KiB page of a line, counted from the bottom of the share. -/
def pageOf (s : State) (c line : Nat) : Nat := (line * 64 - ((shareOf s c).getD (0, 0)).1) / 4096

/-- Key of a page's counter block. -/
def pageKey (c page : Nat) : Nat := c * 4194304 + page

/-- A page's counter block. -/
def pageCtr (s : State) (c page : Nat) : PageCtr := tget s.crypto.pages {} (pageKey c page)

/-- Change a page's counter block; the buffer's copy is then dirty (R410). -/
def modPageCtr (c page : Nat) (f : PageCtr → PageCtr) (s : State) : State :=
  modDchX c (fun x => { x with ctrDirty := ladd x.ctrDirty page }) (modCrypto s (fun y => { y with pages := tmod y.pages {} (pageKey c page) f }))

/-- A page lies under a lost counter block or node: number level * 2^24 + index, 8^level blocks below it. -/
def pageLost (s : State) (c page : Nat) : Bool := (dchX s c).lostPages.any (fun n => page / 8 ^ (n / 2 ^ 24) == n % 2 ^ 24)

/-- Writes to the page end DENIED (R414). -/
def pageFrozen (s : State) (c page : Nat) : Bool := (dchX s c).shareReadOnly || (dchX s c).frozenPages.contains page

/-- The line has not been written since the window was initialized (R406). -/
def sealedUnwritten (s : State) (c line : Nat) : Bool :=
  let p := pageCtr s c (pageOf s c line)
  p.major == 0 && tget p.minors 0 (line % 64) == 0

/-- The MAC of a stored sealed line verifies under a KID and the page's counters (R407, R408). -/
def macOk (s : State) (c line addr kid : Nat) (t : LineTag) : Bool :=
  let p := pageCtr s c (pageOf s c line)
  t.sealedLine && !t.undef && t.key == keyOfKid s kid && t.macKey == macOfKid s kid && t.addr == addr && t.major == p.major &&
  t.minor == tget p.minors 0 (line % 64) && errBytes (t.errs.filter (fun e => decide (72 ≤ e.1))) 80 == 0

/-- EV385 MAC_FAIL: at most once per 1 ms per channel, with the count (R415, R434). -/
def macFail (c kid addr : Nat) (s : State) : State :=
  raiseLimitedAt (some (0x10 + c)) (30100 + c) msCycles 385 1 2 (leBytes 1 c ++ leBytes 1 kid ++ leBytes 6 addr) s

/-! ## Tokens about counters (R410, R411) -/

/-- Tokens of a channel about counters that are under way. -/
def counterTokens (s : State) (c : Nat) : List Token :=
  s.braid.tokens.filter (fun t => match t.kind with
    | .counter ch _ _ => ch == c
    | _ => false)

/-- Send a token about a counter from a channel to the key manager. -/
def sendCounter (c n : Nat) (op : CounterOp) (s : State) : State :=
  modBraid s (fun b => { b with tokens := b.tokens ++ [{ id := b.nextPid, src := 0x10 + c, dst := 0x5A, kind := .counter c n op }], nextPid := b.nextPid + 1 })

/-- A counter token answers a channel's lookup. -/
def answerToken (t : Token) : Bool :=
  match t.kind with
  | .counter _ _ (.answer _) => true
  | _ => false

/-- The channel may send one more token: it has no more than 16 outstanding (R410). -/
def tokenRoom (s : State) (c : Nat) : Bool := decide (((counterTokens s c).filter (fun t => t.src == 0x10 + c || answerToken t)).length < 16)

/-- Ask for the counter block of a page that the counter buffer lacks (R410). -/
def askCounter (c page : Nat) (s : State) : State :=
  let toks := counterTokens s c
  if (dchX s c).ctrBuf.contains page ∨ ¬ tokenRoom s c ∨
      toks.any (fun t => match t.kind with
        | .counter _ n .lookup => n == page
        | .counter _ n (.answer _) => n == page
        | _ => false) then s
  else sendCounter c page .lookup s

/-! ## What a read finds (R349 to R352, R406 to R408, R415) -/

/-- Outcome of reading a stored line under a KID: STATUS, plaintext, corrected bytes, whether it was never written, whether its MAC was verified. -/
structure LineOut where
  st : Status := .ok
  data : List Byte := []
  corrected : Nat := 0
  unwritten : Bool := false
  verified : Bool := false
deriving DecidableEq, Repr

/-- Add the upsets that a read meets to the stored line. -/
def upsetLine (c line : Nat) (errs : List LineErr) (s : State) : State :=
  let t := lineTag s c line
  if errs.isEmpty || t.undef then s else setLineTag c line { t with errs := t.errs ++ errs.map (fun e => (e.index, e.mask)) } s

/-- Free values that a line with open content takes. -/
def useFree (t : LineTag) (s : State) : State := if t.undef || decide (4 < t.errs.length) then { s with freeCtr := s.freeCtr + 64 } else s

/-- What reads a line: a request, a scrub, a conversion, or a merging flush. -/
inductive Reader where
  | demand | scrub | convert | flush
deriving DecidableEq, Repr

/-- A flip mask that is armed applies to the next line written (R355). -/
def applyFlip (c line : Nat) (s : State) : State :=
  match (dchX s c).flip with
  | none => s
  | some (pairs, job) =>
    let t := setLineTag c line { lineTag s c line with errs := (lineTag s c line).errs ++ pairs } s
    let t := modDchX c (fun x => { x with flip := none, flipAddr := line * 64 % 2 ^ 34 }) t
    endJob? job rcDone [] (dramEv c 3 4 0 (leBytes 6 (line * 64)) t)

/-- Write a corrected line back, unless a write to it has been accepted (R350); a scrub's always (R356). Errors in the MAC of a sealed line stay (R349). -/
def writeBack (by_ : Reader) (c line : Nat) (s : State) : State :=
  let t := lineTag s c line
  let newer := ((dchOf s c).wq ++ (dchOf s c).merge).any (fun e => e.line == line)
  if by_ = .scrub ∨ (by_ = .demand ∧ newer = false) then
    applyFlip c line (dramCount c 1 1 (setLineTag c line { t with errs := if t.sealedLine then t.errs.filter (fun e => decide (72 ≤ e.1)) else [] } s))
  else s

/-- Check code of a stored line: its outcome, events and counts; a corrected line is written back (R349 to R352). CORRECTED is for demand reads (R350); a merging flush has the event of R354 alone. -/
def checkLine (by_ : Reader) (c line : Nat) (s : State) : LineRead × State :=
  let t := lineTag s c line
  let o := lineOutcome t (Config.freeNat s.freeCtr)
  match o with
  | .corrected n =>
    let lim := if t.sealedLine then 4 else 8
    let u := if n ≤ lim then writeBack by_ c line s else s
    (o, if by_ = .demand then eccCorrected c u else u)
  | .uncorr => (o, if by_ = .flush then s else eccUncorr c line s)
  | _ => (o, s)

/-- Bytes corrected by an outcome. -/
def correctedBytes (o : LineRead) : Nat :=
  match o with
  | .corrected n => n
  | _ => 0

/-- Read a stored line under a KID. -/
def readStored (by_ : Reader) (c line addr kid : Nat) (s : State) : LineOut × State :=
  let sealedKid := kid != 0 && (slotOf s kid).sealedMode
  let page := pageOf s c line
  if sealedKid && pageLost s c page then ({ st := .okPoison, data := lineData s c line (keyOfKid s kid) addr s.freeCtr }, s)
  else if sealedKid && sealedUnwritten s c line then ({ data := List.replicate 64 0, unwritten := true, verified := true }, s)
  else
    let data := lineData s c line (keyOfKid s kid) addr s.freeCtr
    let t := lineTag s c line
    let (o, u) := checkLine by_ c line s
    let v := useFree t u
    match o with
    | .uncorr => ({ st := .uncorrectable }, v)
    | .poisoned => ({ st := .okPoison, data := data }, v)
    | _ =>
      if sealedKid && !(macOk s c line addr kid t) then ({ st := .okPoison, data := data, corrected := correctedBytes o }, macFail c kid addr v)
      else ({ data := data, corrected := correctedBytes o, verified := sealedKid }, v)

/-! ## Writing a line (R352 to R355, R399, R409) -/

/-- All 64 bytes. -/
def fullMask : Nat := 2 ^ 64 - 1

/-- Write a line's plaintext to the components under a KID: sealed lines take the next minor counter (R409); a lost page's lines are stored poisoned (R415). -/
def writeLine (c line addr kid : Nat) (data : List Byte) (poison : Bool) (s : State) : State :=
  let t := dramCount c 1 1 s
  if kid ≠ 0 ∧ (slotOf s kid).sealedMode then
    let page := pageOf s c line
    let u := modPageCtr c page (fun p => { p with minors := tset p.minors (line % 64) (tget p.minors 0 (line % 64) + 1) }) t
    let p := pageCtr u c page
    applyFlip c line (storeLine c line data { poisoned := poison || pageLost s c page, key := keyOfKid s kid, addr := addr, sealedLine := true, major := p.major, minor := tget p.minors 0 (line % 64), macKey := macOfKid s kid } u)
  else applyFlip c line (storeLine c line data { poisoned := poison, key := keyOfKid s kid, addr := addr } t)

/-- Perform a write entry: a partial one reads the line and merges (R353, R354); one whose alias is no longer bound is dropped (R396). -/
def performWrite (c : Nat) (e : DEntry) (s : State) : State :=
  match resolveKid s c e.kid e.addr with
  | none => s
  | some kid =>
    if e.mask = fullMask then writeLine c e.line e.addr kid e.data e.poison s
    else
      let (r, t) := readStored .flush c e.line e.addr kid (dramCount c 7 1 (dramCount c 0 1 s))
      let bad := decide (r.st ≠ .ok)
      let macBad := kid != 0 && (slotOf s kid).sealedMode && r.st == .okPoison && !(lineTag s c e.line).poisoned
      let t := if r.st = .uncorrectable ∨ macBad then dramEv c 0 3 2 (leBytes 6 (e.line * 64)) t else t
      let base := if r.st = .uncorrectable then lineBytes s c e.line else r.data
      writeLine c e.line e.addr kid (overlayBytes (padTo 64 base) e.data e.mask) (e.poison || bad) t

/-! ## Queues (R325 to R329, R353) -/

/-- Change the queues of a channel and note the mode of R333: writes first from 96 entries down to 32. -/
def modQueues (c : Nat) (f : Chan → Chan) (s : State) : State :=
  modDch c (fun h =>
    let g := f h
    { g with writeFirst := if 96 ≤ g.wq.length then true else if g.wq.length ≤ 32 then false else g.writeFirst }) s

/-- Number of the next acceptance. -/
def nextSeq (c : Nat) (s : State) : Nat × State := ((dchX s c).nextSeq, modDchX c (fun x => { x with nextSeq := x.nextSeq + 1 }) s)

/-- Flush a merge entry: it enters the write queue, in its order of acceptance (R328, R353). -/
def flushMerge (c : Nat) (e : DEntry) (s : State) : State :=
  let g := { e with kind := if e.mask = fullMask then .write else .mergeFlush }
  modQueues c (fun h => { h with merge := h.merge.filter (fun x => x.seq != e.seq), wq := h.wq ++ [g] }) s

/-- Flush the merge entries that satisfy a condition. -/
def flushWhere (c : Nat) (p : DEntry → Bool) (s : State) : State := forAll ((dchOf s c).merge.filter p) (fun t e => flushMerge c e t) s

/-- Track a new write in the hazard CAM, or not when it is full (R328). -/
def trackWrite (c : Nat) (e : DEntry) (s : State) : DEntry × State :=
  if (dchOf s c).cam < 64 then ({ e with untracked := false }, modDch c (fun h => { h with cam := h.cam + 1 }) s) else ({ e with untracked := true }, s)

/-- A full line enters the write queue; the line's merge entry goes first. -/
def enterFull (c : Nat) (e : DEntry) (s : State) : State :=
  let t := flushWhere c (fun x => x.line == e.line) s
  let (n, t) := nextSeq c t
  let (g, t) := trackWrite c { e with seq := n } t
  modQueues c (fun h => { h with wq := h.wq ++ [g] }) t

/-- A partial line joins the entry of its line and KID, or takes a new one (R353). -/
def enterPartial (c : Nat) (e : DEntry) (s : State) : State :=
  let t := flushWhere c (fun x => x.line == e.line && x.kid != e.kid) s
  match (dchOf t c).merge.find? (fun x => x.line == e.line) with
  | some x =>
    let y := { x with data := overlayBytes x.data e.data e.mask, mask := x.mask ||| e.mask, poison := x.poison || e.poison }
    let u := modDch c (fun h => { h with merge := h.merge.map (fun z => if z.seq = x.seq then y else z) }) t
    if y.mask = fullMask then flushMerge c y u else u
  | none =>
    let u := if 32 ≤ (dchOf t c).merge.length then (match (dchOf t c).merge with
      | o :: _ => flushMerge c o t
      | [] => t) else t
    let (n, u) := nextSeq c u
    let (g, u) := trackWrite c { e with seq := n } u
    modQueues c (fun h => { h with merge := h.merge ++ [g] }) u

/-- The bytes that the accepted writes of a line leave over the stored ones: mask, bytes, poison (R326, R327). Writes before an ATOM of the line that has still to come are not among them: the ATOM sees them, and the read the ATOM (R325). -/
def coverOf (s : State) (c line : Nat) : Nat × List Byte × Bool :=
  let h := dchOf s c
  let from_ := ((h.rq ++ h.inProgress.map (fun a => a.e)).filter (fun e => e.line == line && e.kind == .atom)).foldl (fun n e => max n e.seq) 0
  let ws := ((h.wq ++ h.merge).filter (fun e => e.line == line && decide (from_ ≤ e.seq)))
  (ws.foldl (fun m e => m ||| e.mask) 0, ws.foldl (fun d e => overlayBytes d e.data e.mask) (List.replicate 64 0), ws.any (fun e => e.poison))

/-- Lines of a request: part, line, device address of the line, mask (R325). -/
def requestLines (p : Packet) (loc : Nat) : List (Nat × Nat × Nat × Nat) :=
  let o := p.addr % 64
  (List.range ((o + max p.len 1 + 63) / 64)).map (fun i =>
    let lo := if i = 0 then o else 0
    let hi := min 64 (o + max p.len 1 - 64 * i)
    (i, loc / 64 + i, (p.addr / 64 + i) * 64, 2 ^ hi - 2 ^ lo))

/-- The 64 bytes of a request's data that fall into part `i`. -/
def partData (p : Packet) (i : Nat) : List Byte :=
  (List.range 64).map (fun j => if p.addr % 64 ≤ 64 * i + j then p.data.getD (64 * i + j - p.addr % 64) 0 else 0)

/-- A data flit with POISON reaches the line of an address. -/
def partPoison (p : Packet) (addr : Nat) : Bool := p.poison.any (fun f => overlaps (p.addr + 128 * f) (min 128 (p.len - 128 * f)) addr 64)

/-- Entry of one line of a request. -/
def lineEntry (p : Packet) (kind : DKind) (x : Nat × Nat × Nat × Nat) (now : Nat) : DEntry :=
  { pid := p.pid, kind := kind, line := x.2.1, addr := x.2.2.1, kid := p.kid, hint := p.pageHint, src := p.src, data := partData p x.1, mask := x.2.2.2, poison := partPoison p x.2.2.1, at_ := now, part := x.1, off := p.addr % 64, width := p.len, far := p.far }

/-! ## Answers -/

/-- A request of several lines ends when its last line has: the STATUS, the data in order, the POISON of its data flits. Reopening a row goes into WAIT (R332). -/
def finishRequest (c : Nat) (d : DPending) (s : State) : State :=
  let t := modDch c (fun h => { h with pending := h.pending.filter (fun x => x.pid != d.pid) }) s
  let good := decide (d.status = .ok ∨ d.status = .okPoison)
  let bytes := (List.range 9).foldl (fun l i => l ++ ((d.data.find? (fun x => x.1 == i)).map (·.2)).getD []) []
  let t := if d.status = .okPoison then dramCount c 6 1 t else t
  respond (0x10 + c) { d.pkt with wait := min 0xFFFF (d.pkt.wait + d.extra) } d.at_ (d.t + d.extra) d.status (if good then bytes else []) (if good then d.poison else []) (good && d.sealedOk) t

/-- The worse of two line STATUSes. -/
def worse (a b : Status) : Status :=
  if a = .keyRetired ∨ b = .keyRetired then .keyRetired
  else if a = .uncorrectable ∨ b = .uncorrectable then .uncorrectable
  else if a = .okPoison ∨ b = .okPoison then .okPoison
  else a

/-- A line of a request has been read. -/
def finishLine (c : Nat) (e : DEntry) (t : Nat) (st : Status) (bytes : List Byte) (verified : Bool) (s : State) : State :=
  match (dchOf s c).pending.find? (fun d => d.pid == e.pid) with
  | none => s
  | some d =>
    let flit := (64 * e.part + 63 - d.pkt.addr % 64) / 128
    let flits := if st = .okPoison then [(64 * e.part - d.pkt.addr % 64) / 128, flit] else []
    let last := (d.pkt.len - 1) / 128
    let g := { d with left := d.left - 1, status := worse d.status st, data := d.data ++ [(e.part, bytes)], poison := (d.poison ++ flits.map (fun f => min f last)).eraseDups, t := max d.t t, extra := max d.extra e.extra, sealedOk := d.sealedOk && verified }
    if g.left = 0 then finishRequest c g s
    else modDch c (fun h => { h with pending := h.pending.map (fun x => if x.pid = e.pid then g else x) }) s

/-- The bytes asked for are wholly covered by what the queues hold (R327). -/
def covered (e : DEntry) : Bool := e.cover &&& e.mask == e.mask

/-- Bytes of a read line that the request asked for. -/
def askedBytes (e : DEntry) (line : List Byte) : List Byte := ((List.range 64).filter (fun j => bit e.mask j)).map (fun j => line.getD j 0)

end Sys2Proof.Machine
end

