-- ==== Sys2Proof/Machine/Dram.lean ====
section
/-! DEFINITION. Steps of the DRAM channels (chapter 08; R396, R404, R413, R422 to R424 of chapter 10). -/

namespace Sys2Proof.Machine
open Sys2Proof

/-! ## Acceptance (R325 to R330) -/

/-- A request of Scour. -/
def fromScour (p : Packet) : Bool := p.src == 0x02 && !p.far

/-- A request of Tideline. -/
def fromTideline (p : Packet) : Bool := p.src == 0x03 && !p.far

/-- The request writes. -/
def writes (p : Packet) : Bool := p.op == .wr || p.op == .wrp || p.op == .atom

/-- What a mirror window does with a write: 0 nothing, 1 forward it, 2 mark its page dirty (R243, R245, R595). -/
def mirrorMode (s : State) (a : Nat) : Nat :=
  match windowAt s a with
  | none => 0
  | some (_, w) =>
    match w.st with
    | .inactive => 0
    | .mirrored => 1
    | .tracked => if s.twin.resyncJob.isSome && s.twin.copied.contains (a / 4096) then 1 else 2

/-- STATUS with which the channel ends a request at once (R243, R396, R404, R414). -/
def dramRefusal (s : State) (c : Nat) (p : Packet) (loc : Nat) : Option Status :=
  let last := p.addr + max p.len 1 - 1
  if !(kidUsable s p.kid p.addr && kidUsable s p.kid last) then some .keyRetired
  else if windowRefuses s (fromScour p) p.kid p.addr p.len then some .denied
  else if writes p && kidSealed s p.kid && pageFrozen s c (pageOf s c (loc / 64)) then some .denied
  else if writes p && p.kid != 0 && !s.twin.encrypt && mirrorMode s p.addr != 0 then some .denied
  else none

/-- Queue entries and reads in progress of a channel. -/
def busyEntries (s : State) (c : Nat) : List DEntry := (dchOf s c).rq ++ (dchOf s c).wq ++ (dchOf s c).inProgress.map (fun a => a.e)

/-- A line is held by a conversion (R424). -/
def lineHeld (s : State) (c line : Nat) : Bool := (busyEntries s c).any (fun e => e.line == line && e.kind == .convert)

/-- Write-queue entries that the lines of a WR or WRP take: one for each full line, and one for each merge entry they flush: that of a full line, of another KID, one they fill, and the oldest ones where 32 do not suffice (R325, R353). -/
def writeNeed (h : Chan) (kid : Nat) (lines : List (Nat × Nat × Nat × Nat)) : Nat :=
  let part := lines.filter (fun x => x.2.2.2 != fullMask)
  let fills := fun (e : DEntry) => part.any (fun x => x.2.1 == e.line && (e.kid != kid || (e.mask ||| x.2.2.2) == fullMask))
  let flushed := (h.merge.filter (fun e => lines.any (fun x => x.2.1 == e.line && x.2.2.2 == fullMask) || fills e)).length
  let fresh := (part.filter (fun x => !(h.merge.any (fun e => e.line == x.2.1 && e.kid == kid)))).length
  (lines.length - part.length) + flushed + (h.merge.length - flushed + fresh - 32)

/-- Read-queue entries in use: a read that is served from the queues holds its own until it is answered (R325, R327). -/
def readsHeld (h : Chan) : Nat := h.rq.length + (h.inProgress.filter (fun a => a.e.kind == .read && covered a.e)).length

/-- Entries of the queues that the request needs are free; a throttled requester holds no more than 8 (R325, R337). -/
def dramRoom (s : State) (c : Nat) (p : Packet) (lines : List (Nat × Nat × Nat × Nat)) : Bool :=
  let h := dchOf s c
  let n := lines.length
  let joins := (h.merge.filter (fun e => lines.any (fun x => x.2.1 == e.line))).length
  let who := if p.far then 256 else p.src
  let mine := ((h.rq ++ h.wq ++ h.merge).filter (fun e => requesterOf e == who)).length
  (if p.op = .wr ∨ p.op = .wrp then decide (h.wq.length + writeNeed h p.kid lines ≤ 128)
   else decide (readsHeld h + n ≤ 64 ∧ (p.op = .rd ∨ h.wq.length + joins ≤ 128))) &&
  (!(h.throttled.contains who) || decide (mine + n ≤ 8))

/-- The delivered request is the first of its source and VC at the channel (R87). -/
def firstOfSource (s : State) (d : Delivered) : Bool :=
  (s.braid.inbox.find? (fun e => e.ep == d.ep && e.pkt.src == d.pkt.src && e.pkt.vc == d.pkt.vc && e.pkt.far == d.pkt.far && e.pkt.srcDev == d.pkt.srcDev)).any (fun e => e.pkt.pid == d.pkt.pid)

/-- Traffic noted for self-refresh and the imbalance window (R340, R360). -/
def noteLines (c n : Nat) (s : State) : State := modDchX c (fun x => { x with lastReq := s.time, linesWin := x.linesWin + n }) s

/-- Put a read whose bank and row match an untracked write into in-order mode (R328). -/
def noteFallback (c : Nat) (e : DEntry) (s : State) : State :=
  let h := dchOf s c
  let b := bankOf s c e
  if (h.wq ++ h.merge).any (fun w => w.untracked && bankOf s c w == b && rowOfEntry s c w == rowOfEntry s c e) && !(h.inOrder.contains b) then
    dramEv c 1 1 1 [] (dramCount c 8 1 (modDch c (fun g => { g with inOrder := ladd g.inOrder b }) s))
  else s

/-- One line of a read, ATOM, scrub or conversion is accepted: what earlier writes leave is noted (R326); a line they cover wholly is served from them, no earlier than a page hit (R161, R327). -/
def acceptReadLine (c : Nat) (p : Packet) (kind : DKind) (s : State) (x : Nat × Nat × Nat × Nat) : State :=
  let s := if kind = .atom ∨ kind = .convert then flushWhere c (fun e => e.line == x.2.1) s else s
  let (m, bytes, bad) := if kind = .scrub then (0, [], false) else coverOf s c x.2.1
  let (n, t) := nextSeq c s
  let e := { lineEntry p kind x s.time with data := if kind = .atom then p.data else bytes, cover := m, poison := bad, seq := n }
  let t := if kidSealed t e.kid then askCounter c (pageOf t c e.line) t else t
  let t := noteFallback c e t
  if kind = .read ∧ covered e then
    modDch c (fun h => { h with inProgress := h.inProgress ++ [{ e := e, kid := e.kid, t := readT (activeArr t c) (activeArr t c).tCL + (if kidSealed t e.kid then 16 else 0) }] }) t
  else modQueues c (fun h => { h with rq := h.rq ++ [e] }) t

/-- Accept a request that is answered when its lines have been read. -/
def acceptRead (c : Nat) (d : Delivered) (kind : DKind) (lines : List (Nat × Nat × Nat × Nat)) (s : State) : State :=
  let t := modDch c (fun h => { h with pending := h.pending ++ [{ pid := d.pkt.pid, left := lines.length, pkt := d.pkt, at_ := d.at_, sealedOk := true }] }) s
  forAll lines (acceptReadLine c d.pkt kind) (noteLines c lines.length (inboxDrop d.pkt.pid t))

/-- A write's lines enter the queues. -/
def enterLines (c : Nat) (p : Packet) (lines : List (Nat × Nat × Nat × Nat)) (s : State) : State :=
  forAll lines (fun t x =>
    let full := decide (x.2.2.2 = fullMask)
    let e := lineEntry p .write x t.time
    let t := if kidSealed t e.kid then askCounter c (pageOf t c e.line) t else t
    if full then enterFull c e t else enterPartial c e t) (noteLines c lines.length s)

/-- The write as the Twin endpoint forwards it. -/
def mirrorOf (c : Nat) (p : Packet) (at_ t : Nat) (data old : List Byte) : Mirrored :=
  { pkt := p, channel := c, addr := p.addr, data := data, at_ := at_, t := t, old := old }

/-- Accepted ATOMs that will forward the value they write. -/
def atomsComing (s : State) : Nat :=
  s.dram.chans.foldl (fun n c => n + ((c.2.rq ++ c.2.inProgress.map (fun a => a.e)).filter (fun e => e.kind == .atom && mirrorMode s (e.addr + e.off) == 1)).length) 0

/-- The mirror queue of 1 024 flits takes a write, beside the ATOMs under way (R244). -/
def mirrorRoom (s : State) (n : Nat) : Bool := decide (mirrorFlits s + 2 * atomsComing s + 1 + (n + 127) / 128 ≤ 1024)

/-- Accept a write: its response leaves at acceptance, that of a mirrored write when the partner has written (R161, R243, R326). -/
def acceptWrite (c : Nat) (p : Packet) (at_ : Nat) (lines : List (Nat × Nat × Nat × Nat)) (s : State) : State :=
  let m := mirrorMode s p.addr
  let t := enterLines c p lines s
  if m = 1 then mirrorLag (modTwin t (fun w => { w with queue := w.queue ++ [mirrorOf c p at_ 20 (padTo p.len p.data) []] }))
  else
    let t := if m = 2 then markDirty p.addr t else t
    if nonPosted p.op then respond (0x10 + c) p at_ 20 .ok [] [] false t else t

/-- A write that the Twin endpoint cannot take goes into the mirror hold (R329). -/
def holdWrite (c : Nat) (d : Delivered) (s : State) : State :=
  let t := modDch c (fun h => { h with hold := h.hold ++ [{ d.pkt with presentedAt := d.at_ }] }) (inboxDrop d.pkt.pid s)
  if (dchOf t c).hold.length = 16 then modDchX c (fun x => { x with holdFull := some s.time }) t else t

/-- A write or ATOM that the Twin endpoint cannot take (R244, R329). -/
def mirrorFull (s : State) (p : Packet) : Bool := writes p && mirrorMode s p.addr == 1 && !(mirrorRoom s p.len)

/-- Accept a delivered request by its kind. -/
def acceptRequest (c : Nat) (d : Delivered) (loc : Nat) (s : State) : State :=
  let p := d.pkt
  let lines := requestLines p loc
  if mirrorFull s p then holdWrite c d s
  else
    match p.op with
    | .rd => acceptRead c d (if fromScour p then .scrub else if fromTideline p ∧ 56 ≤ p.kid then .convert else .read) lines s
    | .atom => acceptRead c d .atom lines s
    | _ => acceptWrite c p d.at_ lines (inboxDrop p.pid s)

/-- DRAM_REQUEST_ACCEPT: the channel is active, its mirror hold has room, the queues have entries, the lines are not held; else the request waits in Braid. -/
def dramRequestAccept (c pid : Nat) (s : State) : State :=
  match inboxFind s (0x10 + c) pid with
  | none => s
  | some d =>
    match dramDecode s.dram.map d.pkt.addr with
    | none => s
    | some (_, loc) =>
      let h := dchOf s c
      let lines := requestLines d.pkt loc
      if c < 16 ∧ h.pwr = .active ∧ h.hold.length < 16 ∧ firstOfSource s d then
        match dramRefusal s c d.pkt loc with
        | some st => respondInbox d 20 st [] s
        | none => if dramRoom s c d.pkt lines && !(lines.any (fun x => lineHeld s c x.2.1)) then acceptRequest c d loc s else s
      else s

/-- DRAM_REQUEST_ACCEPT. -/
def execDramRequestAccept (c pid : Nat) (s : State) : Host.Outcome State Fault Refusal := .next (whileClocked (46 + c) s (dramRequestAccept c pid s))

/-- A held write leaves the mirror hold when the Twin endpoint has room for it (R329). -/
def unhold (c : Nat) (s : State) : State :=
  match (dchOf s c).hold with
  | [] => s
  | p :: r =>
    match dramDecode s.dram.map p.addr with
    | none => modDch c (fun h => { h with hold := r }) s
    | some (_, loc) =>
      let lines := requestLines p loc
      if ¬ mirrorFull s p ∧ dramRoom s c p lines ∧ ¬ lines.any (fun x => lineHeld s c x.2.1) then
        let t := match (dchX s c).holdFull with
          | some t0 => modDchX c (fun x => { x with holdFull := none, ctr := tadd x.ctr 12 ((s.time - t0) * 5 / 8) }) s
          | none => s
        acceptRequest c { ep := 0x10 + c, pkt := p, at_ := p.presentedAt } loc (modDch c (fun h => { h with hold := r }) t)
      else s

/-- MIRROR_FORWARD: a channel's oldest mirrored write goes to the Twin link; the hold follows as room appears (R243, R329). -/
def mirrorForward (c : Nat) (s : State) : State := unhold c (forwardNext c s)

/-- MIRROR_FORWARD. -/
def execMirrorForward (c : Nat) (s : State) : Host.Outcome State Fault Refusal := .next (whileClocked 85 s (mirrorForward c s))

/-! ## Issue (R331 to R337) -/

/-- Older entries of the line of an entry. -/
def olderSame (s : State) (c : Nat) (e : DEntry) : Bool := (busyEntries s c).any (fun x => x.line == e.line && decide (x.seq < e.seq))

/-- The open row of a bank. -/
def rowAt (s : State) (c b : Nat) : Option OpenRow := tfind (dchOf s c).rows b

/-- The access finds its row open. -/
def rowHit (s : State) (c : Nat) (e : DEntry) : Bool := (rowAt s c (bankOf s c e)).any (fun r => r.row == rowOfEntry s c e && !r.shut)

/-- A throttled requester may activate a row (R337). -/
def mayActivate (s : State) (c : Nat) (e : DEntry) : Bool :=
  let h := dchOf s c
  !(h.throttled.contains (requesterOf e)) || (match tfind h.lastThrottledAct (requesterOf e) with
    | some t => decide (t + nsCycles h.hammer.actGap ≤ s.time)
    | none => true)

/-- The counters of a sealed access are verified, and a write does not take a minor counter past 127 (R408, R411, R413). -/
def countersReady (s : State) (c : Nat) (e : DEntry) : Bool :=
  let page := pageOf s c e.line
  !(kidSealed s e.kid) || ((dchX s c).ctrBuf.contains page &&
    (!(e.kind == .write || e.kind == .mergeFlush || e.kind == .atom || e.kind == .convert) || decide (tget (pageCtr s c page).minors 0 (e.line % 64) < 127)))

/-- An ATOM of the line, accepted before, has still to write (R325). -/
def behindAtom (s : State) (c : Nat) (e : DEntry) : Bool := (busyEntries s c).any (fun x => x.line == e.line && x.kind == .atom && decide (x.seq < e.seq))

/-- An entry may be issued now. -/
def eligible (s : State) (c : Nat) (e : DEntry) : Bool :=
  let h := dchOf s c
  let ordered := e.kind == .write || e.kind == .mergeFlush || e.kind == .atom || e.kind == .convert
  (!ordered || !(olderSame s c e)) && !(behindAtom s c e) && countersReady s c e && (rowHit s c e || mayActivate s c e) &&
  (!(h.inOrder.contains (bankOf s c e)) || (h.rq ++ h.wq).all (fun x => bankOf s c x != bankOf s c e || decide (e.seq ≤ x.seq))) &&
  (e.kind != .convert || decide (h.wq.length < 128))

/-- The entry accepted first. -/
def oldest (l : List DEntry) : Option DEntry :=
  l.foldl (fun m e => match m with
    | none => some e
    | some x => if e.seq < x.seq then some e else some x) none

/-- The direction in force first, older before younger (R333). -/
def bestOf (s : State) (c : Nat) (l : List DEntry) : Option DEntry :=
  match oldest (l.filter (fun e => decide (e.kind = .write ∨ e.kind = .mergeFlush) == (dchOf s c).writeFirst)) with
  | some e => some e
  | none => oldest l

/-- The scheduler's choice (R333): requests past AGE_CAP, the oldest first; then page hits before others, the direction in force before the other, older before younger. -/
def nextAccess (s : State) (c : Nat) : Option DEntry :=
  let h := dchOf s c
  let l := (h.rq ++ h.wq).filter (eligible s c)
  match oldest (l.filter (fun e => decide (e.at_ + nsCycles (activeArr s c).ageCap < s.time))) with
  | some e => some e
  | none =>
    match bestOf s c (l.filter (rowHit s c)) with
    | some e => some e
    | none => bestOf s c l

/-- Clock periods before the burst: page hit, also of a row shut for refresh while kept open (R332), miss or conflict (R161). -/
def accessCost (s : State) (c : Nat) (e : DEntry) : Nat :=
  let a := activeArr s c
  match rowAt s c (bankOf s c e) with
  | none => a.tRCD + a.tCL
  | some r => if r.row = rowOfEntry s c e then a.tCL else if r.shut then a.tRCD + a.tCL else a.tRP + a.tRCD + a.tCL

/-- Braid cycles that reopening a shut row adds to a page hit: they go into WAIT (R332). -/
def reopenCost (s : State) (c : Nat) (e : DEntry) : Nat :=
  if (rowAt s c (bankOf s c e)).any (fun r => r.row == rowOfEntry s c e && r.shut) then nckCycles (activeArr s c) (activeArr s c).tRCD else 0

/-- An activate: counted per requester, throttled at ACT_MAX (R337). -/
def countActivate (c : Nat) (e : DEntry) (s : State) : State :=
  let h := dchOf s c
  let who := requesterOf e
  let n := tget h.acts 0 who + 1
  let hot := decide (h.hammer.actMax ≠ 0 ∧ h.hammer.actMax ≤ n) && !(h.throttled.contains who)
  let t := modDch c (fun g =>
    { g with acts := tset g.acts who n, throttled := if hot then g.throttled ++ [who] else g.throttled, lastThrottledAct := if hot || h.throttled.contains who then tset g.lastThrottledAct who s.time else g.lastThrottledAct }) (dramCount c 2 1 s)
  if hot then dramEv c 2 1 1 (leBytes 2 who) (if h.throttled.isEmpty then dramCount c 9 1 t else t) else t

/-- Refresh management closes a bank's row; one that a PAGE_HINT 1 request opened reopens as a hit (R332). -/
def shutRow (c b : Nat) (s : State) : State :=
  modDch c (fun h => match tfind h.rows b with
    | none => h
    | some r => { h with rows := if r.opener = 1 then tset h.rows b { r with shut := true } else tdel h.rows b }) s

/-- The draw of R335, deferred while the bank has had fewer than 8 activates since its last refresh management (R336). -/
def drawRfm (c b draw : Nat) (s : State) : State :=
  let h := dchOf s c
  let n := tget h.sinceRfm 8 b + 1
  let due := h.rfmDue.contains b || (h.hammer.prob != 0 && draw % 2 ^ h.hammer.prob == 0)
  if due ∧ 8 ≤ n then dramCount c 3 1 (shutRow c b (modDch c (fun g => { g with sinceRfm := tset g.sinceRfm b 0, rfmDue := ldel g.rfmDue b }) s))
  else modDch c (fun g => { g with sinceRfm := tset g.sinceRfm b n, rfmDue := if due then ladd g.rfmDue b else g.rfmDue }) s

/-- The row of an access afterwards: open under the policy of its PAGE_HINT, or closed with the access (Table 8.6). A precharge that waits for this access follows it. A row that stays open, or reopens, keeps the hint of the request that opened it (R332). -/
def leaveRow (c : Nat) (e : DEntry) (s : State) : State :=
  let b := bankOf s c e
  let r := rowOfEntry s c e
  let before := (rowAt s c b).filter (fun x => x.row == r)
  let wanted := (oldest (((dchOf s c).rq ++ (dchOf s c).wq).filter (fun x => bankOf s c x == b))).any (fun x => rowOfEntry s c x == r)
  let keep := if e.hint = 2 then wanted else !(before.any (fun x => x.closing))
  modDch c (fun h =>
    { h with rows := if keep then tset h.rows b { row := r, hint := e.hint, last := s.time, opener := (before.map (fun x => x.opener)).getD e.hint, closing := e.hint == 2 } else tdel h.rows b }) s

/-- Take an entry out of the queues; a tracked write leaves the CAM, banks without untracked writes leave in-order mode (R328). -/
def leaveQueues (c : Nat) (e : DEntry) (s : State) : State :=
  let isWrite := decide (e.kind = .write ∨ e.kind = .mergeFlush)
  let t := modQueues c (fun h =>
    { h with rq := h.rq.filter (fun x => x.seq != e.seq), wq := h.wq.filter (fun x => x.seq != e.seq), cam := if isWrite && !e.untracked then h.cam - 1 else h.cam }) s
  modDch c (fun h => { h with inOrder := h.inOrder.filter (fun b => (h.wq ++ h.merge).any (fun w => w.untracked && bankOf t c w == b)) }) t

/-- Issue an entry. -/
def issueEntry (c : Nat) (e : DEntry) (draw : Nat) (s : State) : State :=
  let b := bankOf s c e
  let act := !(rowHit s c e)
  let cost := accessCost s c e
  let e := { e with extra := reopenCost s c e }
  let t := leaveQueues c e s
  let t := if act then countActivate c e t else t
  let t := leaveRow c e t
  let t := if act then drawRfm c b draw t else t
  match e.kind with
  | .write => performWrite c e t
  | .mergeFlush => performWrite c e t
  | _ =>
    let u := dramCount c 0 1 t
    let base := readT (activeArr u c) cost
    let tt := base + (if e.kind = .atom then 24 else 0) + (if kidSealed u e.kid then 16 else 0)
    match resolveKid u c e.kid e.addr with
    | none => finishLine c e tt .keyRetired [] false u
    | some kid => modDch c (fun h => { h with inProgress := h.inProgress ++ [{ e := e, kid := kid, t := tt }] }) u

/-- DRAM_ACCESS_ISSUE: counters that waiting sealed accesses lack are asked for, then the scheduler's choice is issued. -/
def dramAccessIssue (c draw : Nat) (s : State) : State :=
  let h := dchOf s c
  if h.pwr = .active then
    let t := forAll ((h.rq ++ h.wq).filter (fun e => kidSealed s e.kid)) (fun u e => askCounter c (pageOf u c e.line) u) s
    match nextAccess t c with
    | some e => issueEntry c e draw t
    | none => t
  else s

/-- DRAM_ACCESS_ISSUE. -/
def execDramAccessIssue (c draw : Nat) (s : State) : Host.Outcome State Fault Refusal := .next (whileClocked (46 + c) s (dramAccessIssue c draw s))

/-! ## Completion of reads -/

/-- A scrub answers with its record (R356). -/
def scrubDone (c : Nat) (a : DAccess) (s : State) : State :=
  let (o, t) := if (tfind s.mems.lines (lineKey c a.e.line)).isNone && inCounterArea s a.e.addr && (s.crypto.window.any (fun w => w.2.2)) then (LineRead.clean, s) else checkLine .scrub c a.e.line s
  let r := match o with
    | .clean => 0
    | .corrected _ => 1
    | .uncorr => 2
    | .poisoned => 3
  finishLine c a.e a.t .ok (leBytes 1 r ++ leBytes 1 (correctedBytes o) ++ leBytes 6 0) false t

/-- What a read observes: the stored line with what earlier writes leave over it (R326). -/
def observed (by_ : Reader) (c : Nat) (a : DAccess) (s : State) : LineOut × State :=
  if covered a.e then ({ st := if a.e.poison then .okPoison else .ok, data := a.e.data }, s)
  else
    let (r, t) := readStored by_ c a.e.line a.e.addr a.kid s
    if r.st = .uncorrectable then (r, t)
    else ({ r with data := overlayBytes (padTo 64 r.data) a.e.data a.e.cover, st := if a.e.poison then .okPoison else r.st, unwritten := r.unwritten && a.e.cover == 0 }, t)

/-- Queue the write of a conversion and move the channel's boundary (R423). -/
def convertWrite (c : Nat) (a : DAccess) (data : List Byte) (poison : Bool) (s : State) : State :=
  let t := tideOf s (a.e.kid - 56)
  let e := { a.e with kind := .write, kid := t.new, data := data, mask := fullMask, cover := 0, poison := poison, at_ := s.time }
  enterFull c e (if kidSealed s t.new then askCounter c (pageOf s c e.line) s else s)

/-- A conversion answers with its record: CONVERTED, CORRECTED, POISONED or UNWRITTEN (R423). -/
def convertDone (c : Nat) (a : DAccess) (s : State) : State :=
  let (r, t) := observed .convert c a s
  let bad := decide (r.st ≠ .ok)
  let code := if bad then 2 else if r.unwritten then 3 else if 0 < r.corrected then 1 else 0
  let data := if r.st = .uncorrectable then lineBytes s c a.e.line else r.data
  let t := if code = 3 then t else convertWrite c a (padTo 64 data) bad t
  let t := modDchX c (fun x => { x with bounds := tset x.bounds (a.e.kid - 56) (a.e.addr + 64) }) t
  finishLine c a.e a.t .ok (leBytes 1 code ++ leBytes 7 0) false t

/-- An ATOM: the new value is written before any other request to the line; a bad line is not written (R78, R325, R351, R352). -/
def atomDone (c : Nat) (a : DAccess) (s : State) : State :=
  let e := a.e
  let (r, t) := readStored .demand c e.line e.addr a.kid s
  let old := leAt r.data e.off e.width
  if r.st ≠ .ok then finishLine c e a.t r.st (leBytes 8 old) r.verified t
  else
    let new := leBytes e.width (atomNew (leAt e.data 0 1) old (leAt e.data 8 8) (leAt e.data 16 8) e.width)
    let line := (List.range 64).map (fun i => if e.off ≤ i ∧ i < e.off + e.width then new.getD (i - e.off) 0 else r.data.getD i 0)
    let t := writeLine c e.line e.addr a.kid line false t
    match mirrorMode t (e.addr + e.off) with
    | 1 =>
      (match (dchOf t c).pending.find? (fun d => d.pid == e.pid) with
        | none => t
        | some d => mirrorLag (modTwin (modDch c (fun h => { h with pending := h.pending.filter (fun x => x.pid != e.pid) }) t) (fun w => { w with queue := w.queue ++ [mirrorOf c d.pkt d.at_ a.t new (leBytes 8 old)] })))
    | 2 => finishLine c e a.t .ok (leBytes 8 old) r.verified (markDirty (e.addr + e.off) t)
    | _ => finishLine c e a.t .ok (leBytes 8 old) r.verified t

/-- DRAM_READ_COMPLETE: the oldest access read from the components, with the bytes found in error. -/
def dramReadComplete (c : Nat) (errs : List LineErr) (s : State) : State :=
  match (dchOf s c).inProgress with
  | [] => s
  | a :: r =>
    let t := modDch c (fun h => { h with inProgress := r }) s
    let t := if covered a.e then t else upsetLine c a.e.line errs t
    match a.e.kind with
    | .scrub => scrubDone c a t
    | .convert => convertDone c a t
    | .atom => atomDone c a t
    | _ =>
      let (o, u) := observed .demand c a t
      finishLine c a.e a.t o.st (askedBytes a.e o.data) o.verified u

/-- DRAM_READ_COMPLETE. -/
def execDramReadComplete (c : Nat) (errs : List LineErr) (s : State) : Host.Outcome State Fault Refusal := .next (whileClocked (46 + c) s (dramReadComplete c errs s))

/-! ## Rows, refresh, power (R331, R339, R340, R342, R347) -/

/-- PAGE_CLOSE: an auto row after 32 controller cycles without a request to it (Table 8.6). -/
def pageClose (c b : Nat) (s : State) : State :=
  match rowAt s c b with
  | none => s
  | some r =>
    let wanted := ((dchOf s c).rq ++ (dchOf s c).wq).any (fun e => bankOf s c e == b && rowOfEntry s c e == r.row)
    if (r.hint = 0 ∨ r.hint = 3) ∧ r.last + nsCycles 32 ≤ s.time ∧ ¬ wanted then modDch c (fun h => { h with rows := tdel h.rows b }) s
    else if r.hint = 2 ∧ ¬ wanted then modDch c (fun h => { h with rows := tdel h.rows b }) s
    else s

/-- PAGE_CLOSE. -/
def execPageClose (c b : Nat) (s : State) : Host.Outcome State Fault Refusal := .next (whileClocked (46 + c) s (pageClose c b s))

/-- MERGE_FLUSH: the oldest entry that has been allocated for 256 controller cycles enters the write queue (R353). -/
def mergeFlush (c : Nat) (s : State) : State :=
  match (dchOf s c).merge.find? (fun e => decide (e.at_ + nsCycles 256 ≤ s.time) || e.mask == fullMask) with
  | some e => if (dchOf s c).wq.length < 128 then flushMerge c e s else s
  | none => s

/-- MERGE_FLUSH. -/
def execMergeFlush (c : Nat) (s : State) : Host.Outcome State Fault Refusal := .next (whileClocked (46 + c) s (mergeFlush c s))

/-- Close every row. -/
def shutAll (c : Nat) (s : State) : State := forAll ((dchOf s c).rows.map (·.1)) (fun t b => shutRow c b t) s

/-- tREFI in force, in Braid cycles (R339). -/
def refreshTime (s : State) (c : Nat) : Nat := let n := nckCycles (activeArr s c) (activeArr s c).tREFI; if (dchOf s c).tempHigh then n / 2 else n

/-- REFRESH: tREFI has passed: postponed while the queues hold requests, no more than 4 times, else performed with those postponed (R339). -/
def refresh (c : Nat) (s : State) : State :=
  let h := dchOf s c
  if h.pwr = .active ∧ (dchX s c).lastRef + refreshTime s c ≤ s.time then
    let t := modDchX c (fun x => { x with lastRef := s.time }) s
    if (!h.rq.isEmpty || !h.wq.isEmpty) && decide (h.owedRefresh < 4) then modDch c (fun g => { g with owedRefresh := g.owedRefresh + 1 }) t
    else shutAll c (modDch c (fun g => { g with owedRefresh := 0 }) t)
  else s

/-- REFRESH. -/
def execRefresh (c : Nat) (s : State) : Host.Outcome State Fault Refusal := .next (whileClocked (46 + c) s (refresh c s))

/-- TEMPERATURE_REPORT: a component asks for a faster refresh, or no longer (R339). -/
def temperatureReport (c : Nat) (hot : Bool) (s : State) : State :=
  let h := dchOf s c
  let t := modDch c (fun g => { g with tempHigh := hot }) s
  if hot && !h.tempHigh then dramEv c 3 5 1 [] t else t

/-- TEMPERATURE_REPORT. -/
def execTemperatureReport (c : Nat) (hot : Bool) (s : State) : Host.Outcome State Fault Refusal := .next (temperatureReport c hot s)

/-- ACT_WINDOW_END: 64 µs have passed: counts and throttles start over, new settings take effect (R337, R338). -/
def actWindowEnd (c : Nat) (s : State) : State :=
  if (dchX s c).actWin + nsCycles 64000 ≤ s.time then
    modDchX c (fun x => { x with actWin := s.time }) (modDch c (fun h =>
      { h with acts := [], throttled := [], lastThrottledAct := [], hammer := h.nextHammer.getD h.hammer, nextHammer := none }) s)
  else s

/-- ACT_WINDOW_END. -/
def execActWindowEnd (c : Nat) (s : State) : Host.Outcome State Fault Refusal := .next (whileClocked (46 + c) s (actWindowEnd c s))

/-- Merge entries and queued writes are performed at once, in the order of acceptance. -/
def drainWrites (c : Nat) (s : State) : State :=
  let t := flushWhere c (fun _ => true) s
  forAll (dchOf t c).wq (fun u e => performWrite c e (leaveQueues c e u)) t

/-- The channel goes to self-refresh (R340, R342). -/
def toSelfRefresh (c : Nat) (s : State) : State :=
  dramCount c 11 1 (keepNow c <| modDch c (fun h => { h with pwr := .selfRefresh, rows := [] }) (drainWrites c s))

/-- SELF_REFRESH_ENTRY: no request for SR_IDLE (R340). -/
def selfRefreshEntry (c : Nat) (s : State) : State :=
  let h := dchOf s c
  if h.pwr = .active ∧ h.srIdle ≠ 0 ∧ (dchX s c).lastReq + h.srIdle * usCycles ≤ s.time ∧ h.rq.isEmpty ∧ h.wq.isEmpty ∧ h.inProgress.isEmpty ∧ h.hold.isEmpty ∧
      ¬ s.braid.inbox.any (fun d => d.ep == 0x10 + c) then toSelfRefresh c s
  else s

/-- SELF_REFRESH_ENTRY. -/
def execSelfRefreshEntry (c : Nat) (s : State) : Host.Outcome State Fault Refusal := .next (whileClocked (46 + c) s (selfRefreshEntry c s))

/-- SELF_REFRESH_EXIT: 768 Braid cycles after the request that wakes the channel (Table 4.8). -/
def selfRefreshExit (c : Nat) (s : State) : State :=
  if (dchOf s c).pwr = .selfRefresh ∧ domOn s (46 + c) ∧ s.braid.inbox.any (fun d => d.ep == 0x10 + c && decide (d.at_ + 768 ≤ s.time)) then restartInbox (0x10 + c) (leaveSelfRefresh c s) else s

/-- SELF_REFRESH_EXIT. -/
def execSelfRefreshExit (c : Nat) (s : State) : Host.Outcome State Fault Refusal := .next (whileClocked (46 + c) s (selfRefreshExit c s))

/-- DQS_RETRAIN: every 1 ms; `drift` is the delay change since the last DRAM_TRAIN in thousandths of a UI: above 1/8 UI DRIFT once, above 1/4 UI DRIFT_LIMIT once per 100 ms (R347, R348). -/
def dqsRetrain (c drift : Nat) (s : State) : State :=
  let x := dchX s c
  if (dchOf s c).pwr = .active ∧ x.lastDqs + msCycles ≤ s.time then
    let t := shutAll c (dramCount c 10 1 (modDchX c (fun y => { y with drift := drift, lastDqs := s.time, driftRaised := y.driftRaised || decide (125 < drift) }) s))
    let t := if 125 < drift ∧ ¬ x.driftRaised then dramEv c 3 1 1 [] t else t
    if 250 < drift then raiseLimited (30200 + c) (100 * msCycles) (131 + 4 * c) 2 2 [] t else t
  else s

/-- DQS_RETRAIN. -/
def execDqsRetrain (c drift : Nat) (s : State) : Host.Outcome State Fault Refusal := .next (whileClocked (46 + c) s (dqsRetrain c drift s))

/-- A first training leaves the contents undefined (R346). -/
def firstTraining (c : Nat) (s : State) : State :=
  modDchX c (fun x => { x with zeroed := 0, lost := 0 }) (modMems s (fun m => { m with lines := m.lines.filter (fun x => x.1 / 268435456 != c), mem := mzero m.mem (dramPhys c 0) 17179869184 }))

/-- TRAINING_DONE (R345, R346). -/
def trainingDone (c : Nat) (converged : Bool) (s : State) : State :=
  let h := dchOf s c
  if h.pwr = .training then
    let job := (dchX s c).trainJob
    let t := modDchX c (fun x => { x with trainJob := none, drift := 0, driftRaised := false, lastRef := s.time, lastReq := s.time, lastDqs := s.time, actWin := s.time, imbAt := s.time }) s
    if converged then
      let t := if h.everTrained then t else firstTraining c t
      endJob? job rcDone [] (modDch c (fun g => { g with pwr := .active, trained := true, everTrained := true, active := g.arr, rows := [], sinceRfm := [], rfmDue := [] }) t)
    else
      let t := dramEv c 3 3 2 [] (modDch c (fun g => { g with pwr := .untrained, trained := false }) t)
      endJob? job rcFailedCheck [] t
  else s

/-- TRAINING_DONE. -/
def execTrainingDone (c : Nat) (converged : Bool) (s : State) : Host.Outcome State Fault Refusal := .next (whileClocked (46 + c) s (trainingDone c converged s))

/-- INIT_LOST_DONE: every line lost by the last exit holds zeros with a valid Strong code (R343); an armed flip mask applies to the first, the lines being written in ascending order (log entry 98). -/
def initLostDone (c : Nat) (s : State) : State :=
  match (dchX s c).initLostJob with
  | none => s
  | some j =>
    let x := dchX s c
    let cap := arrLines (activeArr s c)
    let t := modMems s (fun m =>
      { m with lines := m.lines.filter (fun l => !(l.1 / 268435456 == c && bit x.lost (eighthOf cap (l.1 % 268435456)))), mem := (List.range 8).foldl (fun l i => if bit x.lost i then mzero l (dramPhys c (i * (cap * 8))) (cap * 8) else l) m.mem })
    let lost := (List.range 8).filter (fun i => bit x.lost i)
    let t := modDchX c (fun y => { y with lost := 0, initLostJob := none, zeroed := y.zeroed ||| y.lost }) t
    let t := dramCount c 1 (lost.length * (cap / 8)) t
    endJob j rcDone [] (match lost with
      | i :: _ => applyFlip c (i * (cap / 8)) t
      | [] => t)

/-- INIT_LOST_DONE. -/
def execInitLostDone (c : Nat) (s : State) : Host.Outcome State Fault Refusal := .next (whileClocked (46 + c) s (initLostDone c s))

/-- Channels whose queues hold more than 75 % of their entries count the Braid cycle (R360). -/
def busyTick (s : State) : State :=
  forAll s.dram.chans (fun t p => if 144 < readsHeld p.2 + p.2.wq.length then modDchX p.1 (fun x => { x with busyWin := x.busyWin + 1 }) t else t) s

/-- Lines a channel accepted in the window that ends, also when its own window has just ended. -/
def windowLines (s : State) (c : Nat) : Nat := let x := dchX s c; if s.time < x.imbAt + msCycles / 2 then x.linesLast else x.linesWin

/-- IMBALANCE_WINDOW: more than 4 times the mean of its region, with read and write queue together above 75 % of their 192 entries for 100 µs of the window (R360). -/
def imbalanceWindow (c : Nat) (s : State) : State :=
  let x := dchX s c
  if x.imbAt + msCycles ≤ s.time then
    let t := modDchX c (fun y => { y with imbAt := s.time, linesLast := y.linesWin, linesWin := 0, busyWin := 0 }) s
    match s.dram.map.find? (fun r => decide (2 ≤ r.count ∧ r.first ≤ c ∧ c < r.first + r.count)) with
    | none => t
    | some r =>
      let total : Nat := (List.range r.count).foldl (fun n i => n + (if r.first + i = c then x.linesWin else windowLines s (r.first + i))) 0
      if 4 * total < x.linesWin * r.count ∧ 100 * usCycles ≤ x.busyWin then dramEv c 1 2 1 (leBytes 4 x.linesWin ++ leBytes 4 (total / r.count)) t else t
  else s

/-- IMBALANCE_WINDOW. -/
def execImbalanceWindow (c : Nat) (_note : Unit) (s : State) : Host.Outcome State Fault Refusal := .next (whileClocked (46 + c) s (imbalanceWindow c s))

end Sys2Proof.Machine
end

