-- ==== Sys2Proof/Machine/DramCmds.lean ====
section
/-! DEFINITION. Commands about DRAM channels and the DRAM map (R315 to R323, R338, R340 to R346, R355). -/

namespace Sys2Proof.Machine
open Sys2Proof

/-- TARGET names a channel. -/
def chanTarget (t : Nat) : Bool := decide (t < 16)

/-- A DRAM_TRAIN or INIT_LOST job is still at work on a channel (R574). -/
def chanBusy (s : State) (c : Nat) : Bool := jobOn s 0x0401 c || jobOn s 0x0402 c

/-- The gate of a channel's domain is OPEN. -/
def chanOpen (s : State) (c : Nat) : Bool := (gateOf s (46 + c)).st == .opened

/-! ## DRAM_CONFIG -/

/-- The arrangement a CHANNEL payload gives (Table 8.2); AGE_CAP 0 stands for its default of 1 000 ns (log entry 19). -/
def arrOf (v : Serving) : Arrange :=
  let h := fun i => pay v (6 + 2 * i) 2
  { rate := pay v 1 1, width := pay v 2 1, density := pay v 3 1, ranks := pay v 4 1, tCL := h 0, tRCD := h 1, tRP := h 2, tRAS := h 3, tRC := h 4, tWR := h 5, tRFC := h 6, tRFM := h 7, tREFI := h 8, ageCap := if pay v 24 2 = 0 then 1000 else pay v 24 2 }

/-- An arrangement of Table 8.1 with fields in the ranges of Table 8.2. -/
def arrOk (a : Arrange) : Bool :=
  decide (8 ≤ a.rate ∧ a.rate ≤ 20) && (a.width == 8 || a.width == 16) && (a.density == 8 || a.density == 16 || a.density == 32) &&
  (a.ranks == 1 || a.ranks == 2) && !(a.width == 8 && a.density == 32 && a.ranks == 2) && decide (250 ≤ a.ageCap ∧ a.ageCap ≤ 16000)

/-- CHANNEL: the arrangement is stored until the next DRAM_TRAIN (R317). -/
def configChannel (v : Serving) (s : State) : Reply × State :=
  let a := arrOf v
  if ¬ chanTarget v.target ∨ ¬ payZero v 5 6 ∨ ¬ payZero v 26 56 ∨ ¬ arrOk a then (rc rcBadArg, s)
  else if chanOpen s v.target then (rc rcBadState, s)
  else if chanBusy s v.target then (rc rcBusy, s)
  else (rc rcDone, modDch v.target (fun h => { h with arr := some a }) s)

/-- Region record `i` of a map image (Table 8.4). -/
def regionOf (img : List Byte) (i : Nat) : Region :=
  let o := 32 + 16 * i
  { base := leAt img o 2, size := leAt img (o + 2) 2, first := leAt img (o + 4) 1, count := leAt img (o + 5) 1, grain := leAt img (o + 6) 1, hash := bit (leAt img (o + 7) 1) 0, chBase := leAt img (o + 8) 4 }

/-- The header of a map image is bad: offset of the failing field (Table 8.3). -/
def mapHeaderBad (h : List Byte) : Option Nat :=
  if leAt h 0 4 ≠ 0xD2A00008 then some 0
  else if leAt h 4 2 ≠ 1 then some 4
  else if 4 < leAt h 6 2 then some 6
  else if leAt h 8 4 ≠ 32 + 16 * leAt h 6 2 then some 8
  else if ¬ (List.range 16).all (fun i => leAt h (16 + i) 1 == 0) then some 16
  else none

/-- Two regions hold a window address in common. -/
def regionsMeet (a b : Region) : Bool := overlaps a.base a.size b.base b.size

/-- Two regions hold a channel-local address in common; sizes in MiB. -/
def regionsMeetLocal (a b : Region) : Bool :=
  overlaps a.first a.count b.first b.count && overlaps a.chBase (a.size * 1024 / a.count) b.chBase (b.size * 1024 / b.count)

/-- A record fails a check of Table 8.5, by its reason code; for checks about two regions, with a record before it. -/
def mapFails (s : State) (img : List Byte) (reason i : Nat) : Bool :=
  let r := regionOf img i
  let earlier := (List.range i).map (regionOf img)
  match reason with
  | 8 => decide (255 < r.base ∨ r.size = 0 ∨ 256 < r.size ∨ 15 < r.first ∨ r.grain < 8 ∨ 16 < r.grain ∨ 2 ≤ leAt img (32 + 16 * i + 7) 1 ∨ leAt img (32 + 16 * i + 12) 4 ≠ 0) ||
      !([1, 2, 4, 8, 16].contains r.count)
  | 21 => decide (r.first % max r.count 1 ≠ 0 ∨ 256 < r.base + r.size)
  | 18 => earlier.any (regionsMeet r)
  | 20 => (List.range r.count).any (fun k => match (dchOf s (r.first + k)).arr with
      | none => true
      | some a => decide (arrLines a * 64 < r.chBase * 1048576 + r.size * 1073741824 / max r.count 1))
  | _ => earlier.any (regionsMeetLocal r)

/-- The first failure in the order of R321 and R630: offset and reason. -/
def mapImageBad (s : State) (img : List Byte) : Option (Nat × Nat) :=
  if leAt img 12 4 ≠ crc32 (img.drop 16) then some (12, 8)
  else [8, 21, 18, 20, 19].findSome? (fun r => ((List.range (leAt img 6 2)).find? (mapFails s img r)).map (fun i => (32 + 16 * i, r)))

/-- A region that the new map adds, removes or changes names a channel whose gate is OPEN (R322). -/
def mapTouchesOpen (s : State) (new : List Region) : Bool :=
  ((s.dram.map.filter (fun r => !(new.contains r))) ++ (new.filter (fun r => !(s.dram.map.contains r)))).any (fun r =>
    (List.range r.count).any (fun k => chanOpen s (r.first + k)))

/-- MAP: the map goes to every NI by the two-phase swap of R96; DONE when it has (R320 to R322). -/
def configMap (v : Serving) (s : State) : Reply × State :=
  if v.target ≠ 0xFFFF ∨ ¬ payZero v 1 8 ∨ ¬ payZero v 16 56 then (rc rcBadArg, s)
  else
    match hwRead s (pay v 8 8) 32 with
    | none => (failedRead, s)
    | some h =>
      match mapHeaderBad h with
      | some o => (failedAt o 8, s)
      | none =>
        match hwRead s (pay v 8 8) (leAt h 8 4) with
        | none => (failedRead, s)
        | some img =>
          match mapImageBad s img with
          | some (o, r) => (failedAt o r, s)
          | none =>
            let new := (List.range (leAt img 6 2)).map (regionOf img)
            if mapTouchesOpen s new then (rc rcBadState, s)
            else (rc rcDone, waitFor 1 (modDram s (fun d => { d with mapOld := d.map, map := new, mapPending := (List.range 0x70).filter epListed })))

/-- DRAM_CONFIG. -/
def dramConfigBody (v : Serving) (s : State) : Reply × State :=
  match pay v 0 1 with
  | 0 => configChannel v s
  | 1 => configMap v s
  | _ => (rc rcBadArg, s)

/-- DRAM_CONFIG. -/
def dramConfig (s : State) : State := ferryServe 0x0400 56 (fun t => chanTarget t || noTarget t) dramConfigBody s

/-- DRAM_CONFIG. -/
def execDramConfig (s : State) : Host.Outcome State Fault Refusal := .next (dramConfig s)

/-! ## DRAM_TRAIN (R345) -/

/-- DRAM_TRAIN. -/
def dramTrainBody (v : Serving) (s : State) : Reply × State :=
  let c := v.target
  if chanOpen s c then (rc rcBadState, s)
  else if (dchOf s c).arr.isNone then (rc rcBadArg, s)
  else if chanBusy s c then (rc rcBusy, s)
  else
    match wakeFor (46 + c) s with
    | none => (rc rcBadState, s)
    | some t =>
      let (j, t) := startJob v c t
      (rc rcAccepted, modDchX c (fun x => { x with trainJob := some j }) (modDch c (fun h => { h with pwr := .training }) t))

/-- DRAM_TRAIN. -/
def dramTrain (s : State) : State := ferryServe 0x0401 0 chanTarget dramTrainBody s

/-- DRAM_TRAIN. -/
def execDramTrain (s : State) : Host.Outcome State Fault Refusal := .next (dramTrain s)

/-! ## DRAM_POWER (R340 to R343) -/

/-- An excluded eighth of a channel meets one of its local byte ranges. -/
def excludedMeets (s : State) (c keep : Nat) (spans : List (Nat × Nat)) : Bool :=
  let cap := arrLines ((dchOf s c).active.getD ((dchOf s c).arr.getD {})) * 64
  (List.range 8).any (fun i => !(bit keep i) && spans.any (fun p => overlaps (i * (cap / 8)) (cap / 8) p.1 (p.2 - p.1)))

/-- Local ranges that SET_PASR must keep: MIRRORED windows and the sealed window with its counter tree (R343). -/
def mustKeep (s : State) (c : Nat) : List (Nat × Nat) :=
  (s.twin.windows.filter (fun w => w.2.st == .mirrored)).foldl (fun l w => l ++ localSpans s c w.2.start w.2.length) [] ++
  (match sealedWin s with
    | some (a, n) => localSpans s c a n
    | none => [])

/-- INIT_LOST: zeros go to the lines that the last exit lost. -/
def initLost (v : Serving) (s : State) : Reply × State :=
  match wakeFor (46 + v.target) s with
  | none => (rc rcBadState, s)
  | some t =>
    let (j, t) := startJob v v.target t
    (rc rcAccepted, modDchX v.target (fun x => { x with initLostJob := some j }) t)

/-- DRAM_POWER (Table 8.8). -/
def dramPowerBody (v : Serving) (s : State) : Reply × State :=
  let c := v.target
  let f := pay v 0 1
  if 2 < f ∨ ¬ payZero v 1 4 ∨ (f = 0 ∧ 10000 < pay v 4 4) ∨ (f = 1 ∧ ¬ payZero v 5 8) ∨ (f = 2 ∧ ¬ payZero v 4 8) then (rc rcBadArg, s)
  else if chanBusy s c then (rc rcBusy, s)
  else if f = 0 then (rc rcDone, modDch c (fun h => { h with srIdle := pay v 4 4 }) s)
  else if f = 1 then
    (if excludedMeets s c (pay v 4 1) (mustKeep s c) then (rc rcConflict, s) else (rc rcDone, modDch c (fun h => { h with keep := pay v 4 1 }) s))
  else initLost v s

/-- DRAM_POWER. -/
def dramPower (s : State) : State := ferryServe 0x0402 8 chanTarget dramPowerBody s

/-- DRAM_POWER. -/
def execDramPower (s : State) : Host.Outcome State Fault Refusal := .next (dramPower s)

/-! ## HAMMER_SET (R338) -/

/-- HAMMER_SET: the settings take effect at the next window boundary. -/
def hammerBody (v : Serving) (s : State) : Reply × State :=
  let p := pay v 0 1
  let g := pay v 4 2
  let cs := if v.target = 0xFFFF then List.range 16 else [v.target]
  if (p ≠ 0 ∧ (p < 8 ∨ 13 < p)) ∨ ¬ payZero v 1 2 ∨ g < 100 ∨ 64000 < g then (rc rcBadArg, s)
  else if cs.any (chanBusy s) then (rc rcBusy, s)
  else (rc rcDone, forAll cs (fun t c => modDch c (fun h => { h with nextHammer := some { prob := p, actMax := pay v 2 2, actGap := g } }) t) s)

/-- HAMMER_SET. -/
def hammerSet (s : State) : State := ferryServe 0x0405 6 (fun t => chanTarget t || noTarget t) hammerBody s

/-- HAMMER_SET. -/
def execHammerSet (s : State) : Host.Outcome State Fault Refusal := .next (hammerSet s)

/-! ## FLIP_MASK (R355) -/

/-- FLIP_MASK: a mask is armed, or with NPAIR 0 disarmed; the job of a mask that is disarmed ends ABORTED (log entry 19). -/
def flipBody (v : Serving) (s : State) : Reply × State :=
  let c := v.target
  let n := pay v 0 1
  let pairs := (List.range n).map (fun i => (pay v (2 + 2 * i) 1, pay v (3 + 2 * i) 1))
  if 16 < n ∨ ¬ payZero v 1 2 ∨ 2 + 2 * n < v.len ∨ pairs.any (fun p => decide (79 < p.1)) then (rc rcBadArg, s)
  else if s.dbg.fuses.life = .secured then (rc rcDenied, s)
  else if (dchX s c).flip.isSome ∧ n ≠ 0 then (rc rcBusy, s)
  else if chanBusy s c then (rc rcBusy, s)
  else if n = 0 then
    match (dchX s c).flip with
    | none => (rc rcDone, s)
    | some (_, j) => (rc rcDone, endJob? j rcAborted [] (modDchX c (fun x => { x with flip := none }) s))
  else
    let (j, t) := startJob v c s
    (rc rcAccepted, modDchX c (fun x => { x with flip := some (pairs, some j) }) t)

/-- FLIP_MASK. -/
def flipMask (s : State) : State := ferryServe 0x0406 34 chanTarget flipBody s

/-- FLIP_MASK. -/
def execFlipMask (s : State) : Host.Outcome State Fault Refusal := .next (flipMask s)

end Sys2Proof.Machine
end

