-- ==== Sys2Proof/Machine/Scour.lean ====
section
/-! DEFINITION. Scour: background walks and passes over DRAM and Basin (R356 to R358, R374). -/

namespace Sys2Proof.Machine
open Sys2Proof

/-- A range of a memory: 0 DRAM, 1 Basin; aligned, within the memory's window (Table 8.11). -/
def scourRangeOk (memory start length : Nat) : Bool :=
  decide (start % 64 = 0 ∧ length % 64 = 0) &&
  (if memory = 0 then decide (dramBase ≤ start ∧ start + length ≤ dramEnd) else decide (basinBase ≤ start ∧ start + length ≤ basinBase + 0x4000000))

/-- SCOUR_SET: a walk region is defined, or removed by MODE 0 (R357). -/
def scourSetBody (v : Serving) (s : State) : Reply × State :=
  let r := v.target
  let a := pay v 8 8
  let n := pay v 16 8
  if 1 < pay v 0 1 ∨ 1 < pay v 1 1 ∨ ¬ payZero v 4 8 then (rc rcBadArg, s)
  else if pay v 1 1 = 0 then (rc rcDone, modDram s (fun d => { d with walks := tdel d.walks r }))
  else if pay v 2 2 = 0 ∨ ¬ scourRangeOk (pay v 0 1) a n then (rc rcBadArg, s)
  else if s.dram.walks.any (fun w => w.1 != r && overlaps a n w.2.start w.2.length) then (rc rcConflict, s)
  else (rc rcDone, modDram s (fun d => { d with walks := tset d.walks r { memory := pay v 0 1, rate := pay v 2 2, start := a, length := n, last := s.time } }))

/-- SCOUR_SET. -/
def scourSet (s : State) : State := ferryServe 0x0403 24 (fun t => decide (t < 8)) scourSetBody s

/-- SCOUR_SET. -/
def execScourSet (s : State) : Host.Outcome State Fault Refusal := .next (scourSet s)

/-- SCOUR_PASS: one pass over a range (R358). -/
def scourPassBody (v : Serving) (s : State) : Reply × State :=
  if 1 < pay v 0 1 ∨ ¬ payZero v 4 8 ∨ ¬ scourRangeOk (pay v 0 1) (pay v 8 8) (pay v 16 8) then (rc rcBadArg, s)
  else if s.dram.pass.isSome then (rc rcBusy, s)
  else
    let (j, t) := startJob v 0 s
    (rc rcAccepted, modDram t (fun d => { d with pass := some { memory := pay v 0 1, rate := pay v 2 2, start := pay v 8 8, length := pay v 16 8, resultAddr := pay v 24 8, job := j, last := s.time } }))

/-- SCOUR_PASS. -/
def scourPass (s : State) : State := ferryServe 0x0404 32 noTarget scourPassBody s

/-- SCOUR_PASS. -/
def execScourPass (s : State) : Host.Outcome State Fault Refusal := .next (scourPass s)

/-- Scour skips a line: outside the map, its channel or group fenced, its group not ON (R357, R374). -/
def scourSkips (s : State) (a : Nat) : Bool :=
  match addrTarget (mapOf s 0x02) a with
  | none => true
  | some ep => fenced s ep || (decide (0x08 ≤ ep ∧ ep < 0x10) && memPwr s (ep - 0x08) != .on)

/-- Scour presents its read of a line, URG 0, KID 0 (R356). -/
def scourRead (agent a : Nat) (s : State) : State := (presentReq 0x02 agent { op := .rd, addr := a, len := 64 } s).2

/-- Cycles between lines at a rate of lines per ms; rate 0 asks for none. -/
def scourGap (rate : Nat) : Nat := if rate = 0 then 0 else msCycles / rate

/-- Results of walk lines are not kept: the channels count what they corrected. -/
def dropScour (agent : Nat) (s : State) : State :=
  modBraid s (fun b => { b with completions := b.completions.filter (fun c => !(c.ep == 0x02 && c.agent == agent)) })

/-- SCOUR_WALK_LINE: the next line of a walk, which wraps at its end (R357). -/
def scourWalkLine (r : Nat) (s : State) : State :=
  match tfind s.dram.walks r with
  | none => s
  | some w =>
    if w.length ≠ 0 ∧ w.last + scourGap w.rate ≤ s.time then
      let a := w.start + w.pos
      let skip := scourSkips s a
      let t := modDram (dropScour (16 + r) s) (fun d =>
        { d with walks := tset d.walks r { w with pos := (w.pos + 64) % w.length, last := s.time, skipped := w.skipped + b2n skip } })
      if skip then t else scourRead (16 + r) a t
    else s

/-- SCOUR_WALK_LINE. -/
def execScourWalkLine (r : Nat) (s : State) : Host.Outcome State Fault Refusal := .next (whileClocked 1 s (scourWalkLine r s))

/-- A pass counts the record of the line it read (Tables 8.10, 8.12); a line whose read did not end OK counts as skipped. -/
def passCount (p : Pass) (c : Completion) : Pass :=
  let a := p.start + p.pos - 64
  let bad := { p with read := p.read + 1, failing := min 4294967295 (p.failing + 1), addrs := if p.addrs.length < 16 then p.addrs ++ [a] else p.addrs }
  if c.status ≠ .ok then { p with skipped := p.skipped + 1 }
  else
    match leAt c.data 0 1 with
    | 0 => { p with read := p.read + 1 }
    | 1 => { p with read := p.read + 1, corrected := p.corrected + 1 }
    | 2 => { bad with uncorr := p.uncorr + 1 }
    | _ => { bad with poisoned := p.poisoned + 1 }

/-- Take the record of the line read last, when it has come. -/
def passAbsorb (s : State) : State :=
  match s.braid.completions.find? (fun c => c.ep == 0x02 && c.agent == 1 && hasCome s c) with
  | none => s
  | some c => modDram (dropScour 1 s) (fun d => { d with pass := d.pass.map (fun p => passCount p c) })

/-- A line of the pass has been presented and its record has not come. -/
def passWaits (s : State) : Bool := s.braid.groups.any (fun g => g.ep == 0x02 && g.agent == 1) || s.braid.completions.any (fun c => c.ep == 0x02 && c.agent == 1)

/-- SCOUR_PASS_LINE: the pass takes the record of its line and reads the next. -/
def scourPassLine (s : State) : State :=
  let t := passAbsorb s
  match t.dram.pass with
  | none => t
  | some p =>
    if ¬ passWaits t ∧ p.pos < p.length ∧ p.last + scourGap p.rate ≤ t.time then
      let a := p.start + p.pos
      let skip := scourSkips t a
      let u := modDram t (fun d => { d with pass := some { p with pos := p.pos + 64, last := t.time, skipped := p.skipped + b2n skip } })
      if skip then u else scourRead 1 a u
    else t

/-- SCOUR_PASS_LINE. -/
def execScourPassLine (s : State) : Host.Outcome State Fault Refusal := .next (whileClocked 1 s (scourPassLine s))

/-- The 168-byte result of a pass (Table 8.12). -/
def passResult (p : Pass) : List Byte :=
  leBytes 8 p.read ++ leBytes 8 p.corrected ++ leBytes 8 p.uncorr ++ leBytes 8 p.poisoned ++ leBytes 4 p.failing ++ leBytes 4 p.skipped ++
  (List.range 16).foldl (fun l i => l ++ leBytes 8 (p.addrs.getD i 0)) []

/-- SCOUR_PASS_DONE: the result is written and EV445 follows (R358). -/
def scourPassDone (s : State) : State :=
  let t := passAbsorb s
  match t.dram.pass with
  | none => t
  | some p =>
    if ¬ passWaits t ∧ p.length ≤ p.pos then
      let u := modDram t (fun d => { d with pass := none })
      match hwWrite p.resultAddr (passResult p) u with
      | some w => endJob p.job rcDone [] w
      | none => endJob p.job rcFailedCheck [] u
    else t

/-- SCOUR_PASS_DONE. -/
def execScourPassDone (s : State) : Host.Outcome State Fault Refusal := .next (whileClocked 1 s (scourPassDone s))

end Sys2Proof.Machine
end

