-- ==== Sys2Proof/Machine/Basin.lean ====
section
/-! DEFINITION. Basin groups, retention and clearing of the on-chip memories (chapter 09). -/

namespace Sys2Proof.Machine
open Sys2Proof

/-! ## Requests (R366) -/

/-- BASIN_REQUEST_ACCEPT: the next request of its source enters the group's queue of 32; a memory in RETENTION or INIT lets it wait. -/
def basinRequestAccept (g pid : Nat) (s : State) : State :=
  match inboxFind s (0x08 + g) pid with
  | none => s
  | some d =>
    if g < 8 ∧ memPwr s g = .on ∧ (bgroupOf s g).queue.length < 32 ∧ firstOfSource s d then
      modBgroup g (fun b => { b with queue := b.queue ++ [d], lastReq := s.time }) (inboxDrop pid s)
    else s

/-- BASIN_REQUEST_ACCEPT. -/
def execBasinRequestAccept (g pid : Nat) (s : State) : Host.Outcome State Fault Refusal := .next (whileClocked (78 + g / 2) s (basinRequestAccept g pid s))

/-! ## Words (R368 to R372, R384, R385) -/

/-- Counter `i` of Table 9.9, one more. -/
def basinCount (g i : Nat) (s : State) : State := modBgroup g (fun b => { b with ctr := tinc b.ctr i }) s

/-- A word corrected: counted, EV480 + g once per 1 ms with the count (R369, R385). -/
def wordCorrected (g : Nat) (s : State) : State := raiseLimited (31000 + g) msCycles (480 + g) 1 0 [] (basinCount g 0 s)

/-- An event of a group about one word, which BASIN_ERR_ADDR then names. -/
def basinEv (g cause w : Nat) (s : State) : State :=
  raiseEv (480 + g) cause 2 (leBytes 6 (w * 8)) (modBgroup g (fun b => { b with errAddr := w * 8 % 8388608 }) s)

/-- Read words of a group: what each ended in, with counts and events. -/
def basinRead (g : Nat) (ws : List Nat) (s : State) : List (Nat × WordRead) × State :=
  let (rs, t) := readWords ws s
  (rs, forAll rs (fun u r => match r.2 with
    | .corrected => wordCorrected g u
    | .uncorr => basinEv g 2 r.1 (basinCount g 1 u)
    | _ => u) t)

/-- Bank of a 64-byte line (R364). -/
def bankOfLine (line : Nat) : Nat := line % 4

/-- Line accesses that a request makes in its bank: an ATOM reads and writes; parts of words written go into the merge buffer (R365, R372). -/
def lineAccesses (p : Packet) : List Nat :=
  match p.op with
  | .atom => [p.addr / 64, p.addr / 64]
  | .rd => ((wordsOf p.addr p.len).map (fun w => w / 8)).eraseDups
  | _ => (((wordsOf p.addr p.len).filter (fun w => decide (p.addr ≤ w * 8 ∧ w * 8 + 8 ≤ p.addr + p.len))).map (fun w => w / 8)).eraseDups

/-- Each access keeps its bank busy for 2 Braid cycles (R365). -/
def useBanks (g : Nat) (lines : List Nat) (s : State) : State :=
  modBgroup g (fun b => { b with free := lines.foldl (fun t l => tset t (bankOfLine l) (max (tget t 0 (bankOfLine l)) s.time + 2)) b.free }) s

/-- Every bank that the lines lie in is free. -/
def banksFree (s : State) (g : Nat) (lines : List Nat) : Bool := lines.all (fun l => decide (tget (bgroupOf s g).free 0 (bankOfLine l) ≤ s.time))

/-- The merge entry of a word. -/
def mergeOf (s : State) (g w : Nat) : Option BMerge := (bgroupOf s g).merge.find? (fun e => e.word == w)

/-- A byte with the merge buffer overlaid (R372). -/
def basinByte (s : State) (g a : Nat) : Byte :=
  match mergeOf s g (a / 8) with
  | some e => if bit e.mask (a % 8) then e.data.getD (a % 8) 0 else mget s.mems.mem a
  | none => mget s.mems.mem a

/-- Drop the merge entry of a word. -/
def dropMerge (g w : Nat) (s : State) : State := modBgroup g (fun b => { b with merge := b.merge.filter (fun e => e.word != w) }) s

/-- Flush a merge entry: a complete one is written; an incomplete one reads its word and merges, and a bad word is stored poisoned (R372). -/
def flushWord (g : Nat) (e : BMerge) (s : State) : State :=
  let bytes := (List.range 8).map (fun i => basinByte s g (e.word * 8 + i))
  let t := useBanks g (if e.mask = 255 then [e.word / 8] else [e.word / 8, e.word / 8]) (dropMerge g e.word s)
  if e.mask = 255 then writeWords (e.word * 8) bytes (fun _ => e.poison) t
  else
    let (rs, t) := readWords [e.word] (basinCount g 3 t)
    let t := if anyRead rs .corrected then wordCorrected g t else t
    let t := if anyRead rs .uncorr then basinCount g 1 t else t
    let bad := anyRead rs .uncorr || anyRead rs .poisoned
    let t := if bad then basinEv g 3 e.word t else t
    writeWords (e.word * 8) bytes (fun _ => bad || e.poison) t

/-- Flush every merge entry of a group. -/
def flushGroup (g : Nat) (s : State) : State := forAll (bgroupOf s g).merge (fun t e => flushWord g e t) s

/-- Part of a word is written: its entry is joined, or taken, the oldest giving way when 16 are in use; a complete entry is flushed (R372). -/
def mergeWrite (g w : Nat) (data : List Byte) (mask : Nat) (poison : Bool) (s : State) : State :=
  match mergeOf s g w with
  | some e =>
    let e' := { e with data := overlayBytes (padTo 8 e.data) data mask, mask := e.mask ||| mask, poison := e.poison || poison }
    let t := modBgroup g (fun b => { b with merge := b.merge.map (fun x => if x.word = w then e' else x) }) s
    if e'.mask = 255 then flushWord g e' t else t
  | none =>
    let t := if 16 ≤ (bgroupOf s g).merge.length then (match (bgroupOf s g).merge with
      | o :: _ => flushWord g o s
      | [] => s) else s
    modBgroup g (fun b => { b with merge := b.merge ++ [{ word := w, data := overlayBytes (List.replicate 8 0) data mask, mask := mask, poison := poison, at_ := s.time }] }) t

/-! ## Serving a request -/

/-- Answer a request of a group its fixed part after its start (Table 4.9); the cycles up to the start are in WAIT (R365). -/
def basinAnswer (d : Delivered) (t : Nat) (st : Status) (data : List Byte) (poison : List Nat) (s : State) : State :=
  respond d.ep { d.pkt with wait := min 0xFFFF (d.pkt.wait + (s.time - d.at_)) } s.time t st data poison false (if st = .okPoison then basinCount (d.ep - 0x08) 2 s else s)

/-- A read (Table 9.2). -/
def basinServeRead (g : Nat) (d : Delivered) (s : State) : State :=
  let p := d.pkt
  let (rs, t) := basinRead g (wordsOf p.addr p.len) s
  if anyRead rs .uncorr then basinAnswer d 12 .uncorrectable [] [] t
  else
    let fl := badFlits p.addr p.len (fun w => rs.any (fun r => r.1 == w && r.2 == .poisoned) || (mergeOf t g w).any (fun e => e.poison))
    basinAnswer d 12 (if fl = [] then .ok else .okPoison) ((List.range p.len).map (fun i => basinByte t g (p.addr + i))) fl t

/-- A scrub of the eight words of a line: worst outcome and words corrected (R374, Table 8.10). -/
def basinScrub (g : Nat) (d : Delivered) (s : State) : State :=
  let (rs, t) := basinRead g (wordsOf (d.pkt.addr / 64 * 64) 64) s
  let r := if anyRead rs .uncorr then 2 else if anyRead rs .poisoned then 3 else if anyRead rs .corrected then 1 else 0
  let n := (rs.filter (fun x => x.2 == .corrected)).length
  basinAnswer d 12 .ok (leBytes 1 r ++ leBytes 1 n ++ leBytes 6 0) [] t

/-- The bytes of a write that fall into a word, and their mask. -/
def wordPart (p : Packet) (w : Nat) : List Byte × Nat :=
  ((List.range 8).map (fun i => if p.addr ≤ w * 8 + i then p.data.getD (w * 8 + i - p.addr) 0 else 0),
    listMask ((List.range 8).filter (fun i => decide (p.addr ≤ w * 8 + i ∧ w * 8 + i < p.addr + p.len))))

/-- A write: whole words directly, parts of words through the merge buffer (R372). -/
def basinServeWrite (g : Nat) (d : Delivered) (s : State) : State :=
  let p := d.pkt
  let t := forAll (wordsOf p.addr p.len) (fun u w =>
    let (data, mask) := wordPart p w
    if mask = 255 then writeWords (w * 8) data (fun _ => flitPoison p w) (dropMerge g w u) else mergeWrite g w data mask (flitPoison p w) u) s
  basinAnswer d 10 .ok [] [] t

/-- An ATOM: its word's merge entry is flushed first; a bad word is not written (R367, R372, Table 9.2). -/
def basinServeAtom (g : Nat) (d : Delivered) (s : State) : State :=
  let p := d.pkt
  let s := match mergeOf s g (p.addr / 8) with
    | some e => flushWord g e s
    | none => s
  let (rs, t) := basinRead g (wordsOf p.addr p.len) s
  let old := leAt (mgetN t.mems.mem p.addr p.len) 0 p.len
  if anyRead rs .uncorr then basinAnswer d 16 .uncorrectable [] [] t
  else if anyRead rs .poisoned then basinAnswer d 16 .okPoison (leBytes 8 old) [0] t
  else
    let new := atomNew (leAt p.data 0 1) old (leAt p.data 8 8) (leAt p.data 16 8) p.len
    basinAnswer d 16 .ok (leBytes 8 old) [] (writeWords p.addr (leBytes p.len new) (fun _ => false) t)

/-- BASIN_REQUEST_START: the request accepted first is performed once its banks are free; `errs` are upsets found in the words (R365 to R367). -/
def basinRequestStart (g : Nat) (errs : List WordErr) (s : State) : State :=
  match (bgroupOf s g).queue with
  | [] => s
  | d :: r =>
    if !(banksFree s g (lineAccesses d.pkt)) then s else
    let t := addWordErrs errs (useBanks g (lineAccesses d.pkt) (modBgroup g (fun b => { b with queue := r, flushed := false }) s))
    match d.pkt.op with
    | .rd => if fromScour d.pkt then basinScrub g d t else basinServeRead g d t
    | .atom => basinServeAtom g d t
    | _ => basinServeWrite g d t

/-- BASIN_REQUEST_START. -/
def execBasinRequestStart (g : Nat) (errs : List WordErr) (s : State) : Host.Outcome State Fault Refusal := .next (whileClocked (78 + g / 2) s (basinRequestStart g errs s))

/-- BASIN_MERGE_FLUSH: an entry 64 Braid cycles after it was allocated (R372); while requests wait, at most one between two starts (R366). -/
def basinMergeFlush (g : Nat) (errs : List WordErr) (s : State) : State :=
  match (bgroupOf s g).merge.find? (fun e => decide (e.at_ + 64 ≤ s.time)) with
  | some e =>
    if memPwr s g = .on ∧ ((bgroupOf s g).queue.isEmpty ∨ ¬ (bgroupOf s g).flushed) then
      modBgroup g (fun b => { b with flushed := true }) (flushWord g e (addWordErrs errs s))
    else s
  | none => s

/-- BASIN_MERGE_FLUSH. -/
def execBasinMergeFlush (g : Nat) (errs : List WordErr) (s : State) : Host.Outcome State Fault Refusal := .next (whileClocked (78 + g / 2) s (basinMergeFlush g errs s))

/-! ## Retention (R379 to R382) -/

/-- Number of a memory in the power table. -/
def unitOf (m : MemUnit) : Nat :=
  match m with
  | .basin g => g
  | .engines q => 8 + q

/-- A unit exists. -/
def unitOk (m : MemUnit) : Bool :=
  match m with
  | .basin g => decide (g < 8)
  | .engines q => decide (q < 24)

/-- Endpoint of a unit. -/
def unitEp (m : MemUnit) : Nat :=
  match m with
  | .basin g => 0x08 + g
  | .engines q => 0x40 + q

/-- RET_IDLE of a unit's domain in Braid cycles; 0 never (R380). -/
def retIdleOf (s : State) (m : MemUnit) : Nat := tget s.power.retIdle 0 (memDomain (unitOf m)) * usCycles

/-- A request waits for the unit. -/
def unitWanted (s : State) (m : MemUnit) : Bool := s.braid.inbox.any (fun d => d.ep == unitEp m && decide (0x10000000 ≤ d.pkt.addr))

/-- The unit has been idle for RET_IDLE: no request of a group, or a quad that has slept. -/
def unitIdle (s : State) (m : MemUnit) : Bool :=
  let n := retIdleOf s m
  n != 0 && !(unitWanted s m) && (match m with
    | .basin g => (bgroupOf s g).queue.isEmpty && decide ((bgroupOf s g).lastReq + n ≤ s.time)
    | .engines q => quadIdle s q && decide ((quadOf s q).lastBusy + n ≤ s.time))

/-- Put a unit into RETENTION; the merge buffer is flushed first. -/
def toRetention (m : MemUnit) (s : State) : State :=
  match m with
  | .basin g => setMemPwr g .retention (basinCount g 4 (flushGroup g s))
  | .engines q => setMemPwr (8 + q) .retention s

/-- RETENTION_ENTRY (R380, R381). -/
def retentionEntry (m : MemUnit) (s : State) : State :=
  if unitOk m && memPwr s (unitOf m) == .on && unitIdle s m then toRetention m s else s

/-- RETENTION_ENTRY. -/
def execRetentionEntry (m : MemUnit) (s : State) : Host.Outcome State Fault Refusal := .next (retentionEntry m s)

/-- Time of a wake from RETENTION (Table 9.4). -/
def wakeCycles (m : MemUnit) : Nat :=
  match m with
  | .basin _ => 9600
  | .engines _ => 2400

/-- The wake has run for its time: since a request arrived, or since the quad went to work. -/
def wakeDue (s : State) (m : MemUnit) : Bool :=
  s.braid.inbox.any (fun d => d.ep == unitEp m && decide (0x10000000 ≤ d.pkt.addr ∧ d.came + wakeCycles m ≤ s.time)) ||
  (match m with
    | .basin _ => false
    | .engines q => !(quadIdle s q) && decide ((quadOf s q).woke + 2400 ≤ s.time))

/-- A Basin group enters or leaves RETENTION: counter 4 or 5 of Table 9.9. -/
def retentionCount (u i : Nat) (s : State) : State := if u < 8 then basinCount u i s else s

/-- A memory that lost its contents in RETENTION raises its event after the wake, with cause UNCORR and its first address: a Basin group, or both memories of each engine of a quad (R382). -/
def lostEvent (u : Nat) (s : State) : State :=
  if s.mems.lost.contains u then
    if u < 8 then basinEv u 2 ((basinBase + u * 8388608) / 8) s
    else forAll [0, 1, 2, 3] (fun t i => let k := 4 * (u - 8) + i; ev488 k 2 2 false (imBase k + 0x20000) (ev488 k 2 2 true (imBase k) t)) s
  else s

/-- A memory is ON again after RETENTION. -/
def unitAwake (u : Nat) (s : State) : State := lostEvent u (retentionCount u 5 (setMemPwr u .on s))

/-- MEMORY_WAKE. -/
def memoryWake (m : MemUnit) (s : State) : State :=
  if unitOk m && memPwr s (unitOf m) == .retention && wakeDue s m then
    let t := restartInbox (unitEp m) (unitAwake (unitOf m) s)
    match m with
    | .basin g => modBgroup g (fun b => { b with lastReq := s.time }) t
    | .engines _ => t
  else s

/-- MEMORY_WAKE. -/
def execMemoryWake (m : MemUnit) (s : State) : Host.Outcome State Fault Refusal := .next (memoryWake m s)

/-- Domains that a served PWR_STATE ACTIVE wakes are ready (R500). -/
def maskReady (s : State) : Bool := (List.range 86).all (fun d => !(domOn s d) || domainReady s d)

/-- A served command that waits for domains goes on when they are ready (R382, R496, R500). -/
def domainWaits (s : State) : State :=
  modFerry s (fun f => { f with serving := f.serving.map (fun v =>
    if (v.opcode = 0x0701 ∧ domainReady s v.target) ∨ (v.opcode = 0x0700 ∧ maskReady s) then { v with waitingFor := 0 } else v) })

/-- MEMORY_INIT_DONE: the memory is zero with a valid code; the gate of its domain opens when the whole domain is ready (R382). -/
def memoryInitDone (m : MemUnit) (s : State) : State :=
  let u := unitOf m
  if unitOk m && memPwr s u == .init && domOn s (memDomain u) then
    let t := setMemPwr u .on (clearUnit u s)
    let t := match m with
      | .basin g => modBgroup g (fun b => { b with merge := [], lastReq := s.time }) t
      | .engines _ => t
    let t := if domainReady t (memDomain u) && (gateOf t (memDomain u)).st == .closed then setGateSt (memDomain u) .opened t else t
    domainWaits t
  else s

/-- MEMORY_INIT_DONE. -/
def execMemoryInitDone (m : MemUnit) (s : State) : Host.Outcome State Fault Refusal := .next (memoryInitDone m s)

end Sys2Proof.Machine
end

