-- ==== Sys2Proof/Machine/Crypto.lean ====
section
/-! DEFINITION. Keys, tidelines, the sealed window, counters, protected ranges, link keys, zeroization (chapter 10, section 9.7). -/

namespace Sys2Proof.Machine
open Sys2Proof

/-! ## Conditions of the key commands -/

/-- A crypto N part (R5). -/
def noCrypto (s : State) : Bool := !s.dbg.fuses.cryptoS

/-- Life-cycle states in which keys are denied (Table 9.13, R418, R431). -/
def keysDenied (s : State) : Bool := noCrypto s || s.dbg.fuses.life == .blank || s.dbg.fuses.life == .retired

/-- The secure bank takes no write: a TAMPER_N input is low, or zeroization is under way (R389, R390). -/
def bankHeld (s : State) : Bool := !s.dbg.tamperLow.isEmpty || s.crypto.trigger.isSome

/-- A KID is a slot of its own. -/
def kidTarget (t : Nat) : Bool := decide (1 ≤ t ∧ t ≤ 55)

/-- Change a key slot. -/
def setSlot (k : Nat) (v : KeySlot) (s : State) : State := modCrypto s (fun c => { c with slots := tset c.slots k v })

/-- EV384 (Table 10.15). -/
def keyEv (kid cause : Nat) (s : State) : State := raiseEv 384 cause 0 (leBytes 1 kid) s

/-- The sealed window is set and ready (R402). -/
def windowReady (s : State) : Bool := s.crypto.window.any (fun w => w.2.2)

/-! ## KEY_INSTALL (R418) -/

/-- A key goes to the partner of a pair that mirrors keys (Table 6.10). -/
def mirrorKey (m : MirrorItem) (s : State) : State := when_ s.twin.mirrorKeys (mirrorItem m) s

/-- KEY_INSTALL. A CRYPTO domain that is off is powered first (R26). -/
def keyInstallBody (v : Serving) (s : State) : Reply × State :=
  let m := pay v 0 1
  if 1 < m ∨ 15 < pay v 1 1 ∨ ¬ payZero v 2 8 then (rc rcBadArg, s)
  else if keysDenied s then (rc rcDenied, s)
  else if bankHeld s ∨ (slotOf s v.target).st ≠ .empty ∨ (m = 1 ∧ ¬ windowReady s) then (rc rcBadState, s)
  else
    match wakeFor 82 s with
    | none => (rc rcBadState, s)
    | some s =>
      match hwRead s (pay v 8 8) (if m = 1 then 104 else 72) with
      | none => (failedRead, s)
      | some blob =>
        match Config.keyUnwrap (Config.kek (pay v 1 1)) blob with
        | none => (failedAt 0 8, s)
        | some k => (rc rcDone, mirrorKey (.keySlot v.target (m == 1) k) (keyEv v.target 1 (setSlot v.target { st := .installed, sealedMode := m == 1, key := k } s)))

/-- KEY_INSTALL. -/
def keyInstall (s : State) : State := ferryServe 0x0500 16 kidTarget keyInstallBody s

/-- KEY_INSTALL. -/
def execKeyInstall (s : State) : Host.Outcome State Fault Refusal := .next (keyInstall s)

/-! ## KEY_RETIRE (R419, R420) -/

/-- A bound tideline names a KID. -/
def tideNames (s : State) (k : Nat) : Bool := s.crypto.tides.any (fun t => t.2.st != .unbound && (t.2.old == k || t.2.new == k))

/-- Number of a counter in the table of tree counters. -/
def treeKeyOf (c n : Nat) : Nat := c * 4294967296 + n

/-- Pages of a channel's share outside the counter area (R403). -/
def sharePages (s : State) (c : Nat) : Nat := ((shareOf s c).map (fun p => (p.2 - p.1) * 31 / 32 / 4096)).getD 0

/-- Level whose single node's counter is the root entry. -/
def topLevel (pages fuel : Nat) : Nat :=
  match fuel with
  | 0 => 0
  | f + 1 => if pages ≤ 1 then 0 else 1 + topLevel ((pages + 7) / 8) f

/-- The node above a counter block or node. -/
def parentOf (n : Nat) : Nat := (n / 16777216 + 1) * 16777216 + n % 16777216 / 8

/-- The counter of a block or node is the root entry. -/
def isTop (s : State) (c n : Nat) : Bool := decide (topLevel (sharePages s c) 32 ≤ n / 16777216)

/-- Root entry of a channel: the majority of its three copies (R408, R415). -/
def rootOf (s : State) (c : Nat) : Nat :=
  let v := fun k => tget s.crypto.roots 0 (16 * k + c)
  if v 0 = v 1 ∨ v 0 = v 2 then v 0 else v 1

/-- Value of a counter: root entry, counter cache, or the tree (R410). -/
def counterValue (s : State) (c n : Nat) : Nat :=
  if isTop s c n then rootOf s c else (tfind s.crypto.cache (treeKeyOf c n)).getD (tget s.crypto.tree 0 (treeKeyOf c n))

/-- Send a token about a counter from the key manager to a channel. -/
def sendChannel (c n : Nat) (op : CounterOp) (s : State) : State :=
  modBraid s (fun b => { b with tokens := b.tokens ++ [{ id := b.nextPid, src := 0x5A, dst := 0x10 + c % 16, kind := .counter c n op }], nextPid := b.nextPid + 1 })

/-- The key manager may send one more token to a channel: it has no more than 16 outstanding toward each (R410). -/
def managerRoom (s : State) (c : Nat) : Bool := decide (((counterTokens s c).filter (fun t => t.src == 0x5A)).length < 16)

/-- The cache entry that gives way: the oldest that is clean or whose write-back finds room. -/
def cacheVictim (s : State) : Option (Nat × Nat) :=
  s.crypto.cache.find? (fun e => !(s.crypto.cacheDirty.contains e.1) || managerRoom s (e.1 / 4294967296))

/-- An entry leaves the cache, a dirty one by a token that carries it back (R410). -/
def cacheDrop (e : Nat × Nat) (s : State) : State :=
  let u := modCrypto s (fun y => { y with cache := y.cache.filter (fun x => x.1 != e.1), cacheDirty := ldel y.cacheDirty e.1 })
  if s.crypto.cacheDirty.contains e.1 then sendChannel (e.1 / 4294967296) (e.1 % 4294967296) (.writeBack e.2) u else u

/-- Keep a counter in the cache of 131 072 entries (R410). -/
def cachePut (c n value : Nat) (dirty : Bool) (s : State) : State :=
  let k := treeKeyOf c n
  let t := if thas s.crypto.cache k ∨ s.crypto.cache.length < 131072 then s else (match cacheVictim s with
    | some e => cacheDrop e s
    | none => s)
  modCrypto t (fun y => { y with cache := (y.cache.filter (fun e => e.1 != k)) ++ [(k, value)], cacheDirty := if dirty then ladd y.cacheDirty k else y.cacheDirty })

/-- The counter of a block or node rises by one at the key manager. -/
def counterRise (c n : Nat) (s : State) : State :=
  if isTop s c n then modCrypto s (fun y => { y with roots := tset (tset (tset y.roots c (rootOf s c + 1)) (16 + c) (rootOf s c + 1)) (32 + c) (rootOf s c + 1) })
  else cachePut c n (counterValue s c n + 1) true s

/-- A dirty counter block is written back: its counter rises in its node (R410). -/
def writeBackPage (c page : Nat) (s : State) : State :=
  if (dchX s c).ctrDirty.contains page ∧ tokenRoom s c then sendCounter c page .increment (modDchX c (fun x => { x with ctrDirty := ldel x.ctrDirty page }) s) else s

/-- A page of a channel holds a line written under a key. -/
def pageUnder (s : State) (c : Nat) (key : List Byte) (p : Nat) : Bool :=
  (List.range 64).any (fun i => (tfind s.mems.lines (lineKey c (((shareOf s c).getD (0, 0)).1 / 64 + p * 64 + i))).any (fun t => t.key == key))

/-- Dirty pages of a channel that hold lines written under a key. -/
def pagesUnder (s : State) (c : Nat) (key : List Byte) : List Nat := (dchX s c).ctrDirty.filter (pageUnder s c key)

/-- Dirty counters in the cache that belong to such pages. -/
def cachedUnder (s : State) (key : List Byte) : List (Nat × Nat) :=
  s.crypto.cache.filter (fun e => s.crypto.cacheDirty.contains e.1 && decide (e.1 % 4294967296 < 16777216) && pageUnder s (e.1 / 4294967296) key (e.1 % 4294967296))

/-- Counters of pages last written under a key are written back, as many as tokens allow (R410, R420). -/
def writeBackKey (key : List Byte) (s : State) : State :=
  let t := forAll (List.range 16) (fun u c => forAll (pagesUnder u c key) (fun w p => writeBackPage c p w) u) s
  forAll (cachedUnder t key) (fun u e =>
    if managerRoom u (e.1 / 4294967296) then
      sendChannel (e.1 / 4294967296) (e.1 % 4294967296) (.writeBack e.2) (modCrypto u (fun y => { y with cacheDirty := ldel y.cacheDirty e.1 }))
    else u) t

/-- Every counter of such pages is written back, and its tokens have been served. -/
def keyWritten (s : State) (key : List Byte) : Bool :=
  (List.range 16).all (fun c => (pagesUnder s c key).isEmpty && (counterTokens s c).all (fun t => match t.kind with
    | .counter _ n .increment => !(pageUnder s c key n)
    | .counter _ n (.writeBack _) => !(pageUnder s c key n)
    | _ => true)) && (cachedUnder s key).isEmpty

/-- KEY_RETIRE: new requests with the KID are refused from now on, its merge entries are flushed, counters of its pages written back (R420). -/
def keyRetireBody (v : Serving) (s : State) : Reply × State :=
  let k := v.target
  let sl := slotOf s k
  if s.dbg.fuses.life = .retired then (rc rcDenied, s)
  else if sl.st ≠ .installed ∨ tideNames s k then (rc rcBadState, s)
  else
    let (j, t) := startJob v k s
    let t := setSlot k { sl with st := .retiring, job := some j } t
    (rc rcAccepted, writeBackKey (sl.key.take 64) (forAll (List.range 16) (fun u c => flushWhere c (fun e => e.kid == k) u) t))

/-- KEY_RETIRE. -/
def keyRetire (s : State) : State := ferryServe 0x0501 0 kidTarget keyRetireBody s

/-- KEY_RETIRE. -/
def execKeyRetire (s : State) : Host.Outcome State Fault Refusal := .next (keyRetire s)

/-- A channel still has an accepted request with a KID. -/
def kidBusy (s : State) (c k : Nat) : Bool :=
  (busyEntries s c).any (fun e => e.kid == k) || (dchOf s c).merge.any (fun e => e.kid == k) || (dchOf s c).hold.any (fun p => p.kid == k)

/-- KEY_RETIRE_DONE: every accepted request with the KID has completed and its counters are written back; the slot is zeroized (R419, R420). -/
def keyRetireDone (k : Nat) (s : State) : State :=
  let sl := slotOf s k
  if sl.st ≠ .retiring then s
  else if (List.range 16).all (fun c => !(kidBusy s c k)) ∧ ¬ keyWritten s (sl.key.take 64) then writeBackKey (sl.key.take 64) s
  else if (List.range 16).all (fun c => !(kidBusy s c k)) then
    mirrorKey (.keySlot k false []) (keyEv k 2 (endJob? sl.job rcDone [] (modCrypto s (fun c => { c with slots := tdel c.slots k }))))
  else s

/-- KEY_RETIRE_DONE. -/
def execKeyRetireDone (k : Nat) (s : State) : Host.Outcome State Fault Refusal := .next (whileClocked 82 s (keyRetireDone k s))

/-! ## Tidelines (R421 to R427) -/

/-- TARGET is an alias. -/
def aliasTarget (t : Nat) : Bool := decide (56 ≤ t ∧ t ≤ 63)

/-- Every line of a range lies in the DRAM map. -/
def inMap (s : State) (a n : Nat) : Bool :=
  decide (dramBase ≤ a ∧ a + n ≤ dramEnd) &&
    decide ((s.dram.map.map (fun r => min (a + n) (dramBase + (r.base + r.size) * 1073741824) - max a (dramBase + r.base * 1073741824))).sum = n)

/-- A range crosses the boundary of the sealed window or of its data part. -/
def crossesWindow (s : State) (a n : Nat) : Bool :=
  match sealedWin s with
  | none => false
  | some (st, ln) =>
    let cut := fun b => decide (a < b ∧ b < a + n)
    cut st || cut (st + 31 * ln / 32) || cut (st + ln)

/-- The range lies where Table 10.4 permits a mode. -/
def modeFits (s : State) (sealedMode : Bool) (a : Nat) : Bool := if sealedMode then inWindow s a && !(inCounterArea s a) else !(inWindow s a)

/-- Mode of a KID of a tideline; KID 0 takes the other's. -/
def tideMode (s : State) (old new : Nat) : Bool := (slotOf s (if new = 0 then old else new)).sealedMode

/-- TIDELINE_START (R421). -/
def tideStartBody (v : Serving) (s : State) : Reply × State :=
  let o := pay v 0 1
  let n := pay v 1 1
  let r := pay v 2 1
  let a := pay v 8 8
  let l := pay v 16 8
  let bad := fun k => k != 0 && (decide (55 < k) || (slotOf s k).st != .installed)
  if o = n ∨ r < 1 ∨ 4 < r ∨ ¬ payZero v 3 8 ∨ a % 64 ≠ 0 ∨ l % 64 ≠ 0 ∨ l = 0 ∨ ¬ inMap s a l ∨ crossesWindow s a l then (rc rcBadArg, s)
  else if noCrypto s then (rc rcDenied, s)
  else if (tideOf s (v.target - 56)).st ≠ .unbound ∨ bad o ∨ bad n ∨ (slotOf s o).sealedMode ≠ (slotOf s n).sealedMode ∨ ¬ modeFits s (tideMode s o n) a then (rc rcBadState, s)
  else if s.crypto.tides.any (fun t => t.2.st != .unbound && overlaps a l t.2.start t.2.length) then (rc rcConflict, s)
  else
    let i := v.target - 56
    let (j, t) := startJob v v.target s
    let t := modTide i (fun _ => { st := .running, old := o, new := n, rate := r, start := a, length := l, boundary := a, job := j, last := s.time - usCycles }) t
    (rc rcAccepted, forAll (List.range 16) (fun u c => modDchX c (fun x => { x with bounds := tset x.bounds i a }) u) t)

/-- TIDELINE_START. -/
def tidelineStart (s : State) : State := ferryServe 0x0502 24 aliasTarget tideStartBody s

/-- TIDELINE_START. -/
def execTidelineStart (s : State) : Host.Outcome State Fault Refusal := .next (tidelineStart s)

/-- Code of a tideline's state. -/
def tideCode (x : TideState) : Nat :=
  match x with
  | .unbound => 0
  | .running => 1
  | .paused => 2
  | .done => 3

/-- The 40-byte result of QUERY (R426). -/
def tideResult (t : Tide) : List Byte :=
  leBytes 1 (tideCode t.st) ++ leBytes 1 t.old ++ leBytes 1 t.new ++ leBytes 1 t.rate ++ leBytes 4 0 ++ leBytes 8 t.start ++ leBytes 8 t.length ++ leBytes 8 t.boundary ++
  leBytes 4 t.poisoned ++ leBytes 4 t.unwritten

/-- TIDELINE_STATUS (R426). -/
def tideStatusBody (v : Serving) (s : State) : Reply × State :=
  let i := v.target - 56
  let t := tideOf s i
  match pay v 0 1 with
  | 0 => ({ code := rcDone, result := tideResult t }, s)
  | 1 => if t.st = .running then (rc rcDone, modTide i (fun x => { x with st := .paused }) s) else (rc rcBadState, s)
  | 2 => if t.st = .paused then (rc rcDone, modTide i (fun x => { x with st := .running }) s) else (rc rcBadState, s)
  | 3 => if t.st = .done then (rc rcDone, modTide i (fun _ => {}) s) else (rc rcBadState, s)
  | _ => (rc rcBadArg, s)

/-- TIDELINE_STATUS. -/
def tidelineStatus (s : State) : State := ferryServe 0x0503 1 aliasTarget tideStatusBody s

/-- TIDELINE_STATUS. -/
def execTidelineStatus (s : State) : Host.Outcome State Fault Refusal := .next (tidelineStatus s)

/-- An event of a tideline (Table 10.15). -/
def tideEv (i cause sev : Nat) (s : State) : State := raiseEv (390 + i) cause sev [] s

/-- A conversion's answer: FENCED pauses, else the boundary moves on and the record is counted (R423, R426). -/
def tideAnswer (i : Nat) (c : Completion) (s : State) : State :=
  if c.status = .fenced then (if (tideOf s i).st = .running then tideEv i 2 1 (modTide i (fun x => { x with st := .paused }) s) else s)
  else
    let r := if c.status = .ok then leAt c.data 0 1 else 0
    let t := modTide i (fun x => { x with boundary := x.boundary + 64, poisoned := x.poisoned + b2n (r == 2), unwritten := x.unwritten + b2n (r == 3) }) s
    if r = 2 then raiseLimited (39000 + i) msCycles (390 + i) 3 1 [] t else t

/-- Take the answer of the line in progress, when it has come. -/
def tideAbsorb (i : Nat) (s : State) : State :=
  match s.braid.completions.find? (fun c => c.ep == 0x03 && c.agent == i && hasCome s c) with
  | none => s
  | some c =>
    let t := modBraid s (fun b => { b with completions := b.completions.filter (fun x => x.gid != c.gid) })
    if (tideOf t i).st = .unbound then t else tideAnswer i c t

/-- TIDELINE_LINE: the answer of the line in progress, the end of the range, or the next line no sooner than 1/RATE µs after the last (R423). -/
def tidelineLine (i : Nat) (s : State) : State :=
  let t := tideAbsorb i s
  let x := tideOf t i
  if x.st ≠ .running then t
  else if x.start + x.length ≤ x.boundary then tideEv i 1 0 (endJob x.job rcDone [] (modTide i (fun y => { y with st := .done }) t))
  else if ¬ t.braid.groups.any (fun g => g.ep == 0x03 && g.agent == i) ∧ x.last * max x.rate 1 + usCycles ≤ t.time * max x.rate 1 then
    (presentReq 0x03 i { op := .rd, addr := x.boundary, len := 64, kid := 56 + i } (modTide i (fun y => { y with last := t.time }) t)).2
  else t

/-- TIDELINE_LINE. -/
def execTidelineLine (i : Nat) (s : State) : Host.Outcome State Fault Refusal := .next (whileClocked 82 s (tidelineLine i s))

/-! ## The sealed window (R402) -/

/-- START and LENGTH of a SET are in range and within one region of the map. -/
def windowArgs (s : State) (a n : Nat) : Bool :=
  decide (a % 1073741824 = 0 ∧ n % 1073741824 = 0 ∧ 1073741824 ≤ n ∧ n ≤ 64 * 1073741824 ∧ dramBase ≤ a ∧ a + n ≤ dramEnd) &&
  s.dram.map.any (fun r => inRegion r (a - dramBase) && inRegion r (a - dramBase + n - 1))

/-- Some slot holds a sealed KID, or a bound tideline meets the window. -/
def windowInUse (s : State) (a n : Nat) : Bool :=
  s.crypto.slots.any (fun k => k.2.st != .empty && k.2.sealedMode) ||
  s.crypto.tides.any (fun t => t.2.st != .unbound && (overlaps a n t.2.start t.2.length || meetsSealed s t.2.start t.2.length))

/-- Every counter store is empty: zero counters (R402). -/
def clearCounters (s : State) : State :=
  forAll (List.range 16) (fun t c => modDchX c (fun x => { x with ctrBuf := [], ctrDirty := [], frozenPages := [], shareReadOnly := false, lostPages := [] }) t)
    (modCrypto s (fun c => { c with pages := [], roots := [], cache := [], cacheDirty := [], tree := [] }))

/-- SEAL_WINDOW (Table 10.3). A CRYPTO domain that is off is powered first (R26). -/
def sealWindowBody (v : Serving) (s : State) : Reply × State :=
  let f := pay v 0 1
  let a := pay v 8 8
  let n := pay v 16 8
  if noCrypto s then (rc rcDenied, s)
  else if 1 < f ∨ ¬ payZero v 1 8 ∨ (f = 0 ∧ ¬ windowArgs s a n) then (rc rcBadArg, s)
  else if windowInUse s (if f = 0 then a else 0) (if f = 0 then n else 0) then (rc rcBadState, s)
  else if s.crypto.sealJob.isSome then (rc rcBusy, s)
  else if f = 1 then (rc rcDone, modCrypto s (fun c => { c with window := none }))
  else
    match wakeFor 82 s with
    | none => (rc rcBadState, s)
    | some s =>
    let (j, t) := startJob v 0 s
    let (k, t) := freshNat t
    (rc rcAccepted, clearCounters (modCrypto t (fun c => { c with window := some (a, n, false), treeKey := k, sealJob := some j })))

/-- SEAL_WINDOW. -/
def sealWindow (s : State) : State := ferryServe 0x0504 24 noTarget sealWindowBody s

/-- SEAL_WINDOW. -/
def execSealWindow (s : State) : Host.Outcome State Fault Refusal := .next (sealWindow s)

/-- SEAL_INIT_DONE: the counter areas are initialized (R402). -/
def sealInitDone (s : State) : State :=
  match s.crypto.sealJob with
  | none => s
  | some j => endJob j rcDone [] (modCrypto s (fun c => { c with sealJob := none, window := c.window.map (fun w => (w.1, w.2.1, true)) }))

/-- SEAL_INIT_DONE. -/
def execSealInitDone (s : State) : Host.Outcome State Fault Refusal := .next (whileClocked 82 s (sealInitDone s))

/-! ## Counter tokens (R410, R411, R415) -/

/-- A counter block lies under a node, or is it. -/
def under (page n : Nat) : Bool := page / 8 ^ (n / 16777216) == n % 16777216

/-- A channel's counter buffer takes a verified block; of 64 the oldest gives way, a dirty one is written back (R410). -/
def bufferPage (c page : Nat) (s : State) : State :=
  let t := if 64 ≤ (dchX s c).ctrBuf.length then (match (dchX s c).ctrBuf with
    | [] => s
    | o :: _ => modDchX c (fun x => { x with ctrBuf := ldel x.ctrBuf o }) (writeBackPage c o s)) else s
  modDchX c (fun x => { x with ctrBuf := ladd x.ctrBuf page }) t

/-- A stored item fails (Table 10.6): a lost node is noted, EV386, EV388 and EV398 raised. -/
def counterFails (c n : Nat) (f : CounterFault) (s : State) : State :=
  match f with
  | .none => s
  | .corrected => raiseEv 388 1 0 [] s
  | .cleanDropped => raiseEv 388 2 0 [] (modCrypto s (fun y => if y.cacheDirty.contains (treeKeyOf c n) then y else { y with cache := tdel y.cache (treeKeyOf c n) }))
  | .rootVote => raiseEv 398 1 2 (leBytes 1 c) (modCrypto s (fun y => { y with roots := tset (tset (tset y.roots c (rootOf s c)) (16 + c) (rootOf s c)) (32 + c) (rootOf s c) }))
  | _ => raiseEv 386 1 2 (leBytes 1 c ++ leBytes 4 n) (modDchX c (fun x => { x with lostPages := ladd x.lostPages n }) s)

/-- The fault names the token's own counter, or a node above it. -/
def faultFits (n m : Nat) (f : CounterFault) : Bool :=
  n == m || ((f == .dirtyLost || f == .nodeLost) && decide (m / 16777216 = 0) && under m n)

/-- The fetch of a block leaves its counter and those of the nodes above it in the cache (R411). -/
def cacheUp (c n fuel : Nat) (s : State) : State :=
  match fuel with
  | 0 => s
  | f + 1 =>
    if isTop s c n then s
    else
      let t := if thas s.crypto.cache (treeKeyOf c n) then s else cachePut c n (counterValue s c n) false s
      cacheUp c (parentOf n) f t

/-- The key manager or a channel performs one token. -/
def counterServe (c m : Nat) (op : CounterOp) (s : State) : State :=
  match op with
  | .lookup =>
    let t := cacheUp c m 16 s
    sendChannel c m (.answer (counterValue t c m)) t
  | .answer _ => bufferPage c m s
  | .increment => counterRise c m s
  | .writeBack v =>
    let t := modCrypto s (fun y => { y with tree := tset y.tree (treeKeyOf c m) v })
    if tokenRoom t c then sendCounter c (parentOf m) .increment t else counterRise c (parentOf m) t

/-- The key manager can serve a token of a channel now: it has served none in this Braid cycle, an answer finds room, and so does what its cache gives up (R410). -/
def managerReady (s : State) (c : Nat) (op : CounterOp) : Bool :=
  decide (s.crypto.tokenAt ≠ some s.time) && (decide (op ≠ .lookup) || managerRoom s c) && (decide (s.crypto.cache.length + 16 < 131072) || (cacheVictim s).isSome)

/-- A token for the key manager uses its service of this cycle. -/
def useManager (op : CounterOp) (s : State) : State :=
  match op with
  | .lookup => modCrypto s (fun y => { y with tokenAt := some s.time })
  | .increment => modCrypto s (fun y => { y with tokenAt := some s.time })
  | _ => s

/-- The token's destination can serve it: a channel's tokens always sink on arrival. -/
def tokenServed (s : State) (c : Nat) (op : CounterOp) : Bool :=
  match op with
  | .lookup => managerReady s c op
  | .increment => managerReady s c op
  | _ => true

/-- Number a counter token is about. -/
def tokenCounter (t : Token) : Nat :=
  match t.kind with
  | .counter _ n _ => n
  | _ => 0

/-- COUNTER_TOKEN: the first token of a channel with this operation on this counter; `fault` is what the stores hold against it. -/
def counterToken (c n : Nat) (op : CounterOp) (fault : CounterFault) (s : State) : State :=
  match s.braid.tokens.find? (fun t => match t.kind with
      | .counter ch m o => ch == c && decide (o = op) && faultFits n m fault
      | _ => false) with
  | none => s
  | some t =>
    if tokenServed s c op then
      counterServe c (tokenCounter t) op (counterFails c n fault (useManager op (modBraid s (fun b => { b with tokens := b.tokens.filter (fun x => x.id != t.id) }))))
    else s

/-- COUNTER_TOKEN. -/
def execCounterToken (c n : Nat) (op : CounterOp) (fault : CounterFault) (s : State) : Host.Outcome State Fault Refusal := .next (whileClocked 82 s (counterToken c n op fault s))

/-! ## Re-sealing (R413, R414, R416) -/

/-- Entries of a channel that wait for a page's re-seal: their minor counter stands at 127. -/
def resealWaits (s : State) (c page : Nat) : List DEntry :=
  ((dchOf s c).wq ++ (dchOf s c).rq).filter (fun e =>
    kidSealed s e.kid && (e.kind == .write || e.kind == .mergeFlush || e.kind == .atom || e.kind == .convert) && pageOf s c e.line == page &&
    decide (127 ≤ tget (pageCtr s c page).minors 0 (e.line % 64)))

/-- One line of a page rewritten under its new counters: a line never written as zeros under the waiting write's key, a line that fails its check or MAC stored poisoned (R413). -/
def resealLine (c page kid i : Nat) (fresh : Bool) (s : State) : State :=
  let line := ((shareOf s c).getD (0, 0)).1 / 64 + page * 64 + i
  let t := lineTag s c line
  let p := pageCtr s c page
  if fresh then
    storeLine c line (List.replicate 64 0) { key := keyOfKid s kid, addr := t.addr, sealedLine := true, major := p.major, minor := 0, macKey := macOfKid s kid } s
  else
    let o := lineOutcome t (Config.freeNat s.freeCtr)
    let bad := decide (o = .uncorr) || decide (o = .poisoned) || !t.sealedLine || decide (t.major + 1 ≠ p.major)
    setLineTag c line { t with errs := [], poisoned := bad, sealedLine := true, undef := false, major := p.major, minor := 0 } s

/-- RESEAL: a page with a write that would take a minor counter past 127 gets its next major counter; past 2^64 - 1 it is frozen, and writes that wait for it are dropped (R413, R414, log entry 20). -/
def reseal (c page : Nat) (s : State) : State :=
  match resealWaits s c page with
  | [] => s
  | e :: _ =>
    let p := pageCtr s c page
    if 2 ^ 64 ≤ p.major + 1 then
      let t := modDchX c (fun x =>
        if x.frozenPages.length < 16 then { x with frozenPages := ladd x.frozenPages page } else { x with shareReadOnly := true }) s
      let t := forAll (resealWaits s c page) (fun u x => leaveQueues c x u) t
      raiseEvAt (some (0x10 + c)) 387 2 2 (leBytes 1 c ++ leBytes 4 page) t
    else
      let kid := (resolveKid s c e.kid e.addr).getD e.kid
      let fresh := fun i => p.major == 0 && tget p.minors 0 i == 0
      let t := modPageCtr c page (fun _ => { major := p.major + 1, minors := [] }) s
      let t := forAll (List.range 64) (fun u i => resealLine c page kid i (fresh i) u) t
      raiseLimitedAt (some (0x10 + c)) (38700 + c) msCycles 387 1 0 (leBytes 1 c) t

/-- RESEAL. -/
def execReseal (c page : Nat) (s : State) : Host.Outcome State Fault Refusal := .next (whileClocked 82 s (reseal c page s))

/-- A page of a lost subtree gets fresh counters, its lines are stored poisoned (R416). -/
def reinitPage (c page : Nat) (s : State) : State :=
  let t := modPageCtr c page (fun p => { major := p.major + 1, minors := [] }) s
  let p := pageCtr t c page
  forAll (List.range 64) (fun u i =>
    let line := ((shareOf u c).getD (0, 0)).1 / 64 + page * 64 + i
    setLineTag c line { lineTag u c line with errs := [], poisoned := true, sealedLine := true, undef := false, major := p.major, minor := 0 } u) t

/-- SUBTREE_REINIT: the oldest lost block or node of a channel is initialized anew beside live traffic (R416). -/
def subtreeReinit (c : Nat) (s : State) : State :=
  match (dchX s c).lostPages with
  | [] => s
  | n :: r =>
    let w := 8 ^ (n / 16777216)
    let pages := (List.range w).map (fun i => n % 16777216 * w + i)
    let t := counterRise c n (modDchX c (fun x => { x with lostPages := r }) s)
    let t := forAll (pages.filter (fun p => decide (p < sharePages s c))) (fun u p => reinitPage c p u) t
    raiseEv 386 2 0 (leBytes 1 c ++ leBytes 4 n) t

/-- SUBTREE_REINIT. -/
def execSubtreeReinit (c : Nat) (s : State) : Host.Outcome State Fault Refusal := .next (whileClocked 82 s (subtreeReinit c s))

/-! ## Protected ranges (R428) -/

/-- An enabled range lies within one of the spans of R428. -/
def protectSpan (a n : Nat) : Bool :=
  let within := fun b l => decide (b ≤ a ∧ a + n ≤ b + l)
  within basinBase 0x4000000 || within 0x200000000 0x1800000 || within dramBase (dramEnd - dramBase) ||
  (List.range 16).any (fun i => within (0x10000000000 + i * 0x1000000000) 0x1000000000)

/-- PROTECT_RANGE. -/
def protectBody (v : Serving) (s : State) : Reply × State :=
  let f := pay v 0 1
  let a := pay v 8 8
  let n := pay v 16 8
  if (tget s.crypto.ranges {} v.target).lock then (rc rcDenied, s)
  else if 3 < f ∨ ¬ payZero v 1 8 ∨ (bit f 0 ∧ (n = 0 ∨ a % 4096 ≠ 0 ∨ n % 4096 ≠ 0 ∨ ¬ protectSpan a n)) then (rc rcBadArg, s)
  else (rc rcDone, modCrypto s (fun c => { c with ranges := tset c.ranges v.target { enable := bit f 0, lock := bit f 1, start := a, length := n } }))

/-- PROTECT_RANGE. -/
def protectRange (s : State) : State := ferryServe 0x0505 24 (fun t => decide (t < 16)) protectBody s

/-- PROTECT_RANGE. -/
def execProtectRange (s : State) : Host.Outcome State Fault Refusal := .next (protectRange s)

/-! ## Link keys (R431 to R433) -/

/-- INSTALL and CLEAR are refused while their slot is in use (Table 10.14): the TX slot that KEYSEL names on a link set with ENCRYPT, or an RX slot that accepted a frame in the last 1 ms (log entry 21). -/
def linkSlotBusy (s : State) (link dir slot : Nat) : Bool :=
  if dir = 0 then (portOf s link).encrypt && (portOf s link).keysel == slot
  else (linkSlot s link 1 slot).lastUse.any (fun t => decide (s.time < t + msCycles))

/-- LINK_KEY INSTALL. -/
def linkInstall (v : Serving) (s : State) : Reply × State :=
  let d := pay v 1 1
  let k := pay v 2 1
  if linkSlotBusy s v.target d k then (rc rcBusy, s)
  else
    match hwRead s (pay v 8 8) 40 with
    | none => (failedRead, s)
    | some blob =>
      match Config.keyUnwrap (Config.kek (pay v 3 1)) blob with
      | none => (failedAt 0 8, s)
      | some key => (rc rcDone, mirrorKey (.linkKey v.target d k key (pay v 4 3)) (modLinkSlot v.target d k (fun _ => { key := key, salt := pay v 4 3 }) s))

/-- LINK_KEY SWITCH: DONE when KEYSEL has flipped on every member lane. -/
def linkSwitch (v : Serving) (s : State) : Reply × State :=
  let x := portOf s v.target
  if ¬ x.encrypt ∨ (linkSlot s v.target 0 (1 - x.keysel)).key = [] then (rc rcBadState, s)
  else (rc rcDone, waitFor 1 (modCrypto s (fun c => { c with switching := ladd c.switching v.target })))

/-- LINK_KEY (Tables 10.13, 10.14). -/
def linkKeyBody (v : Serving) (s : State) : Reply × State :=
  let f := pay v 0 1
  if 2 < f ∨ (f ≠ 1 ∧ (1 < pay v 1 1 ∨ 1 < pay v 2 1)) ∨ 15 < pay v 3 1 ∨ ¬ payZero v 7 8 then (rc rcBadArg, s)
  else if keysDenied s then (rc rcDenied, s)
  else if bankHeld s then (rc rcBadState, s)
  else if f = 0 then linkInstall v s
  else if f = 1 then linkSwitch v s
  else if linkSlotBusy s v.target (pay v 1 1) (pay v 2 1) then (rc rcBusy, s)
  else (rc rcDone, mirrorKey (.linkKey v.target (pay v 1 1) (pay v 2 1) [] 0) (modLinkSlot v.target (pay v 1 1) (pay v 2 1) (fun _ => {}) s))

/-- LINK_KEY. -/
def linkKey (s : State) : State := ferryServe 0x0506 16 (fun t => decide (t ≤ 64)) linkKeyBody s

/-- LINK_KEY. -/
def execLinkKey (s : State) : Host.Outcome State Fault Refusal := .next (linkKey s)

/-! ## Zeroization (R387 to R390) -/

/-- A trigger of zeroization; the first one names the cause. -/
def trip (k : Nat) (s : State) : State := modCrypto s (fun c => { c with trigger := some (c.trigger.getD k) })

/-- TAMPER_FILTER: TAMPER_N[input] has been low for 1 µs. -/
def tamperFilter (input : Nat) (s : State) : State :=
  if input < 2 then trip 1 (modDebug s (fun d => { d with tamperLow := ladd d.tamperLow input })) else s

/-- TAMPER_FILTER. -/
def execTamperFilter (input : Nat) (s : State) : Host.Outcome State Fault Refusal := .next (tamperFilter input s)

/-- TAMPER_N_RISE: the input is high again (R389). -/
def tamperNRise (input : Nat) (s : State) : State := modDebug s (fun d => { d with tamperLow := ldel d.tamperLow input })

/-- TAMPER_N_RISE. -/
def execTamperNRise (input : Nat) (s : State) : Host.Outcome State Fault Refusal := .next (tamperNRise input s)

/-- GLITCH_TRIP: a voltage, clock or temperature glitch monitor trips (R387). -/
def execGlitchTrip (s : State) : Host.Outcome State Fault Refusal := .next (trip 2 s)

/-- The Proof selections of some pin groups end; their pins become high-impedance, EV492 with the reason: 1 device reset, 2 life-cycle change, 3 zeroization, 4 detach, 5 BW_INIT (R550; the codes: log entry 22). -/
def clearProof (targets : List Nat) (reason : Nat) (s : State) : State :=
  let on := (s.dbg.proof.map (fun p => p.1)).filter (fun k => targets.contains k)
  forAll on (fun t k => raiseEv 492 2 0 (leBytes 1 reason ++ leBytes 1 k) (modDebug t (fun d => { d with proof := tdel d.proof k }))) s

/-- Every bound tideline becomes UNBOUND; its job, when not ended, ends ABORTED (Table 10.11). -/
def dropTides (s : State) : State :=
  forAll (s.crypto.tides.filter (fun t => t.2.st != .unbound)) (fun t x => endJob x.2.job rcAborted [] (modTide x.1 (fun _ => {}) t)) s

/-- Ports and the Twin link with ENCRYPT = 1 go DOWN (R389). -/
def dropLinks (s : State) : State :=
  forAll ((s.delta.ports.filter (fun p => p.2.encrypt && (p.2.st == .up || p.2.st == .init))).map (fun p => p.1)) (fun t p => portFall p 4 t) s

/-- The secure bank and every key register are zero, the counter cache is invalid (R388). -/
def zeroBank (s : State) : State :=
  let jobs := s.crypto.slots.filterMap (fun k => k.2.job) ++ s.crypto.sealJob.toList
  let t := modCrypto s (fun c =>
    { c with slots := [], linkSlots := [], switching := [], cache := [], cacheDirty := [], rootsSaved := [], zeroized := true, rngHeld := 0, treeKey := 0, sealJob := none, window := c.window.map (fun w => (w.1, w.2.1, false)), trigger := none })
  let t := modFabric t (fun f => { f with load := f.load.map (fun l => if l.started ∧ ¬ l.ended ∧ l.failed = none then { l with failed := some (7, 0), since := s.time } else l) })
  forAll jobs (fun u j => endJob j rcAborted [] u) t

/-- On entry into RETIRED, Basin and every engine memory pass through INIT (Table 9.13). -/
def retireInit (s : State) : State :=
  forAll (List.range 32) (fun t u => if memPwr t u = .on ∨ memPwr t u = .retention then setMemPwr u .init t else t) s

/-- ZEROIZATION: within 10 µs of its trigger; wins over a write of the same cycle (R388, R390, Table 9.10). -/
def zeroization (s : State) : State :=
  match s.crypto.trigger with
  | none => s
  | some k => raiseEv 489 1 (if k = 3 then 0 else 3) (leBytes 1 k) (when_ (s.dbg.fuses.life == .retired) retireInit (clearProof [0, 1] 3 (dropLinks (dropTides (zeroBank s)))))

/-- ZEROIZATION. -/
def execZeroization (s : State) : Host.Outcome State Fault Refusal := .next (zeroization s)

end Sys2Proof.Machine
end

