-- ==== Sys2Proof/Machine/WeirOps.lean ====
section
/-! DEFINITION. Moves of a weir gate that several commands make: fencing, opening, closing, the forced drain (R118 to R126, Table 3.12). -/

namespace Sys2Proof.Machine
open Sys2Proof

/-- OPEN to FENCING (Table 3.12). -/
def fenceGate (g : Nat) (force : Bool) (job : Option Nat) (s : State) : State :=
  setGate g { st := .fencing, force := force, since := s.time, limit := s.braid.drainMax * usCycles, job := job } s

/-- A gate opens; a fence whose EV445 has not been raised ends ABORTED (Table 3.12). -/
def openGate (g : Nat) (s : State) : State :=
  let x := gateOf s g
  let t := setGate g { st := .opened } s
  if x.st = .fencing then endJob? x.job rcAborted [] t else t

/-- DRAINED to CLOSED. -/
def closeGate (g : Nat) (s : State) : State := setGate g { gateOf s g with st := .closed } s

/-- Routers that a gate covers. -/
def gateRouters (g : Nat) : List Nat :=
  (List.range 64).filter (fun r => g == 0x100 + r || g == braidDomain (colOf r))

/-- FENCED for a request that a forced drain ends. -/
def fenceAnswer (ep : Nat) (p : Packet) (at_ : Nat) (s : State) : State := respond ep p at_ 2 .fenced [] [] false s

/-- The requests that have reached an NI whole and have not been delivered end (R126 step 1). -/
def drainArrived (ep : Nat) (s : State) : State :=
  let pids := ((s.braid.wires.filter (fun w => decide (w.hop = .ni ep) && w.flit.isHead && isRequest w.flit.pkt && !(leaving s w.flit.pkt))).map (fun w => w.flit.pkt.pid)).filter (fun i => (wholePacket s ep i).isSome)
  forAll pids (fun t i => match wholePacket t ep i with
    | some p => if nonPosted p.op then fenceAnswer ep p t.time (clearNi ep i t) else discardAtNi ep p (clearNi ep i t)
    | none => t) s

/-- The requests at a covered endpoint that have reached its NI, wait for it, or have not been answered by it, end (R126 step 1). -/
def drainEndpoint (ep : Nat) (s : State) : State :=
  let s := drainArrived ep s
  let mine := s.braid.inbox.filter (fun d => d.ep == ep)
  let t := modBraid s (fun b => { b with inbox := b.inbox.filter (fun d => d.ep != ep) })
  let t := modMems t (fun m => { m with retries := m.retries.filter (fun r => !(mine.any (fun d => d.pkt.pid == r.pid))) })
  let t := forAll mine (fun u d => if nonPosted d.pkt.op then fenceAnswer ep d.pkt d.at_ u else discardAtNi ep d.pkt u) t
  if 0x08 ≤ ep ∧ ep < 0x10 then
    let q := (bgroupOf t (ep - 0x08)).queue
    forAll q (fun u d => if nonPosted d.pkt.op then fenceAnswer ep d.pkt d.at_ u else discardAtNi ep d.pkt u) (modBgroup (ep - 0x08) (fun b => { b with queue := [] }) t)
  else if 0x10 ≤ ep ∧ ep < 0x20 then
    let h := dchOf t (ep - 0x10)
    let gone := h.pending.map (fun d => d.pid)
    let t := modDch (ep - 0x10) (fun x =>
      { x with pending := [], hold := [], rq := x.rq.filter (fun e => !(gone.contains e.pid)), inProgress := x.inProgress.filter (fun a => !(gone.contains a.e.pid)) }) t
    let t := forAll h.pending (fun u d => fenceAnswer ep d.pkt d.at_ u) t
    let t := forAll h.hold (fun u p => if nonPosted p.op then fenceAnswer ep p p.presentedAt u else discardAtNi ep p u) t
    let q := t.twin.queue.filter (fun m => m.channel == ep - 0x10)
    forAll q (fun u m => if nonPosted m.pkt.op then fenceAnswer ep m.pkt m.at_ u else u)
      (modTwin t (fun w => { w with queue := w.queue.map (fun m => if m.channel = ep - 0x10 then { m with pkt := { m.pkt with op := .wrp } } else m) }))
  else t

/-- A router discards every packet whose head flit has not started to leave; its later flits are dropped as they come (R126 step 3). -/
def drainRouter (r : Nat) (s : State) : State :=
  let heads := ((routerOf s r).buf.filter (fun b => b.2.isHead)).map (fun b => b.2.pkt.pid)
  let gone := (routerOf s r).buf.filter (fun b => heads.contains b.2.pkt.pid)
  let whole := (gone.filter (fun b => b.2.isLast)).map (fun b => b.2.pkt.pid)
  modRouter r (fun n =>
    { n with buf := n.buf.filter (fun b => !(heads.contains b.2.pkt.pid)), owed := n.owed ++ gone.map (fun b => (b.1, b.2.pkt.vc, s.time + creditDelay r b.1)), dropping := n.dropping ++ heads.filter (fun p => !(whole.contains p)) }) s

/-- The forced drain of a gate (R126). -/
def forcedDrain (g : Nat) (s : State) : State :=
  forAll (gateRouters g) (fun t r => drainRouter r t) (forAll ((List.range 0x70).filter (covers g)) (fun t e => drainEndpoint e t) s)

end Sys2Proof.Machine
end

