-- ==== Sys2Proof/Machine/FabricOps.lean ====
section
/-! DEFINITION. Reaches, image streams and loads of the fabric (sections 11.3 to 11.6). -/

namespace Sys2Proof.Machine
open Sys2Proof

/-! ## Boot flash (R450, R451) -/

/-- One directory copy, when its fields are valid (Table 11.7). -/
def dirCopy (s : State) (o : Nat) : Option (List Byte) :=
  let d := flashBytes s o 64
  if leAt d 0 4 = 0xF1A50011 ∧ leAt d 4 2 = 1 ∧ leAt d 6 1 < 2 ∧ leAt d 0x3C 4 = crc32 (d.take 0x3C) then some d else none

/-- The directory in force: the second copy when the first fails (R451). -/
def directory (s : State) : Option (List Byte) :=
  match dirCopy s 0 with
  | some d => some d
  | none => dirCopy s 0x10000

/-- Offset that the directory gives at a field; none when absent. -/
def dirField (s : State) (o : Nat) : Option Nat :=
  match directory s with
  | none => none
  | some d => if leAt d o 4 = 0xFFFFFFFF then none else some (leAt d o 4)

/-- Flash staging or the directory rewrite holds the xSPI port (R552). -/
def flashHeld (s : State) : Bool := s.dbg.boot.staging.isSome || s.dbg.boot.dirRewrite

/-- A load from flash runs (R552). -/
def flashLoading (s : State) : Bool := s.fabric.load.any (fun l => l.started && l.source == 1)

/-! ## Events (Table 11.17) -/

/-- EV288 + 2n. -/
def reachEv (n cause sev : Nat) (detail : List Byte) (s : State) : State := raiseEv (288 + 2 * n) cause sev detail s

/-! ## Images (R444 to R447) -/

/-- Bytes of an image as its source gives them; none when a read does not end OK (Table 11.6 SOURCE). -/
def rawImage (s : State) (source addr off n : Nat) : Option (List Byte) :=
  if source = 1 then some (flashBytes s (addr + off) n) else hwRead s (addr + off) n

/-- MAGIC, VERSION, HDR_CRC and KIND of the image header are those of its kind (Table 11.4, R457). -/
def headerOk (full : Bool) (h : List Byte) : Bool :=
  decide (leAt h 0 4 = 0xFAB10011 ∧ leAt h 4 2 = 1 ∧ leAt h 6 1 = (if full then 0 else 1) ∧ leAt h 0x5C 4 = crc32 (h.take 0x5C))

/-- The other fields of the header have the values of Table 11.4; one that has not is a FORMAT failure before the first record (R449). -/
def headerClean (full : Bool) (h : List Byte) : Bool :=
  decide (leAt h 7 1 < 2 ∧ leAt h 9 3 = 0 ∧ leAt h 0x48 20 = 0) && (!full || decide (leAt h 8 1 = 0xFF)) && (bit (leAt h 7 1) 0 || decide (leAt h 0x20 40 = 0))

/-- Ciphertext bytes of a full segment, and of the record stream it carries behind its KEYROLL record of 48 bytes. -/
def segBytes : Nat := 1048576

/-- Record-stream bytes of a full segment. -/
def segStream : Nat := 1048528

/-- Segments of an encrypted image of a given LENGTH. -/
def segCount (length : Nat) : Nat := (length - 96 + (segBytes + 15)) / (segBytes + 16)

/-- Ciphertext length of segment `k`. -/
def segLen (length k : Nat) : Nat := min segBytes (length - 96 - k * (segBytes + 16) - 16)

/-- IV of segment `k`: a 32-bit big-endian number and 64 zero bits (R447). -/
def segIv (k : Nat) : List Byte := (leBytes 4 k).reverse ++ List.replicate 8 0

/-- Ciphertext of a segment. -/
def segCipher (s : State) (l : Load) (k : Nat) : Option (List Byte) :=
  rawImage s l.source l.addr (96 + k * (segBytes + 16)) (segLen l.length k)

/-- Plaintext of a segment under a key. -/
def segPlainWith (s : State) (l : Load) (k : Nat) (key : List Byte) : Option (List Byte) :=
  (segCipher s l k).map (fun c => Config.gcmPlain key (segIv k) c)

/-- Key of segment `k`: KEYBLOB under the fabric image key, then each KEYROLL blob under the key before (R447). -/
def segKeyAt (s : State) (l : Load) (k : Nat) : Option (List Byte) :=
  match k with
  | 0 => if s.crypto.zeroized then none else (rawImage s l.source l.addr 0x20 40).bind (fun b => Config.keyUnwrap Config.imageKey b)
  | j + 1 => (segKeyAt s l j).bind (fun key => (segPlainWith s l j key).bind (fun p => Config.keyUnwrap key ((p.drop 8).take 40)))

/-- Plaintext of a segment. -/
def segPlain (s : State) (l : Load) (k : Nat) : Option (List Byte) := (segKeyAt s l k).bind (segPlainWith s l k)

/-- Length of the record stream. -/
def streamLen (l : Load) : Nat := if l.encrypted then l.length - 96 - 64 * segCount l.length else l.length - 96

/-- Bytes of the record stream. -/
def streamBytes (s : State) (l : Load) (q n : Nat) : Option (List Byte) :=
  if l.encrypted then
    let a := q / segStream
    let ks := (List.range ((q + n - 1) / segStream + 1 - a)).map (fun i => a + i)
    (ks.foldr (fun k r => match segPlain s l k, r with
      | some p, some x => some (p.drop 48 ++ x)
      | _, _ => none) (some [])).map (fun b => (b.drop (q % segStream)).take n)
  else rawImage s l.source l.addr (96 + q) n

/-- Body bytes before stream offset `q`, KEYROLL records included (Table 11.5 END). -/
def bodyBefore (s : State) (l : Load) (q : Nat) : Option (List Byte) :=
  if l.encrypted then
    ((List.range (q / segStream + 1)).foldr (fun k r => match segPlain s l k, r with
      | some p, some x => some (p ++ x)
      | _, _ => none) (some [])).map (fun b => b.take (48 * (q / segStream + 1) + q))
  else rawImage s l.source l.addr 96 q

/-- GCM tag of a segment verifies. -/
def segTagOk (s : State) (l : Load) (k : Nat) : Bool :=
  match segKeyAt s l k, segCipher s l k, rawImage s l.source l.addr (96 + k * (segBytes + 16) + segLen l.length k) 16, rawImage s l.source l.addr 0 96 with
  | some key, some c, some t, some h => t == Config.gcmTag key (segIv k) h c
  | _, _, _, _ => false

/-- What is wrong with the opening of segment `k`: the tag of the one before, its key, its KEYROLL record (R447, R449). -/
def segFault (s : State) (l : Load) (k : Nat) : Option Nat :=
  if 0 < k ∧ ¬ segTagOk s l (k - 1) then some 3
  else if (segCipher s l k).isNone then some 5
  else
    match segPlain s l k with
    | none => some 6
    | some p =>
      let final := decide (k + 1 = segCount l.length)
      if leAt p 0 1 ≠ 4 ∨ leAt p 1 1 ≠ b2n final ∨ leAt p 2 2 ≠ 0 ∨ leAt p 4 4 ≠ 0 ∨ (final ∧ leAt p 8 40 ≠ 0) then some 4 else none

/-- The first fault among the segments that a record's bytes enter. -/
def enterFault (s : State) (l : Load) (last : Nat) : Option Nat :=
  if l.encrypted then (List.range (last / segStream + 1 - l.segs)).findSome? (fun i => segFault s l (l.segs + i)) else none

/-! ## Frames (R440, R441) -/

/-- A frame address that an image may write (Table 11.6 OUT_OF_REACH). -/
def frameAllowed (l : Load) (a : Nat) : Bool :=
  let r := a / 2 ^ 19
  let i := a % 2 ^ 19
  if l.full then (decide (r < 16) && decide (i < 18432)) || (r == 31 && decide (i < 12288)) else r == l.target && decide (i < 18432)

/-- Configuration memory keeps a frame: a logic frame (R441). -/
def logicFrame (a : Nat) : Bool := if a / 2 ^ 19 = 31 then decide (a % 2 ^ 19 < 7680) else decide (a % 2 ^ 19 < 14112)

/-- A frame of configuration memory; zero where none is listed. -/
def frameAt (s : State) (a : Nat) : BitVec 4096 := tget s.fabric.frames 0 a

/-- Write one frame of a table that lists no zero frame. -/
def putFrame (t : Tbl (BitVec 4096)) (a : Nat) (v : BitVec 4096) : Tbl (BitVec 4096) := if v = 0 then tdel t a else tset t a v

/-- Write a frame: a logic frame into configuration memory, a block RAM init frame into its block RAM (R441). -/
def writeFrame (a : Nat) (v : BitVec 4096) (s : State) : State :=
  modFabric s (fun f =>
    { f with frames := if logicFrame a then putFrame f.frames a v else f.frames, bram := if logicFrame a then f.bram else putFrame f.bram a v, upsets := tdel f.upsets a, load := f.load.map (fun l => { l with frames := l.frames + 1, written := ladd l.written (a / 2 ^ 19) }) })

/-- Every frame of a region is zero. -/
def zeroRegion (r : Nat) (s : State) : State :=
  modFabric (clearRegion r s) (fun f => { f with upsets := f.upsets.filter (fun p => p.1 / 2 ^ 19 != r) })

/-- Every frame that a load covers is zero. -/
def zeroTarget (l : Load) (s : State) : State :=
  if l.full then forAll (31 :: List.range 16) (fun t r => zeroRegion r t) s else zeroRegion l.target s

/-! ## Records (R445, R446) -/

/-- What one record does, or why it fails: reason and frame address. -/
inductive RecordOut where
  | fail (reason addr : Nat)
  | frames (len : Nat) (ws : List (Nat × BitVec 4096))
  | plate (len index : Nat) (v : BitVec 4096)
  | stop (len : Nat)
deriving DecidableEq, Repr

/-- Length of a record padded to a multiple of 8 bytes. -/
def padded (n : Nat) : Nat := (n + 7) / 8 * 8

/-- A frame payload: its data when its CRC-32 matches. -/
def framePayload (b : List Byte) : Option (BitVec 4096) :=
  if leAt b 512 4 = crc32 (b.take 512) then some (BitVec.ofNat 4096 (leAt b 0 512)) else none

/-- Length of the record whose header is given, in the stream; none for a header that is not well formed (FORMAT). -/
def recordLen (h : List Byte) : Option Nat :=
  let c := leAt h 2 2
  let f := leAt h 1 1
  if leAt h 7 1 ≠ 0 then none
  else
    match leAt h 0 1 with
    | 0x01 => if f = 0 ∧ c ≠ 0 then some (padded (8 + 516 * c)) else none
    | 0x02 => if f = 0 ∧ c = 1 ∧ leAt h 4 4 < 64 then some (padded 524) else none
    | 0x03 => if f < 2 ∧ c ≠ 0 ∧ leAt h 4 4 < 64 then some (padded (8 + (if f = 1 then 4 else 4 * c))) else none
    | 0x0F => if f = 0 ∧ c = 0 ∧ leAt h 4 4 = 0 then some 16 else none
    | _ => none

/-- A FRAME record: addresses first, then each payload's CRC. -/
def frameRecord (l : Load) (b : List Byte) : RecordOut :=
  let a := leAt b 4 4
  let as := (List.range (leAt b 2 2)).map (fun i => a + i)
  match as.find? (fun x => !(frameAllowed l x)) with
  | some x => .fail 1 x
  | none =>
    let ps := as.zipIdx.map (fun e => (e.1, framePayload ((b.drop (8 + 516 * e.2)).take 516)))
    match ps.find? (fun e => e.2.isNone) with
    | some e => .fail 2 e.1
    | none => .frames (padded (8 + 516 * leAt b 2 2)) (ps.filterMap (fun e => e.2.map (fun v => (e.1, v))))

/-- A REPEAT record. -/
def repeatRecord (l : Load) (b : List Byte) : RecordOut :=
  let c := leAt b 2 2
  let as := if leAt b 1 1 = 1 then (List.range c).map (fun i => leAt b 8 4 + i) else (List.range c).map (fun i => leAt b (8 + 4 * i) 4)
  match tfind l.plates (leAt b 4 4) with
  | none => .fail 4 0
  | some v =>
    match as.find? (fun x => !(frameAllowed l x)) with
    | some x => .fail 1 x
    | none => .frames (padded (8 + (if leAt b 1 1 = 1 then 4 else 4 * c))) (as.map (fun x => (x, v)))

/-- The END record: count and CRC of the body before it; in an encrypted image the last segment's tag (R449). -/
def endRecord (s : State) (l : Load) (b : List Byte) : RecordOut :=
  match bodyBefore s l l.pos with
  | none => .fail 5 0
  | some body =>
    if leAt b 8 4 ≠ l.frames ∨ leAt b 12 4 ≠ crc32 body then .fail 8 0
    else if l.encrypted ∧ ¬ segTagOk s l (segCount l.length - 1) then .fail 3 0
    else if l.pos + 16 < streamLen l then .fail 4 0
    else .stop 16

/-- The record at a load's place in its stream. -/
def streamRecord (s : State) (l : Load) : RecordOut :=
  if streamLen l < l.pos + 8 then .fail 4 0
  else
    match enterFault s l (l.pos + 7) with
    | some r => .fail r 0
    | none =>
      match streamBytes s l l.pos 8 with
      | none => .fail 5 0
      | some h =>
        match recordLen h with
        | none => .fail 4 0
        | some n =>
          if streamLen l < l.pos + n then .fail 4 0
          else
            match enterFault s l (l.pos + n - 1) with
            | some r => .fail r 0
            | none =>
              match streamBytes s l l.pos n with
              | none => .fail 5 0
              | some b =>
                match leAt b 0 1 with
                | 0x01 => frameRecord l b
                | 0x02 => (match framePayload (b.drop 8) with
                    | none => .fail 2 0
                    | some v => .plate n (leAt b 4 4) v)
                | 0x03 => repeatRecord l b
                | _ => endRecord s l b

/-- What is wrong with the header of a load whose first record is due. -/
def headerFault (s : State) (l : Load) : Option Nat :=
  if l.pos ≠ 0 then none
  else
    match rawImage s l.source l.addr 0 96 with
    | none => some 5
    | some h => if headerClean l.full h then none else some 4

/-- The next record of a load. -/
def nextRecord (s : State) (l : Load) : RecordOut :=
  match headerFault s l with
  | some r => .fail r 0
  | none => streamRecord s l

/-! ## Starting a load -/

/-- Braid cycles that one frame write takes: 16 configuration cycles, 25 M frames/s (R448). -/
def frameCycles : Nat := 64

/-- Frames of the regions that a load covers (Table 11.3). -/
def loadFrames (l : Load) : Nat := if l.full then 307200 else 18432

/-- A load fails: from now on every frame that it covers is written with zeros (R458). -/
def failsAt (s : State) (reason addr : Nat) (l : Load) : Load := { l with failed := some (reason, addr), since := s.time }

/-- A load that is under way goes on with its target LOADING: gate CLOSED, clocks off, hatch binding dropped (Table 11.9). Frames that the records do not write are zero at its end (R448). -/
def beginLoad (l : Load) (s : State) : State :=
  let t := modFabric (zeroTarget l s) (fun f => { f with load := some { l with started := true, since := s.time } })
  if l.full then t
  else
    setGateSt (30 + l.target) .closed (modReach l.target (fun r => { r with st := .loading, hatch := none, regionalClocks := false, stage1 := true, stage2 := true, designId := 0, encrypted := false }) t)

/-- A load with its header's fields. -/
def withHeader (l : Load) (h : List Byte) : Load :=
  { l with length := leAt h 0x0C 4, encrypted := bit (leAt h 7 1) 0, designId := leAt h 0x10 8, shellId := leAt h 0x18 8 }

/-- The boot mode asks for the initial load: 0b000, 0b010 and the values read as 0b000 (Table 14.2). -/
def flashBoot (s : State) : Bool := decide (4 ≤ s.dbg.boot.bootMode) || s.dbg.boot.bootMode % 2 == 0

/-- The initial load runs, or is due once Headwater has started in flash boot (R452, R454). -/
def initialBusy (s : State) : Bool :=
  s.fabric.initialRunning || (s.ferry.ready && flashBoot s && !s.fabric.cfgDone && !s.fabric.cfgErr && s.dbg.boot.fabImage == 0xFE)

/-- A policy reload starts when no load is in progress, its reach is isolated and the port is free (R469, R552); its header is checked as its image's records are. -/
def nextReload (s : State) : State :=
  match s.fabric.reloads with
  | [] => s
  | n :: r =>
    match (reachOf s n).recorded with
    | none => modFabric s (fun f => { f with reloads := r })
    | some (src, a) =>
      if s.fabric.load.isSome ∨ initialBusy s ∨ (reachOf s n).st ≠ .isolated ∨ (src = 1 ∧ flashHeld s) then s
      else
        let l : Load := { target := n, source := src, addr := a, release := !(reachOf s n).priorIsolated, policy := true }
        let t := modFabric s (fun f => { f with reloads := r })
        match rawImage s src a 0 96 with
        | none => beginLoad { l with failed := some (5, 0) } t
        | some h =>
          let g := withHeader l h
          if headerOk false h ∧ leAt h 8 1 = n ∧ g.shellId = s.fabric.shellId then
            beginLoad { g with failed := if g.encrypted && (noCrypto s || s.crypto.zeroized) then some (6, 0) else none } t
          else beginLoad { g with failed := some (4, 0) } t

/-! ## Isolation (R439, R456, R460, R468) -/

/-- The gate of an isolating reach is DRAINED: stage 2, then what the isolation is for. -/
def reachDrained (n : Nat) (s : State) : State :=
  let r := reachOf s n
  if r.st ≠ .isolating then s
  else
    let t := modReach n (fun x => { x with st := .isolated, stage2 := true, isoJob := none }) s
    match r.isoFor with
    | .isolate => nextReload (endJob? r.isoJob rcDone [] (reachEv n 3 0 [] t))
    | .policy => nextReload (reachEv n 3 0 [] t)
    | .load => (match t.fabric.load with
        | some l => if l.target = n ∧ ¬ l.started then beginLoad l t else t
        | none => t)
    | .reset => modReach n (fun x => { x with rstSince := some s.time }) t
    | .reload => nextReload t

/-- An ACTIVE reach starts to isolate: stage 1 clamps, the gate fences, its Ferry channel is reset (Table 11.9). -/
def isolateReach (n : Nat) (why : IsoFor) (force : Bool) (job : Option Nat) (s : State) : State :=
  let t := senderResetChan (106 + n) (modReach n (fun r => { r with st := .isolating, stage1 := true, isoFor := why, isoJob := job, priorIsolated := false }) s)
  match (gateOf t (30 + n)).st with
  | .opened => fenceGate (30 + n) force none t
  | .fencing => setGate (30 + n) { gateOf t (30 + n) with force := force || (gateOf t (30 + n)).force } t
  | _ => reachDrained n t

/-- DRAIN_MAX passes for an isolating reach without FORCE: its command ends with TIMEOUT, the reach is only isolated when the gate drains later (Table 11.9). -/
def reachTimeout (n : Nat) (s : State) : State :=
  let r := reachOf s n
  if r.st ≠ .isolating then s
  else
    let t := modReach n (fun x => { x with isoFor := .isolate, isoJob := none }) (endJob? r.isoJob rcTimeout [] s)
    match t.fabric.load with
    | some l => if l.target = n ∧ ¬ l.started then nextReload (modFabric (endJob? l.job rcTimeout [] t) (fun f => { f with load := none })) else t
    | none => t

/-- A reach becomes ACTIVE: the gate opens, the clamps are off. -/
def releaseReach (n : Nat) (s : State) : State :=
  openGate (30 + n) (modReach n (fun r => { r with st := .active, stage1 := false, stage2 := false, regionalClocks := true }) s)

end Sys2Proof.Machine
end

