-- ==== Sys2Proof/Machine/Fabric.lean ====
section
/-! DEFINITION. Commands and steps of the fabric: initial load, loads, isolation, scrubbing (sections 11.5 to 11.8). -/

namespace Sys2Proof.Machine
open Sys2Proof

/-! ## The initial load (R452, R453) -/

/-- Flash offset of the fabric image tried as number `k`: the preferred one first. -/
def fabOffset (s : State) (k : Nat) : Option Nat :=
  match directory s with
  | none => none
  | some d => dirField s (if (leAt d 6 1 + k) % 2 = 0 then 0x10 else 0x14)

/-- Begin reading fabric image number `k`; an absent image or bad header fails with FORMAT (R451, R452). -/
def startInitial (k : Nat) (s : State) : State :=
  let l : Load := { target := 31, full := true, source := 1, boot := some k }
  match fabOffset s k with
  | none => beginLoad { l with failed := some (4, 0) } s
  | some o =>
    let h := flashBytes s o 96
    let g := withHeader { l with addr := o } h
    beginLoad { g with failed := if ¬ headerOk true h then some (4, 0) else if g.encrypted && noCrypto s then some (6, 0) else none } s

/-- INITIAL_LOAD: Headwater has started in flash boot (R452). -/
def initialLoad (s : State) : State :=
  if initialBusy s ∧ s.fabric.load = none then
    startInitial 0 (modFabric s (fun f => { f with initialRunning := true }))
  else s

/-- INITIAL_LOAD. -/
def execInitialLoad (s : State) : Host.Outcome State Fault Refusal := .next (whileClocked 83 s (initialLoad s))

/-- A record of the image failed: every frame that the load covers is zeroed, and the failure waits for ZERO_FILL_DONE (R458). -/
def failLoad (reason addr : Nat) (s : State) : State :=
  match s.fabric.load with
  | none => s
  | some l => modFabric (zeroTarget l s) (fun f => { f with load := f.load.map (failsAt s reason addr) })

/-- Move a load past a record. -/
def advanceLoad (n : Nat) (s : State) : State :=
  modFabric s (fun f => { f with load := f.load.map (fun l => { l with pos := l.pos + n, segs := if l.encrypted then (l.pos + n - 1) / segStream + 1 else 0 }) })

/-- IMAGE_RECORD: one record is checked whole, then performed, once the frames of those before it are written (R445, R446, R448, R449). A flash read that fails ends the load with reason SOURCE and raises EV404 READ_FAIL. -/
def imageRecord (flashFails : Bool) (s : State) : State :=
  match s.fabric.load with
  | none => s
  | some l =>
    if ¬ l.started ∨ l.ended ∨ l.failed ≠ none ∨ s.time < l.since + frameCycles * l.frames then s
    else if flashFails ∧ l.source = 1 then failLoad 5 0 (raiseEv 404 2 2 [] s)
    else
      match nextRecord s l with
      | .fail r a => failLoad r a s
      | .frames n ws => advanceLoad n (forAll ws (fun t w => writeFrame w.1 w.2 t) s)
      | .plate n i v => advanceLoad n (modFabric s (fun f => { f with load := f.load.map (fun x => { x with plates := tset x.plates i v }) }))
      | .stop n => advanceLoad n (modFabric s (fun f => { f with load := f.load.map (fun x => { x with ended := true }) }))

/-- IMAGE_RECORD. -/
def execImageRecord (s : State) (flashFails : Bool := false) : Host.Outcome State Fault Refusal := .next (whileClocked 83 s (imageRecord flashFails s))

/-- A reach's image has passed (Table 11.9). -/
def reachLoaded (l : Load) (s : State) : State :=
  let n := l.target
  let t := modReach n (fun r => { r with designId := l.designId, encrypted := l.encrypted, loadedAt := s.tbase.tb, loads := r.loads + 1, regionalClocks := true }) s
  let t := if l.release then releaseReach n t else setGateSt (30 + n) .drained (modReach n (fun r => { r with st := .isolated }) t)
  endJob? l.job rcDone [] (reachEv n 1 0 [] t)

/-- A full image has passed: CFG_DONE, its reaches ACTIVE, the others EMPTY (R452 step 4). -/
def fullLoaded (l : Load) (s : State) : State :=
  let t := modFabric s (fun f => { f with cfgDone := true, cfgErr := false, shellId := l.shellId, initialRunning := false })
  let t := modBoot t (fun b =>
    { b with tbCfgDone := s.tbase.tb, fabImage := match l.boot with
        | some k => (match directory s with
            | some d => (leAt d 6 1 + k) % 2
            | none => b.fabImage)
        | none => b.fabImage })
  let t := forAll (List.range 16) (fun u n =>
    if l.written.contains n then releaseReach n (modReach n (fun r => { r with designId := l.designId, encrypted := l.encrypted }) u)
    else setGateSt (30 + n) .closed (modReach n (fun r => { r with st := .empty }) u)) t
  endJob? l.job rcDone [] (raiseEv 400 1 0 [] t)

/-- LOAD_DONE: the whole image has passed and every frame of the regions it covers is written (R448). -/
def loadDone (s : State) : State :=
  match s.fabric.load with
  | none => s
  | some l =>
    if l.started ∧ l.ended ∧ l.failed = none ∧ l.since + frameCycles * max (loadFrames l) l.frames ≤ s.time then
      let t := modFabric s (fun f => { f with load := none })
      nextReload (if l.full then fullLoaded l t else reachLoaded l t)
    else s

/-- LOAD_DONE. -/
def execLoadDone (s : State) : Host.Outcome State Fault Refusal := .next (whileClocked 83 s (loadDone s))

/-- A failed initial image: the other one follows, or CFG_ERR_N is asserted (R452, R453). -/
def initialFailed (k reason : Nat) (s : State) : State :=
  let t := modBoot s (fun b => { b with fabReasons := b.fabReasons ++ [reason] })
  if k = 0 then startInitial 1 (raiseEv 400 2 1 (leBytes 1 reason) t)
  else
    raiseEv 400 3 3 (leBytes 1 reason) (modFabric (modBoot t (fun b => { b with fabImage := 0xFF })) (fun f => { f with cfgErr := true, initialRunning := false }))

/-- ZERO_FILL_DONE: the zero writes after a failure end (R453, R458). -/
def zeroFillDone (s : State) : State :=
  match s.fabric.load with
  | none => s
  | some l =>
    match l.failed with
    | none => s
    | some (reason, a) =>
      if ¬ l.started ∨ s.time < l.since + frameCycles * loadFrames l then s
      else
        let t := modFabric (zeroTarget l s) (fun f => { f with load := none })
        match l.boot with
        | some k => initialFailed k reason t
        | none =>
          if l.full then nextReload (endJob? l.job rcFailedCheck (leBytes 1 reason) t)
          else
            let t := modReach l.target (fun r => { r with st := .invalid, reason := reason, failFrame := a }) t
            nextReload (endJob? l.job rcFailedCheck (leBytes 1 reason) (reachEv l.target 2 2 (leBytes 1 reason ++ leBytes 4 a) t))

/-- ZERO_FILL_DONE. -/
def execZeroFillDone (s : State) : Host.Outcome State Fault Refusal := .next (whileClocked 83 s (zeroFillDone s))

/-! ## REACH_LOAD (R454, R457) -/

/-- SOURCE and ADDR of a payload are in range. -/
def loadSourceOk (src a : Nat) : Bool :=
  if src = 0 then decide ((basinBase ≤ a ∧ a < basinBase + 0x4000000) ∨ (dramBase ≤ a ∧ a < dramEnd)) else src == 1 && decide (a < 2 ^ 32)

/-- REACH_LOAD of a full image. -/
def loadFull (v : Serving) (h : List Byte) (s : State) : Reply × State :=
  let l := withHeader { target := 31, full := true, source := pay v 0 1, addr := pay v 8 8 } h
  if s.fabric.cfgDone ∨ (l.encrypted ∧ s.crypto.zeroized) then (rc rcBadState, s)
  else if ¬ headerOk true h then (failedAt 0 9, s)
  else if leAt h 8 1 ≠ 0xFF then (failedAt 0 11, s)
  else if l.encrypted ∧ noCrypto s then (failedAt 0 6, s)
  else
    match wakeFor 83 s with
    | none => (rc rcBadState, s)
    | some t =>
      let (j, t) := startJob v 31 t
      (rc rcAccepted, beginLoad { l with job := some j } t)

/-- REACH_LOAD of one reach: an ACTIVE reach isolates first (Table 11.9). -/
def loadReach (v : Serving) (h : List Byte) (s : State) : Reply × State :=
  let n := v.target
  let f := pay v 1 1
  let l := withHeader { target := n, source := pay v 0 1, addr := pay v 8 8, release := bit f 0, force := bit f 1 } h
  let st := (reachOf s n).st
  if st = .loading ∨ st = .isolating ∨ (l.encrypted ∧ s.crypto.zeroized) then (rc rcBadState, s)
  else if ¬ headerOk false h then (failedAt 0 9, s)
  else if l.shellId ≠ s.fabric.shellId ∨ ¬ s.fabric.cfgDone then (failedAt 0 10, s)
  else if leAt h 8 1 ≠ n then (failedAt 0 11, s)
  else if l.encrypted ∧ noCrypto s then (failedAt 0 6, s)
  else
    match wakeFor (30 + n) s with
    | none => (rc rcBadState, s)
    | some t =>
      let (j, t) := startJob v n t
      let l := { l with job := some j }
      let t := modReach n (fun r => { r with recorded := some (l.source, l.addr), rstSince := none }) t
      if st = .active then (rc rcAccepted, isolateReach n .load l.force none (modFabric t (fun g => { g with load := some l })))
      else (rc rcAccepted, beginLoad l (senderResetChan (106 + n) t))

/-- REACH_LOAD. -/
def reachLoadBody (v : Serving) (s : State) : Reply × State :=
  let src := pay v 0 1
  let a := pay v 8 8
  if 3 < pay v 1 1 ∨ ¬ payZero v 2 8 ∨ ¬ loadSourceOk src a then (rc rcBadArg, s)
  else if s.fabric.load.isSome ∨ ¬ s.fabric.reloads.isEmpty ∨ initialBusy s ∨ (src = 1 ∧ flashHeld s) then (rc rcBusy, s)
  else if v.target < 16 ∧ ((reachOf s v.target).st = .loading ∨ (reachOf s v.target).st = .isolating) then (rc rcBadState, s)
  else
    match rawImage s src a 0 96 with
    | none => (failedRead, s)
    | some h => if v.target = 31 then loadFull v h s else loadReach v h s

/-- REACH_LOAD. -/
def reachLoad (s : State) : State := ferryServe 0x0600 16 (fun t => decide (t < 16) || t == 31) reachLoadBody s

/-- REACH_LOAD. -/
def execReachLoad (s : State) : Host.Outcome State Fault Refusal := .next (reachLoad s)

/-! ## REACH_ISOLATE, REACH_RELEASE (R460) -/

/-- TARGET names a reach. -/
def reachTarget (t : Nat) : Bool := decide (t < 16)

/-- REACH_ISOLATE. -/
def reachIsolateBody (v : Serving) (s : State) : Reply × State :=
  if 1 < pay v 0 1 then (rc rcBadArg, s)
  else if initialBusy s then (rc rcBusy, s)
  else if (reachOf s v.target).st ≠ .active then (rc rcBadState, s)
  else
    let (j, t) := startJob v v.target s
    (rc rcAccepted, isolateReach v.target .isolate (bit (pay v 0 1) 0) (some j) t)

/-- REACH_ISOLATE. -/
def reachIsolate (s : State) : State := ferryServe 0x0601 1 reachTarget reachIsolateBody s

/-- REACH_ISOLATE. -/
def execReachIsolate (s : State) : Host.Outcome State Fault Refusal := .next (reachIsolate s)

/-- REACH_RELEASE. -/
def reachReleaseBody (v : Serving) (s : State) : Reply × State :=
  if initialBusy s then (rc rcBusy, s)
  else if (reachOf s v.target).st ≠ .isolated then (rc rcBadState, s)
  else if (reachOf s v.target).rstSince.isSome then (rc rcBusy, s)
  else (rc rcDone, reachEv v.target 4 0 [] (releaseReach v.target s))

/-- REACH_RELEASE. -/
def reachRelease (s : State) : State := ferryServe 0x0602 0 reachTarget reachReleaseBody s

/-- REACH_RELEASE. -/
def execReachRelease (s : State) : Host.Outcome State Fault Refusal := .next (reachRelease s)

/-! ## HATCH_LOAD, SCRUB_SET, REACH_STATUS (R466 to R468, R471) -/

/-- The header of a hatch map portion is bad for a reach: offset of the failing field (Table 11.13). -/
def hatchBad (n : Nat) (design : Nat) (img : List Byte) : Option Nat :=
  if leAt img 0 4 ≠ 0x4A7C0011 then some 0
  else if leAt img 4 2 ≠ 1 then some 4
  else if leAt img 6 1 ≠ n then some 6
  else if leAt img 7 1 ≠ 0 then some 7
  else if leAt img 8 4 ≠ 294944 then some 8
  else if leAt img 0x18 8 ≠ 0 then some 0x18
  else if leAt img 0x0C 4 ≠ crc32 (img.drop 0x20) then some 0x0C
  else if leAt img 0x10 8 ≠ design then some 0x10
  else none

/-- HATCH_LOAD: the portion at an address is bound (R467). -/
def hatchBody (v : Serving) (s : State) : Reply × State :=
  let a := pay v 8 8
  let r := reachOf s v.target
  if ¬ payZero v 0 8 ∨ a % 64 ≠ 0 ∨ ¬ loadSourceOk 0 a ∨ ¬ loadSourceOk 0 (a + 294943) ∨ meetsSealed s a 294944 then (rc rcBadArg, s)
  else if initialBusy s then (rc rcBusy, s)
  else if ¬ (r.st = .isolating ∨ r.st = .isolated ∨ r.st = .active) then (rc rcBadState, s)
  else
    match hwRead s a 294944 with
    | none => (failedRead, s)
    | some img =>
      match hatchBad v.target r.designId img with
      | some o => (failedAt o 4, s)
      | none => (rc rcDone, modReach v.target (fun x => { x with hatch := some a }) s)

/-- HATCH_LOAD. -/
def hatchLoad (s : State) : State := ferryServe 0x0603 16 reachTarget hatchBody s

/-- HATCH_LOAD. -/
def execHatchLoad (s : State) : Host.Outcome State Fault Refusal := .next (hatchLoad s)

/-- SCRUB_SET: settings take effect at the next pass (R468). -/
def scrubSetBody (v : Serving) (s : State) : Reply × State :=
  let p := pay v 0 2
  if p < 10 ∨ 10000 < p ∨ 1 < pay v 2 1 ∨ ¬ payZero v 3 4 then (rc rcBadArg, s)
  else if initialBusy s then (rc rcBusy, s)
  else (rc rcDone, modFabric s (fun f => { f with scrub := { f.scrub with next := some { passMs := p, enable := bit (pay v 2 1) 0, policy := pay v 4 4 } } }))

/-- SCRUB_SET. -/
def scrubSet (s : State) : State := ferryServe 0x0604 8 noTarget scrubSetBody s

/-- SCRUB_SET. -/
def execScrubSet (s : State) : Host.Outcome State Fault Refusal := .next (scrubSet s)

/-- Code of a reach state (Table 11.8). -/
def reachCode (x : ReachState) : Nat :=
  match x with
  | .off => 0
  | .empty => 1
  | .loading => 2
  | .isolating => 3
  | .isolated => 4
  | .active => 5
  | .invalid => 6

/-- Policy of a reach in force (Table 11.15). -/
def policyOf (s : State) (n : Nat) : Nat := s.fabric.scrub.cfg.policy / 4 ^ n % 4

/-- The 48-byte result of REACH_STATUS (Table 11.16). -/
def reachResult (s : State) (n : Nat) : List Byte :=
  let r := reachOf s n
  let rec_ := r.recorded.getD (0, 0)
  leBytes 1 (reachCode r.st) ++ leBytes 1 (b2n r.hatch.isSome + 2 * b2n r.encrypted + 4 * rec_.1) ++ leBytes 1 r.reason ++ leBytes 1 (policyOf s n) ++
  leBytes 4 r.failFrame ++ leBytes 8 r.designId ++ leBytes 8 r.loadedAt ++ leBytes 4 r.benign ++ leBytes 4 r.critical ++ leBytes 4 r.uncorr ++ leBytes 4 r.loads ++
  leBytes 8 rec_.2

/-- REACH_STATUS: CLEAR zeroes the upset counts after they are copied (R471). -/
def reachStatusBody (v : Serving) (s : State) : Reply × State :=
  if 1 < pay v 0 1 then (rc rcBadArg, s)
  else
    ({ code := rcDone, result := reachResult s v.target },
      if pay v 0 1 = 1 then modReach v.target (fun r => { r with benign := 0, critical := 0, uncorr := 0 }) s else s)

/-- REACH_STATUS. -/
def reachStatus (s : State) : State := ferryServe 0x0605 1 reachTarget reachStatusBody s

/-- REACH_STATUS. -/
def execReachStatus (s : State) : Host.Outcome State Fault Refusal := .next (reachStatus s)

/-! ## Scrubbing (R463 to R470) -/

/-- A scrub pass reads the frames of a reach. -/
def scrubbed (s : State) (n : Nat) : Bool :=
  let st := (reachOf s n).st
  s.fabric.scrub.cfg.enable && (st == .isolating || st == .isolated || st == .active)

/-- SCRUB_PASS_START: PASS_MS has passed and the pass before has ended (R463). -/
def scrubPassStart (s : State) : State :=
  let b := s.fabric.scrub
  if ¬ b.reading ∧ b.started + b.cfg.passMs * msCycles ≤ s.time ∧ domOn s 83 ∧ ¬ clockStopped s 83 then
    modFabric s (fun f => { f with scrub := { f.scrub with cfg := b.next.getD b.cfg, next := none, started := s.time, reading := true, frame := 0, shellLeft := 120 } })
  else s

/-- SCRUB_PASS_START. -/
def execScrubPassStart (s : State) : Host.Outcome State Fault Refusal := .next (scrubPassStart s)

/-- The next reach frame of a pass from a place on: places are 14 112 times the reach plus the index. -/
def scrubPlace (s : State) (p fuel : Nat) : Option Nat :=
  match fuel with
  | 0 => none
  | f + 1 => if 16 * 14112 ≤ p then none else if scrubbed s (p / 14112) then some p else scrubPlace s ((p / 14112 + 1) * 14112) f

/-- A policy isolates a reach with FORCE; one that is no longer ACTIVE stays as it is. -/
def policyIsolate (n : Nat) (s : State) : State := if (reachOf s n).st = .active then isolateReach n .policy true none s else s

/-- A policy resets a reach: isolate, RST_N for 10 µs, release (Table 11.15); an ISOLATED reach stays isolated afterwards. -/
def policyReset (n : Nat) (s : State) : State :=
  match (reachOf s n).st with
  | .active => isolateReach n .reset true none s
  | .isolated => modReach n (fun r => { r with rstSince := some s.time, priorIsolated := true }) s
  | _ => s

/-- A policy reloads a reach in finding order, then restores its state. -/
def policyReload (n : Nat) (s : State) : State :=
  let t := modFabric s (fun f => { f with reloads := ladd f.reloads n })
  match (reachOf s n).st with
  | .active => isolateReach n .reload true none t
  | _ => nextReload (modReach n (fun r => { r with priorIsolated := true }) t)

/-- Apply the upset policy of a reach (Table 11.15, R468, R469). -/
def applyPolicy (n : Nat) (critical : Bool) (s : State) : State :=
  let r := reachOf s n
  if s.fabric.load.any (fun l => l.target == n && !l.policy) then s
  else
    match policyOf s n with
    | 0 => if critical then s else policyIsolate n s
    | 1 => if critical then policyReset n s else policyIsolate n s
    | 2 => policyIsolate n s
    | _ => if r.recorded.isSome then policyReload n s else if critical then policyReset n s else policyIsolate n s

/-- A critical word: counted, EV289, the policy (R465). -/
def criticalWord (n addr word cause : Nat) (s : State) : State :=
  applyPolicy n true (raiseEv (289 + 2 * n) cause (if cause = 3 then 1 else 2) (leBytes 4 addr ++ leBytes 1 word) (modReach n (fun r => { r with critical := min 4294967295 (r.critical + 1) }) s))

/-- A corrected word of a reach is judged: by its hatch bit, or as critical when no map is bound (R465). -/
def judgeWord (n addr word : Nat) (s : State) : State :=
  match (reachOf s n).hatch with
  | none => criticalWord n addr word 1 s
  | some a =>
    (presentReq 0x01 1 { op := .rd, addr := a + 32 + 16 * (addr % 2 ^ 19), len := 16 }
      (modFabric s (fun f => { f with scrub := { f.scrub with judging := some (n, addr, word) } }))).2

/-- A reach logic frame read back with its flipped bits (Table 11.12). -/
def readReachFrame (n addr : Nat) (flips : List Nat) (s : State) : State :=
  let all := (tget s.fabric.upsets [] addr ++ flips).eraseDups
  match all with
  | [] => s
  | [b] => judgeWord n addr (b / 32) (modFabric s (fun f => { f with upsets := tdel f.upsets addr }))
  | _ =>
    let t := modFabric s (fun f => { f with upsets := tset f.upsets addr all })
    let t := modReach n (fun r => { r with uncorr := min 4294967295 (r.uncorr + 1) }) t
    applyPolicy n false (raiseEv (289 + 2 * n) 2 2 (leBytes 4 addr) t)

/-- The last frame of a pass has been read: EV401 when the pass ends more than 10 % late (R463). -/
def passEnd (s : State) : State :=
  let b := s.fabric.scrub
  let t := modFabric s (fun f => { f with scrub := { f.scrub with reading := false } })
  if 10 * b.started + 11 * b.cfg.passMs * msCycles < 10 * s.time then raiseEv 401 1 1 [] t else t

/-- An engraved shell frame read back (Table 11.12). -/
def readShellFrame (flips : List Nat) (s : State) : State :=
  let b := s.fabric.scrub
  let t := if flips = [] then s else raiseEv 402 1 3 (leBytes 4 (31 * 2 ^ 19 + b.shellPos)) s
  let t := modFabric t (fun f => { f with scrub := { f.scrub with shellPos := (b.shellPos + 1) % 7680, shellLeft := b.shellLeft - 1 } })
  if b.shellLeft ≤ 1 then passEnd t else t

/-- FRAME_READBACK: the next frame of the pass, with the bits found flipped; loads have the configuration memory port first (R463, R464, Table 14.15). -/
def frameReadback (flips : List Nat) (s : State) : State :=
  let b := s.fabric.scrub
  if b.reading ∧ b.judging = none ∧ ¬ s.fabric.load.any (fun l => l.started) then
    match scrubPlace s b.frame 17 with
    | some p =>
      readReachFrame (p / 14112) (p / 14112 * 2 ^ 19 + p % 14112) (flips.filter (fun x => decide (x < 4096)))
        (modFabric s (fun f => { f with scrub := { f.scrub with frame := p + 1 } }))
    | none => readShellFrame flips (modFabric s (fun f => { f with scrub := { f.scrub with frame := 16 * 14112 } }))
  else s

/-- FRAME_READBACK. -/
def execFrameReadback (flips : List Nat) (s : State) : Host.Outcome State Fault Refusal := .next (whileClocked 83 s (frameReadback flips s))

/-- HATCH_READ_RESULT: the hatch entry has come; the word is benign or critical (R465). -/
def hatchReadResult (s : State) : State :=
  match s.fabric.scrub.judging, s.braid.completions.find? (fun c => c.ep == 0x01 && c.agent == 1 && hasCome s c) with
  | some (n, addr, w), some c =>
    let t := modBraid s (fun b => { b with completions := b.completions.filter (fun x => x.gid != c.gid) })
    let t := modFabric t (fun f => { f with scrub := { f.scrub with judging := none } })
    if c.status ≠ .ok then criticalWord n addr w 3 t
    else if bit (leAt c.data (w / 8) 1) (w % 8) then criticalWord n addr w 1 t
    else modReach n (fun r => { r with benign := min 4294967295 (r.benign + 1) }) t
  | _, _ => s

/-- HATCH_READ_RESULT. -/
def execHatchReadResult (s : State) : Host.Outcome State Fault Refusal := .next (whileClocked 83 s (hatchReadResult s))

/-- POLICY_RESET_END: the 10 µs of RST_N end; the reach is released (R461, R468). -/
def policyResetEnd (n : Nat) (s : State) : State :=
  match (reachOf s n).rstSince with
  | none => s
  | some t0 =>
    if t0 + 10 * usCycles ≤ s.time ∧ (reachOf s n).st = .isolated then
      let keep := (reachOf s n).priorIsolated
      let t := modReach n (fun r => { r with rstSince := none, priorIsolated := false }) s
      reachEv n 5 1 [] (if keep then t else releaseReach n t)
    else s

/-- POLICY_RESET_END. -/
def execPolicyResetEnd (n : Nat) (s : State) : Host.Outcome State Fault Refusal := .next (policyResetEnd n s)

/-- TMR_VOTE: the voter corrects a disagreement: EV403 at most once per 1 ms with the count (R470). -/
def tmrVote (s : State) : State := raiseLimited 40300 msCycles 403 1 0 [] s

/-- TMR_VOTE. -/
def execTmrVote (s : State) : Host.Outcome State Fault Refusal := .next (tmrVote s)

end Sys2Proof.Machine
end

