-- ==== Sys2Proof/Machine/RouteOps.lean ====
section
/-! DEFINITION. Checks of route strings and calendars, and west-first tables that avoid a router or a port (R86, R89, R92 to R94, R130, R147, R630). -/

namespace Sys2Proof.Machine
open Sys2Proof

/-! ## Strings (R89, Table 3.9) -/

/-- The direction codes at the front of a string. -/
def dirsOf (codes : List Nat) : List Nat := codes.takeWhile (fun c => decide (1 ≤ c ∧ c ≤ 4))

/-- First position at which a string departs from the form of R89; none for a well-formed one. -/
def formFault (codes : List Nat) : Option Nat :=
  let d := (dirsOf codes).length
  if 16 ≤ d then some 15
  else if codes.getD d 0 = 0 then some d
  else ((List.range 16).find? (fun i => decide (d < i) && codes.getD i 0 != 0))

/-- The router reached before each code up to the local one, with the code. -/
def routeWalk (r : Nat) (codes : List Nat) : List (Nat × Nat) := walkRoute r codes

/-- A port that the router lacks or has disabled; a port toward a router whose gate is CLOSED counts as disabled (R92, R127). -/
def portAbsent (s : State) (r out : Nat) : Bool :=
  !(hasPort r out) || (routerOf s r).disabled.contains out ||
  (decide (out < 5) && ((gateOf s (0x100 + neighbour r out)).st == .closed || (gateOf s (braidDomain (colOf (neighbour r out)))).st == .closed))

/-- First position whose code names an absent port. -/
def noPortAt (s : State) (r : Nat) (codes : List Nat) : Option Nat :=
  (routeWalk r codes).findIdx? (fun p => portAbsent s p.1 p.2)

/-- The local code of a string does not lead to an endpoint: its position. -/
def wrongEndAt (r dst : Nat) (codes : List Nat) : Option Nat :=
  let w := routeWalk r codes
  match w.getLast? with
  | some (x, o) => if epRouter dst = x ∧ epPort dst = o then none else some (w.length - 1)
  | none => some 0

/-- First position from `i` on whose code stands in a relation to the one before it. -/
def pairAt (bad : Nat → Nat → Bool) (i : Nat) (codes : List Nat) : Option Nat :=
  match codes with
  | a :: b :: r => if bad a b then some (i + 1) else pairAt bad (i + 1) (b :: r)
  | _ => none

/-- A direction code opposite to the one before it. -/
def reversalAt (codes : List Nat) : Option Nat := pairAt (fun a b => b == opposite a) 0 (dirsOf codes)

/-- A W code after an N, E or S code. -/
def turnAt (codes : List Nat) : Option Nat := pairAt (fun a b => b == 4 && a != 4) 0 (dirsOf codes)

/-- Position at which a string fails reason 2, 3, 4, 5 or 6 of Table 3.9, from the NI at router `r` to an endpoint. -/
def stringFault (s : State) (r dst reason : Nat) (codes : List Nat) : Option Nat :=
  match reason with
  | 2 => formFault codes
  | 3 => noPortAt s r codes
  | 4 => wrongEndAt r dst codes
  | 5 => reversalAt codes
  | 6 => turnAt codes
  | _ => none

/-- A string passes checks 2 to 6. -/
def stringOk (s : State) (r dst : Nat) (codes : List Nat) : Bool :=
  [2, 3, 4, 5, 6].all (fun k => (stringFault s r dst k codes).isNone)

/-! ## Table images (R90, R92, R93) -/

/-- Position at which an entry of an NI's image fails a reason; none when it passes or has VALID = 0. -/
def entryFault (s : State) (ni reason : Nat) (dst v : Nat) : Option Nat :=
  if ¬ bit v 63 then none
  else if reason = 8 then (if bits v 62 48 = 0 then none else some 0)
  else if reason = 1 then (if epListed dst ∧ dst ≠ ni then none else some 0)
  else stringFault s (epRouter ni) dst reason (unpackRoute (v % 2 ^ 48))

/-- Entries of a table image. -/
def imageEntries (img : List Byte) : List (Nat × Nat) := (List.range 256).map (fun i => (i, leAt img (8 * i) 8))

/-- First failing entry of a reason: index and position. -/
def firstEntry (s : State) (ni reason : Nat) (es : List (Nat × Nat)) : Option (Nat × Nat) :=
  es.findSome? (fun e => (entryFault s ni reason e.1 e.2).map (fun p => (e.1, p)))

/-- The failure R630 reports: reason, index, position. -/
def tableFault (s : State) (ni : Nat) (es : List (Nat × Nat)) : Option (Nat × Nat × Nat) :=
  [8, 1, 2, 3, 4, 5, 6].findSome? (fun k => (firstEntry s ni k es).map (fun x => (k, x)))

/-! ## Tables that avoid a router or a port (Table 3.13 step 1) -/

/-- What is avoided: a router, or a port of it when the number is not 0. A port is avoided in both directions. -/
def avoided (r port : Nat) (x out : Nat) : Bool :=
  if port = 0 then x == r || (decide (out < 5) && neighbour x out == r)
  else (x == r && out == port) || (decide (port < 5) && x == neighbour r port && out == opposite port)

/-- An output that a new string may take. -/
def mayUse (s : State) (r port : Nat) (x out : Nat) : Bool := !(portAbsent s x out) && !(avoided r port x out)

/-- Every step of a list of codes may be taken from a router. -/
def runOk (ok : Nat → Nat → Bool) (x : Nat) (codes : List Nat) : Bool := (walkRoute x codes).all (fun p => ok p.1 p.2)

/-- Codes from one row to another. -/
def vertRun (a b : Nat) : List Nat := List.replicate (a - b) 1 ++ List.replicate (b - a) 3

/-- The shorter of two strings. -/
def shorter (a b : Option (List Nat)) : Option (List Nat) :=
  match a, b with
  | some x, some y => if y.length < x.length then some y else some x
  | some x, none => some x
  | none, y => y

/-- From a row of column `x`: a vertical run, then E into the next column, where `next` holds the best string of each row. -/
def eastFrom (ok : Nat → Nat → Bool) (next : List (Option (List Nat))) (x y : Nat) (turned : Bool) : Option (List Nat) :=
  (List.range 8).foldl (fun b z =>
    if (turned ∧ z = y) ∨ ¬ runOk ok (8 * x + y) (vertRun y z ++ [2]) then b
    else shorter b ((next.getD z none).map (fun l => vertRun y z ++ [2] ++ l))) none

/-- Shortest string of N, S and E codes to a router from each row of the column `n` west of it. -/
def eastTable (ok : Nat → Nat → Bool) (xd yd n : Nat) : List (Option (List Nat)) :=
  match n with
  | 0 => (List.range 8).map (fun y => if runOk ok (8 * xd + y) (vertRun y yd) then some (vertRun y yd) else none)
  | m + 1 => (List.range 8).map (fun y => eastFrom ok (eastTable ok xd yd m) (xd - (m + 1)) y false)

/-- Shortest directions from router `a` to router `b` that turn west first and never reverse, over outputs that may be used. -/
def westFirst (ok : Nat → Nat → Bool) (a b : Nat) : Option (List Nat) :=
  let x := colOf a
  let y := rowOf a
  (List.range (x + 1)).foldl (fun best k =>
    let w := List.replicate k 4
    let c := x - k
    if colOf b < c ∨ ¬ runOk ok a w then best
    else
      let rest := if c = colOf b then (eastTable ok c (rowOf b) 0).getD y none else eastFrom ok (eastTable ok (colOf b) (rowOf b) (colOf b - c - 1)) c y (decide (0 < k))
      shorter best (rest.map (fun l => w ++ l))) none

/-- A new string from an NI to an endpoint, if one exists within 16 codes. -/
def newRoute (s : State) (r port ni dst : Nat) : Option Nat :=
  let ok := mayUse s r port
  if (port = 0 ∧ (epRouter ni = r ∨ epRouter dst = r)) ∨ ¬ ok (epRouter dst) (epPort dst) then none
  else
    match westFirst ok (epRouter ni) (epRouter dst) with
    | some l => if l.length ≤ 15 then some (packRoute (l ++ [epPort dst])) else none
    | none => none

/-- An entry in force already avoids it. -/
def keepsEntry (s : State) (r port ni dst : Nat) (v : Nat) : Bool :=
  stringOk s (epRouter ni) dst (unpackRoute (v % 2 ^ 48)) && runOk (mayUse s r port) (epRouter ni) (unpackRoute (v % 2 ^ 48)) &&
  !(port == 0 && (epRouter ni == r || epRouter dst == r))

/-- Every listed endpoint. -/
def allEps : List Nat := (List.range 0x70).filter epListed

/-- A new entry: the one in force where it avoids the place, else a computed one, else VALID = 0. -/
def avoidEntry (s : State) (r port ni dst : Nat) : Nat :=
  let v := routeEntry s ni dst
  if ¬ bit v 63 then 0
  else if keepsEntry s r port ni dst v then v
  else match newRoute s r port ni dst with
    | some x => 2 ^ 63 + x
    | none => 0

/-- The table of an NI that avoids a place: entries that differ from the default ones. -/
def avoidTable (s : State) (r port ni : Nat) : Tbl Nat :=
  (allEps.map (fun d => (d, avoidEntry s r port ni d))).filter (fun e => e.2 != defaultEntry ni e.1)

/-- Pairs that step 1 of Table 3.13 marks VALID = 0. -/
def lostPairs (s : State) (r port : Nat) : Nat :=
  (allEps.map (fun n => (allEps.filter (fun d => d != n && (newRoute s r port n d).isNone)).length)).foldl (· + ·) 0

/-! ## Calendar images (R146, R147) -/

/-- Bytes of a record with a number of slots. -/
def recordBytes (n : Nat) : Nat := (16 + 2 * n + 7) / 8 * 8

/-- Offsets of `n` records from an offset on, and where they end. -/
def recordOffsets (img : List Byte) (o n : Nat) : List Nat × Nat :=
  match n with
  | 0 => ([], o)
  | n + 1 =>
    let r := recordOffsets img (o + recordBytes (leAt img (o + 10) 2)) n
    (o :: r.1, r.2)

/-- The flow a record describes. -/
def flowOf (img : List Byte) (o : Nat) : Flow :=
  { flow := leAt img o 2, src := leAt img (o + 2) 1, dst := leAt img (o + 3) 1, route := leAt img (o + 4) 6, slots := (List.range (leAt img (o + 10) 2)).map (fun i => leAt img (o + 16 + 2 * i) 2) }

/-- Numbers in strictly ascending order. -/
def ascending (l : List Nat) : Bool :=
  match l with
  | a :: b :: r => decide (a < b) && ascending (b :: r)
  | _ => true

/-- A record is of the form of Table 4.3. -/
def recordOk (img : List Byte) (o : Nat) : Bool :=
  let f := flowOf img o
  let n := f.slots.length
  decide (1 ≤ f.flow ∧ f.flow ≤ 4095 ∧ 1 ≤ n ∧ n ≤ 682 ∧ leAt img (o + 12) 4 = 0) && ascending f.slots && f.slots.all (fun k => decide (k < 1024)) &&
  ((img.drop (o + 16 + 2 * n)).take (recordBytes n - 16 - 2 * n)).all (fun b => b == 0)

/-- Offset of a bad field of the calendar header, of an image read whole (Table 4.2). -/
def calHeaderFault (img : List Byte) : Option Nat :=
  if leAt img 0 4 ≠ 0x5C1D0004 then some 0
  else if leAt img 4 2 ≠ 1 then some 4
  else if 4095 < leAt img 6 2 then some 6
  else if (recordOffsets img 32 (leAt img 6 2)).2 ≠ leAt img 8 4 then some 8
  else if leAt img 12 4 ≠ crc32 (img.drop 16) then some 12
  else if (List.range 16).any (fun i => leAt img (16 + i) 1 != 0) then some 16
  else none

/-- First code that brings a flit no step closer to a router: its position (R94). -/
def minimalAt (r dst : Nat) (i : Nat) (codes : List Nat) : Option Nat :=
  match codes with
  | [] => none
  | c :: l =>
    let near := match c with
      | 1 => decide (rowOf dst < rowOf r)
      | 2 => decide (colOf r < colOf dst)
      | 3 => decide (rowOf r < rowOf dst)
      | _ => decide (colOf dst < colOf r)
    if near then minimalAt (neighbour r c) dst (i + 1) l else some i

/-- Reason and position at which a flow's route fails order 3 of Table 4.4. -/
def flowRouteFault (s : State) (f : Flow) : Option (Nat × Nat) :=
  if ¬ epListed f.src ∨ ¬ epListed f.dst ∨ f.src = f.dst then some (1, 0)
  else [2, 3, 4, 5].findSome? (fun k => (stringFault s (epRouter f.src) f.dst k (unpackRoute f.route)).map (fun p => (k, p)))

/-- The first of a list that completes a failure with those before it. -/
def firstWith {α β : Type} (p : List α → α → Option β) (done l : List α) : Option β :=
  match l with
  | [] => none
  | x :: r => match p done x with
    | some y => some y
    | none => firstWith p (done ++ [x]) r

/-- A slot that a flow's source NI gives to a flow before it. -/
def niCollision (done : List Flow) (f : Flow) : Option Nat :=
  f.slots.find? (fun k => done.any (fun g => g.src == f.src && g.slots.contains k))

/-- An output slot that a flow shares with one before it: lowest router, output, slot. -/
def outCollision (done : List Flow) (f : Flow) : Option (Nat × Nat × Nat) :=
  let taken := done.flatMap flowEntries
  ((flowEntries f).filter (fun e => taken.any (fun t => t.1 == e.1 && t.2.1 == e.2.1 && t.2.2.1 == e.2.2.1))).foldl (fun b e =>
    match b with
    | some (r, o, k) => if (e.1 * 8 + e.2.1) * 1024 + e.2.2.1 < (r * 8 + o) * 1024 + k then some (e.1, e.2.1, e.2.2.1) else b
    | none => some (e.1, e.2.1, e.2.2.1)) none

/-- Length of the credit window of an output (R86). -/
def creditWindow (r out : Nat) : Nat := if crossing r out then 14 else 6

/-- A slot of an output lies in a window, cyclic over the period, that holds more than 4 reserved slots. -/
def inBadWindow (w : Nat) (slots : List Nat) (k : Nat) : Bool :=
  (List.range w).any (fun i => decide (4 < (slots.filter (fun t => decide ((t + 1024 - (k + 1024 - i) % 1024) % 1024 < w))).length))

/-- The output that breaks R86 with a flow: lowest router, lowest output, lowest slot of the flow in an offending window. -/
def creditFault (done : List Flow) (f : Flow) : Option (Nat × Nat × Nat) :=
  let mine := flowEntries f
  let all := (done ++ [f]).flatMap flowEntries
  (List.range 64).findSome? (fun r => (List.range 8).findSome? (fun o =>
    let here := (all.filter (fun e => e.1 == r && e.2.1 == o)).map (fun e => e.2.2.1)
    let ours := (mine.filter (fun e => e.1 == r && e.2.1 == o)).map (fun e => e.2.2.1)
    ((List.range 1024).find? (fun k => ours.contains k && inBadWindow (creditWindow r o) here k)).map (fun k => (r, o, k))))

/-- The first router of a flow's route under maintenance or behind a gate that is not OPEN, with the output taken. -/
def maintFault (s : State) (f : Flow) : Option (Nat × Nat) :=
  (routeWalk (epRouter f.src) (unpackRoute f.route)).find? (fun p =>
    s.braid.maint.any (fun m => m.router == p.1) || (gateOf s (0x100 + p.1)).st != .opened || (gateOf s (braidDomain (colOf p.1))).st != .opened)

/-- Place of the code at a position of a flow's route. -/
def placeAt (f : Flow) (p : Nat) : Nat × Nat := ((routeWalk (epRouter f.src) (unpackRoute f.route))[p]?).getD (0xFF, 0)

/-- The reply to a calendar that fails a check of Table 4.4, in the order of R630. -/
def calendarFault (s : State) (img : List Byte) : Option Reply :=
  match calHeaderFault img with
  | some o => some (failedAt o 8)
  | none =>
    let os := (recordOffsets img 32 (leAt img 6 2)).1
    let fs := os.map (fun o => (o, flowOf img o))
    let at_ := fun (l : List (Nat × Flow)) => l.map (fun x => x.2)
    match os.find? (fun o => !(recordOk img o)) with
    | some o => some (failedAt o 8)
    | none =>
      (firstWith (fun done (x : Nat × Flow) => if (at_ done).any (fun g => g.flow == x.2.flow) then some (failedAt x.1 9) else none) [] fs).orElse (fun _ =>
      (fs.findSome? (fun x => (flowRouteFault s x.2).map (fun (k, p) =>
        let q := placeAt x.2 p
        if k ≤ 2 then failedCheck x.1 k p 0xFF 0 0xFFFF else failedCheck x.1 k p q.1 q.2 0xFFFF))).orElse (fun _ =>
      (fs.findSome? (fun x => (minimalAt (epRouter x.2.src) (epRouter x.2.dst) 0 (dirsOf (unpackRoute x.2.route))).map (fun p =>
        let q := placeAt x.2 p
        failedCheck x.1 7 p q.1 q.2 0xFFFF))).orElse (fun _ =>
      (firstWith (fun done (x : Nat × Flow) => if 64 ≤ ((at_ done).filter (fun g => g.src == x.2.src)).length then some (failedAt x.1 10) else none) [] fs).orElse (fun _ =>
      (firstWith (fun done (x : Nat × Flow) =>
        ((niCollision (at_ done) x.2).map (fun k => failedCheck x.1 11 0 0xFF 0 k)).orElse (fun _ =>
          (outCollision (at_ done) x.2).map (fun (r, o, k) => failedCheck x.1 11 0 r o k))) [] fs).orElse (fun _ =>
      (firstWith (fun done (x : Nat × Flow) => (creditFault (at_ done) x.2).map (fun (r, o, k) => failedCheck x.1 12 0 r o k)) [] fs).orElse (fun _ =>
      fs.findSome? (fun x => (maintFault s x.2).map (fun (r, _) => failedCheck x.1 13 0 r 0 0xFFFF))))))))

end Sys2Proof.Machine
end

