-- ==== Sys2Proof/Machine/Weir.lean ====
section
/-! DEFINITION. Route tables, calendars, weir gates and router maintenance: their commands and the steps that follow (sections 3.6, 3.11, 3.12, 4.4, R588 to R591). -/

namespace Sys2Proof.Machine
open Sys2Proof

/-! ## TRIM's part of a gate (R500) -/

/-- TRIM has ended when no masked domain that is on is still draining: EV445. -/
def trimCheck (s : State) : State :=
  match s.power.trimJob with
  | none => s
  | some j =>
    if s.power.trimMask.any (fun d => domOn s d && (gateOf s d).st != .opened) then s
    else endJob j (if s.power.trimFailed then rcTimeout else rcDone) [] (modPower s (fun p => { p with trimJob := none, trimFailed := false }))

/-- A masked domain has drained: it is switched off. -/
def trimDrained (g : Nat) (s : State) : State :=
  if s.power.trimJob.isSome ∧ s.power.trimMask.contains g ∧ domOn s g then trimCheck (domainOff g (closeGate g s)) else s

/-- A masked domain failed to drain: EV433, its gate is reopened, the others stay off. -/
def trimFailed (g : Nat) (s : State) : State :=
  if s.power.trimJob.isSome ∧ s.power.trimMask.contains g then
    trimCheck (openGate g (modPower (raiseEv 433 1 1 (leBytes 1 g) s) (fun p => { p with trimFailed := true })))
  else s

/-! ## Gates that drain (R123 to R126) -/

/-- What follows when a gate has drained: buffered writes are performed (R353, R372), an isolation goes on, TRIM switches off. -/
def drainedHooks (g : Nat) (s : State) : State :=
  if 30 ≤ g ∧ g < 46 then reachDrained (g - 30) s
  else if 46 ≤ g ∧ g < 62 then trimDrained g (drainWrites (g - 46) s)
  else if 78 ≤ g ∧ g < 82 then trimDrained g (flushGroup (2 * (g - 78) + 1) (flushGroup (2 * (g - 78)) s))
  else trimDrained g s

/-- FENCING to DRAINED: EV445 with DONE when the fence has not been reported (Table 3.12). -/
def drainGate (g : Nat) (s : State) : State :=
  let x := gateOf s g
  drainedHooks g (endJob? x.job rcDone [] (setGate g { x with st := .drained, job := none } s))

/-- GATE_DRAINED. -/
def gateDrained (g : Nat) (s : State) : State :=
  if isGate g && (gateOf s g).st == .fencing && gateIdle s g then drainGate g s else s

/-- GATE_DRAINED. -/
def execGateDrained (g : Nat) (s : State) : Host.Outcome State Fault Refusal := .next (gateDrained g s)

/-- NIs whose tables a maintenance sequence swaps: their shadow tables become `f ni`, and a commit of all of them starts (R96). -/
def commitTables (f : Nat → Tbl Nat) (s : State) : State :=
  modBraid (forAll allEps (fun t n => modNi n (fun x => { x with shadow := f n, shadowOk := true, swapPending := true }) t) s)
    (fun b => { b with commitJob := some allEps })

/-- Change the maintenance in progress. -/
def setMaint (m : Option Maint) (s : State) : State := modBraid s (fun b => { b with maint := m })

/-- Step 3 of Table 3.13 fails: EV445 with TIMEOUT, the previous tables are committed back, the gate is opened. -/
def maintTimeout (g : Nat) (s : State) : State :=
  match s.braid.maint with
  | some m =>
    if g = 0x100 + m.router ∧ m.step = 3 then
      openGate g (endJob m.job rcTimeout [] (setMaint (some { m with step := 7 }) (commitTables (fun n => tget m.saved [] n) s)))
    else s
  | none => s

/-- DRAIN_MAX passes without FORCE: the fence is reported as timed out, and the gate still drains (Table 3.12). -/
def drainTimeout (g : Nat) (s : State) : State :=
  let x := gateOf s g
  let t := endJob? x.job rcTimeout [] (setGate g { x with timedOut := true, job := none } s)
  if 30 ≤ g ∧ g < 46 then reachTimeout (g - 30) t else maintTimeout g (trimFailed g t)

/-- DRAIN_MAX_EXPIRY (R125, R126). -/
def drainMaxExpiry (g : Nat) (s : State) : State :=
  let x := gateOf s g
  if isGate g && x.st == .fencing && !x.timedOut && decide (x.since + x.limit ≤ s.time) then
    (if x.force then drainGate g (forcedDrain g (setGate g { x with timedOut := true } s)) else drainTimeout g s)
  else s

/-- DRAIN_MAX_EXPIRY. -/
def execDrainMaxExpiry (g : Nat) (s : State) : Host.Outcome State Fault Refusal := .next (drainMaxExpiry g s)

/-! ## WEIR_FENCE, WEIR_OPEN (R119, R124, R153, R589) -/

/-- Gates that cannot be fenced (R119). -/
def fenceDenied (g : Nat) : Bool := [1, 2, 4, 0x101, 0x120, 0x121, 0x123, 0x124].contains g

/-- A reach's gate (R589). -/
def reachGate (g : Nat) : Bool := decide (30 ≤ g ∧ g < 46)

/-- The committed calendar has a flow through a router that a gate is the gate of (R153). -/
def calendarGate (s : State) (g : Nat) : Bool := (gateRouters g).any (fun r => calUses s.sluice.committed r)

/-- A job of TRIM or of router maintenance is at work on a gate (R574). -/
def gateHeld (s : State) (g : Nat) : Bool :=
  (s.power.trimJob.isSome && s.power.trimMask.contains g) || s.braid.maint.any (fun m => 0x100 + m.router == g && m.step != 7)

/-- WEIR_FENCE. -/
def weirFenceBody (v : Serving) (s : State) : Reply × State :=
  let g := v.target
  if 1 < pay v 0 1 then (rc rcBadArg, s)
  else if fenceDenied g then (rc rcDenied, s)
  else if reachGate g ∨ calendarGate s g then (rc rcBadState, s)
  else
    match (gateOf s g).st with
    | .opened =>
      let (j, t) := startJob v g s
      (rc rcAccepted, fenceGate g (bit (pay v 0 1) 0) (some j) t)
    | .fencing => (rc rcBusy, s)
    | .drained => (rc rcDone, s)
    | .closed => (rc rcDone, s)

/-- WEIR_FENCE. -/
def weirFence (s : State) : State := ferryServe 0x0304 1 isGate weirFenceBody s

/-- WEIR_FENCE. -/
def execWeirFence (s : State) : Host.Outcome State Fault Refusal := .next (weirFence s)

/-- The target of a CLOSED gate is powered and ready: a trained channel, memories past INIT, a router out of maintenance. -/
def gateReady (s : State) (g : Nat) : Bool :=
  if g < 0x100 then domainReady s g && (!(decide (46 ≤ g ∧ g < 62)) || (dchOf s (g - 46)).trained)
  else domOn s (braidDomain (colOf (g - 0x100))) && !(s.braid.maint.any (fun m => 0x100 + m.router == g))

/-- WEIR_OPEN. -/
def weirOpenBody (v : Serving) (s : State) : Reply × State :=
  let g := v.target
  if reachGate g then (rc rcBadState, s)
  else
    match (gateOf s g).st with
    | .opened => (rc rcDone, s)
    | .closed => if gateReady s g then (rc rcDone, openGate g s) else (rc rcBadState, s)
    | _ => if gateHeld s g then (rc rcBusy, s) else (rc rcDone, openGate g s)

/-- WEIR_OPEN. -/
def weirOpen (s : State) : State := ferryServe 0x0305 0 isGate weirOpenBody s

/-- WEIR_OPEN. -/
def execWeirOpen (s : State) : Host.Outcome State Fault Refusal := .next (weirOpen s)

/-! ## ROUTE_LOAD, ROUTE_COMMIT (R92 to R100, R588) -/

/-- TARGET names an NI. -/
def niTarget (t : Nat) : Bool := epListed t

/-- A commit that includes an NI is in progress (R100). -/
def committing (s : State) (n : Nat) : Bool := (s.braid.commitJob.getD []).contains n

/-- ROUTE_LOAD: the image is checked whole and becomes the shadow table; entries with VALID = 0 are stored as 0. -/
def routeLoadBody (v : Serving) (s : State) : Reply × State :=
  let n := v.target
  if ¬ payZero v 0 8 then (rc rcBadArg, s)
  else if committing s n then (rc rcBusy, s)
  else
    match hwRead s (pay v 8 8) 2048 with
    | none => (failedRead, s)
    | some img =>
      let es := imageEntries img
      match tableFault s n es with
      | some (k, i, p) =>
        let q := ((routeWalk (epRouter n) (unpackRoute (leAt img (8 * i) 6)))[p]?).getD (0xFF, 0)
        (if 3 ≤ k ∧ k ≤ 6 then failedCheck i k p q.1 q.2 0xFFFF else failedCheck i k p 0xFF 0 0xFFFF, s)
      | none =>
        (rc rcDone, modNi n (fun x =>
          { x with shadow := (es.map (fun e => (e.1, if bit e.2 63 then e.2 else 0))).filter (fun e => e.2 != defaultEntry n e.1), shadowOk := true }) s)

/-- ROUTE_LOAD. -/
def routeLoad (s : State) : State := ferryServe 0x0300 16 niTarget routeLoadBody s

/-- ROUTE_LOAD. -/
def execRouteLoad (s : State) : Host.Outcome State Fault Refusal := .next (routeLoad s)

/-- The NI set of ROUTE_COMMIT. -/
def niSet (v : Serving) : List Nat := maskList 128 (pay v 8 16)

/-- ROUTE_COMMIT: phase 1 confirms every shadow table, phase 2 has every NI swap (R96); the command ends when all have. -/
def routeCommitBody (v : Serving) (s : State) : Reply × State :=
  let l := niSet v
  if ¬ payZero v 0 8 ∨ l.isEmpty ∨ ¬ l.all epListed then (rc rcBadArg, s)
  else if s.braid.commitJob.isSome then (rc rcBusy, s)
  else if ¬ l.all (fun n => (niOf s n).shadowOk) then (rc rcBadState, s)
  else
    let t := forAll l (fun u n => mirrorItem (.routes n (niOf u n).shadow) u) s
    (rc rcDone, swapsDone (waitFor 1 (modBraid (forAll l (fun u n => modNi n (fun x => { x with swapPending := true }) u) t) (fun b => { b with commitJob := some l }))))

/-- ROUTE_COMMIT. -/
def routeCommit (s : State) : State := ferryServe 0x0301 24 noTarget routeCommitBody s

/-- ROUTE_COMMIT. -/
def execRouteCommit (s : State) : Host.Outcome State Fault Refusal := .next (routeCommit s)

/-! ## SLUICE_LOAD, SLUICE_COMMIT (R146 to R152) -/

/-- Most bytes of a calendar image: 4095 records of 682 slots. -/
def calendarMost : Nat := 32 + 4095 * 1384

/-- SLUICE_LOAD. -/
def sluiceLoadBody (v : Serving) (s : State) : Reply × State :=
  let a := pay v 8 8
  if ¬ payZero v 0 8 then (rc rcBadArg, s)
  else if s.sluice.commitB.isSome then (rc rcBusy, s)
  else
    match hwRead s a 32 with
    | none => (failedRead, s)
    | some h =>
      if leAt h 0 4 ≠ 0x5C1D0004 then (failedAt 0 8, s)
      else if leAt h 4 2 ≠ 1 then (failedAt 4 8, s)
      else if leAt h 8 4 < 32 ∨ calendarMost < leAt h 8 4 then (failedAt 8 8, s)
      else
        match hwRead s a (leAt h 8 4) with
        | none => (failedRead, s)
        | some img =>
          match calendarFault s img with
          | some r => (r, s)
          | none =>
            (rc rcDone, modSluice s (fun y => { y with shadow := (recordOffsets img 32 (leAt img 6 2)).1.map (flowOf img), shadowOk := true, shadowImg := img }))

/-- SLUICE_LOAD. -/
def sluiceLoad (s : State) : State := ferryServe 0x0302 16 noTarget sluiceLoadBody s

/-- SLUICE_LOAD. -/
def execSluiceLoad (s : State) : Host.Outcome State Fault Refusal := .next (sluiceLoad s)

/-- First period boundary at least 12 800 Braid cycles after a cycle of BRAID_NOW (Table 4.5). -/
def boundaryAfter (now : Nat) : Nat := (now + 12800 + 1023) / 1024 * 1024

/-- Start the commit sequence of Table 4.5: routers on a new flow are woken and held awake. -/
def startCommit (kind : CommitKind) (new : List Flow) (now : Nat) (s : State) : State :=
  let t := modSluice s (fun y => { y with commitB := some (boundaryAfter now), commitKind := kind })
  modBraid t (fun b => { b with routers := b.routers.map (fun p => if calUses new p.1 && p.2.asleep && p.2.wakingSince.isNone then (p.1, { p.2 with wakingSince := some s.time, ctr := tinc p.2.ctr 1 }) else p) })

/-- SLUICE_COMMIT. -/
def sluiceCommitBody (v : Serving) (s : State) : Reply × State :=
  if s.sluice.commitB.isSome then (rc rcBusy, s)
  else if ¬ s.sluice.shadowOk then (rc rcBadState, s)
  else (rc rcDone, waitFor 1 (mirrorItem (.calendar s.sluice.shadowImg) (startCommit .command s.sluice.shadow (v.takenAt - s.braid.epoch) s)))

/-- SLUICE_COMMIT. -/
def sluiceCommit (s : State) : State := ferryServe 0x0303 0 noTarget sluiceCommitBody s

/-- SLUICE_COMMIT. -/
def execSluiceCommit (s : State) : Host.Outcome State Fault Refusal := .next (sluiceCommit s)

/-! ## ROUTER_MAINT (R129, R130, R590) -/

/-- TARGET names a router gate. -/
def routerTarget (t : Nat) : Bool := decide (0x100 ≤ t ∧ t < 0x140)

/-- ACTION and PORT are out of range for a router. -/
def maintArgsBad (r action port : Nat) : Bool :=
  decide (3 < action) || (if action = 0 then port != 0 else port == 0 || !(hasPort r port))

/-- Start a maintenance: step 1's tables are committed. -/
def startMaint (r action port : Nat) (force : Bool) (j : Nat) (s : State) : State :=
  let saved := allEps.map (fun n => (n, (niOf s n).routes))
  setMaint (some { router := r, action := action, port := port, force := force, step := 2, job := j, saved := saved }) (commitTables (fun n => avoidTable s r port n) s)

/-- ROUTER_MAINT. Where several of its refusals apply the order is BAD_ARG, DENIED, BAD_STATE, BUSY: the spec gives none (R129; DESIGN CHOICE, log entry 84). -/
def routerMaintBody (v : Serving) (s : State) : Reply × State :=
  let r := v.target - 0x100
  let action := pay v 0 1
  let port := pay v 1 1
  if maintArgsBad r action port ∨ 1 < pay v 2 1 then (rc rcBadArg, s)
  else if fenceDenied v.target then (rc rcDenied, s)
  else if calUses s.sluice.committed r then (rc rcBadState, s)
  else if s.braid.maint.isSome ∨ s.braid.commitJob.isSome ∨ (gateOf s v.target).st = .fencing then (rc rcBusy, s)
  else if bit v.flags 1 then ({ code := rcAccepted, result := leBytes 4 (lostPairs s r port) }, s)
  else
    let (j, t) := startJob v v.target s
    (rc rcAccepted, startMaint r action port (bit (pay v 2 1) 0) j t)

/-- ROUTER_MAINT. -/
def routerMaint (s : State) : State := ferryServe 0x0306 3 routerTarget routerMaintBody s

/-- ROUTER_MAINT. -/
def execRouterMaint (s : State) : Host.Outcome State Fault Refusal := .next (routerMaint s)

/-- A router's state is cleared; its disabled ports, its counters and the credits it owes or holds of its links stay. -/
def clearRouter (r : Nat) (s : State) : State :=
  modRouter r (fun n => { used := n.used, owed := n.owed, disabled := n.disabled, ctr := n.ctr, lastFlit := n.lastFlit }) s

/-- Enable a port, in both directions. -/
def enablePort (r port : Nat) (s : State) : State :=
  let off := fun (x p : Nat) (t : State) => modRouter x (fun n => { n with disabled := ldel n.disabled p, goingDown := ldel n.goingDown p }) t
  let t := off r port s
  if 5 ≤ port then
    match epAt r port with
    | some e => modNi e (fun n => { n with down := false }) t
    | none => t
  else off (neighbour r port) (opposite port) t

/-- Step 5 of Table 3.13. -/
def maintAction (m : Maint) (s : State) : State :=
  match m.action with
  | 0 => clearRouter m.router s
  | 2 => linkDown m.router m.port s
  | 3 => enablePort m.router m.port s
  | _ => s

/-- Steps 4 to 6 of Table 3.13, once the gate has drained. -/
def maintPerform (m : Maint) (testPassed : Bool) (s : State) : State :=
  let g := 0x100 + m.router
  let t := maintAction m (closeGate g s)
  if m.action = 1 ∧ ¬ testPassed then endJob m.job rcFailedCheck [] (setMaint none t)
  else
    let t := openGate g t
    if m.action = 2 then endJob m.job rcDone [] (setMaint none t)
    else setMaint (some { m with step := 6 }) (commitTables (fun n => tget m.saved [] n) t)

/-- ROUTER_MAINT_STEP: the commit or drain that the sequence waited for has ended (Table 3.13). -/
def routerMaintStep (testPassed : Bool) (s : State) : State :=
  match s.braid.maint with
  | none => s
  | some m =>
    let g := 0x100 + m.router
    if m.step = 2 ∧ s.braid.commitJob = none then
      setMaint (some { m with step := 3 }) (if (gateOf s g).st = .opened then fenceGate g m.force none s else s)
    else if m.step = 3 ∧ ((gateOf s g).st = .drained ∨ (gateOf s g).st = .closed) then maintPerform m testPassed s
    else if m.step = 6 ∧ s.braid.commitJob = none then endJob m.job rcDone [] (setMaint none s)
    else if m.step = 7 ∧ s.braid.commitJob = none then setMaint none s
    else s

/-- ROUTER_MAINT_STEP. -/
def execRouterMaintStep (testPassed : Bool) (s : State) : Host.Outcome State Fault Refusal := .next (routerMaintStep testPassed s)

/-! ## TIMEOUT_SET (R591) -/

/-- A waiting head flit whose age reaches the new quantum gains 1 URG and restarts its age (Table 16.9). -/
def requantum (q : Nat) (s : State) : State :=
  modBraid s (fun b => { b with ageQuantum := q, routers := b.routers.map (fun r => (r.1, { r.2 with buf := r.2.buf.map (fun (p, f) =>
    if f.isHead ∧ f.pkt.vc ≠ 2 ∧ f.ageFrom + q ≤ s.time then (p, { f with ageFrom := s.time, pkt := { f.pkt with urg := min (f.pkt.urg + 1) 15 } }) else (p, f)) })) })

/-- Locks held longer than the new limit are freed (R69). -/
def newHold (v : Nat) (s : State) : State :=
  forAll ((modLocks s (fun u => { u with holdMax := v })).locks.locks.map (·.1)) (fun t n => lockHoldExpiry n t) (modLocks s (fun u => { u with holdMax := v }))

/-- A VALUE of TIMEOUT_SET is in range (Table 16.9). -/
def timeoutOk (sel v : Nat) : Bool :=
  match sel with
  | 0 => decide (1 ≤ v ∧ v ≤ 1000000)
  | 1 => decide (1 ≤ v ∧ v ≤ 1000000)
  | 2 => [16, 32, 64, 128, 256].contains v
  | 3 => decide (10 ≤ v ∧ v ≤ 1000000)
  | 4 => decide (10 ≤ v ∧ v ≤ 1000000)
  | _ => false

/-- Apply a setting. -/
def applyTimeout (sel v : Nat) (s : State) : State :=
  match sel with
  | 0 => modBraid s (fun b => { b with orbLocal := v })
  | 1 => modBraid s (fun b => { b with orbFar := v })
  | 2 => requantum v s
  | 3 => modBraid s (fun b => { b with drainMax := v })
  | _ => newHold v s

/-- TIMEOUT_SET. -/
def timeoutSetBody (v : Serving) (s : State) : Reply × State :=
  if ¬ payZero v 1 4 ∨ ¬ timeoutOk (pay v 0 1) (pay v 4 4) then (rc rcBadArg, s) else (rc rcDone, applyTimeout (pay v 0 1) (pay v 4 4) s)

/-- TIMEOUT_SET. -/
def timeoutSet (s : State) : State := ferryServe 0x0307 8 noTarget timeoutSetBody s

/-- TIMEOUT_SET. -/
def execTimeoutSet (s : State) : Host.Outcome State Fault Refusal := .next (timeoutSet s)

end Sys2Proof.Machine
end

