-- ==== Sys2Proof/Machine/Backwater.lean ====
section
/-! DEFINITION. Backwater: frame lock, slots and connections, TDM over Braid, and its commands (chapter 12). -/

namespace Sys2Proof.Machine
open Sys2Proof

/-! ## Frame lock (R475 to R477, Table 12.2) -/

/-- Count in SYNC_ERR. -/
def syncError (s : State) : State := modBw s (fun b => { b with syncErr := min (b.syncErr + 1) 4294967295 })

/-- HUNT to LOCKED at a sync; the frame it begins is frame 0 when the sync is a two-clock one or none has been (R477). -/
def bwLock (twoClock : Bool) (s : State) : State :=
  let t := modBw s (fun b =>
    { b with st := .locked, synced := false, misplaced := false, mfZero := false, clockLost := false, badSyncs := 0, frameStart := s.time, mframe := if twoClock || !b.mfSet then 0 else (b.mframe + 1) % 16, mfSet := b.mfSet || twoClock, in1 := [], conns1 := [], conns2 := [], out := [] })
  let t := endJob? t.bwx.initJob rcDone [] (modBwx t (fun x => { x with lockedAt := s.tbase.tb, initJob := none, consumed := false }))
  raiseEv 456 1 0 [] t

/-- Back to HUNT: the connections are kept, the outputs carry 0x7F (Table 12.2). -/
def bwHunt (s : State) : State := modBw s (fun b => { b with st := .hunt, synced := false, misplaced := false, mfZero := false, badSyncs := 0, out := [], in1 := [] })

/-- A two-clock pulse in its place sets the multiframe counter to 0; at a value other than 15 it counts in SYNC_ERR (R477). `ending`: the frame before has not ended yet. -/
def bwMultiframe (ending : Bool) (s : State) : State :=
  let m := if ending then s.bw.mframe else (s.bw.mframe + 15) % 16
  let t := if s.bw.mfSet ∧ m ≠ 15 then syncError s else s
  modBw t (fun b => { b with mfSet := true, mfZero := ending, mframe := if ending then b.mframe else 0 })

/-- SYNC_PULSE: BW_FS sampled high at `width` consecutive falling edges, the sync taken `position` periods after the one before it (HUNT) or after the start of the present frame (LOCKED) (R475, R476). -/
def syncPulse (width position : Nat) (s : State) : State :=
  if s.bw.st = .uninit ∨ width = 0 then s
  else if 3 ≤ width then raiseEv 457 1 1 [] (syncError s)
  else if s.bw.st = .hunt then
    (if s.bw.synced ∧ position = 2048 then bwLock (width == 2) s
     else modBw s (fun b => { b with synced := true, mfSet := b.mfSet || width == 2, mframe := if width = 2 then 0 else b.mframe }))
  else if position = 0 ∨ position = 2048 then (if width = 2 then bwMultiframe (position == 2048) s else s)
  else raiseLimited 45700 msCycles 457 2 1 [] (modBw (syncError s) (fun b => { b with misplaced := true }))

/-- SYNC_PULSE. -/
def execSyncPulse (width position : Nat) (s : State) : Host.Outcome State Fault Refusal := .next (syncPulse width position s)

/-- CLOCK_LOSS: no BW_CLK edge for 1 µs, with external timing (Table 12.2). -/
def clockLoss (s : State) : State :=
  if s.bw.st ≠ .uninit ∧ s.bw.source = 0 then raiseEv 460 1 2 [] (modBw (bwHunt s) (fun b => { b with clockLost := true })) else s

/-- CLOCK_LOSS. -/
def execClockLoss (s : State) : Host.Outcome State Fault Refusal := .next (clockLoss s)

/-! ## Frames (R483 to R486) -/

/-- The 8 bits of a byte in reverse order. -/
def reverseBits (v : Nat) : Nat := (List.range 8).foldl (fun a i => a + b2n (bit v i) * 2 ^ (7 - i)) 0

/-- Byte of input slot 256 h + k, from the bits sampled in it, the first as bit 7: highways 12 to 15 send the least significant bit first (R484). -/
def slotByte (slots : Tbl Byte) (k : Nat) : Byte :=
  let raw := tget slots 0x7F k
  if 3072 ≤ k then BitVec.ofNat 8 (reverseBits raw.toNat) else raw

/-- The input frame, every slot. -/
def wholeFrame (slots : Tbl Byte) : Tbl Byte := (List.range 4096).map (fun k => (k, slotByte slots k))

/-- Input slot 0 of a highway: a change of its byte raises EV459 (R483). -/
def slotZero (h : Nat) (v : Byte) (s : State) : State :=
  if tget s.bw.slot0 0 h = v then s
  else raiseLimited (45900 + h) msCycles 459 1 0 (leBytes 1 h ++ [v]) (modBw s (fun b => { b with slot0 := tset b.slot0 h v }))

/-- Bytes that the connections to output slots bring from an input frame (R485, R486). -/
def outBytes (conns : List BwConn) (frame : Tbl Byte) : Tbl Byte :=
  (conns.filter (fun c => !c.dstBraid && !c.srcBraid)).foldl (fun t c => tset t c.dst (tget frame 0x7F c.src)) []

/-- Bytes of the transmit channels from an input frame (R489). -/
def channelBytes (conns : List BwConn) (frame : Tbl Byte) : Tbl Byte :=
  (conns.filter (fun c => c.dstBraid && !c.srcBraid)).foldl (fun t c => tset t c.dst (tget frame 0x7F c.src)) []

/-- Transmit ring frame `m` takes the channel bytes of an input frame; the other fifteen are kept (section 12.4). -/
def putRing (ring : Tbl Byte) (m : Nat) (bytes : Tbl Byte) : Tbl Byte :=
  bytes.foldl (fun t e => tset t (m % 16 * 4096 + e.1) e.2) (ring.filter (fun e => e.1 / 4096 != m % 16))

/-- A frame without a sync in its place: the fourth in succession loses the lock (Table 12.2). -/
def missingSync (s : State) : State :=
  let t := if s.bw.misplaced then s else syncError s
  if 4 ≤ t.bw.badSyncs + 1 then raiseEv 456 2 1 [] (bwHunt t) else modBw t (fun b => { b with badSyncs := b.badSyncs + 1 })

/-- BW_FRAME: a frame ends. Its slots are captured; the output frame that begins carries the frame before it (R485). -/
def bwFrame (slots : Tbl Byte) (syncMissing : Bool) (s : State) : State :=
  if s.bw.st = .locked then
    let f := wholeFrame slots
    let t := forAll (List.range 16) (fun u h => slotZero h (tget f 0 (256 * h)) u) s
    let t := if syncMissing then missingSync t else modBw t (fun b => { b with badSyncs := 0 })
    let t := modBwx t (fun x => { x with consumed := false, txFrame := s.bw.mframe })
    modBw t (fun b =>
      { b with misplaced := false, mfZero := false, frameStart := s.time, mframe := if s.bw.mfZero then 0 else (s.bw.mframe + 1) % 16, out := if b.st = .locked then outBytes s.bw.conns1 s.bw.in1 else [], in1 := f, conns1 := s.bw.conns, conns2 := s.bw.conns1, txChan := putRing s.bw.txChan s.bw.mframe (channelBytes s.bw.conns f), txPending := s.bw.txBraid })
  else s

/-- BW_FRAME. -/
def execBwFrame (slots : Tbl Byte) (syncMissing : Bool) (s : State) : Host.Outcome State Fault Refusal := .next (bwFrame slots syncMissing s)

/-- The status byte of output slot 0 (Table 12.5). -/
def bwStatusByte (s : State) : Byte :=
  BitVec.ofNat 8 (s.bw.mframe % 16 * 16 + b2n s.events.fatalN * 8 + b2n (s.twin.role == .active || s.twin.role == .unpaired) * 4 + b2n (s.bw.st == .locked) * 2 + 1)

/-- Byte that output slot 256 (h - 16) + t carries in the present frame (R476, R483, R486). -/
def bwOutByte (s : State) (k : Nat) : Byte :=
  if k % 256 = 0 then bwStatusByte s else if s.bw.st = .locked then tget s.bw.out 0x7F k else 0x7F

/-! ## Connections (R487, R488) -/

/-- Apply one change: a destination takes at most one source (R486). -/
def applyConn (l : List BwConn) (c : BwConn) : List BwConn :=
  let r := l.filter (fun x => !(x.dst == c.dst && x.dstBraid == c.dstBraid))
  if c.disconnect then r else r ++ [c]

/-- MULTIFRAME_BOUNDARY: frame 0 begins; every change accepted at least 125 µs before takes effect, in the order the commands were taken (R488). -/
def multiframeBoundary (s : State) : State :=
  if s.bw.st = .locked ∧ s.bw.mframe = 0 then
    let due := s.bw.batches.filter (fun b => decide (b.at_ + 125 * usCycles ≤ s.bw.frameStart))
    let t := modBw s (fun b => { b with conns := (due.flatMap (fun x => x.conns)).foldl applyConn b.conns, batches := b.batches.filter (fun x => !(decide (x.at_ + 125 * usCycles ≤ s.bw.frameStart))) })
    forAll due (fun u b => endJob b.job rcDone [] u) t
  else s

/-- MULTIFRAME_BOUNDARY. -/
def execMultiframeBoundary (s : State) : Host.Outcome State Fault Refusal := .next (multiframeBoundary s)

/-! ## TDM over Braid (R489 to R491) -/

/-- The transmit channel bytes of one packet. -/
def txBytes (s : State) (i : Nat) : List Byte := (List.range 512).map (fun j => tget s.bw.txChan 0x7F (s.bwx.txFrame % 16 * 4096 + 512 * i + j))

/-- A write to a system address laid out as the register pair of R296. -/
def pairWrite (s : State) (a off : Nat) (data : List Byte) : Req :=
  let b := (a % 2 ^ 48 + off) % 2 ^ 48
  { op := .wrp, far := bit a 63, farDev := bits a 61 48, farEp := farEpOf s b, addr := b, len := data.length, data := data }

/-- BRAID_TX_SEND: the transmit channel bytes of input frame m leave as 8 WRP packets (R489). -/
def braidTxSend (s : State) : State :=
  if s.bw.txPending then
    forAll (List.range 8) (fun t i => (presentReq 0x58 0 (pairWrite s s.bw.txAddr (s.bwx.txFrame % 16 * 0x1000 + 512 * i) (txBytes s i)) t).2)
      (modBw s (fun b => { b with txPending := false }))
  else s

/-- BRAID_TX_SEND. -/
def execBraidTxSend (s : State) : Host.Outcome State Fault Refusal := .next (whileClocked 84 s (braidTxSend s))

/-- The ring frame of a write's bytes is in its window: the frame after the input frame (R490). -/
def ringOpen (s : State) (o n : Nat) : Bool :=
  s.bw.st == .locked && s.bw.mframe == (o / 0x1000 + 1) % 16 && o / 0x1000 == (o + max n 1 - 1) / 0x1000

/-- RING_WRITE: accepted in its window, else discarded and counted (R490). -/
def ringWrite (pid : Nat) (s : State) : State :=
  match inboxFind s 0x58 pid with
  | none => s
  | some d =>
    let o := d.pkt.addr % 0x200000 - 0x100000
    if ringOpen s o d.pkt.data.length then
      respondInbox d 10 .ok [] (modBw s (fun b =>
        { b with ring := (d.pkt.data.zipIdx).foldl (fun t (x, i) => tset t (o + i) x) b.ring, ringWritten := (List.range d.pkt.data.length).foldl (fun l i => ladd l (o + i)) b.ringWritten }))
    else
      respondInbox d 10 .denied [] (raiseLimited 45802 msCycles 458 2 1 [] (modBw s (fun b => { b with lateWrite := min (b.lateWrite + 1) 4294967295 })))

/-- RING_WRITE. -/
def execRingWrite (pid : Nat) (s : State) : Host.Outcome State Fault Refusal := .next (whileClocked 84 s (ringWrite pid s))

/-- RING_CONSUME: at the start of an output frame its ring frame is consumed, when every byte of it was written in its window (R491). -/
def ringConsume (s : State) : State :=
  if s.bw.st = .locked ∧ ¬ s.bwx.consumed then
    let i := (s.bw.mframe + 14) % 16
    let whole := (List.range 4096).all (fun c => s.bw.ringWritten.contains (i * 4096 + c))
    let fed := s.bw.conns2.filter (fun c => c.srcBraid && !c.dstBraid)
    let t := modBwx s (fun x => { x with consumed := true })
    let t := modBw t (fun b =>
      { b with ringWritten := b.ringWritten.filter (fun o => o / 4096 != i), out := fed.foldl (fun m c => tset m c.dst (if whole then tget b.ring 0x7F (i * 4096 + c.src) else 0x7F)) b.out })
    if whole then t else raiseLimited 45801 msCycles 458 1 1 [] (modBw t (fun b => { b with lateFrame := min (b.lateFrame + 1) 4294967295 }))
  else s

/-- RING_CONSUME. -/
def execRingConsume (s : State) : Host.Outcome State Fault Refusal := .next (whileClocked 84 s (ringConsume s))

/-! ## Commands (R479, R487, R493) -/

/-- BW_INIT with SOURCE 2: the interface is released. -/
def bwRelease (s : State) : State := modBw s (fun b => { b with st := .uninit, synced := false, clockLost := false, txPending := false, out := [] })

/-- BW_INIT: connections dropped, rings cleared, HUNT with the new timing; commands whose changes had not taken effect end ABORTED. -/
def bwStart (v : Serving) (j : Nat) (s : State) : State :=
  let t := forAll s.bw.batches (fun u b => endJob b.job rcAborted [] u) (clearProof [0] 5 s)
  let t := modBw t (fun b =>
    { st := .hunt, source := pay v 0 1, txBraid := bit (pay v 1 1) 0, txAddr := pay v 8 8, syncErr := b.syncErr, lateFrame := b.lateFrame, lateWrite := b.lateWrite, slot0 := b.slot0 })
  modBwx t (fun x => { x with initJob := some j, initAt := s.time, consumed := false })

/-- BW_INIT (Table 12.4). -/
def bwInitBody (v : Serving) (s : State) : Reply × State :=
  if 2 < pay v 0 1 ∨ 1 < pay v 1 1 ∨ ¬ payZero v 2 8 ∨ bit (pay v 8 8) 62 then (rc rcBadArg, s)
  else if s.power.railsOut.contains .bw then (rc rcBadState, s)
  else if s.bwx.initJob.isSome then (rc rcBusy, s)
  else
    match wakeFor 84 s with
    | none => (rc rcBadState, s)
    | some t =>
      if pay v 0 1 = 2 then (rc rcDone, bwRelease t)
      else
        let (j, u) := startJob v 84 t
        (rc rcAccepted, bwStart v j u)

/-- BW_INIT. -/
def bwInit (s : State) : State := ferryServe 0x0900 16 noTarget bwInitBody s

/-- BW_INIT. -/
def execBwInit (s : State) : Host.Outcome State Fault Refusal := .next (bwInit s)

/-- BW_LOCK_TIMEOUT: LOCKED has not been reached within 10 ms; the interface keeps hunting (R479). -/
def bwLockTimeout (s : State) : State :=
  if s.bwx.initJob.isSome ∧ s.bwx.initAt + 10 * msCycles ≤ s.time then endJob? s.bwx.initJob rcTimeout [] (modBwx s (fun x => { x with initJob := none })) else s

/-- BW_LOCK_TIMEOUT. -/
def execBwLockTimeout (s : State) : Host.Outcome State Fault Refusal := .next (bwLockTimeout s)

/-- One entry of BW_CONNECT. -/
def connEntry (v : Serving) (i : Nat) : BwConn :=
  let a := pay v (4 + 4 * i) 2
  let d := pay v (6 + 4 * i) 2
  { src := a % 4096, srcBraid := bit a 15, dst := d % 4096, dstBraid := bit d 15, disconnect := bit d 14 }

/-- An entry that BW_CONNECT refuses: slot 0, Braid on both sides, a reserved bit. -/
def connBad (v : Serving) (i : Nat) : Bool :=
  let a := pay v (4 + 4 * i) 2
  let d := pay v (6 + 4 * i) 2
  let c := connEntry v i
  bits d 13 12 != 0 || (!c.dstBraid && c.dst % 256 == 0) ||
  (!c.disconnect && (bits a 14 12 != 0 || (!c.srcBraid && c.src % 256 == 0) || (c.srcBraid && c.dstBraid)))

/-- BW_CONNECT. -/
def bwConnectBody (v : Serving) (s : State) : Reply × State :=
  let n := pay v 0 1
  if n = 0 ∨ 13 < n ∨ ¬ payZero v 1 4 ∨ ¬ payZero v (4 + 4 * n) 56 ∨ (List.range n).any (connBad v) then (rc rcBadArg, s)
  else if s.bw.st = .uninit then (rc rcBadState, s)
  else
    let (j, t) := startJob v 84 s
    (rc rcAccepted, modBw t (fun b => { b with batches := b.batches ++ [{ conns := (List.range n).map (connEntry v), job := j, at_ := s.time }] }))

/-- BW_CONNECT. -/
def bwConnect (s : State) : State := ferryServe 0x0901 56 noTarget bwConnectBody s

/-- BW_CONNECT. -/
def execBwConnect (s : State) : Host.Outcome State Fault Refusal := .next (bwConnect s)

/-- The 44-byte result of BW_STATUS (Table 12.8). -/
def bwResult (s : State) : List Byte :=
  leBytes 4 (bwStat s) ++ leBytes 4 s.bw.conns.length ++ leBytes 4 s.bw.syncErr ++ leBytes 4 s.bw.lateFrame ++ leBytes 4 s.bw.lateWrite ++
  (List.range 16).map (fun h => tget s.bw.slot0 0 h) ++ leBytes 8 s.bwx.lockedAt

/-- BW_STATUS: CLEAR zeroes the counts after they are copied (R493). -/
def bwStatusBody (v : Serving) (s : State) : Reply × State :=
  if 1 < pay v 0 1 then (rc rcBadArg, s)
  else ({ code := rcDone, result := bwResult s }, if pay v 0 1 = 1 then modBw s (fun b => { b with syncErr := 0, lateFrame := 0, lateWrite := 0 }) else s)

/-- BW_STATUS. -/
def bwStatus (s : State) : State := ferryServe 0x0902 1 noTarget bwStatusBody s

/-- BW_STATUS. -/
def execBwStatus (s : State) : Host.Outcome State Fault Refusal := .next (bwStatus s)

end Sys2Proof.Machine
end

