-- ==== Sys2Proof/Machine/Power.lean ====
section
/-! DEFINITION. Device states, power domains, operating points, the time base, watchdog settings, thermal protection and rails: their commands and events (chapter 13 without sleep entry and exit; R603 to R612). -/

namespace Sys2Proof.Machine
open Sys2Proof

/-! ## PWR_DOMAIN (R495, R496) -/

/-- OFF is never allowed (item 2 of R496). -/
def offDenied (s : State) (d : Nat) : Bool := [0, 1, 2, 4].contains d || (d == 83 && s.fabric.cfgDone)

/-- A router of a Braid domain. -/
def inBraidDomain (d r : Nat) : Bool := braidDomain (colOf r) == d

/-- A valid entry of some NI's table passes through a router of the domain. -/
def routeThrough (s : State) (d : Nat) : Bool :=
  allEps.any (fun n => (List.range 256).any (fun k => (routeOf s n k).any (fun r => (routeWalk (epRouter n) (unpackRoute r)).any (fun p => inBraidDomain d p.1))))

/-- A valid far entry leaves by a port whose NI lies at a router of the domain. -/
def farThrough (s : State) (d : Nat) : Bool := s.delta.far.any (fun e => bit e.2 7 && inBraidDomain d (epRouter (portNi (e.2 % 64))))

/-- What the domain holds forbids OFF (item 3 of R496, but for the gate). -/
def offHeld (s : State) (d : Nat) : Bool :=
  if d = 3 ∨ d = 5 then routeThrough s d || (List.range 64).any (fun r => inBraidDomain d r && calUses s.sluice.committed r) || farThrough s d
  else if 30 ≤ d ∧ d < 46 then (let r := (reachOf s (d - 30)).st; !(r == .isolated || r == .empty || r == .invalid))
  else if d = 82 then s.crypto.slots.any (fun k => k.2.st != .empty) || s.crypto.window.isSome || s.crypto.tides.any (fun t => t.2.st != .unbound)
  else if d = 84 then s.bw.st != .uninit
  else if d = 85 then s.twin.role != .unpaired || s.twin.pairing.isSome
  else false

/-- The gate lets the domain be switched off (R125). -/
def gateOff (s : State) (d : Nat) : Bool := (gateOf s d).st == .drained || (gateOf s d).st == .closed

/-- Domains that have a RET_IDLE. -/
def retDomain (d : Nat) : Bool := decide ((6 ≤ d ∧ d < 30) ∨ (78 ≤ d ∧ d < 82))

/-- RET_IDLE is in range. -/
def retOk (v : Nat) : Bool := decide (v = 0 ∨ (10 ≤ v ∧ v ≤ 1000000))

/-- OFF. -/
def domainOffReply (d : Nat) (s : State) : Reply × State :=
  if offDenied s d then (rc rcDenied, s)
  else if ¬ gateOff s d ∨ offHeld s d then (rc rcBadState, s)
  else (rc rcDone, if domOn s d then domainOff d (closeGate d s) else s)

/-- ON: the reply waits until memories have passed INIT. -/
def domainOnReply (d : Nat) (s : State) : Reply × State :=
  if s.power.trimMask.contains d then (rc rcBadState, s)
  else if domOn s d then (rc rcDone, s)
  else (rc rcDone, let t := domainOn d s; if domainReady t d then t else waitFor 1 t)

/-- PWR_DOMAIN. -/
def pwrDomainBody (v : Serving) (s : State) : Reply × State :=
  let d := v.target
  let f := pay v 0 1
  if 2 < f ∨ ¬ payZero v 1 4 ∨ (f = 2 ∧ ¬ (retDomain d && retOk (pay v 4 4))) then (rc rcBadArg, s)
  else if f = 2 then (rc rcDone, modPower s (fun p => { p with retIdle := tset p.retIdle d (pay v 4 4) }))
  else if f = 1 then domainOnReply d s
  else domainOffReply d s

/-- PWR_DOMAIN. -/
def pwrDomain (s : State) : State := ferryServe 0x0701 8 (fun t => decide (t ≤ 85)) pwrDomainBody s

/-- PWR_DOMAIN. -/
def execPwrDomain (s : State) : Host.Outcome State Fault Refusal := .next (pwrDomain s)

/-! ## PWR_STATE (R499, R500) -/

/-- Device state of STATE. -/
def stateOf (n : Nat) : DevState :=
  match n with
  | 0 => .active
  | 1 => .trim
  | 2 => .doze
  | _ => .stipple

/-- The domains that MASK selects. -/
def trimSet (v : Serving) : List Nat := maskList 86 (pay v 8 11)

/-- A field of PWR_STATE is out of range (Table 13.3); fields that the state does not use are ignored. -/
def stateArgsBad (v : Serving) : Bool :=
  let f := pay v 0 1
  decide (3 < f) || !(payZero v 1 4) || (decide (2 ≤ f) && decide (86400000 < pay v 4 4)) || (f == 1 && decide (2 ^ 86 ≤ pay v 8 11))

/-- A masked domain starts to go off (R500). -/
def trimOne (d : Nat) (s : State) : State :=
  if domOn s d then (if (gateOf s d).st = .opened then fenceGate d false none s else if gateOff s d then domainOff d (closeGate d s) else s) else s

/-- TRIM. -/
def enterTrim (v : Serving) (s : State) : Reply × State :=
  let m := trimSet v
  if m.any (fun d => offDenied s d || offHeld s d) then (rc rcBadState, s)
  else if s.power.trimJob.isSome ∨ s.power.entry.isSome ∨ m.any (fun d => (gateOf s d).st == .fencing) then (rc rcBusy, s)
  else
    let (j, t) := startJob v 0xFFFF s
    let t := modPower t (fun p => { p with dev := .trim, trimMask := m, trimJob := some j, trimFailed := false })
    (rc rcAccepted, trimCheck (forAll m (fun u d => trimOne d u) t))

/-- ACTIVE: every TRIM domain is switched on again. -/
def enterActive (s : State) : Reply × State :=
  if s.power.trimJob.isSome ∨ s.power.entry.isSome then (rc rcBusy, s)
  else
    let t := forAll s.power.trimMask (fun u d => domainOn d u) (modPower s (fun p => { p with dev := .active, trimMask := [] }))
    (rc rcDone, if maskReady t then t else waitFor 1 t)

/-- DOZE and STIPPLE: PREPARE goes out to every domain that is on (Table 13.4). -/
def enterSleep (v : Serving) (target : DevState) (s : State) : Reply × State :=
  let flows := !s.sluice.committed.isEmpty
  if (target = .doze ∧ flows) ∨ (target = .stipple ∧ flows ∧ s.twin.role ≠ .standbyHot) then (rc rcBadState, s)
  else if target = .stipple ∧ (s.power.prog.isNone ∨ s.twin.role = .active) then (rc rcBadState, s)
  else if s.power.trimJob.isSome ∨ s.power.entry.isSome then (rc rcBusy, s)
  else
    let (j, t) := startJob v 0xFFFF s
    (rc rcAccepted, modPower t (fun p =>
      { p with wakeAfter := pay v 4 4, wakeSrc := none, wakeEntries := [], entry := some { target := target, job := j, since := s.time } }))

/-- PWR_STATE. -/
def pwrStateBody (v : Serving) (s : State) : Reply × State :=
  if stateArgsBad v then (rc rcBadArg, s)
  else
    match stateOf (pay v 0 1) with
    | .active => enterActive s
    | .trim => enterTrim v s
    | .doze => enterSleep v .doze s
    | .stipple => enterSleep v .stipple s

/-- PWR_STATE. -/
def pwrState (s : State) : State := ferryServe 0x0700 19 noTarget pwrStateBody s

/-- PWR_STATE. -/
def execPwrState (s : State) : Host.Outcome State Fault Refusal := .next (pwrState s)

/-! ## Operating points (R511 to R515, R592) -/

/-- The voltage that the ME domains that are on need once some quads are at a point. -/
def needWith (quads : List Nat) (op : Nat) (s : State) : Nat :=
  needVcc (modEngines s (fun e => { e with quads := quads.foldl (fun t q => tmod t {} q (fun x => { x with op := op })) e.quads }))

/-- Quads are at a point from now on. -/
def setPoints (op : Nat) (qs : List Nat) (s : State) : State := forAll qs (fun u q => modQuad q (fun y => { y with op := op }) u) s

/-- The PMC begins the next change: quads that are off keep the point for their next ON (R576); a higher voltage is commanded first (R514). -/
def beginDvfs (fuel : Nat) (s : State) : State :=
  match fuel with
  | 0 => s
  | f + 1 =>
    match s.power.dvfs with
    | [] => s
    | x :: r =>
      if x.begun.isSome then s
      else
        let need := needWith x.quads x.op s
        let off := x.quads.filter (fun q => !(domOn s (6 + q)))
        let left := x.quads.filter (fun q => domOn s (6 + q) && (quadOf s q).op != x.op)
        if left.isEmpty then beginDvfs f (endJob x.job rcDone [] (modPower (setPoints x.op off s) (fun p => { p with dvfs := r })))
        else modPower s (fun p => { p with dvfs := { x with quads := left, later := off, begun := some s.time, volt := if s.power.vccMe < need then some need else none } :: r })

/-- The change in front has ended: VCC_ME falls when every quad runs at or below the lower point, the next change begins (R514). -/
def nextDvfs (s : State) : State :=
  let t := modPower s (fun p => { p with dvfs := p.dvfs.drop 1 })
  beginDvfs 4096 (if t.power.pmbus.isSome then modPower t (fun p => { p with vccMe := needVcc t }) else t)

/-- Quads that TARGET names. -/
def dvfsQuads (t : Nat) : List Nat := if t = 0xFFFF then List.range 24 else [t]

/-- TARGET 0xFFFE sets the PMBus address (R592). -/
def pmbusSet (v : Serving) (s : State) : Reply × State :=
  if pay v 0 1 ≠ 0 ∨ pay v 1 1 < 0x08 ∨ 0x77 < pay v 1 1 then (rc rcBadArg, s)
  else (rc rcDone, modPower s (fun p => { p with pmbus := some (pay v 1 1) }))

/-- Points of all quads once the queued changes are performed. -/
def plannedOps (s : State) : State := forAll s.power.dvfs (fun t x => forAll x.quads (fun u q => modQuad q (fun y => { y with op := x.op }) u) t) s

/-- DVFS_SET. -/
def dvfsSetBody (v : Serving) (s : State) : Reply × State :=
  if v.target = 0xFFFE then pmbusSet v s
  else if 1 < v.len ∨ 3 < pay v 0 1 then (rc rcBadArg, s)
  else if s.power.pmbus.isNone ∧ needWith (dvfsQuads v.target) (pay v 0 1) (plannedOps s) ≠ s.power.vccMe then (rc rcBadState, s)
  else
    let (j, t) := startJob v 0x10000 s
    (rc rcAccepted, beginDvfs 4096 (modPower t (fun p => { p with dvfs := p.dvfs ++ [{ quads := dvfsQuads v.target, op := pay v 0 1, job := j }] })))

/-- DVFS_SET. -/
def dvfsSet (s : State) : State := ferryServe 0x0702 2 (fun t => decide (t < 24 ∨ t = 0xFFFF ∨ t = 0xFFFE)) dvfsSetBody s

/-- DVFS_SET. -/
def execDvfsSet (s : State) : Host.Outcome State Fault Refusal := .next (dvfsSet s)

/-- The change in front waits for power-good at a new voltage: that voltage, and when it began. -/
def awaitsGood (s : State) : Option (Nat × Nat) :=
  match s.power.dvfs with
  | [] => none
  | x :: _ => match x.volt, x.pgAt, x.begun with
    | some w, none, some b => some (w, b)
    | _, _, _ => none

/-- POWER_GOOD: VME_PG, or POWER_GOOD# when the pin is not connected, reports the new voltage (R512). -/
def powerGood (s : State) : State :=
  match awaitsGood s with
  | none => s
  | some (w, _) =>
    modPower s (fun p => { p with vccMe := w, dvfs := match p.dvfs with
      | x :: r => { x with pgAt := some s.time } :: r
      | [] => [] })

/-- POWER_GOOD. -/
def execPowerGood (s : State) : Host.Outcome State Fault Refusal := .next (powerGood s)

/-- Every running engine of a quad is at a clean boundary (R514). -/
def quadClean (s : State) (q : Nat) : Bool := [0, 1, 2, 3].all (fun i => (engOf s (4 * q + i)).st != .running || cleanAt (engOf s (4 * q + i)))

/-- The order guard lets frequencies change: no new voltage is needed, or power-good came 50 µs ago (R514). -/
def guardOpen (s : State) (x : Dvfs) : Bool :=
  x.begun.isSome && (x.volt.isNone || x.pgAt.any (fun t => decide (t + 50 * usCycles ≤ s.time)))

/-- DVFS_FREQUENCY_CHANGE: a quad named by the change in front takes its point; with the last one the change has ended (R513, R514). -/
def dvfsFrequencyChange (q : Nat) (s : State) : State :=
  match s.power.dvfs with
  | [] => s
  | x :: r =>
    if guardOpen s x ∧ x.quads.contains q ∧ quadClean s q then
      let t := modQuad q (fun y => { y with op := x.op }) s
      let left := ldel x.quads q
      let t := modPower t (fun p => { p with dvfs := { x with quads := left } :: r })
      if left.isEmpty then endJob x.job rcDone [] (nextDvfs (setPoints x.op x.later t)) else t
    else s

/-- DVFS_FREQUENCY_CHANGE. -/
def execDvfsFrequencyChange (q : Nat) (s : State) : Host.Outcome State Fault Refusal := .next (dvfsFrequencyChange q s)

/-- PG_TIMEOUT: no power-good for 5 ms, or a PMBus transaction not acknowledged (R515): the voltage and the points stay. -/
def pgTimeout (busFailed : Bool) (s : State) : State :=
  match awaitsGood s, s.power.dvfs with
  | some (_, b), x :: r =>
    if busFailed ∨ b + 5 * msCycles ≤ s.time then
      let t := raiseEv 418 (if busFailed then 2 else 1) 2 [] (modPower s (fun p => { p with dvfs := r }))
      endJob x.job rcTimeout [] (beginDvfs 4096 t)
    else s
  | _, _ => s

/-- PG_TIMEOUT. -/
def execPgTimeout (busFailed : Bool) (s : State) : Host.Outcome State Fault Refusal := .next (pgTimeout busFailed s)

/-! ## STIPPLE_PROGRAM (R508) -/

/-- Offset of a bad header field (Table 13.8); the CRC is checked with the whole image. -/
def progHeaderFault (h : List Byte) : Option Nat :=
  let n := leAt h 6 2
  if leAt h 0 4 ≠ 0x57190013 then some 0
  else if leAt h 4 2 ≠ 1 then some 4
  else if n < 1 ∨ 32 < n then some 6
  else if leAt h 8 4 ≠ 32 + 12 * n then some 8
  else if leAt h 0x10 2 < 1 ∨ 10000 < leAt h 0x10 2 then some 0x10
  else if leAt h 0x12 14 ≠ 0 then some 0x12
  else none

/-- INDEX names a source of its kind (Table 13.9). -/
def stipIndexOk (source index : Nat) : Bool :=
  match source with
  | 0 => decide (index < 8)
  | 1 => decide (index < 12)
  | 2 => decide (index < 64)
  | 3 => index == 0
  | _ => false

/-- The entry at an offset of an image is of the form of Table 13.9. -/
def stipEntryOk (img : List Byte) (o : Nat) : Bool :=
  let lo := sext 16 (leAt img (o + 4) 2)
  let hi := sext 16 (leAt img (o + 6) 2)
  stipIndexOk (leAt img o 1) (leAt img (o + 1) 1) && leAt img (o + 2) 1 != 0 && leAt img (o + 3) 1 == 0 && leAt img (o + 10) 2 == 0 &&
  decide (lo ≤ hi) && decide (2 * Int.ofNat (leAt img (o + 8) 2) ≤ hi - lo) &&
  (leAt img o 1 != 2 || (decide (0 ≤ lo) && decide (hi ≤ 1)))

/-- The entry at an offset. -/
def stipEntryAt (img : List Byte) (o : Nat) : StipEntry :=
  { source := leAt img o 1, index := leAt img (o + 1) 1, n := leAt img (o + 2) 1, low := sext 16 (leAt img (o + 4) 2), high := sext 16 (leAt img (o + 6) 2), hyst := leAt img (o + 8) 2 }

/-- Offsets of the entries of a program. -/
def stipOffsets (img : List Byte) : List Nat := (List.range (leAt img 6 2)).map (fun i => 32 + 12 * i)

/-- Offset of the first failing field or entry of a whole image: CRC, entries, a ninth ENERGY entry. -/
def progFault (img : List Byte) : Option Nat :=
  if leAt img 0x0C 4 ≠ crc32 (img.drop 0x10) then some 0x0C
  else
    match (stipOffsets img).find? (fun o => !(stipEntryOk img o)) with
    | some o => some o
    | none => ((stipOffsets img).filter (fun o => leAt img o 1 == 2))[8]?

/-- STIPPLE_PROGRAM. -/
def stippleProgramBody (v : Serving) (s : State) : Reply × State :=
  if ¬ payZero v 0 8 then (rc rcBadArg, s)
  else
    match hwRead s (pay v 8 8) 32 with
    | none => (failedRead, s)
    | some h =>
      match progHeaderFault h with
      | some o => (failedAt o 0, s)
      | none =>
        match hwRead s (pay v 8 8) (leAt h 8 4) with
        | none => (failedRead, s)
        | some img =>
          match progFault img with
          | some o => (failedAt o 0, s)
          | none => (rc rcDone, modPower s (fun p => { p with prog := some { periodMs := leAt img 0x10 2, entries := (stipOffsets img).map (stipEntryAt img) } }))

/-- STIPPLE_PROGRAM. -/
def stippleProgram (s : State) : State := ferryServe 0x0703 16 noTarget stippleProgramBody s

/-- STIPPLE_PROGRAM. -/
def execStippleProgram (s : State) : Host.Outcome State Fault Refusal := .next (stippleProgram s)

/-! ## TIME_SET and the slow clock (R19, R516 to R518) -/

/-- Numbers of TIMEBASE. -/
def tbWrap : Nat := 2 ^ 64

/-- SET: TIMEBASE takes the value and is valid. -/
def timeSetTo (x : Nat) (s : State) : State :=
  raiseEv 430 1 0 (leBytes 8 (x + tbWrap - s.tbase.tb)) (modTime s (fun t => { t with tb := x, valid := true }))

/-- STEP: TIMEBASE adds the signed offset. -/
def timeStep (x : Nat) (s : State) : State :=
  raiseEv 430 2 0 (leBytes 8 x) (modTime s (fun t => { t with tb := (t.tb + x) % tbWrap }))

/-- TIME_SET. -/
def timeSetBody (v : Serving) (s : State) : Reply × State :=
  let f := pay v 0 1
  if 2 < f ∨ ¬ payZero v 1 8 then (rc rcBadArg, s)
  else if f = 0 then (rc rcDone, timeSetTo (pay v 8 8) s)
  else if f = 1 then (rc rcDone, timeStep (pay v 8 8) s)
  else if s.tbase.trimJob.isSome then (rc rcBusy, s)
  else
    let (j, t) := startJob v 0xFFFF s
    (rc rcAccepted, modTime t (fun b => { b with trimJob := some j, trimAt := b.slowTicks }))

/-- TIME_SET. -/
def timeSet (s : State) : State := ferryServe 0x0704 16 noTarget timeSetBody s

/-- TIME_SET. -/
def execTimeSet (s : State) : Host.Outcome State Fault Refusal := .next (timeSet s)

/-- TRIM_MEASURE_DONE: PLL_HW cycles over 32 768 slow ticks; INC_SLOW becomes the measured tick unless it is more than 4 % off nominal (R518). -/
def trimMeasureDone (pllCycles : Nat) (s : State) : State :=
  match s.tbase.trimJob with
  | none => s
  | some j =>
    if s.tbase.trimAt + 32768 ≤ s.tbase.slowTicks then
      let t := modTime s (fun b => { b with trimJob := none })
      let inc := 2 * pllCycles
      if 1920000000 ≤ inc ∧ inc ≤ 2080000000 then endJob j rcDone [] (modTime t (fun b => { b with incSlow := inc })) else endJob j rcFailedCheck [] t
    else s

/-- TRIM_MEASURE_DONE. -/
def execTrimMeasureDone (pllCycles : Nat) (s : State) : Host.Outcome State Fault Refusal := .next (trimMeasureDone pllCycles s)

/-- SLOW_CLOCK_LOSS: the slow clock stops while it drives TIMEBASE; the internal oscillator takes its place (R517). -/
def slowClockLoss (s : State) : State :=
  if s.tbase.slowDriven then raiseEv 431 2 2 [] (modTime s (fun b => { b with valid := false, crystal := false })) else s

/-- SLOW_CLOCK_LOSS. -/
def execSlowClockLoss (s : State) : Host.Outcome State Fault Refusal := .next (slowClockLoss s)

/-- CRYSTAL_WATCH_EXPIRY: 1 s after VCC_AON became good (R19). -/
def crystalWatchExpiry (oscillating : Bool) (s : State) : State :=
  if s.tbase.watching ∧ s.tbase.watchFrom + 1000 * msCycles ≤ s.time then
    let t := modTime s (fun b => { b with watching := false, crystal := oscillating, crystalAbsent := !oscillating })
    if oscillating then t else raiseEv 431 1 1 [] t
  else s

/-- CRYSTAL_WATCH_EXPIRY. -/
def execCrystalWatchExpiry (oscillating : Bool) (s : State) : Host.Outcome State Fault Refusal := .next (crystalWatchExpiry oscillating s)

/-! ## WDT_SET (R519) -/

/-- WDT_SET: TARGET 0x0100, Headwater's watchdog, is refused. -/
def wdtSetBody (v : Serving) (s : State) : Reply × State :=
  let a := pay v 0 1
  if v.target = 0x0100 then (rc rcDenied, s)
  else if 3 < a ∨ ¬ payZero v 1 4 ∨ pay v 4 4 < 1 ∨ 60000 < pay v 4 4 ∨ pay v 8 4 < 1 ∨ 10000 < pay v 8 4 then (rc rcBadArg, s)
  else (rc rcDone, modWdt v.target (fun w =>
    { action := a, timeout := msTicks (pay v 4 4), grace := pay v 8 4, armed := a != 0, count := msTicks (pay v 4 4), paused := w.paused }) s)

/-- WDT_SET. -/
def wdtSet (s : State) : State := ferryServe 0x0705 12 (fun t => decide (t < 96 ∨ t = 0x0100)) wdtSetBody s

/-- WDT_SET. -/
def execWdtSet (s : State) : Host.Outcome State Fault Refusal := .next (wdtSet s)

/-! ## Thermal protection and rails (R523, R611, R612) -/

/-- Every domain but AON goes off without weir; Headwater stops, outputs idle (R523). Only a device reset ends it. -/
def allOff (s : State) : State :=
  let t := forAll ((List.range 86).drop 1) (fun u d => if domOn u d then domainOff d u else u) s
  let t := modFerry t (fun f => { f with serving := none, irq := false, ready := false, resetting := true, recovery := false, switchPending := false })
  modPower (modBoot t (fun b => { b with loaded := false })) (fun p => { p with entry := none, dvfs := [] })

/-- The thermal trip. -/
def thermalTrip (sensor : Nat) (s : State) : State :=
  allOff (assertFatal 428 (raiseEv 428 1 3 (leBytes 1 sensor) (modPower s (fun p => { p with tripped := true }))))

/-- One threshold of a sensor: its event when crossed, armed again 5 °C below. -/
def crossing8 (v limit : Int) (raised : List Nat) (sensor : Nat) : Bool × List Nat :=
  if limit < v then (!(raised.contains sensor), ladd raised sensor) else if v ≤ limit - 40 then (false, ldel raised sensor) else (false, raised)

/-- THERMAL_SAMPLE: a reading in 1/8 °C (R523). -/
def thermalSample (sensor : Nat) (v : Int) (s : State) : State :=
  if sensor < 8 then
    let h := crossing8 v 800 s.power.raisedHigh sensor
    let c := crossing8 v 880 s.power.raisedCrit sensor
    let t := modPower s (fun p => { p with sensors := tset p.sensors sensor v, raisedHigh := h.2, raisedCrit := c.2 })
    let t := when_ h.1 (raiseEv (420 + sensor) 1 1 (leBytes 2 (toBits 16 v))) t
    let t := when_ c.1 (raiseEv (420 + sensor) 2 2 (leBytes 2 (toBits 16 v))) t
    if 1000 ≤ v ∧ ¬ s.power.tripped then thermalTrip sensor t else t
  else s

/-- THERMAL_SAMPLE. -/
def execThermalSample (sensor : Nat) (v : Int) (s : State) : Host.Outcome State Fault Refusal := .next (thermalSample sensor v s)

/-- First supply monitor of a rail (Table 13.10); 0xFF for VCC_BW, which has none. -/
def railMonitor (r : Rail) : Nat :=
  match r with
  | .core => 0
  | .me => 1
  | .shore => 2
  | .ret => 4
  | .aon => 5
  | .lane => 6
  | .laneHv => 8
  | .vddq => 9
  | .io => 11
  | .bw => 0xFF
  | .fuse => 0xFF

/-- EV419, while the device is awake (R524). -/
def supplyEv (r : Rail) (s : State) : State :=
  if s.power.dev = .doze ∨ s.power.dev = .stipple then s
  else raiseEv 419 1 2 (leBytes 1 (railMonitor r) ++ leBytes 2 (tget s.power.supplies 0 (railMonitor r))) s

/-- Memories in RETENTION. -/
def retained (s : State) : List Nat := (List.range 32).filter (fun u => memPwr s u == .retention)

/-- What follows when a rail leaves its limits out of reset (R606, R612). -/
def railEffect (r : Rail) (s : State) : State :=
  match r with
  | .aon => s
  | .fuse => s
  | .bw => supplyEv r (endJob? s.bwx.initJob rcAborted [] (modBwx (bwRelease s) (fun b => { b with initJob := none })))
  | .ret => supplyEv r (modMems s (fun m => { m with lost := (retained s).foldl ladd m.lost }))
  | _ => allOff (assertFatal 489 (trip 2 (supplyEv r s)))

/-- RAIL_FAULT: for the rails of stages 2 and 3, after 1 µs (R612). -/
def railFault (r : Rail) (s : State) : State :=
  if s.power.railsOut.contains r then s
  else
    let t := modPower s (fun p => { p with railsOut := p.railsOut ++ [r] })
    if s.dbg.inReset then t else railEffect r t

/-- RAIL_FAULT. -/
def execRailFault (r : Rail) (s : State) : Host.Outcome State Fault Refusal := .next (railFault r s)

/-- RAIL_RETURN (R611); VCC_AON comes back by POWER_ON_RESET. -/
def railReturn (r : Rail) (s : State) : State := if r = .aon then s else modPower s (fun p => { p with railsOut := ldel p.railsOut r })

/-- RAIL_RETURN. -/
def execRailReturn (r : Rail) (s : State) : Host.Outcome State Fault Refusal := .next (railReturn r s)

end Sys2Proof.Machine
end

