-- ==== Sys2Proof/Machine/Sleep.lean ====
section
/-! DEFINITION. Entry into DOZE and STIPPLE, its aborts, wake and exit, the Stipple sequencer (sections 13.3 to 13.5, R154, R155, R412, R546, R547). -/

namespace Sys2Proof.Machine
open Sys2Proof

/-! ## Votes (R501, R502) -/

/-- The four engines of a quad. -/
def quadEngines (s : State) (q : Nat) : List Engine := [0, 1, 2, 3].map (fun i => engOf s (4 * q + i))

/-- A quad refuses (Table 13.5). -/
def quadRefuses (s : State) (target : DevState) (q : Nat) : Bool :=
  (quadEngines s q).any (fun e => e.mover.st == .run || (if target = .doze then e.st == .running else !(e.st == .reset || e.st == .stopped || e.st == .halted)))

/-- What a reach's agent says, with its SLEEP_OK. -/
def reachRefuses (s : State) (n : Nat) (sleepOk : Bool) : Bool :=
  match (reachOf s n).st with
  | .loading => true
  | .isolating => true
  | .active => !sleepOk
  | _ => false

/-- The agent of a domain refuses PREPARE (Table 13.5). -/
def refuses (s : State) (target : DevState) (d : Nat) (sleepOk : Bool) : Bool :=
  if 2 ≤ d ∧ d < 6 then target == .stipple && allEps.any (fun e => braidDomain (colOf (epRouter e)) == d && !(niOf s e).orbs.isEmpty)
  else if 6 ≤ d ∧ d < 30 then quadRefuses s target (d - 6)
  else if 30 ≤ d ∧ d < 46 then reachRefuses s (d - 30) sleepOk
  else if 62 ≤ d ∧ d < 78 then target == .doze && (quadLanes (d - 62)).any (fun l => (laneOf s l).pwr == .active)
  else if 78 ≤ d ∧ d < 82 then !(bgroupOf s (2 * (d - 78))).queue.isEmpty || !(bgroupOf s (2 * (d - 78) + 1)).queue.isEmpty
  else if d = 82 then s.crypto.tides.any (fun t => t.2.st == .running) || s.crypto.slots.any (fun k => k.2.st == .retiring)
  else if d = 83 then s.fabric.load.any (fun l => l.started)
  else if d = 84 then s.bw.st == .locked && (!s.bw.conns.isEmpty || s.bw.txBraid)
  else if d = 85 then (if target = .doze then s.twin.role != .unpaired else s.twin.role == .active || !s.twin.queue.isEmpty)
  else false

/-- Domains that are on. -/
def onDomains (s : State) : List Nat := (List.range 86).filter (domOn s)

/-- The agent of a domain has voted. -/
def voted (e : Entry) (d : Nat) : Bool := e.agreed.contains d || e.refused.any (fun r => r.1 == d)

/-- Change the entry in progress. -/
def setEntry (e : Option Entry) (s : State) : State := modPower s (fun p => { p with entry := e })

/-- PREPARE_VOTE: the agent agrees and stops its domain's clocks, or refuses. -/
def prepareVote (d : Nat) (sleepOk : Bool) (s : State) : State :=
  match s.power.entry with
  | none => s
  | some e =>
    if e.step = 1 ∧ d < 86 ∧ domOn s d ∧ ¬ voted e d then
      setEntry (some (if refuses s e.target d sleepOk then { e with refused := e.refused ++ [(d, 1)] } else { e with agreed := e.agreed ++ [d] })) s
    else s

/-- PREPARE_VOTE. -/
def execPrepareVote (d : Nat) (sleepOk : Bool) (s : State) : Host.Outcome State Fault Refusal := .next (prepareVote d sleepOk s)

/-- VOTE_TIMEOUT: no vote within 100 µs counts as a refusal, NO_VOTE. -/
def voteTimeout (d : Nat) (s : State) : State :=
  match s.power.entry with
  | none => s
  | some e =>
    if e.step = 1 ∧ d < 86 ∧ domOn s d ∧ ¬ voted e d ∧ e.since + 100 * usCycles ≤ s.time then
      setEntry (some { e with refused := e.refused ++ [(d, 2)] }) s
    else s

/-- VOTE_TIMEOUT. -/
def execVoteTimeout (d : Nat) (s : State) : Host.Outcome State Fault Refusal := .next (voteTimeout d s)

/-- A1: all votes are collected. -/
def votesIn (s : State) (e : Entry) : Bool := (onDomains s).all (voted e)

/-- Domains that agreed and have work since (R503). -/
def newWork (s : State) (e : Entry) : List Nat := e.agreed.filter (fun d => refuses s e.target d true)

/-! ## COMMIT (Table 13.4, R155, R412) -/

/-- The Stipple program starts: entries NORMAL, counts 0 (R509, R510). -/
def startSequencer (s : State) : State :=
  let t := modPower s (fun p =>
    { p with prog := p.prog.map (fun g => { g with entries := g.entries.map (fun x => { x with violating := false, count := 0 }) }), lastPeriod := s.tbase.slowTicks })
  modTwin t (fun w => { w with edges := 0, role := if w.role = .standbyHot then .standbyStipple else w.role })

/-- The device is asleep; `emulated` while a debugger is attached (R546). -/
def fallAsleep (e : Entry) (emulated : Bool) (s : State) : State :=
  let prev := if s.power.dev = .trim then DevState.trim else .active
  let t := modPower s (fun p => { p with dev := e.target, prev := prev, sleepJob := some e.job, sleptAt := s.time, entry := none, emulated := emulated })
  if e.target = .stipple then startSequencer t else t

/-- The channel writes back its dirty counter-buffer entries (R412). -/
def saveCounters (c : Nat) (s : State) : State :=
  modDchX c (fun x => { x with ctrDirty := [] }) (forAll (dchX s c).ctrDirty (fun t p => counterRise c p t) s)

/-- The key manager writes back its dirty cache entries and saves the root entries, three times each (R412). -/
def saveRoots (s : State) : State :=
  modCrypto s (fun y =>
    { y with tree := y.cacheDirty.foldl (fun t k => tset t k (tget y.cache 0 k)) y.tree, cacheDirty := [], rootsSaved := if domOn s 82 then (List.range 48).map (fun i => (i, rootOf s (i % 16))) else y.rootsSaved })

/-- DRAM channels that STIPPLE puts into self-refresh and takes out of it. -/
def liveChannels (s : State) : List Nat := (List.range 16).filter (fun c => domOn s (46 + c) && (dchOf s c).trained)

/-- COMMIT of STIPPLE: buffers flushed, counters saved, DRAM in self-refresh, TIMEBASE about to be swapped, fast PLLs stopped. -/
def commitStipple (e : Entry) (s : State) : State :=
  let t := forAll (liveChannels s) (fun u c => drainWrites c u) s
  let t := forAll (List.range 8) (fun u g => if memPwr u g = .on then flushGroup g u else u) t
  let t := saveRoots (forAll (List.range 16) (fun u c => saveCounters c u) t)
  let t := forAll (liveChannels s) (fun u c => if (dchOf u c).pwr = .active then toSelfRefresh c u else u) t
  let t := modTime t (fun b => { b with swapDue := true })
  modPower (modEngines t (fun y => { y with pllMe := false })) (fun p => { p with entry := some { e with step := 2 } })

/-- SLEEP_COMMIT: all votes agree. DOZE is entered; STIPPLE goes on to A2, after a hot standby has suspended its calendar (R155); an attached debugger has the sleep emulated (R546). -/
def sleepCommit (s : State) : State :=
  match s.power.entry with
  | none => s
  | some e =>
    if e.step = 1 ∧ votesIn s e ∧ e.refused.isEmpty ∧ e.wakeAt ≠ 1 ∧ (newWork s e).isEmpty then
      if s.dbg.sty.st ≠ .detached ∧ ¬ e.past then fallAsleep e true s
      else if e.target = .doze then fallAsleep e false s
      else if s.sluice.commitB.isSome then s
      else if ¬ s.sluice.committed.isEmpty then startCommit .suspend [] (braidNow s) (setEntry (some { e with past := true }) s)
      else commitStipple e s
    else s

/-- SLEEP_COMMIT. -/
def execSleepCommit (s : State) : Host.Outcome State Fault Refusal := .next (sleepCommit s)

/-- Every memory that is ON enters RETENTION (R380). -/
def memsRetain (s : State) : State := forAll (List.range 32) (fun t u => if memPwr t u = .on then setMemPwr u .retention (retentionCount u 4 t) else t) s

/-- Every memory in RETENTION wakes; one that lost its contents says so (R382). -/
def memsWake (s : State) : State := forAll (List.range 32) (fun t u => if memPwr t u = .retention then unitAwake u t else t) s

/-- RETENTION_STEP: step 3 of Table 13.4, past A2. -/
def retentionStep (s : State) : State :=
  match s.power.entry with
  | none => s
  | some e =>
    if e.step = 2 ∧ s.tbase.slowDriven ∧ e.wakeAt ≠ 2 ∧ (newWork s e).isEmpty then memsRetain (setEntry (some { e with step := 3 }) s)
    else s

/-- RETENTION_STEP. -/
def execRetentionStep (s : State) : Host.Outcome State Fault Refusal := .next (retentionStep s)

/-- Every HS lane enters SLACKWATER, whatever its domain (R212). -/
def lanesDown (s : State) : State :=
  forAll hsLanes (fun t l =>
    if (laneOf t l).pwr ≠ .slackwater then laneReached l .slackwater (modPath l (fun p => { p with before := some (laneOf t l).pwr }) t) else t) s

/-- Engine registers are lost; memories are kept (R502). -/
def enginesDown (s : State) : State :=
  forAll (List.range 96) (fun t k => if domOn t (6 + k / 4) then engineOff k t else t) s

/-- STIPPLE_ENTERED: step 4 of Table 13.4, past A3. -/
def stippleEntered (s : State) : State :=
  match s.power.entry with
  | none => s
  | some e => if e.step = 3 ∧ e.wakeAt ≠ 3 ∧ (newWork s e).isEmpty then enginesDown (lanesDown (fallAsleep e false s)) else s

/-- STIPPLE_ENTERED. -/
def execStippleEntered (s : State) : Host.Outcome State Fault Refusal := .next (stippleEntered s)

/-! ## Aborts (R503, R504) -/

/-- TIMEBASE is swapped back to PLL_HW: its value at the last slow edge plus the PLL_HW cycles since (R516). -/
def swapToFast (s : State) : State :=
  if s.tbase.slowDriven then modTime s (fun b => { b with slowDriven := false, swapDue := false, tb := (b.tb + s.slowPhase * 5 / 64 * 65536) % tbWrap })
  else modTime s (fun b => { b with swapDue := false })

/-- Channels leave self-refresh, each after one retraining update (R344). -/
def wakeChannels (s : State) : State := forAll (liveChannels s) (fun t c => if (dchOf t c).pwr = .selfRefresh then leaveSelfRefresh c t else t) s

/-- The PLLs run again; PLL_ME when an ME domain is on (Table 13.7). -/
def pllsOn (s : State) : State :=
  modEngines s (fun y => { y with pllMe := (List.range 24).any (fun q => domOn s (6 + q)), pllMeAt := s.time })

/-- The completed steps are undone in reverse order. -/
def undoEntry (e : Entry) (s : State) : State :=
  let t := if e.step = 3 then memsWake s else s
  let t := if 2 ≤ e.step then pllsOn (wakeChannels (swapToFast t)) else t
  if t.sluice.suspended.isSome then startCommit .resume (t.sluice.suspended.getD []) (braidNow t) t else t

/-- An abort point has been reached with a refusal, new work, or a wake event. -/
def abortDue (s : State) (e : Entry) : Bool :=
  (if e.step = 1 then votesIn s e && !e.past else true) && (!e.refused.isEmpty || e.wakeAt == e.step || !(newWork s e).isEmpty)

/-- Domain and cause of an abort for EV416: a refusal's cause, 3 new work, 4 a wake event. -/
def abortCause (s : State) (e : Entry) : Nat × Nat :=
  let l := e.refused ++ (newWork s e).map (fun d => (d, 3))
  l.foldl (fun a x => if x.1 < a.1 then x else a) (0xFF, 4)

/-- SLEEP_ABORTED. -/
def sleepAborted (s : State) : State :=
  match s.power.entry with
  | none => s
  | some e =>
    if abortDue s e then
      let c := abortCause s e
      let t := setEntry none (undoEntry e s)
      endJob e.job rcBusy [] (raiseEv 416 1 1 (leBytes 1 e.step ++ leBytes 1 c.1 ++ leBytes 1 c.2) t)
    else s

/-- SLEEP_ABORTED. -/
def execSleepAborted (s : State) : Host.Outcome State Fault Refusal := .next (sleepAborted s)

/-! ## Wake (R505, Table 13.6) -/

/-- Column of Table 13.6. -/
def wakes (target : DevState) (w : WakeSource) : Bool :=
  match target, w with
  | .doze, .stipple => false
  | .doze, _ => true
  | .stipple, .stipple => true
  | .stipple, .tamper => true
  | .stipple, .bmc => true
  | .stipple, .timer => true
  | _, _ => false

/-- Entries of the Stipple program that have reached their count. -/
def reached (s : State) : List Nat :=
  match s.power.prog with
  | none => []
  | some g => (List.range g.entries.length).filter (fun i => (g.entries[i]?).any (fun x => decide (x.n ≤ x.count)))

/-- The source is what it claims to be: the timer has run out, an input is low and zeroization done, an entry has reached its count. -/
def wakeTrue (s : State) (w : WakeSource) : Bool :=
  match w with
  | .timer => s.power.wakeAfter != 0 && decide (s.power.sleptAt + s.power.wakeAfter * msCycles ≤ s.time)
  | .tamper => !s.dbg.tamperLow.isEmpty && s.crypto.trigger.isNone
  | .stipple => !(reached s).isEmpty
  | _ => true

/-- A wake event during entry: the abort point it acts at; past A3 it waits for STIPPLE (R503, R504). -/
def wakeInEntry (e : Entry) (w : WakeSource) (s : State) : State :=
  if e.step = 3 then modPower s (fun p => { p with wakeSrc := some (p.wakeSrc.getD w) })
  else setEntry (some { e with wakeAt := if e.wakeAt ≠ 0 then e.wakeAt else if e.step = 2 then 3 else if e.past then 2 else 1 }) s

/-- WAKE_EVENT. -/
def wakeEvent (w : WakeSource) (s : State) : State :=
  match s.power.entry with
  | some e => if wakes e.target w ∧ w ≠ .timer ∧ wakeTrue s w then wakeInEntry e w s else s
  | none =>
    if wakes s.power.dev w ∧ wakeTrue s w then modPower s (fun p => { p with wakeSrc := some (p.wakeSrc.getD w), wakeEntries := if p.wakeSrc = none ∧ w = .stipple then reached s else p.wakeEntries })
    else s

/-- WAKE_EVENT. -/
def execWakeEvent (w : WakeSource) (s : State) : Host.Outcome State Fault Refusal := .next (wakeEvent w s)

/-- Code of a wake source in EV417. -/
def wakeCode (w : WakeSource) : Nat :=
  match w with
  | .bellOrBar0 => 0
  | .event => 1
  | .energyDetect => 2
  | .stipple => 3
  | .tamper => 4
  | .bmc => 5
  | .timer => 6

/-- A Stipple wake on the TWIN_HB_IN edge check of a standby (Table 6.12). -/
def hbWake (s : State) : Bool :=
  s.twin.role == .standbyStipple && decide (s.power.wakeSrc = some .stipple) &&
  (match s.power.prog with
    | none => false
    | some g => s.power.wakeEntries.any (fun i => (g.entries[i]?).any (fun x => x.source == 3)))

/-- The device is awake: EV417 with the cause, the command ends DONE; takeover from STIPPLE. -/
def awake (s : State) : State :=
  let w := s.power.wakeSrc.getD .bmc
  let t := modPower s (fun p => { p with dev := p.prev, sleepJob := none, wakeSrc := none, wakeEntries := [], emulated := false })
  let t := raiseEv 417 1 0 (leBytes 1 (wakeCode w) ++ leBytes 1 0 ++ leBytes 2 0 ++ leBytes 4 (listMask s.power.wakeEntries)) t
  let t := endJob? s.power.sleepJob rcDone [] t
  if hbWake s then takeover 2 t else t

/-- DOZE_EXIT: from DOZE, or from emulated sleep (R507, R546). -/
def dozeExit (s : State) : State :=
  if (s.power.dev = .doze ∨ (s.power.dev = .stipple ∧ s.power.emulated)) ∧ s.power.wakeSrc.isSome then awake s else s

/-- DOZE_EXIT. -/
def execDozeExit (s : State) : Host.Outcome State Fault Refusal := .next (dozeExit s)

/-! ## Exit from STIPPLE (R506, R412, R155, R212) -/

/-- Majority of the three saved copies of a root entry. -/
def savedRoot (s : State) (c : Nat) : Nat :=
  let v := fun k => tget s.crypto.rootsSaved 0 (16 * k + c)
  if v 0 = v 1 ∨ v 0 = v 2 then v 0 else v 1

/-- Root entries restored, EV398 for each copy that disagrees (R412). -/
def restoreRoots (s : State) : State :=
  if domOn s 82 then
    let bad := s.crypto.rootsSaved.filter (fun p => p.2 != savedRoot s (p.1 % 16))
    let t := forAll bad (fun u p => raiseEv 398 1 2 (leBytes 1 (p.1 % 16)) u) s
    modCrypto t (fun y => { y with roots := if y.rootsSaved.isEmpty then [] else (List.range 48).map (fun i => (i, savedRoot s (i % 16))) })
  else s

/-- Boundaries of bound tidelines and empty counter buffers at the channels (R412). -/
def restoreChannels (s : State) : State :=
  let b := (s.crypto.tides.filter (fun t => t.2.st != .unbound)).map (fun t => (t.1, t.2.boundary))
  forAll (List.range 16) (fun t c => modDchX c (fun x => { x with ctrBuf := [], ctrDirty := [], bounds := b.foldl (fun m p => tset m p.1 p.2) x.bounds }) t) s

/-- RST_N of every reach that is not OFF is asserted for 10 µs: it restarts from its initial values (R442, Table 13.7). -/
def reachesRestart (s : State) : State :=
  forAll (List.range 16) (fun t n => if (reachOf t n).st = .off then t else modReach n (fun r => { r with rstHeld := some s.time }) t) s

/-- Lanes begin the way back to the power state they held; at a takeover QUIET becomes ACTIVE (R212, R250). -/
def lanesUpAgain (ready : Bool) (s : State) : State :=
  forAll hsLanes (fun t l =>
    match (pathOf t l).before with
    | none => t
    | some b =>
      let u := modPath l (fun p => { p with before := none }) t
      match b with
      | .active => moveLane l .active u
      | .quiet => moveLane l (if ready then .active else .quiet) u
      | .unset => modLane l (fun y => { y with pwr := .unset }) u
      | .slackwater => u) s

/-- Steps 2 to 6 of Table 13.7: PLLs, memories, TIMEBASE, BRAID_NOW from 0, channels out of self-refresh, root entries and boundaries, reaches in reset. -/
def stippleRestore (s : State) : State :=
  let t := pllsOn (swapToFast (memsWake s))
  let t := wakeChannels (modBraid t (fun b => { b with epoch := s.time }))
  reachesRestart (restoreChannels (restoreRoots t))

/-- Step 7 of Table 13.7. -/
def stippleLeave (s : State) : State := awake (lanesUpAgain (hbWake s) (modPower s (fun p => { p with resuming := false })))

/-- STIPPLE_EXIT_DONE: a suspended calendar is installed again by the sequence of Table 4.5 on the restarted BRAID_NOW, and step 7 comes after it (R155). -/
def stippleExitDone (s : State) : State :=
  if s.power.dev = .stipple ∧ ¬ s.power.emulated ∧ s.power.wakeSrc.isSome then
    if s.power.resuming then (if s.sluice.commitB.isNone then stippleLeave s else s)
    else
      let t := stippleRestore s
      match t.sluice.suspended with
      | none => stippleLeave t
      | some cal => startCommit .resume cal (braidNow t) (modPower t (fun p => { p with resuming := true }))
  else s

/-- STIPPLE_EXIT_DONE. -/
def execStippleExitDone (s : State) : Host.Outcome State Fault Refusal := .next (stippleExitDone s)

/-! ## The Stipple sequencer (R509, R510) -/

/-- One entry after a sample. -/
def stipUpdate (x : StipEntry) (v : Int) : StipEntry :=
  let bad := decide (v < x.low ∨ x.high < v) || (x.violating && !(decide (x.low + x.hyst ≤ v ∧ v ≤ x.high - x.hyst)))
  { x with violating := bad, count := if bad then min (x.count + 1) 255 else 0 }

/-- What an entry samples: ENERGY reads 0 or 1, TWIN_HB the edges since the previous sample. -/
def stipSample (s : State) (x : StipEntry) (v : Int) : Int :=
  if x.source = 2 then (if v = 0 then 0 else 1) else if x.source = 3 then Int.ofNat (min s.twin.edges 255) else v

/-- Readings of sensors and monitors that the samples give. -/
def keepSample (s : State) (x : StipEntry) (v : Int) : State :=
  if x.source = 0 then modPower s (fun p => { p with sensors := tset p.sensors x.index v })
  else if x.source = 1 then modPower s (fun p => { p with supplies := tset p.supplies x.index v.toNat })
  else s

/-- STIPPLE_PERIOD: the samples of the entries in order (R509). -/
def stipplePeriod (samples : List Int) (s : State) : State :=
  match s.power.prog with
  | none => s
  | some g =>
    if s.power.dev = .stipple ∧ s.power.wakeSrc = none ∧ s.power.lastPeriod + msTicks g.periodMs ≤ s.tbase.slowTicks then
      let vs := (List.range g.entries.length).map (fun i => samples.getD i 0)
      let es := (g.entries.zip vs).map (fun p => stipUpdate p.1 (stipSample s p.1 p.2))
      let t := forAll (g.entries.zip vs) (fun u p => keepSample u p.1 p.2) s
      let t := modPower t (fun p => { p with prog := some { g with entries := es }, lastPeriod := p.lastPeriod + msTicks g.periodMs })
      let t := modTwin t (fun w => { w with edges := 0, twinHb := if w.role = .standbyStipple then !w.twinHb else w.twinHb })
      if (reached t).isEmpty then t else modPower t (fun p => { p with wakeSrc := some .stipple, wakeEntries := reached t })
    else s

/-- STIPPLE_PERIOD. -/
def execStipplePeriod (samples : List Int) (s : State) : Host.Outcome State Fault Refusal := .next (stipplePeriod samples s)

/-! ## Detach during emulated sleep (R547) -/

/-- The debugger detaches: emulated DOZE becomes real; emulated STIPPLE makes the real entry from A1. -/
def realSleep (s : State) : State :=
  if ¬ s.power.emulated then s
  else if s.power.dev = .doze then modPower s (fun p => { p with emulated := false })
  else
    let e : Entry := { target := .stipple, agreed := onDomains s, job := s.power.sleepJob.getD 0, since := s.time }
    modTwin (modPower s (fun p => { p with dev := p.prev, emulated := false, sleepJob := none, entry := some e }))
      (fun w => { w with role := if w.role = .standbyStipple then .standbyHot else w.role })

end Sys2Proof.Machine
end

