-- ==== Sys2Proof/Machine/Boot.lean ====
section
/-! DEFINITION. Resets of the device, boot, firmware staging and activation, life-cycle steps (sections 14.1, 14.2, R528 to R531, R578 to R583, R391, R451, R552). -/

namespace Sys2Proof.Machine
open Sys2Proof

/-! ## Firmware images (R529) -/

/-- First failing check of Table 14.4 for an image given by its bytes; 0 when it passes. -/
def fwCheck (s : State) (img : List Byte) : Nat :=
  let n := leAt img 8 4
  let key := leAt img 0x14 1
  if leAt img 0 4 ≠ 0x4E7D0014 ∨ leAt img 4 2 ≠ 1 ∨ leAt img 6 2 ≠ 0 ∨ n < 256 ∨ 49152 < n ∨ leAt img 0x15 43 ≠ 0 then 1
  else if ¬ Config.pubKeyOk key ∨ s.dbg.fuses.revoked.contains key then 2
  else if ¬ Config.sigOk key (img.take (n - 96)) ((img.drop (n - 96)).take 96) then 3
  else if leAt img 0x10 4 < s.dbg.fuses.svn then 4
  else 0

/-- The image that lies at a flash offset: its header, and as many bytes as a valid LENGTH names. -/
def fwImageAt (s : State) (o : Nat) : List Byte :=
  let n := leAt (flashBytes s (o + 8) 4) 0 4
  flashBytes s o (if 256 ≤ n ∧ n ≤ 49152 then n else 256)

/-- Flash offset of firmware image 0 (FW_A) or 1 (FW_B). -/
def fwOffset (s : State) (i : Nat) : Option Nat := dirField s (8 + 4 * i)

/-- Failing check of a firmware image of the directory; none when it is absent. -/
def fwTry (s : State) (i : Nat) : Option Nat := (fwOffset s i).map (fun o => fwCheck s (fwImageAt s o))

/-! ## FIRMWARE_LOAD (R450, R529 to R531) -/

/-- How the boot ROM reads the flash: single-wire by strap, or because discovery in octal DTR has failed (EV404). -/
def flashMode (octal : Bool) (s : State) : State :=
  let strap := decide (s.dbg.boot.bootMode = 2 ∨ s.dbg.boot.bootMode = 3)
  let t := modBoot s (fun b => { b with singleWire := strap || !octal, secondDir := (dirCopy s 0).isNone && (dirCopy s 0x10000).isSome })
  if ¬ strap ∧ ¬ octal then raiseEv 404 1 1 [] t else t

/-- Try images in order: EV446 for each that fails; the one that passes runs; none: recovery (R529, R531). -/
def bootTry (l : List Nat) (s : State) : State :=
  match l with
  | [] => raiseEv 446 2 3 [] (modFerry (modBoot s (fun b => { b with fwImage := 0xFF })) (fun f => { f with recovery := true }))
  | i :: r =>
    match fwTry s i, fwOffset s i with
    | some 0, some o => modBoot s (fun b => { b with fwImage := i, fwVersion := leAt (fwImageAt s o) 0x0C 4, fwSvn := leAt (fwImageAt s o) 0x10 4, loaded := true })
    | some k, _ => bootTry r (raiseEv 446 1 1 (leBytes 1 i ++ leBytes 1 k) (modBoot s (fun b => if i = 0 then { b with failA := k } else { b with failB := k })))
    | none, _ => bootTry r s

/-- Images in the order they are tried: after a failed activation the one that ran before comes first, for this reset only (R582). -/
def bootOrder (b : Boot) : List Nat :=
  match b.fallback with
  | some i => i :: ldel [0, 1] i
  | none => [0, 1]

/-- FIRMWARE_LOAD. -/
def firmwareLoad (octal : Bool) (s : State) : State :=
  if s.ferry.resetting ∧ ¬ s.ferry.recovery ∧ ¬ s.dbg.boot.loaded ∧ ¬ s.dbg.inReset ∧ domOn s 1 then
    let order := bootOrder s.dbg.boot
    bootTry order (modBoot (flashMode octal s) (fun b => { b with failA := 0, failB := 0, fallback := none, dirDue := false, nextSvn := none }))
  else s

/-- FIRMWARE_LOAD. -/
def execFirmwareLoad (octal : Bool) (s : State) : Host.Outcome State Fault Refusal := .next (firmwareLoad octal s)

/-! ## Device resets (R525 to R528) -/

/-- A state in which the device has been reset and RST_STY_N is still low: every memory passes INIT (R382); what the model itself counts goes on. -/
def blankReset (s : State) : State :=
  let f := s.dbg.fuses
  { pending := s.pending, time := s.time, hwPhase := s.hwPhase, slowPhase := s.slowPhase, freeCtr := s.freeCtr,
    braid := { epoch := s.time, nextPid := s.braid.nextPid }, twin := { lastEdge := s.time },
    mems := { pwr := (List.range 8).map (fun g => (g, MemPwr.init)) },
    power := { railsOut := s.power.railsOut },
    dbg := { fuses := f, boot := { flash := s.dbg.boot.flash }, tamperLow := s.dbg.tamperLow, inReset := true } }

/-- LAST_FATAL: FIRST_EV of the fatal summary, with bit 15 when it is valid (R527). -/
def lastFatalOf (s : State) : Nat := s.events.firstEv % 512 + (if s.events.groups.isEmpty then 0 else 0x8000)

/-- A device reset begins (Table 14.1): every domain but AON is cleared; `kind` is 1 for RST_STY_N, 2 for RESET_DEVICE. -/
def deviceReset (kind : Nat) (s : State) : State :=
  let b := swapToFast s
  let t := blankReset s
  let y := s.dbg.sty
  let t := { t with
    tbase := { b.tbase with wdts := [], trimJob := none },
    power := { t.power with sensors := s.power.sensors, supplies := s.power.supplies, raisedHigh := s.power.raisedHigh, raisedCrit := s.power.raisedCrit },
    crypto := { t.crypto with trigger := s.crypto.trigger } }
  let t := modBoot t (fun x => { x with lastFatal := lastFatalOf s, lastReset := kind })
  let t := modSty t (fun _ => { refusedUntil := y.refusedUntil, glitch := y.glitch, fails := if y.st = .lockedOut then 0 else y.fails })
  let t := forAll (s.dbg.proof.map (fun p => p.1)) (fun u k => raiseEv 492 2 0 (leBytes 1 1 ++ leBytes 1 k) u) t
  raiseEv 441 (hwCause .device) 1 [] t

/-- DEVICE_RESET: RST_STY_N has been low for 20 µs. -/
def execDeviceReset (s : State) : Host.Outcome State Fault Refusal := .next (deviceReset 1 s)

/-- POWER_ON_RESET: VCC_AON has risen into its limits; all but fuses and flash is cleared, the crystal watch begins (R19, R525). -/
def powerOnReset (s : State) : State :=
  let t := blankReset s
  { t with power := { t.power with railsOut := ldel s.power.railsOut .aon }, tbase := { watchFrom := s.time } }

/-- POWER_ON_RESET. -/
def execPowerOnReset (s : State) : Host.Outcome State Fault Refusal := .next (powerOnReset s)

/-- RESET_RELEASE: RST_STY_N rises; BOOT_MODE, SLOT_ID and VME_PG are sampled (R230, R528, R622). -/
def resetRelease (bootMode slotId : Nat) (vmePg : Bool) (s : State) : State :=
  if s.dbg.inReset then
    let m := bootMode % 8
    let t := modDebug s (fun d => { d with inReset := false, boot := { d.boot with bootMode := m, slotId := slotId % 64, vmePg := vmePg, singleWire := m == 2 || m == 3 } })
    let t := modDelta (modBraid t (fun b => { b with epoch := s.time })) (fun d => { d with deviceId := slotId % 64 })
    if 4 ≤ m then raiseEv 446 3 1 [] t else t
  else s

/-- RESET_RELEASE. -/
def execResetRelease (bootMode slotId : Nat) (vmePg : Bool) (s : State) : Host.Outcome State Fault Refusal := .next (resetRelease bootMode slotId vmePg s)

/-! ## The flash directory and its areas (R451, R581) -/

/-- Write bytes into flash. -/
def flashWrite (o : Nat) (l : List Byte) (s : State) : State :=
  modBoot s (fun b => { b with flash := l.zipIdx.foldl (fun f (x, i) => tset f (o + i) x) b.flash })

/-- A directory with a new CRC. -/
def dirSealed (d : List Byte) : List Byte := d.take 0x3C ++ leBytes 4 (crc32 (d.take 0x3C))

/-- Both copies are rewritten, the one at 0x0001_0000 first (R581). -/
def writeDirectory (d : List Byte) (s : State) : State := flashWrite 0 (dirSealed d) (flashWrite 0x10000 (dirSealed d) s)

/-- Named offsets of the directory in force. -/
def namedOffsets (s : State) : List Nat := [0x08, 0x0C, 0x10, 0x14].filterMap (dirField s)

/-- End of the flash: the model's flash has 32-bit offsets. -/
def flashEnd : Nat := 2 ^ 32

/-- End of the area that begins at an offset: the next higher named offset, or the end of the flash (R581). -/
def areaEnd (s : State) (o : Nat) : Nat := ((namedOffsets s).filter (fun x => decide (o < x))).foldl min flashEnd

/-- The range meets a protected flash area (R581). -/
def meetsProtected (s : State) (o n : Nat) : Bool := decide (o < 0x20000) || (namedOffsets s).any (fun a => overlaps o n a (areaEnd s a - a))

/-! ## SYS_FW_STAGE (R552, R580, R581) -/

/-- Area that an image of a kind is written to: its offset and end; none when the directory names none. -/
def stageArea (s : State) (kind off len : Nat) : Option (Nat × Nat) :=
  let named := fun (f : Nat) => (dirField s f).map (fun o => (o, areaEnd s o))
  match kind with
  | 0 =>
    if s.ferry.recovery then (if (directory s).isNone then some (0x20000, flashEnd) else named 0x08)
    else named (if s.dbg.boot.fwImage = 0 then 0x0C else 0x08)
  | 1 => named (if leAt ((directory s).getD []) 6 1 = 0 then 0x14 else 0x10)
  | _ => some (off, off + len)

/-- A reach has recorded an image that lies in a flash range (R580). -/
def recordedIn (s : State) (o e : Nat) : Bool := s.fabric.reaches.any (fun r => r.2.recorded.any (fun p => p.1 == 1 && decide (o ≤ p.2 ∧ p.2 < e)))

/-- A field of SYS_FW_STAGE is out of range (Table 16.6). -/
def stageArgsBad (v : Serving) (s : State) : Bool :=
  let k := pay v 0 1
  let o := pay v 4 4
  let a := pay v 8 8
  let n := pay v 16 4
  decide (2 < k) || decide (1 < pay v 1 1) || (k != 1 && pay v 1 1 != 0) || !(payZero v 2 4) || (if k = 2 then o % 4096 != 0 else o != 0) ||
  !(decide ((basinBase ≤ a ∧ a + n ≤ basinBase + 0x4000000) ∨ (dramBase ≤ a ∧ a + n ≤ dramEnd))) ||
  (if k = 0 then decide (n < 256 ∨ 49152 < n) else n == 0) || (k == 2 && (decide (flashEnd < o + n) || meetsProtected s o n))

/-- SYS_FW_STAGE. -/
def sysFwStageBody (v : Serving) (s : State) : Reply × State :=
  let k := pay v 0 1
  let n := pay v 16 4
  if stageArgsBad v s then (rc rcBadArg, s)
  else if s.ferry.recovery ∧ k ≠ 0 then (rc rcBadState, s)
  else if initialBusy s ∨ flashLoading s ∨ flashHeld s then (rc rcBusy, s)
  else
    match stageArea s k (pay v 4 4) n with
    | none => (rc rcNoResource, s)
    | some (o, e) =>
      if k ≠ 0 ∧ recordedIn s o e then (rc rcConflict, s)
      else if e < o + n then (rc rcNoResource, s)
      else
        match hwRead s (pay v 8 8) n with
        | none => (failedRead, s)
        | some img =>
          let (j, t) := startJob v 0xFFFF s
          (rc rcAccepted, modBoot t (fun b => { b with staging := some (k, pay v 1 1 == 1, o, img, j), stageState := if k = 0 then 1 else b.stageState }))

/-- SYS_FW_STAGE. -/
def sysFwStage (s : State) : State := ferryServe 0x0102 20 noTarget sysFwStageBody s

/-- SYS_FW_STAGE. -/
def execSysFwStage (s : State) : Host.Outcome State Fault Refusal := .next (sysFwStage s)

/-- A staged firmware image has been written: Table 14.4; in recovery it is named and booted (R581). -/
def stagedFirmware (o j : Nat) (img : List Byte) (s : State) : State :=
  let k := fwCheck s img
  let t := modBoot s (fun b => { b with stageState := if k = 0 then 2 else 3 })
  if k ≠ 0 then endJob j rcFailedCheck (leBytes 1 k) t
  else if s.ferry.recovery then
    let d := leBytes 4 0xF1A50011 ++ leBytes 2 1 ++ [0, 0] ++ leBytes 4 o ++ List.replicate 12 0xFF ++ List.replicate 36 0
    let t := if (directory s).isNone then writeDirectory d t else t
    modFerry (endJob j rcDone [] t) (fun f => { f with recovery := false })
  else endJob j rcDone [] t

/-- A staged fabric image has been written: its header; with PREFER the directory then names it first (R580, R581). -/
def stagedFabric (o j : Nat) (prefer : Bool) (img : List Byte) (s : State) : State :=
  if ¬ headerOk true (img.take 96) then endJob j rcFailedCheck (leBytes 1 9) s
  else
    let d := (directory s).getD []
    let isB := dirField s 0x14 == some o
    endJob j rcDone [] (if prefer then writeDirectory (d.take 6 ++ leBytes 1 (b2n isB) ++ d.drop 7) s else s)

/-- FLASH_STAGING_DONE: the flash is programmed and read back; `completed` is false when a program or erase did not end, which leaves the area with contents the manual does not give (R580). -/
def flashStagingDone (completed : Bool) (s : State) : State :=
  match s.dbg.boot.staging with
  | none => s
  | some (k, prefer, o, img, j) =>
    let t := modBoot s (fun b => { b with staging := none })
    nextReload (if completed then
        (let u := flashWrite o img t
         match k with
         | 0 => stagedFirmware o j img u
         | 1 => stagedFabric o j prefer img u
         | _ => endJob j rcDone [] u)
      else
        (let (l, u) := freshBytes img.length t
         endJob j rcTimeout [] (modBoot (flashWrite o l u) (fun b => { b with stageState := if k = 0 then 3 else b.stageState }))))

/-- FLASH_STAGING_DONE. -/
def execFlashStagingDone (completed : Bool) (s : State) : Host.Outcome State Fault Refusal := .next (flashStagingDone completed s)

/-! ## SYS_FW_ACTIVATE and the switch (R53, R582) -/

/-- The firmware image that does not run: the staged one. -/
def stagedImage (s : State) : Nat := if s.dbg.boot.fwImage = 0 then 1 else 0

/-- SYS_FW_ACTIVATE. -/
def sysFwActivateBody (v : Serving) (s : State) : Reply × State :=
  let c := pay v 0 1
  if 1 < c then (rc rcBadArg, s)
  else if s.dbg.boot.stageState ≠ 2 ∨ (c = 1 ∧ s.power.railsOut.contains .fuse) then (rc rcBadState, s)
  else if initialBusy s ∨ flashLoading s ∨ flashHeld s then (rc rcBusy, s)
  else
    match fwTry s (stagedImage s) with
    | some 0 => (rc rcDone, modFerry s (fun f => { f with switchPending := true, commitSvn := c == 1 }))
    | some k => (failedAt 0 k, s)
    | none => (failedAt 0 1, s)

/-- SYS_FW_ACTIVATE. -/
def sysFwActivate (s : State) : State := ferryServe 0x0103 1 noTarget sysFwActivateBody s

/-- SYS_FW_ACTIVATE. -/
def execSysFwActivate (s : State) : Host.Outcome State Fault Refusal := .next (sysFwActivate s)

/-- The new firmware raises the fuse SVN counter (R582). -/
def commitSvn (s : State) : State :=
  match s.dbg.boot.nextSvn with
  | none => s
  | some v => modDebug s (fun d => { d with fuses := { d.fuses with svn := max d.fuses.svn v }, boot := { d.boot with nextSvn := none } })

/-- FIRMWARE_SWITCH: no channel is TAKEN; the activated image runs, EV443 (R53). An image in the FW_B area becomes FW_A by a directory rewrite. -/
def firmwareSwitch (s : State) : State :=
  if s.ferry.switchPending ∧ s.ferry.serving.isNone then
    let i := stagedImage s
    let img := fwImageAt s ((fwOffset s i).getD 0)
    let t := modFerry s (fun f => { f with switchPending := false, commitSvn := false })
    let t := modBoot t (fun b =>
      { b with fwImage := i, fwVersion := leAt img 0x0C 4, fwSvn := leAt img 0x10 4, stageState := 0, dirDue := i == 1, nextSvn := if s.ferry.commitSvn then some (leAt img 0x10 4) else none })
    let t := raiseEv 443 1 0 [] t
    if i = 1 then t else commitSvn t
  else s

/-- FIRMWARE_SWITCH. -/
def execFirmwareSwitch (s : State) : Host.Outcome State Fault Refusal := .next (firmwareSwitch s)

/-- DIRECTORY_REWRITE: it starts when the xSPI port is free (R552, R582). -/
def directoryRewrite (s : State) : State :=
  if s.dbg.boot.dirDue ∧ ¬ (initialBusy s ∨ flashLoading s ∨ flashHeld s) then modBoot s (fun b => { b with dirDue := false, dirRewrite := true }) else s

/-- DIRECTORY_REWRITE. -/
def execDirectoryRewrite (s : State) : Host.Outcome State Fault Refusal := .next (directoryRewrite s)

/-- DIRECTORY_REWRITE_DONE: FW_A and FW_B have changed places in both copies, the port is free. -/
def directoryRewriteDone (s : State) : State :=
  if s.dbg.boot.dirRewrite then
    let d := (directory s).getD []
    let t := writeDirectory (d.take 8 ++ (d.drop 12).take 4 ++ (d.drop 8).take 4 ++ d.drop 16) s
    nextReload (commitSvn (modBoot t (fun b => { b with dirRewrite := false, fwImage := if b.fwImage < 2 then 1 - b.fwImage else b.fwImage })))
  else s

/-- DIRECTORY_REWRITE_DONE. -/
def execDirectoryRewriteDone (s : State) : Host.Outcome State Fault Refusal := .next (directoryRewriteDone s)

/-! ## SYS_LIFECYCLE (R391, R583) -/

/-- The life-cycle state of a code. -/
def lifeOf (n : Nat) : Life :=
  match n with
  | 0 => .blank
  | 1 => .provisioned
  | 2 => .secured
  | _ => .retired

/-- SYS_LIFECYCLE. -/
def sysLifecycleBody (v : Serving) (s : State) : Reply × State :=
  let n := pay v 0 1
  if ¬ payZero v 1 4 ∨ 3 < n ∨ n ≠ lifeCode s.dbg.fuses.life + 1 ∨ pay v 4 4 ≠ 0x5AFE0000 + n then (rc rcBadArg, s)
  else if s.power.railsOut.contains .fuse then (rc rcBadState, s)
  else if s.dbg.boot.fuseJob.isSome then (rc rcBusy, s)
  else
    let (j, t) := startJob v 0xFFFF s
    (rc rcAccepted, modBoot t (fun b => { b with fuseJob := some (n, j) }))

/-- SYS_LIFECYCLE. -/
def sysLifecycle (s : State) : State := ferryServe 0x0104 8 noTarget sysLifecycleBody s

/-- SYS_LIFECYCLE. -/
def execSysLifecycle (s : State) : Host.Outcome State Fault Refusal := .next (sysLifecycle s)

/-- The debugger is detached: sender reset of channel 101, in SECURED every Proof selection ends, EV490; emulated sleep becomes real (R536, R547, R550). -/
def detachDebugger (s : State) : State :=
  if s.dbg.sty.st = .attached ∨ s.dbg.sty.st = .authorized then
    let gone := match s.dbg.sty.outstanding with
      | some (g, _, _) => [g]
      | none => []
    let t := modSty s (fun y => { y with st := .detached, nonce := none, outstanding := none, last := none, symbols := [], respBits := [], sentBit := none })
    let t := modEngines t (fun e => { e with dead := e.dead ++ gone.filter (fun g => t.braid.groups.any (fun x => x.gid == g)) })
    let t := modBraid t (fun b => { b with completions := b.completions.filter (fun c => !(gone.contains c.gid)) })
    let t := senderResetChan 101 t
    let t := if s.dbg.fuses.life = .secured then clearProof [0, 1] 4 t else t
    realSleep (raiseEv 490 2 0 [] t)
  else s

/-- FUSE_PROGRAMMING_DONE: the new state takes effect with zeroization, Stylus detach and the end of Proof (R387, R536, R550, R583). -/
def fuseProgrammingDone (verified : Bool) (s : State) : State :=
  match s.dbg.boot.fuseJob with
  | none => s
  | some (n, j) =>
    let t := modBoot s (fun b => { b with fuseJob := none })
    if verified then
      let t := detachDebugger t
      let t := modDebug t (fun d => { d with fuses := { d.fuses with life := lifeOf n } })
      endJob j rcDone [] (clearProof [0, 1] 2 (trip 3 t))
    else endJob j rcFailedCheck [] t

/-- FUSE_PROGRAMMING_DONE. -/
def execFuseProgrammingDone (verified : Bool) (s : State) : Host.Outcome State Fault Refusal := .next (fuseProgrammingDone verified s)

end Sys2Proof.Machine
end

