-- ==== Sys2Proof/Machine/Stylus.lean ====
section
/-! DEFINITION. The Stylus line and its commands (sections 14.3 to 14.7, R532 to R547). -/

namespace Sys2Proof.Machine
open Sys2Proof

/-! ## The line (R532, R533, R536) -/

/-- A symbol of a request arrives; what is left of an earlier response is not sent any more. -/
def takeSymbol (b : Bool) (s : State) : State :=
  modSty s (fun y => { y with symbols := (y.symbols ++ [b]).drop (y.symbols.length + 1 - 1024), lastSymbol := s.time, respBits := [], sentBit := none })

/-- A response window: the device answers the next bit of its response, a 1 by holding the line low, a 0 by leaving it alone (R534). -/
def responseWindow (s : State) : State :=
  match s.dbg.sty.respBits with
  | [] => s
  | b :: r => modSty s (fun y => { y with respBits := r, sentBit := some (b, s.time) })

/-- The last 64 symbols alternate 1, 0, 1, 0 and so on. -/
def attachPattern (l : List Bool) : Bool :=
  decide (64 ≤ l.length) && (l.drop (l.length - 64) == (List.range 64).map (fun i => i % 2 == 0))

/-- ATTACH: the pattern and one response window; the device answers 1. BLANK and RETIRED parts are AUTHORIZED at once (Table 14.7). -/
def attach (s : State) : State :=
  if s.dbg.sty.st = .detached ∧ attachPattern s.dbg.sty.symbols then
    let free := decide (s.dbg.fuses.life = .blank ∨ s.dbg.fuses.life = .retired)
    raiseEv 490 1 0 [] (modSty s (fun y => { y with st := if free then .authorized else .attached, symbols := [], ferry := false, respBits := [], sentBit := some (true, s.time) }))
  else s

/-- A low pulse of 0.2 to 0.6 µs: one of up to 0.4 µs opens a response window while a response is being sent (R534) or behind the attach pattern (Table 14.7); else it is symbol 0. -/
def shortPulse (w : Nat) (s : State) : State :=
  if w ≤ 400 ∧ s.dbg.sty.respBits ≠ [] then responseWindow s
  else if w ≤ 400 ∧ s.dbg.sty.st = .detached ∧ attachPattern s.dbg.sty.symbols then attach s
  else takeSymbol false s

/-- A pulse that is ignored: counted in STY_GLITCH, EV491 at most once per 1 ms with the count. -/
def styGlitch (s : State) : State :=
  let t := modSty s (fun y => { y with glitch := y.glitch + 1 })
  raiseLimitedAt none 49100 msCycles 491 1 1 (leBytes 4 t.dbg.sty.glitch) t

/-- RST_STY_N_PULSE: a low pulse of a width in ns (Table 14.6). A width the table calls not specified has no effect that the manual gives: the block stops. -/
def execRstStyNPulse (w : Nat) (s : State) : Host.Outcome State Fault Refusal :=
  if 20000 ≤ w then .next (deviceReset 1 s)
  else if 200 ≤ w ∧ w ≤ 600 then .next (shortPulse w s)
  else if 1000 ≤ w ∧ w ≤ 2000 then .next (takeSymbol true s)
  else if 2000 < w ∧ w ≤ 19000 then .next (styGlitch s)
  else .fault .pulseNotSpecified

/-- ATTACH. -/
def execAttach (s : State) : Host.Outcome State Fault Refusal := .next (attach s)

/-- STYLUS_FRAME_TIMEOUT: 10 µs without a symbol in mid-frame (R533). -/
def stylusFrameTimeout (s : State) : State :=
  if ¬ s.dbg.sty.symbols.isEmpty ∧ s.dbg.sty.lastSymbol + 10 * usCycles ≤ s.time then modSty s (fun y => { y with symbols := [] }) else s

/-- STYLUS_FRAME_TIMEOUT. -/
def execStylusFrameTimeout (s : State) : Host.Outcome State Fault Refusal := .next (stylusFrameTimeout s)

/-! ## Frames and responses (R538, Tables 14.8, 14.9) -/

/-- Symbols of bytes, each most significant bit first. -/
def frameSymbols (l : List Byte) : List Bool := l.flatMap (fun b => (List.range 8).map (fun i => bit b.toNat (7 - i)))

/-- A request frame: CMD, payload, CRC-8. -/
def requestFrame (cmd : Nat) (payload : List Byte) : List Byte :=
  let l := leBytes 1 cmd ++ payload
  l ++ leBytes 1 (crc8 l)

/-- The symbols received, where a whole frame of them is there, are those of the frame. -/
def frameOk (s : State) (cmd : Nat) (payload : List Byte) : Bool :=
  let f := frameSymbols (requestFrame cmd payload)
  s.dbg.sty.symbols.length != f.length || s.dbg.sty.symbols == f

/-- Life-cycle states in which commands need authorization (R537). -/
def lifeGuards (s : State) : Bool := s.dbg.fuses.life == .provisioned || s.dbg.fuses.life == .secured

/-- The STATUS a command gets before it is looked at: CRC, LOCKED_OUT, NOT_AUTH, ASLEEP (Table 14.9, R537, R540). -/
def styRefusal (s : State) (cmd : Nat) (payload : List Byte) : Option Nat :=
  if ¬ frameOk s cmd payload then some 3
  else if s.dbg.sty.st = .lockedOut then some 7
  else if s.dbg.sty.st ≠ .authorized ∧ lifeGuards s ∧ 4 < cmd then some 2
  else if (s.power.dev = .doze ∨ s.power.dev = .stipple) ∧ cmd ≠ 1 ∧ cmd ≠ 4 then some 4
  else none

/-- The response a command gives: FERRY bit and STATUS, data of the command's length, 0 where STATUS is not OK; BUS keeps the Braid STATUS byte (R538, R566, log entry 99). -/
def styFrame (ferry : Bool) (n : Nat) (r : StyResp) : StyResp :=
  { status := r.status + 128 * b2n ferry, data := padTo n (if r.status = 0 ∨ r.status = 6 then r.data else []) }

/-- The bytes of a response: STATUS, data, CRC-8 over both (R538). -/
def respFrame (r : StyResp) : List Byte := requestFrame r.status r.data

/-- Give the response: its bits are sent in the response windows that follow (R534). -/
def styRespond (ferry : Bool) (n : Nat) (r : StyResp) (s : State) : State :=
  modSty s (fun y => { y with resp := styFrame ferry n r, symbols := [], ferry := false, respBits := frameSymbols (respFrame (styFrame ferry n r)), sentBit := none })

/-- A command of an attached debugger: `n` data bytes in its response. -/
def stylusServe (cmd : Nat) (payload : List Byte) (n : Nat) (body : State → StyResp × State) (s : State) : State :=
  if s.dbg.sty.st = .detached then s
  else
    match styRefusal s cmd payload with
    | some k => styRespond s.dbg.sty.ferry n { status := k } s
    | none => let (r, t) := body s; styRespond s.dbg.sty.ferry n r t

/-- OK with data. -/
def styOk (l : List Byte) : StyResp := { status := 0, data := l }

/-! ## IDCODE, authentication, DETACH (R536 to R538) -/

/-- The 8-byte IDCODE result. -/
def idcodeBytes (s : State) : List Byte :=
  leBytes 2 0x9616 ++ leBytes 1 0xB0 ++ leBytes 1 (bits (devStatus s) 9 5) ++ leBytes 2 s.delta.deviceId ++ leBytes 2 0

/-- IDCODE. -/
def idcode (s : State) : State := stylusServe 1 [] 8 (fun t => (styOk (idcodeBytes t), t)) s

/-- IDCODE. -/
def execIdcode (s : State) : Host.Outcome State Fault Refusal := .next (idcode s)

/-- CHALLENGE: a nonce for one RESPOND; refused for 1 s after a wrong tag. -/
def challenge (record : Nat) (nonce : BitVec 256) (s : State) : State :=
  stylusServe 2 (leBytes 1 record) 32 (fun t =>
    if t.time < t.dbg.sty.refusedUntil then ({ status := 2 }, t)
    else (styOk (leBytes 32 nonce.toNat), modSty t (fun y => { y with nonce := some (nonce, record % 256) }))) s

/-- CHALLENGE. -/
def execChallenge (record : Nat) (nonce : BitVec 256) (s : State) : Host.Outcome State Fault Refusal := .next (challenge record nonce s)

/-- The correct tag for a nonce and a record (R537). -/
def correctTag (s : State) (nonce : BitVec 256) (record : Nat) : List Byte :=
  (Config.cmac (Config.authKey record) (leBytes 32 nonce.toNat ++ idcodeBytes s ++ leBytes 1 record)).take 16

/-- A wrong tag: the eighth in a row locks the debugger out. -/
def wrongTag (s : State) : State :=
  if 8 ≤ s.dbg.sty.fails + 1 then raiseEv 490 4 2 [] (modSty s (fun y => { y with st := .lockedOut, fails := y.fails + 1 }))
  else raiseEv 490 3 1 [] (modSty s (fun y => { y with fails := y.fails + 1, refusedUntil := s.time + 1000 * msCycles }))

/-- RESPOND. -/
def respondBody (tag : List Byte) (s : State) : StyResp × State :=
  let t := modSty s (fun y => { y with nonce := none })
  let ok := match s.dbg.sty.nonce with
    | some (n, r) => decide (padTo 16 tag = correctTag s n r)
    | none => false
  if s.dbg.sty.st ≠ .attached then ({ status := if ok then 0 else 2 }, t)
  else if ok then (styOk [], modSty t (fun y => { y with st := .authorized, fails := 0 }))
  else ({ status := 2 }, wrongTag t)

/-- RESPOND. -/
def respondTag (tag : List Byte) (s : State) : State := stylusServe 3 (padTo 16 tag) 0 (respondBody tag) s

/-- RESPOND. -/
def execRespond (tag : List Byte) (s : State) : Host.Outcome State Fault Refusal := .next (respondTag tag s)

/-- DETACH. -/
def detach (s : State) : State := stylusServe 4 [] 0 (fun t => (styOk [], detachDebugger t)) s

/-- DETACH. -/
def execDetach (s : State) : Host.Outcome State Fault Refusal := .next (detach s)

/-! ## READ, WRITE, RESULT (R539) -/

/-- What a completion gives the debugger: OK with Braid STATUS, WAIT and data, or BUS. -/
def busResp (size : Nat) (wr : Bool) (c : Completion) : StyResp :=
  if c.status = .ok then styOk (leBytes 1 0 ++ leBytes 2 (min c.wait 0xFFFF) ++ (if wr then [] else padTo size c.data)) else { status := 6, data := padTo (if wr then 3 else 3 + size) (leBytes 1 (statusCode c.status)) }

/-- Collect the completion of the access outstanding: BUSY while it has not come. -/
def collect (s : State) : StyResp × State :=
  match s.dbg.sty.outstanding with
  | none => (s.dbg.sty.last.getD { status := 5 }, s)
  | some (gid, size, wr) =>
    match takeCompletion gid s with
    | none => ({ status := 1 }, s)
    | some (c, t) => (busResp size wr c, modSty t (fun y => { y with outstanding := none, last := some (busResp size wr c) }))

/-- Data bytes of the response of a RESULT: those of the last READ or WRITE. -/
def resultLen (s : State) : Nat :=
  match s.dbg.sty.outstanding, s.dbg.sty.last with
  | some (_, n, wr), _ => if wr then 3 else 3 + n
  | none, some r => r.data.length
  | none, none => 0

/-- RESULT. -/
def result (s : State) : State := stylusServe 5 [] (resultLen s) collect s

/-- RESULT. -/
def execResult (s : State) : Host.Outcome State Fault Refusal := .next (result s)

/-- Present a debugger's access at NI 0x06; one is outstanding at a time. -/
def styAccess (op : Op) (a size : Nat) (data : List Byte) (s : State) : StyResp × State :=
  if size ≠ 4 ∧ size ≠ 8 ∧ size ≠ 64 then ({ status := 5 }, s)
  else
    let t := (collect s).2
    if t.dbg.sty.outstanding.isSome then ({ status := 1 }, t)
    else
      let (addr, far, dev) := sysAddr a
      let (gid, u) := presentReq 0x06 0 { op := op, far := far, farDev := dev, farEp := farEpOf t addr, addr := addr, len := size, data := data, debug := true } t
      collect (modSty u (fun y => { y with outstanding := some (gid, size, op == .wr) }))

/-- STYLUS_READ. -/
def stylusRead (a size : Nat) (s : State) : State := stylusServe 0x10 (leBytes 8 a ++ leBytes 1 size) (3 + size) (styAccess .rd a size []) s

/-- STYLUS_READ. -/
def execStylusRead (a size : Nat) (s : State) : Host.Outcome State Fault Refusal := .next (stylusRead a size s)

/-- STYLUS_WRITE. -/
def stylusWrite (a size : Nat) (data : List Byte) (s : State) : State :=
  stylusServe 0x11 (leBytes 8 a ++ leBytes 1 size ++ padTo size data) 3 (styAccess .wr a size (padTo size data)) s

/-- STYLUS_WRITE. -/
def execStylusWrite (a size : Nat) (data : List Byte) (s : State) : Host.Outcome State Fault Refusal := .next (stylusWrite a size data s)

/-! ## Engines (R540 to R545) -/

/-- ENG_STAT of an engine, 4 bytes. -/
def engStatBytes (s : State) (k : Nat) : List Byte := leBytes 4 (quadWord s (k / 4) (0x1004 + 0x100 * (k % 4)))

/-- A command on engine k that exists and has power; else BAD_CMD, or BUS for an engine whose domain is off. -/
def onEngine (k : Nat) (body : State → StyResp × State) (s : State) : StyResp × State :=
  if 96 ≤ k then ({ status := 5 }, s) else if domOn s (6 + k / 4) then body s else ({ status := 6 }, s)

/-- HALT: asked for; it takes effect at the next clean boundary (R541). -/
def stylusHalt (k : Nat) (s : State) : State :=
  stylusServe 0x20 (leBytes 1 k) 4 (onEngine k (fun t =>
    let u := modEng k (fun e => { e with haltReq := e.st != .debug }) t
    (styOk (engStatBytes u k), u))) s

/-- STYLUS_HALT. -/
def execStylusHalt (k : Nat) (s : State) : Host.Outcome State Fault Refusal := .next (stylusHalt k s)

/-- A halted engine goes on; `stepping` halts it again at the next clean boundary. Its lock timers and its mover channel resume (Table 14.10). -/
def resumeEngine (k : Nat) (stepping : Bool) (s : State) : State :=
  quadGo (k / 4) (resumeLocks (ownerOf k) (modEng k (fun e => { e with st := .running, haltReq := false, stepping := stepping, mover := { e.mover with paused := false } }) s))

/-- RUN and STEP of a halted engine, else NOT_HALTED. -/
def goOn (k : Nat) (stepping : Bool) (s : State) : StyResp × State :=
  if (engOf s k).st = .debug then
    let u := resumeEngine k stepping s
    (styOk (engStatBytes u k), u)
  else ({ status := 8 }, s)

/-- RUN: the engine resumes at PC (R543). -/
def stylusRun (k : Nat) (s : State) : State := stylusServe 0x21 (leBytes 1 k) 4 (onEngine k (goOn k false)) s

/-- STYLUS_RUN. -/
def execStylusRun (k : Nat) (s : State) : Host.Outcome State Fault Refusal := .next (stylusRun k s)

/-- STEP (R543). -/
def stylusStep (k : Nat) (s : State) : State := stylusServe 0x22 (leBytes 1 k) 4 (onEngine k (goOn k true)) s

/-- STYLUS_STEP. -/
def execStylusStep (k : Nat) (s : State) : Host.Outcome State Fault Refusal := .next (stylusStep k s)

/-- ENG_RESET (R544). -/
def engReset (k : Nat) (s : State) : State :=
  stylusServe 0x23 (leBytes 1 k) 4 (onEngine k (fun t => let u := resetEngine k t; (styOk (engStatBytes u k), u))) s

/-- ENG_RESET. -/
def execEngReset (k : Nat) (s : State) : Host.Outcome State Fault Refusal := .next (engReset k s)

/-- Registers of an engine may be read and written (R540). -/
def regsOpen (e : Engine) : Bool := e.st == .reset || e.st == .stopped || e.st == .halted || e.st == .debug

/-- CLASS and INDEX name a register (Tables 7.1, 14.8). -/
def regNamed (cls index : Nat) : Bool :=
  match cls with
  | 0 => decide (index < 32)
  | 1 => decide (index < 16)
  | 2 => decide (index < 32)
  | 3 => decide (index < 32)
  | 4 => decide (index < 27)
  | _ => false

/-- A register as REGRD returns it, sign-extended to 64 bits; CYC_HI comes from the debug latch (R545). -/
def regValue (k : Nat) (e : Engine) (cls index : Nat) : Int :=
  match cls with
  | 0 => sext 32 (gReg e index)
  | 1 => sext 64 (vReg e index).toNat
  | 2 => aReg e (index / 4) (index % 4)
  | 3 => sext 32 (tget e.r.agu 0 index).toNat
  | _ => sext 32 (if index = 21 then e.r.cycHiDebug else srRead k e index)

/-- REGRD: CYC_LO latches CYC_HI into the debug latch (R545). -/
def regrdBody (k cls index : Nat) (s : State) : StyResp × State :=
  let e := engOf s k
  if ¬ regNamed cls index then ({ status := 5 }, s)
  else if ¬ regsOpen e then ({ status := 8 }, s)
  else
    let t := if cls = 4 ∧ index = 20 then modEng k (fun x => { x with r := { x.r with cycHiDebug := x.r.cyc / 2 ^ 32 % 2 ^ 32 } }) s else s
    (styOk (leBytes 8 (toBits 64 (regValue k e cls index))), t)

/-- REGRD. -/
def regrd (k cls index : Nat) (s : State) : State :=
  stylusServe 0x24 (leBytes 1 k ++ leBytes 1 cls ++ leBytes 1 index) 8 (onEngine k (regrdBody k cls index)) s

/-- REGRD. -/
def execRegrd (k cls index : Nat) (s : State) : Host.Outcome State Fault Refusal := .next (regrd k cls index s)

/-- Write one register: a write to g0 or to a read-only special register is discarded (R260, R261). -/
def regStore (cls index : Nat) (v : BitVec 64) (e : Engine) : Engine :=
  match cls with
  | 0 => applyDest { dest := .g index, val := v.setWidth 160 } e
  | 1 => applyDest { dest := .vreg index, val := v.setWidth 160 } e
  | 2 => { e with r := { e.r with a := tset e.r.a index (v.setWidth 40) } }
  | 3 => applyDest { dest := .agu index, val := v.setWidth 160 } e
  | _ => srWrite index (v.toNat % 2 ^ 32) e

/-- REGWR. -/
def regwr (k cls index : Nat) (v : BitVec 64) (s : State) : State :=
  stylusServe 0x25 (leBytes 1 k ++ leBytes 1 cls ++ leBytes 1 index ++ leBytes 8 v.toNat) 0 (onEngine k (fun t =>
    if ¬ regNamed cls index then ({ status := 5 }, t)
    else if ¬ regsOpen (engOf t k) then ({ status := 8 }, t)
    else (styOk [], modEng k (regStore cls index v) t))) s

/-- REGWR. -/
def execRegwr (k cls index : Nat) (v : BitVec 64) (s : State) : Host.Outcome State Fault Refusal := .next (regwr k cls index v s)

/-! ## Resets by the debugger -/

/-- RESET_HW (R34). -/
def resetHw (s : State) : State := stylusServe 0x30 [] 0 (fun t => (styOk [], hwReset .stylus t)) s

/-- RESET_HW. -/
def execResetHw (s : State) : Host.Outcome State Fault Refusal := .next (resetHw s)

/-- RESET_DEVICE (R525): the debugger is detached, so no response follows. -/
def resetDevice (s : State) : State :=
  if s.dbg.sty.st = .detached then s
  else
    match styRefusal s 0x31 [] with
    | some k => styRespond s.dbg.sty.ferry 0 { status := k } s
    | none => deviceReset 2 s

/-- RESET_DEVICE. -/
def execResetDevice (s : State) : Host.Outcome State Fault Refusal := .next (resetDevice s)

end Sys2Proof.Machine
end

