-- ==== Sys2Proof/Machine/Sys.lean ====
section
/-! DEFINITION. System, diagnosis and event commands: SYS_INFO, SYS_BOOT_STATUS, PROOF_SELECT, DIAG_COUNTERS, EV_ROUTE, EV_READ; state mirrored to the standby (R242, R378, R549, R561, R578, R579, R597, R599, R600). -/

namespace Sys2Proof.Machine
open Sys2Proof

/-! ## SYS_INFO (R378, R578) -/

/-- Page 0 IDENTITY. -/
def infoIdentity (s : State) : List Byte :=
  let f := s.dbg.fuses
  let b := s.dbg.boot
  leBytes 2 0x9616 ++ leBytes 1 0xB0 ++ leBytes 1 f.grade ++ leBytes 1 (b2n f.cryptoS) ++ leBytes 1 0x45 ++ leBytes 2 0 ++ leBytes 4 b.fwVersion ++ leBytes 4 b.fwSvn ++
  leBytes 2 s.delta.deviceId ++ leBytes 1 (lifeCode f.life) ++ leBytes 1 b.fwImage ++ leBytes 8 f.serial ++ leBytes 4 f.svn

/-- Page 1 SENSORS. -/
def infoSensors (s : State) : List Byte :=
  (List.range 8).flatMap (fun i => leBytes 2 (toBits 16 (tget s.power.sensors 0 i))) ++ (List.range 12).flatMap (fun i => leBytes 2 (tget s.power.supplies 0 i))

/-- A field of a flash image FW_A or FW_B; 0 when it is absent. -/
def fwField (s : State) (i f : Nat) : Nat :=
  match fwOffset s i with
  | some o => leAt (flashBytes s (o + f) 4) 0 4
  | none => 0

/-- Page 2 STAGED. -/
def infoStaged (s : State) : List Byte :=
  leBytes 4 (fwField s 0 0x0C) ++ leBytes 4 (fwField s 1 0x0C) ++ leBytes 4 (fwField s 0 0x10) ++ leBytes 4 (fwField s 1 0x10) ++ leBytes 1 s.dbg.boot.stageState ++ leBytes 3 0

/-- Page 3: repair of the memories outside Basin (R378). -/
def infoRepair (s : State) : List Byte :=
  let f := s.dbg.fuses
  (List.range 24).flatMap (fun i => leBytes 1 (tget f.repair 0 i)) ++ leBytes 1 f.headwaterSpare ++ leBytes 1 f.cacheSpare

/-- SYS_INFO. -/
def sysInfoBody (v : Serving) (s : State) : Reply × State :=
  ({ code := rcDone, result := match v.target with
      | 0 => infoIdentity s
      | 1 => infoSensors s
      | 2 => infoStaged s
      | _ => infoRepair s }, s)

/-- SYS_INFO. -/
def sysInfo (s : State) : State := ferryServe 0x0100 0 (fun t => decide (t < 4)) sysInfoBody s

/-- SYS_INFO. -/
def execSysInfo (s : State) : Host.Outcome State Fault Refusal := .next (sysInfo s)

/-! ## SYS_BOOT_STATUS (R579) -/

/-- Its 32 bytes (Table 16.5). -/
def bootStatusBytes (s : State) : List Byte :=
  let b := s.dbg.boot
  leBytes 1 b.bootMode ++ leBytes 1 b.slotId ++ leBytes 1 b.lastReset ++
  leBytes 1 (b2n s.tbase.crystalAbsent + 2 * b2n b.singleWire + 4 * b2n b.secondDir) ++
  leBytes 1 (if s.ferry.recovery then 0xFF else b.fwImage) ++ leBytes 1 b.failA ++ leBytes 1 b.failB ++ leBytes 1 b.fabImage ++
  leBytes 1 (b.fabReasons.getD 0 0) ++ leBytes 1 (b.fabReasons.getD 1 0) ++ leBytes 2 b.lastFatal ++ leBytes 4 0 ++ leBytes 8 b.tbReady ++ leBytes 8 b.tbCfgDone

/-- SYS_BOOT_STATUS. -/
def sysBootStatusBody (_ : Serving) (s : State) : Reply × State := ({ code := rcDone, result := bootStatusBytes s }, s)

/-- SYS_BOOT_STATUS. -/
def sysBootStatus (s : State) : State := ferryServe 0x0101 0 noTarget sysBootStatusBody s

/-- SYS_BOOT_STATUS. -/
def execSysBootStatus (s : State) : Host.Outcome State Fault Refusal := .next (sysBootStatus s)

/-! ## PROOF_SELECT (R549) -/

/-- ENTRY j. -/
def proofEntry (v : Serving) (j : Nat) : Nat := pay v (2 + 2 * j) 2

/-- Pins of a target. -/
def proofPins (t : Nat) : Nat := if t = 0 then 16 else 4

/-- A field is out of range (Table 14.13). -/
def proofArgsBad (v : Serving) : Bool :=
  let d := pay v 0 1
  decide (3 < d) || (v.target == 1 && d == 0) || decide (3 < pay v 1 1) || (List.range (proofPins v.target)).any (fun j => bits (proofEntry v j) 14 12 != 0)

/-- The channel may select (Table 14.14). -/
def proofAllowed (s : State) (ch : Nat) : Bool :=
  if s.dbg.fuses.life = .secured then ch == 101 && s.dbg.sty.st == .authorized else decide (96 ≤ ch ∧ ch ≤ 101)

/-- The pins are claimed by another feature. -/
def proofConflict (s : State) (t : Nat) : Bool :=
  if t = 0 then s.bw.st != .uninit || s.power.railsOut.contains .bw else s.fabric.gpioDriven

/-- PROOF_SELECT. -/
def proofSelectBody (v : Serving) (s : State) : Reply × State :=
  if proofArgsBad v then (rc rcBadArg, s)
  else if ¬ proofAllowed s v.ch then (rc rcDenied, s)
  else if proofConflict s v.target then (rc rcConflict, s)
  else
    let p : Proof := { clkDiv := pay v 0 1, flags := pay v 1 1, entries := (List.range (proofPins v.target)).map (proofEntry v) }
    (rc rcDone, raiseEv 492 1 0 [] (modDebug s (fun d => { d with proof := tset d.proof v.target p })))

/-- PROOF_SELECT. -/
def proofSelect (s : State) : State := ferryServe 0x0A00 34 (fun t => decide (t < 2)) proofSelectBody s

/-- PROOF_SELECT. -/
def execProofSelect (s : State) : Host.Outcome State Fault Refusal := .next (proofSelect s)

/-! ## DIAG_COUNTERS (R597) -/

/-- Power domain of a counter set's block; none when TARGET names no block of the set. -/
def counterDomain (k t : Nat) : Option Nat :=
  match k with
  | 0 => if epListed t then some (braidDomain (colOf (epRouter t))) else none
  | 1 => if 0x100 ≤ t ∧ t < 0x140 then some (braidDomain (colOf (t - 0x100))) else none
  | 2 => if t < 64 then some (62 + t / 4) else if t = 64 then some 85 else none
  | 3 => if t < 16 then some (46 + t) else none
  | 4 => if t < 8 then some (78 + t / 2) else none
  | _ => none

/-- Number of counters of a set. -/
def counterCount (k : Nat) : Nat :=
  match k with
  | 0 => 10
  | 1 => 11
  | 2 => 7
  | 3 => 13
  | _ => 6

/-- A counter of a set. -/
def counterAt (s : State) (k t i : Nat) : Nat :=
  match k with
  | 0 => tget (niOf s t).ctr 0 i
  | 1 => tget (routerOf s (t - 0x100)).ctr 0 i
  | 2 => tget s.delta.ctr 0 (8 * t + i)
  | 3 => tget (dchX s t).ctr 0 i
  | _ => tget (bgroupOf s t).ctr 0 i

/-- The counters of a set are cleared. -/
def clearCounterSet (k t : Nat) (s : State) : State :=
  match k with
  | 0 => modNi t (fun n => { n with ctr := [] }) s
  | 1 => modRouter (t - 0x100) (fun r => { r with ctr := [] }) s
  | 2 => modDelta s (fun d => { d with ctr := d.ctr.filter (fun p => p.1 / 8 != t) })
  | 3 => modDchX t (fun x => { x with ctr := [] }) s
  | _ => modBgroup t (fun b => { b with ctr := [] }) s

/-- DIAG_COUNTERS; a block whose domain is off reads as reset (R576). -/
def diagCountersBody (v : Serving) (s : State) : Reply × State :=
  let k := pay v 0 1
  match counterDomain k v.target with
  | none => (rc rcBadArg, s)
  | some d =>
    if domOn s d then
      ({ code := rcDone, result := (List.range (counterCount k)).flatMap (fun i => leBytes 4 (counterAt s k v.target i)) }, clearCounterSet k v.target s)
    else ({ code := rcDone, result := List.replicate (4 * counterCount k) 0 }, s)

/-- DIAG_COUNTERS. -/
def diagCounters (s : State) : State := ferryServe 0x0A01 1 (fun _ => true) diagCountersBody s

/-- DIAG_COUNTERS. -/
def execDiagCounters (s : State) : Host.Outcome State Fault Refusal := .next (diagCounters s)

/-! ## EV_ROUTE, EV_READ (R561, R599, R600) -/

/-- A value that EV_ROUTE refuses for EV_CFGn (R561). -/
def evCfgBad (n w : Nat) : Bool :=
  bits w 5 0 != 0 || (bit w 25 && decide (bits w 24 19 < 4)) || (bit w 18 && (decide (13 < bits w 9 6) || decide (95 < bits w 16 10))) || (n == 428 && !(bit w 26))

/-- EV_ROUTE. -/
def evRouteBody (v : Serving) (s : State) : Reply × State :=
  let w := pay v 0 4
  if v.target = 0x200 then
    (if 1 < w then (rc rcBadArg, s) else ({ code := rcDone, result := leBytes 4 (b2n s.events.fatalFence) }, setEvCtrl w s))
  else if evCfgBad v.target w then (rc rcBadArg, s)
  else ({ code := rcDone, result := leBytes 4 (evCfg s v.target) }, setEvCfg v.target w s)

/-- EV_ROUTE. -/
def evRoute (s : State) : State := ferryServe 0x0B00 4 (fun t => decide (t ≤ 0x200)) evRouteBody s

/-- EV_ROUTE. -/
def execEvRoute (s : State) : Host.Outcome State Fault Refusal := .next (evRoute s)

/-- An event record (Table 15.2). -/
def recBytes (r : Rec) : List Byte :=
  leBytes 2 (r.ev % 512 + 512 * r.sev) ++ leBytes 1 r.cause ++ leBytes 1 (b2n r.ovf + 2 * b2n r.coal) ++ leBytes 4 r.count ++ leBytes 8 r.tb ++ padTo 16 r.detail

/-- Write records one after another; false when a write does not end OK, what was written stays (R600). -/
def writeRecs (a : Nat) (l : List Rec) (s : State) : Bool × State :=
  match l with
  | [] => (true, s)
  | r :: t =>
    match hwWrite a (recBytes r) s with
    | none => (false, s)
    | some u => writeRecs (a + 32) t u

/-- First 8 bytes of the result: records returned and records still queued. -/
def readCounts (n left : Nat) : List Byte := leBytes 2 n ++ leBytes 2 left ++ leBytes 4 0

/-- EV_READ. -/
def evReadBody (v : Serving) (s : State) : Reply × State :=
  let m := pay v 0 2
  let a := pay v 8 8
  let q := s.events.hostQ
  let out := q.take m
  let rest := q.drop m
  if m < 1 ∨ 4096 < m ∨ ¬ payZero v 2 8 ∨ (a = 0 ∧ m ≠ 1) then (rc rcBadArg, s)
  else if a = 0 then
    ({ code := rcDone, result := readCounts out.length rest.length ++ padTo 32 (out.flatMap recBytes) }, modEvents s (fun e => { e with hostQ := rest }))
  else
    match writeRecs a out s with
    | (true, t) => ({ code := rcDone, result := readCounts out.length rest.length }, modEvents t (fun e => { e with hostQ := rest }))
    | (false, t) => (failedRead, t)

/-- EV_READ. -/
def evRead (s : State) : State := ferryServe 0x0B01 16 noTarget evReadBody s

/-- EV_READ. -/
def execEvRead (s : State) : Host.Outcome State Fault Refusal := .next (evRead s)

/-! ## State mirrored to the standby (R242) -/

/-- EV471 with STATE_APPLY. -/
def applyFails (s : State) : State := raiseEv 471 1 2 [] s

/-- A mirrored calendar is checked and committed by the sequence of Table 4.5; while an earlier commit is under way it waits for that one's end (R242). -/
def applyCalendar (img : List Byte) (s : State) : State :=
  if s.sluice.commitB.isSome then modTwin s (fun w => { w with mirrorCal := some img })
  else
    match calendarFault s img with
    | some _ => applyFails s
    | none =>
      let cal := (recordOffsets img 32 (leAt img 6 2)).1.map (flowOf img)
      startCommit .command cal (braidNow s) (modSluice s (fun y => { y with shadow := cal }))

/-- A mirrored calendar that waited is applied when no commit is under way. -/
def mirrorCalTick (s : State) : State :=
  match s.twin.mirrorCal with
  | some img => if s.sluice.commitB.isSome then s else applyCalendar img (modTwin s (fun w => { w with mirrorCal := none }))
  | none => s

/-- A mirrored route table becomes the table of its NI (R96). -/
def applyRoutes (ni : Nat) (table : Tbl Nat) (s : State) : State :=
  niTableSwap ni (modNi ni (fun n => { n with shadow := table, shadowOk := true, swapPending := true }) s)

/-- At the active of a pair the partner's answer takes the item off the messages sent; one it could not apply raises EV471 here too (R242). -/
def mirrorAnswered (item : MirrorItem) (applied : Bool) (s : State) : State :=
  if s.twin.outbox.contains (.item item) then
    let t := modTwin s (fun w => { w with outbox := w.outbox.erase (.item item) })
    if applied then t else applyFails t
  else s

/-- STATE_MIRROR_APPLY: the standby of a linked pair takes one item of Table 6.10, keys only with MIRROR_KEYS; the active learns whether its item was applied. -/
def stateMirrorApply (item : MirrorItem) (applied : Bool) (s : State) : State :=
  if s.twin.role = .active ∧ (portOf s 64).st = .up then mirrorAnswered item applied s
  else if s.twin.role ≠ .standbyHot ∨ (portOf s 64).st ≠ .up then s
  else if ¬ applied then applyFails s
  else
    match item with
    | .routes ni table => if epListed ni then applyRoutes ni table s else s
    | .calendar img => applyCalendar img s
    | .farTable t => modDelta s (fun d => { d with far := t, farOld := t, farPending := [] })
    | .log c o q r tb => addLog { ch := c, opcode := o, seq := q, code := r, timebase := tb } s
    | .keySlot kid m key => if s.twin.mirrorKeys ∧ kidTarget kid then setSlot kid (if key.isEmpty then {} else { st := .installed, sealedMode := m, key := key }) s else s
    | .linkKey l d k key salt => if s.twin.mirrorKeys ∧ l ≤ 64 ∧ d < 2 ∧ k < 2 then modLinkSlot l d k (fun _ => { key := key, salt := salt }) s else s

/-- STATE_MIRROR_APPLY. -/
def execStateMirrorApply (item : MirrorItem) (applied : Bool) (s : State) : Host.Outcome State Fault Refusal := .next (stateMirrorApply item applied s)

/-! ## Jobs across a Headwater reset (R52) -/

/-- A stopped reach or image load fails as it stands, with a reason and frame that no table gives; one that waits for isolation is dropped. -/
def stopLoad (id : Nat) (s : State) : State :=
  match s.fabric.load with
  | none => s
  | some l =>
    if l.job ≠ some id then s
    else if l.started then
      let (x, t) := freshNat s
      modFabric t (fun f => { f with load := some { l with failed := some (l.failed.getD (x % 256, x / 256 % 2 ^ 32)), since := s.time } })
    else nextReload (modFabric s (fun f => { f with load := none }))

/-- Stopped jobs of channels: training ends as one that does not converge, zero writes and bit flips stop. -/
def stopDramJob (id : Nat) (s : State) : State :=
  forAll (List.range 16) (fun t c =>
    let x := dchX t c
    let t := if x.trainJob = some id then trainingDone c false t else t
    modDchX c (fun y => { y with initLostJob := y.initLostJob.filter (fun j => j != id), flip := y.flip.filter (fun f => f.2 != some id) }) t)
    (modDram s (fun d => { d with pass := d.pass.filter (fun p => p.job != id) }))

/-- Stopped jobs of keys: a tideline pauses, a sealed window being cleared is removed, a retiring key stays retiring. -/
def stopCryptoJob (id : Nat) (s : State) : State :=
  modCrypto s (fun c => { c with
    tides := c.tides.map (fun x => (x.1, if x.2.job = id ∧ x.2.st = .running then { x.2 with st := .paused } else x.2)),
    window := if c.sealJob = some id then none else c.window,
    sealJob := c.sealJob.filter (fun j => j != id) })

/-- Stopped jobs of lanes: an eye scan ends and adaptation goes on; a mode change is no longer watched. -/
def stopLaneJob (id : Nat) (s : State) : State :=
  forAll s.lanes.paths (fun t p =>
    if p.2.scan.any (fun c => c.job == id) then modPath p.1 (fun x => { x with scan := none }) (modLane p.1 (fun y => { y with frozen := false }) t)
    else if p.2.setJob = some id then modPath p.1 (fun x => { x with setJob := none }) t
    else t) s

/-- Stopped jobs of power and time: sleep entry is undone, points not yet begun are dropped, a measurement ends. -/
def stopPowerJob (id : Nat) (s : State) : State :=
  let t := match s.power.entry with
    | some e => if e.job = id then setEntry none (undoEntry e s) else s
    | none => s
  let t := modPower t (fun p => { p with
    trimJob := p.trimJob.filter (fun j => j != id), sleepJob := p.sleepJob.filter (fun j => j != id), dvfs := p.dvfs.filter (fun x => x.job != id || x.begun.isSome) })
  modTime t (fun b => { b with trimJob := b.trimJob.filter (fun j => j != id) })

/-- Stopped jobs of the Twin pair: pairing and resynchronization. -/
def stopTwinJob (id : Nat) (s : State) : State :=
  let t := modTwin s (fun w => { w with resyncJob := w.resyncJob.filter (fun j => j != id), pairing := w.pairing.filter (fun p => p.2.1 != id) })
  if s.twin.pairing.any (fun p => p.2.1 == id) && s.twin.role == .unpaired then modPort 64 (fun _ => {}) t else t

/-- Stopped jobs of boot and of Backwater: a staged image is not valid, no fuse is programmed, lock is no longer watched, connections not yet made are dropped. -/
def stopBootJob (id : Nat) (s : State) : State :=
  let mine := s.dbg.boot.staging.any (fun x => x.2.2.2.2 == id && x.1 == 0)
  let t := modBoot s (fun b => { b with
    staging := b.staging.filter (fun x => x.2.2.2.2 != id), stageState := if mine then 3 else b.stageState, fuseJob := b.fuseJob.filter (fun x => x.2 != id) })
  modBw (modBwx t (fun x => { x with initJob := x.initJob.filter (fun j => j != id) })) (fun b => { b with batches := b.batches.filter (fun c => c.job != id) })

/-- A job Headwater cannot reattach to is stopped safely; the spec does not say where each stops (R52, log entry 97). A fence and an isolation go on to their end; a router maintenance puts the previous tables back. -/
def stopJob (id : Nat) (s : State) : State :=
  let t := stopBootJob id (stopTwinJob id (stopPowerJob id (stopLaneJob id (stopCryptoJob id (stopDramJob id (stopLoad id s))))))
  match t.braid.maint with
  | some m => if m.job = id ∧ m.step < 7 then openGate (0x100 + m.router) (setMaint (some { m with step := 7 }) (commitTables (fun n => tget m.saved [] n) t)) else t
  | none => t

/-- HW_READY: the loaded firmware serves channels: EV440; jobs it could not reattach to end ABORTED (R34, R52). -/
def hwReady (lost : List Nat) (s : State) : State :=
  if s.dbg.boot.loaded ∧ s.ferry.resetting ∧ ¬ s.ferry.recovery then
    let t := modBoot (modFerry s (fun f => { f with ready := true, resetting := false })) (fun b => { b with tbReady := s.tbase.tb })
    let t := raiseEv 440 1 0 [] t
    reportJobs (forAll (lost.filter (fun j => s.ferry.jobs.any (fun k => k.id == j && k.ended == none))) (fun u j => stopJob j (endJob j rcAborted [] u)) t)
  else s

/-- HW_READY. -/
def execHwReady (lost : List Nat) (s : State) : Host.Outcome State Fault Refusal := .next (hwReady lost s)

end Sys2Proof.Machine
end

