-- ==== Sys2Proof/Machine/Dispatch.lean ====
section
/-! DEFINITION. One arm for each command. -/

namespace Sys2Proof.Machine
open Sys2Proof

/-- The effect of a command on everything but the queue. -/
def exec (i : Instr) (s : State) : Host.Outcome State Fault Refusal :=
  match i with
  | .powerOnReset => Sys2Proof.Machine.execPowerOnReset s
  | .crystalWatchExpiry oscillating => Sys2Proof.Machine.execCrystalWatchExpiry oscillating s
  | .rillAccess => Sys2Proof.Machine.execRillAccess s
  | .eventRillArrival ev => Sys2Proof.Machine.execEventRillArrival ev s
  | .requestPresented ep agent r => Sys2Proof.Machine.execRequestPresented ep agent r s
  | .packetInject ep pid => Sys2Proof.Machine.execPacketInject ep pid s
  | .flitArrival router port parityError => Sys2Proof.Machine.execFlitArrival router port parityError s
  | .routerPipelineStart router => Sys2Proof.Machine.execRouterPipelineStart router s
  | .routerSleep router => Sys2Proof.Machine.execRouterSleep router s
  | .urgAgeing router port vc pid => Sys2Proof.Machine.execUrgAgeing router port vc pid s
  | .outputArbitration router out => Sys2Proof.Machine.execOutputArbitration router out s
  | .creditReturn router port vc => Sys2Proof.Machine.execCreditReturn router port vc s
  | .requestDelivery ep pid parity => Sys2Proof.Machine.execRequestDelivery ep pid parity s
  | .probeAnswer ep pid parity => Sys2Proof.Machine.execProbeAnswer ep pid s parity
  | .responseArrival ep pid parity => Sys2Proof.Machine.execResponseArrival ep pid parity s
  | .orbExpiry ep index => Sys2Proof.Machine.execOrbExpiry ep index s
  | .niTableSwap ep => Sys2Proof.Machine.execNiTableSwap ep s
  | .fenceBitmapUpdate => Sys2Proof.Machine.execFenceBitmapUpdate s
  | .gateDrained gate => Sys2Proof.Machine.execGateDrained gate s
  | .drainMaxExpiry gate => Sys2Proof.Machine.execDrainMaxExpiry gate s
  | .routerMaintStep testPassed => Sys2Proof.Machine.execRouterMaintStep testPassed s
  | .vc2FlitPresent ep flow addr data poison => Sys2Proof.Machine.execVc2FlitPresent ep flow addr data poison s
  | .vc2Inject ep flow => Sys2Proof.Machine.execVc2Inject ep flow s
  | .calendarSwap => Sys2Proof.Machine.execCalendarSwap s
  | .tokenArrival token => Sys2Proof.Machine.execTokenArrival token s
  | .ferryMsgWrite pid => Sys2Proof.Machine.execFerryMsgWrite pid s
  | .bellPost pid => Sys2Proof.Machine.execBellPost pid s
  | .bellClear pid => Sys2Proof.Machine.execBellClear pid s
  | .headwaterInterrupt => Sys2Proof.Machine.execHeadwaterInterrupt s
  | .take => Sys2Proof.Machine.execTake s
  | .ferryAckWrite => Sys2Proof.Machine.execFerryAckWrite s
  | .completionNotification channel => Sys2Proof.Machine.execCompletionNotification channel s
  | .senderReset channel => Sys2Proof.Machine.execSenderReset channel s
  | .headwaterReset cause => Sys2Proof.Machine.execHeadwaterReset cause s
  | .lockstepMismatch => Sys2Proof.Machine.execLockstepMismatch s
  | .headwaterWatchdogExpiry => Sys2Proof.Machine.execHeadwaterWatchdogExpiry s
  | .hwReady lostJobs => Sys2Proof.Machine.execHwReady lostJobs s
  | .firmwareSwitch => Sys2Proof.Machine.execFirmwareSwitch s
  | .lockRead port => Sys2Proof.Machine.execLockRead port s
  | .lockRelease port value => Sys2Proof.Machine.execLockRelease port value s
  | .lockHoldExpiry lock => Sys2Proof.Machine.execLockHoldExpiry lock s
  | .timebaseLoRead debug => Sys2Proof.Machine.execTimebaseLoRead debug s
  | .fatalSummaryClear mask => Sys2Proof.Machine.execFatalSummaryClear mask s
  | .evDoorbellClear mask => Sys2Proof.Machine.execEvDoorbellClear mask s
  | .bar2Request offset r => Sys2Proof.Machine.execBar2Request offset r s
  | .pcieReset => Sys2Proof.Machine.execPcieReset s
  | .registerWrite a => Sys2Proof.Machine.execRegisterWrite a s
  | .kmRngOutRead pid draw => Sys2Proof.Machine.execKmRngOutRead pid draw s
  | .cfgXspiRdRead pid => Sys2Proof.Machine.execCfgXspiRdRead pid s
  | .lanePllLock quad => Sys2Proof.Machine.execLanePllLock quad s
  | .pllLockTimeout quad => Sys2Proof.Machine.execPllLockTimeout quad s
  | .energyDetected lane => Sys2Proof.Machine.execEnergyDetected lane s
  | .cdrLock lane => Sys2Proof.Machine.execCdrLock lane s
  | .equalizerConverged lane c => Sys2Proof.Machine.execEqualizerConverged lane c s
  | .blockLock lane => Sys2Proof.Machine.execBlockLock lane s
  | .frameLock lane => Sys2Proof.Machine.execFrameLock lane s
  | .rxBoundExpiry lane => Sys2Proof.Machine.execRxBoundExpiry lane s
  | .energyLoss lane => Sys2Proof.Machine.execEnergyLoss lane s
  | .cdrLoss lane => Sys2Proof.Machine.execCdrLoss lane s
  | .blockLockLoss lane => Sys2Proof.Machine.execBlockLockLoss lane s
  | .frameLockLoss lane => Sys2Proof.Machine.execFrameLockLoss lane s
  | .pllUnlock quad => Sys2Proof.Machine.execPllUnlock quad s
  | .nativeFrameReceive lane syms => Sys2Proof.Machine.execNativeFrameReceive lane syms s
  | .nativeFrameTransmit lane => Sys2Proof.Machine.execNativeFrameTransmit lane s
  | .passBlockReceive lane syms note1 note2 => Sys2Proof.Machine.execPassBlockReceive lane syms note1 note2 s
  | .passStreamSend lane bytes => Sys2Proof.Machine.execPassStreamSend lane bytes s
  | .txStreamWrite pid => Sys2Proof.Machine.execTxStreamWrite pid s
  | .passBlockTransmit lane => Sys2Proof.Machine.execPassBlockTransmit lane s
  | .txSettingsApply lane => Sys2Proof.Machine.execTxSettingsApply lane s
  | .adaptationUpdate lane t => Sys2Proof.Machine.execAdaptationUpdate lane t s
  | .marginRefresh lane margin => Sys2Proof.Machine.execMarginRefresh lane margin s
  | .corrWindowEnd lane => Sys2Proof.Machine.execCorrWindowEnd lane s
  | .energyDetect lane => Sys2Proof.Machine.execEnergyDetect lane s
  | .eyeScanDone lane counts => Sys2Proof.Machine.execEyeScanDone lane counts s
  | .laneStateReached lane => Sys2Proof.Machine.execLaneStateReached lane s
  | .portInit port => Sys2Proof.Machine.execPortInit port s
  | .portUp port flight => Sys2Proof.Machine.execPortUp port flight s
  | .portDown port cause => Sys2Proof.Machine.execPortDown port cause s
  | .linkFlitReceive port note => Sys2Proof.Machine.execLinkFlitReceive port note s
  | .linkFlitSend port => Sys2Proof.Machine.execLinkFlitSend port s
  | .linkctlReceive port note => Sys2Proof.Machine.execLinkctlReceive port note s
  | .replayTimeout port => Sys2Proof.Machine.execReplayTimeout port s
  | .linkctlSend port => Sys2Proof.Machine.execLinkctlSend port s
  | .deltaPacketEntry port => Sys2Proof.Machine.execDeltaPacketEntry port s
  | .keySwitchApply link => Sys2Proof.Machine.execKeySwitchApply link s
  | .pairingDone p => Sys2Proof.Machine.execPairingDone p s
  | .pairTimeout => Sys2Proof.Machine.execPairTimeout s
  | .stateMirrorApply item applied => Sys2Proof.Machine.execStateMirrorApply item applied s
  | .heartbeatArm => Sys2Proof.Machine.execHeartbeatArm s
  | .heartbeatSend => Sys2Proof.Machine.execHeartbeatSend s
  | .heartbeatArmTimeout => Sys2Proof.Machine.execHeartbeatArmTimeout s
  | .heartbeatReceive note => Sys2Proof.Machine.execHeartbeatReceive note s
  | .heartbeatMissed => Sys2Proof.Machine.execHeartbeatMissed s
  | .mirrorForward channel => Sys2Proof.Machine.execMirrorForward channel s
  | .mirrorCompletion note => Sys2Proof.Machine.execMirrorCompletion note s
  | .resyncPageCopy => Sys2Proof.Machine.execResyncPageCopy s
  | .bundleIssue engine => Sys2Proof.Machine.execBundleIssue engine s
  | .operationResult engine => Sys2Proof.Machine.execOperationResult engine s
  | .decisionWrite engine => Sys2Proof.Machine.execDecisionWrite engine s
  | .rldCompletion engine => Sys2Proof.Machine.execRldCompletion engine s
  | .ticketCompletion engine ticket => Sys2Proof.Machine.execTicketCompletion engine ticket s
  | .interruptInputRise engine line => Sys2Proof.Machine.execInterruptInputRise engine line s
  | .interruptEntry engine => Sys2Proof.Machine.execInterruptEntry engine s
  | .exceptionEntry engine => Sys2Proof.Machine.execExceptionEntry engine s
  | .debugHalt engine => Sys2Proof.Machine.execDebugHalt engine s
  | .engineReset pid => Sys2Proof.Machine.execEngineReset pid s
  | .run pid => Sys2Proof.Machine.execRun pid s
  | .qmDescWrite pid => Sys2Proof.Machine.execQmDescWrite pid s
  | .abort pid => Sys2Proof.Machine.execAbort pid s
  | .kick pid => Sys2Proof.Machine.execKick pid s
  | .descriptorStart engine => Sys2Proof.Machine.execDescriptorStart engine s
  | .moverPieceCompletion engine => Sys2Proof.Machine.execMoverPieceCompletion engine s
  | .portBAccess pid collides errs => Sys2Proof.Machine.execPortBAccess pid collides errs s
  | .portBRetry pid collides => Sys2Proof.Machine.execPortBRetry pid collides s
  | .watchdogWarn engine => Sys2Proof.Machine.execWatchdogWarn engine s
  | .watchdogExpiry engine => Sys2Proof.Machine.execWatchdogExpiry engine s
  | .dramRequestAccept channel pid => Sys2Proof.Machine.execDramRequestAccept channel pid s
  | .dramAccessIssue channel draw => Sys2Proof.Machine.execDramAccessIssue channel draw s
  | .dramReadComplete channel errs => Sys2Proof.Machine.execDramReadComplete channel errs s
  | .pageClose channel bank => Sys2Proof.Machine.execPageClose channel bank s
  | .mergeFlush channel => Sys2Proof.Machine.execMergeFlush channel s
  | .refresh channel => Sys2Proof.Machine.execRefresh channel s
  | .temperatureReport channel hot => Sys2Proof.Machine.execTemperatureReport channel hot s
  | .actWindowEnd channel => Sys2Proof.Machine.execActWindowEnd channel s
  | .selfRefreshEntry channel => Sys2Proof.Machine.execSelfRefreshEntry channel s
  | .selfRefreshExit channel => Sys2Proof.Machine.execSelfRefreshExit channel s
  | .dqsRetrain channel driftMilliUi => Sys2Proof.Machine.execDqsRetrain channel driftMilliUi s
  | .trainingDone channel converged => Sys2Proof.Machine.execTrainingDone channel converged s
  | .initLostDone channel => Sys2Proof.Machine.execInitLostDone channel s
  | .imbalanceWindow channel note => Sys2Proof.Machine.execImbalanceWindow channel note s
  | .scourWalkLine region => Sys2Proof.Machine.execScourWalkLine region s
  | .scourPassLine => Sys2Proof.Machine.execScourPassLine s
  | .scourPassDone => Sys2Proof.Machine.execScourPassDone s
  | .basinRequestAccept group pid => Sys2Proof.Machine.execBasinRequestAccept group pid s
  | .basinRequestStart group errs => Sys2Proof.Machine.execBasinRequestStart group errs s
  | .basinMergeFlush group errs => Sys2Proof.Machine.execBasinMergeFlush group errs s
  | .retentionEntry m => Sys2Proof.Machine.execRetentionEntry m s
  | .memoryWake m => Sys2Proof.Machine.execMemoryWake m s
  | .memoryInitDone m => Sys2Proof.Machine.execMemoryInitDone m s
  | .tamperFilter input => Sys2Proof.Machine.execTamperFilter input s
  | .glitchTrip => Sys2Proof.Machine.execGlitchTrip s
  | .zeroization => Sys2Proof.Machine.execZeroization s
  | .sealInitDone => Sys2Proof.Machine.execSealInitDone s
  | .counterToken channel counter op fault => Sys2Proof.Machine.execCounterToken channel counter op fault s
  | .reseal channel page => Sys2Proof.Machine.execReseal channel page s
  | .subtreeReinit channel => Sys2Proof.Machine.execSubtreeReinit channel s
  | .keyRetireDone kid => Sys2Proof.Machine.execKeyRetireDone kid s
  | .tidelineLine tideline => Sys2Proof.Machine.execTidelineLine tideline s
  | .initialLoad => Sys2Proof.Machine.execInitialLoad s
  | .imageRecord flashFails => Sys2Proof.Machine.execImageRecord s flashFails
  | .loadDone => Sys2Proof.Machine.execLoadDone s
  | .scrubPassStart => Sys2Proof.Machine.execScrubPassStart s
  | .frameReadback flips => Sys2Proof.Machine.execFrameReadback flips s
  | .hatchReadResult => Sys2Proof.Machine.execHatchReadResult s
  | .policyResetEnd reach => Sys2Proof.Machine.execPolicyResetEnd reach s
  | .tmrVote => Sys2Proof.Machine.execTmrVote s
  | .directoryRewrite => Sys2Proof.Machine.execDirectoryRewrite s
  | .syncPulse width position => Sys2Proof.Machine.execSyncPulse width position s
  | .bwFrame slots syncMissing => Sys2Proof.Machine.execBwFrame slots syncMissing s
  | .clockLoss => Sys2Proof.Machine.execClockLoss s
  | .bwLockTimeout => Sys2Proof.Machine.execBwLockTimeout s
  | .multiframeBoundary => Sys2Proof.Machine.execMultiframeBoundary s
  | .braidTxSend => Sys2Proof.Machine.execBraidTxSend s
  | .ringWrite pid => Sys2Proof.Machine.execRingWrite pid s
  | .ringConsume => Sys2Proof.Machine.execRingConsume s
  | .prepareVote domain sleepOk => Sys2Proof.Machine.execPrepareVote domain sleepOk s
  | .voteTimeout domain => Sys2Proof.Machine.execVoteTimeout domain s
  | .sleepCommit => Sys2Proof.Machine.execSleepCommit s
  | .retentionStep => Sys2Proof.Machine.execRetentionStep s
  | .stippleEntered => Sys2Proof.Machine.execStippleEntered s
  | .sleepAborted => Sys2Proof.Machine.execSleepAborted s
  | .wakeEvent source => Sys2Proof.Machine.execWakeEvent source s
  | .dozeExit => Sys2Proof.Machine.execDozeExit s
  | .stippleExitDone => Sys2Proof.Machine.execStippleExitDone s
  | .stipplePeriod samples => Sys2Proof.Machine.execStipplePeriod samples s
  | .powerGood => Sys2Proof.Machine.execPowerGood s
  | .dvfsFrequencyChange quad => Sys2Proof.Machine.execDvfsFrequencyChange quad s
  | .pgTimeout busFailed => Sys2Proof.Machine.execPgTimeout busFailed s
  | .slowClockLoss => Sys2Proof.Machine.execSlowClockLoss s
  | .trimMeasureDone pllCycles => Sys2Proof.Machine.execTrimMeasureDone pllCycles s
  | .thermalSample sensor eighths => Sys2Proof.Machine.execThermalSample sensor eighths s
  | .railFault r => Sys2Proof.Machine.execRailFault r s
  | .rstStyNPulse widthNs => Sys2Proof.Machine.execRstStyNPulse widthNs s
  | .deviceReset => Sys2Proof.Machine.execDeviceReset s
  | .resetRelease bootMode slotId vmePg => Sys2Proof.Machine.execResetRelease bootMode slotId vmePg s
  | .firmwareLoad octal => Sys2Proof.Machine.execFirmwareLoad octal s
  | .attach => Sys2Proof.Machine.execAttach s
  | .stylusFrameTimeout => Sys2Proof.Machine.execStylusFrameTimeout s
  | .idcode => Sys2Proof.Machine.execIdcode s
  | .challenge record nonce => Sys2Proof.Machine.execChallenge record nonce s
  | .respond tag => Sys2Proof.Machine.execRespond tag s
  | .detach => Sys2Proof.Machine.execDetach s
  | .result => Sys2Proof.Machine.execResult s
  | .stylusRead sysAddr size => Sys2Proof.Machine.execStylusRead sysAddr size s
  | .stylusWrite sysAddr size data => Sys2Proof.Machine.execStylusWrite sysAddr size data s
  | .stylusHalt engine => Sys2Proof.Machine.execStylusHalt engine s
  | .stylusRun engine => Sys2Proof.Machine.execStylusRun engine s
  | .stylusStep engine => Sys2Proof.Machine.execStylusStep engine s
  | .engReset engine => Sys2Proof.Machine.execEngReset engine s
  | .regrd engine cls index => Sys2Proof.Machine.execRegrd engine cls index s
  | .regwr engine cls index value => Sys2Proof.Machine.execRegwr engine cls index value s
  | .resetHw => Sys2Proof.Machine.execResetHw s
  | .resetDevice => Sys2Proof.Machine.execResetDevice s
  | .eventRaise ev cause detail => Sys2Proof.Machine.execEventRaise ev cause detail s
  | .eventTake => Sys2Proof.Machine.execEventTake s
  | .eventDrain => Sys2Proof.Machine.execEventDrain s
  | .sysInfo => Sys2Proof.Machine.execSysInfo s
  | .sysBootStatus => Sys2Proof.Machine.execSysBootStatus s
  | .sysFwStage => Sys2Proof.Machine.execSysFwStage s
  | .sysFwActivate => Sys2Proof.Machine.execSysFwActivate s
  | .sysLifecycle => Sys2Proof.Machine.execSysLifecycle s
  | .laneSetMode => Sys2Proof.Machine.execLaneSetMode s
  | .laneSetTaps => Sys2Proof.Machine.execLaneSetTaps s
  | .laneLoadSlotTable => Sys2Proof.Machine.execLaneLoadSlotTable s
  | .laneState => Sys2Proof.Machine.execLaneState s
  | .laneStatus => Sys2Proof.Machine.execLaneStatus s
  | .laneEye => Sys2Proof.Machine.execLaneEye s
  | .routeLoad => Sys2Proof.Machine.execRouteLoad s
  | .routeCommit => Sys2Proof.Machine.execRouteCommit s
  | .sluiceLoad => Sys2Proof.Machine.execSluiceLoad s
  | .sluiceCommit => Sys2Proof.Machine.execSluiceCommit s
  | .weirFence => Sys2Proof.Machine.execWeirFence s
  | .weirOpen => Sys2Proof.Machine.execWeirOpen s
  | .routerMaint => Sys2Proof.Machine.execRouterMaint s
  | .timeoutSet => Sys2Proof.Machine.execTimeoutSet s
  | .dramConfig => Sys2Proof.Machine.execDramConfig s
  | .dramTrain => Sys2Proof.Machine.execDramTrain s
  | .dramPower => Sys2Proof.Machine.execDramPower s
  | .scourSet => Sys2Proof.Machine.execScourSet s
  | .scourPass => Sys2Proof.Machine.execScourPass s
  | .hammerSet => Sys2Proof.Machine.execHammerSet s
  | .flipMask => Sys2Proof.Machine.execFlipMask s
  | .keyInstall => Sys2Proof.Machine.execKeyInstall s
  | .keyRetire => Sys2Proof.Machine.execKeyRetire s
  | .tidelineStart => Sys2Proof.Machine.execTidelineStart s
  | .tidelineStatus => Sys2Proof.Machine.execTidelineStatus s
  | .sealWindow => Sys2Proof.Machine.execSealWindow s
  | .protectRange => Sys2Proof.Machine.execProtectRange s
  | .linkKey => Sys2Proof.Machine.execLinkKey s
  | .reachLoad => Sys2Proof.Machine.execReachLoad s
  | .reachIsolate => Sys2Proof.Machine.execReachIsolate s
  | .reachRelease => Sys2Proof.Machine.execReachRelease s
  | .hatchLoad => Sys2Proof.Machine.execHatchLoad s
  | .scrubSet => Sys2Proof.Machine.execScrubSet s
  | .reachStatus => Sys2Proof.Machine.execReachStatus s
  | .pwrState => Sys2Proof.Machine.execPwrState s
  | .pwrDomain => Sys2Proof.Machine.execPwrDomain s
  | .dvfsSet => Sys2Proof.Machine.execDvfsSet s
  | .stippleProgram => Sys2Proof.Machine.execStippleProgram s
  | .timeSet => Sys2Proof.Machine.execTimeSet s
  | .wdtSet => Sys2Proof.Machine.execWdtSet s
  | .deltaPortSet => Sys2Proof.Machine.execDeltaPortSet s
  | .farRouteLoad => Sys2Proof.Machine.execFarRouteLoad s
  | .twinPair => Sys2Proof.Machine.execTwinPair s
  | .twinMirror => Sys2Proof.Machine.execTwinMirror s
  | .twinSwitchover => Sys2Proof.Machine.execTwinSwitchover s
  | .deviceIdSet => Sys2Proof.Machine.execDeviceIdSet s
  | .bwInit => Sys2Proof.Machine.execBwInit s
  | .bwConnect => Sys2Proof.Machine.execBwConnect s
  | .bwStatus => Sys2Proof.Machine.execBwStatus s
  | .proofSelect => Sys2Proof.Machine.execProofSelect s
  | .diagCounters => Sys2Proof.Machine.execDiagCounters s
  | .diagLoopback => Sys2Proof.Machine.execDiagLoopback s
  | .evRoute => Sys2Proof.Machine.execEvRoute s
  | .evRead => Sys2Proof.Machine.execEvRead s
  | .twinHbInEdge => Sys2Proof.Machine.execTwinHbInEdge s
  | .tamperNRise input => Sys2Proof.Machine.execTamperNRise input s
  | .railReturn r => Sys2Proof.Machine.execRailReturn r s
  | .fuseProgrammingDone verified => Sys2Proof.Machine.execFuseProgrammingDone verified s
  | .flashStagingDone completed => Sys2Proof.Machine.execFlashStagingDone completed s
  | .directoryRewriteDone => Sys2Proof.Machine.execDirectoryRewriteDone s
  | .zeroFillDone => Sys2Proof.Machine.execZeroFillDone s

end Sys2Proof.Machine
end

