-- ==== Sys2Proof/Machine/Tick.lean ====
section
/-! DEFINITION. One Braid cycle: what the clocks do by themselves (Table 0.5, R512, R516, R519 to R522, CYC of Table 7.1). What needs a decision of the environment is a command of its own. -/

namespace Sys2Proof.Machine
open Sys2Proof

/-- The clock of a quad runs: domain on, not asleep (R22), device neither in DOZE nor in STIPPLE. -/
def quadClocked (s : State) (q : Nat) : Bool :=
  domOn s (6 + q) && !(quadIdle s q) && (s.power.dev == .active || s.power.dev == .trim || s.power.emulated)

/-- One Braid cycle of an engine's cycle counter (CYC, 64 bits). -/
def cycTick (rate : Nat) (e : Engine) : Engine :=
  let p := e.r.cycPhase + rate
  if e.st = .debug then e
  else if 16 ≤ p then { e with r := { e.r with cycPhase := p - 16, cyc := (e.r.cyc + 1) % 2 ^ 64 } }
  else { e with r := { e.r with cycPhase := p } }

/-- One Braid cycle of the cycle counters of a quad's engines. -/
def quadTick (s : State) (q : Nat) : State :=
  if quadClocked s q then
    forAll [0, 1, 2, 3] (fun t i => modEng (4 * q + i) (cycTick (opRate s.dbg.fuses.grade (quadOf s q).op)) t) s
  else s

/-- A quad with an engine that any command has reached. -/
def quadListed (s : State) (q : Nat) : Bool := s.eng.eng.any (fun p => p.1 / 4 == q)

/-- The watchdog of an engine pauses (R522). -/
def wdtPaused (s : State) (k : Nat) : Bool :=
  (engOf s k).st == .debug || !(domOn s (6 + k / 4)) || s.power.dev == .doze || s.power.dev == .stipple

/-- One slow tick of a watchdog: a kick reloads and re-arms it (R520, R521); a pause lets the count of the tick in which it begins fall, and no more; a resumption raises it to GRACE (R522). -/
def wdtTick (paused : Bool) (w : Wdt) : Wdt :=
  if w.kicked then
    if w.action = 0 then { w with kicked := false, paused := paused }
    else { w with kicked := false, paused := paused, armed := true, warned := false, count := w.timeout }
  else if w.paused then
    if paused then w else { w with paused := false, count := if w.armed then max w.count (msTicks w.grace) else w.count }
  else { w with paused := paused, count := if w.armed then w.count - 1 else w.count }

/-- One slow tick: the swap to the slow clock is made at it (R516), TIMEBASE adds INC_SLOW where that clock drives it, watchdogs count. -/
def slowTick (s : State) : State :=
  let b := s.tbase
  modTime s (fun x => { x with
    slowTicks := x.slowTicks + 1,
    slowDriven := b.slowDriven || b.swapDue,
    swapDue := false,
    tb := if b.slowDriven then (x.tb + x.incSlow) % tbWrap else x.tb,
    wdts := x.wdts.map (fun p => (p.1, wdtTick (wdtPaused s p.1) p.2)) })

/-- The phase of the slow clock, 390 625 eighths of a Braid cycle (32.768 kHz, Table 0.5). -/
def slowAdvance (s : State) : State :=
  if 390625 ≤ s.slowPhase + 8 then slowTick { s with slowPhase := s.slowPhase + 8 - 390625 } else { s with slowPhase := s.slowPhase + 8 }

/-- The phase of PLL_HW, 1.000 GHz: five eighths of a cycle a Braid cycle; each cycle adds INC_FAST where it drives TIMEBASE (R516). -/
def hwAdvance (s : State) : State :=
  if 8 ≤ s.hwPhase + 5 then
    modTime { s with hwPhase := s.hwPhase - 3 } (fun b => if b.slowDriven then b else { b with tb := (b.tb + 65536) % tbWrap })
  else { s with hwPhase := s.hwPhase + 5 }

/-- Headwater stops PLL_ME in some Braid cycle in which every quad is idle: when, is a free value (Table 1.7). -/
def pllMeTick (s : State) : State :=
  modEngines s (fun e => { e with pllMe := e.pllMe && !(s.ferry.ready && quadsIdle s && Config.stopsPllMe s.time) })

/-- A request waits at an NI for an ORB: none of its share is free (R101). -/
def waitsForOrb (s : State) (ep : Nat) : Bool :=
  (niOf s ep).queue.any (fun p => nonPosted p.op && p.orb.isNone && !(fromFar s p) && (freeOrb s ep (orbShare ep p.agent)).isNone)

/-- ORB_FULL counts the Braid cycles in which a request waited for an ORB (Table 3.15). -/
def orbFullTick (s : State) : State := forAll ((s.braid.nis.map (·.1)).filter (waitsForOrb s)) (fun t e => niCount e 9 t) s

/-- One Braid cycle (log entry 2): the counters of the cycle that ends, the clocks, then what the blocks do by themselves in the new one. -/
def tick (s : State) : State :=
  let t := slowAdvance (hwAdvance { orbFullTick s with time := s.time + 1 })
  let t := msixTick <| bridgeTick (takeVc2 (hwLockTick (ferryReads t)))
  pllMeTick (mirrorCalTick (busyTick (forAll ((List.range 24).filter (quadListed t)) quadTick t)))

end Sys2Proof.Machine
end

