-- ==== Sys2Proof/Safety.lean ====
section
/-! DEFINITION. What claims speak of: the parts of the state and which of them a command may touch, memory in its canonical form, one-time fuses that only move on (R391, R582), a message that is served. -/

namespace Sys2Proof.Machine
open Sys2Proof

/-- The parts of the state, as State lists them. -/
inductive StatePart where
  | queue | time | hwPhase | slowPhase | freeCtr | braid | sluice | ferry | locks | host | lanes | delta | twin | eng | dram | mems | crypto | fabric | bw | bwx | power | tbase | debug | events | rill
deriving DecidableEq, Repr

/-- What a part holds. -/
abbrev StatePart.Holds (sp : StatePart) : Type :=
  match sp with
  | .queue => List Instr
  | .time => Nat
  | .hwPhase => Nat
  | .slowPhase => Nat
  | .freeCtr => Nat
  | .braid => Braid
  | .sluice => Sluice
  | .ferry => Ferry
  | .locks => LockUnit
  | .host => HostBridge
  | .lanes => Lanes
  | .delta => Delta
  | .twin => Twin
  | .eng => Engines
  | .dram => Dram
  | .mems => Mems
  | .crypto => Crypto
  | .fabric => Fabric
  | .bw => Backwater
  | .bwx => BackwaterX
  | .power => Power
  | .tbase => TimeBase
  | .debug => Debug
  | .events => Events
  | .rill => List Rill

/-- One part of the state. -/
def part (sp : StatePart) (s : State) : sp.Holds :=
  match sp with
  | .queue => s.pending
  | .time => s.time
  | .hwPhase => s.hwPhase
  | .slowPhase => s.slowPhase
  | .freeCtr => s.freeCtr
  | .braid => s.braid
  | .sluice => s.sluice
  | .ferry => s.ferry
  | .locks => s.locks
  | .host => s.host
  | .lanes => s.lanes
  | .delta => s.delta
  | .twin => s.twin
  | .eng => s.eng
  | .dram => s.dram
  | .mems => s.mems
  | .crypto => s.crypto
  | .fabric => s.fabric
  | .bw => s.bw
  | .bwx => s.bwx
  | .power => s.power
  | .tbase => s.tbase
  | .debug => s.dbg
  | .events => s.events
  | .rill => s.rill

/-- The parts of the state a command may change; every other part stays as it was. -/
def touches (c : Instr) : List StatePart :=
  match c with
  | .powerOnReset => [.braid, .sluice, .ferry, .locks, .host, .lanes, .delta, .twin, .eng, .dram, .mems, .crypto, .fabric, .bw, .bwx, .power, .tbase, .debug, .events, .rill]
  | .crystalWatchExpiry _ => [.braid, .tbase, .events]
  | .rillAccess => [.braid, .tbase, .events, .rill]
  | .eventRillArrival _ => [.events]
  | .requestPresented _ _ _ => [.braid, .eng, .events]
  | .packetInject _ _ => [.braid, .delta, .eng, .events]
  | .flitArrival _ _ _ => [.braid, .events]
  | .routerPipelineStart _ => [.braid]
  | .routerSleep _ => [.braid]
  | .urgAgeing _ _ _ _ => [.braid]
  | .outputArbitration _ _ => [.braid, .events]
  | .creditReturn _ _ _ => [.braid]
  | .requestDelivery _ _ _ => [.braid, .delta, .eng, .events, .rill]
  | .probeAnswer _ _ _ => [.braid, .events]
  | .responseArrival _ _ _ => [.braid, .eng, .events]
  | .orbExpiry _ _ => [.braid, .eng, .events]
  | .niTableSwap _ => [.braid, .ferry, .delta, .dram]
  | .fenceBitmapUpdate => [.braid]
  | .gateDrained _ => [.freeCtr, .braid, .ferry, .locks, .lanes, .twin, .eng, .dram, .mems, .crypto, .fabric, .bw, .bwx, .power, .debug, .events]
  | .drainMaxExpiry _ => [.freeCtr, .braid, .ferry, .locks, .lanes, .twin, .eng, .dram, .mems, .crypto, .fabric, .bw, .bwx, .power, .debug, .events]
  | .routerMaintStep _ => [.braid, .ferry, .twin, .debug, .events]
  | .vc2FlitPresent _ _ _ _ _ => [.braid, .sluice, .delta, .events]
  | .vc2Inject _ _ => [.braid, .sluice, .delta, .events]
  | .calendarSwap => [.braid, .sluice, .ferry, .delta, .events]
  | .tokenArrival _ => [.braid, .delta]
  | .ferryMsgWrite _ => [.braid, .ferry, .events]
  | .bellPost _ => [.braid, .ferry, .events]
  | .bellClear _ => [.braid, .ferry, .events]
  | .headwaterInterrupt => [.ferry]
  | .take => [.ferry]
  | .ferryAckWrite => [.braid, .ferry, .twin, .debug, .events]
  | .completionNotification _ => [.braid, .ferry, .host, .twin, .eng, .debug, .events]
  | .senderReset _ => [.braid, .ferry, .locks, .events]
  | .headwaterReset _ => [.braid, .ferry, .locks, .debug, .events]
  | .lockstepMismatch => [.braid, .ferry, .locks, .debug, .events]
  | .headwaterWatchdogExpiry => [.braid, .ferry, .locks, .debug, .events]
  | .hwReady _ => [.freeCtr, .braid, .sluice, .ferry, .lanes, .delta, .twin, .eng, .dram, .mems, .crypto, .fabric, .bw, .bwx, .power, .tbase, .debug, .events]
  | .firmwareSwitch => [.braid, .ferry, .debug, .events]
  | .lockRead _ => [.braid, .locks, .events]
  | .lockRelease _ _ => [.braid, .locks, .events]
  | .lockHoldExpiry _ => [.braid, .locks, .events]
  | .timebaseLoRead _ => [.host]
  | .fatalSummaryClear _ => [.events]
  | .evDoorbellClear _ => [.host]
  | .bar2Request _ _ => [.host]
  | .pcieReset => [.braid, .ferry, .locks, .host, .eng, .events]
  | .registerWrite _ => [.braid, .host, .eng, .events]
  | .kmRngOutRead _ _ => [.braid, .crypto, .events]
  | .cfgXspiRdRead _ => [.braid, .fabric, .events]
  | .lanePllLock _ => [.braid, .ferry, .lanes, .twin, .debug, .events]
  | .pllLockTimeout _ => [.braid, .ferry, .lanes, .twin, .debug, .events]
  | .energyDetected _ => [.lanes]
  | .cdrLock _ => [.lanes]
  | .equalizerConverged _ _ => [.lanes]
  | .blockLock _ => [.braid, .lanes, .events]
  | .frameLock _ => [.braid, .lanes, .events]
  | .rxBoundExpiry _ => [.lanes]
  | .energyLoss _ => [.braid, .ferry, .lanes, .twin, .debug, .events]
  | .cdrLoss _ => [.braid, .ferry, .lanes, .twin, .debug, .events]
  | .blockLockLoss _ => [.braid, .ferry, .lanes, .twin, .debug, .events]
  | .frameLockLoss _ => [.braid, .ferry, .lanes, .twin, .debug, .events]
  | .pllUnlock _ => [.braid, .ferry, .lanes, .twin, .debug, .events]
  | .nativeFrameReceive _ _ => [.braid, .lanes, .delta, .crypto, .events]
  | .nativeFrameTransmit _ => [.braid, .lanes, .delta, .crypto, .events]
  | .passBlockReceive _ _ _ _ => [.braid, .lanes, .events]
  | .passStreamSend _ _ => [.braid, .sluice, .lanes, .delta, .eng, .events]
  | .txStreamWrite _ => [.freeCtr, .braid, .lanes, .events]
  | .passBlockTransmit _ => [.lanes]
  | .txSettingsApply _ => [.lanes]
  | .adaptationUpdate _ _ => [.braid, .lanes, .events]
  | .marginRefresh _ _ => [.braid, .lanes, .events]
  | .corrWindowEnd _ => [.braid, .lanes, .events]
  | .energyDetect _ => [.braid, .lanes, .events]
  | .eyeScanDone _ _ => [.braid, .ferry, .lanes, .twin, .dram, .mems, .debug, .events]
  | .laneStateReached _ => [.braid, .ferry, .lanes, .twin, .debug, .events]
  | .portInit _ => [.delta]
  | .portUp _ _ => [.braid, .delta, .events]
  | .portDown _ _ => [.braid, .ferry, .locks, .lanes, .delta, .twin, .dram, .mems, .debug, .events]
  | .linkFlitReceive _ _ => [.braid, .delta]
  | .linkFlitSend _ => [.braid, .delta]
  | .linkctlReceive _ _ => [.braid, .delta, .events]
  | .replayTimeout _ => [.braid, .delta, .events]
  | .linkctlSend _ => [.delta]
  | .deltaPacketEntry _ => [.braid, .sluice, .delta, .twin, .eng, .events]
  | .keySwitchApply _ => [.braid, .ferry, .delta, .crypto, .events]
  | .pairingDone _ => [.braid, .ferry, .lanes, .delta, .twin, .dram, .mems, .debug, .events]
  | .pairTimeout => [.braid, .ferry, .delta, .twin, .debug, .events]
  | .stateMirrorApply _ _ => [.braid, .sluice, .ferry, .delta, .twin, .dram, .crypto, .events]
  | .heartbeatArm => [.twin]
  | .heartbeatSend => [.braid, .ferry, .delta, .twin, .dram, .mems, .debug, .events]
  | .heartbeatArmTimeout => [.braid, .ferry, .twin, .dram, .mems, .debug, .events]
  | .heartbeatReceive _ => [.braid, .ferry, .lanes, .delta, .twin, .dram, .mems, .debug, .events]
  | .heartbeatMissed => [.braid, .ferry, .locks, .lanes, .twin, .dram, .mems, .debug, .events]
  | .mirrorForward _ => [.braid, .delta, .twin, .dram, .mems, .events]
  | .mirrorCompletion _ => [.braid, .ferry, .twin, .dram, .mems, .debug, .events]
  | .resyncPageCopy => [.braid, .ferry, .twin, .debug, .events]
  | .bundleIssue _ => [.freeCtr, .braid, .eng, .mems, .events]
  | .operationResult _ => [.eng]
  | .decisionWrite _ => [.eng, .mems]
  | .rldCompletion _ => [.braid, .eng]
  | .ticketCompletion _ _ => [.freeCtr, .braid, .eng, .mems, .events]
  | .interruptInputRise _ _ => [.eng]
  | .interruptEntry _ => [.eng, .mems]
  | .exceptionEntry _ => [.braid, .eng, .mems, .events]
  | .debugHalt _ => [.locks, .eng, .mems]
  | .engineReset _ => [.braid, .ferry, .locks, .eng, .mems, .events]
  | .run _ => [.braid, .eng, .events]
  | .qmDescWrite _ => [.braid, .eng, .events]
  | .abort _ => [.braid, .eng, .mems, .events]
  | .kick _ => [.braid, .events, .rill]
  | .descriptorStart _ => [.freeCtr, .braid, .eng, .mems, .events]
  | .moverPieceCompletion _ => [.braid, .eng, .mems, .events]
  | .portBAccess _ _ _ => [.freeCtr, .braid, .eng, .mems, .events]
  | .portBRetry _ _ => [.freeCtr, .braid, .eng, .mems, .events]
  | .watchdogWarn _ => [.braid, .tbase, .events]
  | .watchdogExpiry _ => [.braid, .ferry, .locks, .eng, .mems, .tbase, .events]
  | .dramRequestAccept _ _ => [.braid, .twin, .dram, .mems, .events]
  | .dramAccessIssue _ _ => [.freeCtr, .braid, .ferry, .twin, .dram, .mems, .crypto, .debug, .events]
  | .dramReadComplete _ _ => [.freeCtr, .braid, .ferry, .twin, .dram, .mems, .crypto, .debug, .events]
  | .pageClose _ _ => [.dram]
  | .mergeFlush _ => [.dram]
  | .refresh _ => [.dram]
  | .temperatureReport _ _ => [.braid, .dram, .events]
  | .actWindowEnd _ => [.dram]
  | .selfRefreshEntry _ => [.freeCtr, .braid, .ferry, .twin, .dram, .mems, .crypto, .debug, .events]
  | .selfRefreshExit _ => [.braid, .dram, .mems]
  | .dqsRetrain _ _ => [.braid, .dram, .events]
  | .trainingDone _ _ => [.braid, .ferry, .twin, .dram, .mems, .debug, .events]
  | .initLostDone _ => [.braid, .ferry, .twin, .dram, .mems, .debug, .events]
  | .imbalanceWindow _ _ => [.braid, .dram, .events]
  | .scourWalkLine _ => [.braid, .eng, .dram, .events]
  | .scourPassLine => [.braid, .eng, .dram, .events]
  | .scourPassDone => [.braid, .ferry, .twin, .dram, .mems, .debug, .events]
  | .basinRequestAccept _ _ => [.braid, .mems]
  | .basinRequestStart _ _ => [.freeCtr, .braid, .mems, .events]
  | .basinMergeFlush _ _ => [.freeCtr, .braid, .mems, .events]
  | .retentionEntry _ => [.freeCtr, .braid, .mems, .events]
  | .memoryWake _ => [.braid, .mems, .events]
  | .memoryInitDone _ => [.braid, .ferry, .mems]
  | .tamperFilter _ => [.crypto, .debug]
  | .glitchTrip => [.crypto]
  | .zeroization => [.braid, .ferry, .locks, .lanes, .delta, .twin, .dram, .mems, .crypto, .fabric, .debug, .events]
  | .sealInitDone => [.braid, .ferry, .twin, .crypto, .debug, .events]
  | .counterToken _ _ _ _ => [.braid, .dram, .crypto, .events]
  | .reseal _ _ => [.braid, .dram, .mems, .crypto, .events]
  | .subtreeReinit _ => [.braid, .dram, .mems, .crypto, .events]
  | .keyRetireDone _ => [.braid, .ferry, .twin, .dram, .crypto, .debug, .events]
  | .tidelineLine _ => [.braid, .ferry, .twin, .eng, .crypto, .debug, .events]
  | .initialLoad => [.braid, .fabric]
  | .imageRecord _ => [.braid, .fabric, .events]
  | .loadDone => [.braid, .ferry, .twin, .fabric, .debug, .events]
  | .scrubPassStart => [.fabric]
  | .frameReadback _ => [.braid, .ferry, .locks, .twin, .eng, .fabric, .debug, .events]
  | .hatchReadResult => [.braid, .ferry, .locks, .twin, .fabric, .debug, .events]
  | .policyResetEnd _ => [.braid, .ferry, .twin, .fabric, .debug, .events]
  | .tmrVote => [.braid, .events]
  | .directoryRewrite => [.debug]
  | .syncPulse _ _ => [.braid, .ferry, .twin, .bw, .bwx, .debug, .events]
  | .bwFrame _ _ => [.braid, .bw, .bwx, .events]
  | .clockLoss => [.braid, .bw, .events]
  | .bwLockTimeout => [.braid, .ferry, .twin, .bwx, .debug, .events]
  | .multiframeBoundary => [.braid, .ferry, .twin, .bw, .debug, .events]
  | .braidTxSend => [.braid, .eng, .bw, .events]
  | .ringWrite _ => [.braid, .bw, .events]
  | .ringConsume => [.braid, .bw, .bwx, .events]
  | .prepareVote _ _ => [.power]
  | .voteTimeout _ => [.power]
  | .sleepCommit => [.freeCtr, .braid, .sluice, .ferry, .twin, .eng, .dram, .mems, .crypto, .power, .tbase, .debug, .events]
  | .retentionStep => [.mems, .power]
  | .stippleEntered => [.braid, .ferry, .locks, .lanes, .twin, .eng, .mems, .power, .debug, .events]
  | .sleepAborted => [.braid, .sluice, .ferry, .twin, .eng, .dram, .mems, .power, .tbase, .debug, .events]
  | .wakeEvent _ => [.power]
  | .dozeExit => [.braid, .ferry, .lanes, .twin, .power, .debug, .events]
  | .stippleExitDone => [.braid, .sluice, .ferry, .lanes, .twin, .eng, .dram, .mems, .crypto, .fabric, .power, .tbase, .debug, .events]
  | .stipplePeriod _ => [.twin, .power]
  | .powerGood => [.power]
  | .dvfsFrequencyChange _ => [.braid, .ferry, .twin, .eng, .power, .debug, .events]
  | .pgTimeout _ => [.braid, .ferry, .twin, .eng, .power, .debug, .events]
  | .slowClockLoss => [.braid, .tbase, .events]
  | .trimMeasureDone _ => [.braid, .ferry, .twin, .tbase, .debug, .events]
  | .thermalSample _ _ => [.braid, .ferry, .locks, .lanes, .twin, .eng, .dram, .mems, .crypto, .fabric, .bw, .bwx, .power, .debug, .events]
  | .railFault _ => [.braid, .ferry, .locks, .lanes, .twin, .eng, .dram, .mems, .crypto, .fabric, .bw, .bwx, .power, .debug, .events]
  | .rstStyNPulse _ => [.braid, .sluice, .ferry, .locks, .host, .lanes, .delta, .twin, .eng, .dram, .mems, .crypto, .fabric, .bw, .bwx, .power, .tbase, .debug, .events, .rill]
  | .deviceReset => [.braid, .sluice, .ferry, .locks, .host, .lanes, .delta, .twin, .eng, .dram, .mems, .crypto, .fabric, .bw, .bwx, .power, .tbase, .debug, .events, .rill]
  | .resetRelease _ _ _ => [.braid, .delta, .debug, .events]
  | .firmwareLoad _ => [.braid, .ferry, .debug, .events]
  | .attach => [.braid, .debug, .events]
  | .stylusFrameTimeout => [.debug]
  | .idcode => [.debug]
  | .challenge _ _ => [.debug]
  | .respond _ => [.braid, .debug, .events]
  | .detach => [.braid, .ferry, .locks, .twin, .eng, .power, .debug, .events]
  | .result => [.braid, .debug]
  | .stylusRead _ _ => [.braid, .eng, .debug, .events]
  | .stylusWrite _ _ _ => [.braid, .eng, .debug, .events]
  | .stylusHalt _ => [.eng, .debug]
  | .stylusRun _ => [.braid, .locks, .eng, .mems, .debug, .events]
  | .stylusStep _ => [.braid, .locks, .eng, .mems, .debug, .events]
  | .engReset _ => [.braid, .ferry, .locks, .eng, .mems, .debug, .events]
  | .regrd _ _ _ => [.eng, .debug]
  | .regwr _ _ _ _ => [.eng, .debug]
  | .resetHw => [.braid, .ferry, .locks, .debug, .events]
  | .resetDevice => [.braid, .sluice, .ferry, .locks, .host, .lanes, .delta, .twin, .eng, .dram, .mems, .crypto, .fabric, .bw, .bwx, .power, .tbase, .debug, .events, .rill]
  | .eventRaise _ _ _ => [.braid, .events]
  | .eventTake => [.braid, .host, .eng, .events]
  | .eventDrain => [.events]
  | .sysInfo => [.ferry]
  | .sysBootStatus => [.ferry]
  | .sysFwStage => [.ferry, .debug]
  | .sysFwActivate => [.ferry]
  | .sysLifecycle => [.ferry, .debug]
  | .laneSetMode => [.braid, .ferry, .lanes, .delta, .twin, .eng, .dram, .mems, .fabric, .power, .debug, .events]
  | .laneSetTaps => [.ferry, .lanes]
  | .laneLoadSlotTable => [.ferry, .lanes]
  | .laneState => [.braid, .ferry, .lanes, .delta, .twin, .eng, .dram, .mems, .fabric, .power, .debug, .events]
  | .laneStatus => [.ferry, .lanes]
  | .laneEye => [.ferry, .lanes]
  | .routeLoad => [.braid, .ferry]
  | .routeCommit => [.braid, .ferry, .twin]
  | .sluiceLoad => [.sluice, .ferry]
  | .sluiceCommit => [.braid, .sluice, .ferry, .twin]
  | .weirFence => [.braid, .ferry]
  | .weirOpen => [.braid, .ferry, .twin, .debug, .events]
  | .routerMaint => [.braid, .ferry]
  | .timeoutSet => [.braid, .ferry, .locks, .events]
  | .dramConfig => [.ferry, .dram]
  | .dramTrain => [.braid, .ferry, .lanes, .delta, .eng, .dram, .mems, .fabric, .power]
  | .dramPower => [.braid, .ferry, .lanes, .delta, .eng, .dram, .mems, .fabric, .power]
  | .scourSet => [.ferry, .dram]
  | .scourPass => [.ferry, .dram]
  | .hammerSet => [.ferry, .dram]
  | .flipMask => [.braid, .ferry, .twin, .dram, .debug, .events]
  | .keyInstall => [.braid, .ferry, .lanes, .delta, .twin, .eng, .dram, .mems, .crypto, .fabric, .power, .events]
  | .keyRetire => [.braid, .ferry, .dram, .crypto]
  | .tidelineStart => [.ferry, .dram, .crypto]
  | .tidelineStatus => [.ferry, .crypto]
  | .sealWindow => [.freeCtr, .braid, .ferry, .lanes, .delta, .eng, .dram, .mems, .crypto, .fabric, .power]
  | .protectRange => [.ferry, .crypto]
  | .linkKey => [.ferry, .twin, .crypto]
  | .reachLoad => [.braid, .ferry, .locks, .lanes, .delta, .twin, .eng, .dram, .mems, .fabric, .power, .debug, .events]
  | .reachIsolate => [.braid, .ferry, .locks, .twin, .fabric, .debug, .events]
  | .reachRelease => [.braid, .ferry, .twin, .fabric, .debug, .events]
  | .hatchLoad => [.ferry, .fabric]
  | .scrubSet => [.ferry, .fabric]
  | .reachStatus => [.ferry, .fabric]
  | .pwrState => [.braid, .ferry, .locks, .lanes, .delta, .twin, .eng, .dram, .mems, .crypto, .fabric, .bw, .bwx, .power, .debug, .events]
  | .pwrDomain => [.braid, .ferry, .locks, .lanes, .delta, .twin, .eng, .dram, .mems, .crypto, .fabric, .bw, .bwx, .power, .debug, .events]
  | .dvfsSet => [.braid, .ferry, .twin, .eng, .power, .debug, .events]
  | .stippleProgram => [.ferry, .power]
  | .timeSet => [.braid, .ferry, .tbase, .events]
  | .wdtSet => [.ferry, .tbase]
  | .deltaPortSet => [.braid, .ferry, .locks, .lanes, .delta, .twin, .dram, .mems, .debug, .events]
  | .farRouteLoad => [.ferry, .delta, .twin]
  | .twinPair => [.braid, .ferry, .lanes, .delta, .twin, .eng, .dram, .mems, .fabric, .power]
  | .twinMirror => [.ferry, .twin, .dram, .mems]
  | .twinSwitchover => [.braid, .ferry, .lanes, .twin, .events]
  | .deviceIdSet => [.ferry, .delta]
  | .bwInit => [.braid, .ferry, .lanes, .delta, .twin, .eng, .dram, .mems, .fabric, .bw, .bwx, .power, .debug, .events]
  | .bwConnect => [.ferry, .bw]
  | .bwStatus => [.ferry, .bw]
  | .proofSelect => [.braid, .ferry, .debug, .events]
  | .diagCounters => [.braid, .ferry, .delta, .dram, .mems]
  | .diagLoopback => [.braid, .ferry, .lanes, .twin, .debug, .events]
  | .evRoute => [.ferry, .events]
  | .evRead => [.ferry, .dram, .mems, .events]
  | .twinHbInEdge => [.twin]
  | .tamperNRise _ => [.debug]
  | .railReturn _ => [.power]
  | .fuseProgrammingDone _ => [.braid, .ferry, .locks, .twin, .eng, .crypto, .power, .debug, .events]
  | .flashStagingDone _ => [.freeCtr, .braid, .ferry, .twin, .fabric, .debug, .events]
  | .directoryRewriteDone => [.braid, .fabric, .debug]
  | .zeroFillDone => [.braid, .ferry, .twin, .fabric, .debug, .events]

/-- Whether a command may store bytes in memory, or clear them. Every other command leaves every byte as it was. -/
def mayStore (c : Instr) : Bool :=
  match c with
  | .powerOnReset => true
  | .crystalWatchExpiry _ => false
  | .rillAccess => false
  | .eventRillArrival _ => false
  | .requestPresented _ _ _ => false
  | .packetInject _ _ => false
  | .flitArrival _ _ _ => false
  | .routerPipelineStart _ => false
  | .routerSleep _ => false
  | .urgAgeing _ _ _ _ => false
  | .outputArbitration _ _ => false
  | .creditReturn _ _ _ => false
  | .requestDelivery _ _ _ => false
  | .probeAnswer _ _ _ => false
  | .responseArrival _ _ _ => false
  | .orbExpiry _ _ => false
  | .niTableSwap _ => false
  | .fenceBitmapUpdate => false
  | .gateDrained _ => true
  | .drainMaxExpiry _ => true
  | .routerMaintStep _ => false
  | .vc2FlitPresent _ _ _ _ _ => false
  | .vc2Inject _ _ => false
  | .calendarSwap => false
  | .tokenArrival _ => false
  | .ferryMsgWrite _ => false
  | .bellPost _ => false
  | .bellClear _ => false
  | .headwaterInterrupt => false
  | .take => false
  | .ferryAckWrite => false
  | .completionNotification _ => false
  | .senderReset _ => false
  | .headwaterReset _ => false
  | .lockstepMismatch => false
  | .headwaterWatchdogExpiry => false
  | .hwReady _ => true
  | .firmwareSwitch => false
  | .lockRead _ => false
  | .lockRelease _ _ => false
  | .lockHoldExpiry _ => false
  | .timebaseLoRead _ => false
  | .fatalSummaryClear _ => false
  | .evDoorbellClear _ => false
  | .bar2Request _ _ => false
  | .pcieReset => false
  | .registerWrite _ => false
  | .kmRngOutRead _ _ => false
  | .cfgXspiRdRead _ => false
  | .lanePllLock _ => false
  | .pllLockTimeout _ => false
  | .energyDetected _ => false
  | .cdrLock _ => false
  | .equalizerConverged _ _ => false
  | .blockLock _ => false
  | .frameLock _ => false
  | .rxBoundExpiry _ => false
  | .energyLoss _ => false
  | .cdrLoss _ => false
  | .blockLockLoss _ => false
  | .frameLockLoss _ => false
  | .pllUnlock _ => false
  | .nativeFrameReceive _ _ => false
  | .nativeFrameTransmit _ => false
  | .passBlockReceive _ _ _ _ => false
  | .passStreamSend _ _ => false
  | .txStreamWrite _ => false
  | .passBlockTransmit _ => false
  | .txSettingsApply _ => false
  | .adaptationUpdate _ _ => false
  | .marginRefresh _ _ => false
  | .corrWindowEnd _ => false
  | .energyDetect _ => false
  | .eyeScanDone _ _ => true
  | .laneStateReached _ => false
  | .portInit _ => false
  | .portUp _ _ => false
  | .portDown _ _ => true
  | .linkFlitReceive _ _ => false
  | .linkFlitSend _ => false
  | .linkctlReceive _ _ => false
  | .replayTimeout _ => false
  | .linkctlSend _ => false
  | .deltaPacketEntry _ => false
  | .keySwitchApply _ => false
  | .pairingDone _ => true
  | .pairTimeout => false
  | .stateMirrorApply _ _ => false
  | .heartbeatArm => false
  | .heartbeatSend => true
  | .heartbeatArmTimeout => true
  | .heartbeatReceive _ => true
  | .heartbeatMissed => true
  | .mirrorForward _ => true
  | .mirrorCompletion _ => true
  | .resyncPageCopy => false
  | .bundleIssue _ => true
  | .operationResult _ => false
  | .decisionWrite _ => true
  | .rldCompletion _ => false
  | .ticketCompletion _ _ => true
  | .interruptInputRise _ _ => false
  | .interruptEntry _ => true
  | .exceptionEntry _ => true
  | .debugHalt _ => true
  | .engineReset _ => true
  | .run _ => false
  | .qmDescWrite _ => false
  | .abort _ => true
  | .kick _ => false
  | .descriptorStart _ => true
  | .moverPieceCompletion _ => true
  | .portBAccess _ _ _ => true
  | .portBRetry _ _ => true
  | .watchdogWarn _ => false
  | .watchdogExpiry _ => true
  | .dramRequestAccept _ _ => true
  | .dramAccessIssue _ _ => true
  | .dramReadComplete _ _ => true
  | .pageClose _ _ => false
  | .mergeFlush _ => false
  | .refresh _ => false
  | .temperatureReport _ _ => false
  | .actWindowEnd _ => false
  | .selfRefreshEntry _ => true
  | .selfRefreshExit _ => false
  | .dqsRetrain _ _ => false
  | .trainingDone _ _ => true
  | .initLostDone _ => true
  | .imbalanceWindow _ _ => false
  | .scourWalkLine _ => false
  | .scourPassLine => false
  | .scourPassDone => true
  | .basinRequestAccept _ _ => false
  | .basinRequestStart _ _ => true
  | .basinMergeFlush _ _ => true
  | .retentionEntry _ => true
  | .memoryWake _ => false
  | .memoryInitDone _ => true
  | .tamperFilter _ => false
  | .glitchTrip => false
  | .zeroization => true
  | .sealInitDone => false
  | .counterToken _ _ _ _ => false
  | .reseal _ _ => true
  | .subtreeReinit _ => false
  | .keyRetireDone _ => false
  | .tidelineLine _ => false
  | .initialLoad => false
  | .imageRecord _ => false
  | .loadDone => false
  | .scrubPassStart => false
  | .frameReadback _ => false
  | .hatchReadResult => false
  | .policyResetEnd _ => false
  | .tmrVote => false
  | .directoryRewrite => false
  | .syncPulse _ _ => false
  | .bwFrame _ _ => false
  | .clockLoss => false
  | .bwLockTimeout => false
  | .multiframeBoundary => false
  | .braidTxSend => false
  | .ringWrite _ => false
  | .ringConsume => false
  | .prepareVote _ _ => false
  | .voteTimeout _ => false
  | .sleepCommit => true
  | .retentionStep => false
  | .stippleEntered => true
  | .sleepAborted => false
  | .wakeEvent _ => false
  | .dozeExit => false
  | .stippleExitDone => false
  | .stipplePeriod _ => false
  | .powerGood => false
  | .dvfsFrequencyChange _ => false
  | .pgTimeout _ => false
  | .slowClockLoss => false
  | .trimMeasureDone _ => false
  | .thermalSample _ _ => true
  | .railFault _ => true
  | .rstStyNPulse _ => true
  | .deviceReset => true
  | .resetRelease _ _ _ => false
  | .firmwareLoad _ => false
  | .attach => false
  | .stylusFrameTimeout => false
  | .idcode => false
  | .challenge _ _ => false
  | .respond _ => false
  | .detach => false
  | .result => false
  | .stylusRead _ _ => false
  | .stylusWrite _ _ _ => false
  | .stylusHalt _ => false
  | .stylusRun _ => true
  | .stylusStep _ => true
  | .engReset _ => true
  | .regrd _ _ _ => false
  | .regwr _ _ _ _ => false
  | .resetHw => false
  | .resetDevice => true
  | .eventRaise _ _ _ => false
  | .eventTake => false
  | .eventDrain => false
  | .sysInfo => false
  | .sysBootStatus => false
  | .sysFwStage => false
  | .sysFwActivate => false
  | .sysLifecycle => false
  | .laneSetMode => false
  | .laneSetTaps => false
  | .laneLoadSlotTable => false
  | .laneState => false
  | .laneStatus => false
  | .laneEye => false
  | .routeLoad => false
  | .routeCommit => false
  | .sluiceLoad => false
  | .sluiceCommit => false
  | .weirFence => false
  | .weirOpen => false
  | .routerMaint => false
  | .timeoutSet => false
  | .dramConfig => false
  | .dramTrain => false
  | .dramPower => false
  | .scourSet => false
  | .scourPass => false
  | .hammerSet => false
  | .flipMask => false
  | .keyInstall => false
  | .keyRetire => false
  | .tidelineStart => false
  | .tidelineStatus => false
  | .sealWindow => false
  | .protectRange => false
  | .linkKey => false
  | .reachLoad => false
  | .reachIsolate => false
  | .reachRelease => false
  | .hatchLoad => false
  | .scrubSet => false
  | .reachStatus => false
  | .pwrState => true
  | .pwrDomain => true
  | .dvfsSet => false
  | .stippleProgram => false
  | .timeSet => false
  | .wdtSet => false
  | .deltaPortSet => true
  | .farRouteLoad => false
  | .twinPair => false
  | .twinMirror => true
  | .twinSwitchover => false
  | .deviceIdSet => false
  | .bwInit => false
  | .bwConnect => false
  | .bwStatus => false
  | .proofSelect => false
  | .diagCounters => false
  | .diagLoopback => false
  | .evRoute => false
  | .evRead => true
  | .twinHbInEdge => false
  | .tamperNRise _ => false
  | .railReturn _ => false
  | .fuseProgrammingDone _ => false
  | .flashStagingDone _ => false
  | .directoryRewriteDone => false
  | .zeroFillDone => false

/-- The bytes of memory are in their canonical form. -/
def MemOk (s : State) : Prop := Memory.wf s.mems.mem

/-- The fuses, and the life-cycle step that is being programmed into them. -/
def fuseView (s : State) : Fuses × Option (Nat × Nat) := (s.dbg.fuses, s.dbg.boot.fuseJob)

/-- What most commands leave alone: the fuses, their programming, the bytes of memory. -/
def coreView (s : State) : Fuses × Option (Nat × Nat) × List Host.Cell := (s.dbg.fuses, s.dbg.boot.fuseJob, s.mems.mem)

/-- A life-cycle step that is being programmed leads to the state after the present one (R391). -/
def FuseJobOk (s : State) : Prop := ∀ n j, s.dbg.boot.fuseJob = some (n, j) → n = lifeCode s.dbg.fuses.life + 1 ∧ n ≤ 3

/-- One-time fuses move on: the life-cycle state stays or goes one step forward, the SVN counter never falls, nothing else of them changes (R391, R582). -/
def FusesOnward (a b : Fuses) : Prop :=
  (b.life = a.life ∨ lifeCode b.life = lifeCode a.life + 1) ∧ a.svn ≤ b.svn ∧ b = { a with life := b.life, svn := b.svn }

/-- A state a run may be in. -/
def Safe (s : State) : Prop := MemOk s ∧ FuseJobOk s

/-- Headwater serves a message of an opcode: it is not answered yet, its LEN and TARGET are within the command's, and DRYRUN is clear (R40, R568 to R571). -/
def Served (s : State) (v : Serving) (opcode maxLen : Nat) (target : Nat → Bool) : Prop :=
  s.ferry.serving = some v ∧ v.opcode = opcode ∧ v.reply = none ∧ v.len ≤ maxLen ∧ target v.target = true ∧ bit v.flags 1 = false

/-- The message that is served has this answer. -/
def Answered (t : State) (code : Nat) : Prop := ∃ v r, t.ferry.serving = some v ∧ v.reply = some r ∧ r.code = code

end Sys2Proof.Machine
end

