-- ==== Sys2Proof/Certificates/Slice0/Obligations.lean ====
section
/-! DEFINITION. The statements for the provers. -/

set_option linter.all false

open Sys2Proof Sys2Proof.Machine

/-- For every command c, every rest r of the queue and every state s, the step of s with c in front of r is exec of c on s with the queue r. (What each step holds) The queue is the model's own (log entry 1). -/
def Obligations.StepRunsTheCommandInFront : Prop :=
  ∀ (c : Instr) (r : List Instr) (s : State), step { s with pending := c :: r } = exec c { s with pending := r }

/-- When the queue is empty, a step answers a next state: time is one Braid cycle later, and the queue, the memories, the lanes, the Delta ports, the keys, the fabric, Backwater, power, the debug group, Rill and the counter of free values are as they were. (13.7 The time base, 13.8 Watchdogs) What passes on an empty queue is the model's reading (log entry 2). -/
def Obligations.EmptyQueueStepIsOneBraidCycle : Prop :=
  ∀ s : State, s.pending = [] → ∃ t, step s = .next t ∧ t.time = s.time + 1 ∧
    ∀ sp ∈ [StatePart.queue, .freeCtr, .lanes, .delta, .mems, .crypto, .fabric, .bw, .bwx, .power, .debug, .rill], part sp t = part sp s

/-- In a state with an empty queue whose TIMEBASE is driven by PLL_HW, one Braid cycle (five eighths of a nanosecond) that completes a PLL_HW cycle adds 65 536 to TIMEBASE, modulo 2^64, and a Braid cycle that completes none leaves it, unless the slow clock has a tick in that cycle. (13.7 The time base, Table 13.12) The phase of the two clocks is the model's reading (log entry 2). -/
def Obligations.TimebaseCountsNanoseconds : Prop :=
  ∀ s : State, s.pending = [] → s.tbase.slowDriven = false → s.slowPhase + 8 < 390625 →
    (3 ≤ s.hwPhase → ∃ t, step s = .next t ∧ t.tbase.tb = (s.tbase.tb + 65536) % tbWrap ∧ t.hwPhase = s.hwPhase - 3) ∧
    (s.hwPhase < 3 → ∃ t, step s = .next t ∧ t.tbase.tb = s.tbase.tb ∧ t.hwPhase = s.hwPhase + 5)

/-- After reset: DRAIN_MAX is 2 ms, HOLD_MAX 10 ms, AGE_QUANTUM 64, the ORB limits 1 ms and 10 ms, every quad at OP3, every engine in RESET with ENG_START 0, Headwater serves as though it had last finished channel 127, every channel is EMPTY, the first lock conflict goes to the Braid port, INC_SLOW is 2 000 000 000, every output of every router names (L2, VC3) as its last candidate, the event router serves as though it had last served source 511, no event is pending, every Delta port is DISABLED, every key slot EMPTY, every DRAM channel UNTRAINED with SR_IDLE 64 µs, and no scour region is defined. (R125, R69, R105, R108, R511, R55, R43, R67, 13.7 The time base, R106, R557, R340) -/
def Obligations.ResetLeavesWhatTheSpecStates : Prop :=
  let s := State.reset
  s.braid.drainMax = 2000 ∧ s.locks.holdMax = 10000 ∧ s.braid.ageQuantum = 64 ∧ s.braid.orbLocal = 1000 ∧ s.braid.orbFar = 10000 ∧
  (∀ q, (quadOf s q).op = 3) ∧ (∀ k, (engOf s k).st = .reset ∧ (engOf s k).start = 0) ∧ s.ferry.lastDone = 127 ∧ (∀ c, (chanOf s c).st = .empty) ∧
  s.locks.braidFirst = true ∧ s.tbase.incSlow = 2000000000 ∧ (∀ r out, tget (routerOf s r).rr 20 out = 20) ∧ s.events.last = 511 ∧ s.events.pend = [] ∧
  (∀ p, (portOf s p).st = .disabled) ∧ (∀ k, (slotOf s k).st = .empty) ∧ (∀ c, (dchOf s c).pwr = .untrained ∧ (dchOf s c).srIdle = 64) ∧ s.dram.walks = []

/-- State.reset is Safe: its memory is in the canonical form, and no life-cycle step is being programmed. (9.4 Life cycle, R391) -/
def Obligations.ResetIsSafe : Prop :=
  Safe State.reset

/-- From every state whose memory lists its bytes by strictly rising addresses and lists no zero byte, every step that answers a next state, whatever command is in front, leaves memory in that form again. (Device address map) -/
def Obligations.MemoryKeepsItsCanonicalForm : Prop :=
  ∀ s t : State, MemOk s → step s = .next t → MemOk t

/-- From every state in which a life-cycle step that is being programmed leads one state further, every step that answers a next state keeps that so, and leaves the fuses as they were but for a life-cycle state one step further (BLANK, PROVISIONED, SECURED, RETIRED) and an SVN counter that has not fallen. No command, no reset and no passing of time moves the life cycle back. (R391, R582) -/
def Obligations.LifeCycleMovesForwardOnly : Prop :=
  ∀ s t : State, FuseJobOk s → step s = .next t → FuseJobOk t ∧ FusesOnward s.dbg.fuses t.dbg.fuses

/-- For every command c, every state s and every part of the state that touches c does not list, when exec of c on s answers a next state that part is the same in it. touches lists, for each of the 272 commands, the parts it may change; no command touches the queue, the time or the phases of the clocks. (What each step holds) -/
def Obligations.EveryCommandStaysWithinItsParts : Prop :=
  (∀ (c : Instr) (s t : State), exec c s = .next t → ∀ sp, sp ∉ touches c → part sp t = part sp s) ∧
  ∀ c : Instr, StatePart.queue ∉ touches c ∧ StatePart.time ∉ touches c ∧ StatePart.hwPhase ∉ touches c ∧ StatePart.slowPhase ∉ touches c

/-- REQUEST_PRESENTED: an access other than a response or a PROBE at a listed endpoint whose outputs are not clamped is divided and presented; one part of it that has a target off its own NI, is not fenced, is no sibling access and finds its NI up is put at the end of the NI's waiting list. PACKET_INJECT: a packet that may be chosen, is of this device, meets no fence, does not turn around in its NI, holds its ORB (or needs none), has a valid route and credit for all its flits leaves the list and becomes flits on the local input, with its route, its WAIT raised by the time it waited and, for a non-posted request of this device, the low 32 bits of BRAID_NOW plus the limit in DEADLINE. ORB_EXPIRY: an ORB whose DEADLINE BRAID_NOW has passed, and whose response is not arriving, is freed, counted, reported with cause 3, and its part answered TIMEOUT. (The clocks of the domain run.) (R28, R79, R91, R101, R109, R110) -/
def Obligations.RequestsEnterTheBraid : Prop :=
  (∀ (ep agent : Nat) (r : Req) (s : State), epListed ep = true → outClamped s ep = false → clockStopped s (epDomain ep) = false → r.op ≠ .rsp → r.op ≠ .probe →
    exec (.requestPresented ep agent r) s = .next (presentReq ep agent r s).2) ∧
  (∀ (ep dst : Nat) (p : Packet) (s : State), p.far = false → addrTarget (mapOf s ep) p.addr = some dst → fenced s ep = false → fenced s dst = false →
    dst ≠ ep → ferryChanOf p.addr = none → (niOf s ep).down = false →
    (niOf (presentPart ep p false s) ep).queue = (niOf s ep).queue ++ [(reserveOrb ep { p with dst := dst } s).1]) ∧
  (∀ (ep pid route : Nat) (p : Packet) (s : State), (niOf s ep).queue.find? (fun q => q.pid == pid) = some p → (niOf s ep).down = false →
    clockStopped s (braidDomain (colOf (epRouter ep))) = false → turnsAround s ep p = false → meetsFence s ep p = false → mayInject s ep p = true → p.op ≠ .probe → (nonPosted p.op = true → p.orb.isSome = true) → fromFar s p = false → routeOf s ep (legDst s ep p) = some route →
    tget (niOf s ep).used 0 p.vc + flitCount p ≤ vcDepth p.vc →
    ∃ t, exec (.packetInject ep pid) s = .next t ∧
      t.braid.wires = s.braid.wires ++ (flitsOf { p with
        route := route, wait := min 0xFFFF (p.wait + (s.time - p.presentedAt)),
        deadline := if nonPosted p.op then (braidNow s + (if p.far then s.braid.orbFar else s.braid.orbLocal) * usCycles) % 2 ^ 32 else p.deadline }).map
          (fun f => { hop := .input (epRouter ep) (epPort ep), flit := f, sentAt := s.time + f.idx }) ∧
      (niOf t ep).queue = (niOf s ep).queue.filter (fun x => x.pid != p.pid)) ∧
  (∀ (ep index d : Nat) (o : Orb) (s : State), (niOf s ep).orbs.find? (fun o => o.index == index) = some o → o.deadline = some d → d < braidNow s →
    wholePacket s ep o.pid = none → o.probe = false → clockStopped s (braidDomain (colOf (epRouter ep))) = false →
    exec (.orbExpiry ep index) s = .next (finishPart o.pid .timeout (min 0xFFFF (s.time - o.injectedAt)) [] 0
      (braidEv (epRouter ep) 3 1 (epPort ep) { vc := o.vc, dst := o.dst, src := ep, tag := o.index }
        (modNi ep (fun n => { n with orbs := n.orbs.filter (fun x => x.index != index), ctr := tinc n.ctr 5 }) s))))

/-- FLIT_ARRIVAL buffers the first due flit of an input at its arrival time. ROUTER_PIPELINE_START wakes a router 24 cycles after the first arrival. ROUTER_SLEEP puts a router that may sleep to sleep. URG_AGEING raises the URG of a waiting head flit by 1, at most to 15. OUTPUT_ARBITRATION of an output that is in service and sends no VC2 flit and no packet in progress sends the winner's flit and names it in rr. CREDIT_RETURN gives a due credit back to the router upstream, or to the NI. (R131, R22, R105, R106, R85) -/
def Obligations.RoutersMoveFlits : Prop :=
  (∀ (r port : Nat) (w : Wire) (s : State), clockStopped s (braidDomain (colOf r)) = false → nextWire s (.input r port) = some w → (routerOf s r).dropping.contains w.flit.pkt.pid = false → w.flit.isHead = false →
    ∃ t, exec (.flitArrival r port false) s = .next t ∧ t.braid.wires = s.braid.wires.erase w ∧
      (routerOf t r).buf = (routerOf s r).buf ++ [(port, { w.flit with at_ := w.sentAt + wireDelay w, ageFrom := w.sentAt + wireDelay w })] ∧
      (routerOf t r).lastFlit = w.sentAt + wireDelay w ∧ ((routerOf s r).asleep = true → (routerOf s r).wakingSince = none → (routerOf t r).wakingSince = some (w.sentAt + wireDelay w))) ∧
  (∀ (r w : Nat) (s : State), clockStopped s (braidDomain (colOf r)) = false → (routerOf s r).asleep = true → (routerOf s r).wakingSince = some w → w + 24 ≤ s.time →
    ∃ t, exec (.routerPipelineStart r) s = .next t ∧ (routerOf t r).asleep = false ∧ (routerOf t r).pipeFrom = w + 24 ∧ (routerOf t r).buf = (routerOf s r).buf ∧ (routerOf t r).used = (routerOf s r).used) ∧
  (∀ (r : Nat) (s : State), clockStopped s (braidDomain (colOf r)) = false → r < 64 → maySleep s r = true → ∃ t, exec (.routerSleep r) s = .next t ∧ (routerOf t r).asleep = true ∧ (routerOf t r).rr = (routerOf s r).rr) ∧
  (∀ (r port vc pid : Nat) (f : Flit) (s : State), clockStopped s (braidDomain (colOf r)) = false → (port, f) ∈ (routerOf s r).buf → f.pkt.vc = vc → f.pkt.pid = pid → f.isHead = true → vc ≠ 2 → f.ageFrom + s.braid.ageQuantum ≤ s.time →
    ∃ t, exec (.urgAgeing r port vc pid) s = .next t ∧
      (port, { f with ageFrom := f.ageFrom + s.braid.ageQuantum, pkt := { f.pkt with urg := min (f.pkt.urg + 1) 15 } }) ∈ (routerOf t r).buf) ∧
  (∀ (r out w : Nat) (f : Flit) (s : State), clockStopped s (braidDomain (colOf r)) = false → strandedHead s r out = none → (routerOf s r).asleep = false → sentNow s r out = false → calEntry s.sluice.committed r out (braidNow s % 1024) = none →
    tfind (routerOf s r).busy out = none → arbWinner s r out = some w → frontFlit (routerOf s r) (candPort w) (candVc w) = some f → f.pkt.urg ≠ 15 →
    exec (.outputArbitration r out) s = .next (sendFlit r out (candPort w) (candVc w) f (modRouter r (fun m => { m with rr := tset m.rr out w }) s))) ∧
  (∀ (r port vc at_ : Nat) (s : State), clockStopped s (braidDomain (colOf r)) = false → port < 5 → neighbour r port ≠ r → (routerOf s r).owed.find? (fun c => c.1 == port && c.2.1 == vc && decide (c.2.2 ≤ s.time)) = some (port, vc, at_) →
    ∃ t, exec (.creditReturn r port vc) s = .next t ∧ (routerOf t r).owed = (routerOf s r).owed.erase (port, vc, at_) ∧
      tget (routerOf t (neighbour r port)).used 0 (4 * opposite port + vc) = tget (routerOf s (neighbour r port)).used 0 (4 * opposite port + vc) - 1) ∧
  (∀ (r port vc at_ e : Nat) (s : State), clockStopped s (braidDomain (colOf r)) = false → 5 ≤ port → epAt r port = some e → (routerOf s r).owed.find? (fun c => c.1 == port && c.2.1 == vc && decide (c.2.2 ≤ s.time)) = some (port, vc, at_) →
    ∃ t, exec (.creditReturn r port vc) s = .next t ∧ (routerOf t r).owed = (routerOf s r).owed.erase (port, vc, at_) ∧ tget (niOf t e).used 0 vc = tget (niOf s e).used 0 vc - 1)

/-- REQUEST_DELIVERY: at an endpoint whose clocks run, a whole request that is the first of its source and VC there, without parity error, no event record, and of this device is counted, wakes a quad it names, and is delivered. A request for memory at a target that is in its map, is no ATOM or message, hits no protected range and meets no closed gate waits at its endpoint. PROBE_ANSWER: a PROBE that is the first of its source and VC there is answered OK. RESPONSE_ARRIVAL: a response of this device without parity error or POISON whose ORB is held and which came no later than the cycle after its DEADLINE frees the ORB and answers the part with its STATUS, WAIT and data. (R14, R99, R101, R111, R112) -/
def Obligations.PacketsReachTheirTargets : Prop :=
  (∀ (ep pid : Nat) (p : Packet) (s : State), wholePacket s ep pid = some p → p.op ≠ .probe → p.op ≠ .rsp → p.ev = none → leaving s p = false → isQuad ep = false →
    clockStopped s (epDomain ep) = false → firstAtNi s ep p = true →
    exec (.requestDelivery ep pid none) s = .next (deliverReq ep p (niCount ep 1 (clearNi ep pid s)))) ∧
  (∀ (q pid : Nat) (p : Packet) (s : State), wholePacket s (0x40 + q) pid = some p → q < 24 → p.op ≠ .probe → p.op ≠ .rsp → p.ev = none → leaving s p = false →
    clockStopped s (epDomain (0x40 + q)) = false → firstAtNi s (0x40 + q) p = true →
    exec (.requestDelivery (0x40 + q) pid none) s = .next (deliverReq (0x40 + q) p (wakeQuad q (niCount (0x40 + q) 1 (clearNi (0x40 + q) pid s))))) ∧
  (∀ (ep : Nat) (p : Packet) (s : State), p.debug = false → p.dma = false → gateClosed s ep = false → p.op ≠ .msg → p.op ≠ .atom → addrTarget s.dram.map p.addr = some ep →
    isReach ep = false → isQuad ep = false → 0x10000000 ≤ p.addr → p.wait ≤ 0xFFFF →
    (deliverReq ep p s).braid.inbox = s.braid.inbox ++ [{ ep := ep, pkt := p, came := s.time, at_ := s.time, op := (quadOf s (ep - 0x40)).op }]) ∧
  (∀ (ep pid : Nat) (p : Packet) (s : State), wholePacket s ep pid = some p → p.op = .probe →
    firstAtNi s ep p = true → clockStopped s (braidDomain (colOf (epRouter ep))) = false →
    exec (.probeAnswer ep pid none) s = .next (respond ep p s.time 2 .ok [] [] false (niCount ep 1 (clearNi ep pid s)))) ∧
  (∀ (ep pid d : Nat) (p : Packet) (o : Orb) (s : State), wholePacket s ep pid = some p → p.op = .rsp → p.far = false → p.poison = [] → forcedShut s ep = false →
    (niOf s ep).orbs.find? (fun o => o.pid == p.pid) = some o → o.deadline = some d → arrivedAt s ep pid - s.braid.epoch ≤ d + 1 → o.probe = false →
    clockStopped s (braidDomain (colOf (epRouter ep))) = false →
    exec (.responseArrival ep pid none) s = .next (finishPart p.pid p.status p.wait p.data 0
      (modNi ep (fun n => { n with orbs := n.orbs.filter (fun x => x.pid != p.pid), ctr := tinc n.ctr 1 }) (clearNi ep pid s))))

/-- FENCE_BITMAP_UPDATE: while Rill runs, the bitmaps of every NI follow the gates. GATE_DRAINED: a FENCING gate whose three counts are zero, with the fence in every NI, becomes DRAINED, with EV445 DONE of its command. DRAIN_MAX_EXPIRY: a gate still FENCING when its limit has run out is marked, and its command ends TIMEOUT when it is not a forced drain. NI_TABLE_SWAP: an NI with a prepared commit swaps its route tables. ROUTER_MAINT_STEP: after the rerouting commit the sequence fences the router and goes on to step 3. TOKEN_ARRIVAL: a grant token lets its packet leave. (R121, R123, R125, R126, R96, R130, R237) -/
def Obligations.GatesAndTableSwaps : Prop :=
  (∀ s : State, rillRuns s = true → ∃ t, exec .fenceBitmapUpdate s = .next t ∧ t.braid.fenceStale = false ∧ ∀ ep, fenced t ep = gateShut s ep) ∧
  (∀ (g : Nat) (s : State), isGate g = true → (gateOf s g).st = .fencing → gateIdle s g = true →
    exec (.gateDrained g) s = .next (drainedHooks g (endJob? (gateOf s g).job rcDone [] (setGate g { gateOf s g with st := .drained, job := none } s)))) ∧
  (∀ (g : Nat) (s : State), isGate g = true → ¬ (30 ≤ g ∧ g < 46) → (gateOf s g).st = .fencing → (gateOf s g).timedOut = false → (gateOf s g).force = false →
    (gateOf s g).since + (gateOf s g).limit ≤ s.time →
    exec (.drainMaxExpiry g) s = .next (maintTimeout g (trimFailed g (endJob? (gateOf s g).job rcTimeout [] (setGate g { gateOf s g with timedOut := true, job := none } s))))) ∧
  (∀ (ep : Nat) (s : State), (niOf s ep).swapPending = true →
    ∃ t, exec (.niTableSwap ep) s = .next t ∧ (niOf (swapRoutes ep s) ep).swapPending = (niOf t ep).swapPending ∧ t.braid.nis = (swapRoutes ep s).braid.nis ∧
      ep ∉ t.delta.farPending ∧ ep ∉ t.dram.mapPending) ∧
  (∀ (m : Maint) (b : Bool) (s : State), s.braid.maint = some m → m.step = 2 → s.braid.commitJob = none → (gateOf s (0x100 + m.router)).st = .opened →
    ∃ t, exec (.routerMaintStep b) s = .next t ∧ t.braid.maint = some { m with step := 3 } ∧ (gateOf t (0x100 + m.router)).st = .fencing ∧ (gateOf t (0x100 + m.router)).force = m.force) ∧
  (∀ (id pid : Nat) (k : Token) (s : State), s.braid.tokens.find? (fun t => t.id == id) = some k → k.kind = .grant pid →
    ∃ t, exec (.tokenArrival id) s = .next t ∧ pid ∈ t.braid.granted ∧ t.braid.tokens = s.braid.tokens.filter (fun x => x.id != id))

/-- VC2_FLIT_PRESENT at a listed endpoint whose outputs are not clamped: a flit of a flow that the committed calendar does not hold is discarded at the NI. A flit of a held flow whose SRC and DST are unfenced and whose NI is up is injected at once in an injection slot of the flow when none of its flow waits, with WAIT 0, what the NI is sending giving way; it waits at the end of the release queue, and enters nothing else, when the slot is not open and fewer than four of its flow wait. (R139, R140, R141, R145, R84) DST 0 in the record of an unheld flow is the model's choice (log entry 86). -/
def Obligations.Vc2FlitsArePresented : Prop :=
  (∀ (ep flow addr : Nat) (data : List Byte) (poison : Bool) (s : State), epListed ep = true → outClamped s ep = false → clockStopped s (epDomain ep) = false → flowAt s.sluice.committed ep flow = none →
    exec (.vc2FlitPresent ep flow addr data poison) s = .next (discardAtNi ep (flowPacket ep flow 0) s)) ∧
  (∀ (ep flow addr : Nat) (data : List Byte) (poison : Bool) (f : Flow) (s : State), outClamped s ep = false → clockStopped s (epDomain ep) = false →
    flowAt s.sluice.committed ep flow = some f → fenced s ep = false → fenced s f.dst = false → (niOf s ep).down = false →
    s.sluice.queue.filter (fun x => x.ep == ep && x.flow == flow) = [] → slotOpen s f = true →
    ∃ t, exec (.vc2FlitPresent ep flow addr data poison) s = .next t ∧ t.sluice.queue = s.sluice.queue ∧ tget t.sluice.lastInject 0 f.src = s.time + 1 ∧
      ∃ p : Packet, p.vc = 2 ∧ p.dst = f.dst ∧ p.src = f.src ∧ p.flow = f.flow ∧ p.route = f.route ∧ p.addr = addr ∧ p.data = data.take 128 ∧ p.wait = 0 ∧
        t.braid.wires = (yieldSlot f.src s).braid.wires ++ (flitsOf p).map (fun x => { hop := .input (epRouter f.src) (epPort f.src), flit := x, sentAt := s.time })) ∧
  (∀ (ep flow addr : Nat) (data : List Byte) (poison : Bool) (f : Flow) (s : State), outClamped s ep = false → clockStopped s (epDomain ep) = false →
    flowAt s.sluice.committed ep flow = some f → fenced s ep = false → fenced s f.dst = false → (niOf s ep).down = false →
    (s.sluice.queue.filter (fun x => x.ep == ep && x.flow == flow)).length < 4 → slotOpen s f = false →
    ∃ t, exec (.vc2FlitPresent ep flow addr data poison) s = .next t ∧ t.braid = s.braid ∧
      t.sluice.queue = s.sluice.queue ++ [{ ep := ep, flow := flow, addr := addr, data := data.take 128, poison := poison, presentedAt := s.time }])

/-- VC2_INJECT: the oldest flit that waits in the release queue of a held, unfenced flow at an NI that is up leaves it in an injection slot of the flow: it is removed from the queue, and becomes, what the NI is sending giving way, a packet of that flow on the local input of the NI's router with the flow's route, the flit's address and data and, for a flit of this NI's own endpoint, the Braid cycles between presentation and now in WAIT (at most 65 535). (R139, R140, R142, R84) -/
def Obligations.Vc2FlitsLeaveInTheirSlots : Prop :=
  ∀ (ep flow : Nat) (f : Flow) (r : Released) (s : State), clockStopped s (braidDomain (colOf (epRouter ep))) = false →
    flowAt s.sluice.committed ep flow = some f → s.sluice.queue.find? (fun r => r.ep == ep && r.flow == flow) = some r → r.pkt = none →
    fenced s ep = false → fenced s f.dst = false → (niOf s ep).down = false → slotOpen s f = true →
    ∃ t, exec (.vc2Inject ep flow) s = .next t ∧ t.sluice.queue = popRelease s.sluice.queue ep flow ∧ t.sluice.committed = s.sluice.committed ∧
      ∃ p : Packet, p.vc = 2 ∧ p.dst = f.dst ∧ p.src = f.src ∧ p.flow = f.flow ∧ p.route = f.route ∧ p.addr = r.addr ∧ p.data = r.data ∧ p.wait = min 0xFFFF (s.time - r.presentedAt) ∧
        t.braid.wires = (yieldSlot f.src s).braid.wires ++ (flitsOf p).map (fun x => { hop := .input (epRouter f.src) (epPort f.src), flit := x, sentAt := s.time })

/-- CALENDAR_SWAP: from cycle B + 64 on, the calendar that SLUICE_COMMIT committed, the shadow, is in force and the one before is the shadow; the suspension by a sleep entry leaves an empty calendar in force and keeps the one before; the resumption puts that one in force again. No commit is pending afterwards, and of the queued flits those of flows the new calendar holds stay, in order. Before B + 64 nothing changes. (R149, R150, R151, R155) -/
def Obligations.CalendarsSwapAtTheirTime : Prop :=
  (∀ (b : Nat) (s : State), s.sluice.commitB = some b → s.sluice.commitKind = .command → b + 64 ≤ braidNow s →
    ∃ t, exec .calendarSwap s = .next t ∧ t.sluice.committed = s.sluice.shadow ∧ t.sluice.shadow = s.sluice.committed ∧ t.sluice.commitB = none ∧
      t.sluice.queue = s.sluice.queue.filter (fun r => (flowAt s.sluice.shadow r.ep r.flow).isSome)) ∧
  (∀ (b : Nat) (s : State), s.sluice.commitB = some b → s.sluice.commitKind = .suspend → b + 64 ≤ braidNow s →
    ∃ t, exec .calendarSwap s = .next t ∧ t.sluice.committed = [] ∧ t.sluice.suspended = some s.sluice.committed ∧ t.sluice.shadow = s.sluice.shadow ∧ t.sluice.commitB = none) ∧
  (∀ (b : Nat) (l : List Flow) (s : State), s.sluice.commitB = some b → s.sluice.commitKind = .resume → s.sluice.suspended = some l → b + 64 ≤ braidNow s →
    ∃ t, exec .calendarSwap s = .next t ∧ t.sluice.committed = l ∧ t.sluice.suspended = none ∧ t.sluice.shadow = s.sluice.shadow ∧ t.sluice.commitB = none ∧
      t.sluice.queue = s.sluice.queue.filter (fun r => (flowAt l r.ep r.flow).isSome)) ∧
  (∀ (b : Nat) (s : State), s.sluice.commitB = some b → braidNow s < b + 64 → exec .calendarSwap s = .next s)

/-- FERRY_MSG_WRITE and BELL writes: the first delivered write of a channel has its effect 2 cycles after delivery: a write within FERRY_MSG of an EMPTY, DONE or ABORTED channel changes its bytes, BELL = 1 posts an EMPTY channel while Headwater serves, BELL = 0 empties a POSTED channel; no other channel changes, and each write is answered OK. SENDER_RESET does to its channel what a BELL = 0 write does and frees the locks that its sender holds. HEADWATER_INTERRUPT: 38 cycles after a channel was POSTED the interrupt is up. TAKE: the message of the next channel in the take order becomes the served one, with the outcome of the first three checks, its channel TAKEN; a message withdrawn in the same Braid cycle runs with WDRAW. (R38, R39, R43, R45, R46, R49, R55, R569, R71) -/
def Obligations.MessagesArePostedAndTaken : Prop :=
  (∀ (pid : Nat) (d : Delivered) (s : State), ferryWriteAt s pid = some d → msgOpen (chanOf s (chanOfPkt d.pkt)) = true → d.pkt.addr % 0x200 + d.pkt.data.length ≤ 0x40 → d.pkt.addr % 0x200 < 0x40 →
    ∃ u, exec (.ferryMsgWrite pid) s = .next (respondInbox d 6 .ok [] u) ∧ u.braid = s.braid ∧ chanOf u (chanOfPkt d.pkt) = msgBytes (chanOf s (chanOfPkt d.pkt)) (d.pkt.addr % 0x200) d.pkt.data ∧
      ∀ c, c ≠ chanOfPkt d.pkt → chanOf u c = chanOf s c) ∧
  (∀ (pid : Nat) (d : Delivered) (s : State), ferryWriteAt s pid = some d → d.pkt.addr % 0x200 = 0x80 → bit (leAt d.pkt.data 0 1) 0 = true → (chanOf s (chanOfPkt d.pkt)).st = .empty → s.ferry.resetting = false →
    ∃ u, exec (.bellPost pid) s = .next (respondInbox d 6 .ok [] u) ∧ u.braid = s.braid ∧
      chanOf u (chanOfPkt d.pkt) = { chanOf s (chanOfPkt d.pkt) with st := .posted, seq := chanSeq (chanOf s (chanOfPkt d.pkt)), postedAt := s.time, wdraw := false, withdrawnAt := none } ∧
      ∀ c, c ≠ chanOfPkt d.pkt → chanOf u c = chanOf s c) ∧
  (∀ (pid : Nat) (d : Delivered) (s : State), ferryWriteAt s pid = some d → d.pkt.addr % 0x200 = 0x80 → bit (leAt d.pkt.data 0 1) 0 = false → (chanOf s (chanOfPkt d.pkt)).st = .posted →
    ∃ u, exec (.bellClear pid) s = .next (respondInbox d 6 .ok [] u) ∧ u.braid = s.braid ∧ chanOf u (chanOfPkt d.pkt) = { chanOf s (chanOfPkt d.pkt) with st := .empty, withdrawnAt := some s.time } ∧
      ∀ c, c ≠ chanOfPkt d.pkt → chanOf u c = chanOf s c) ∧
  (∀ (c : Nat) (s : State), c < 122 → ∃ t, exec (.senderReset c) s = .next t ∧ chanOf t c = clearBell s.time (chanOf s c) ∧ (∀ c2, c2 ≠ c → chanOf t c2 = chanOf s c2) ∧ t = forAll (chanOwners c) (fun u o => freeLocks o u) (modChan c (clearBell s.time) s)) ∧
  (∀ (c : Nat) (h : Channel) (s : State), (c, h) ∈ s.ferry.chans → h.st = .posted → h.postedAt + 38 ≤ s.time →
    ∃ t, exec .headwaterInterrupt s = .next t ∧ t.ferry.irq = true ∧ t.ferry.irqAt = s.time ∧ t.ferry.chans = s.ferry.chans) ∧
  (∀ (c : Nat) (s : State), s.ferry.irq = true → serves s = true → nextChannel s = some c →
    ∃ t, exec .take s = .next t ∧ t.ferry.serving = some { readMsg s c with reply := firstChecks s (readMsg s c) } ∧
      chanOf t c = { chanOf s c with st := .taken, qwait := (readMsg s c).qwait, wdraw := decide ((chanOf s c).st ≠ .posted), withdrawnAt := none })

/-- FERRY_ACK_WRITE: the answer of a served message that waits for nothing is written: RESP and ACK with its SEQ and code, the channel DONE, a notification owed unless POLL is set; the channel is the one last finished. COMPLETION_NOTIFICATION: a notification owed and due goes to its sender: line 15 of the engine, the doorbell bit and an MSI-X message of the host, a completion message over the Twin link, the Stylus logic, a message to the bound device, FERRY_DONE of the reach. EVENT_RAISE: a listed cause is raised with its default severity. EVENT_TAKE: in a PLL_HW cycle that has taken none, the record of the next source is routed and its source becomes the last one served. EVENT_DRAIN: with no channel POSTED or TAKEN every record leaves the FIFO. EV_DOORBELL_CLEAR clears the DONE bits written 1. (R41, R44, R47, R55, R555, R557, R560, R59) -/
def Obligations.HeadwaterAnswersAndNotifies : Prop :=
  (∀ (v : Serving) (r : Reply) (s : State), s.ferry.serving = some v → v.reply = some r → v.waitingFor = 0 → (chanOf s v.ch).wdraw = false →
    ∃ u, exec .ferryAckWrite s = .next (reportJobs u) ∧ chanOf u v.ch = { chanOf s v.ch with resp := respWords v r, ackSeq := v.seq, ackCode := r.code, st := .done } ∧
      u.ferry.serving = none ∧ u.ferry.lastDone = v.ch ∧ u.ferry.notify = s.ferry.notify ++ (if bit v.flags 0 then [] else [(v.ch, false, s.time)])) ∧
  (∀ (c : Nat) (s : State), notifyDue s c = true → c < 96 → exec (.completionNotification c) s = .next (raiseLine c 15 (modFerry s (fun f => { f with notify := popNotify f.notify c })))) ∧
  (∀ (c : Nat) (s : State), notifyDue s c = true → 96 ≤ c → c < 100 →
    ∃ t, exec (.completionNotification c) s = .next t ∧ t.host.doorbell = s.host.doorbell ||| 2 ^ (c - 96) ∧ t.host.msixSent = s.host.msixSent ++ [c - 96] ∧ t.ferry.notify = popNotify s.ferry.notify c) ∧
  (∀ s : State, notifyDue s 100 = true → ∃ t, exec (.completionNotification 100) s = .next t ∧ t.ferry.notify = popNotify s.ferry.notify 100 ∧
    t.twin.outbox = s.twin.outbox ++ [.completion (chanOf s 100).ackSeq (chanOf s 100).ackCode]) ∧
  (∀ s : State, notifyDue s 101 = true → ∃ t, exec (.completionNotification 101) s = .next t ∧ t.ferry.notify = popNotify s.ferry.notify 101 ∧ t.dbg.sty.ferry = true) ∧
  (∀ (c dev : Nat) (s : State), notifyDue s c = true → 102 ≤ c → c < 106 → boundDev s c = some dev →
    exec (.completionNotification c) s = .next (remoteDone c dev (modFerry s (fun f => { f with notify := popNotify f.notify c })))) ∧
  (∀ (c : Nat) (s : State), notifyDue s c = true → 106 ≤ c → ∃ t, exec (.completionNotification c) s = .next t ∧ t.ferry.notify = popNotify s.ferry.notify c ∧ t.host.ferryDone = s.host.ferryDone ++ [c]) ∧
  (∀ (ev cause sev : Nat) (detail : List Byte) (s : State), evDefault s ev cause detail = some sev →
    exec (.eventRaise ev cause detail) s = .next (raiseEvAt (evPlace s ev detail) ev cause sev detail s)) ∧
  (∀ (ev : Nat) (p : Pend) (s : State), s.events.takenAt ≠ some (hwCycle s) → nextSource s = some ev → tfind s.events.pend ev = some p →
    ∃ u, exec .eventTake s = .next (promote ev p (routeRec { p.r with sev := evSev (evCfg s ev) p.r.sev, host := bit (evCfg s ev) 25 } (evCfg s ev) u)) ∧
      u.events = { s.events with last := ev, takenAt := some (hwCycle s) }) ∧
  (∀ (s : State), s.ferry.ready = true → (∀ c ∈ s.ferry.chans, c.2.st ≠ .posted ∧ c.2.st ≠ .taken) →
    ∃ t, exec .eventDrain s = .next t ∧ t.events.fifo = [] ∧ t.events.hostQ = (s.events.fifo.filter forHost).foldl (pushRec 4096) s.events.hostQ) ∧
  (∀ (mask : Nat) (s : State), ∃ t, exec (.evDoorbellClear mask) s = .next t ∧ t.host.doorbell = listMask ((List.range 4).filter (fun i => bit s.host.doorbell i && !(bit mask i))))

/-- HEADWATER_RESET, LOCKSTEP_MISMATCH and HEADWATER_WATCHDOG_EXPIRY begin a Headwater reset, the second after EV442. Such a reset takes the served message away, makes channel 127 the last one finished and starts the load of the firmware again. HW_READY: the loaded firmware serves, with EV440; unended jobs it lost end ABORTED and are stopped. FIRMWARE_SWITCH: the activated image runs. FATAL_SUMMARY_CLEAR clears the GROUP bits written 1 but bit 7 after a thermal trip and bits that a record sets in this cycle. While Rill runs, EVENT_RILL_ARRIVAL: a record on Rill reaches the router; RILL_ACCESS: a kick reaches its watchdog, an access the PMC, which answers it OK. (R33, R34, R50, R52, R53, R55, R520, R563, R564) -/
def Obligations.HeadwaterResetsAndRestarts : Prop :=
  (∀ (c : HwResetCause) (s : State), exec (.headwaterReset c) s = .next (hwReset c s)) ∧
  (∀ s : State, exec .lockstepMismatch s = .next (hwReset .lockstep (raiseEv 442 1 2 [] s))) ∧
  (∀ s : State, ∃ b, exec .headwaterWatchdogExpiry s = .next (hwReset .watchdog b) ∧ b.ferry = s.ferry ∧ b.braid = s.braid ∧ b.dbg.boot.fallback = if s.ferry.switchPending then some s.dbg.boot.fwImage else none) ∧
  (∀ (c : HwResetCause) (s : State), part .mems (hwReset c s) = part .mems s ∧ (hwReset c s).ferry.serving = none ∧ (hwReset c s).ferry.lastDone = 127 ∧ (hwReset c s).ferry.ready = false ∧ (hwReset c s).dbg.boot.loaded = false) ∧
  (∀ (lost : List Nat) (s : State), s.dbg.boot.loaded = true → s.ferry.resetting = true → s.ferry.recovery = false →
    ∃ u, exec (.hwReady lost) s = .next (reportJobs (forAll (lost.filter (fun j => s.ferry.jobs.any (fun k => k.id == j && k.ended == none))) (fun u j => stopJob j (endJob j rcAborted [] u)) (raiseEv 440 1 0 [] u))) ∧
      u.ferry.ready = true ∧ u.ferry.resetting = false ∧ u.ferry.jobs = s.ferry.jobs ∧ u.dbg.boot.tbReady = s.tbase.tb) ∧
  (∀ s : State, s.ferry.switchPending = true → s.ferry.serving = none →
    ∃ u, exec .firmwareSwitch s = .next (if stagedImage s = 1 then raiseEv 443 1 0 [] u else commitSvn (raiseEv 443 1 0 [] u)) ∧ u.ferry.switchPending = false ∧ u.dbg.boot.fwImage = stagedImage s ∧ u.dbg.boot.dirDue = (stagedImage s == 1) ∧
      u.dbg.boot.fwVersion = leAt (fwImageAt s ((fwOffset s (stagedImage s)).getD 0)) 0x0C 4 ∧
      u.dbg.boot.nextSvn = if s.ferry.commitSvn then some (leAt (fwImageAt s ((fwOffset s (stagedImage s)).getD 0)) 0x10 4) else none) ∧
  (∀ (mask : Nat) (s : State), ∃ t, exec (.fatalSummaryClear mask) s = .next t ∧ ∀ g, g ∈ t.events.groups ↔ g ∈ s.events.groups ∧ (bit mask g = false ∨ (g = 7 ∧ s.power.tripped = true) ∨ tfind s.events.fatalAt g = some s.time)) ∧
  (∀ (ev : Nat) (p : Pend) (s : State), tfind s.events.pend ev = some p → p.arrived = false → p.r.ni = none → rillRuns s = true →
    ∃ u, exec (.eventRillArrival ev) s = .next (if evSev (evCfgAon s ev) p.r.sev = 3 ∧ bit (evCfgAon s ev) 26 = true then assertFatal ev u else u) ∧ u.events.pend = tset s.events.pend ev { p with arrived := true }) ∧
  (∀ (k : Nat) (r : List Rill) (s : State), rillRuns s = true → s.rill = .kick k :: r → exec .rillAccess s = .next (modWdt k (fun w => { w with kicked := true }) { s with rill := r })) ∧
  (∀ (pid : Nat) (d : Delivered) (r : List Rill) (s : State), rillRuns s = true → s.rill = .access pid :: r → inboxAny s pid = some d →
    exec .rillAccess s = .next (respondInbox d 10 .ok (if d.pkt.op = .rd then List.replicate d.pkt.len 0 else []) { s with rill := r }))

/-- Through the Braid port: a read of a free lock makes the reader its owner and returns 0, a read of a held lock returns the lock's value and changes nothing; a write of 4 bytes with the owner's ID by the owner frees the lock, any other write changes no lock and ends DENIED. Through the Headwater port, when no request of the Braid port waits, the same with owner ID 0; when one waits and the Braid port has the turn, the access is kept for the next Braid cycle and the turn changes. LOCK_HOLD_EXPIRY: a lock whose hold timer has reached HOLD_MAX, and to which no access came first, becomes free, with EV454, its number, former owner and cause 0. (R65, R66, R67, R69, R72) -/
def Obligations.LocksAreTakenAndReleased : Prop :=
  (∀ (pid : Nat) (d : Delivered) (s : State), lockRequest s pid = some d → d.pkt.op = .rd → (lockOf s (lockIndex d.pkt)).held = false → d.pkt.debug = false →
    exec (.lockRead (.braid pid)) s = .next (respondInbox d 2 .ok (padTo d.pkt.len (leBytes 4 0)) (lockServed (setLock (lockIndex d.pkt) { held := true, owner := ownerId d.pkt, since := s.time, paused := ownerHalted s (ownerId d.pkt) } s)))) ∧
  (∀ (pid : Nat) (d : Delivered) (s : State), lockRequest s pid = some d → d.pkt.op = .rd → (lockOf s (lockIndex d.pkt)).held = true →
    exec (.lockRead (.braid pid)) s = .next (respondInbox d 2 .ok (padTo d.pkt.len (leBytes 4 (lockValue (lockOf s (lockIndex d.pkt))))) (lockServed s))) ∧
  (∀ (pid value : Nat) (d : Delivered) (s : State), lockRequest s pid = some d → d.pkt.op ≠ .rd →
    ((lockOf s (lockIndex d.pkt)).held = true ∧ (lockOf s (lockIndex d.pkt)).owner = ownerId d.pkt ∧ leAt d.pkt.data 0 4 = ownerId d.pkt ∧ d.pkt.len = 4 →
      exec (.lockRelease (.braid pid) value) s = .next (respondInbox d 2 .ok [] (lockServed (setLock (lockIndex d.pkt) {} s)))) ∧
    (¬ ((lockOf s (lockIndex d.pkt)).held = true ∧ (lockOf s (lockIndex d.pkt)).owner = ownerId d.pkt ∧ leAt d.pkt.data 0 4 = ownerId d.pkt ∧ d.pkt.len = 4) →
      ∃ t, exec (.lockRelease (.braid pid) value) s = .next t ∧ t = respondInbox d 2 .denied [] (lockServed s) ∧ t.locks.locks = s.locks.locks)) ∧
  (∀ (n value : Nat) (s : State), n < 256 → s.locks.hwWaiting = none → lockUsed s = false → lockConflict s = false →
    (∃ t, exec (.lockRead (.headwater n)) s = .next t ∧ lockOf t n = (if (lockOf s n).held then lockOf s n else { held := true, owner := 0, since := s.time, paused := ownerHalted s 0 })) ∧
    (∃ t, exec (.lockRelease (.headwater n) value) s = .next t ∧ lockOf t n = (if (lockOf s n).held = true ∧ (lockOf s n).owner = 0 ∧ value = 0 then {} else lockOf s n))) ∧
  (∀ (n value : Nat) (s : State), n < 256 → s.locks.hwWaiting = none → lockUsed s = false → lockConflict s = true → s.locks.braidFirst = true →
    (∃ t, exec (.lockRead (.headwater n)) s = .next t ∧ t.locks = { s.locks with braidFirst := false, hwWaiting := some (n, none) }) ∧
    (∃ t, exec (.lockRelease (.headwater n) value) s = .next t ∧ t.locks = { s.locks with braidFirst := false, hwWaiting := some (n, some value) })) ∧
  (∀ (n : Nat) (s : State), (lockOf s n).held = true → (lockOf s n).paused = false → s.locks.holdMax * usCycles ≤ lockRan s (lockOf s n) → accessFirst s n = false →
    ∃ u, exec (.lockHoldExpiry n) s = .next (raiseEv 454 0 1 (leBytes 1 n ++ leBytes 2 (lockOf s n).owner) u) ∧ (lockOf u n).held = false ∧ ∀ m, m ≠ n → lockOf u m = lockOf s m)

/-- A non-posted write that the lock unit serves frees the lock it names when it is 4 bytes wide, its value equals the owner ID and the writer is the owner, and is then answered OK. Any other write, of whatever width, leaves every lock as it was and is answered DENIED. (R66) -/
def Obligations.AWriteOfTheOwnerReleasesALock : Prop :=
  ∀ (pid value : Nat) (d : Delivered) (s : State), lockRequest s pid = some d → d.pkt.op ≠ .rd →
    let l := lockOf s (lockIndex d.pkt)
    (l.held = true ∧ d.pkt.len = 4 ∧ leAt d.pkt.data 0 4 = l.owner ∧ ownerId d.pkt = l.owner →
      ∃ u, exec (.lockRelease (.braid pid) value) s = .next (respondInbox d 2 .ok [] u) ∧ (lockOf u (lockIndex d.pkt)).held = false ∧ ∀ m, m ≠ lockIndex d.pkt → lockOf u m = lockOf s m) ∧
    (¬ (l.held = true ∧ d.pkt.len = 4 ∧ leAt d.pkt.data 0 4 = l.owner ∧ ownerId d.pkt = l.owner) →
      ∃ u, exec (.lockRelease (.braid pid) value) s = .next (respondInbox d 2 .denied [] u) ∧ ∀ m, lockOf u m = lockOf s m)

/-- TIMEBASE_LO_READ latches bits [63:32] of TIMEBASE, a debug read into its own latch. BAR2_REQUEST: a request by an enabled aperture is handed to the host bridge with the address of its aperture, to be presented at its NI 32 Braid cycles later, by a disabled one it is an Unsupported Request. PCIE_RESET is a sender reset of channels 96 to 99 and clears the doorbell and the apertures. REGISTER_WRITE: an aperture register takes bit 31 and the 16 low bits; a delivered write of EV_CTRL, EV_CFGn or ENG_START writes it. KM_RNG_OUT_READ of 4 bytes or less holds the upper half of the draw; the read of offset 0x104 returns it and clears it. CFG_XSPI_RD_READ returns the next bytes of flash and moves the read stream on. (R49, R63, Table 2.17, Table 14.11, R545) -/
def Obligations.HostAndRegisterAccesses : Prop :=
  (∀ (debug : Bool) (s : State), ∃ t, exec (.timebaseLoRead debug) s = .next t ∧ (if debug then t.host.tbHiDebug else t.host.tbHi) = s.tbase.tb / 2 ^ 32 % 2 ^ 32 ∧
    (if debug then t.host.tbHi = s.host.tbHi else t.host.tbHiDebug = s.host.tbHiDebug)) ∧
  (∀ (o : Nat) (r : Req) (s : State), (tget s.host.apertures (false, 0) (o / 2 ^ 32 % 16)).1 = true →
    ∃ t, exec (.bar2Request o r) s = .next t ∧ t.host = { s.host with inbound := s.host.inbound ++ [(s.time + 32, { r with op := if r.op = .rd then .rd else .wrp, far := false, addr := bar2Addr s o })] } ∧ t.braid = s.braid) ∧
  (∀ (o : Nat) (r : Req) (s : State), (tget s.host.apertures (false, 0) (o / 2 ^ 32 % 16)).1 = false → ∃ t, exec (.bar2Request o r) s = .next t ∧ t.host.unsupported = s.host.unsupported + 1 ∧ t.braid = s.braid) ∧
  (∀ s : State, ∃ t, exec .pcieReset s = .next t ∧ t.host.doorbell = 0 ∧ t.host.apertures = [] ∧ (∀ c, 96 ≤ c → c < 100 → chanOf t c = clearBell s.time (chanOf s c)) ∧ (∀ c, c < 96 → chanOf t c = chanOf s c)) ∧
  (∀ (k v : Nat) (s : State), k < 16 → ∃ t, exec (.registerWrite (.bar0 (0x20000 + 8 * k + 4) v)) s = .next t ∧ tget t.host.apertures (false, 0) k = (bit v 31, v % 65536)) ∧
  (∀ (pid : Nat) (d : Delivered) (t s : State), inboxAny s pid = some d → braidWrite d s = some t → exec (.registerWrite (.braid pid)) s = .next (writeDone d t)) ∧
  (∀ (pid : Nat) (draw : BitVec 64) (d : Delivered) (s : State), regRead s pid 0x5A = some (d, 0x100) → d.pkt.debug = false → d.pkt.len ≤ 4 →
    ∃ u, exec (.kmRngOutRead pid draw) s = .next (respondInbox d 10 .ok (padTo d.pkt.len (leBytes 4 draw.toNat)) u) ∧ u.crypto.rngHeld = draw.toNat / 2 ^ 32) ∧
  (∀ (pid : Nat) (draw : BitVec 64) (d : Delivered) (s : State), regRead s pid 0x5A = some (d, 0x104) → d.pkt.debug = false →
    ∃ u, exec (.kmRngOutRead pid draw) s = .next (respondInbox d 10 .ok (padTo d.pkt.len (leBytes 4 s.crypto.rngHeld)) u) ∧ u.crypto.rngHeld = 0) ∧
  (∀ (pid o : Nat) (d : Delivered) (s : State), regRead s pid 0x01 = some (d, o) → d.pkt.debug = false →
    ∃ u, exec (.cfgXspiRdRead pid) s = .next (respondInbox d 10 .ok (flashBytes s s.fabric.xspiPos d.pkt.len) u) ∧ u.fabric.xspiPos = s.fabric.xspiPos + d.pkt.len)

/-- LANE_PLL_LOCK: the lanes of the quad at the PLL's mode that wait for it go on to SIGNAL_WAIT. ENERGY_DETECTED, CDR_LOCK, EQUALIZER_CONVERGED, BLOCK_LOCK and FRAME_LOCK take the receiver one state further, native lanes by way of FRAME_HUNT. RX_BOUND_EXPIRY starts the state again and counts a lock loss. ENERGY_LOSS, CDR_LOSS, BLOCK_LOCK_LOSS and FRAME_LOCK_LOSS send a receiver in UP, with its link event, to SIGNAL_WAIT, CDR_ACQ, LOCK_HUNT and FRAME_HUNT. PLL_LOCK_TIMEOUT: the PLL is off and every lane that waited counts a lock loss, stays in electrical idle and ends its LANE_SET_MODE TIMEOUT. PLL_UNLOCK: the PLL starts again and its lanes wait for it. LANE_STATE_REACHED: the power state is entered. ENERGY_DETECT in SLACKWATER raises the quality event. (R189, R190, R191, R192, R193, R209, R210, R211, Table 5.12) -/
def Obligations.LanesComeUpAndFall : Prop :=
  (∀ (q m : Nat) (s : State), pllSt s q = .starting m → exec (.lanePllLock q) s = .next (forAll (quadLanes q) (fun t l => if (laneOf t l).mode = m then lanePllReady l t else t) (setPll q (.locked m) s))) ∧
  (∀ (l : Nat) (s : State), (laneOf s l).rx = .pllWait → (pathOf s l).setJob = none → ∃ t, lanePllReady l s = t ∧ (laneOf t l).rx = .signalWait ∧ ∀ k, k ≠ l → laneOf t k = laneOf s k) ∧
  (∀ (q m : Nat) (s : State), pllSt s q = .starting m → exec (.pllLockTimeout q) s = .next (forAll (quadLanes q) (fun t l => if (laneOf t l).rx = .pllWait then
      endJob? (pathOf t l).setJob rcTimeout [] (modPath l (fun p => { p with setJob := none, transmitting := false }) (modLane l (fun y => { y with lockLoss := min (y.lockLoss + 1) 0xFFFFFFFF }) t)) else t) (setPll q .off s))) ∧
  (∀ (q m : Nat) (s : State), pllSt s q = .locked m → exec (.pllUnlock q) s = .next (forAll (quadLanes q) (fun t l => if (laneOf t l).mode ≠ 0 then
      (if rxAtLeast (laneOf (laneEv l 0 6 2 t) l) 2 then modPath l (fun p => { p with transmitting := false }) (rxFallTo l .pllWait (laneEv l 0 6 2 t)) else laneEv l 0 6 2 t) else t) (setPll q (.starting m) s))) ∧
  (∀ (l : Nat) (s : State), (laneOf s l).rx = .signalWait → ∃ t, exec (.energyDetected l) s = .next t ∧ laneOf t l = { laneOf s l with rx := .cdrAcq, energy := true } ∧ ∀ k, k ≠ l → laneOf t k = laneOf s k) ∧
  (∀ (l : Nat) (s : State), (laneOf s l).rx = .cdrAcq → ∃ t, exec (.cdrLock l) s = .next t ∧ laneOf t l = { laneOf s l with rx := .adaptInit, coeffs := startCoeffs (laneOf s l) } ∧ ∀ k, k ≠ l → laneOf t k = laneOf s k) ∧
  (∀ (l : Nat) (c : Coeffs) (s : State), (laneOf s l).rx = .adaptInit → ∃ t, exec (.equalizerConverged l c) s = .next t ∧ laneOf t l = { laneOf s l with rx := .lockHunt, coeffs := c } ∧ ∀ k, k ≠ l → laneOf t k = laneOf s k) ∧
  (∀ (l : Nat) (s : State), (laneOf s l).rx = .lockHunt → (laneOf s l).mode = 1 → 128 ≤ (pathOf s l).goodHdr →
    ∃ t, exec (.blockLock l) s = .next t ∧ laneOf t l = { laneOf s l with rx := .frameHunt, blockLock := true } ∧ ∀ k, k ≠ l → laneOf t k = laneOf s k) ∧
  (∀ (l : Nat) (s : State), (laneOf s l).rx = .frameHunt → 4 ≤ (pathOf s l).goodFrames → exec (.frameLock l) s = .next (rxUp l s)) ∧
  (∀ (l : Nat) (s : State), (laneOf s l).rx = .cdrAcq ∨ (laneOf s l).rx = .lockHunt ∨ (laneOf s l).rx = .frameHunt →
    ∃ t, exec (.rxBoundExpiry l) s = .next t ∧ laneOf t l = { laneOf s l with lockLoss := min ((laneOf s l).lockLoss + 1) 0xFFFFFFFF } ∧ (pathOf t l).goodHdr = 0 ∧ (pathOf t l).goodFrames = 0) ∧
  (∀ (l : Nat) (s : State), (laneOf s l).rx = .up →
    (∃ u, exec (.energyLoss l) s = .next (rxFallTo l .signalWait (laneEv l 0 2 1 u)) ∧ laneOf u l = { laneOf s l with energy := false }) ∧
    (∃ u, exec (.cdrLoss l) s = .next (rxFallTo l .cdrAcq (laneEv l 0 3 1 u)) ∧ laneOf u l = { laneOf s l with lockLoss := min ((laneOf s l).lockLoss + 1) 0xFFFFFFFF }) ∧
    (24 ≤ ((pathOf s l).hdrWindow.filter (fun v => !v)).length → ∃ u, exec (.blockLockLoss l) s = .next (rxFallTo l .lockHunt (laneEv l 0 4 1 u)) ∧ laneOf u l = { laneOf s l with lockLoss := min ((laneOf s l).lockLoss + 1) 0xFFFFFFFF }) ∧
    ((laneOf s l).mode = 1 → 4 ≤ (pathOf s l).badFrames → ∃ u, exec (.frameLockLoss l) s = .next (rxFallTo l .frameHunt (laneEv l 0 5 1 u)) ∧ laneOf u l = { laneOf s l with lockLoss := min ((laneOf s l).lockLoss + 1) 0xFFFFFFFF })) ∧
  (∀ (l : Nat) (p : LanePwr) (s : State), (pathOf s l).moving = some p → p ≠ .slackwater → (laneOf s l).pwr ≠ .slackwater →
    ∃ t, exec (.laneStateReached l) s = .next t ∧ laneOf t l = { laneOf s l with pwr := p } ∧ (pathOf t l).moving = none ∧ (pathOf t l).transmitting = decide (p = .active)) ∧
  (∀ (l : Nat) (s : State), (laneOf s l).pwr = .slackwater → (laneOf s l).energy = false → ∃ u, exec (.energyDetect l) s = .next (laneEv l 1 5 0 u) ∧ laneOf u l = { laneOf s l with energy := true })

/-- NATIVE_FRAME_RECEIVE on a lane of mode 1: when the symbols complete one frame of 80 blocks, in FRAME_HUNT a valid frame counts and is taken, an invalid one restarts the count and moves the candidate on by one block; in UP, outside loopback, its 75 blocks, corrected and descrambled, go to the Delta logic, marked bad when the decoder finds more than 16 symbol errors, and the counts of the FEC follow. NATIVE_FRAME_TRANSMIT on a lane that sends and is no member of a port takes 75 queued blocks (IDLE where there are none), scrambles them, adds the check blocks, and sends their symbols. (R176, R178, R179, R182, R193, R194) -/
def Obligations.NativeLanesCarryFrames : Prop :=
  (∀ (l : Nat) (syms : List Nat) (s : State), (laneOf s l).mode = 1 → (laneOf s l).rx = .frameHunt → (pathOf (lineIn l syms s) l).rxRaw.length = 5280 →
    ∃ t, exec (.nativeFrameReceive l syms) s = .next t ∧ t.delta = s.delta ∧
      (pathOf t l).goodFrames = (if frameValid (frontFrame (pathOf (lineIn l syms s) l)) then (pathOf (lineIn l syms s) l).goodFrames + 1 else 0) ∧
      (pathOf t l).rxRaw = (pathOf (lineIn l syms s) l).rxRaw.drop (if frameValid (frontFrame (pathOf (lineIn l syms s) l)) then 5280 else 66)) ∧
  (∀ (l : Nat) (syms : List Nat) (s : State), (laneOf s l).mode = 1 → (laneOf s l).rx = .up → (pathOf s l).loopMode = 0 → (pathOf (lineIn l syms s) l).rxRaw.length = 5280 →
    let fr := frontFrame (pathOf (lineIn l syms s) l)
    ∃ u last, exec (.nativeFrameReceive l syms) s = .next (deliverFrame l last (frameDecode fr).isNone (openBlocks (pathOf (lineIn l syms s) l).scrRx fr).1 u) ∧
      u.delta = s.delta ∧ (pathOf u l).rxRaw = [] ∧ (pathOf u l).scrRx = (openBlocks (pathOf (lineIn l syms s) l).scrRx fr).2 ∧
      (∀ bs n, frameDecode fr = some (bs, n) → (laneOf u l).fecCorr = min ((laneOf s l).fecCorr + n) 0xFFFFFFFF) ∧
      (frameDecode fr = none → (laneOf u l).fecUncorr = min ((laneOf s l).fecUncorr + 1) 0xFFFFFFFF)) ∧
  (∀ (l : Nat) (s : State), (laneOf s l).mode = 1 → sends s l = true → (pathOf s l).loopMode ≠ 2 → (pathOf s l).prbs = false → portOfLane s l = none →
    let data := ((pathOf s l).txBlocks ++ List.replicate 75 idleBlock).take 75
    let sc := runBlocks scrBit (pathOf s l).scrTx data
    let sy := laneSymbols (laneOf s l) (pathOf s l).preTx ((sc.1 ++ checkBlocks sc.1).foldl (fun b x => b ++ blockBits x) [])
    ∃ t, exec (.nativeFrameTransmit l) s = .next t ∧ pathOf t l = { pathOf s l with txBlocks := (pathOf s l).txBlocks.drop 75, scrTx := sc.2, preTx := sy.2, lastSymbols := sy.1 })

/-- PASS_BLOCK_RECEIVE in UP in modes 2 and 3, unscrambled and outside loopback: a block becomes a record of the stream, an error record when its header is invalid. PASS_STREAM_SEND presents the next bytes at the reach of RX_DST. TX_STREAM_WRITE of TX_SRC appends its bytes. PASS_BLOCK_TRANSMIT sends the next whole record. TX_SETTINGS_APPLY puts the next settings in force. ADAPTATION_UPDATE takes an admitted trial that lowers no margin. MARGIN_REFRESH holds the margin, with MARGIN_LOW below the warning level; CORR_WINDOW_END ends the window, with CORR_RATE above its level. EYE_SCAN_DONE writes the counts at the result address, adaptation resumes and the job ends DONE. (R184, R194, R195, R196, R198, R199, R201, R203, R205) -/
def Obligations.PassStreamsAndAdaptation : Prop :=
  (∀ (l : Nat) (syms : List Nat) (s : State), (laneOf s l).mode = 2 ∨ (laneOf s l).mode = 3 → (laneOf s l).scramble = false → (laneOf s l).rx = .up → (pathOf (lineIn l syms s) l).loopMode = 0 →
    (pathOf (lineIn l syms s) l).rxRaw.length = 66 →
    let b := bitsBlock (pathOf (lineIn l syms s) l).rxRaw
    ∃ u, exec (.passBlockReceive l syms) s = .next (dropBits l 66 (pushRecord l (if hdrValid b then b else { header := 2, payload := errorPayload }) u)) ∧
      (pathOf u l).rxBits = (pathOf (lineIn l syms s) l).rxBits ∧ u.delta = s.delta ∧ u.braid = s.braid) ∧
  (∀ (l n base : Nat) (s : State), 2 ≤ (laneOf s l).mode → l < 64 → 1 ≤ n → n ≤ 128 → 8 * n ≤ (pathOf s l).rxBits.length → (pathOf s l).rxBitsOff % streamWrap + n ≤ streamWrap → (laneOf s l).rxFlow = 0 → reachBase (laneOf s l).rxDst = some base →
    ∃ u, exec (.passStreamSend l n) s = .next (presentReq (0x20 + l / 4) (l % 4) { op := .wrp, addr := base + (pathOf s l).rxBitsOff % streamWrap, len := n, data := bitsBytes n (pathOf s l).rxBits } u).2 ∧
      (pathOf u l).rxBits = (pathOf s l).rxBits.drop (8 * n) ∧ (pathOf u l).rxBitsOff = (pathOf s l).rxBitsOff + n) ∧
  (∀ (pid l : Nat) (d : Delivered) (s : State), inboxAny s pid = some d → 0x20 ≤ d.ep → d.ep < 0x30 → d.pkt.addr < 0x10000000 → 0x100000 ≤ d.pkt.addr % 0x200000 → d.pkt.op ≠ .rd →
    l = 4 * (d.ep - 0x20) + (d.pkt.addr % 0x200000 - 0x100000) / 0x40000 → 2 ≤ (laneOf s l).mode → d.pkt.far = false → d.pkt.src = (laneOf s l).txSrc → (pathOf s l).txBits.length + 8 * d.pkt.data.length ≤ 32768 →
    ∃ u, exec (.txStreamWrite pid) s = .next (respondInbox d 10 .ok [] u) ∧ (pathOf u l).txBits = (pathOf s l).txBits ++ d.pkt.data.foldl (fun b x => b ++ lsbBits 8 x.toNat) []) ∧
  (∀ (l : Nat) (s : State), (laneOf s l).mode = 2 ∨ (laneOf s l).mode = 3 → sends s l = true → (pathOf s l).loopMode ≠ 2 → (pathOf s l).prbs = false → (laneOf s l).scramble = false → 65 ≤ (pathOf s l).txBits.length →
    let b : Block := { header := if (pathOf s l).txBits.headD false then 2 else 1, payload := bitsNum (((pathOf s l).txBits.drop 1).take 64) }
    ∃ t, exec (.passBlockTransmit l) s = .next t ∧ pathOf t l = { pathOf s l with txBits := (pathOf s l).txBits.drop 65, preTx := (laneSymbols (laneOf s l) (pathOf s l).preTx (blockBits b)).2, lastSymbols := (laneSymbols (laneOf s l) (pathOf s l).preTx (blockBits b)).1 }) ∧
  (∀ (l : Nat) (x : TxSet) (s : State), (laneOf s l).nextTx = some x → (laneOf s l).mode ≠ 0 → (laneOf s l).pwr ≠ .unset → ∃ t, exec (.txSettingsApply l) s = .next t ∧ laneOf t l = { laneOf s l with tx := x, nextTx := none }) ∧
  (∀ (l : Nat) (x : Trial) (s : State), (laneOf s l).rx = .up → (laneOf s l).frozen = false → trialOk (laneOf s l).coeffs x = true → x.marginFell = false → (laneOf s l).margin ≤ x.newMargin → x.movesCtle = false →
    ∃ t, exec (.adaptationUpdate l x) s = .next t ∧ laneOf t l = { laneOf s l with coeffs := x.coeffs, margin := min x.newMargin 255 }) ∧
  (∀ (l margin : Nat) (s : State), (laneOf s l).rx = .up → ∃ u, laneOf u l = { laneOf s l with margin := min margin 255 } ∧
    exec (.marginRefresh l margin) s = .next (if (laneOf s l).marginWarn ≠ 0 ∧ min margin 255 < (laneOf s l).marginWarn then laneEvLimited l 1 1 u else u)) ∧
  (∀ (l : Nat) (s : State), ∃ u, pathOf u l = { pathOf s l with corrWin := 0 } ∧
    exec (.corrWindowEnd l) s = .next (if (laneOf s l).corrWarn ≠ 0 ∧ (laneOf s l).corrWarn < (pathOf s l).corrWin then laneEv l 1 2 1 u else u)) ∧
  (∀ (l : Nat) (counts : List Nat) (c : Scan) (s t : State), (pathOf s l).scan = some c →
    let u := modPath l (fun p => { p with scan := none }) (modLane l (fun y => { y with frozen := false }) s)
    hwWrite c.result ((List.range (scanPoints c)).foldl (fun b i => b ++ leBytes 2 (min (counts.getD i 0) 0xFFFF)) []) u = some t → exec (.eyeScanDone l counts) s = .next (endJob c.job rcDone [] t))

/-- For a served message with LEN and TARGET in range: LANE_SET_MODE with good fields and settings, on a lane whose domain is on, is ACCEPTED with a job and starts the lane. LANE_SET_TAPS makes the settings the lane's next, DONE. LANE_LOAD_SLOT_TABLE with a readable image that passes replaces the slot table, DONE. LANE_STATE starts the move and waits for it. LANE_STATUS returns the lane's 56 bytes and, with CLEAR, zeroes its counters. LANE_EYE is ACCEPTED and freezes adaptation. DIAG_LOOPBACK puts the lane into the loopback of MODE. (R184, R185, R187, R188, R189, R199, R209, R214, R584, R587, R598) -/
def Obligations.LaneCommandsTakeEffect : Prop :=
  (∀ (v : Serving) (x : TxSet) (ctle : Option Nat) (s : State), Served s v 0x0200 14 laneTarget → modeArgsOk v = true → modeSettings s (pay v 1 1) (pay v 2 1) v.target = some (x, ctle) →
    (isPam4 (pay v 0 1) = true ∨ (x.txpre = false ∧ x.rxpre = false)) → s.dbg.fuses.grade ≠ 2 → jobOn s 0x0200 v.target = false → (laneOf s v.target).rx ≠ .up → portMember s v.target = false →
    (quadLanes (pllOf v.target)).any (fun m => m != v.target && (laneOf s m).mode != 0 && (laneOf s m).mode != pay v 0 1) = false → domOn s (laneDomain v.target) = true →
    exec .laneSetMode s = .next (setReply (rc rcAccepted) (startLane v.target (startJob v v.target s).1 v x ctle (startJob v v.target s).2))) ∧
  (∀ (v : Serving) (s : State), Served s v 0x0201 3 laneTarget → pay v 0 1 ≤ 16 → pay v 1 1 ≤ 24 → pay v 2 1 < 8 → domOn s (laneDomain v.target) = true →
    ((laneOf s v.target).mode = 0 ∨ isPam4 (laneOf s v.target).mode = true ∨ pay v 2 1 % 4 = 0) →
    ∃ u, exec .laneSetTaps s = .next (setReply (rc rcDone) u) ∧ u.lanes.slotTable = s.lanes.slotTable ∧
      (laneOf u v.target).nextTx = some { (laneOf s v.target).nextTx.getD (laneOf s v.target).tx with pre := pay v 0 1, post := pay v 1 1, txpre := bit (pay v 2 1) 0, rxpre := bit (pay v 2 1) 1, swing := bit (pay v 2 1) 2 }) ∧
  (∀ (v : Serving) (h img : List Byte) (s : State), Served s v 0x0202 16 noTarget → payZero v 0 8 = true → hwRead s (pay v 8 8) 16 = some h → slotHeaderBad h = none → hwRead s (pay v 8 8) (leAt h 8 4) = some img → slotTableBad img = none →
    ∃ u, exec .laneLoadSlotTable s = .next (setReply (rc rcDone) u) ∧ u.lanes.slotTable = (List.range (leAt h 6 2)).map (slotEntryAt img)) ∧
  (∀ (v : Serving) (s : State), Served s v 0x0203 1 laneTarget → pay v 0 1 ≤ 2 → jobOn s 0x0200 v.target = false → portMember s v.target = false → (laneOf s v.target).mode ≠ 0 → domOn s (laneDomain v.target) = true →
    exec .laneState s = .next (setReply (rc rcDone) (if (laneOf s v.target).pwr = lanePwrOf (pay v 0 1) ∧ (pathOf s v.target).moving = none then s else waitFor 1 (moveLane v.target (lanePwrOf (pay v 0 1)) s)))) ∧
  (∀ (v : Serving) (s : State), Served s v 0x0204 1 laneTarget → pay v 0 1 < 2 →
    exec .laneStatus s = .next (setReply { code := rcDone, result := laneStatusBytes (laneOf s v.target) } (if bit (pay v 0 1) 0 then modLane v.target clearLaneCounters s else s))) ∧
  (∀ (v : Serving) (s : State), Served s v 0x0205 16 laneTarget → scanOk v (laneOf s v.target).mode = true → (laneOf s v.target).rx = .up → (pathOf s v.target).scan = none →
    ∃ u, exec .laneEye s = .next (setReply (rc rcAccepted) u) ∧ (laneOf u v.target).frozen = true ∧ (pathOf u v.target).scan = some { scanOf v with job := s.ferry.nextJob } ∧
      u.ferry.jobs = s.ferry.jobs ++ [{ id := s.ferry.nextJob, ch := v.ch, seq := v.seq, opcode := v.opcode, obj := v.target }]) ∧
  (∀ (v : Serving) (s : State), Served s v 0x0A02 2 laneTarget → 1 ≤ pay v 0 1 → pay v 0 1 ≤ 2 → pay v 1 1 < 2 → portMember s v.target = false → (laneOf s v.target).mode ≠ 0 →
    jobOn s 0x0200 v.target = false → (pathOf s v.target).scan = none →
    ∃ u, exec .diagLoopback s = .next (setReply (rc rcDone) u) ∧ (pathOf u v.target).loopMode = pay v 0 1 ∧ (pathOf u v.target).prbs = bit (pay v 1 1) 0 ∧ (pathOf u v.target).prbsErr = 0 ∧ (pathOf u v.target).prbsBits = 0) ∧
  (∀ (v : Serving) (s : State), Served s v 0x0A02 2 laneTarget → pay v 0 1 = 0 → pay v 1 1 = 0 → portMember s v.target = false → (laneOf s v.target).mode ≠ 0 →
    jobOn s 0x0200 v.target = false → (pathOf s v.target).scan = none →
    exec .diagLoopback s = .next (setReply { code := rcDone, result := leBytes 8 (pathOf s v.target).prbsErr ++ leBytes 8 (pathOf s v.target).prbsBits } (loopOff v.target s).2))

/-- LINK_FLIT_RECEIVE: of a whole flit at the front of the port stream, with a right CRC, no bad block and the expected SEQ, on a port that is UP, the flit enters the receive buffer, RX SEQ moves on and an acknowledgement is owed; the first one that fails the CRC or is marked bad leaves the buffer and asks for a retry. LINK_FLIT_SEND on an HS port that is UP sends the oldest flit whose LVC has a credit and keeps it until acknowledged; a flit that is to be replayed goes first. LINKCTL_RECEIVE adds credits; LINKCTL_SEND returns at most 15 of each LVC. REPLAY_TIMEOUT: no advance for 4 µs resends every unacknowledged flit. (R221, R222, R223, R224, R225, R226, R227) -/
def Obligations.LinkFlitsCrossADeltaLink : Prop :=
  (∀ (p : Nat) (f : RxLinkFlit) (r : List RxBlk) (s : State), takeFlit (skipStream (p == 64) (portOf s p).rxStream).2 = some (f, r) →
    (portOf s p).st = .up → f.whole = true → f.crcOk = true → f.bad = false → f.seq = (portOf s p).rxSeq →
    ∃ t, exec (.linkFlitReceive p) s = .next t ∧ (portOf t p).rxBuf = (portOf s p).rxBuf ++ [(f.lvc, flitFrom f s.braid.nextPid)] ∧ (portOf t p).rxSeq = ((portOf s p).rxSeq + 1) % 512 ∧
      (portOf t p).ackPending = true ∧ (portOf t p).nakSent = false ∧ (portOf t p).rxStream = r) ∧
  (∀ (p : Nat) (f : RxLinkFlit) (r : List RxBlk) (s : State), takeFlit (skipStream (p == 64) (portOf s p).rxStream).2 = some (f, r) →
    f.crcOk = false ∨ f.bad = true → (portOf s p).nakSent = false →
    ∃ t, exec (.linkFlitReceive p) s = .next t ∧ (portOf t p).nakPending = true ∧ (portOf t p).nakSent = true ∧ (portOf t p).rxBuf = (portOf s p).rxBuf ∧ (portOf t p).rxSeq = (portOf s p).rxSeq ∧ (portOf t p).rxStream = r) ∧
  (∀ (p lvc : Nat) (f : Flit) (s : State), p < 64 → (portOf s p).st = .up → (portOf s p).resend = [] → (portOf s p).txq.find? (fun e => decide (0 < tget (portOf s p).credits 0 e.1)) = some (lvc, f) → (portOf s p).replay.length < 256 →
    let g : LinkFlit := { seq := (portOf s p).txSeq, lvc := lvc, flit := f }
    ∃ u, exec (.linkFlitSend p) s = .next (grantPort p (sendLinkFlit p g u)) ∧ (portOf u p).replay = (portOf s p).replay ++ [g] ∧ (portOf u p).txSeq = ((portOf s p).txSeq + 1) % 512 ∧
      tget (portOf u p).credits 0 lvc = tget (portOf s p).credits 0 lvc - 1 ∧ (portOf (sendLinkFlit p g u) p).txStream = (portOf s p).txStream ++ [.flit g]) ∧
  (∀ (p : Nat) (f : LinkFlit) (r : List LinkFlit) (s : State), p < 64 → (portOf s p).st = .up → (portOf s p).resend = f :: r →
    ∃ t, exec (.linkFlitSend p) s = .next t ∧ (portOf t p).resend = r ∧ (portOf t p).txStream = (portOf s p).txStream ++ [.flit f]) ∧
  (∀ (p : Nat) (b : RxBlk) (r : List RxBlk) (s : State), (skipStream (p == 64) (portOf s p).rxStream).2 = b :: r → isType b.block 0xD2 = true → crcBlockOk b.block = true → (portOf s p).st = .init →
    ∃ t, exec (.linkctlReceive p) s = .next t ∧ (∀ v, v < 8 → tget (portOf t p).credits 0 v = tget (portOf s p).credits 0 v + (linkctlOf b.block).credit.getD v 0) ∧
      (portOf t p).initSeen = ((portOf s p).initSeen || (linkctlOf b.block).init) ∧ (portOf t p).rxStream = r) ∧
  (∀ (p : Nat) (s : State), (portOf s p).st = .up → ∃ b u, exec (.linkctlSend p) s = .next (pushBlocks p [b] u) ∧ (portOf u p).nakPending = false ∧ ∀ v, v < 8 → tget (portOf u p).freed 0 v = tget (portOf s p).freed 0 v - min 15 (tget (portOf s p).freed 0 v)) ∧
  (∀ (p : Nat) (s : State), (portOf s p).st = .up → (portOf s p).replay ≠ [] → (portOf s p).ackAt + 4 * usCycles ≤ s.time →
    ∃ u, exec (.replayTimeout p) s = .next (replayRate p (portCount p 4 1 u)) ∧ (portOf u p).resend = (portOf s p).replay ∧ (portOf u p).replays = (portOf s p).replays + 1)

/-- PORT_INIT of a waiting port whose lanes are UP, with no more than 8 block times of skew, empties its link layer and gives 32 credits of each LVC back. PORT_UP once both ends have exchanged INIT and every credit puts it UP with its FLIGHT. PORT_DOWN of a port that is UP, for a cause that holds. DELTA_PACKET_ENTRY: the oldest whole packet that can go on enters. KEY_SWITCH_APPLY: the link encrypts with the other slot. TOKEN_ARRIVAL: a request waits for room. (R219, R220, R225, R232, R237, R240, Table 6.3) -/
def Obligations.DeltaPortsComeUpAndGoDown : Prop :=
  (∀ (p : Nat) (s : State), (portOf s p).st = .waitLanes → (portOf s p).width ≠ 0 → lanesUp s p = true → skewOk s p = true →
    ∃ t, exec (.portInit p) s = .next t ∧ (portOf t p).st = .init ∧ (portOf t p).txSeq = 0 ∧ (portOf t p).rxSeq = 0 ∧ (portOf t p).replay = [] ∧ (∀ v, v < 8 → tget (portOf t p).freed 0 v = 32) ∧ ∀ q, q ≠ p → portOf t q = portOf s q) ∧
  (∀ (p flight : Nat) (s : State), initDone s p = true → ∃ u, exec (.portUp p flight) s = .next (portEv p 1 0 u) ∧ portOf u p = { portOf s p with st := .up, flight := flight % 65536, ackAt := s.time }) ∧
  (∀ (p cause : Nat) (s : State), (portOf s p).st = .up → downCause s p cause = true → exec (.portDown p cause) s = .next (portFall p cause s)) ∧
  (∀ (p lvc n : Nat) (f : Flit) (q : Packet) (s : State), p < 64 → (portOf s p).rxBuf.find? (fun e => canEnter s p e.1) = some (lvc, f) → frontPacket s p lvc = some (q, n) →
    exec (.deltaPacketEntry p) s = .next (if leaving s q then enterForward p lvc n q s else enterLocal p lvc n q s)) ∧
  (∀ (p lvc n : Nat) (q : Packet) (s : State), q.vc ≠ 2 → q.op ≠ .rsp → epListed q.dst = true → fenced s q.dst = false →
    (niOf (enterLocal p lvc n q s) (portNi p)).queue = (niOf (freeFront p lvc n s) (portNi p)).queue ++ [{ q with agent := 16 + 8 * (p % 4) + lvc }]) ∧
  (∀ (link : Nat) (s : State), link ∈ s.crypto.switching → ∃ u, exec (.keySwitchApply link) s = .next (modFerry (raiseEvAt (some (portNi link)) 467 2 0 (leBytes 1 link) u) (fun f => { f with serving := f.serving.map (fun v => if v.opcode = 0x0506 ∧ v.target = link then { v with waitingFor := 0 } else v) })) ∧
    (portOf u link).keysel = 1 - (portOf s link).keysel ∧ link ∉ u.crypto.switching) ∧
  (∀ (id n l pid : Nat) (k : Token) (s : State), s.braid.tokens.find? (fun t => t.id == id) = some k → k.kind = .request n l pid → k.waiting = false →
    ∃ u, exec (.tokenArrival id) s = .next (grantPort (l / 8) u) ∧ u.braid.tokens = s.braid.tokens.filter (fun x => x.id != id) ++ [{ k with waiting := true }])

/-- DELTA_PORT_SET, on member lanes in native mode that no other port holds, disables a port, leaving of it only the room it has reserved, or enables a disabled port: it then waits for its lanes. FAR_ROUTE_LOAD with a readable image that passes makes its table the next far table of every NI and answers the numbers of records taken and ignored. (R217, R218, R234, R235, R630, R593) -/
def Obligations.DeltaCommandsTakeEffect : Prop :=
  (∀ (v : Serving) (s : State), Served s v 0x0800 6 (fun t => decide (t < 64)) → portShape v.target (pay v 0 1) = true → pay v 1 1 < 16 → pay v 2 1 < 4 → pay v 3 1 = 0 → pay v 4 2 < 16384 → s.dbg.fuses.grade ≠ 2 → bit (pay v 1 1) 2 = false → bit (pay v 1 1) 0 = false →
    (∀ k, k < pay v 0 1 → otherMember s v.target (v.target + k) = false ∧ (laneOf s (v.target + k)).mode = 1) →
    ∃ u, exec .deltaPortSet s = .next (setReply (portResult u v.target) u) ∧ (portOf u v.target).st = .disabled ∧ (portOf u v.target).width = 0 ∧ (portOf u v.target).txq = []) ∧
  (∀ (v : Serving) (s : State), Served s v 0x0800 6 (fun t => decide (t < 64)) → portShape v.target (pay v 0 1) = true → pay v 1 1 < 16 → pay v 2 1 < 4 → pay v 3 1 = 0 → pay v 4 2 < 16384 → s.dbg.fuses.grade ≠ 2 → (bit (pay v 1 1) 2 = true → s.dbg.fuses.cryptoS = true) → bit (pay v 1 1) 0 = true →
    (∀ k, k < pay v 0 1 → otherMember s v.target (v.target + k) = false ∧ (laneOf s (v.target + k)).mode = 1) → (portOf s v.target).st = .disabled →
    ∃ u, exec .deltaPortSet s = .next (setReply (portResult u v.target) u) ∧ (portOf u v.target).st = .waitLanes ∧ (portOf u v.target).width = pay v 0 1 ∧ (portOf u v.target).dateline = bit (pay v 1 1) 1 ∧ (portOf u v.target).encrypt = bit (pay v 1 1) 2 ∧
      (portOf u v.target).bind = (if bit (pay v 1 1) 3 then some (102 + pay v 2 1, pay v 4 2) else none)) ∧
  (∀ (v : Serving) (h img : List Byte) (s : State), Served s v 0x0801 16 noTarget → payZero v 0 8 = true → hwRead s (pay v 8 8) 32 = some h → farHeaderBad h = none → hwRead s (pay v 8 8) (leAt h 8 4) = some img → farImageBad s img = none →
    let tbl := farTable img s.delta.deviceId
    ∃ u, exec .farRouteLoad s = .next (setReply { code := rcDone, result := leBytes 2 tbl.length ++ leBytes 2 (leAt img 6 2 - tbl.length) } (waitFor 1 u)) ∧ u.delta.far = tbl ∧ u.delta.farOld = s.delta.far ∧ ∀ ep, epListed ep = true → ep < 0x70 → ep ∈ u.delta.farPending)

/-- TWIN_PAIR of an unpaired member with its Twin lanes UP is ACCEPTED and starts pairing. PAIRING_DONE over an UP link gives the role and ends the job; PAIR_TIMEOUT ends it TIMEOUT after 1 s. HEARTBEAT_ARM arms a member that beats, while Headwater serves and no fatal fence holds at the active; HEARTBEAT_SEND sends an armed heartbeat every 100 µs with an edge of TWIN_HB; HEARTBEAT_ARM_TIMEOUT fences an active member that has armed none for 200 µs. HEARTBEAT_RECEIVE of HANDOVER makes a hot standby take over; that of a hot standby at the active ends the misses and marks the partner hot. HEARTBEAT_MISSED: the first miss is a warning, the third with a silent pin is a takeover. TWIN_HB_IN_EDGE marks the edge. TWIN_SWITCHOVER of the active asks for a handover. (R241, R247, R248, R250, R594, R596, Table 6.12) -/
def Obligations.TwinMembersPairAndTakeOver : Prop :=
  (∀ (v : Serving) (s : State), Served s v 0x0802 5 noTarget → pay v 0 2 < 16384 → pay v 2 1 < 2 → pay v 3 1 < 2 → pay v 4 1 = 0 → s.twin.role = .unpaired → s.twin.pairing = none → domOn s 85 = true →
    (∀ l, 64 ≤ l → l < 68 → (laneOf s l).mode = 1 ∧ (laneOf s l).rx = .up) →
    ∃ u, exec .twinPair s = .next (setReply (rc rcAccepted) u) ∧ u.twin.pairId = pay v 0 2 ∧ u.twin.member = pay v 2 1 ∧ u.twin.pairing = some (pay v 3 1, s.ferry.nextJob, s.time) ∧ (portOf u 64).st ≠ .disabled) ∧
  (∀ (p : PairReply) (want job t0 : Nat) (s : State), s.twin.pairing = some (want, job, t0) → (portOf s 64).st = .up → pairRole want s.twin.member p = .active →
    ∃ w, exec (.pairingDone p) s = .next (endJob job rcDone (leBytes 4 p.m ++ leBytes 1 0) (forAll s.twin.windows (fun u x => fillBitmap x.2 0xFF u) w)) ∧ w.twin.role = .active ∧ w.twin.m = p.m ∧ w.twin.pairing = none ∧ w.delta.deviceId = s.twin.pairId) ∧
  (∀ (p : PairReply) (want job t0 : Nat) (s : State), s.twin.pairing = some (want, job, t0) → (portOf s 64).st = .up → pairRole want s.twin.member p = .standbyHot →
    ∃ w, exec (.pairingDone p) s = .next (endJob job rcDone (leBytes 4 p.m ++ leBytes 1 1) (enterStandby w)) ∧ w.twin.m = p.m ∧ w.twin.pairing = none ∧ w.delta.deviceId = s.twin.pairId) ∧
  (∀ (want job t0 : Nat) (s : State), s.twin.pairing = some (want, job, t0) → s.twin.role = .unpaired → t0 + 1000 * msCycles ≤ s.time →
    ∃ u, exec .pairTimeout s = .next (endJob job rcTimeout [] u) ∧ u.twin.pairing = none ∧ (portOf u 64).st = .disabled) ∧
  (∀ s : State, beats s = true → s.ferry.ready = true → ¬ (s.twin.role = .active ∧ s.events.fatalN = true ∧ s.events.fatalFence = true) → ∃ t, exec .heartbeatArm s = .next t ∧ t.twin.armed = true ∧ t.twin.armedAt = s.time) ∧
  (∀ s : State, beats s = true → s.twin.armed = true → s.twin.handover = false → (portOf s 64).st ≠ .up → s.twin.lastSent + 100 * usCycles ≤ s.time →
    ∃ t, exec .heartbeatSend s = .next t ∧ t.twin.armed = false ∧ t.twin.lastSent = s.time ∧ t.twin.hbSeq = (s.twin.hbSeq + 1) % 2 ^ 32 ∧ t.twin.twinHb = !s.twin.twinHb) ∧
  (∀ s : State, beats s = true → s.twin.armed = true → s.twin.handover = false → (portOf s 64).st = .up → s.twin.lastSent + 100 * usCycles ≤ s.time →
    ∃ u, exec .heartbeatSend s = .next (pushBlocks 64 [heartbeatBlock (hbRole s.twin) s.twin.member ((s.twin.hbSeq + 1) % 2 ^ 32) s.twin.epoch] u) ∧ u.twin.armed = false ∧ u.twin.twinHb = !s.twin.twinHb) ∧
  (∀ s : State, s.twin.role = .active → s.twin.armedAt + 200 * usCycles ≤ s.time → exec .heartbeatArmTimeout s = .next (twinDone 0x0804 (fence s))) ∧
  (∀ (b : RxBlk) (r : List RxBlk) (s : State), (skipStream true (portOf s 64).rxStream).2 = b :: r → isType b.block 0xD3 = true → (heartbeatOf b.block).crcOk = true → (heartbeatOf b.block).role = 3 → s.twin.role = .standbyHot →
    ∃ u, exec .heartbeatReceive s = .next (takeover 1 u) ∧ u.twin.lastHb = s.time ∧ u.twin.missed = 0 ∧ u.twin.partnerHot = false) ∧
  (∀ (b : RxBlk) (r : List RxBlk) (s : State), (skipStream true (portOf s 64).rxStream).2 = b :: r → isType b.block 0xD3 = true → (heartbeatOf b.block).crcOk = true → (heartbeatOf b.block).role = 2 → s.twin.role = .active →
    ∃ t, exec .heartbeatReceive s = .next t ∧ t.twin = { s.twin with lastHb := s.time, missed := 0, partnerHot := true }) ∧
  (∀ s : State, beats s = true → s.twin.missed = 0 → s.twin.lastHb + 110 * usCycles ≤ s.time → ∃ u, exec .heartbeatMissed s = .next (raiseEv 472 1 1 [] u) ∧ u.twin.missed = 1) ∧
  (∀ s : State, s.twin.role = .standbyHot → s.twin.missed = 2 → s.twin.lastHb + 110 * usCycles * 3 ≤ s.time → pinSilent s = true →
    ∃ u, exec .heartbeatMissed s = .next (takeover 1 (raiseEv 472 2 2 [] u)) ∧ u.twin.missed = 3) ∧
  (∀ s : State, ∃ t, exec .twinHbInEdge s = .next t ∧ t.twin.lastEdge = s.time ∧ t.twin.edges = s.twin.edges + 1) ∧
  (∀ (v : Serving) (s : State), Served s v 0x0804 0 noTarget → s.twin.role = .active → ∃ u, exec .twinSwitchover s = .next (setReply (rc rcDone) (waitFor 1 u)) ∧ u.twin.handover = true) ∧
  (∀ (v : Serving) (s : State), Served s v 0x0804 0 noTarget → s.twin.role = .fenced → mayTakeOver s = true → exec .twinSwitchover s = .next (setReply (rc rcDone) (takeover 1 s)))

/-- TWIN_MIRROR SET of a window of whole MiB in DRAM, with an aligned unsealed bitmap in DRAM outside it, while fewer than eight windows are set and none but that slot's own, is DONE: the window is TRACKED, with all its pages dirty and its bitmap filled with ones, on the active, and INACTIVE with its bitmap zeroed on any other role. CLEAR of a window with no forwarded write under way removes it, DONE. RESYNC on the active whose link is UP and whose partner is hot, with no resynchronization under way, is ACCEPTED with a job. (R245, R595) -/
def Obligations.MirrorWindowsAreSetAndCleared : Prop :=
  (∀ (v : Serving) (s : State), Served s v 0x0803 32 (fun t => decide (t < 8 ∨ t = 0xFFFF)) → v.target < 8 → pay v 0 1 = 0 → payZero v 1 8 = true → otherWindows s v.target = [] → s.twin.windows.length < 8 → pay v 16 8 ≠ 0 → pay v 8 8 % 1048576 = 0 → pay v 16 8 % 1048576 = 0 → inDram (pay v 8 8) (pay v 16 8) = true →
    pay v 16 8 ≤ 17179869184 → pay v 24 8 % 64 = 0 → inDram (pay v 24 8) (pay v 16 8 / 32768) = true → meetsSealed s (pay v 24 8) (pay v 16 8 / 32768) = false → overlaps (pay v 24 8) (pay v 16 8 / 32768) (pay v 8 8) (pay v 16 8) = false → s.twin.role ≠ .active →
    let w : Window := { start := pay v 8 8, length := pay v 16 8, bitmap := pay v 24 8, st := .inactive }
    ∃ u, exec .twinMirror s = .next (setReply (rc rcDone) (fillBitmap w 0 u)) ∧ tfind u.twin.windows v.target = some w ∧ u.twin.dirty = s.twin.dirty) ∧
  (∀ (v : Serving) (s : State), Served s v 0x0803 32 (fun t => decide (t < 8 ∨ t = 0xFFFF)) → v.target < 8 → pay v 0 1 = 0 → payZero v 1 8 = true → otherWindows s v.target = [] → s.twin.windows.length < 8 → pay v 16 8 ≠ 0 → pay v 8 8 % 1048576 = 0 → pay v 16 8 % 1048576 = 0 → inDram (pay v 8 8) (pay v 16 8) = true →
    pay v 16 8 ≤ 17179869184 → pay v 24 8 % 64 = 0 → inDram (pay v 24 8) (pay v 16 8 / 32768) = true → meetsSealed s (pay v 24 8) (pay v 16 8 / 32768) = false → overlaps (pay v 24 8) (pay v 16 8 / 32768) (pay v 8 8) (pay v 16 8) = false → s.twin.role = .active →
    let w : Window := { start := pay v 8 8, length := pay v 16 8, bitmap := pay v 24 8, st := .tracked }
    ∃ u, exec .twinMirror s = .next (setReply (rc rcDone) (fillBitmap w 0xFF u)) ∧ tfind u.twin.windows v.target = some w ∧
      u.twin.dirty = s.twin.dirty ++ (List.range (pay v 16 8 / 4096)).map (fun k => pay v 8 8 / 4096 + k)) ∧
  (∀ (v : Serving) (w : Window) (s : State), Served s v 0x0803 32 (fun t => decide (t < 8 ∨ t = 0xFFFF)) → v.target < 8 → pay v 0 1 = 1 → payZero v 1 8 = true → tfind s.twin.windows v.target = some w → windowBusy s w = false →
    exec .twinMirror s = .next (setReply (rc rcDone) (dropWindow v.target w s))) ∧
  (∀ (v : Serving) (s : State), Served s v 0x0803 32 (fun t => decide (t < 8 ∨ t = 0xFFFF)) → v.target = 0xFFFF → pay v 0 1 = 2 → payZero v 1 8 = true → s.twin.role = .active → (portOf s 64).st = .up → s.twin.partnerHot = true → s.twin.resyncJob = none →
    ∃ u, exec .twinMirror s = .next (setReply (rc rcAccepted) u) ∧ u.twin.resyncJob = some s.ferry.nextJob ∧ u.twin.copied = [])

/-- While the clocks of Twin run: MIRROR_FORWARD with the link UP and room for it sends the channel's oldest write not yet sent, in flits on LVC 0; RESYNC_PAGE_COPY with no dirty page ends the resynchronization, with EV471 RESYNCED, its job DONE, and no window TRACKED any more; with room it queues the 16 pieces of the first dirty page not yet copied that no channel still holds a write to. MIRROR_COMPLETION with OK ends the oldest sent write of the channel that the answer names; any other STATUS also marks its page dirty and makes the windows TRACKED; either way a non-posted write is answered OK. (R243, R244, R245, R246) When a dirty page is clean again, and that a copy runs under KID 0, is the model's reading (log entry 18). -/
def Obligations.MirroredWritesAreForwardedAndCompleted : Prop :=
  (∀ (c : Nat) (m : Mirrored) (s : State), clockStopped s 85 = false → s.twin.queue.find? (fun m => m.channel == c && !m.sent) = some m → (portOf s 64).st = .up → flitCount (mirrorPacket s m) ≤ roomOn (portOf s 64) 0 →
    ∃ u, exec (.mirrorForward c) s = .next (unhold c (mirrorLag u)) ∧ u.twin.queue = markSent s.twin.queue c ∧ u.twin.windows = s.twin.windows ∧ u.dram = s.dram ∧
      (portOf u 64).txq = (portOf s 64).txq ++ (flitsOf (mirrorPacket s m)).map (fun f => (0, { f with at_ := s.time }))) ∧
  (∀ (c : Nat) (r : List (Nat × Status)) (m : Mirrored) (s : State), s.twin.answers = (c, .ok) :: r → s.twin.queue.find? (fun m => m.channel == c && m.sent) = some m → m.copy = false →
    ∃ u, exec .mirrorCompletion s = .next (clearDone (mirrorLag (mirrorAnswer m u))) ∧ u.twin.queue = dropFirst (fun m => m.channel == c && m.sent) s.twin.queue ∧ u.twin.answers = r ∧ u.twin.windows = s.twin.windows ∧ u.twin.dirty = s.twin.dirty) ∧
  (∀ (c : Nat) (st : Status) (r : List (Nat × Status)) (m : Mirrored) (s : State), s.twin.answers = (c, st) :: r → st ≠ .ok → s.twin.queue.find? (fun m => m.channel == c && m.sent) = some m →
    ∃ u, exec .mirrorCompletion s = .next (clearDone (mirrorLag (mirrorAnswer m (trackedEntry (markDirty m.addr u))))) ∧ u.twin.queue = dropFirst (fun m => m.channel == c && m.sent) s.twin.queue ∧ u.twin.answers = r) ∧
  (∀ (m : Mirrored) (s : State), nonPosted m.pkt.op = true → mirrorAnswer m s = respond (0x10 + m.channel) m.pkt m.at_ (m.t + s.twin.m) .ok m.old [] false s) ∧
  (∀ (j : Nat) (s : State), clockStopped s 85 = false → s.twin.resyncJob = some j → s.twin.dirty = [] →
    ∃ u, exec .resyncPageCopy s = .next (endJob j rcDone [] (raiseEv 471 3 2 [] u)) ∧ u.twin.resyncJob = none ∧ ∀ w ∈ u.twin.windows, w.2.st ≠ .tracked) ∧
  (∀ (j page : Nat) (s : State), clockStopped s 85 = false → s.twin.resyncJob = some j → s.twin.dirty ≠ [] → s.twin.dirty.find? (fun p => !(s.twin.copied.contains p) && !(pageQueued s p)) = some page → mirrorFlits s + 48 ≤ 1024 →
    ∃ u, exec .resyncPageCopy s = .next (mirrorLag u) ∧ u.twin.copied = s.twin.copied ++ [page] ∧ u.twin.queue = s.twin.queue ++ (List.range 16).map (fun i => copyPiece page i s) ∧ u.twin.dirty = s.twin.dirty)

/-- STATE_MIRROR_APPLY on a hot standby whose Twin link is UP: a route table of a listed NI becomes that NI's table by a swap; a calendar that passes its checks, with no commit pending, is shadow and pending commit; one that meets a pending commit waits; a far table becomes the far table of every NI; a log entry is logged; with MIRROR_KEYS an installed or emptied key slot and a link key slot are set. An item that could not be applied raises EV471 with cause 1. On the active the partner's answer to an item it has been sent takes the item off, with EV471 when it was not applied. (R242, Table 6.10) -/
def Obligations.TheStandbyAppliesMirroredState : Prop :=
  (∀ (ni : Nat) (x : Tbl Nat) (s : State), s.twin.role = .standbyHot → (portOf s 64).st = .up → epListed ni = true →
    exec (.stateMirrorApply (.routes ni x) true) s = .next (niTableSwap ni (modNi ni (fun n => { n with shadow := x, shadowOk := true, swapPending := true }) s))) ∧
  (∀ (img : List Byte) (s : State), s.twin.role = .standbyHot → (portOf s 64).st = .up → s.sluice.commitB = none → calendarFault s img = none →
    ∃ t, exec (.stateMirrorApply (.calendar img) true) s = .next t ∧ t.sluice.shadow = (recordOffsets img 32 (leAt img 6 2)).1.map (flowOf img) ∧ t.sluice.commitB = some (boundaryAfter (braidNow s)) ∧ t.sluice.commitKind = .command ∧ t.sluice.committed = s.sluice.committed) ∧
  (∀ (img : List Byte) (b : Nat) (s : State), s.twin.role = .standbyHot → (portOf s 64).st = .up → s.sluice.commitB = some b →
    ∃ t, exec (.stateMirrorApply (.calendar img) true) s = .next t ∧ t.twin.mirrorCal = some img ∧ t.sluice = s.sluice) ∧
  (∀ (x : Tbl Nat) (s : State), s.twin.role = .standbyHot → (portOf s 64).st = .up → ∃ t, exec (.stateMirrorApply (.farTable x) true) s = .next t ∧ t.delta.far = x ∧ t.delta.farOld = x ∧ t.delta.farPending = []) ∧
  (∀ (c o q r tb : Nat) (s : State), s.twin.role = .standbyHot → (portOf s 64).st = .up →
    exec (.stateMirrorApply (.log c o q r tb) true) s = .next (addLog { ch := c, opcode := o, seq := q, code := r, timebase := tb } s)) ∧
  (∀ (kid m : Nat) (key : List Byte) (s : State), s.twin.role = .standbyHot → (portOf s 64).st = .up → s.twin.mirrorKeys = true → kidTarget kid = true →
    exec (.stateMirrorApply (.keySlot kid m key) true) s = .next (setSlot kid (if key.isEmpty then {} else { st := .installed, sealedMode := m, key := key }) s)) ∧
  (∀ (l d k salt : Nat) (key : List Byte) (s : State), s.twin.role = .standbyHot → (portOf s 64).st = .up → s.twin.mirrorKeys = true → l ≤ 64 → d < 2 → k < 2 →
    exec (.stateMirrorApply (.linkKey l d k key salt) true) s = .next (modLinkSlot l d k (fun _ => { key := key, salt := salt }) s)) ∧
  (∀ (i : MirrorItem) (s : State), s.twin.role = .standbyHot → (portOf s 64).st = .up → exec (.stateMirrorApply i false) s = .next (raiseEv 471 1 2 [] s)) ∧
  (∀ (i : MirrorItem) (s : State), s.twin.role = .active → (portOf s 64).st = .up → s.twin.outbox.contains (.item i) = true →
    ∃ t, exec (.stateMirrorApply i true) s = .next t ∧ t.twin.outbox = s.twin.outbox.erase (.item i) ∧ exec (.stateMirrorApply i false) s = .next (raiseEv 471 1 2 [] t))

/-- BUNDLE_ISSUE: an engine that can issue, is not asked to stop and fetches a bundle without fault issues it, or freezes for the cycle when port A has just written a decision word and the bundle needs the memory; a fault found in it becomes the pending exception with its cause, slot and address. While the quad clocks run: OPERATION_RESULT brings due results to their registers; DECISION_WRITE stores the oldest decision word and notes port A; RLD_COMPLETION writes RLAST with STATUS and WAIT, ends the freeze and with OK brings the value to its register (both registers for a wide load), else makes POISON or BUS the pending exception; INTERRUPT_ENTRY at a clean boundary saves pc and ST in EPC and EST and goes to IVEC; EXCEPTION_ENTRY, after the operations in flight and the waiting decision words, goes to EVEC with EXC_PC, ENG_EXC and EXC_ADDR written; with EXC_HALT 1, or as a double fault, it halts the engine with its event and EPC written. TICKET_COMPLETION stores the data of an RGET, frees the ticket with STATUS and WAIT and ends the freezes on it. INTERRUPT_INPUT_RISE raises the line. DEBUG_HALT of a waiting engine puts it into DEBUG. (The delivery of the value with its latency over is log entry 102.) (R254, R263, R279, R285, R287, R288, R292, R294, R298, R299, R541) -/
def Obligations.EnginesIssueAndTakeExceptions : Prop :=
  (∀ (k x y z : Nat) (s t : State), canIssue s k = true → (engOf s k).stopReq = false → fetchBundle k s = (some (x, y, z), t) → bundleFault s (engOf s k) x y z = none → decConflict (engOf s k) y = false → exec (.bundleIssue k) s = .next (issueBundle k x y z t)) ∧
  (∀ (k x y z : Nat) (s t : State), canIssue s k = true → (engOf s k).stopReq = false → fetchBundle k s = (some (x, y, z), t) → bundleFault s (engOf s k) x y z = none → decConflict (engOf s k) y = true → exec (.bundleIssue k) s = .next (modEng k (fun u => { u with stall := some u.r.cyc }) t)) ∧
  (∀ (k x y z c slot a : Nat) (s t : State), canIssue s k = true → (engOf s k).stopReq = false → fetchBundle k s = (some (x, y, z), t) → bundleFault s (engOf s k) x y z = some (c, slot, a) →
    exec (.bundleIssue k) s = .next (setFault k c slot a t)) ∧
  (∀ (k : Nat) (s : State), clockStopped s (6 + k / 4) = false → isFrozen (engOf s k) = false → dueNow (engOf s k) = true → ∃ t, exec (.operationResult k) s = .next t ∧ engOf t k = landDue (engOf s k) ∧ ∀ j, j ≠ k → engOf t j = engOf s j) ∧
  (∀ (k a : Nat) (w : BitVec 64) (rest : List (Nat × Nat × BitVec 64)) (s : State), clockStopped s (6 + k / 4) = false → (engOf s k).decWords = (0, a, w) :: rest → isFrozen (engOf s k) = false →
    exec (.decisionWrite k) s = .next (modEng k (fun t => { t with decWords := rest, decAt := some t.r.cyc }) (writeWords (dmBase k + a / 8 * 8) (leBytes 8 w.toNat) (fun _ => false) (noteA k ((dmBase k + a / 8 * 8) / 8) s)))) ∧
  (∀ (k gid reg pc addr order : Nat) (wide ds : Bool) (c : Completion) (s t : State), clockStopped s (6 + k / 4) = false → (engOf s k).frozen = some (.remote gid reg wide pc addr order ds) → takeCompletion gid s = some (c, t) →
    ∃ u, exec (.rldCompletion k) s = .next u ∧ (engOf u k).frozen = none ∧ (engOf u k).r.rlast = statusCode c.status * 65536 + c.wait ∧
      (c.status = .ok → (engOf u k).pend = (engOf t k).pend ∧ (engOf u k).inFlight = (engOf t k).inFlight ++ [{ left := 0, dest := .g reg, val := BitVec.ofNat 160 (leAt c.data 0 (if wide then 8 else 4)), order := order }] ++
        (if wide then [{ left := 0, dest := .g (reg + 1), val := BitVec.ofNat 160 (leAt c.data 0 8 / 2 ^ 32), order := order }] else [])) ∧
      (c.status ≠ .ok → (engOf u k).inFlight = (engOf t k).inFlight ∧ (engOf u k).pend = some { cause := if c.status = .okPoison then 6 else 7, slot := 1, status := statusCode c.status, pc := pc, epc := (engOf t k).pc, addr := addr, dslot := ds })) ∧
  (∀ (k ticket : Nat) (c : Completion) (s t : State), (tget (engOf s k).tickets {} ticket).busy = true → takeCompletion (tget (engOf s k).tickets {} ticket).gid s = some (c, t) →
    ∃ u, exec (.ticketCompletion k ticket) s = .next (endTicketFreeze k ticket u) ∧ (tget (engOf u k).tickets {} ticket).busy = false ∧ (tget (engOf u k).tickets {} ticket).status = c.status ∧ (tget (engOf u k).tickets {} ticket).wait = c.wait ∧
      u.mems = (if (tget (engOf s k).tickets {} ticket).get then storeParts k (tget (engOf s k).tickets {} ticket).localAddr c t else t).mems) ∧
  (∀ (k line : Nat) (s : State), k < 96 → line < 16 → exec (.interruptInputRise k line) s = .next (raiseLine k line s)) ∧
  (∀ (k : Nat) (s : State), clockStopped s (6 + k / 4) = false → (engOf s k).st = .running → cleanAt (engOf s k) = true → irqPending (engOf s k) = true → (engOf s k).haltReq = false → (engOf s k).stepping = false → (engOf s k).stopReq = false → (engOf s k).pend = none →
    ∃ t, exec (.interruptEntry k) s = .next t ∧ engOf t k = enterInterrupt (engOf (writeDecisions k s) k) ∧ (∀ j, j ≠ k → engOf t j = engOf (writeDecisions k s) j)) ∧
  (∀ (k : Nat) (p : PendExc) (s : State), clockStopped s (6 + k / 4) = false → (engOf s k).pend = some p → (engOf s k).st = .running ∨ (engOf s k).st = .wfi → isFrozen (engOf s k) = false →
    let d : Engine := drain { engOf (writeDecisions k s) k with pend := none }
    let f : Engine := { d with excInfo := excWord d p (if bit (stReg d) 7 then 9 else p.cause), excPc := p.pc % 8192, excAddr := if p.cause = 3 ∨ p.cause = 4 ∨ p.cause = 6 ∨ p.cause = 7 then p.addr else 0 }
    (bit (stReg d) 7 = false → d.excHalt = false → exec (.exceptionEntry k) s = .next (modEng k (fun _ => enterException p f) (writeDecisions k s))) ∧
    (bit (stReg d) 7 = true ∨ d.excHalt = true → exec (.exceptionEntry k) s = .next (engEv k (if bit (stReg d) 7 then 3 else 1) 2 (modEng k (fun _ => { setSrRaw 24 p.epc f with st := .halted, pc := p.epc, branch := none, retSt := none, pend := none }) (writeDecisions k s))))) ∧
  (∀ (k : Nat) (s : State), (engOf s k).haltReq = true → (engOf s k).st = .wfi → exec (.debugHalt k) s = .next (enterDebug k s))

/-- ENG_CTRL with RESET resets the engine, without it RUN and EXC_HALT take effect: an engine in RESET starts at ENG_START. QM_DESC starts a channel that does not run; QM_CTRL with ABORT stops a running one after its requests; ENG_WDT = 0xA5 sends a kick over Rill. DESCRIPTOR_START reads a good descriptor and goes on with the channel. MOVER_PIECE_COMPLETION of a read issues its write, of a write ends the piece. PORT_B_ACCESS serves the request; a write or ATOM of data memory whose word collides waits to retry with the words before it written, a WR that does not collide is written whole and answered OK. PORT_B_RETRY, in its engine cycle, goes on from that word when it collides no more, counts a further collision, and ends the request COLLIDE at the fourth. WATCHDOG_WARN raises EV432 at half of TIMEOUT, WATCHDOG_EXPIRY at its end performs ACTION. (Table 7.13, Table 7.17, R304, R305, R308, R309, R310, R311, R313, R520, R521) -/
def Obligations.EngineControlMoverAndPortB : Prop :=
  (∀ (pid k v : Nat) (d : Delivered) (s : State), engWrite s pid 0x1000 0x100 0 = some (d, k, v) → bit v 1 = true → exec (.engineReset pid) s = .next (writeDone d (resetEngine k s))) ∧
  (∀ (pid k v : Nat) (d : Delivered) (s : State), engWrite s pid 0x1000 0x100 0 = some (d, k, v) → bit v 1 = false → (engOf s k).st = .reset → bit v 0 = true →
    ∃ u, exec (.run pid) s = .next (writeDone d u) ∧ (engOf u k).st = .running ∧ (engOf u k).pc = (engOf s k).start ∧ (engOf u k).excHalt = bit v 2 ∧ ∀ j, j ≠ k → engOf u j = engOf s j) ∧
  (∀ (pid k v : Nat) (d : Delivered) (s : State), engWrite s pid 0x2000 0x40 4 = some (d, k, v) → (engOf s k).mover.st ≠ .run →
    ∃ u, exec (.qmDescWrite pid) s = .next (writeDone d u) ∧ (engOf u k).mover = { st := .run, desc := v % 2 ^ 32 }) ∧
  (∀ (pid k v : Nat) (d : Delivered) (s : State), engWrite s pid 0x2000 0x40 8 = some (d, k, v) → bit v 0 = true → (engOf s k).mover.st = .run →
    ∃ u, exec (.abort pid) s = .next (writeDone d (quadGo (k / 4) u)) ∧ (engOf u k).mover = { (engOf s k).mover with abort := true }) ∧
  (∀ (pid k v : Nat) (d : Delivered) (s : State), engWrite s pid 0x3000 0x10 0 = some (d, k, v) → v % 256 = 0xA5 → exec (.kick pid) s = .next (writeDone d { s with rill := s.rill ++ [.kick k] })) ∧
  (∀ (k : Nat) (s : State), clockStopped s (6 + k / 4) = false → (engOf s k).mover.st = .run → (engOf s k).mover.loaded = false → (engOf s k).mover.paused = false → memPwr s (8 + k / 4) = .on →
    let l := mgetN s.mems.mem (dmBase k + (engOf s k).mover.desc) 48
    ∃ u, exec (.descriptorStart k) s = .next (quadGo (k / 4) u) ∧ (engOf u k).mover.loaded = true ∧ (engOf u k).mover.src = leAt l 0 8 ∧ (engOf u k).mover.dst = leAt l 8 8 ∧ (engOf u k).mover.xlen = leAt l 0x10 4 ∧ (engOf u k).mover.ycnt = leAt l 0x14 2 ∧
      (engOf u k).mover.status = descStatus s k (engOf s k).mover.desc) ∧
  (∀ (k : Nat) (p : Piece) (c : Completion) (s t : State), clockStopped s (6 + k / 4) = false → (engOf s k).mover.pieces.find? (fun p => s.braid.completions.any (fun c => c.gid == p.gid && hasCome s c)) = some p → takeCompletion p.gid s = some (c, t) →
    exec (.moverPieceCompletion k) s = .next (quadGo (k / 4) (pieceDone k p c t))) ∧
  (∀ (pid : Nat) (coll : Option Nat) (errs : List WordErr) (d : Delivered) (s : State), portBFind s pid = some d → s.mems.retries.any (fun r => r.pid == pid) = false → memPwr s (8 + (d.ep - 0x40)) = .on → d.at_ ≤ s.time →
    exec (.portBAccess pid coll errs) s = .next (portBServe d (d.pkt.addr / 8) coll (addWordErrs errs s))) ∧
  (∀ (w : Nat) (d : Delivered) (s : State), d.pkt.op ≠ .rd → inIm d.pkt.addr = false → d.pkt.addr / 8 ≤ w → 8 * w < d.pkt.addr + d.pkt.len →
    let t := if d.pkt.op = .atom then s else portBPut d (d.pkt.addr / 8) w s
    portBServe d (d.pkt.addr / 8) (some w) s = modMems t (fun m => { m with retries := m.retries ++ [{ pid := d.pkt.pid, word := w, at_ := s.time }] })) ∧
  (∀ (d : Delivered) (coll : Option Nat) (s : State), d.pkt.op = .wr → inIm d.pkt.addr = false → (∀ w, coll = some w → w < d.pkt.addr / 8 ∨ d.pkt.addr + d.pkt.len ≤ 8 * w) →
    portBServe d (d.pkt.addr / 8) coll s = portBAnswer d .ok [] [] (portBPut d (d.pkt.addr / 8) ((d.pkt.addr + d.pkt.len + 7) / 8) s)) ∧
  (∀ (pid : Nat) (coll : Option Nat) (d : Delivered) (r : BRetry) (s : State), portBFind s pid = some d → s.mems.retries.find? (fun r => r.pid == pid) = some r → r.at_ + engCycles s (d.ep - 0x40) r.attempts ≤ s.time →
    let u := modMems s (fun m => { m with retries := m.retries.filter (fun x => x.pid != pid) })
    (coll ≠ some r.word → exec (.portBRetry pid coll) s = .next (portBServe d r.word coll u)) ∧
    (coll = some r.word → r.attempts < 3 → exec (.portBRetry pid coll) s = .next (modMems s (fun m => { m with retries := m.retries.map (fun x => if x.pid = pid then { x with attempts := x.attempts + 1 } else x) }))) ∧
    (coll = some r.word → 3 ≤ r.attempts → exec (.portBRetry pid coll) s = .next (portBAnswer d .collide [] [] u))) ∧
  (∀ (k : Nat) (s : State), (wdtOf s k).armed = true → (wdtOf s k).warned = false → (wdtOf s k).kicked = false → (wdtOf s k).paused = false → 2 * (wdtOf s k).count ≤ (wdtOf s k).timeout →
    ∃ u, exec (.watchdogWarn k) s = .next (raiseEv 432 1 1 (leBytes 1 k) u) ∧ wdtOf u k = { wdtOf s k with warned := true }) ∧
  (∀ (k : Nat) (s : State), (wdtOf s k).armed = true → (wdtOf s k).count = 0 → (wdtOf s k).kicked = false → (wdtOf s k).paused = false →
    ∃ u, exec (.watchdogExpiry k) s = .next (raiseEv 432 2 (if (wdtOf s k).action = 3 then 3 else 2) (leBytes 1 k) (if (wdtOf s k).action = 2 then resetEngine k u else u)) ∧ wdtOf u k = { wdtOf s k with armed := false })

/-- While the channel clocks run. DRAM_REQUEST_ACCEPT: the first request of its source at an ACTIVE channel with room, that nothing refuses, is accepted; one that is refused is answered with its STATUS at T = 20. DRAM_ACCESS_ISSUE issues the scheduler choice (no sealed access waiting). DRAM_READ_COMPLETE of a demand read answers its line with what it observes, without upsets where the queues hold all bytes asked for. PAGE_CLOSE closes a row of hint 0 or 3 after 32 controller cycles without a waiting request to it, one of hint 2 when no request to it waits. MERGE_FLUSH moves an old merge entry to the write queue. REFRESH, idle, performs what is owed, else postpones up to 4. TEMPERATURE_REPORT keeps the report and raises DRAM_ECC_WARN cause 5 when it becomes hot. ACT_WINDOW_END clears the activation counts and throttles and takes new settings. SELF_REFRESH_ENTRY after SR_IDLE without requests and SELF_REFRESH_EXIT 768 cycles after a request change the power state. DQS_RETRAIN each millisecond keeps the drift, closes the rows, counts itself, raises DRIFT above 1/8 UI once and DRIFT_LIMIT above 1/4 UI. TRAINING_DONE makes the channel ACTIVE and trained, or UNTRAINED with its event, and ends its job. INIT_LOST_DONE ends its job with no eighth lost. IMBALANCE_WINDOW each millisecond starts new counts, and raises IMBALANCE where the channel moved more than 4 times the mean of its region with its queues above 75 % for 100 us (the queue reading is log entry 101). (R325, R333, R337, R339, R340, R342, R343, R345, R346, R347, R353, R360) -/
def Obligations.DramChannelsServeRequests : Prop :=
  (∀ (c pid ch loc : Nat) (d : Delivered) (s : State), clockStopped s (46 + c) = false → inboxFind s (0x10 + c) pid = some d → dramDecode s.dram.map d.pkt.addr = some (ch, loc) → c < 16 → (dchOf s c).pwr = .active → (dchOf s c).hold.length < 16 → firstOfSource s d = true →
    (∀ st, dramRefusal s c d.pkt loc = some st → exec (.dramRequestAccept c pid) s = .next (respondInbox d 20 st [] s)) ∧
    (dramRefusal s c d.pkt loc = none → dramRoom s c d.pkt (requestLines d.pkt loc) = true → (requestLines d.pkt loc).any (fun x => lineHeld s c x.2.1) = false → exec (.dramRequestAccept c pid) s = .next (acceptRequest c d loc s))) ∧
  (∀ (c draw : Nat) (e : DEntry) (s : State), clockStopped s (46 + c) = false → (dchOf s c).pwr = .active → (∀ x ∈ (dchOf s c).rq ++ (dchOf s c).wq, kidSealed s x.kid = false) → nextAccess s c = some e → exec (.dramAccessIssue c draw) s = .next (issueEntry c e draw s)) ∧
  (∀ (c : Nat) (errs : List LineErr) (a : DAccess) (r : List DAccess) (s : State), clockStopped s (46 + c) = false → (dchOf s c).inProgress = a :: r → a.e.kind = .read →
    let t := modDch c (fun h => { h with inProgress := r }) s
    let u := if covered a.e then t else upsetLine c a.e.line errs t
    exec (.dramReadComplete c errs) s = .next (finishLine c a.e a.t (observed .demand c a u).1.st (askedBytes a.e (observed .demand c a u).1.data) (observed .demand c a u).1.verified (observed .demand c a u).2)) ∧
  (∀ (c b : Nat) (r : OpenRow) (s : State), clockStopped s (46 + c) = false → rowAt s c b = some r → ((r.hint = 0 ∨ r.hint = 3) ∧ r.last + nsCycles 32 ≤ s.time) ∨ r.hint = 2 → ((dchOf s c).rq ++ (dchOf s c).wq).any (fun e => bankOf s c e == b && rowOfEntry s c e == r.row) = false →
    ∃ t, exec (.pageClose c b) s = .next t ∧ (dchOf t c).rows = tdel (dchOf s c).rows b) ∧
  (∀ (c : Nat) (e : DEntry) (s : State), clockStopped s (46 + c) = false → (dchOf s c).merge.find? (fun e => decide (e.at_ + nsCycles 256 ≤ s.time) || e.mask == fullMask) = some e → (dchOf s c).wq.length < 128 → exec (.mergeFlush c) s = .next (flushMerge c e s)) ∧
  (∀ (c : Nat) (s : State), clockStopped s (46 + c) = false → (dchOf s c).pwr = .active → (dchX s c).lastRef + refreshTime s c ≤ s.time → ((dchOf s c).rq = [] ∧ (dchOf s c).wq = []) ∨ 4 ≤ (dchOf s c).owedRefresh →
    ∃ u, exec (.refresh c) s = .next (shutAll c u) ∧ (dchOf u c).owedRefresh = 0 ∧ (dchX u c).lastRef = s.time) ∧
  (∀ (c : Nat) (s : State), clockStopped s (46 + c) = false → (dchOf s c).pwr = .active → (dchX s c).lastRef + refreshTime s c ≤ s.time → (dchOf s c).rq ≠ [] ∨ (dchOf s c).wq ≠ [] → (dchOf s c).owedRefresh < 4 → ∃ t, exec (.refresh c) s = .next t ∧ (dchOf t c).owedRefresh = (dchOf s c).owedRefresh + 1 ∧ (dchOf t c).rows = (dchOf s c).rows) ∧
  (∀ (c : Nat) (hot : Bool) (s : State), ∃ u, (dchOf u c).tempHigh = hot ∧ exec (.temperatureReport c hot) s = .next (if hot && !(dchOf s c).tempHigh then dramEv c 3 5 1 [] u else u)) ∧
  (∀ (c : Nat) (s : State), clockStopped s (46 + c) = false → (dchX s c).actWin + nsCycles 64000 ≤ s.time → ∃ t, exec (.actWindowEnd c) s = .next t ∧ (dchOf t c).acts = [] ∧ (dchOf t c).throttled = [] ∧ (dchOf t c).hammer = (dchOf s c).nextHammer.getD (dchOf s c).hammer ∧ (dchX t c).actWin = s.time) ∧
  (∀ (c : Nat) (s : State), clockStopped s (46 + c) = false → (dchOf s c).pwr = .active → (dchOf s c).srIdle ≠ 0 → (dchX s c).lastReq + (dchOf s c).srIdle * usCycles ≤ s.time → (dchOf s c).rq = [] → (dchOf s c).wq = [] → (dchOf s c).inProgress = [] → (dchOf s c).hold = [] → (∀ d ∈ s.braid.inbox, d.ep ≠ 0x10 + c) →
    exec (.selfRefreshEntry c) s = .next (toSelfRefresh c s)) ∧
  (∀ (c : Nat) (d : Delivered) (s : State), clockStopped s (46 + c) = false → (dchOf s c).pwr = .selfRefresh → domOn s (46 + c) = true → d ∈ s.braid.inbox → d.ep = 0x10 + c → d.at_ + 768 ≤ s.time → exec (.selfRefreshExit c) s = .next (restartInbox (0x10 + c) (leaveSelfRefresh c s))) ∧
  (∀ (c drift : Nat) (s : State), clockStopped s (46 + c) = false → (dchOf s c).pwr = .active → (dchX s c).lastDqs + msCycles ≤ s.time →
    ∃ u, (dchX u c).drift = drift ∧ (dchX u c).lastDqs = s.time ∧ (dchX u c).driftRaised = ((dchX s c).driftRaised || decide (125 < drift)) ∧
      let v := shutAll c (dramCount c 10 1 u)
      let w := if 125 < drift ∧ (dchX s c).driftRaised = false then dramEv c 3 1 1 [] v else v
      exec (.dqsRetrain c drift) s = .next (if 250 < drift then raiseLimited (30200 + c) (100 * msCycles) (131 + 4 * c) 2 2 [] w else w)) ∧
  (∀ (c : Nat) (s : State), clockStopped s (46 + c) = false → (dchOf s c).pwr = .training →
    ((dchOf s c).everTrained = true → ∃ u, exec (.trainingDone c true) s = .next (endJob? (dchX s c).trainJob rcDone [] u) ∧ (dchOf u c).pwr = .active ∧ (dchOf u c).trained = true ∧ (dchOf u c).active = (dchOf s c).arr ∧ u.mems = s.mems) ∧
    ((dchOf s c).everTrained = false → ∃ u, exec (.trainingDone c true) s = .next (endJob? (dchX s c).trainJob rcDone [] u) ∧ (dchOf u c).pwr = .active ∧ (dchOf u c).trained = true ∧ (dchOf u c).everTrained = true) ∧
    (∃ u, exec (.trainingDone c false) s = .next (endJob? (dchX s c).trainJob rcFailedCheck [] (dramEv c 3 3 2 [] u)) ∧ (dchOf u c).pwr = .untrained ∧ (dchOf u c).trained = false)) ∧
  (∀ (c j : Nat) (s : State), clockStopped s (46 + c) = false → (dchX s c).initLostJob = some j → (dchX s c).lost = 0 → ∃ u, exec (.initLostDone c) s = .next (endJob j rcDone [] u) ∧ (dchX u c).lost = 0 ∧ (dchX u c).zeroed = (dchX s c).zeroed) ∧
  (∀ (c j i : Nat) (rest : List Nat) (s : State), clockStopped s (46 + c) = false → (dchX s c).initLostJob = some j → (List.range 8).filter (fun i => bit (dchX s c).lost i) = i :: rest →
    ∃ u, exec (.initLostDone c) s = .next (endJob j rcDone [] (applyFlip c (i * (arrLines (activeArr s c) / 8)) u)) ∧ (dchX u c).lost = 0 ∧ (dchX u c).zeroed = ((dchX s c).zeroed ||| (dchX s c).lost)) ∧
  (∀ (c : Nat) (s : State), clockStopped s (46 + c) = false → (dchX s c).imbAt + msCycles ≤ s.time →
    ∃ t, (dchX t c).linesWin = 0 ∧ (dchX t c).busyWin = 0 ∧ (dchX t c).linesLast = (dchX s c).linesWin ∧ (dchX t c).imbAt = s.time ∧
      (s.dram.map.find? (fun r => decide (2 ≤ r.count ∧ r.first ≤ c ∧ c < r.first + r.count)) = none → exec (.imbalanceWindow c) s = .next t) ∧
      (∀ r, s.dram.map.find? (fun r => decide (2 ≤ r.count ∧ r.first ≤ c ∧ c < r.first + r.count)) = some r →
        let total : Nat := (List.range r.count).foldl (fun n i => n + (if r.first + i = c then (dchX s c).linesWin else windowLines s (r.first + i))) 0
        exec (.imbalanceWindow c) s = .next (if 4 * total < (dchX s c).linesWin * r.count ∧ 100 * usCycles ≤ (dchX s c).busyWin then dramEv c 1 2 1 (leBytes 4 (dchX s c).linesWin ++ leBytes 4 (total / r.count)) t else t)))

/-- For a served message with LEN and TARGET in range: DRAM_CONFIG CHANNEL stores a good arrangement of a channel whose gate is shut; DRAM_CONFIG MAP with a good readable image makes it the next map of every NI; DRAM_TRAIN of such a channel is ACCEPTED and trains; DRAM_POWER sets SR_IDLE and KEEP, or starts INIT_LOST; HAMMER_SET stores the next settings, for TARGET 0xFFFF those of every channel; FLIP_MASK arms a mask, or with NPAIR 0 disarms it and ends its job ABORTED (the code is log entry 19); SCOUR_SET defines or removes a walk; SCOUR_PASS is ACCEPTED. With the clocks of the NI domain running, SCOUR_WALK_LINE and SCOUR_PASS_LINE read the next line that is due, or count it skipped; SCOUR_PASS_DONE writes the result, DONE. (R317, R320, R321, R338, R340, R343, R345, R355, R356, R357, R358) -/
def Obligations.DramAndScourCommandsTakeEffect : Prop :=
  (∀ (v : Serving) (s : State), Served s v 0x0400 56 (fun t => chanTarget t || noTarget t) → pay v 0 1 = 0 → chanTarget v.target = true → payZero v 5 6 = true → payZero v 26 56 = true → arrOk (arrOf v) = true → chanOpen s v.target = false → chanBusy s v.target = false →
    ∃ u, exec .dramConfig s = .next (setReply (rc rcDone) u) ∧ (dchOf u v.target).arr = some (arrOf v) ∧ ∀ c, c ≠ v.target → dchOf u c = dchOf s c) ∧
  (∀ (v : Serving) (h img : List Byte) (s : State), Served s v 0x0400 56 (fun t => chanTarget t || noTarget t) → pay v 0 1 = 1 → v.target = 0xFFFF → payZero v 1 8 = true → payZero v 16 56 = true → hwRead s (pay v 8 8) 32 = some h → mapHeaderBad h = none → hwRead s (pay v 8 8) (leAt h 8 4) = some img → mapImageBad s img = none →
    mapTouchesOpen s ((List.range (leAt img 6 2)).map (regionOf img)) = false →
    ∃ u, exec .dramConfig s = .next (setReply (rc rcDone) (waitFor 1 u)) ∧ u.dram.map = (List.range (leAt img 6 2)).map (regionOf img) ∧ u.dram.mapOld = s.dram.map ∧ u.dram.mapPending = (List.range 0x70).filter epListed) ∧
  (∀ (v : Serving) (s : State), Served s v 0x0401 0 chanTarget → chanOpen s v.target = false → (dchOf s v.target).arr ≠ none → chanBusy s v.target = false → domOn s (46 + v.target) = true →
    ∃ u, exec .dramTrain s = .next (setReply (rc rcAccepted) u) ∧ (dchOf u v.target).pwr = .training ∧ (dchX u v.target).trainJob = some s.ferry.nextJob) ∧
  (∀ (v : Serving) (s : State), Served s v 0x0402 8 chanTarget → payZero v 1 4 = true → chanBusy s v.target = false →
    (pay v 0 1 = 0 → pay v 4 4 ≤ 10000 → ∃ u, exec .dramPower s = .next (setReply (rc rcDone) u) ∧ (dchOf u v.target).srIdle = pay v 4 4) ∧
    (pay v 0 1 = 1 → payZero v 5 8 = true → excludedMeets s v.target (pay v 4 1) (mustKeep s v.target) = false → ∃ u, exec .dramPower s = .next (setReply (rc rcDone) u) ∧ (dchOf u v.target).keep = pay v 4 1) ∧
    (pay v 0 1 = 2 → payZero v 4 8 = true → domOn s (46 + v.target) = true → ∃ u, exec .dramPower s = .next (setReply (rc rcAccepted) u) ∧ (dchX u v.target).initLostJob = some s.ferry.nextJob)) ∧
  (∀ (v : Serving) (s : State), Served s v 0x0405 6 (fun t => chanTarget t || noTarget t) → v.target < 16 → (pay v 0 1 = 0 ∨ (8 ≤ pay v 0 1 ∧ pay v 0 1 ≤ 13)) → payZero v 1 2 = true → 100 ≤ pay v 4 2 → pay v 4 2 ≤ 64000 → chanBusy s v.target = false →
    ∃ u, exec .hammerSet s = .next (setReply (rc rcDone) u) ∧ (dchOf u v.target).nextHammer = some { prob := pay v 0 1, actMax := pay v 2 2, actGap := pay v 4 2 } ∧ (dchOf u v.target).hammer = (dchOf s v.target).hammer) ∧
  (∀ (v : Serving) (s : State), Served s v 0x0405 6 (fun t => chanTarget t || noTarget t) → v.target = 0xFFFF → (pay v 0 1 = 0 ∨ (8 ≤ pay v 0 1 ∧ pay v 0 1 ≤ 13)) → payZero v 1 2 = true → 100 ≤ pay v 4 2 → pay v 4 2 ≤ 64000 → (List.range 16).any (chanBusy s) = false →
    ∃ u, exec .hammerSet s = .next (setReply (rc rcDone) u) ∧ ∀ c, c < 16 → (dchOf u c).nextHammer = some { prob := pay v 0 1, actMax := pay v 2 2, actGap := pay v 4 2 } ∧ (dchOf u c).hammer = (dchOf s c).hammer) ∧
  (∀ (v : Serving) (s : State), Served s v 0x0406 34 chanTarget → payZero v 1 2 = true → v.len ≤ 2 + 2 * pay v 0 1 → s.dbg.fuses.life ≠ .secured → chanBusy s v.target = false →
    let pairs := (List.range (pay v 0 1)).map (fun i => (pay v (2 + 2 * i) 1, pay v (3 + 2 * i) 1))
    (pay v 0 1 ≠ 0 → pay v 0 1 ≤ 16 → (∀ p ∈ pairs, p.1 ≤ 79) → (dchX s v.target).flip = none → ∃ u, exec .flipMask s = .next (setReply (rc rcAccepted) u) ∧ (dchX u v.target).flip = some (pairs, some s.ferry.nextJob)) ∧
    (∀ m j, pay v 0 1 = 0 → (dchX s v.target).flip = some (m, j) → ∃ u, exec .flipMask s = .next (setReply (rc rcDone) (endJob? j rcAborted [] u)) ∧ (dchX u v.target).flip = none)) ∧
  (∀ (v : Serving) (s : State), Served s v 0x0403 24 (fun t => decide (t < 8)) → pay v 0 1 ≤ 1 → payZero v 4 8 = true →
    (pay v 1 1 = 0 → ∃ u, exec .scourSet s = .next (setReply (rc rcDone) u) ∧ u.dram.walks = tdel s.dram.walks v.target) ∧
    (pay v 1 1 = 1 → pay v 2 2 ≠ 0 → scourRangeOk (pay v 0 1) (pay v 8 8) (pay v 16 8) = true → s.dram.walks.any (fun w => w.1 != v.target && overlaps (pay v 8 8) (pay v 16 8) w.2.start w.2.length) = false →
      ∃ u, exec .scourSet s = .next (setReply (rc rcDone) u) ∧ u.dram.walks = tset s.dram.walks v.target { memory := pay v 0 1, rate := pay v 2 2, start := pay v 8 8, length := pay v 16 8, last := s.time })) ∧
  (∀ (v : Serving) (s : State), Served s v 0x0404 32 noTarget → pay v 0 1 ≤ 1 → payZero v 4 8 = true → scourRangeOk (pay v 0 1) (pay v 8 8) (pay v 16 8) = true → s.dram.pass = none →
    ∃ u, exec .scourPass s = .next (setReply (rc rcAccepted) u) ∧ u.dram.pass = some { memory := pay v 0 1, rate := pay v 2 2, start := pay v 8 8, length := pay v 16 8, resultAddr := pay v 24 8, job := s.ferry.nextJob, last := s.time }) ∧
  (∀ (r : Nat) (w : Walk) (s : State), clockStopped s 1 = false → tfind s.dram.walks r = some w → w.length ≠ 0 → w.last + scourGap w.rate ≤ s.time →
    ∃ u, exec (.scourWalkLine r) s = .next (if scourSkips s (w.start + w.pos) then u else scourRead (16 + r) (w.start + w.pos) u) ∧ u.dram.walks = tset s.dram.walks r { w with pos := (w.pos + 64) % w.length, last := s.time, skipped := w.skipped + b2n (scourSkips s (w.start + w.pos)) }) ∧
  (∀ (p : Pass) (s : State), clockStopped s 1 = false → (passAbsorb s).dram.pass = some p → passWaits (passAbsorb s) = false → p.pos < p.length → p.last + scourGap p.rate ≤ (passAbsorb s).time →
    ∃ u, exec .scourPassLine s = .next (if scourSkips (passAbsorb s) (p.start + p.pos) then u else scourRead 1 (p.start + p.pos) u) ∧ u.dram.pass = some { p with pos := p.pos + 64, last := (passAbsorb s).time, skipped := p.skipped + b2n (scourSkips (passAbsorb s) (p.start + p.pos)) }) ∧
  (∀ (p : Pass) (s t : State), clockStopped s 1 = false → (passAbsorb s).dram.pass = some p → passWaits (passAbsorb s) = false → p.length ≤ p.pos → hwWrite p.resultAddr (passResult p) (modDram (passAbsorb s) (fun d => { d with pass := none })) = some t →
    exec .scourPassDone s = .next (endJob p.job rcDone [] t))

/-- While the group clocks run, BASIN_REQUEST_ACCEPT: the first request of its source enters the queue of a group that is ON and has room. BASIN_REQUEST_START: the request accepted first, its banks free, is performed: a read returns the stored bytes under the merge buffer with OK when no word is bad and no merge entry poisoned, a write goes in, an ATOM and a scrub are performed. BASIN_MERGE_FLUSH: an entry of 64 cycles is flushed, while requests wait at most one between two starts. RETENTION_ENTRY of an idle unit flushes and retains it; MEMORY_WAKE, when due, puts it ON; MEMORY_INIT_DONE zeroes it and puts it ON, and opens its gate when its domain is ready. (R365, R366, R367, R370, R372, R379, R380, R381, R382) -/
def Obligations.BasinServesAndMemoriesSleep : Prop :=
  (∀ (g pid : Nat) (d : Delivered) (s : State), clockStopped s (78 + g / 2) = false → inboxFind s (0x08 + g) pid = some d → g < 8 → memPwr s g = .on → (bgroupOf s g).queue.length < 32 → firstOfSource s d = true →
    ∃ t, exec (.basinRequestAccept g pid) s = .next t ∧ (bgroupOf t g).queue = (bgroupOf s g).queue ++ [d] ∧ t.braid.inbox = s.braid.inbox.filter (fun d => d.pkt.pid != pid)) ∧
  (∀ (g : Nat) (errs : List WordErr) (d : Delivered) (r : List Delivered) (s : State), clockStopped s (78 + g / 2) = false → (bgroupOf s g).queue = d :: r → banksFree s g (lineAccesses d.pkt) = true →
    ∃ u, (bgroupOf u g).queue = r ∧ exec (.basinRequestStart g errs) s = .next (match d.pkt.op with
      | .rd => if fromScour d.pkt then basinScrub g d (addWordErrs errs u) else basinServeRead g d (addWordErrs errs u)
      | .atom => basinServeAtom g d (addWordErrs errs u)
      | _ => basinServeWrite g d (addWordErrs errs u))) ∧
  (∀ (g : Nat) (d : Delivered) (s : State), (∀ w ∈ wordsOf d.pkt.addr d.pkt.len, (wordTag s w).poisoned = false ∧ (wordTag s w).bits = 0) → (∀ e ∈ (bgroupOf s g).merge, e.poison = false) →
    ∃ t, basinServeRead g d s = basinAnswer d 12 .ok ((List.range d.pkt.len).map (fun i => basinByte s g (d.pkt.addr + i))) [] t ∧ t.mems = s.mems) ∧
  (∀ (g : Nat) (errs : List WordErr) (e : BMerge) (s : State), clockStopped s (78 + g / 2) = false → (bgroupOf s g).merge.find? (fun e => decide (e.at_ + 64 ≤ s.time)) = some e → memPwr s g = .on → (bgroupOf s g).queue = [] ∨ (bgroupOf s g).flushed = false →
    ∃ t, exec (.basinMergeFlush g errs) s = .next t ∧ t = modBgroup g (fun b => { b with flushed := true }) (flushWord g e (addWordErrs errs s))) ∧
  (∀ (m : MemUnit) (s : State), unitOk m = true → memPwr s (unitOf m) = .on → unitIdle s m = true → exec (.retentionEntry m) s = .next (toRetention m s)) ∧
  (∀ (m : MemUnit) (s : State), unitOk m = true → memPwr s (unitOf m) = .retention → wakeDue s m = true → ∃ t, exec (.memoryWake m) s = .next t ∧ memPwr t (unitOf m) = .on ∧ t.mems.mem = s.mems.mem) ∧
  (∀ (m : MemUnit) (s : State), unitOk m = true → memPwr s (unitOf m) = .init → domOn s (memDomain (unitOf m)) = true → ∃ u, exec (.memoryInitDone m) s = .next (domainWaits u) ∧ memPwr u (unitOf m) = .on ∧ u.mems.mem = (clearUnit (unitOf m) s).mems.mem)

/-- For a served message with LEN and TARGET in range and the checks passed: KEY_INSTALL unwraps the readable blob and makes the EMPTY slot INSTALLED with the key, other slots unchanged, or returns FAILED_CHECK where the blob does not unwrap; KEY_RETIRE is ACCEPTED, the slot RETIRING, then waiting merges and pages under the key are flushed; a CRYPTO domain that is off is powered first; TIDELINE_START is ACCEPTED and the tideline RUNNING at the start of its range; TIDELINE_STATUS answers QUERY, PAUSE, RESUME and RELEASE; SEAL_WINDOW sets (ACCEPTED, not ready) or removes the window; PROTECT_RANGE stores an unlocked range; LINK_KEY installs, switches at the next boundary, or erases. (R402, R418, R419, R420, R421, R426, R428, R431, R432) -/
def Obligations.KeysTidelinesAndRangesTakeEffect : Prop :=
  (∀ (v : Serving) (blob : List Byte) (s w : State), Served s v 0x0500 16 kidTarget → pay v 0 1 ≤ 1 → pay v 1 1 ≤ 15 → payZero v 2 8 = true → keysDenied s = false → bankHeld s = false → (slotOf s v.target).st = .empty → (pay v 0 1 = 1 → windowReady s = true) →
    wakeFor 82 s = some w → hwRead w (pay v 8 8) (if pay v 0 1 = 1 then 104 else 72) = some blob →
    match Config.keyUnwrap (Config.kek (pay v 1 1)) blob with
    | none => exec .keyInstall s = .next (setReply (failedAt 0 8) w)
    | some k => ∃ u, exec .keyInstall s = .next (setReply (rc rcDone) u) ∧ slotOf u v.target = { st := .installed, sealedMode := pay v 0 1 == 1, key := k } ∧ (∀ j, j ≠ v.target → slotOf u j = slotOf w j) ∧
        u.twin.outbox = (if w.twin.mirrorKeys ∧ pairLinked w = true then w.twin.outbox ++ [.item (.keySlot v.target (pay v 0 1 == 1) k)] else w.twin.outbox)) ∧
  (∀ (v : Serving) (s : State), Served s v 0x0501 0 kidTarget → s.dbg.fuses.life ≠ .retired → (slotOf s v.target).st = .installed → tideNames s v.target = false →
    exec .keyRetire s = .next (setReply (rc rcAccepted) (writeBackKey ((slotOf s v.target).key.take 64) (forAll (List.range 16) (fun u c => flushWhere c (fun e => e.kid == v.target) u)
      (setSlot v.target { slotOf s v.target with st := .retiring, job := some s.ferry.nextJob } (startJob v v.target s).2))))) ∧
  (∀ (v : Serving) (s : State), Served s v 0x0502 24 aliasTarget → pay v 0 1 ≠ pay v 1 1 → 1 ≤ pay v 2 1 → pay v 2 1 ≤ 4 → payZero v 3 8 = true → pay v 8 8 % 64 = 0 → pay v 16 8 % 64 = 0 → pay v 16 8 ≠ 0 → inMap s (pay v 8 8) (pay v 16 8) = true → crossesWindow s (pay v 8 8) (pay v 16 8) = false → noCrypto s = false →
    (tideOf s (v.target - 56)).st = .unbound → (∀ k ∈ [pay v 0 1, pay v 1 1], k = 0 ∨ (k ≤ 55 ∧ (slotOf s k).st = .installed)) → (slotOf s (pay v 0 1)).sealedMode = (slotOf s (pay v 1 1)).sealedMode → modeFits s (tideMode s (pay v 0 1) (pay v 1 1)) (pay v 8 8) = true →
    s.crypto.tides.any (fun t => t.2.st != .unbound && overlaps (pay v 8 8) (pay v 16 8) t.2.start t.2.length) = false →
    ∃ u, exec .tidelineStart s = .next (setReply (rc rcAccepted) u) ∧ tideOf u (v.target - 56) = { st := .running, old := pay v 0 1, new := pay v 1 1, rate := pay v 2 1, start := pay v 8 8, length := pay v 16 8, boundary := pay v 8 8, job := s.ferry.nextJob, last := s.time - usCycles }) ∧
  (∀ (v : Serving) (s : State), Served s v 0x0503 1 aliasTarget →
    (pay v 0 1 = 0 → exec .tidelineStatus s = .next (setReply { code := rcDone, result := tideResult (tideOf s (v.target - 56)) } s)) ∧
    (pay v 0 1 = 1 → (tideOf s (v.target - 56)).st = .running → exec .tidelineStatus s = .next (setReply (rc rcDone) (modTide (v.target - 56) (fun x => { x with st := .paused }) s))) ∧
    (pay v 0 1 = 2 → (tideOf s (v.target - 56)).st = .paused → exec .tidelineStatus s = .next (setReply (rc rcDone) (modTide (v.target - 56) (fun x => { x with st := .running }) s))) ∧
    (pay v 0 1 = 3 → (tideOf s (v.target - 56)).st = .done → exec .tidelineStatus s = .next (setReply (rc rcDone) (modTide (v.target - 56) (fun _ => {}) s)))) ∧
  (∀ (v : Serving) (s w : State), Served s v 0x0504 24 noTarget → noCrypto s = false → payZero v 1 8 = true → s.crypto.sealJob = none →
    (pay v 0 1 = 1 → windowInUse s 0 0 = false → exec .sealWindow s = .next (setReply (rc rcDone) (modCrypto s (fun c => { c with window := none })))) ∧
    (pay v 0 1 = 0 → windowArgs s (pay v 8 8) (pay v 16 8) = true → windowInUse s (pay v 8 8) (pay v 16 8) = false → wakeFor 82 s = some w →
      ∃ u, exec .sealWindow s = .next (setReply (rc rcAccepted) u) ∧ u.crypto.window = some (pay v 8 8, pay v 16 8, false) ∧ u.crypto.sealJob = some w.ferry.nextJob ∧ u.crypto.pages = [] ∧ u.crypto.roots = [] ∧ u.crypto.tree = [])) ∧
  (∀ (v : Serving) (s : State), Served s v 0x0505 24 (fun t => decide (t < 16)) → (tget s.crypto.ranges {} v.target).lock = false → pay v 0 1 ≤ 3 → payZero v 1 8 = true →
    (bit (pay v 0 1) 0 = true → pay v 16 8 ≠ 0 ∧ pay v 8 8 % 4096 = 0 ∧ pay v 16 8 % 4096 = 0 ∧ protectSpan (pay v 8 8) (pay v 16 8) = true) →
    ∃ u, exec .protectRange s = .next (setReply (rc rcDone) u) ∧ tget u.crypto.ranges {} v.target = { enable := bit (pay v 0 1) 0, lock := bit (pay v 0 1) 1, start := pay v 8 8, length := pay v 16 8 } ∧ ∀ j, j ≠ v.target → tget u.crypto.ranges {} j = tget s.crypto.ranges {} j) ∧
  (∀ (v : Serving) (s : State), Served s v 0x0506 16 (fun t => decide (t ≤ 64)) → pay v 1 1 ≤ 1 → pay v 2 1 ≤ 1 → pay v 3 1 ≤ 15 → payZero v 7 8 = true → keysDenied s = false → bankHeld s = false →
    (∀ blob, pay v 0 1 = 0 → linkSlotBusy s v.target (pay v 1 1) (pay v 2 1) = false → hwRead s (pay v 8 8) 40 = some blob →
      exec .linkKey s = (match Config.keyUnwrap (Config.kek (pay v 3 1)) blob with
        | none => .next (setReply (failedAt 0 8) s)
        | some key => .next (setReply (rc rcDone) (mirrorKey (.linkKey v.target (pay v 1 1) (pay v 2 1) key (pay v 4 3)) (modLinkSlot v.target (pay v 1 1) (pay v 2 1) (fun _ => { key := key, salt := pay v 4 3 }) s))))) ∧
    (pay v 0 1 = 1 → (portOf s v.target).encrypt = true → (linkSlot s v.target 0 (1 - (portOf s v.target).keysel)).key ≠ [] →
      exec .linkKey s = .next (setReply (rc rcDone) (waitFor 1 (modCrypto s (fun c => { c with switching := ladd c.switching v.target }))))) ∧
    (pay v 0 1 = 2 → linkSlotBusy s v.target (pay v 1 1) (pay v 2 1) = false → exec .linkKey s = .next (setReply (rc rcDone) (mirrorKey (.linkKey v.target (pay v 1 1) (pay v 2 1) [] 0) (modLinkSlot v.target (pay v 1 1) (pay v 2 1) (fun _ => {}) s)))))

/-- TAMPER_FILTER of input 0 or 1 and GLITCH_TRIP leave a trigger, the first one standing. ZEROIZATION on a trigger empties every key slot and link slot, makes the sealed window not ready, unbinds every tideline and clears the trigger. While the CRYPTO clocks run: SEAL_INIT_DONE makes the window ready and ends the job DONE. COUNTER_TOKEN performs the operation of the first waiting token after the fault found; an increment of a top node raises the root by one. RESEAL of a page with a major counter below 2^64 - 1 raises it by one and clears the minor counters. SUBTREE_REINIT takes the oldest lost node. KEY_RETIRE_DONE of a retiring key that no request uses writes its counters back, and once they are written empties the slot, ends the job DONE and raises its event. TIDELINE_LINE ends a finished tideline DONE, and presents the next line when it is due. (R387, R388, R389, R402, R408, R410, R413, R416, R420, R423, R424) -/
def Obligations.TamperZeroizesAndCountersRise : Prop :=
  (∀ (i : Nat) (s : State), i < 2 → ∃ t, exec (.tamperFilter i) s = .next t ∧ t.crypto.trigger = some (s.crypto.trigger.getD 1) ∧ i ∈ t.dbg.tamperLow ∧ t.mems = s.mems) ∧
  (∀ s : State, ∃ t, exec .glitchTrip s = .next t ∧ t.crypto.trigger = some (s.crypto.trigger.getD 2) ∧ t.dbg = s.dbg) ∧
  (∀ (k : Nat) (s : State), s.crypto.trigger = some k → ∃ t, exec .zeroization s = .next t ∧ t.crypto.slots = [] ∧ t.crypto.linkSlots = [] ∧ t.crypto.trigger = none ∧ t.crypto.zeroized = true ∧
    t.crypto.window = s.crypto.window.map (fun w => (w.1, w.2.1, false)) ∧ (∀ x ∈ s.crypto.tides, x.2.st ≠ .unbound → (tideOf t x.1).st = .unbound)) ∧
  (∀ (j : Nat) (s : State), clockStopped s 82 = false → s.crypto.sealJob = some j → ∃ u, exec .sealInitDone s = .next (endJob j rcDone [] u) ∧ u.crypto.sealJob = none ∧ u.crypto.window = s.crypto.window.map (fun w => (w.1, w.2.1, true))) ∧
  (∀ (c n : Nat) (op : CounterOp) (f : CounterFault) (t : Token) (s : State), clockStopped s 82 = false → tokenServed s c op = true →
    s.braid.tokens.find? (fun t => match t.kind with
      | .counter ch m o => ch == c && decide (o = op) && faultFits n m f
      | _ => false) = some t →
    exec (.counterToken c n op f) s = .next (counterServe c (tokenCounter t) op (counterFails c n f (useManager op (modBraid s (fun b => { b with tokens := b.tokens.filter (fun x => x.id != t.id) })))))) ∧
  (∀ (c m : Nat) (s : State), ∀ u, u = counterServe c m .increment s → isTop s c m = true → rootOf u c = rootOf s c + 1) ∧
  (∀ (c page : Nat) (e : DEntry) (r : List DEntry) (s : State), clockStopped s 82 = false → resealWaits s c page = e :: r → (pageCtr s c page).major + 1 < 2 ^ 64 →
    ∃ t, exec (.reseal c page) s = .next t ∧ pageCtr t c page = { major := (pageCtr s c page).major + 1, minors := [] }) ∧
  (∀ (c n : Nat) (r : List Nat) (s : State), clockStopped s 82 = false → (dchX s c).lostPages = n :: r → ∃ u, exec (.subtreeReinit c) s = .next (raiseEv 386 2 0 (leBytes 1 c ++ leBytes 4 n)
      (forAll (((List.range (8 ^ (n / 16777216))).map (fun i => n % 16777216 * 8 ^ (n / 16777216) + i)).filter (fun p => decide (p < sharePages s c))) (fun u p => reinitPage c p u) (counterRise c n u))) ∧ (dchX u c).lostPages = r) ∧
  (∀ (k : Nat) (s : State), clockStopped s 82 = false → (slotOf s k).st = .retiring → (List.range 16).all (fun c => !(kidBusy s c k)) = true →
    (keyWritten s ((slotOf s k).key.take 64) = false → exec (.keyRetireDone k) s = .next (writeBackKey ((slotOf s k).key.take 64) s)) ∧
    (keyWritten s ((slotOf s k).key.take 64) = true → exec (.keyRetireDone k) s = .next (mirrorKey (.keySlot k false []) (keyEv k 2 (endJob? (slotOf s k).job rcDone [] (modCrypto s (fun c => { c with slots := tdel c.slots k }))))))) ∧
  (∀ (i : Nat) (s : State), clockStopped s 82 = false → (tideOf (tideAbsorb i s) i).st = .running →
    let x := tideOf (tideAbsorb i s) i
    (x.start + x.length ≤ x.boundary → exec (.tidelineLine i) s = .next (tideEv i 1 0 (endJob x.job rcDone [] (modTide i (fun y => { y with st := .done }) (tideAbsorb i s))))) ∧
    (x.boundary < x.start + x.length → (tideAbsorb i s).braid.groups.any (fun g => g.ep == 0x03 && g.agent == i) = false → x.last * max x.rate 1 + usCycles ≤ (tideAbsorb i s).time * max x.rate 1 →
      exec (.tidelineLine i) s = .next (presentReq 0x03 i { op := .rd, addr := x.boundary, len := 64, kid := 56 + i } (modTide i (fun y => { y with last := (tideAbsorb i s).time }) (tideAbsorb i s))).2))

/-- For a served message with LEN and TARGET in range and the checks passed: REACH_LOAD of an image with a good header is ACCEPTED, a domain that is off powered first, and its load begins with the reset of its Ferry channel, after isolation where the reach is ACTIVE; REACH_ISOLATE of an ACTIVE reach is ACCEPTED and isolates it; REACH_RELEASE of an ISOLATED reach makes it ACTIVE and is DONE; HATCH_LOAD records the address of a good portion; SCRUB_SET stores the settings of the next pass; REACH_STATUS answers 48 bytes and with CLEAR zeroes the three counts. BW_INIT starts Backwater, its job held; BW_CONNECT of good entries outside UNINIT is ACCEPTED and waits for a multiframe; BW_STATUS answers 44 bytes and with CLEAR zeroes the three counts. (R457, R460, R467, R468, R471, R479, R487, R493) -/
def Obligations.ReachAndBackwaterCommandsTakeEffect : Prop :=
  (∀ (v : Serving) (h : List Byte) (s w : State), Served s v 0x0600 16 (fun t => decide (t < 16) || t == 31) → pay v 1 1 ≤ 3 → payZero v 2 8 = true → loadSourceOk (pay v 0 1) (pay v 8 8) = true → s.fabric.load = none → s.fabric.reloads = [] → initialBusy s = false → (pay v 0 1 = 1 → flashHeld s = false) →
    rawImage s (pay v 0 1) (pay v 8 8) 0 96 = some h → (bit (leAt h 7 1) 0 = true → noCrypto s = false ∧ s.crypto.zeroized = false) →
    (v.target = 31 → s.fabric.cfgDone = false → headerOk true h = true → leAt h 8 1 = 0xFF → wakeFor 83 s = some w →
      exec .reachLoad s = .next (setReply (rc rcAccepted) (beginLoad { withHeader { target := 31, full := true, source := pay v 0 1, addr := pay v 8 8 } h with job := some w.ferry.nextJob } (startJob v 31 w).2))) ∧
    (v.target < 16 → (reachOf s v.target).st ≠ .loading → (reachOf s v.target).st ≠ .isolating → headerOk false h = true → leAt h 0x18 8 = s.fabric.shellId → s.fabric.cfgDone = true → leAt h 8 1 = v.target → wakeFor (30 + v.target) s = some w →
      let l : Load := { withHeader { target := v.target, source := pay v 0 1, addr := pay v 8 8, release := bit (pay v 1 1) 0, force := bit (pay v 1 1) 1 } h with job := some w.ferry.nextJob }
      ∃ u, (reachOf u v.target).recorded = some (pay v 0 1, pay v 8 8) ∧
        exec .reachLoad s = .next (setReply (rc rcAccepted) (if (reachOf s v.target).st = .active then isolateReach v.target .load (bit (pay v 1 1) 1) none (modFabric u (fun g => { g with load := some l }))
          else beginLoad l (senderResetChan (106 + v.target) u))))) ∧
  (∀ (v : Serving) (s : State), Served s v 0x0601 1 reachTarget → pay v 0 1 ≤ 1 → initialBusy s = false → (reachOf s v.target).st = .active →
    exec .reachIsolate s = .next (setReply (rc rcAccepted) (isolateReach v.target .isolate (bit (pay v 0 1) 0) (some s.ferry.nextJob) (startJob v v.target s).2))) ∧
  (∀ (v : Serving) (s : State), Served s v 0x0602 0 reachTarget → initialBusy s = false → (reachOf s v.target).st = .isolated → (reachOf s v.target).rstSince = none →
    ∃ u, exec .reachRelease s = .next (setReply (rc rcDone) u) ∧ (reachOf u v.target).st = .active ∧ (reachOf u v.target).stage1 = false ∧ (reachOf u v.target).stage2 = false) ∧
  (∀ (v : Serving) (s : State), Served s v 0x0603 16 reachTarget → payZero v 0 8 = true → pay v 8 8 % 64 = 0 → loadSourceOk 0 (pay v 8 8) = true → loadSourceOk 0 (pay v 8 8 + 294943) = true → meetsSealed s (pay v 8 8) 294944 = false → initialBusy s = false → ((reachOf s v.target).st = .isolating ∨ (reachOf s v.target).st = .isolated ∨ (reachOf s v.target).st = .active) →
    exec .hatchLoad s = (match hwRead s (pay v 8 8) 294944 with
      | none => .next (setReply failedRead s)
      | some img => match hatchBad v.target (reachOf s v.target).designId img with
        | some o => .next (setReply (failedAt o 4) s)
        | none => .next (setReply (rc rcDone) (modReach v.target (fun x => { x with hatch := some (pay v 8 8) }) s)))) ∧
  (∀ (v : Serving) (s : State), Served s v 0x0604 8 noTarget → 10 ≤ pay v 0 2 → pay v 0 2 ≤ 10000 → pay v 2 1 ≤ 1 → payZero v 3 4 = true → initialBusy s = false →
    ∃ u, exec .scrubSet s = .next (setReply (rc rcDone) u) ∧ u.fabric.scrub = { s.fabric.scrub with next := some { passMs := pay v 0 2, enable := bit (pay v 2 1) 0, policy := pay v 4 4 } }) ∧
  (∀ (v : Serving) (s : State), Served s v 0x0605 1 reachTarget →
    (pay v 0 1 = 0 → exec .reachStatus s = .next (setReply { code := rcDone, result := reachResult s v.target } s)) ∧
    (pay v 0 1 = 1 → exec .reachStatus s = .next (setReply { code := rcDone, result := reachResult s v.target } (modReach v.target (fun r => { r with benign := 0, critical := 0, uncorr := 0 }) s)))) ∧
  (∀ (v : Serving) (s w : State), Served s v 0x0900 16 noTarget → pay v 0 1 ≤ 2 → pay v 1 1 ≤ 1 → payZero v 2 8 = true → bit (pay v 8 8) 62 = false → s.power.railsOut.contains .bw = false → s.bwx.initJob = none → wakeFor 84 s = some w →
    (pay v 0 1 = 2 → exec .bwInit s = .next (setReply (rc rcDone) (bwRelease w))) ∧
    (pay v 0 1 < 2 → ∃ u, exec .bwInit s = .next (setReply (rc rcAccepted) u) ∧ u.bw.st = .hunt ∧ u.bw.source = pay v 0 1 ∧ u.bw.txBraid = bit (pay v 1 1) 0 ∧ u.bw.txAddr = pay v 8 8 ∧ u.bw.conns = [] ∧ u.bwx.initJob = some w.ferry.nextJob)) ∧
  (∀ (v : Serving) (s : State), Served s v 0x0901 56 noTarget → 1 ≤ pay v 0 1 → pay v 0 1 ≤ 13 → payZero v 1 4 = true → payZero v (4 + 4 * pay v 0 1) 56 = true → (List.range (pay v 0 1)).any (connBad v) = false → s.bw.st ≠ .uninit →
    ∃ u, exec .bwConnect s = .next (setReply (rc rcAccepted) u) ∧ u.bw.batches = s.bw.batches ++ [{ conns := (List.range (pay v 0 1)).map (connEntry v), job := s.ferry.nextJob, at_ := s.time }]) ∧
  (∀ (v : Serving) (s : State), Served s v 0x0902 1 noTarget →
    (pay v 0 1 = 0 → exec .bwStatus s = .next (setReply { code := rcDone, result := bwResult s } s)) ∧
    (pay v 0 1 = 1 → exec .bwStatus s = .next (setReply { code := rcDone, result := bwResult s } (modBw s (fun b => { b with syncErr := 0, lateFrame := 0, lateWrite := 0 })))))

/-- While the fabric clocks run: INITIAL_LOAD, due and no load held, begins with the first fabric image. IMAGE_RECORD performs the next record of a running load: frames are written, a plate is kept, STOP ends it, a bad record fails it with its reason, a flash read that fails with reason SOURCE and EV404. LOAD_DONE of an ended load, its frames written, takes it to its end. ZERO_FILL_DONE of a failed load, the zeros written, ends its job, makes a reach INVALID with reason and frame, or goes on with the boot. SCRUB_PASS_START, a period after the last, starts a pass with the next settings. FRAME_READBACK reads the next frame of a scrubbed reach, or of the shell. HATCH_READ_RESULT counts a word benign, or critical. POLICY_RESET_END after 10 us releases the reach, or leaves it ISOLATED where it was so before. TMR_VOTE raises EV403. DIRECTORY_REWRITE starts when due and the flash is free. (R442, R449, R452, R456, R458, R461, R463, R464, R465, R470, R582) -/
def Obligations.FabricImagesLoadAndFramesAreScrubbed : Prop :=
  (∀ s : State, clockStopped s 83 = false → initialBusy s = true → s.fabric.load = none → exec .initialLoad s = .next (startInitial 0 (modFabric s (fun f => { f with initialRunning := true })))) ∧
  (∀ (l : Load) (flashFails : Bool) (s : State), clockStopped s 83 = false → s.fabric.load = some l → l.started = true → l.ended = false → l.failed = none → l.since + frameCycles * l.frames ≤ s.time →
    exec (.imageRecord flashFails) s = .next (if flashFails = true ∧ l.source = 1 then failLoad 5 0 (raiseEv 404 2 2 [] s) else match nextRecord s l with
      | .fail r a => failLoad r a s
      | .frames n ws => advanceLoad n (forAll ws (fun t w => writeFrame w.1 w.2 t) s)
      | .plate n i p => advanceLoad n (modFabric s (fun f => { f with load := f.load.map (fun x => { x with plates := tset x.plates i p }) }))
      | .stop n => advanceLoad n (modFabric s (fun f => { f with load := f.load.map (fun x => { x with ended := true }) })))) ∧
  (∀ (l : Load) (s : State), clockStopped s 83 = false → s.fabric.load = some l → l.started = true → l.ended = true → l.failed = none → l.since + frameCycles * max (loadFrames l) l.frames ≤ s.time →
    exec .loadDone s = .next (nextReload (if l.full then fullLoaded l (modFabric s (fun f => { f with load := none })) else reachLoaded l (modFabric s (fun f => { f with load := none }))))) ∧
  (∀ (l : Load) (r a : Nat) (s : State), clockStopped s 83 = false → s.fabric.load = some l → l.started = true → l.failed = some (r, a) → l.since + frameCycles * loadFrames l ≤ s.time →
    let t := modFabric (zeroTarget l s) (fun f => { f with load := none })
    (∀ k, l.boot = some k → exec .zeroFillDone s = .next (initialFailed k r t)) ∧
    (l.boot = none → l.full = true → exec .zeroFillDone s = .next (nextReload (endJob? l.job rcFailedCheck (leBytes 1 r) t))) ∧
    (l.boot = none → l.full = false → exec .zeroFillDone s = .next (nextReload (endJob? l.job rcFailedCheck (leBytes 1 r) (reachEv l.target 2 2 (leBytes 1 r ++ leBytes 4 a)
      (modReach l.target (fun x => { x with st := .invalid, reason := r, failFrame := a }) t)))))) ∧
  (∀ s : State, s.fabric.scrub.reading = false → s.fabric.scrub.started + s.fabric.scrub.cfg.passMs * msCycles ≤ s.time → domOn s 83 = true → clockStopped s 83 = false →
    ∃ t, exec .scrubPassStart s = .next t ∧ t.fabric.scrub.reading = true ∧ t.fabric.scrub.frame = 0 ∧ t.fabric.scrub.started = s.time ∧ t.fabric.scrub.cfg = s.fabric.scrub.next.getD s.fabric.scrub.cfg ∧ t.fabric.scrub.next = none ∧ t.fabric.frames = s.fabric.frames) ∧
  (∀ (fl : List Nat) (s : State), clockStopped s 83 = false → s.fabric.scrub.reading = true → s.fabric.scrub.judging = none → s.fabric.load.any (fun l => l.started) = false →
    (∀ p, scrubPlace s s.fabric.scrub.frame 17 = some p →
      ∃ u, exec (.frameReadback fl) s = .next (readReachFrame (p / 14112) (p / 14112 * 2 ^ 19 + p % 14112) (fl.filter (fun x => decide (x < 4096))) u) ∧ u.fabric.scrub.frame = p + 1 ∧ u.fabric.frames = s.fabric.frames ∧ u.fabric.upsets = s.fabric.upsets) ∧
    (scrubPlace s s.fabric.scrub.frame 17 = none → ∃ u, exec (.frameReadback fl) s = .next (readShellFrame fl u) ∧ u.fabric.scrub.frame = 16 * 14112)) ∧
  (∀ (n addr b : Nat) (s : State), tget s.fabric.upsets [] addr = [b] → ∃ u, readReachFrame n addr [] s = judgeWord n addr (b / 32) u ∧ u.fabric.upsets = tdel s.fabric.upsets addr) ∧
  (∀ (n addr w : Nat) (c : Completion) (s : State), clockStopped s 83 = false → s.fabric.scrub.judging = some (n, addr, w) → s.braid.completions.find? (fun c => c.ep == 0x01 && c.agent == 1 && hasCome s c) = some c →
    ∃ u, u.fabric.scrub.judging = none ∧ exec .hatchReadResult s = .next (if c.status ≠ .ok then criticalWord n addr w 3 u
      else if bit (leAt c.data (w / 8) 1) (w % 8) = true then criticalWord n addr w 1 u
      else modReach n (fun r => { r with benign := min 4294967295 (r.benign + 1) }) u)) ∧
  (∀ (n t0 : Nat) (s : State), (reachOf s n).rstSince = some t0 → t0 + 10 * usCycles ≤ s.time → (reachOf s n).st = .isolated → ∃ t, exec (.policyResetEnd n) s = .next t ∧ (reachOf t n).st = (if (reachOf s n).priorIsolated then .isolated else .active) ∧ (reachOf t n).rstSince = none) ∧
  (∀ s : State, exec .tmrVote s = .next (raiseLimited 40300 msCycles 403 1 0 [] s)) ∧
  (∀ s : State, s.dbg.boot.dirDue = true → initialBusy s = false → flashLoading s = false → flashHeld s = false →
    ∃ t, exec .directoryRewrite s = .next t ∧ t.dbg.boot.dirDue = false ∧ t.dbg.boot.dirRewrite = true)

/-- SYNC_PULSE of three or more periods counts in SYNC_ERR; in HUNT the second sync 2048 periods after the first locks. BW_FRAME while LOCKED captures the slots and moves the multiframe number on; over two of them every connected byte of an input frame leaves in its output slot. CLOCK_LOSS with external timing goes to HUNT. BW_LOCK_TIMEOUT after 10 ms ends BW_INIT with TIMEOUT. MULTIFRAME_BOUNDARY applies the batches accepted at least 125 us before. BRAID_TX_SEND sends eight WRP of 512 bytes. RING_WRITE in its window stores the bytes and answers OK; outside it is discarded, counted and answered DENIED. RING_CONSUME of a whole ring frame feeds the connected outputs from it; of one not written whole it feeds 0x7F and counts a late frame. (R475, R476, R477, R479, R483, R484, R485, R488, R489, R490, R491) -/
def Obligations.BackwaterLocksAndCarriesFrames : Prop :=
  (∀ (w p : Nat) (s : State), 3 ≤ w → s.bw.st ≠ .uninit → exec (.syncPulse w p) s = .next (raiseEv 457 1 1 [] (modBw s (fun b => { b with syncErr := min (b.syncErr + 1) 4294967295 })))) ∧
  (∀ (w : Nat) (s : State), (w = 1 ∨ w = 2) → s.bw.st = .hunt → s.bw.synced = true → ∃ t, exec (.syncPulse w 2048) s = .next t ∧ t.bw.st = .locked ∧ t.bw.mframe = (if w = 2 ∨ s.bw.mfSet = false then 0 else (s.bw.mframe + 1) % 16)) ∧
  (∀ (sl : Tbl Byte) (s : State), s.bw.st = .locked → ∃ t, exec (.bwFrame sl false) s = .next t ∧ t.bw.st = .locked ∧ t.bw.in1 = wholeFrame sl ∧ t.bw.conns1 = s.bw.conns ∧ t.bw.conns = s.bw.conns ∧ t.bw.mframe = (if s.bw.mfZero then 0 else (s.bw.mframe + 1) % 16)) ∧
  (∀ (sl sl2 : Tbl Byte) (c : BwConn) (s : State), s.bw.st = .locked → c ∈ s.bw.conns → c.dstBraid = false → c.srcBraid = false → c.src < 4096 → c.dst % 256 ≠ 0 → (∀ x ∈ s.bw.conns, x.dstBraid = false → x.dst = c.dst → x = c) →
    ∃ t u, exec (.bwFrame sl false) s = .next t ∧ exec (.bwFrame sl2 false) t = .next u ∧ bwOutByte u c.dst = slotByte sl c.src) ∧
  (∀ s : State, s.bw.st ≠ .uninit → s.bw.source = 0 → ∃ t, exec .clockLoss s = .next t ∧ t.bw.st = .hunt ∧ t.bw.clockLost = true ∧ t.bw.conns = s.bw.conns) ∧
  (∀ (j : Nat) (s : State), s.bwx.initJob = some j → s.bwx.initAt + 10 * msCycles ≤ s.time → ∃ u, exec .bwLockTimeout s = .next (endJob j rcTimeout [] u) ∧ u.bwx.initJob = none) ∧
  (∀ s : State, s.bw.st = .locked → s.bw.mframe = 0 → ∃ t, exec .multiframeBoundary s = .next t ∧
    t.bw.conns = ((s.bw.batches.filter (fun b => decide (b.at_ + 125 * usCycles ≤ s.bw.frameStart))).flatMap (fun x => x.conns)).foldl applyConn s.bw.conns ∧
    t.bw.batches = s.bw.batches.filter (fun x => !(decide (x.at_ + 125 * usCycles ≤ s.bw.frameStart)))) ∧
  (∀ s : State, clockStopped s 84 = false → s.bw.txPending = true → exec .braidTxSend s = .next (forAll (List.range 8) (fun t i => (presentReq 0x58 0 (pairWrite s s.bw.txAddr (s.bwx.txFrame % 16 * 0x1000 + 512 * i) (txBytes s i)) t).2) (modBw s (fun b => { b with txPending := false })))) ∧
  (∀ (pid : Nat) (d : Delivered) (s : State), clockStopped s 84 = false → inboxFind s 0x58 pid = some d → ringOpen s (d.pkt.addr % 0x200000 - 0x100000) d.pkt.data.length = true →
    ∃ u, exec (.ringWrite pid) s = .next (respondInbox d 10 .ok [] u) ∧ u.bw.ring = (d.pkt.data.zipIdx).foldl (fun t x => tset t (d.pkt.addr % 0x200000 - 0x100000 + x.2) x.1) s.bw.ring ∧ u.bw.lateWrite = s.bw.lateWrite) ∧
  (∀ (pid : Nat) (d : Delivered) (s : State), clockStopped s 84 = false → inboxFind s 0x58 pid = some d → ringOpen s (d.pkt.addr % 0x200000 - 0x100000) d.pkt.data.length = false →
    exec (.ringWrite pid) s = .next (respondInbox d 10 .denied [] (raiseLimited 45802 msCycles 458 2 1 [] (modBw s (fun b => { b with lateWrite := min (b.lateWrite + 1) 4294967295 }))))) ∧
  (∀ s : State, clockStopped s 84 = false → s.bw.st = .locked → s.bwx.consumed = false → (List.range 4096).all (fun c => s.bw.ringWritten.contains ((s.bw.mframe + 14) % 16 * 4096 + c)) = true →
    ∃ t, exec .ringConsume s = .next t ∧ t.bwx.consumed = true ∧ t.bw.lateFrame = s.bw.lateFrame ∧
      t.bw.out = (s.bw.conns2.filter (fun c => c.srcBraid && !c.dstBraid)).foldl (fun m c => tset m c.dst (tget s.bw.ring 0x7F ((s.bw.mframe + 14) % 16 * 4096 + c.src))) s.bw.out) ∧
  (∀ s : State, clockStopped s 84 = false → s.bw.st = .locked → s.bwx.consumed = false → (List.range 4096).all (fun c => s.bw.ringWritten.contains ((s.bw.mframe + 14) % 16 * 4096 + c)) = false →
    ∃ u, exec .ringConsume s = .next (raiseLimited 45801 msCycles 458 1 1 [] u) ∧ u.bwx.consumed = true ∧ u.bw.lateFrame = min (s.bw.lateFrame + 1) 4294967295 ∧
      u.bw.out = (s.bw.conns2.filter (fun c => c.srcBraid && !c.dstBraid)).foldl (fun m c => tset m c.dst 0x7F) s.bw.out)

/-- For a served message with LEN and TARGET in range and the checks passed: PWR_STATE ACTIVE powers the masked domains, TRIM drains its set and starts its job, DOZE and STIPPLE begin the sleep entry, ACCEPTED; PWR_DOMAIN answers OFF, ON and RETENTION, which stores RET_IDLE; DVFS_SET queues the change, ACCEPTED, and at TARGET 0xFFFE stores the PMBus address; STIPPLE_PROGRAM loads a good image; TIME_SET sets or steps TIMEBASE or starts the trim; WDT_SET arms the watchdog of an engine with TIMEOUT or disarms it, and is DENIED for the watchdog of Headwater. (R380, R496, R499, R508, R513, R518, R519, R592) -/
def Obligations.PowerAndTimeCommandsTakeEffect : Prop :=
  (∀ (v : Serving) (s : State), Served s v 0x0700 19 noTarget → stateArgsBad v = false → s.power.trimJob = none → s.power.entry = none →
    (pay v 0 1 = 0 → ∃ u, u = forAll s.power.trimMask (fun u d => domainOn d u) (modPower s (fun p => { p with dev := .active, trimMask := [] })) ∧ exec .pwrState s = .next (setReply (rc rcDone) (if maskReady u then u else waitFor 1 u))) ∧
    (pay v 0 1 = 1 → (trimSet v).any (fun d => offDenied s d || offHeld s d) = false → (trimSet v).any (fun d => (gateOf s d).st == .fencing) = false →
      exec .pwrState s = .next (setReply (rc rcAccepted) (trimCheck (forAll (trimSet v) (fun u d => trimOne d u) (modPower (startJob v 0xFFFF s).2 (fun p => { p with dev := .trim, trimMask := trimSet v, trimJob := some s.ferry.nextJob, trimFailed := false })))))) ∧
    (pay v 0 1 = 2 → s.sluice.committed = [] → ∃ u, exec .pwrState s = .next (setReply (rc rcAccepted) u) ∧ u.power.entry = some { target := .doze, job := s.ferry.nextJob, since := s.time } ∧ u.power.wakeAfter = pay v 4 4) ∧
    (pay v 0 1 = 3 → (s.sluice.committed = [] ∨ s.twin.role = .standbyHot) → s.power.prog.isSome = true → s.twin.role ≠ .active →
      ∃ u, exec .pwrState s = .next (setReply (rc rcAccepted) u) ∧ u.power.entry = some { target := .stipple, job := s.ferry.nextJob, since := s.time } ∧ u.power.wakeAfter = pay v 4 4)) ∧
  (∀ (v : Serving) (s : State), Served s v 0x0701 8 (fun t => decide (t ≤ 85)) → payZero v 1 4 = true →
    (pay v 0 1 = 2 → retDomain v.target = true → retOk (pay v 4 4) = true → exec .pwrDomain s = .next (setReply (rc rcDone) (modPower s (fun p => { p with retIdle := tset p.retIdle v.target (pay v 4 4) })))) ∧
    (pay v 0 1 = 1 → s.power.trimMask.contains v.target = false → domOn s v.target = true → exec .pwrDomain s = .next (setReply (rc rcDone) s)) ∧
    (pay v 0 1 = 1 → s.power.trimMask.contains v.target = false → domOn s v.target = false → ∃ u, u = domainOn v.target s ∧ exec .pwrDomain s = .next (setReply (rc rcDone) (if domainReady u v.target then u else waitFor 1 u))) ∧
    (pay v 0 1 = 0 → offDenied s v.target = false → gateOff s v.target = true → offHeld s v.target = false → exec .pwrDomain s = .next (setReply (rc rcDone) (if domOn s v.target = true then domainOff v.target (closeGate v.target s) else s)))) ∧
  (∀ (v : Serving) (s : State), Served s v 0x0702 2 (fun t => decide (t < 24 ∨ t = 0xFFFF ∨ t = 0xFFFE)) →
    (v.target ≠ 0xFFFE → v.len ≤ 1 → pay v 0 1 ≤ 3 → s.power.pmbus.isSome = true → exec .dvfsSet s = .next (setReply (rc rcAccepted) (beginDvfs 4096 (modPower (startJob v 0x10000 s).2 (fun p => { p with dvfs := p.dvfs ++ [{ quads := dvfsQuads v.target, op := pay v 0 1, job := s.ferry.nextJob }] }))))) ∧
    (v.target = 0xFFFE → pay v 0 1 = 0 → 0x08 ≤ pay v 1 1 → pay v 1 1 ≤ 0x77 → exec .dvfsSet s = .next (setReply (rc rcDone) (modPower s (fun p => { p with pmbus := some (pay v 1 1) }))))) ∧
  (∀ (v : Serving) (h img : List Byte) (s : State), Served s v 0x0703 16 noTarget → payZero v 0 8 = true → hwRead s (pay v 8 8) 32 = some h → progHeaderFault h = none → hwRead s (pay v 8 8) (leAt h 8 4) = some img → progFault img = none →
    exec .stippleProgram s = .next (setReply (rc rcDone) (modPower s (fun p => { p with prog := some { periodMs := leAt img 0x10 2, entries := (stipOffsets img).map (stipEntryAt img) } })))) ∧
  (∀ (v : Serving) (s : State), Served s v 0x0704 16 noTarget → payZero v 1 8 = true →
    (pay v 0 1 = 0 → ∃ u, exec .timeSet s = .next (setReply (rc rcDone) u) ∧ u.tbase.tb = pay v 8 8 ∧ u.tbase.valid = true) ∧
    (pay v 0 1 = 1 → ∃ u, exec .timeSet s = .next (setReply (rc rcDone) u) ∧ u.tbase.tb = (s.tbase.tb + pay v 8 8) % 2 ^ 64 ∧ u.tbase.valid = s.tbase.valid) ∧
    (pay v 0 1 = 2 → s.tbase.trimJob = none → ∃ u, exec .timeSet s = .next (setReply (rc rcAccepted) u) ∧ u.tbase.trimJob = some s.ferry.nextJob ∧ u.tbase.tb = s.tbase.tb)) ∧
  (∀ (v : Serving) (s : State), Served s v 0x0705 12 (fun t => decide (t < 96 ∨ t = 0x0100)) → v.target = 0x0100 → exec .wdtSet s = .next (setReply (rc rcDenied) s)) ∧
  (∀ (v : Serving) (s : State), Served s v 0x0705 12 (fun t => decide (t < 96 ∨ t = 0x0100)) → v.target ≠ 0x0100 → pay v 0 1 ≤ 3 → payZero v 1 4 = true → 1 ≤ pay v 4 4 → pay v 4 4 ≤ 60000 → 1 ≤ pay v 8 4 → pay v 8 4 ≤ 10000 →
    ∃ u, exec .wdtSet s = .next (setReply (rc rcDone) u) ∧ (tget u.tbase.wdts {} v.target).action = pay v 0 1 ∧ (tget u.tbase.wdts {} v.target).armed = (pay v 0 1 != 0) ∧ (tget u.tbase.wdts {} v.target).timeout = msTicks (pay v 4 4) ∧ (tget u.tbase.wdts {} v.target).count = msTicks (pay v 4 4) ∧
      ∀ k, k ≠ v.target → tget u.tbase.wdts {} k = tget s.tbase.wdts {} k)

/-- For a served DEVICE_ID_SET: an ID of 16 384 or more is answered BAD_ARG, whatever else holds; a legal ID while a Delta port is enabled or the device is paired is answered BAD_STATE; in both the state is unchanged but for the answer. Otherwise the device ID is the ID, other parts unchanged, and the answer is DONE. (R593) -/
def Obligations.DeviceIdSetStoresTheId : Prop :=
  ∀ (v : Serving) (s : State), Served s v 0x0805 2 noTarget →
    (16384 ≤ pay v 0 2 → exec .deviceIdSet s = .next (setReply (rc rcBadArg) s)) ∧
    (pay v 0 2 ≤ 16383 → ((∃ p < 64, (portOf s p).st ≠ .disabled) ∨ s.twin.role ≠ .unpaired) → exec .deviceIdSet s = .next (setReply (rc rcBadState) s)) ∧
    (pay v 0 2 ≤ 16383 → (∀ p < 64, (portOf s p).st = .disabled) → s.twin.role = .unpaired →
      ∃ u, exec .deviceIdSet s = .next (setReply (rc rcDone) u) ∧ u.delta.deviceId = pay v 0 2 ∧ u = { s with delta := { s.delta with deviceId := pay v 0 2 } })

/-- For a served message with LEN and TARGET in range and the checks passed: TIMEOUT_SET stores a legal value; PROOF_SELECT stores the selection of its target and raises EV492; DIAG_COUNTERS of a set whose domain is on returns the counters in order and clears them; EV_ROUTE writes EV_CFGn, or EV_CTRL at TARGET 0x0200, and returns the previous value in four bytes; EV_READ with ADDR 0 returns one record and removes it, and with an address writes up to MAX records there in queue order and removes them. (R549, R591, R597, R599, R600) -/
def Obligations.SetupAndEventCommandsTakeEffect : Prop :=
  (∀ (v : Serving) (s : State), Served s v 0x0307 8 noTarget → payZero v 1 4 = true → timeoutOk (pay v 0 1) (pay v 4 4) = true → exec .timeoutSet s = .next (setReply (rc rcDone) (applyTimeout (pay v 0 1) (pay v 4 4) s))) ∧
  (∀ (v : Serving) (s : State), Served s v 0x0A00 34 (fun t => decide (t < 2)) → proofArgsBad v = false → proofAllowed s v.ch = true → proofConflict s v.target = false →
    ∃ u, exec .proofSelect s = .next (setReply (rc rcDone) u) ∧ tget u.dbg.proof {} v.target = { clkDiv := pay v 0 1, flags := pay v 1 1, entries := (List.range (proofPins v.target)).map (proofEntry v) }) ∧
  (∀ (v : Serving) (d : Nat) (s : State), Served s v 0x0A01 1 (fun _ => true) → counterDomain (pay v 0 1) v.target = some d → domOn s d = true →
    exec .diagCounters s = .next (setReply { code := rcDone, result := (List.range (counterCount (pay v 0 1))).flatMap (fun i => leBytes 4 (counterAt s (pay v 0 1) v.target i)) } (clearCounterSet (pay v 0 1) v.target s))) ∧
  (∀ (v : Serving) (s : State), Served s v 0x0B00 4 (fun t => decide (t ≤ 0x200)) →
    (v.target < 512 → evCfgBad v.target (pay v 0 4) = false → ∃ u, exec .evRoute s = .next (setReply { code := rcDone, result := leBytes 4 (evCfg s v.target) } u) ∧ evCfg u v.target = pay v 0 4 / 64 * 64 % 2 ^ 32 ∧ ∀ n, n ≠ v.target → evCfg u n = evCfg s n) ∧
    (v.target = 0x200 → pay v 0 4 ≤ 1 → ∃ u, exec .evRoute s = .next (setReply { code := rcDone, result := leBytes 4 (b2n s.events.fatalFence) } u) ∧ u.events.fatalFence = bit (pay v 0 4) 0 ∧ u.events.cfg = s.events.cfg)) ∧
  (∀ (v : Serving) (s : State), Served s v 0x0B01 16 noTarget → payZero v 2 8 = true →
    (pay v 0 2 = 1 → pay v 8 8 = 0 → ∃ u, exec .evRead s = .next (setReply { code := rcDone, result := readCounts (s.events.hostQ.take 1).length (s.events.hostQ.drop 1).length ++ padTo 32 ((s.events.hostQ.take 1).flatMap recBytes) } u) ∧ u.events.hostQ = s.events.hostQ.drop 1 ∧ u.mems = s.mems) ∧
    (∀ t, 1 ≤ pay v 0 2 → pay v 0 2 ≤ 4096 → pay v 8 8 ≠ 0 → writeRecs (pay v 8 8) (s.events.hostQ.take (pay v 0 2)) s = (true, t) →
      ∃ u, exec .evRead s = .next (setReply { code := rcDone, result := readCounts (s.events.hostQ.take (pay v 0 2)).length (s.events.hostQ.drop (pay v 0 2)).length } u) ∧ u.events.hostQ = s.events.hostQ.drop (pay v 0 2) ∧ u.mems = t.mems))

/-- While agents vote: PREPARE_VOTE of a powered agent that has not voted records yes, or a refusal with cause 1, and VOTE_TIMEOUT after 100 us a refusal with cause NO_VOTE. SLEEP_COMMIT with every vote in and none refused puts the device into DOZE, or begins the descent into STIPPLE, after a committed calendar has been suspended; with a debugger attached the sleep is emulated. RETENTION_STEP on the slow clock retains the memories; STIPPLE_ENTERED puts the device into STIPPLE. SLEEP_ABORTED, due, ends the entry with BUSY and raises EV416. WAKE_EVENT records the source that first woke the device; DOZE_EXIT and STIPPLE_EXIT_DONE return to the state before, ending the job; a suspended calendar is installed again first, by the commit sequence. STIPPLE_PERIOD samples every entry and wakes on one that reached its count. (R501, R502, R503, R505, R506, R507, R509) -/
def Obligations.SleepIsVotedEnteredAndLeft : Prop :=
  (∀ (d : Nat) (ok : Bool) (e : Entry) (s : State), s.power.entry = some e → e.step = 1 → d < 86 → domOn s d = true → voted e d = false →
    exec (.prepareVote d ok) s = .next (setEntry (some (if refuses s e.target d ok then { e with refused := e.refused ++ [(d, 1)] } else { e with agreed := e.agreed ++ [d] })) s)) ∧
  (∀ (d : Nat) (e : Entry) (s : State), s.power.entry = some e → e.step = 1 → d < 86 → domOn s d = true → voted e d = false → e.since + 100 * usCycles ≤ s.time →
    exec (.voteTimeout d) s = .next (setEntry (some { e with refused := e.refused ++ [(d, 2)] }) s)) ∧
  (∀ (e : Entry) (s : State), s.power.entry = some e → e.step = 1 → votesIn s e = true → e.refused = [] → e.wakeAt ≠ 1 → newWork s e = [] →
    (s.dbg.sty.st ≠ .detached → e.past = false → exec .sleepCommit s = .next (fallAsleep e true s)) ∧
    (s.dbg.sty.st = .detached → e.target ≠ .doze → s.sluice.commitB = none → s.sluice.committed ≠ [] → exec .sleepCommit s = .next (startCommit .suspend [] (braidNow s) (setEntry (some { e with past := true }) s))) ∧
    (s.dbg.sty.st = .detached → e.target = .doze → ∃ t, exec .sleepCommit s = .next t ∧ t.power.dev = .doze ∧ t.power.entry = none ∧ t.power.sleepJob = some e.job ∧ t.power.prev = (if s.power.dev = .trim then .trim else .active)) ∧
    (s.dbg.sty.st = .detached → e.target ≠ .doze → s.sluice.commitB = none → s.sluice.committed = [] → ∃ t, exec .sleepCommit s = .next t ∧ t.power.entry = some { e with step := 2 } ∧ t.eng.pllMe = false ∧ t.tbase.swapDue = true)) ∧
  (∀ (e : Entry) (s : State), s.power.entry = some e → e.step = 2 → s.tbase.slowDriven = true → e.wakeAt ≠ 2 → newWork s e = [] →
    ∃ t, exec .retentionStep s = .next t ∧ t.power.entry = some { e with step := 3 } ∧ ∀ u, memPwr t u = (if u < 32 ∧ memPwr s u = .on then .retention else memPwr s u)) ∧
  (∀ (e : Entry) (s : State), s.power.entry = some e → e.step = 3 → e.wakeAt ≠ 3 → newWork s e = [] → e.target = .stipple →
    ∃ t, exec .stippleEntered s = .next t ∧ t.power.dev = .stipple ∧ t.power.entry = none ∧ t.power.sleepJob = some e.job) ∧
  (∀ (e : Entry) (s : State), s.power.entry = some e → abortDue s e = true →
    ∃ u, exec .sleepAborted s = .next (endJob e.job rcBusy [] (raiseEv 416 1 1 (leBytes 1 e.step ++ leBytes 1 (abortCause s e).1 ++ leBytes 1 (abortCause s e).2) u)) ∧ u.power.entry = none) ∧
  (∀ (w : WakeSource) (s : State), s.power.entry = none → wakes s.power.dev w = true → wakeTrue s w = true → ∃ t, exec (.wakeEvent w) s = .next t ∧ t.power.wakeSrc = some (s.power.wakeSrc.getD w) ∧ t.power.dev = s.power.dev) ∧
  (∀ (w : WakeSource) (s : State), s.power.dev = .doze → s.power.wakeSrc = some w → ∃ t, exec .dozeExit s = .next t ∧ t.power.dev = s.power.prev ∧ t.power.wakeSrc = none ∧ t.power.sleepJob = none) ∧
  (∀ (w : WakeSource) (s : State), s.power.dev = .stipple → s.power.emulated = false → s.power.wakeSrc = some w →
    (s.power.resuming = false → (stippleRestore s).sluice.suspended = none → exec .stippleExitDone s = .next (stippleLeave (stippleRestore s))) ∧
    (∀ cal, s.power.resuming = false → (stippleRestore s).sluice.suspended = some cal → exec .stippleExitDone s = .next (startCommit .resume cal (braidNow (stippleRestore s)) (modPower (stippleRestore s) (fun p => { p with resuming := true })))) ∧
    (s.power.resuming = true → s.sluice.commitB = none → exec .stippleExitDone s = .next (stippleLeave s)) ∧
    (stippleLeave s).power = { s.power with dev := s.power.prev, sleepJob := none, wakeSrc := none, wakeEntries := [], emulated := false, resuming := false }) ∧
  (∀ s : State, (awake s).power = { s.power with dev := s.power.prev, sleepJob := none, wakeSrc := none, wakeEntries := [], emulated := false }) ∧
  (∀ (v : List Int) (g : StipProg) (s : State), s.power.prog = some g → s.power.dev = .stipple → s.power.wakeSrc = none → s.power.lastPeriod + msTicks g.periodMs ≤ s.tbase.slowTicks →
    ∃ u es, (u.power.prog = some { g with entries := es } ∧ es = (g.entries.zip ((List.range g.entries.length).map (fun i => v.getD i 0))).map (fun p => stipUpdate p.1 (stipSample s p.1 p.2))) ∧
      exec (.stipplePeriod v) s = .next (if (reached u).isEmpty then u else modPower u (fun p => { p with wakeSrc := some .stipple, wakeEntries := reached u })))

/-- POWER_GOOD of a change that waits sets the rail and marks the time. DVFS_FREQUENCY_CHANGE of an open guard at a clean quad gives the quad its operating point; with the last one the quads that were off take the point too and the job ends. PG_TIMEOUT after 5 ms, or on a failed bus, ends the job with TIMEOUT and raises EV418. SLOW_CLOCK_LOSS while the slow clock drives makes TIMEBASE invalid, changes to the internal oscillator and raises EV431. TRIM_MEASURE_DONE stores an increment in range, DONE, and otherwise FAILED_CHECK. THERMAL_SAMPLE records the sample, and above 100.0 degrees trips. RAIL_FAULT marks the rail and has its effect out of reset; RAIL_RETURN unmarks it. (R513, R514, R515, R517, R518, R523, R611, R612) -/
def Obligations.SuppliesClocksAndSensorsAreWatched : Prop :=
  (∀ (w b : Nat) (s : State), awaitsGood s = some (w, b) → ∃ t, exec .powerGood s = .next t ∧ t.power.vccMe = w ∧ awaitsGood t = none) ∧
  (∀ (q : Nat) (x : Dvfs) (r : List Dvfs) (s : State), s.power.dvfs = x :: r → guardOpen s x = true → q ∈ x.quads → quadClean s q = true →
    ∃ u, (quadOf u q).op = x.op ∧ u.power.dvfs = { x with quads := ldel x.quads q } :: r ∧ exec (.dvfsFrequencyChange q) s = .next (if (ldel x.quads q).isEmpty then endJob x.job rcDone [] (nextDvfs (setPoints x.op x.later u)) else u)) ∧
  (∀ (f : Bool) (w b : Nat) (x : Dvfs) (r : List Dvfs) (s : State), awaitsGood s = some (w, b) → s.power.dvfs = x :: r → (f = true ∨ b + 5 * msCycles ≤ s.time) →
    exec (.pgTimeout f) s = .next (endJob x.job rcTimeout [] (beginDvfs 4096 (raiseEv 418 (if f then 2 else 1) 2 [] (modPower s (fun p => { p with dvfs := r })))))) ∧
  (∀ s : State, s.tbase.slowDriven = true → ∃ t, exec .slowClockLoss s = .next t ∧ t.tbase.valid = false ∧ t.tbase.crystal = false ∧ t.tbase.tb = s.tbase.tb ∧ t.power = s.power) ∧
  (∀ (n j : Nat) (s : State), s.tbase.trimJob = some j → s.tbase.trimAt + 32768 ≤ s.tbase.slowTicks → ∃ u, exec (.trimMeasureDone n) s = .next (endJob j (if 1920000000 ≤ 2 * n ∧ 2 * n ≤ 2080000000 then rcDone else rcFailedCheck) [] u) ∧
    u.tbase.trimJob = none ∧ u.tbase.incSlow = (if 1920000000 ≤ 2 * n ∧ 2 * n ≤ 2080000000 then 2 * n else s.tbase.incSlow)) ∧
  (∀ (k : Nat) (v : Int) (s : State), k < 8 → v < 1000 → ∃ t, exec (.thermalSample k v) s = .next t ∧ tget t.power.sensors 0 k = v ∧ t.power.tripped = s.power.tripped ∧
    (800 < v → k ∈ t.power.raisedHigh) ∧ (v ≤ 760 → k ∉ t.power.raisedHigh) ∧ (880 < v → k ∈ t.power.raisedCrit) ∧ (v ≤ 840 → k ∉ t.power.raisedCrit)) ∧
  (∀ (k : Nat) (v : Int) (s : State), k < 8 → 1000 ≤ v → s.power.tripped = false → ∃ u, exec (.thermalSample k v) s = .next (thermalTrip k u)) ∧
  (∀ (r : Rail) (s : State), s.power.railsOut.contains r = false → ∃ u, u = modPower s (fun p => { p with railsOut := p.railsOut ++ [r] }) ∧ exec (.railFault r) s = .next (if s.dbg.inReset then u else railEffect r u)) ∧
  (∀ (r : Rail) (s : State), r ≠ .aon → ∃ t, exec (.railReturn r) s = .next t ∧ t.power.railsOut = ldel s.power.railsOut r ∧ r ∉ t.power.railsOut)

/-- POWER_ON_RESET clears everything but fuses, flash and the pins, AON back. CRYSTAL_WATCH_EXPIRY after 1 s selects the crystal or marks it absent. A RST_STY_N pulse of 20 us or more is a device reset, of 0.2-0.4 us opens a response window while response bits wait, in which the device answers the next bit, or attaches behind the attach pattern, else, as up to 0.6 us, a symbol 0, of 1-2 us a symbol 1, of more than 2 to 19 us a glitch; any other width stops by name. DEVICE_RESET deasserts FATAL_N, keeps FIRST_EV in LAST_FATAL and holds reset; RESET_RELEASE samples BOOT_MODE and SLOT_ID. FIRMWARE_LOAD tries the images in order. TAMPER_N_RISE releases its input. FUSE_PROGRAMMING_DONE verified moves the life cycle. FLASH_STAGING_DONE writes the staged bytes; DIRECTORY_REWRITE_DONE swaps the firmware images. (R19, R389, R525, R526, R527, R528, R529, R532, R534, R552, R580, R583) -/
def Obligations.ResetsBootAndStyPulsesTakeEffect : Prop :=
  (∀ s : State, ∃ t, exec .powerOnReset s = .next t ∧ t.dbg.fuses = s.dbg.fuses ∧ t.dbg.boot = { flash := s.dbg.boot.flash } ∧ t.dbg.inReset = true ∧ t.lanes = {} ∧ t.crypto = {} ∧ t.ferry = {} ∧ t.tbase = { watchFrom := s.time } ∧ t.events = {} ∧ t.mems.mem = [] ∧ Rail.aon ∉ t.power.railsOut) ∧
  (∀ (o : Bool) (s : State), s.tbase.watching = true → s.tbase.watchFrom + 1000 * msCycles ≤ s.time → ∃ t, exec (.crystalWatchExpiry o) s = .next t ∧ t.tbase.watching = false ∧ t.tbase.crystal = o ∧ t.tbase.crystalAbsent = !o) ∧
  (∀ (w : Nat) (s : State),
    (20000 ≤ w → exec (.rstStyNPulse w) s = .next (deviceReset 1 s)) ∧
    (∀ b r, 200 ≤ w ∧ w ≤ 400 → s.dbg.sty.respBits = b :: r → exec (.rstStyNPulse w) s = .next (modSty s (fun y => { y with respBits := r, sentBit := some (b, s.time) }))) ∧
    (200 ≤ w ∧ w ≤ 400 → s.dbg.sty.respBits = [] → s.dbg.sty.st = .detached → attachPattern s.dbg.sty.symbols = true → exec (.rstStyNPulse w) s = .next (attach s)) ∧
    (200 ≤ w ∧ w ≤ 600 → (400 < w ∨ (s.dbg.sty.respBits = [] ∧ (s.dbg.sty.st ≠ .detached ∨ attachPattern s.dbg.sty.symbols = false))) → exec (.rstStyNPulse w) s = .next (takeSymbol false s)) ∧
    (1000 ≤ w ∧ w ≤ 2000 → exec (.rstStyNPulse w) s = .next (takeSymbol true s)) ∧
    (2000 < w ∧ w ≤ 19000 → ∃ t, exec (.rstStyNPulse w) s = .next t ∧ t.dbg.sty = { s.dbg.sty with glitch := s.dbg.sty.glitch + 1 }) ∧
    (w < 200 ∨ (600 < w ∧ w < 1000) ∨ (19000 < w ∧ w < 20000) → exec (.rstStyNPulse w) s = .fault .pulseNotSpecified)) ∧
  (∀ (b : Bool) (s : State), ∃ t, takeSymbol b s = t ∧ t.dbg.sty.lastSymbol = s.time ∧ (s.dbg.sty.symbols.length < 1024 → t.dbg.sty.symbols = s.dbg.sty.symbols ++ [b])) ∧
  (∀ s : State, ∃ t, exec .deviceReset s = .next t ∧ t.dbg.inReset = true ∧ t.events.fatalN = false ∧ t.events.groups = [] ∧ t.dbg.boot.lastFatal = lastFatalOf s ∧ t.dbg.boot.lastReset = 1 ∧ t.dbg.fuses = s.dbg.fuses ∧ t.dbg.boot.flash = s.dbg.boot.flash ∧ t.crypto.slots = [] ∧ t.tbase.valid = s.tbase.valid) ∧
  (∀ (m p : Nat) (g : Bool) (s : State), s.dbg.inReset = true → ∃ t, exec (.resetRelease m p g) s = .next t ∧ t.dbg.inReset = false ∧ t.dbg.boot.bootMode = m % 8 ∧ t.dbg.boot.slotId = p % 64 ∧ t.dbg.boot.vmePg = g ∧ t.delta.deviceId = p % 64) ∧
  (∀ (o : Bool) (s : State), s.ferry.resetting = true → s.ferry.recovery = false → s.dbg.boot.loaded = false → s.dbg.inReset = false → domOn s 1 = true →
    exec (.firmwareLoad o) s = .next (bootTry (bootOrder s.dbg.boot) (modBoot (flashMode o s) (fun b => { b with failA := 0, failB := 0, fallback := none, dirDue := false, nextSvn := none })))) ∧
  (∀ (i : Nat) (s : State), ∃ t, exec (.tamperNRise i) s = .next t ∧ t.dbg.tamperLow = ldel s.dbg.tamperLow i ∧ t.crypto = s.crypto) ∧
  (∀ (n j : Nat) (s : State), s.dbg.boot.fuseJob = some (n, j) →
    (∃ u, exec (.fuseProgrammingDone true) s = .next (endJob j rcDone [] u) ∧ u.dbg.fuses = { s.dbg.fuses with life := lifeOf n } ∧ u.crypto.trigger = some (s.crypto.trigger.getD 3)) ∧
    (∃ u, exec (.fuseProgrammingDone false) s = .next (endJob j rcFailedCheck [] u) ∧ u.dbg.fuses = s.dbg.fuses)) ∧
  (∀ (k o j : Nat) (pr : Bool) (img : List Byte) (s : State), s.dbg.boot.staging = some (k, pr, o, img, j) →
    ∃ u, u = flashWrite o img (modBoot s (fun b => { b with staging := none })) ∧ exec (.flashStagingDone true) s = .next (nextReload (match k with
      | 0 => stagedFirmware o j img u
      | 1 => stagedFabric o j pr img u
      | _ => endJob j rcDone [] u))) ∧
  (∀ s : State, s.dbg.boot.dirRewrite = true → ∃ u, exec .directoryRewriteDone s = .next (nextReload (commitSvn u)) ∧ u.dbg.boot.dirRewrite = false ∧ u.dbg.boot.fwImage = (if s.dbg.boot.fwImage < 2 then 1 - s.dbg.boot.fwImage else s.dbg.boot.fwImage))

/-- ATTACH after its 64-symbol pattern attaches, authorized in BLANK and RETIRED; STYLUS_FRAME_TIMEOUT discards a frame. A frame that is not refused is served: IDCODE answers 8 bytes; CHALLENGE a nonce, kept with its record; RESPOND with the right tag authorizes, with a wrong one does not; DETACH detaches; RESULT collects the outstanding access; READ and WRITE of 4, 8 or 64 bytes, none outstanding, enter Braid from 0x06 with DEBUG; HALT requests a halt; RUN and STEP resume a DEBUG engine and its mover channel, and answer NOT_HALTED for another; ENG_RESET resets; REGRD answers the register of a stopped engine, REGWR writes it; RESET_HW resets Headwater, RESET_DEVICE the device. A refused frame changes its response only; the bits of every response are kept for the response windows. (R525, R533, R536, R537, R538, R539, R540, R541, R543, R544, R34) -/
def Obligations.StylusCommandsAreServed : Prop :=
  (∀ s : State, s.dbg.sty.st = .detached → attachPattern s.dbg.sty.symbols = true → ∃ t, exec .attach s = .next t ∧ t.dbg.sty.st = (if s.dbg.fuses.life = .blank ∨ s.dbg.fuses.life = .retired then .authorized else .attached) ∧ t.dbg.sty.symbols = []) ∧
  (∀ s : State, s.dbg.sty.symbols ≠ [] → s.dbg.sty.lastSymbol + 10 * usCycles ≤ s.time → exec .stylusFrameTimeout s = .next (modSty s (fun y => { y with symbols := [] }))) ∧
  (∀ (cmd : Nat) (p : List Byte) (n k : Nat) (b : State → StyResp × State) (s : State), s.dbg.sty.st ≠ .detached → styRefusal s cmd p = some k →
    stylusServe cmd p n b s = styRespond s.dbg.sty.ferry n { status := k } s ∧ ∀ r, ∃ y, styRespond s.dbg.sty.ferry n r s = modSty s (fun x => { x with resp := y, symbols := [], ferry := false, respBits := frameSymbols (respFrame y), sentBit := none })) ∧
  (∀ s : State, s.dbg.sty.st ≠ .detached → styRefusal s 1 [] = none → exec .idcode s = .next (styRespond s.dbg.sty.ferry 8 (styOk (idcodeBytes s)) s)) ∧
  (∀ (r : Nat) (n : BitVec 256) (s : State), s.dbg.sty.st ≠ .detached → styRefusal s 2 (leBytes 1 r) = none → s.dbg.sty.refusedUntil ≤ s.time →
    exec (.challenge r n) s = .next (styRespond s.dbg.sty.ferry 32 (styOk (leBytes 32 n.toNat)) (modSty s (fun y => { y with nonce := some (n, r % 256) })))) ∧
  (∀ (tag : List Byte) (n : BitVec 256) (r : Nat) (s : State), s.dbg.sty.st = .attached → styRefusal s 3 (padTo 16 tag) = none → s.dbg.sty.nonce = some (n, r) →
    (padTo 16 tag = correctTag s n r → ∃ t, exec (.respond tag) s = .next t ∧ t.dbg.sty.st = .authorized ∧ t.dbg.sty.fails = 0 ∧ t.dbg.sty.nonce = none) ∧
    (padTo 16 tag ≠ correctTag s n r → ∃ t, exec (.respond tag) s = .next t ∧ t.dbg.sty.st = (if 8 ≤ s.dbg.sty.fails + 1 then .lockedOut else .attached) ∧ t.dbg.sty.fails = s.dbg.sty.fails + 1 ∧ t.dbg.sty.nonce = none)) ∧
  (∀ s : State, (s.dbg.sty.st = .attached ∨ s.dbg.sty.st = .authorized) → styRefusal s 4 [] = none → ∃ t, exec .detach s = .next t ∧ t.dbg.sty.st = .detached ∧ t.dbg.sty.nonce = none ∧ t.dbg.sty.outstanding = none) ∧
  (∀ s : State, s.dbg.sty.st ≠ .detached → styRefusal s 5 [] = none → exec .result s = .next (styRespond s.dbg.sty.ferry (resultLen s) (collect s).1 (collect s).2)) ∧
  (∀ (a n : Nat) (s : State), s.dbg.sty.st ≠ .detached → (n = 4 ∨ n = 8 ∨ n = 64) → s.dbg.sty.outstanding = none →
    let req (op : Op) (l : List Byte) : Req := { op := op, far := (sysAddr a).2.1, farDev := (sysAddr a).2.2, farEp := farEpOf s (sysAddr a).1, addr := (sysAddr a).1, len := n, data := l, debug := true }
    let after (r : Nat × State) (w : Bool) : State := modSty r.2 (fun y => { y with outstanding := some (r.1, n, w) })
    (styRefusal s 0x10 (leBytes 8 a ++ leBytes 1 n) = none → exec (.stylusRead a n) s = .next (styRespond s.dbg.sty.ferry (3 + n) (collect (after (presentReq 0x06 0 (req .rd []) s) false)).1 (collect (after (presentReq 0x06 0 (req .rd []) s) false)).2)) ∧
    (∀ l : List Byte, styRefusal s 0x11 (leBytes 8 a ++ leBytes 1 n ++ padTo n l) = none → exec (.stylusWrite a n l) s = .next (styRespond s.dbg.sty.ferry 3 (collect (after (presentReq 0x06 0 (req .wr (padTo n l)) s) true)).1 (collect (after (presentReq 0x06 0 (req .wr (padTo n l)) s) true)).2))) ∧
  (∀ (k : Nat) (s : State), s.dbg.sty.st ≠ .detached → k < 96 → domOn s (6 + k / 4) = true →
    (styRefusal s 0x20 (leBytes 1 k) = none → ∃ u, engOf u k = { engOf s k with haltReq := (engOf s k).st != .debug } ∧ (∀ j, j ≠ k → engOf u j = engOf s j) ∧ exec (.stylusHalt k) s = .next (styRespond s.dbg.sty.ferry 4 (styOk (engStatBytes u k)) u)) ∧
    (styRefusal s 0x21 (leBytes 1 k) = none → (engOf s k).st = .debug → ∃ w, engOf w k = { engOf s k with st := .running, haltReq := false, stepping := false, mover := { (engOf s k).mover with paused := false } } ∧
      exec (.stylusRun k) s = .next (styRespond s.dbg.sty.ferry 4 (styOk (engStatBytes (quadGo (k / 4) w) k)) (quadGo (k / 4) w))) ∧
    (styRefusal s 0x22 (leBytes 1 k) = none → (engOf s k).st = .debug → ∃ w, engOf w k = { engOf s k with st := .running, haltReq := false, stepping := true, mover := { (engOf s k).mover with paused := false } } ∧
      exec (.stylusStep k) s = .next (styRespond s.dbg.sty.ferry 4 (styOk (engStatBytes (quadGo (k / 4) w) k)) (quadGo (k / 4) w))) ∧
    ((engOf s k).st ≠ .debug → (styRefusal s 0x21 (leBytes 1 k) = none → exec (.stylusRun k) s = .next (styRespond s.dbg.sty.ferry 4 { status := 8 } s)) ∧ (styRefusal s 0x22 (leBytes 1 k) = none → exec (.stylusStep k) s = .next (styRespond s.dbg.sty.ferry 4 { status := 8 } s))) ∧
    (styRefusal s 0x23 (leBytes 1 k) = none → exec (.engReset k) s = .next (styRespond s.dbg.sty.ferry 4 (styOk (engStatBytes (resetEngine k s) k)) (resetEngine k s))) ∧
    (∃ w, resetEngine k s = quadGo (k / 4) (senderResetChan k w) ∧ engOf w k = { start := (engOf s k).start, pc := (engOf s k).start, mover := if (engOf s k).mover.st = .run then { (engOf s k).mover with abort := true, paused := false } else (engOf s k).mover }) ∧
    (∀ c i, styRefusal s 0x24 (leBytes 1 k ++ leBytes 1 c ++ leBytes 1 i) = none → regNamed c i = true → regsOpen (engOf s k) = true →
      ∃ t, exec (.regrd k c i) s = .next (styRespond s.dbg.sty.ferry 8 (styOk (leBytes 8 (toBits 64 (regValue k (engOf s k) c i)))) t) ∧ t.braid = s.braid ∧ (engOf t k).pc = (engOf s k).pc) ∧
    (∀ c i (x : BitVec 64), styRefusal s 0x25 (leBytes 1 k ++ leBytes 1 c ++ leBytes 1 i ++ leBytes 8 x.toNat) = none → regNamed c i = true → regsOpen (engOf s k) = true →
      exec (.regwr k c i x) s = .next (styRespond s.dbg.sty.ferry 0 (styOk []) (modEng k (regStore c i x) s)))) ∧
  (∀ s : State, s.dbg.sty.st ≠ .detached → (styRefusal s 0x30 [] = none → exec .resetHw s = .next (styRespond s.dbg.sty.ferry 0 (styOk []) (hwReset .stylus s))) ∧ (styRefusal s 0x31 [] = none → exec .resetDevice s = .next (deviceReset 2 s)))

/-- For a served message with LEN and TARGET in range and the checks passed: SYS_INFO and SYS_BOOT_STATUS return their page; SYS_FW_STAGE is ACCEPTED and holds the staged bytes; SYS_FW_ACTIVATE of a staged image that passes its checks leaves the switch pending, and otherwise returns FAILED_CHECK with the reason; SYS_LIFECYCLE to the next state is ACCEPTED and starts programming; ROUTE_LOAD stores a good table as the shadow, invalid entries as 0; ROUTE_COMMIT starts the swap of its NIs, and both commits send what they commit to a linked partner; SLUICE_LOAD stores a good calendar, SLUICE_COMMIT starts its commit; WEIR_FENCE of an OPEN gate is ACCEPTED and fences it; WEIR_OPEN opens a DRAINED gate; ROUTER_MAINT is ACCEPTED and starts. (R92, R95, R96, R124, R130, R147, R149, R578, R579, R580, R582, R583) -/
def Obligations.SystemRouteAndGateCommandsTakeEffect : Prop :=
  (∀ (v : Serving) (s : State), Served s v 0x0100 0 (fun t => decide (t < 4)) →
    exec .sysInfo s = .next (setReply { code := rcDone, result := if v.target = 0 then infoIdentity s else if v.target = 1 then infoSensors s else if v.target = 2 then infoStaged s else infoRepair s } s)) ∧
  (∀ (v : Serving) (s : State), Served s v 0x0101 0 noTarget → exec .sysBootStatus s = .next (setReply { code := rcDone, result := bootStatusBytes s } s)) ∧
  (∀ (v : Serving) (o e : Nat) (img : List Byte) (s : State), Served s v 0x0102 20 noTarget → stageArgsBad v s = false → (s.ferry.recovery = true → pay v 0 1 = 0) → initialBusy s = false → flashLoading s = false → flashHeld s = false →
    stageArea s (pay v 0 1) (pay v 4 4) (pay v 16 4) = some (o, e) → (pay v 0 1 ≠ 0 → recordedIn s o e = false) → o + pay v 16 4 ≤ e → hwRead s (pay v 8 8) (pay v 16 4) = some img →
    ∃ u, exec .sysFwStage s = .next (setReply (rc rcAccepted) u) ∧ u.dbg.boot.staging = some (pay v 0 1, pay v 1 1 == 1, o, img, s.ferry.nextJob) ∧ u.dbg.boot.flash = s.dbg.boot.flash) ∧
  (∀ (v : Serving) (s : State), Served s v 0x0103 1 noTarget → pay v 0 1 ≤ 1 → s.dbg.boot.stageState = 2 → (pay v 0 1 = 1 → s.power.railsOut.contains .fuse = false) → initialBusy s = false → flashLoading s = false → flashHeld s = false →
    exec .sysFwActivate s = (match fwTry s (stagedImage s) with
      | some 0 => .next (setReply (rc rcDone) (modFerry s (fun f => { f with switchPending := true, commitSvn := pay v 0 1 == 1 })))
      | some k => .next (setReply (failedAt 0 k) s)
      | none => .next (setReply (failedAt 0 1) s))) ∧
  (∀ (v : Serving) (s : State), Served s v 0x0104 8 noTarget → payZero v 1 4 = true → pay v 0 1 ≤ 3 → pay v 0 1 = lifeCode s.dbg.fuses.life + 1 → pay v 4 4 = 0x5AFE0000 + pay v 0 1 → s.power.railsOut.contains .fuse = false → s.dbg.boot.fuseJob = none →
    ∃ u, exec .sysLifecycle s = .next (setReply (rc rcAccepted) u) ∧ u.dbg.boot.fuseJob = some (pay v 0 1, s.ferry.nextJob) ∧ u.dbg.fuses = s.dbg.fuses) ∧
  (∀ (v : Serving) (img : List Byte) (s : State), Served s v 0x0300 16 niTarget → payZero v 0 8 = true → committing s v.target = false → hwRead s (pay v 8 8) 2048 = some img → tableFault s v.target (imageEntries img) = none →
    ∃ u, exec .routeLoad s = .next (setReply (rc rcDone) u) ∧ (niOf u v.target).shadowOk = true ∧ (niOf u v.target).shadow = ((imageEntries img).map (fun e => (e.1, if bit e.2 63 then e.2 else 0))).filter (fun e => e.2 != defaultEntry v.target e.1) ∧
      (niOf u v.target).routes = (niOf s v.target).routes ∧ ∀ n, n ≠ v.target → niOf u n = niOf s n) ∧
  (∀ (v : Serving) (s : State), Served s v 0x0301 24 noTarget → payZero v 0 8 = true → niSet v ≠ [] → (niSet v).all epListed = true → s.braid.commitJob = none → (niSet v).all (fun n => (niOf s n).shadowOk) = true →
    exec .routeCommit s = .next (setReply (rc rcDone) (swapsDone (waitFor 1 (modBraid (forAll (niSet v) (fun t n => modNi n (fun x => { x with swapPending := true }) t) (forAll (niSet v) (fun u n => mirrorItem (.routes n (niOf u n).shadow) u) s)) (fun b => { b with commitJob := some (niSet v) })))))) ∧
  (∀ (v : Serving) (h img : List Byte) (s : State), Served s v 0x0302 16 noTarget → payZero v 0 8 = true → s.sluice.commitB = none → hwRead s (pay v 8 8) 32 = some h → leAt h 0 4 = 0x5C1D0004 → leAt h 4 2 = 1 → 32 ≤ leAt h 8 4 → leAt h 8 4 ≤ calendarMost → hwRead s (pay v 8 8) (leAt h 8 4) = some img → calendarFault s img = none →
    ∃ u, exec .sluiceLoad s = .next (setReply (rc rcDone) u) ∧ u.sluice.shadow = (recordOffsets img 32 (leAt img 6 2)).1.map (flowOf img) ∧ u.sluice.shadowOk = true ∧ u.sluice.committed = s.sluice.committed) ∧
  (∀ (v : Serving) (s : State), Served s v 0x0303 0 noTarget → s.sluice.commitB = none → s.sluice.shadowOk = true → exec .sluiceCommit s = .next (setReply (rc rcDone) (waitFor 1 (mirrorItem (.calendar s.sluice.shadowImg) (startCommit .command s.sluice.shadow (v.takenAt - s.braid.epoch) s))))) ∧
  (∀ (v : Serving) (s : State), Served s v 0x0304 1 isGate → pay v 0 1 ≤ 1 → fenceDenied v.target = false → reachGate v.target = false → calendarGate s v.target = false → (gateOf s v.target).st = .opened →
    ∃ u, exec .weirFence s = .next (setReply (rc rcAccepted) u) ∧ gateOf u v.target = { st := .fencing, force := bit (pay v 0 1) 0, since := s.time, limit := s.braid.drainMax * usCycles, job := some s.ferry.nextJob }) ∧
  (∀ (v : Serving) (s : State), Served s v 0x0305 0 isGate → reachGate v.target = false → (gateOf s v.target).st = .drained → gateHeld s v.target = false → ∃ u, exec .weirOpen s = .next (setReply (rc rcDone) u) ∧ (gateOf u v.target).st = .opened) ∧
  (∀ (v : Serving) (s : State), Served s v 0x0306 3 routerTarget → maintArgsBad (v.target - 0x100) (pay v 0 1) (pay v 1 1) = false → pay v 2 1 ≤ 1 → fenceDenied v.target = false → calUses s.sluice.committed (v.target - 0x100) = false → s.braid.maint = none → s.braid.commitJob = none → (gateOf s v.target).st ≠ .fencing →
    exec .routerMaint s = .next (setReply (rc rcAccepted) (startMaint (v.target - 0x100) (pay v 0 1) (pay v 1 1) (bit (pay v 2 1) 0) s.ferry.nextJob (startJob v v.target s).2)))

/-- When Headwater finishes the command of channel c (FERRY_ACK_WRITE of an answered message that does not wait), channel c is the one finished last. TAKE, when Headwater is interrupted and serves, takes the POSTED channel c that is reached first in the order last + 1, last + 2 and so on modulo 128: every other POSTED channel lies further on (a message withdrawn in this very Braid cycle still counts, by R45). After a device reset and after a Headwater reset of any cause, channel 127 counts as the one finished last, so a POSTED channel 0 is taken. (R55) -/
def Obligations.ChannelsAreServedRoundRobin : Prop :=
  (∀ (v : Serving) (r : Reply) (s : State), s.ferry.serving = some v → v.reply = some r → v.waitingFor = 0 → ∃ t, exec .ferryAckWrite s = .next t ∧ t.ferry.serving = none ∧ t.ferry.lastDone = v.ch) ∧
  (∀ (c : Nat) (s : State), s.ferry.irq = true → serves s = true → s.ferry.lastDone < 128 → c < 128 → takeable s c = true →
    (∀ d < 128, takeable s d = true → (c + 127 - s.ferry.lastDone) % 128 ≤ (d + 127 - s.ferry.lastDone) % 128) →
    ∃ t v, exec .take s = .next t ∧ t.ferry.serving = some v ∧ v.ch = c ∧ (chanOf t c).st = .taken ∧ ∀ d, d ≠ c → chanOf t d = chanOf s d) ∧
  (∀ s : State, ∃ t, exec .deviceReset s = .next t ∧ t.ferry.lastDone = 127) ∧
  (∀ (k : HwResetCause) (s : State), ∃ t, exec (.headwaterReset k) s = .next t ∧ t.ferry.lastDone = 127) ∧
  (∀ s : State, s.ferry.irq = true → serves s = true → s.ferry.lastDone = 127 → takeable s 0 = true → ∃ t v, exec .take s = .next t ∧ t.ferry.serving = some v ∧ v.ch = 0)

/-- Whatever message is served and however it is answered, when ROUTE_LOAD gives a next state, every NI has the active table, the queues and everything else it had, but for the shadow table (and its mark of having been checked) of the NI that TARGET names; every other NI, every router, every wire, packet and group of Braid, and all memory are as they were. (R95) -/
def Obligations.RouteLoadWritesOnlyTheShadow : Prop :=
  ∀ s t : State, exec .routeLoad s = .next t →
    (∀ n, { niOf t n with shadow := [], shadowOk := false } = { niOf s n with shadow := [], shadowOk := false }) ∧
    (∀ v, s.ferry.serving = some v → ∀ n, n ≠ v.target → niOf t n = niOf s n) ∧
    { t.braid with nis := [] } = { s.braid with nis := [] } ∧ t.mems = s.mems

/-- For every command c that mayStore does not list, every state s and every address a: when exec of c on s answers a next state, the byte at a reads after it as it read before. mayStore lists the 54 commands that may store or clear bytes: resets and power changes that lose or clear memory, zeroization, DRAM, Basin and engine accesses, movers, mirrors, eye-scan results and EV_READ. (What each step holds, Device address map) -/
def Obligations.CommandsThatStoreNothingLeaveMemory : Prop :=
  ∀ (c : Instr) (s t : State), mayStore c = false → exec c s = .next t → ∀ a, mget t.mems.mem a = mget s.mems.mem a

/-- While the clocks of the group run: BASIN_REQUEST_START of a write of whole aligned words stores byte i of its data at its address + i, and every other byte of memory keeps its value; of a read, every byte keeps its value; of an ATOM within one word whose word no merge entry holds, every byte outside its LEN bytes keeps its value. BASIN_MERGE_FLUSH of the first due entry stores in its word what a read of that word gave before (the buffered bytes over the stored ones), and nothing else. (Words in which the access finds an upset are left out of what keeps its value: with three or more bits in error R368 guarantees nothing of them.) DECISION_WRITE stores the eight bytes of the decision word, low byte first, at its doubleword in data memory, and nothing else. The records that EV_READ writes and the counts that EYE_SCAN_DONE writes (hwWrite) are, outside DRAM, the bytes given at the address given, and nothing else. (R365, R370, R372, R279, R199, R600) -/
def Obligations.StoresReachTheirBytes : Prop :=
  (∀ (g : Nat) (errs : List WordErr) (d : Delivered) (r : List Delivered) (s : State), (bgroupOf s g).queue = d :: r → clockStopped s (78 + g / 2) = false → banksFree s g (lineAccesses d.pkt) = true →
    d.pkt.op ≠ .rd → d.pkt.op ≠ .atom → d.pkt.addr % 8 = 0 → d.pkt.len % 8 = 0 → 0 < d.pkt.len →
    ∃ t, exec (.basinRequestStart g errs) s = .next t ∧ (∀ a, d.pkt.addr ≤ a → a < d.pkt.addr + d.pkt.len → mget t.mems.mem a = d.pkt.data.getD (a - d.pkt.addr) 0) ∧
      ∀ a, (a < d.pkt.addr ∨ d.pkt.addr + d.pkt.len ≤ a) → (∀ x ∈ errs, x.word ≠ a / 8) → mget t.mems.mem a = mget s.mems.mem a) ∧
  (∀ (g : Nat) (errs : List WordErr) (d : Delivered) (r : List Delivered) (s : State), (bgroupOf s g).queue = d :: r → clockStopped s (78 + g / 2) = false → banksFree s g (lineAccesses d.pkt) = true → d.pkt.op = .rd →
    ∃ t, exec (.basinRequestStart g errs) s = .next t ∧ ∀ a, (∀ x ∈ errs, x.word ≠ a / 8) → mget t.mems.mem a = mget s.mems.mem a) ∧
  (∀ (g : Nat) (errs : List WordErr) (d : Delivered) (r : List Delivered) (s : State), (bgroupOf s g).queue = d :: r → clockStopped s (78 + g / 2) = false → banksFree s g (lineAccesses d.pkt) = true → d.pkt.op = .atom → mergeOf s g (d.pkt.addr / 8) = none →
    ∃ t, exec (.basinRequestStart g errs) s = .next t ∧ ∀ a, (a < d.pkt.addr ∨ d.pkt.addr + d.pkt.len ≤ a) → (∀ x ∈ errs, x.word ≠ a / 8) → mget t.mems.mem a = mget s.mems.mem a) ∧
  (∀ (g : Nat) (errs : List WordErr) (e : BMerge) (s : State), (bgroupOf s g).merge.find? (fun e => decide (e.at_ + 64 ≤ s.time)) = some e → clockStopped s (78 + g / 2) = false → memPwr s g = .on → ((bgroupOf s g).queue.isEmpty = true ∨ (bgroupOf s g).flushed = false) →
    ∃ t, exec (.basinMergeFlush g errs) s = .next t ∧ ∀ a, (∀ x ∈ errs, x.word ≠ a / 8) → mget t.mems.mem a = if a / 8 = e.word then basinByte s g a else mget s.mems.mem a) ∧
  (∀ (k a : Nat) (w : BitVec 64) (rest : List (Nat × Nat × BitVec 64)) (s : State), clockStopped s (6 + k / 4) = false → (engOf s k).decWords = (0, a, w) :: rest → isFrozen (engOf s k) = false →
    ∃ t, exec (.decisionWrite k) s = .next t ∧ (∀ i < 8, mget t.mems.mem (dmBase k + a / 8 * 8 + i) = (leBytes 8 w.toNat).getD i 0) ∧
      ∀ x, (x < dmBase k + a / 8 * 8 ∨ dmBase k + a / 8 * 8 + 8 ≤ x) → mget t.mems.mem x = mget s.mems.mem x) ∧
  (∀ (a : Nat) (l : List Byte) (s u : State), hwWrite a l s = some u → (∀ i < l.length, ¬ (dramBase ≤ a + i ∧ a + i < dramEnd)) →
    (∀ i < l.length, mget u.mems.mem (a + i) = l.getD i 0) ∧ ∀ x, (x < a ∨ a + l.length ≤ x) → mget u.mems.mem x = mget s.mems.mem x)

/-- For each of the 59 Ferry commands with its opcode: when Headwater serves a message of that opcode that is not answered yet and has FLAGS bit 1 (DRYRUN) set, the command answers it and changes nothing else, with a code other than ACCEPTED (no job starts, so no EV445 follows). When the message has another opcode, or is answered already, the command changes nothing. (R571, R42, R569) -/
def Obligations.DryRunsChangeOnlyTheAnswer : Prop :=
  ∀ p ∈ (([(.sysInfo, 0x0100), (.sysBootStatus, 0x0101), (.sysFwStage, 0x0102), (.sysFwActivate, 0x0103), (.sysLifecycle, 0x0104), (.laneSetMode, 0x0200), (.laneSetTaps, 0x0201), (.laneLoadSlotTable, 0x0202), (.laneState, 0x0203), (.laneStatus, 0x0204), (.laneEye, 0x0205), (.routeLoad, 0x0300), (.routeCommit, 0x0301), (.sluiceLoad, 0x0302), (.sluiceCommit, 0x0303), (.weirFence, 0x0304), (.weirOpen, 0x0305), (.routerMaint, 0x0306), (.timeoutSet, 0x0307), (.dramConfig, 0x0400), (.dramTrain, 0x0401), (.dramPower, 0x0402), (.scourSet, 0x0403), (.scourPass, 0x0404), (.hammerSet, 0x0405), (.flipMask, 0x0406), (.keyInstall, 0x0500), (.keyRetire, 0x0501), (.tidelineStart, 0x0502), (.tidelineStatus, 0x0503), (.sealWindow, 0x0504), (.protectRange, 0x0505), (.linkKey, 0x0506), (.reachLoad, 0x0600), (.reachIsolate, 0x0601), (.reachRelease, 0x0602), (.hatchLoad, 0x0603), (.scrubSet, 0x0604), (.reachStatus, 0x0605), (.pwrState, 0x0700), (.pwrDomain, 0x0701), (.dvfsSet, 0x0702), (.stippleProgram, 0x0703), (.timeSet, 0x0704), (.wdtSet, 0x0705), (.deltaPortSet, 0x0800), (.farRouteLoad, 0x0801), (.twinPair, 0x0802), (.twinMirror, 0x0803), (.twinSwitchover, 0x0804), (.deviceIdSet, 0x0805), (.bwInit, 0x0900), (.bwConnect, 0x0901), (.bwStatus, 0x0902), (.proofSelect, 0x0A00), (.diagCounters, 0x0A01), (.diagLoopback, 0x0A02), (.evRoute, 0x0B00), (.evRead, 0x0B01)]) : List (Instr × Nat)),
    (∀ (s : State) (v : Serving), s.ferry.serving = some v → v.opcode = p.2 → v.reply = none → bit v.flags 1 = true → ∃ r, exec p.1 s = .next (setReply r s) ∧ r.code ≠ rcAccepted) ∧
    (∀ (s : State) (v : Serving), s.ferry.serving = some v → (v.opcode ≠ p.2 ∨ v.reply ≠ none) → exec p.1 s = .next s)

/-- LANE_SET_MODE served with TARGET a Twin lane (64 to 67) and any MODE other than 1, the native Delta mode, answers BAD_ARG (0x0011) and changes nothing else, whatever the rest of the message and the lane's state are. (R169) -/
def Obligations.TwinLanesAreNative : Prop :=
  ∀ (v : Serving) (s : State), Served s v 0x0200 14 laneTarget → 64 ≤ v.target → pay v 0 1 ≠ 1 → exec .laneSetMode s = .next (setReply (rc 0x0011) s)

/-- LANE_SET_TAPS with PRE to 16, POST to 24, FLAGS below 8 and, on a lane in an NRZ mode, no precoding: it answers DONE (0x0000). On a lane whose domain is on, the settings that take effect at the next boundary are the lane's pending (else present) settings with PRE, POST, SWING, TXPRE and RXPRE of the payload; on a lane whose domain is off, the stored ones. The slot table, the record of every lane but the target, and, on a lane whose domain is on, the settings in use are as they were. (R188, R184, R584) -/
def Obligations.LaneSetTapsLeavesTheSlotTable : Prop :=
  ∀ (v : Serving) (s : State), Served s v 0x0201 3 laneTarget → pay v 0 1 ≤ 16 → pay v 1 1 ≤ 24 → pay v 2 1 < 8 →
    ((laneOf s v.target).mode = 0 ∨ isPam4 (laneOf s v.target).mode = true ∨ (bit (pay v 2 1) 0 = false ∧ bit (pay v 2 1) 1 = false)) →
    ∃ u, exec .laneSetTaps s = .next (setReply (rc 0x0000) u) ∧ u.lanes.slotTable = s.lanes.slotTable ∧ (∀ m, m ≠ v.target → laneOf u m = laneOf s m) ∧ (laneOf u v.target).tx = (laneOf s v.target).tx ∧
      (domOn s (laneDomain v.target) = true → (laneOf u v.target).nextTx = some { (laneOf s v.target).nextTx.getD (laneOf s v.target).tx with
        pre := pay v 0 1, post := pay v 1 1, txpre := bit (pay v 2 1) 0, rxpre := bit (pay v 2 1) 1, swing := bit (pay v 2 1) 2 }) ∧
      (domOn s (laneDomain v.target) = false → (laneOf s v.target).nextTx = none → tget u.lanes.stored {} v.target = { tget s.lanes.stored {} v.target with
        pre := pay v 0 1, post := pay v 1 1, txpre := bit (pay v 2 1) 0, rxpre := bit (pay v 2 1) 1, swing := bit (pay v 2 1) 2 })

/-- Each command completes in every state, and leaves the rest of its kind: ENERGY_DETECTED, CDR_LOCK, EQUALIZER_CONVERGED, RX_BOUND_EXPIRY, TX_SETTINGS_APPLY, ADAPTATION_UPDATE, PASS_BLOCK_TRANSMIT, MARGIN_REFRESH and CORR_WINDOW_END of lane l keep the record and the path of every other lane; OPERATION_RESULT, INTERRUPT_INPUT_RISE, INTERRUPT_ENTRY, EXCEPTION_ENTRY and DECISION_WRITE of engine k every other engine; PAGE_CLOSE, MERGE_FLUSH, REFRESH, ACT_WINDOW_END, TEMPERATURE_REPORT, DQS_RETRAIN and IMBALANCE_WINDOW of channel c both records of every other DRAM channel; URG_AGEING and ROUTER_SLEEP every other router; SENDER_RESET every other Ferry channel; ENERGY_DETECTED leaves all but the receiver state and the energy mark of its own lane. (What each step holds, R190, R191, R198, R279, R287, R342, R343) -/
def Obligations.NeighboursKeepTheirState : Prop :=
  (∀ (l m : Nat) (x : Coeffs) (y : Trial) (n : Nat) (s : State), m ≠ l → ∀ c ∈ ([.energyDetected l, .cdrLock l, .equalizerConverged l x, .rxBoundExpiry l, .txSettingsApply l, .adaptationUpdate l y, .passBlockTransmit l, .marginRefresh l n, .corrWindowEnd l] : List Instr),
    ∃ t, exec c s = .next t ∧ laneOf t m = laneOf s m ∧ pathOf t m = pathOf s m) ∧
  (∀ (k j n : Nat) (s : State), j ≠ k → ∀ c ∈ ([.operationResult k, .interruptInputRise k n, .interruptEntry k, .exceptionEntry k, .decisionWrite k] : List Instr), ∃ t, exec c s = .next t ∧ engOf t j = engOf s j) ∧
  (∀ (c d n : Nat) (b : Bool) (s : State), d ≠ c → ∀ i ∈ ([.pageClose c n, .mergeFlush c, .refresh c, .actWindowEnd c, .temperatureReport c b, .dqsRetrain c n, .imbalanceWindow c] : List Instr),
    ∃ t, exec i s = .next t ∧ dchOf t d = dchOf s d ∧ dchX t d = dchX s d) ∧
  (∀ (r q a b c : Nat) (s : State), q ≠ r → ∀ i ∈ ([.urgAgeing r a b c, .routerSleep r] : List Instr), ∃ t, exec i s = .next t ∧ routerOf t q = routerOf s q) ∧
  (∀ (c d : Nat) (s : State), d ≠ c → ∃ t, exec (.senderReset c) s = .next t ∧ chanOf t d = chanOf s d) ∧
  (∀ (l : Nat) (s : State), ∃ t, exec (.energyDetected l) s = .next t ∧ laneOf t l = { laneOf s l with rx := (laneOf t l).rx, energy := (laneOf t l).energy })

/-- For every state s, every command but RST_STY_N_PULSE answers a next state, whatever its operands: a command whose conditions do not hold answers one too (what it changes, and when, the other statements say). A pulse on RST_STY_N of a width that Table 14.6 specifies answers a next state; a width that the table calls not specified stops the block. (What each step holds, Table 14.6) -/
def Obligations.EveryCommandCompletes : Prop :=
  (∀ (c : Instr) (s : State), (∀ w, c ≠ .rstStyNPulse w) → ∃ t, exec c s = .next t) ∧
  (∀ (w : Nat) (s : State), (20000 ≤ w ∨ (200 ≤ w ∧ w ≤ 600) ∨ (1000 ≤ w ∧ w ≤ 19000)) → ∃ t, exec (.rstStyNPulse w) s = .next t) ∧
  (∀ (w : Nat) (s : State), (w < 200 ∨ (600 < w ∧ w < 1000) ∨ (19000 < w ∧ w < 20000)) → exec (.rstStyNPulse w) s = .fault .pulseNotSpecified)
end

