-- ==== Sys2Proof/Laws/Memory.lean ====
section
/-! SUPPORT. Memory: every operation keeps the canonical form; a byte read after a write is the byte written, every other byte is as before. -/

namespace Sys2Proof.Machine
open Sys2Proof

theorem mem_minsert (m : List Host.Cell) (a : Nat) (b : Byte) (c : Host.Cell) : c ∈ minsert m a b ↔ c = (a, b) ∨ c ∈ m := by
  induction m with
  | nil => simp [minsert]
  | cons x r ih =>
    unfold minsert
    split
    · simp
    · simp only [List.mem_cons, ih]
      tauto

theorem wf_filter {m : List Host.Cell} (p : Host.Cell → Bool) (h : Memory.wf m) : Memory.wf (m.filter p) :=
  ⟨h.1.filter p, fun c hc => h.2 c (List.mem_filter.mp hc).1⟩

theorem wf_mclear {m : List Host.Cell} (a : Nat) (h : Memory.wf m) : Memory.wf (mclear m a) := wf_filter _ h

@[simp] theorem wf_mzero {m : List Host.Cell} (a n : Nat) (h : Memory.wf m) : Memory.wf (mzero m a n) := wf_filter _ h

theorem pairwise_minsert (m : List Host.Cell) (a : Nat) (b : Byte) (h : m.Pairwise (fun x y => x.1 < y.1)) (hn : ∀ c ∈ m, c.1 ≠ a) :
    (minsert m a b).Pairwise (fun x y => x.1 < y.1) := by
  induction m with
  | nil => simp [minsert]
  | cons x r ih =>
    rw [List.pairwise_cons] at h
    unfold minsert
    split
    · rw [List.pairwise_cons]
      refine ⟨?_, List.pairwise_cons.mpr h⟩
      intro c hc
      rcases List.mem_cons.mp hc with rfl | hc
      · assumption
      · have := h.1 c hc
        simp only at *
        omega
    · rw [List.pairwise_cons]
      refine ⟨?_, ih h.2 (fun c hc => hn c (List.mem_cons_of_mem _ hc))⟩
      intro c hc
      rcases (mem_minsert r a b c).mp hc with rfl | hc
      · have := hn x (by simp)
        simp only at *
        omega
      · exact h.1 c hc

@[simp] theorem wf_mset {m : List Host.Cell} (a : Nat) (b : Byte) (h : Memory.wf m) : Memory.wf (mset m a b) := by
  unfold mset
  split
  · exact wf_mclear a h
  · refine ⟨pairwise_minsert _ _ _ (wf_mclear a h).1 ?_, ?_⟩
    · intro c hc
      simpa [mclear] using (List.mem_filter.mp hc).2
    · intro c hc
      rcases (mem_minsert _ a b c).mp hc with rfl | hc
      · assumption
      · exact (wf_mclear a h).2 c hc

@[simp] theorem wf_msetN {m : List Host.Cell} (a : Nat) (l : List Byte) (h : Memory.wf m) : Memory.wf (msetN m a l) := by
  induction l generalizing m a with
  | nil => exact h
  | cons b r ih => exact ih _ (wf_mset a b h)

theorem mget_mclear_same (m : List Host.Cell) (a : Nat) : mget (mclear m a) a = 0 := by
  induction m with
  | nil => rfl
  | cons c r ih =>
    unfold mclear at *
    by_cases hc : c.1 = a
    · simp [hc, ih]
    · simp [hc, mget, ih]

theorem mget_mclear_other (m : List Host.Cell) (a x : Nat) (h : x ≠ a) : mget (mclear m a) x = mget m x := by
  induction m with
  | nil => rfl
  | cons c r ih =>
    unfold mclear at *
    by_cases hc : c.1 = a
    · simp only [hc, List.filter_cons, bne_self_eq_false, Bool.false_eq_true, if_false, ih, mget]
      rw [if_neg (fun e => h (by omega))]
    · simp [hc, mget, ih]

theorem mget_minsert_same (m : List Host.Cell) (a : Nat) (b : Byte) (hn : ∀ c ∈ m, c.1 ≠ a) : mget (minsert m a b) a = b := by
  induction m with
  | nil => simp [minsert, mget]
  | cons c r ih =>
    unfold minsert
    split
    · simp [mget]
    · have := hn c (by simp)
      simp [mget, this, ih (fun d hd => hn d (List.mem_cons_of_mem _ hd))]

theorem mget_minsert_other (m : List Host.Cell) (a x : Nat) (b : Byte) (h : x ≠ a) : mget (minsert m a b) x = mget m x := by
  induction m with
  | nil => simp [minsert, mget, Ne.symm h]
  | cons c r ih =>
    unfold minsert
    split
    · simp [mget, Ne.symm h]
    · simp [mget, ih]

/-- The byte written is the byte read. -/
@[simp] theorem mget_mset_same (m : List Host.Cell) (a : Nat) (b : Byte) : mget (mset m a b) a = b := by
  unfold mset
  split
  · rw [mget_mclear_same]; simp_all
  · exact mget_minsert_same _ _ _ (fun c hc => by simpa [mclear] using (List.mem_filter.mp hc).2)

/-- Every other byte is as before. -/
theorem mget_mset_other (m : List Host.Cell) (a x : Nat) (b : Byte) (h : x ≠ a) : mget (mset m a b) x = mget m x := by
  unfold mset
  split
  · exact mget_mclear_other m a x h
  · rw [mget_minsert_other _ _ _ _ h, mget_mclear_other m a x h]

/-- Bytes outside a written run are as before. -/
theorem mget_msetN_outside (m : List Host.Cell) (a x : Nat) (l : List Byte) (h : x < a ∨ a + l.length ≤ x) : mget (msetN m a l) x = mget m x := by
  induction l generalizing m a with
  | nil => rfl
  | cons b r ih =>
    simp only [msetN, List.length_cons] at *
    rw [ih _ _ (by omega), mget_mset_other _ _ _ _ (by omega)]

/-- A byte of a written run. -/
theorem mget_msetN_inside (m : List Host.Cell) (a i : Nat) (l : List Byte) (h : i < l.length) : mget (msetN m a l) (a + i) = l.getD i 0 := by
  induction l generalizing m a i with
  | nil => simp at h
  | cons b r ih =>
    simp only [msetN]
    cases i with
    | zero => rw [mget_msetN_outside _ _ _ _ (by omega)]; simp
    | succ n =>
      have := ih (mset m a b) (a + 1) n (by simpa using h)
      rw [show a + (n + 1) = a + 1 + n by omega, this]
      simp

/-- A zeroed range reads 0. -/
theorem mget_mzero_inside (m : List Host.Cell) (a n x : Nat) (h : a ≤ x ∧ x < a + n) : mget (mzero m a n) x = 0 := by
  induction m with
  | nil => rfl
  | cons c r ih =>
    unfold mzero at *
    by_cases hc : c.1 < a ∨ a + n ≤ c.1
    · simp only [List.filter_cons, hc, decide_true, if_true, mget, ih]
      rw [if_neg (by omega)]
    · rw [List.filter_cons_of_neg (by simpa using hc)]
      exact ih

/-- Bytes outside a zeroed range are as before. -/
theorem mget_mzero_outside (m : List Host.Cell) (a n x : Nat) (h : x < a ∨ a + n ≤ x) : mget (mzero m a n) x = mget m x := by
  induction m with
  | nil => rfl
  | cons c r ih =>
    unfold mzero at *
    by_cases hc : c.1 < a ∨ a + n ≤ c.1
    · simp only [List.filter_cons, hc, decide_true, if_true, mget, ih]
    · have : c.1 ≠ x := by omega
      rw [List.filter_cons_of_neg (by simpa using hc), ih]
      simp [mget, this]

/-- A block read has the length asked for. -/
theorem mgetN_length (m : List Host.Cell) (a n : Nat) : (mgetN m a n).length = n := by simp [mgetN]

end Sys2Proof.Machine
end

