-- ==== Sys2Proof/Laws/FrameOps.lean ====
section
/-! SUPPORT. Frame lemmas of the operations over the state and memory: which parts of the state each function leaves alone, which leave the fuses and the bytes of memory alone, and that the others keep memory in its canonical form. -/

set_option linter.all false

namespace Sys2Proof.Machine
open Sys2Proof

theorem fuses_of_core {s t : State} (h : coreView s = coreView t) : fuseView s = fuseView t := by simp only [coreView, Prod.mk.injEq] at h; simp [fuseView, h]
theorem memOk_of_core {s t : State} (h : coreView s = coreView t) : MemOk s ↔ MemOk t := by simp only [coreView, Prod.mk.injEq] at h; simp [MemOk, h]
@[simp] theorem modDebug_core (s : State) (f : Debug → Debug) (h1 : (f s.dbg).fuses = s.dbg.fuses) (h2 : (f s.dbg).boot.fuseJob = s.dbg.boot.fuseJob) : coreView (modDebug s f) = coreView s := by
  simp [coreView, modDebug, h1, h2]
@[simp] theorem modBoot_core (s : State) (f : Boot → Boot) (h2 : (f s.dbg.boot).fuseJob = s.dbg.boot.fuseJob) : coreView (modBoot s f) = coreView s := by
  simp [coreView, modBoot, h2]
@[simp] theorem modSty_core (s : State) (f : Stylus → Stylus) : coreView (modSty s f) = coreView s := rfl
@[simp] theorem modMems_core (s : State) (f : Mems → Mems) (h : (f s.mems).mem = s.mems.mem) : coreView (modMems s f) = coreView s := by
  simp [coreView, modMems, h]
@[simp] theorem modMems_fuses (s : State) (f : Mems → Mems) : fuseView (modMems s f) = fuseView s := rfl
@[simp] theorem setMem_fuses (m : List Host.Cell) (s : State) : fuseView (setMem m s) = fuseView s := rfl
@[simp] theorem setMem_memOk (m : List Host.Cell) (s : State) : MemOk (setMem m s) ↔ Memory.wf m := Iff.rfl
@[simp] theorem modMems_memOk (s : State) (f : Mems → Mems) : MemOk (modMems s f) ↔ Memory.wf (f s.mems).mem := Iff.rfl
@[simp] theorem modBoot_fuses (s : State) (f : Boot → Boot) (h2 : (f s.dbg.boot).fuseJob = s.dbg.boot.fuseJob) : fuseView (modBoot s f) = fuseView s := by
  simp [fuseView, modBoot, h2]
@[simp] theorem modBoot_memOk (s : State) (f : Boot → Boot)  : MemOk (modBoot s f) ↔ MemOk s := Iff.rfl
@[simp] theorem modSty_fuses (s : State) (f : Stylus → Stylus) : fuseView (modSty s f) = fuseView s := rfl
@[simp] theorem modSty_memOk (s : State) (f : Stylus → Stylus) : MemOk (modSty s f) ↔ MemOk s := Iff.rfl
theorem core_ite (c : Prop) [Decidable c] (a b : State) : coreView (if c then a else b) = if c then coreView a else coreView b := apply_ite _ _ _ _
theorem fuses_ite (c : Prop) [Decidable c] (a b : State) : fuseView (if c then a else b) = if c then fuseView a else fuseView b := apply_ite _ _ _ _
@[simp] theorem whileClocked_core (d : Nat) (s t : State) (h : coreView t = coreView s) : coreView (whileClocked d s t) = coreView s := by
  unfold whileClocked
  split <;> simp [h]
@[simp] theorem whileClocked_fuses (d : Nat) (s t : State) (h : fuseView t = fuseView s) : fuseView (whileClocked d s t) = fuseView s := by
  unfold whileClocked
  split <;> simp [h]
@[simp] theorem whileClocked_memOk (d : Nat) (s t : State) (h : MemOk t ↔ MemOk s) : MemOk (whileClocked d s t) ↔ MemOk s := by
  unfold whileClocked
  split <;> simp [h]
theorem whileClocked_memOk' (d : Nat) (s t : State) (hs : MemOk s) (h : MemOk t) : MemOk (whileClocked d s t) := by
  unfold whileClocked
  split <;> assumption
@[simp] theorem foldl_core {α : Type} (l : List α) (f : State → α → State) (s : State) (h : ∀ t x, coreView (f t x) = coreView t) : coreView (l.foldl f s) = coreView s := by
  induction l generalizing s with
  | nil => rfl
  | cons x l ih => rw [List.foldl_cons, ih, h]
@[simp] theorem foldl_fuses {α : Type} (l : List α) (f : State → α → State) (s : State) (h : ∀ t x, fuseView (f t x) = fuseView t) : fuseView (l.foldl f s) = fuseView s := by
  induction l generalizing s with
  | nil => rfl
  | cons x l ih => rw [List.foldl_cons, ih, h]
theorem foldl_memOk {α : Type} (l : List α) (f : State → α → State) (s : State) (h : ∀ t x, MemOk t → MemOk (f t x)) (hs : MemOk s) : MemOk (l.foldl f s) := by
  induction l generalizing s with
  | nil => exact hs
  | cons x l ih => exact ih _ (h _ _ hs)
@[simp] theorem forAll_core {α : Type} (l : List α) (f : State → α → State) (s : State) (h : ∀ t x, coreView (f t x) = coreView t) : coreView (forAll l f s) = coreView s := foldl_core l f s h
@[simp] theorem forAll_fuses {α : Type} (l : List α) (f : State → α → State) (s : State) (h : ∀ t x, fuseView (f t x) = fuseView t) : fuseView (forAll l f s) = fuseView s := foldl_fuses l f s h
@[simp] theorem forAll_memOk_iff {α : Type} (l : List α) (f : State → α → State) (s : State) (h : ∀ t x, coreView (f t x) = coreView t) : MemOk (forAll l f s) ↔ MemOk s := memOk_of_core (forAll_core l f s h)
theorem forAll_memOk {α : Type} (l : List α) (f : State → α → State) (s : State) (h : ∀ t x, MemOk t → MemOk (f t x)) (hs : MemOk s) : MemOk (forAll l f s) := foldl_memOk l f s h hs

theorem part_ite (sp : StatePart) (c : Prop) [Decidable c] (a b : State) : part sp (if c then a else b) = if c then part sp a else part sp b := apply_ite _ _ _ _
@[simp] theorem foldl_part {α : Type} (l : List α) (f : State → α → State) (s : State) {sp : StatePart} (h : ∀ t x, part sp (f t x) = part sp t) : part sp (l.foldl f s) = part sp s := by
  induction l generalizing s with
  | nil => rfl
  | cons x l ih => rw [List.foldl_cons, ih, h]
@[simp] theorem forAll_part {α : Type} (l : List α) (f : State → α → State) (s : State) {sp : StatePart} (h : ∀ t x, part sp (f t x) = part sp t) : part sp (forAll l f s) = part sp s := foldl_part l f s h
@[simp] theorem modMems_part (s : State) (f : Mems → Mems) {sp : StatePart} (g_mems : sp ≠ .mems) : part sp (modMems s f) = part sp s := by cases sp <;> first | rfl | contradiction
@[simp] theorem setMem_part (m : List Host.Cell) (s : State) {sp : StatePart} (g_mems : sp ≠ .mems) : part sp (setMem m s) = part sp s := modMems_part _ _ g_mems
@[simp] theorem modDebug_part (s : State) (f : Debug → Debug) {sp : StatePart} (g_debug : sp ≠ .debug) : part sp (modDebug s f) = part sp s := by cases sp <;> first | rfl | contradiction
@[simp] theorem modBoot_part (s : State) (f : Boot → Boot) {sp : StatePart} (g_debug : sp ≠ .debug) : part sp (modBoot s f) = part sp s := by cases sp <;> first | rfl | contradiction
@[simp] theorem modSty_part (s : State) (f : Stylus → Stylus) {sp : StatePart} (g_debug : sp ≠ .debug) : part sp (modSty s f) = part sp s := by cases sp <;> first | rfl | contradiction
@[simp] theorem whileClocked_part (d : Nat) (s t : State) {sp : StatePart} (h : part sp t = part sp s) : part sp (whileClocked d s t) = part sp s := by
  unfold whileClocked
  split <;> simp [h]
@[simp] theorem modBraid_core (s : State) (f : Braid → Braid) : coreView (modBraid s f) = coreView s := by
  rfl
@[simp] theorem modBraid_fuses (s : State) (f : Braid → Braid) : fuseView (modBraid s f) = fuseView s := fuses_of_core (modBraid_core s f)
@[simp] theorem modBraid_memOk (s : State) (f : Braid → Braid) : MemOk (modBraid s f) ↔ MemOk s := memOk_of_core (modBraid_core s f)
@[simp] theorem modBraid_part (s : State) (f : Braid → Braid) {sp : StatePart} (g_braid : sp ≠ .braid) : part sp (modBraid s f) = part sp s := by
  cases sp <;> first | rfl | contradiction
@[simp] theorem modSluice_core (s : State) (f : Sluice → Sluice) : coreView (modSluice s f) = coreView s := by
  rfl
@[simp] theorem modSluice_fuses (s : State) (f : Sluice → Sluice) : fuseView (modSluice s f) = fuseView s := fuses_of_core (modSluice_core s f)
@[simp] theorem modSluice_memOk (s : State) (f : Sluice → Sluice) : MemOk (modSluice s f) ↔ MemOk s := memOk_of_core (modSluice_core s f)
@[simp] theorem modSluice_part (s : State) (f : Sluice → Sluice) {sp : StatePart} (g_sluice : sp ≠ .sluice) : part sp (modSluice s f) = part sp s := by
  cases sp <;> first | rfl | contradiction
@[simp] theorem modFerry_core (s : State) (f : Ferry → Ferry) : coreView (modFerry s f) = coreView s := by
  rfl
@[simp] theorem modFerry_fuses (s : State) (f : Ferry → Ferry) : fuseView (modFerry s f) = fuseView s := fuses_of_core (modFerry_core s f)
@[simp] theorem modFerry_memOk (s : State) (f : Ferry → Ferry) : MemOk (modFerry s f) ↔ MemOk s := memOk_of_core (modFerry_core s f)
@[simp] theorem modFerry_part (s : State) (f : Ferry → Ferry) {sp : StatePart} (g_ferry : sp ≠ .ferry) : part sp (modFerry s f) = part sp s := by
  cases sp <;> first | rfl | contradiction
@[simp] theorem modLocks_core (s : State) (f : LockUnit → LockUnit) : coreView (modLocks s f) = coreView s := by
  rfl
@[simp] theorem modLocks_fuses (s : State) (f : LockUnit → LockUnit) : fuseView (modLocks s f) = fuseView s := fuses_of_core (modLocks_core s f)
@[simp] theorem modLocks_memOk (s : State) (f : LockUnit → LockUnit) : MemOk (modLocks s f) ↔ MemOk s := memOk_of_core (modLocks_core s f)
@[simp] theorem modLocks_part (s : State) (f : LockUnit → LockUnit) {sp : StatePart} (g_locks : sp ≠ .locks) : part sp (modLocks s f) = part sp s := by
  cases sp <;> first | rfl | contradiction
@[simp] theorem modHost_core (s : State) (f : HostBridge → HostBridge) : coreView (modHost s f) = coreView s := by
  rfl
@[simp] theorem modHost_fuses (s : State) (f : HostBridge → HostBridge) : fuseView (modHost s f) = fuseView s := fuses_of_core (modHost_core s f)
@[simp] theorem modHost_memOk (s : State) (f : HostBridge → HostBridge) : MemOk (modHost s f) ↔ MemOk s := memOk_of_core (modHost_core s f)
@[simp] theorem modHost_part (s : State) (f : HostBridge → HostBridge) {sp : StatePart} (g_host : sp ≠ .host) : part sp (modHost s f) = part sp s := by
  cases sp <;> first | rfl | contradiction
@[simp] theorem modLanes_core (s : State) (f : Lanes → Lanes) : coreView (modLanes s f) = coreView s := by
  rfl
@[simp] theorem modLanes_fuses (s : State) (f : Lanes → Lanes) : fuseView (modLanes s f) = fuseView s := fuses_of_core (modLanes_core s f)
@[simp] theorem modLanes_memOk (s : State) (f : Lanes → Lanes) : MemOk (modLanes s f) ↔ MemOk s := memOk_of_core (modLanes_core s f)
@[simp] theorem modLanes_part (s : State) (f : Lanes → Lanes) {sp : StatePart} (g_lanes : sp ≠ .lanes) : part sp (modLanes s f) = part sp s := by
  cases sp <;> first | rfl | contradiction
@[simp] theorem modDelta_core (s : State) (f : Delta → Delta) : coreView (modDelta s f) = coreView s := by
  rfl
@[simp] theorem modDelta_fuses (s : State) (f : Delta → Delta) : fuseView (modDelta s f) = fuseView s := fuses_of_core (modDelta_core s f)
@[simp] theorem modDelta_memOk (s : State) (f : Delta → Delta) : MemOk (modDelta s f) ↔ MemOk s := memOk_of_core (modDelta_core s f)
@[simp] theorem modDelta_part (s : State) (f : Delta → Delta) {sp : StatePart} (g_delta : sp ≠ .delta) : part sp (modDelta s f) = part sp s := by
  cases sp <;> first | rfl | contradiction
@[simp] theorem modTwin_core (s : State) (f : Twin → Twin) : coreView (modTwin s f) = coreView s := by
  rfl
@[simp] theorem modTwin_fuses (s : State) (f : Twin → Twin) : fuseView (modTwin s f) = fuseView s := fuses_of_core (modTwin_core s f)
@[simp] theorem modTwin_memOk (s : State) (f : Twin → Twin) : MemOk (modTwin s f) ↔ MemOk s := memOk_of_core (modTwin_core s f)
@[simp] theorem modTwin_part (s : State) (f : Twin → Twin) {sp : StatePart} (g_twin : sp ≠ .twin) : part sp (modTwin s f) = part sp s := by
  cases sp <;> first | rfl | contradiction
@[simp] theorem modEngines_core (s : State) (f : Engines → Engines) : coreView (modEngines s f) = coreView s := by
  rfl
@[simp] theorem modEngines_fuses (s : State) (f : Engines → Engines) : fuseView (modEngines s f) = fuseView s := fuses_of_core (modEngines_core s f)
@[simp] theorem modEngines_memOk (s : State) (f : Engines → Engines) : MemOk (modEngines s f) ↔ MemOk s := memOk_of_core (modEngines_core s f)
@[simp] theorem modEngines_part (s : State) (f : Engines → Engines) {sp : StatePart} (g_eng : sp ≠ .eng) : part sp (modEngines s f) = part sp s := by
  cases sp <;> first | rfl | contradiction
@[simp] theorem modDram_core (s : State) (f : Dram → Dram) : coreView (modDram s f) = coreView s := by
  rfl
@[simp] theorem modDram_fuses (s : State) (f : Dram → Dram) : fuseView (modDram s f) = fuseView s := fuses_of_core (modDram_core s f)
@[simp] theorem modDram_memOk (s : State) (f : Dram → Dram) : MemOk (modDram s f) ↔ MemOk s := memOk_of_core (modDram_core s f)
@[simp] theorem modDram_part (s : State) (f : Dram → Dram) {sp : StatePart} (g_dram : sp ≠ .dram) : part sp (modDram s f) = part sp s := by
  cases sp <;> first | rfl | contradiction
@[simp] theorem modCrypto_core (s : State) (f : Crypto → Crypto) : coreView (modCrypto s f) = coreView s := by
  rfl
@[simp] theorem modCrypto_fuses (s : State) (f : Crypto → Crypto) : fuseView (modCrypto s f) = fuseView s := fuses_of_core (modCrypto_core s f)
@[simp] theorem modCrypto_memOk (s : State) (f : Crypto → Crypto) : MemOk (modCrypto s f) ↔ MemOk s := memOk_of_core (modCrypto_core s f)
@[simp] theorem modCrypto_part (s : State) (f : Crypto → Crypto) {sp : StatePart} (g_crypto : sp ≠ .crypto) : part sp (modCrypto s f) = part sp s := by
  cases sp <;> first | rfl | contradiction
@[simp] theorem modFabric_core (s : State) (f : Fabric → Fabric) : coreView (modFabric s f) = coreView s := by
  rfl
@[simp] theorem modFabric_fuses (s : State) (f : Fabric → Fabric) : fuseView (modFabric s f) = fuseView s := fuses_of_core (modFabric_core s f)
@[simp] theorem modFabric_memOk (s : State) (f : Fabric → Fabric) : MemOk (modFabric s f) ↔ MemOk s := memOk_of_core (modFabric_core s f)
@[simp] theorem modFabric_part (s : State) (f : Fabric → Fabric) {sp : StatePart} (g_fabric : sp ≠ .fabric) : part sp (modFabric s f) = part sp s := by
  cases sp <;> first | rfl | contradiction
@[simp] theorem modBw_core (s : State) (f : Backwater → Backwater) : coreView (modBw s f) = coreView s := by
  rfl
@[simp] theorem modBw_fuses (s : State) (f : Backwater → Backwater) : fuseView (modBw s f) = fuseView s := fuses_of_core (modBw_core s f)
@[simp] theorem modBw_memOk (s : State) (f : Backwater → Backwater) : MemOk (modBw s f) ↔ MemOk s := memOk_of_core (modBw_core s f)
@[simp] theorem modBw_part (s : State) (f : Backwater → Backwater) {sp : StatePart} (g_bw : sp ≠ .bw) : part sp (modBw s f) = part sp s := by
  cases sp <;> first | rfl | contradiction
@[simp] theorem modBwx_core (s : State) (f : BackwaterX → BackwaterX) : coreView (modBwx s f) = coreView s := by
  rfl
@[simp] theorem modBwx_fuses (s : State) (f : BackwaterX → BackwaterX) : fuseView (modBwx s f) = fuseView s := fuses_of_core (modBwx_core s f)
@[simp] theorem modBwx_memOk (s : State) (f : BackwaterX → BackwaterX) : MemOk (modBwx s f) ↔ MemOk s := memOk_of_core (modBwx_core s f)
@[simp] theorem modBwx_part (s : State) (f : BackwaterX → BackwaterX) {sp : StatePart} (g_bwx : sp ≠ .bwx) : part sp (modBwx s f) = part sp s := by
  cases sp <;> first | rfl | contradiction
@[simp] theorem modPower_core (s : State) (f : Power → Power) : coreView (modPower s f) = coreView s := by
  rfl
@[simp] theorem modPower_fuses (s : State) (f : Power → Power) : fuseView (modPower s f) = fuseView s := fuses_of_core (modPower_core s f)
@[simp] theorem modPower_memOk (s : State) (f : Power → Power) : MemOk (modPower s f) ↔ MemOk s := memOk_of_core (modPower_core s f)
@[simp] theorem modPower_part (s : State) (f : Power → Power) {sp : StatePart} (g_power : sp ≠ .power) : part sp (modPower s f) = part sp s := by
  cases sp <;> first | rfl | contradiction
@[simp] theorem modTime_core (s : State) (f : TimeBase → TimeBase) : coreView (modTime s f) = coreView s := by
  rfl
@[simp] theorem modTime_fuses (s : State) (f : TimeBase → TimeBase) : fuseView (modTime s f) = fuseView s := fuses_of_core (modTime_core s f)
@[simp] theorem modTime_memOk (s : State) (f : TimeBase → TimeBase) : MemOk (modTime s f) ↔ MemOk s := memOk_of_core (modTime_core s f)
@[simp] theorem modTime_part (s : State) (f : TimeBase → TimeBase) {sp : StatePart} (g_tbase : sp ≠ .tbase) : part sp (modTime s f) = part sp s := by
  cases sp <;> first | rfl | contradiction
@[simp] theorem modEvents_core (s : State) (f : Events → Events) : coreView (modEvents s f) = coreView s := by
  rfl
@[simp] theorem modEvents_fuses (s : State) (f : Events → Events) : fuseView (modEvents s f) = fuseView s := fuses_of_core (modEvents_core s f)
@[simp] theorem modEvents_memOk (s : State) (f : Events → Events) : MemOk (modEvents s f) ↔ MemOk s := memOk_of_core (modEvents_core s f)
@[simp] theorem modEvents_part (s : State) (f : Events → Events) {sp : StatePart} (g_events : sp ≠ .events) : part sp (modEvents s f) = part sp s := by
  cases sp <;> first | rfl | contradiction
@[simp] theorem when__core (c : Bool) (f : State → State) (s : State) (hf : ∀ y0, coreView (f y0) = coreView y0) : coreView (when_ c f s) = coreView s := by
  unfold when_
  repeat' split
  all_goals simp [*]
@[simp] theorem when__fuses (c : Bool) (f : State → State) (s : State) (hf : ∀ y0, fuseView (f y0) = fuseView y0) : fuseView (when_ c f s) = fuseView s := by
  unfold when_
  repeat' split
  all_goals simp [*]
@[simp] theorem when__memOk (c : Bool) (f : State → State) (s : State) (hf : ∀ y0, coreView (f y0) = coreView y0) : MemOk (when_ c f s) ↔ MemOk s := memOk_of_core (when__core c f s hf)
theorem when_keeps (c : Bool) (f : State → State) (s : State) (hf : ∀ t, MemOk t → MemOk (f t)) (h : MemOk s) : MemOk (when_ c f s) := by
  unfold when_
  split
  · exact hf _ h
  · exact h

@[simp] theorem when__part (c : Bool) (f : State → State) (s : State) {sp : StatePart} (hf : ∀ y0, part sp (f y0) = part sp y0)  : part sp (when_ c f s) = part sp s := by
  unfold when_
  split <;> simp [*]
@[simp] theorem freshNat_core (s : State) : coreView (freshNat s).2 = coreView s := by
  rfl
@[simp] theorem freshNat_fuses (s : State) : fuseView (freshNat s).2 = fuseView s := fuses_of_core (freshNat_core s)
@[simp] theorem freshNat_memOk (s : State) : MemOk (freshNat s).2 ↔ MemOk s := memOk_of_core (freshNat_core s)
@[simp] theorem freshNat_part (s : State) {sp : StatePart} (g_freeCtr : sp ≠ .freeCtr) : part sp (freshNat s).2 = part sp s := by
  cases sp <;> first | rfl | contradiction
@[simp] theorem freshByte_core (s : State) : coreView (freshByte s).2 = coreView s := by
  rfl
@[simp] theorem freshByte_fuses (s : State) : fuseView (freshByte s).2 = fuseView s := fuses_of_core (freshByte_core s)
@[simp] theorem freshByte_memOk (s : State) : MemOk (freshByte s).2 ↔ MemOk s := memOk_of_core (freshByte_core s)
@[simp] theorem freshByte_part (s : State) {sp : StatePart} (g_freeCtr : sp ≠ .freeCtr) : part sp (freshByte s).2 = part sp s := by
  cases sp <;> first | rfl | contradiction
@[simp] theorem freshBytes_core (n : Nat) (s : State) : coreView (freshBytes n s).2 = coreView s := by
  rfl
@[simp] theorem freshBytes_fuses (n : Nat) (s : State) : fuseView (freshBytes n s).2 = fuseView s := fuses_of_core (freshBytes_core n s)
@[simp] theorem freshBytes_memOk (n : Nat) (s : State) : MemOk (freshBytes n s).2 ↔ MemOk s := memOk_of_core (freshBytes_core n s)
@[simp] theorem freshBytes_part (n : Nat) (s : State) {sp : StatePart} (g_freeCtr : sp ≠ .freeCtr) : part sp (freshBytes n s).2 = part sp s := by
  cases sp <;> first | rfl | contradiction
@[simp] theorem setDom_core (d : Nat) (on : Bool) (s : State) : coreView (setDom d on s) = coreView s := by
  rfl
@[simp] theorem setDom_fuses (d : Nat) (on : Bool) (s : State) : fuseView (setDom d on s) = fuseView s := fuses_of_core (setDom_core d on s)
@[simp] theorem setDom_memOk (d : Nat) (on : Bool) (s : State) : MemOk (setDom d on s) ↔ MemOk s := memOk_of_core (setDom_core d on s)
@[simp] theorem setDom_part (d : Nat) (on : Bool) (s : State) {sp : StatePart} (g_power : sp ≠ .power) : part sp (setDom d on s) = part sp s := by
  cases sp <;> first | rfl | contradiction
@[simp] theorem setGate_core (g : Nat) (v : Gate) (s : State) : coreView (setGate g v s) = coreView s := by
  unfold setGate
  simp [core_ite]
@[simp] theorem setGate_fuses (g : Nat) (v : Gate) (s : State) : fuseView (setGate g v s) = fuseView s := fuses_of_core (setGate_core g v s)
@[simp] theorem setGate_memOk (g : Nat) (v : Gate) (s : State) : MemOk (setGate g v s) ↔ MemOk s := memOk_of_core (setGate_core g v s)
@[simp] theorem setGate_part (g : Nat) (v : Gate) (s : State) {sp : StatePart} (g_braid : sp ≠ .braid) : part sp (setGate g v s) = part sp s := by
  unfold setGate
  simp [part_ite, *]
@[simp] theorem setGateSt_core (g : Nat) (st : GateState) (s : State) : coreView (setGateSt g st s) = coreView s := by
  unfold setGateSt
  simp
@[simp] theorem setGateSt_fuses (g : Nat) (st : GateState) (s : State) : fuseView (setGateSt g st s) = fuseView s := fuses_of_core (setGateSt_core g st s)
@[simp] theorem setGateSt_memOk (g : Nat) (st : GateState) (s : State) : MemOk (setGateSt g st s) ↔ MemOk s := memOk_of_core (setGateSt_core g st s)
@[simp] theorem setGateSt_part (g : Nat) (st : GateState) (s : State) {sp : StatePart} (g_braid : sp ≠ .braid) : part sp (setGateSt g st s) = part sp s := by
  unfold setGateSt
  simp [*]
@[simp] theorem modNi_core (e : Nat) (f : Ni → Ni) (s : State) : coreView (modNi e f s) = coreView s := by
  rfl
@[simp] theorem modNi_fuses (e : Nat) (f : Ni → Ni) (s : State) : fuseView (modNi e f s) = fuseView s := fuses_of_core (modNi_core e f s)
@[simp] theorem modNi_memOk (e : Nat) (f : Ni → Ni) (s : State) : MemOk (modNi e f s) ↔ MemOk s := memOk_of_core (modNi_core e f s)
@[simp] theorem modNi_part (e : Nat) (f : Ni → Ni) (s : State) {sp : StatePart} (g_braid : sp ≠ .braid) : part sp (modNi e f s) = part sp s := by
  cases sp <;> first | rfl | contradiction
@[simp] theorem modRouter_core (r : Nat) (f : Router → Router) (s : State) : coreView (modRouter r f s) = coreView s := by
  rfl
@[simp] theorem modRouter_fuses (r : Nat) (f : Router → Router) (s : State) : fuseView (modRouter r f s) = fuseView s := fuses_of_core (modRouter_core r f s)
@[simp] theorem modRouter_memOk (r : Nat) (f : Router → Router) (s : State) : MemOk (modRouter r f s) ↔ MemOk s := memOk_of_core (modRouter_core r f s)
@[simp] theorem modRouter_part (r : Nat) (f : Router → Router) (s : State) {sp : StatePart} (g_braid : sp ≠ .braid) : part sp (modRouter r f s) = part sp s := by
  cases sp <;> first | rfl | contradiction
@[simp] theorem modChan_core (c : Nat) (f : Channel → Channel) (s : State) : coreView (modChan c f s) = coreView s := by
  rfl
@[simp] theorem modChan_fuses (c : Nat) (f : Channel → Channel) (s : State) : fuseView (modChan c f s) = fuseView s := fuses_of_core (modChan_core c f s)
@[simp] theorem modChan_memOk (c : Nat) (f : Channel → Channel) (s : State) : MemOk (modChan c f s) ↔ MemOk s := memOk_of_core (modChan_core c f s)
@[simp] theorem modChan_part (c : Nat) (f : Channel → Channel) (s : State) {sp : StatePart} (g_ferry : sp ≠ .ferry) : part sp (modChan c f s) = part sp s := by
  cases sp <;> first | rfl | contradiction
@[simp] theorem modLane_core (l : Nat) (f : Lane → Lane) (s : State) : coreView (modLane l f s) = coreView s := by
  rfl
@[simp] theorem modLane_fuses (l : Nat) (f : Lane → Lane) (s : State) : fuseView (modLane l f s) = fuseView s := fuses_of_core (modLane_core l f s)
@[simp] theorem modLane_memOk (l : Nat) (f : Lane → Lane) (s : State) : MemOk (modLane l f s) ↔ MemOk s := memOk_of_core (modLane_core l f s)
@[simp] theorem modLane_part (l : Nat) (f : Lane → Lane) (s : State) {sp : StatePart} (g_lanes : sp ≠ .lanes) : part sp (modLane l f s) = part sp s := by
  cases sp <;> first | rfl | contradiction
@[simp] theorem modPath_core (l : Nat) (f : LanePath → LanePath) (s : State) : coreView (modPath l f s) = coreView s := by
  rfl
@[simp] theorem modPath_fuses (l : Nat) (f : LanePath → LanePath) (s : State) : fuseView (modPath l f s) = fuseView s := fuses_of_core (modPath_core l f s)
@[simp] theorem modPath_memOk (l : Nat) (f : LanePath → LanePath) (s : State) : MemOk (modPath l f s) ↔ MemOk s := memOk_of_core (modPath_core l f s)
@[simp] theorem modPath_part (l : Nat) (f : LanePath → LanePath) (s : State) {sp : StatePart} (g_lanes : sp ≠ .lanes) : part sp (modPath l f s) = part sp s := by
  cases sp <;> first | rfl | contradiction
@[simp] theorem modPort_core (p : Nat) (f : Port → Port) (s : State) : coreView (modPort p f s) = coreView s := by
  rfl
@[simp] theorem modPort_fuses (p : Nat) (f : Port → Port) (s : State) : fuseView (modPort p f s) = fuseView s := fuses_of_core (modPort_core p f s)
@[simp] theorem modPort_memOk (p : Nat) (f : Port → Port) (s : State) : MemOk (modPort p f s) ↔ MemOk s := memOk_of_core (modPort_core p f s)
@[simp] theorem modPort_part (p : Nat) (f : Port → Port) (s : State) {sp : StatePart} (g_delta : sp ≠ .delta) : part sp (modPort p f s) = part sp s := by
  cases sp <;> first | rfl | contradiction
@[simp] theorem modEng_core (k : Nat) (f : Engine → Engine) (s : State) : coreView (modEng k f s) = coreView s := by
  rfl
@[simp] theorem modEng_fuses (k : Nat) (f : Engine → Engine) (s : State) : fuseView (modEng k f s) = fuseView s := fuses_of_core (modEng_core k f s)
@[simp] theorem modEng_memOk (k : Nat) (f : Engine → Engine) (s : State) : MemOk (modEng k f s) ↔ MemOk s := memOk_of_core (modEng_core k f s)
@[simp] theorem modEng_part (k : Nat) (f : Engine → Engine) (s : State) {sp : StatePart} (g_eng : sp ≠ .eng) : part sp (modEng k f s) = part sp s := by
  cases sp <;> first | rfl | contradiction
@[simp] theorem modQuad_core (q : Nat) (f : Quad → Quad) (s : State) : coreView (modQuad q f s) = coreView s := by
  rfl
@[simp] theorem modQuad_fuses (q : Nat) (f : Quad → Quad) (s : State) : fuseView (modQuad q f s) = fuseView s := fuses_of_core (modQuad_core q f s)
@[simp] theorem modQuad_memOk (q : Nat) (f : Quad → Quad) (s : State) : MemOk (modQuad q f s) ↔ MemOk s := memOk_of_core (modQuad_core q f s)
@[simp] theorem modQuad_part (q : Nat) (f : Quad → Quad) (s : State) {sp : StatePart} (g_eng : sp ≠ .eng) : part sp (modQuad q f s) = part sp s := by
  cases sp <;> first | rfl | contradiction
@[simp] theorem modDch_core (c : Nat) (f : Chan → Chan) (s : State) : coreView (modDch c f s) = coreView s := by
  rfl
@[simp] theorem modDch_fuses (c : Nat) (f : Chan → Chan) (s : State) : fuseView (modDch c f s) = fuseView s := fuses_of_core (modDch_core c f s)
@[simp] theorem modDch_memOk (c : Nat) (f : Chan → Chan) (s : State) : MemOk (modDch c f s) ↔ MemOk s := memOk_of_core (modDch_core c f s)
@[simp] theorem modDch_part (c : Nat) (f : Chan → Chan) (s : State) {sp : StatePart} (g_dram : sp ≠ .dram) : part sp (modDch c f s) = part sp s := by
  cases sp <;> first | rfl | contradiction
@[simp] theorem modDchX_core (c : Nat) (f : ChanX → ChanX) (s : State) : coreView (modDchX c f s) = coreView s := by
  rfl
@[simp] theorem modDchX_fuses (c : Nat) (f : ChanX → ChanX) (s : State) : fuseView (modDchX c f s) = fuseView s := fuses_of_core (modDchX_core c f s)
@[simp] theorem modDchX_memOk (c : Nat) (f : ChanX → ChanX) (s : State) : MemOk (modDchX c f s) ↔ MemOk s := memOk_of_core (modDchX_core c f s)
@[simp] theorem modDchX_part (c : Nat) (f : ChanX → ChanX) (s : State) {sp : StatePart} (g_dram : sp ≠ .dram) : part sp (modDchX c f s) = part sp s := by
  cases sp <;> first | rfl | contradiction
@[simp] theorem modReach_core (n : Nat) (f : Reach → Reach) (s : State) : coreView (modReach n f s) = coreView s := by
  rfl
@[simp] theorem modReach_fuses (n : Nat) (f : Reach → Reach) (s : State) : fuseView (modReach n f s) = fuseView s := fuses_of_core (modReach_core n f s)
@[simp] theorem modReach_memOk (n : Nat) (f : Reach → Reach) (s : State) : MemOk (modReach n f s) ↔ MemOk s := memOk_of_core (modReach_core n f s)
@[simp] theorem modReach_part (n : Nat) (f : Reach → Reach) (s : State) {sp : StatePart} (g_fabric : sp ≠ .fabric) : part sp (modReach n f s) = part sp s := by
  cases sp <;> first | rfl | contradiction
@[simp] theorem modTide_core (t : Nat) (f : Tide → Tide) (s : State) : coreView (modTide t f s) = coreView s := by
  rfl
@[simp] theorem modTide_fuses (t : Nat) (f : Tide → Tide) (s : State) : fuseView (modTide t f s) = fuseView s := fuses_of_core (modTide_core t f s)
@[simp] theorem modTide_memOk (t : Nat) (f : Tide → Tide) (s : State) : MemOk (modTide t f s) ↔ MemOk s := memOk_of_core (modTide_core t f s)
@[simp] theorem modTide_part (t : Nat) (f : Tide → Tide) (s : State) {sp : StatePart} (g_crypto : sp ≠ .crypto) : part sp (modTide t f s) = part sp s := by
  cases sp <;> first | rfl | contradiction
@[simp] theorem modBgroup_core (g : Nat) (f : BGroup → BGroup) (s : State) : coreView (modBgroup g f s) = coreView s := by
  rfl
@[simp] theorem modBgroup_fuses (g : Nat) (f : BGroup → BGroup) (s : State) : fuseView (modBgroup g f s) = fuseView s := fuses_of_core (modBgroup_core g f s)
@[simp] theorem modBgroup_memOk (g : Nat) (f : BGroup → BGroup) (s : State) : MemOk (modBgroup g f s) ↔ MemOk s := memOk_of_core (modBgroup_core g f s)
@[simp] theorem modBgroup_part (g : Nat) (f : BGroup → BGroup) (s : State) {sp : StatePart} (g_mems : sp ≠ .mems) : part sp (modBgroup g f s) = part sp s := by
  cases sp <;> first | rfl | contradiction
@[simp] theorem sendRecord_core (ni : Nat) (ev : Nat) (s : State) : coreView (sendRecord ni ev s) = coreView s := by
  unfold sendRecord
  split <;> simp
@[simp] theorem sendRecord_fuses (ni : Nat) (ev : Nat) (s : State) : fuseView (sendRecord ni ev s) = fuseView s := fuses_of_core (sendRecord_core ni ev s)
@[simp] theorem sendRecord_memOk (ni : Nat) (ev : Nat) (s : State) : MemOk (sendRecord ni ev s) ↔ MemOk s := memOk_of_core (sendRecord_core ni ev s)
@[simp] theorem sendRecord_part (ni : Nat) (ev : Nat) (s : State) {sp : StatePart} (g_braid : sp ≠ .braid) (g_events : sp ≠ .events) : part sp (sendRecord ni ev s) = part sp s := by
  unfold sendRecord
  split <;> simp [*]
@[simp] theorem raiseEvAt_core (ni : Option Nat) (ev : Nat) (cause : Nat) (sev : Nat) (detail : List Byte) (s : State) : coreView (raiseEvAt ni ev cause sev detail s) = coreView s := by
  unfold raiseEvAt
  repeat' split
  all_goals simp [*]
@[simp] theorem raiseEvAt_fuses (ni : Option Nat) (ev : Nat) (cause : Nat) (sev : Nat) (detail : List Byte) (s : State) : fuseView (raiseEvAt ni ev cause sev detail s) = fuseView s := fuses_of_core (raiseEvAt_core ni ev cause sev detail s)
@[simp] theorem raiseEvAt_memOk (ni : Option Nat) (ev : Nat) (cause : Nat) (sev : Nat) (detail : List Byte) (s : State) : MemOk (raiseEvAt ni ev cause sev detail s) ↔ MemOk s := memOk_of_core (raiseEvAt_core ni ev cause sev detail s)
@[simp] theorem raiseEvAt_part (ni : Option Nat) (ev : Nat) (cause : Nat) (sev : Nat) (detail : List Byte) (s : State) {sp : StatePart} (g_braid : sp ≠ .braid) (g_events : sp ≠ .events) : part sp (raiseEvAt ni ev cause sev detail s) = part sp s := by
  unfold raiseEvAt
  repeat' split
  all_goals simp [*]
@[simp] theorem raiseEv_core (ev : Nat) (cause : Nat) (sev : Nat) (detail : List Byte) (s : State) : coreView (raiseEv ev cause sev detail s) = coreView s := by
  unfold raiseEv
  simp
@[simp] theorem raiseEv_fuses (ev : Nat) (cause : Nat) (sev : Nat) (detail : List Byte) (s : State) : fuseView (raiseEv ev cause sev detail s) = fuseView s := fuses_of_core (raiseEv_core ev cause sev detail s)
@[simp] theorem raiseEv_memOk (ev : Nat) (cause : Nat) (sev : Nat) (detail : List Byte) (s : State) : MemOk (raiseEv ev cause sev detail s) ↔ MemOk s := memOk_of_core (raiseEv_core ev cause sev detail s)
@[simp] theorem raiseEv_part (ev : Nat) (cause : Nat) (sev : Nat) (detail : List Byte) (s : State) {sp : StatePart} (g_braid : sp ≠ .braid) (g_events : sp ≠ .events) : part sp (raiseEv ev cause sev detail s) = part sp s := by
  unfold raiseEv
  simp [*]
@[simp] theorem raiseLimitedAt_core (ni : Option Nat) (key : Nat) (period : Nat) (ev : Nat) (cause : Nat) (sev : Nat) (detail : List Byte) (s : State) : coreView (raiseLimitedAt ni key period ev cause sev detail s) = coreView s := by
  unfold raiseLimitedAt
  simp [core_ite]
@[simp] theorem raiseLimitedAt_fuses (ni : Option Nat) (key : Nat) (period : Nat) (ev : Nat) (cause : Nat) (sev : Nat) (detail : List Byte) (s : State) : fuseView (raiseLimitedAt ni key period ev cause sev detail s) = fuseView s := fuses_of_core (raiseLimitedAt_core ni key period ev cause sev detail s)
@[simp] theorem raiseLimitedAt_memOk (ni : Option Nat) (key : Nat) (period : Nat) (ev : Nat) (cause : Nat) (sev : Nat) (detail : List Byte) (s : State) : MemOk (raiseLimitedAt ni key period ev cause sev detail s) ↔ MemOk s := memOk_of_core (raiseLimitedAt_core ni key period ev cause sev detail s)
@[simp] theorem raiseLimitedAt_part (ni : Option Nat) (key : Nat) (period : Nat) (ev : Nat) (cause : Nat) (sev : Nat) (detail : List Byte) (s : State) {sp : StatePart} (g_braid : sp ≠ .braid) (g_events : sp ≠ .events) : part sp (raiseLimitedAt ni key period ev cause sev detail s) = part sp s := by
  unfold raiseLimitedAt
  simp [part_ite, *]
@[simp] theorem raiseLimited_core (key : Nat) (period : Nat) (ev : Nat) (cause : Nat) (sev : Nat) (detail : List Byte) (s : State) : coreView (raiseLimited key period ev cause sev detail s) = coreView s := by
  unfold raiseLimited
  simp
@[simp] theorem raiseLimited_fuses (key : Nat) (period : Nat) (ev : Nat) (cause : Nat) (sev : Nat) (detail : List Byte) (s : State) : fuseView (raiseLimited key period ev cause sev detail s) = fuseView s := fuses_of_core (raiseLimited_core key period ev cause sev detail s)
@[simp] theorem raiseLimited_memOk (key : Nat) (period : Nat) (ev : Nat) (cause : Nat) (sev : Nat) (detail : List Byte) (s : State) : MemOk (raiseLimited key period ev cause sev detail s) ↔ MemOk s := memOk_of_core (raiseLimited_core key period ev cause sev detail s)
@[simp] theorem raiseLimited_part (key : Nat) (period : Nat) (ev : Nat) (cause : Nat) (sev : Nat) (detail : List Byte) (s : State) {sp : StatePart} (g_braid : sp ≠ .braid) (g_events : sp ≠ .events) : part sp (raiseLimited key period ev cause sev detail s) = part sp s := by
  unfold raiseLimited
  simp [*]
@[simp] theorem assertFatal_core (ev : Nat) (s : State) : coreView (assertFatal ev s) = coreView s := by
  rfl
@[simp] theorem assertFatal_fuses (ev : Nat) (s : State) : fuseView (assertFatal ev s) = fuseView s := fuses_of_core (assertFatal_core ev s)
@[simp] theorem assertFatal_memOk (ev : Nat) (s : State) : MemOk (assertFatal ev s) ↔ MemOk s := memOk_of_core (assertFatal_core ev s)
@[simp] theorem assertFatal_part (ev : Nat) (s : State) {sp : StatePart} (g_events : sp ≠ .events) : part sp (assertFatal ev s) = part sp s := by
  cases sp <;> first | rfl | contradiction
@[simp] theorem mirrorItem_core (m : MirrorItem) (s : State) : coreView (mirrorItem m s) = coreView s := by
  unfold mirrorItem
  simp
@[simp] theorem mirrorItem_fuses (m : MirrorItem) (s : State) : fuseView (mirrorItem m s) = fuseView s := fuses_of_core (mirrorItem_core m s)
@[simp] theorem mirrorItem_memOk (m : MirrorItem) (s : State) : MemOk (mirrorItem m s) ↔ MemOk s := memOk_of_core (mirrorItem_core m s)
@[simp] theorem mirrorItem_part (m : MirrorItem) (s : State) {sp : StatePart} (g_twin : sp ≠ .twin) : part sp (mirrorItem m s) = part sp s := by
  unfold mirrorItem
  simp [*]
@[simp] theorem addLog_core (e : LogEntry) (s : State) : coreView (addLog e s) = coreView s := by
  unfold addLog
  simp
@[simp] theorem addLog_fuses (e : LogEntry) (s : State) : fuseView (addLog e s) = fuseView s := fuses_of_core (addLog_core e s)
@[simp] theorem addLog_memOk (e : LogEntry) (s : State) : MemOk (addLog e s) ↔ MemOk s := memOk_of_core (addLog_core e s)
@[simp] theorem addLog_part (e : LogEntry) (s : State) {sp : StatePart} (g_ferry : sp ≠ .ferry) (g_twin : sp ≠ .twin) : part sp (addLog e s) = part sp s := by
  unfold addLog
  simp [*]
@[simp] theorem reportJob_core (s : State) (j : Job) : coreView (reportJob s j) = coreView s := by
  unfold reportJob
  repeat' split
  all_goals simp [*]
@[simp] theorem reportJob_fuses (s : State) (j : Job) : fuseView (reportJob s j) = fuseView s := fuses_of_core (reportJob_core s j)
@[simp] theorem reportJob_memOk (s : State) (j : Job) : MemOk (reportJob s j) ↔ MemOk s := memOk_of_core (reportJob_core s j)
@[simp] theorem reportJob_part (s : State) (j : Job) {sp : StatePart} (g_braid : sp ≠ .braid) (g_ferry : sp ≠ .ferry) (g_twin : sp ≠ .twin) (g_debug : sp ≠ .debug) (g_events : sp ≠ .events) : part sp (reportJob s j) = part sp s := by
  unfold reportJob
  repeat' split
  all_goals simp [*]
@[simp] theorem reportJobs_core (s : State) : coreView (reportJobs s) = coreView s := by
  unfold reportJobs
  simp
@[simp] theorem reportJobs_fuses (s : State) : fuseView (reportJobs s) = fuseView s := fuses_of_core (reportJobs_core s)
@[simp] theorem reportJobs_memOk (s : State) : MemOk (reportJobs s) ↔ MemOk s := memOk_of_core (reportJobs_core s)
@[simp] theorem reportJobs_part (s : State) {sp : StatePart} (g_braid : sp ≠ .braid) (g_ferry : sp ≠ .ferry) (g_twin : sp ≠ .twin) (g_debug : sp ≠ .debug) (g_events : sp ≠ .events) : part sp (reportJobs s) = part sp s := by
  unfold reportJobs
  simp [*]
@[simp] theorem endJob_core (id : Nat) (code : Nat) (result : List Byte) (s : State) : coreView (endJob id code result s) = coreView s := by
  unfold endJob
  simp
@[simp] theorem endJob_fuses (id : Nat) (code : Nat) (result : List Byte) (s : State) : fuseView (endJob id code result s) = fuseView s := fuses_of_core (endJob_core id code result s)
@[simp] theorem endJob_memOk (id : Nat) (code : Nat) (result : List Byte) (s : State) : MemOk (endJob id code result s) ↔ MemOk s := memOk_of_core (endJob_core id code result s)
@[simp] theorem endJob_part (id : Nat) (code : Nat) (result : List Byte) (s : State) {sp : StatePart} (g_braid : sp ≠ .braid) (g_ferry : sp ≠ .ferry) (g_twin : sp ≠ .twin) (g_debug : sp ≠ .debug) (g_events : sp ≠ .events) : part sp (endJob id code result s) = part sp s := by
  unfold endJob
  simp [*]
@[simp] theorem endJob?_core (id : Option Nat) (code : Nat) (result : List Byte) (s : State) : coreView (endJob? id code result s) = coreView s := by
  unfold endJob?
  split <;> simp
@[simp] theorem endJob?_fuses (id : Option Nat) (code : Nat) (result : List Byte) (s : State) : fuseView (endJob? id code result s) = fuseView s := fuses_of_core (endJob?_core id code result s)
@[simp] theorem endJob?_memOk (id : Option Nat) (code : Nat) (result : List Byte) (s : State) : MemOk (endJob? id code result s) ↔ MemOk s := memOk_of_core (endJob?_core id code result s)
@[simp] theorem endJob?_part (id : Option Nat) (code : Nat) (result : List Byte) (s : State) {sp : StatePart} (g_braid : sp ≠ .braid) (g_ferry : sp ≠ .ferry) (g_twin : sp ≠ .twin) (g_debug : sp ≠ .debug) (g_events : sp ≠ .events) : part sp (endJob? id code result s) = part sp s := by
  unfold endJob?
  split <;> simp [*]
@[simp] theorem setMemPwr_core (u : Nat) (p : MemPwr) (s : State) : coreView (setMemPwr u p s) = coreView s := by
  rfl
@[simp] theorem setMemPwr_fuses (u : Nat) (p : MemPwr) (s : State) : fuseView (setMemPwr u p s) = fuseView s := fuses_of_core (setMemPwr_core u p s)
@[simp] theorem setMemPwr_memOk (u : Nat) (p : MemPwr) (s : State) : MemOk (setMemPwr u p s) ↔ MemOk s := memOk_of_core (setMemPwr_core u p s)
@[simp] theorem setMemPwr_part (u : Nat) (p : MemPwr) (s : State) {sp : StatePart} (g_mems : sp ≠ .mems) : part sp (setMemPwr u p s) = part sp s := by
  cases sp <;> first | rfl | contradiction
@[simp] theorem setWordTag_core (w : Nat) (t : WordTag) (s : State) : coreView (setWordTag w t s) = coreView s := by
  rfl
@[simp] theorem setWordTag_fuses (w : Nat) (t : WordTag) (s : State) : fuseView (setWordTag w t s) = fuseView s := fuses_of_core (setWordTag_core w t s)
@[simp] theorem setWordTag_memOk (w : Nat) (t : WordTag) (s : State) : MemOk (setWordTag w t s) ↔ MemOk s := memOk_of_core (setWordTag_core w t s)
@[simp] theorem setWordTag_part (w : Nat) (t : WordTag) (s : State) {sp : StatePart} (g_mems : sp ≠ .mems) : part sp (setWordTag w t s) = part sp s := by
  cases sp <;> first | rfl | contradiction
@[simp] theorem upsetWord_fuses (e : WordErr) (s : State) : fuseView (upsetWord e s) = fuseView s := by
  unfold upsetWord
  dsimp only
  split
  · exact setWordTag_fuses e.word { wordTag s e.word with bits := (wordTag s e.word).bits + e.bits } s
  · exact setWordTag_fuses _ _ _
@[simp] theorem upsetWord_memOk (e : WordErr) (s : State) (h : MemOk s) : MemOk (upsetWord e s) := by
  unfold upsetWord
  dsimp only
  split
  · show Memory.wf (msetN s.mems.mem _ _)
    exact wf_msetN _ _ h
  · exact (setWordTag_memOk _ _ _).mpr h
@[simp] theorem upsetWord_part (e : WordErr) (s : State) {sp : StatePart} (g_freeCtr : sp ≠ .freeCtr) (g_mems : sp ≠ .mems) : part sp (upsetWord e s) = part sp s := by
  unfold upsetWord
  dsimp only
  split <;> (cases sp <;> first | rfl | contradiction)
@[simp] theorem addWordErrs_fuses (errs : List WordErr) (s : State) : fuseView (addWordErrs errs s) = fuseView s := by
  unfold addWordErrs
  simp
@[simp] theorem addWordErrs_memOk (errs : List WordErr) (s : State) (h : MemOk s) : MemOk (addWordErrs errs s) := by
  exact forAll_memOk errs _ s (fun t x ht => upsetWord_memOk x t ht) h
@[simp] theorem addWordErrs_part (errs : List WordErr) (s : State) {sp : StatePart} (g_freeCtr : sp ≠ .freeCtr) (g_mems : sp ≠ .mems) : part sp (addWordErrs errs s) = part sp s := by
  unfold addWordErrs
  simp [*]
@[simp] theorem readWords_core (ws : List Nat) (s : State) : coreView (readWords ws s).2 = coreView s := by
  have h : coreView (readWords ws s).2 = coreView (forAll (readWords ws s).1 (fun t r => if r.2 = .corrected then setWordTag r.1 { wordTag t r.1 with bits := 0 } t else t) s) := rfl
  rw [h]
  refine forAll_core _ _ _ (fun t x => ?_)
  split <;> simp
@[simp] theorem readWords_fuses (ws : List Nat) (s : State) : fuseView (readWords ws s).2 = fuseView s := fuses_of_core (readWords_core ws s)
@[simp] theorem readWords_memOk (ws : List Nat) (s : State) : MemOk (readWords ws s).2 ↔ MemOk s := memOk_of_core (readWords_core ws s)
@[simp] theorem readWords_part (ws : List Nat) (s : State) {sp : StatePart} (g_freeCtr : sp ≠ .freeCtr) (g_mems : sp ≠ .mems) : part sp (readWords ws s).2 = part sp s := by
  have h : part sp (readWords ws s).2 = part sp (forAll (readWords ws s).1 (fun t r => if r.2 = .corrected then setWordTag r.1 { wordTag t r.1 with bits := 0 } t else t) s) := by
    cases sp <;> first | rfl | contradiction
  rw [h]
  refine forAll_part _ _ _ (fun t x => ?_)
  split <;> simp [*]
@[simp] theorem writeWords_fuses (a : Nat) (l : List Byte) (poison : Nat → Bool) (s : State) : fuseView (writeWords a l poison s) = fuseView s := by
  unfold writeWords
  simp
@[simp] theorem writeWords_memOk (a : Nat) (l : List Byte) (poison : Nat → Bool) (s : State) (h : MemOk s) : MemOk (writeWords a l poison s) := by
  unfold writeWords
  refine forAll_memOk _ _ _ (fun t x ht => by simpa using ht) ?_
  exact wf_msetN _ _ h
@[simp] theorem writeWords_part (a : Nat) (l : List Byte) (poison : Nat → Bool) (s : State) {sp : StatePart} (g_mems : sp ≠ .mems) : part sp (writeWords a l poison s) = part sp s := by
  unfold writeWords
  simp [*]
@[simp] theorem setLineTag_core (ch : Nat) (line : Nat) (t : LineTag) (s : State) : coreView (setLineTag ch line t s) = coreView s := by
  rfl
@[simp] theorem setLineTag_fuses (ch : Nat) (line : Nat) (t : LineTag) (s : State) : fuseView (setLineTag ch line t s) = fuseView s := fuses_of_core (setLineTag_core ch line t s)
@[simp] theorem setLineTag_memOk (ch : Nat) (line : Nat) (t : LineTag) (s : State) : MemOk (setLineTag ch line t s) ↔ MemOk s := memOk_of_core (setLineTag_core ch line t s)
@[simp] theorem setLineTag_part (ch : Nat) (line : Nat) (t : LineTag) (s : State) {sp : StatePart} (g_mems : sp ≠ .mems) : part sp (setLineTag ch line t s) = part sp s := by
  cases sp <;> first | rfl | contradiction
@[simp] theorem storeLine_fuses (ch : Nat) (line : Nat) (l : List Byte) (t : LineTag) (s : State) : fuseView (storeLine ch line l t s) = fuseView s := by
  rfl
@[simp] theorem storeLine_memOk (ch : Nat) (line : Nat) (l : List Byte) (t : LineTag) (s : State) (h : MemOk s) : MemOk (storeLine ch line l t s) := by
  unfold storeLine
  simp
  exact wf_msetN _ _ h
@[simp] theorem storeLine_part (ch : Nat) (line : Nat) (l : List Byte) (t : LineTag) (s : State) {sp : StatePart} (g_mems : sp ≠ .mems) : part sp (storeLine ch line l t s) = part sp s := by
  cases sp <;> first | rfl | contradiction
@[simp] theorem pokeLine_fuses (ch : Nat) (line : Nat) (off : Nat) (l : List Byte) (s : State) : fuseView (pokeLine ch line off l s) = fuseView s := by
  rfl
@[simp] theorem pokeLine_memOk (ch : Nat) (line : Nat) (off : Nat) (l : List Byte) (s : State) (h : MemOk s) : MemOk (pokeLine ch line off l s) := by
  unfold pokeLine
  simp [*]
@[simp] theorem pokeLine_part (ch : Nat) (line : Nat) (off : Nat) (l : List Byte) (s : State) {sp : StatePart} (g_mems : sp ≠ .mems) : part sp (pokeLine ch line off l s) = part sp s := by
  unfold pokeLine
  simp [*]
@[simp] theorem hwWriteByte_fuses (a : Nat) (b : Byte) (s : State) : fuseView (hwWriteByte a b s) = fuseView s := by
  unfold hwWriteByte
  repeat' split
  all_goals simp [*]
@[simp] theorem hwWriteByte_memOk (a : Nat) (b : Byte) (s : State) (h : MemOk s) : MemOk (hwWriteByte a b s) := by
  unfold hwWriteByte
  dsimp only
  repeat' split
  all_goals first | exact h | (simp; exact storeLine_memOk _ _ _ _ _ h) | (simp; exact wf_mset _ _ h) | (simp; exact wf_mset _ _ (by simpa using h))
@[simp] theorem hwWriteByte_part (a : Nat) (b : Byte) (s : State) {sp : StatePart} (g_dram : sp ≠ .dram) (g_mems : sp ≠ .mems) : part sp (hwWriteByte a b s) = part sp s := by
  unfold hwWriteByte
  repeat' split
  all_goals simp [*]
theorem hwWrite_fuses {a : Nat} {l : List Byte} {s t : State} (h : hwWrite a l s = some t) : fuseView t = fuseView s := by
  unfold hwWrite at h
  split at h
  · cases h; exact foldl_fuses _ _ _ (fun t x => hwWriteByte_fuses _ _ t)
  · cases h

theorem hwWrite_memOk {a : Nat} {l : List Byte} {s t : State} (h : hwWrite a l s = some t) (hs : MemOk s) : MemOk t := by
  unfold hwWrite at h
  split at h
  · cases h; exact foldl_memOk _ _ _ (fun t x ht => hwWriteByte_memOk _ _ t ht) hs
  · cases h

theorem hwWrite_getD_fuses (a : Nat) (l : List Byte) (s : State) : fuseView ((hwWrite a l s).getD s) = fuseView s := by
  cases h : hwWrite a l s with
  | none => rfl
  | some t => exact hwWrite_fuses h

theorem hwWrite_getD_memOk (a : Nat) (l : List Byte) (s : State) (hs : MemOk s) : MemOk ((hwWrite a l s).getD s) := by
  cases h : hwWrite a l s with
  | none => exact hs
  | some t => exact hwWrite_memOk h hs

theorem hwWrite_part {a : Nat} {l : List Byte} {s t : State} (h : hwWrite a l s = some t) {sp : StatePart} (g_dram : sp ≠ .dram) (g_mems : sp ≠ .mems) : part sp t = part sp s := by
  unfold hwWrite at h
  split at h
  · cases h; exact foldl_part _ _ _ (fun t x => by simp [*])
  · cases h

theorem hwWrite_getD_part (a : Nat) (l : List Byte) (s : State) {sp : StatePart} (g_dram : sp ≠ .dram) (g_mems : sp ≠ .mems) : part sp ((hwWrite a l s).getD s) = part sp s := by
  cases h : hwWrite a l s with
  | none => rfl
  | some t => exact hwWrite_part h g_dram g_mems


end Sys2Proof.Machine
end

