-- ==== Sys2Proof/Laws/FrameBraid.lean ====
section
/-! SUPPORT. Frame lemmas of the Braid: which parts of the state each function leaves alone, which leave the fuses and the bytes of memory alone, and that the others keep memory in its canonical form. -/

set_option linter.all false

namespace Sys2Proof.Machine
open Sys2Proof

@[simp] theorem braidEv_core (router : Nat) (cause : Nat) (sev : Nat) (port : Nat) (p : Packet) (s : State) : coreView (braidEv router cause sev port p s) = coreView s := by
  unfold braidEv
  simp
@[simp] theorem braidEv_fuses (router : Nat) (cause : Nat) (sev : Nat) (port : Nat) (p : Packet) (s : State) : fuseView (braidEv router cause sev port p s) = fuseView s := fuses_of_core (braidEv_core router cause sev port p s)
@[simp] theorem braidEv_memOk (router : Nat) (cause : Nat) (sev : Nat) (port : Nat) (p : Packet) (s : State) : MemOk (braidEv router cause sev port p s) ↔ MemOk s := memOk_of_core (braidEv_core router cause sev port p s)
@[simp] theorem braidEv_part (router : Nat) (cause : Nat) (sev : Nat) (port : Nat) (p : Packet) (s : State) {sp : StatePart} (g_braid : sp ≠ .braid) (g_events : sp ≠ .events) : part sp (braidEv router cause sev port p s) = part sp s := by
  unfold braidEv
  simp [*]
@[simp] theorem niCount_core (ep : Nat) (k : Nat) (s : State) : coreView (niCount ep k s) = coreView s := by
  rfl
@[simp] theorem niCount_fuses (ep : Nat) (k : Nat) (s : State) : fuseView (niCount ep k s) = fuseView s := fuses_of_core (niCount_core ep k s)
@[simp] theorem niCount_memOk (ep : Nat) (k : Nat) (s : State) : MemOk (niCount ep k s) ↔ MemOk s := memOk_of_core (niCount_core ep k s)
@[simp] theorem niCount_part (ep : Nat) (k : Nat) (s : State) {sp : StatePart} (g_braid : sp ≠ .braid) : part sp (niCount ep k s) = part sp s := by
  cases sp <;> first | rfl | contradiction
@[simp] theorem routerCount_core (r : Nat) (k : Nat) (s : State) : coreView (routerCount r k s) = coreView s := by
  rfl
@[simp] theorem routerCount_fuses (r : Nat) (k : Nat) (s : State) : fuseView (routerCount r k s) = fuseView s := fuses_of_core (routerCount_core r k s)
@[simp] theorem routerCount_memOk (r : Nat) (k : Nat) (s : State) : MemOk (routerCount r k s) ↔ MemOk s := memOk_of_core (routerCount_core r k s)
@[simp] theorem routerCount_part (r : Nat) (k : Nat) (s : State) {sp : StatePart} (g_braid : sp ≠ .braid) : part sp (routerCount r k s) = part sp s := by
  cases sp <;> first | rfl | contradiction
@[simp] theorem discardAtNi_core (ep : Nat) (p : Packet) (s : State) : coreView (discardAtNi ep p s) = coreView s := by
  unfold discardAtNi
  split <;> simp
@[simp] theorem discardAtNi_fuses (ep : Nat) (p : Packet) (s : State) : fuseView (discardAtNi ep p s) = fuseView s := fuses_of_core (discardAtNi_core ep p s)
@[simp] theorem discardAtNi_memOk (ep : Nat) (p : Packet) (s : State) : MemOk (discardAtNi ep p s) ↔ MemOk s := memOk_of_core (discardAtNi_core ep p s)
@[simp] theorem discardAtNi_part (ep : Nat) (p : Packet) (s : State) {sp : StatePart} (g_braid : sp ≠ .braid) (g_events : sp ≠ .events) : part sp (discardAtNi ep p s) = part sp s := by
  unfold discardAtNi
  split <;> simp [*]
@[simp] theorem discardAtRouter_core (r : Nat) (port : Nat) (p : Packet) (s : State) : coreView (discardAtRouter r port p s) = coreView s := by
  unfold discardAtRouter
  split <;> simp
@[simp] theorem discardAtRouter_fuses (r : Nat) (port : Nat) (p : Packet) (s : State) : fuseView (discardAtRouter r port p s) = fuseView s := fuses_of_core (discardAtRouter_core r port p s)
@[simp] theorem discardAtRouter_memOk (r : Nat) (port : Nat) (p : Packet) (s : State) : MemOk (discardAtRouter r port p s) ↔ MemOk s := memOk_of_core (discardAtRouter_core r port p s)
@[simp] theorem discardAtRouter_part (r : Nat) (port : Nat) (p : Packet) (s : State) {sp : StatePart} (g_braid : sp ≠ .braid) (g_events : sp ≠ .events) : part sp (discardAtRouter r port p s) = part sp s := by
  unfold discardAtRouter
  split <;> simp [*]
@[simp] theorem finishPart_core (pid : Nat) (st : Status) (wait : Nat) (data : List Byte) (least : Nat) (s : State) : coreView (finishPart pid st wait data least s) = coreView s := by
  unfold finishPart
  dsimp only
  repeat' split
  all_goals simp [*]
@[simp] theorem finishPart_fuses (pid : Nat) (st : Status) (wait : Nat) (data : List Byte) (least : Nat) (s : State) : fuseView (finishPart pid st wait data least s) = fuseView s := fuses_of_core (finishPart_core pid st wait data least s)
@[simp] theorem finishPart_memOk (pid : Nat) (st : Status) (wait : Nat) (data : List Byte) (least : Nat) (s : State) : MemOk (finishPart pid st wait data least s) ↔ MemOk s := memOk_of_core (finishPart_core pid st wait data least s)
@[simp] theorem finishPart_part (pid : Nat) (st : Status) (wait : Nat) (data : List Byte) (least : Nat) (s : State) {sp : StatePart} (g_braid : sp ≠ .braid) (g_eng : sp ≠ .eng) : part sp (finishPart pid st wait data least s) = part sp s := by
  unfold finishPart
  dsimp only
  repeat' split
  all_goals simp [*]
@[simp] theorem releaseHold_core (ep : Nat) (dst : Nat) (vc : Nat) (s : State) : coreView (releaseHold ep dst vc s) = coreView s := by
  rfl
@[simp] theorem releaseHold_fuses (ep : Nat) (dst : Nat) (vc : Nat) (s : State) : fuseView (releaseHold ep dst vc s) = fuseView s := fuses_of_core (releaseHold_core ep dst vc s)
@[simp] theorem releaseHold_memOk (ep : Nat) (dst : Nat) (vc : Nat) (s : State) : MemOk (releaseHold ep dst vc s) ↔ MemOk s := memOk_of_core (releaseHold_core ep dst vc s)
@[simp] theorem releaseHold_part (ep : Nat) (dst : Nat) (vc : Nat) (s : State) {sp : StatePart} (g_braid : sp ≠ .braid) : part sp (releaseHold ep dst vc s) = part sp s := by
  cases sp <;> first | rfl | contradiction
@[simp] theorem localAnswer_core (ep : Nat) (p : Packet) (st : Status) (s : State) : coreView (localAnswer ep p st s) = coreView s := by
  unfold localAnswer
  repeat' split
  all_goals simp [*]
@[simp] theorem localAnswer_fuses (ep : Nat) (p : Packet) (st : Status) (s : State) : fuseView (localAnswer ep p st s) = fuseView s := fuses_of_core (localAnswer_core ep p st s)
@[simp] theorem localAnswer_memOk (ep : Nat) (p : Packet) (st : Status) (s : State) : MemOk (localAnswer ep p st s) ↔ MemOk s := memOk_of_core (localAnswer_core ep p st s)
@[simp] theorem localAnswer_part (ep : Nat) (p : Packet) (st : Status) (s : State) {sp : StatePart} (g_braid : sp ≠ .braid) (g_eng : sp ≠ .eng) (g_events : sp ≠ .events) : part sp (localAnswer ep p st s) = part sp s := by
  unfold localAnswer
  repeat' split
  all_goals simp [*]
@[simp] theorem turnAround_core (ep : Nat) (at_ : Nat) (p : Packet) (s : State) : coreView (turnAround ep at_ p s) = coreView s := by
  rfl
@[simp] theorem turnAround_fuses (ep : Nat) (at_ : Nat) (p : Packet) (s : State) : fuseView (turnAround ep at_ p s) = fuseView s := fuses_of_core (turnAround_core ep at_ p s)
@[simp] theorem turnAround_memOk (ep : Nat) (at_ : Nat) (p : Packet) (s : State) : MemOk (turnAround ep at_ p s) ↔ MemOk s := memOk_of_core (turnAround_core ep at_ p s)
@[simp] theorem turnAround_part (ep : Nat) (at_ : Nat) (p : Packet) (s : State) {sp : StatePart} (g_braid : sp ≠ .braid) : part sp (turnAround ep at_ p s) = part sp s := by
  cases sp <;> first | rfl | contradiction
@[simp] theorem farEv_core (ni : Nat) (cause : Nat) (port : Nat) (p : Packet) (s : State) : coreView (farEv ni cause port p s) = coreView s := by
  unfold farEv
  simp
@[simp] theorem farEv_fuses (ni : Nat) (cause : Nat) (port : Nat) (p : Packet) (s : State) : fuseView (farEv ni cause port p s) = fuseView s := fuses_of_core (farEv_core ni cause port p s)
@[simp] theorem farEv_memOk (ni : Nat) (cause : Nat) (port : Nat) (p : Packet) (s : State) : MemOk (farEv ni cause port p s) ↔ MemOk s := memOk_of_core (farEv_core ni cause port p s)
@[simp] theorem farEv_part (ni : Nat) (cause : Nat) (port : Nat) (p : Packet) (s : State) {sp : StatePart} (g_braid : sp ≠ .braid) (g_events : sp ≠ .events) : part sp (farEv ni cause port p s) = part sp s := by
  unfold farEv
  simp [*]
@[simp] theorem askReserve_core (ep : Nat) (p : Packet) (s : State) : coreView (askReserve ep p s) = coreView s := by
  rfl
@[simp] theorem askReserve_fuses (ep : Nat) (p : Packet) (s : State) : fuseView (askReserve ep p s) = fuseView s := fuses_of_core (askReserve_core ep p s)
@[simp] theorem askReserve_memOk (ep : Nat) (p : Packet) (s : State) : MemOk (askReserve ep p s) ↔ MemOk s := memOk_of_core (askReserve_core ep p s)
@[simp] theorem askReserve_part (ep : Nat) (p : Packet) (s : State) {sp : StatePart} (g_braid : sp ≠ .braid) : part sp (askReserve ep p s) = part sp s := by
  cases sp <;> first | rfl | contradiction
@[simp] theorem reserveOrb_core (ep : Nat) (p : Packet) (s : State) : coreView (reserveOrb ep p s).2 = coreView s := by
  unfold reserveOrb
  dsimp only
  repeat' split
  all_goals simp [*]
@[simp] theorem reserveOrb_fuses (ep : Nat) (p : Packet) (s : State) : fuseView (reserveOrb ep p s).2 = fuseView s := fuses_of_core (reserveOrb_core ep p s)
@[simp] theorem reserveOrb_memOk (ep : Nat) (p : Packet) (s : State) : MemOk (reserveOrb ep p s).2 ↔ MemOk s := memOk_of_core (reserveOrb_core ep p s)
@[simp] theorem reserveOrb_part (ep : Nat) (p : Packet) (s : State) {sp : StatePart} (g_braid : sp ≠ .braid) : part sp (reserveOrb ep p s).2 = part sp s := by
  unfold reserveOrb
  dsimp only
  repeat' split
  all_goals simp [*]
@[simp] theorem protectEv_core (ep : Nat) (range : Nat) (p : Packet) (s : State) : coreView (protectEv ep range p s) = coreView s := by
  unfold protectEv
  simp
@[simp] theorem protectEv_fuses (ep : Nat) (range : Nat) (p : Packet) (s : State) : fuseView (protectEv ep range p s) = fuseView s := fuses_of_core (protectEv_core ep range p s)
@[simp] theorem protectEv_memOk (ep : Nat) (range : Nat) (p : Packet) (s : State) : MemOk (protectEv ep range p s) ↔ MemOk s := memOk_of_core (protectEv_core ep range p s)
@[simp] theorem protectEv_part (ep : Nat) (range : Nat) (p : Packet) (s : State) {sp : StatePart} (g_braid : sp ≠ .braid) (g_events : sp ≠ .events) : part sp (protectEv ep range p s) = part sp s := by
  unfold protectEv
  simp [*]
theorem protectTurn_core {ep : Nat} {p : Packet} {s t : State} (h : protectTurn ep p s = some t) : coreView t = coreView s := by
  unfold protectTurn at h
  split at h
  · obtain ⟨r, _, e⟩ := Option.map_eq_some_iff.mp h
    subst e
    dsimp only
    split <;> simp
  · cases h

theorem protectTurn_part {ep : Nat} {p : Packet} {s t : State} (h : protectTurn ep p s = some t) {sp : StatePart} (g_braid : sp ≠ .braid) (g_eng : sp ≠ .eng) (g_events : sp ≠ .events) : part sp t = part sp s := by
  unfold protectTurn at h
  split at h
  · obtain ⟨r, _, e⟩ := Option.map_eq_some_iff.mp h
    subst e
    dsimp only
    split <;> simp [*]
  · cases h

@[simp] theorem presentPart_core (ep : Nat) (p : Packet) (badKid : Bool) (s : State) : coreView (presentPart ep p badKid s) = coreView s := by
  unfold presentPart
  dsimp only
  repeat' split
  all_goals first | (simp [*]; done) | (rename_i h; simp [*, protectTurn_core h]; done) | (rename_i h _; simp [*, protectTurn_core h]; done) | (rename_i h _ _; simp [*, protectTurn_core h]; done) | (rename_i h _ _ _; simp [*, protectTurn_core h]; done) | (rename_i h _ _ _ _; simp [*, protectTurn_core h]; done) | (rename_i h _ _ _ _ _; simp [*, protectTurn_core h]; done) | (rename_i h _ _ _ _ _ _; simp [*, protectTurn_core h]; done) | (rename_i h _ _ _ _ _ _ _; simp [*, protectTurn_core h]; done) | (rename_i h _ _ _ _ _ _ _ _; simp [*, protectTurn_core h]; done) | rfl
@[simp] theorem presentPart_fuses (ep : Nat) (p : Packet) (badKid : Bool) (s : State) : fuseView (presentPart ep p badKid s) = fuseView s := fuses_of_core (presentPart_core ep p badKid s)
@[simp] theorem presentPart_memOk (ep : Nat) (p : Packet) (badKid : Bool) (s : State) : MemOk (presentPart ep p badKid s) ↔ MemOk s := memOk_of_core (presentPart_core ep p badKid s)
@[simp] theorem presentPart_part (ep : Nat) (p : Packet) (badKid : Bool) (s : State) {sp : StatePart} (g_braid : sp ≠ .braid) (g_eng : sp ≠ .eng) (g_events : sp ≠ .events) : part sp (presentPart ep p badKid s) = part sp s := by
  unfold presentPart
  dsimp only
  repeat' split
  all_goals first | (simp [*]; done) | (rename_i h; simp [*, protectTurn_part h]; done) | (rename_i h _; simp [*, protectTurn_part h]; done) | (rename_i h _ _; simp [*, protectTurn_part h]; done) | (rename_i h _ _ _; simp [*, protectTurn_part h]; done) | (rename_i h _ _ _ _; simp [*, protectTurn_part h]; done) | (rename_i h _ _ _ _ _; simp [*, protectTurn_part h]; done) | (rename_i h _ _ _ _ _ _; simp [*, protectTurn_part h]; done) | (rename_i h _ _ _ _ _ _ _; simp [*, protectTurn_part h]; done) | (rename_i h _ _ _ _ _ _ _ _; simp [*, protectTurn_part h]; done) | (simp [*]; cases sp <;> first | rfl | contradiction) | (cases sp <;> first | rfl | contradiction)
@[simp] theorem notePoison_core (pid : Nat) (poison : List Nat) (s : State) : coreView (notePoison pid poison s) = coreView s := by
  unfold notePoison
  split <;> simp
@[simp] theorem notePoison_fuses (pid : Nat) (poison : List Nat) (s : State) : fuseView (notePoison pid poison s) = fuseView s := fuses_of_core (notePoison_core pid poison s)
@[simp] theorem notePoison_memOk (pid : Nat) (poison : List Nat) (s : State) : MemOk (notePoison pid poison s) ↔ MemOk s := memOk_of_core (notePoison_core pid poison s)
@[simp] theorem notePoison_part (pid : Nat) (poison : List Nat) (s : State) {sp : StatePart} (g_braid : sp ≠ .braid) : part sp (notePoison pid poison s) = part sp s := by
  unfold notePoison
  split <;> simp [*]
@[simp] theorem presentReq_core (ep : Nat) (agent : Nat) (r : Req) (s : State) : coreView (presentReq ep agent r s).2 = coreView s := by
  unfold presentReq
  simp
@[simp] theorem presentReq_fuses (ep : Nat) (agent : Nat) (r : Req) (s : State) : fuseView (presentReq ep agent r s).2 = fuseView s := fuses_of_core (presentReq_core ep agent r s)
@[simp] theorem presentReq_memOk (ep : Nat) (agent : Nat) (r : Req) (s : State) : MemOk (presentReq ep agent r s).2 ↔ MemOk s := memOk_of_core (presentReq_core ep agent r s)
@[simp] theorem presentReq_part (ep : Nat) (agent : Nat) (r : Req) (s : State) {sp : StatePart} (g_braid : sp ≠ .braid) (g_eng : sp ≠ .eng) (g_events : sp ≠ .events) : part sp (presentReq ep agent r s).2 = part sp s := by
  unfold presentReq
  simp [*]
theorem takeCompletion_core {gid : Nat} {s t : State} {c : Completion} (h : takeCompletion gid s = some (c, t)) : coreView t = coreView s := by
  unfold takeCompletion at h
  split at h
  · cases h
  · cases h; rfl

theorem takeCompletion_part {gid : Nat} {s t : State} {c : Completion} (h : takeCompletion gid s = some (c, t)) {sp : StatePart} (g_braid : sp ≠ .braid) : part sp t = part sp s := by
  unfold takeCompletion at h
  split at h
  · cases h
  · cases h; simp [*]

@[simp] theorem inboxDrop_core (pid : Nat) (s : State) : coreView (inboxDrop pid s) = coreView s := by
  rfl
@[simp] theorem inboxDrop_fuses (pid : Nat) (s : State) : fuseView (inboxDrop pid s) = fuseView s := fuses_of_core (inboxDrop_core pid s)
@[simp] theorem inboxDrop_memOk (pid : Nat) (s : State) : MemOk (inboxDrop pid s) ↔ MemOk s := memOk_of_core (inboxDrop_core pid s)
@[simp] theorem inboxDrop_part (pid : Nat) (s : State) {sp : StatePart} (g_braid : sp ≠ .braid) : part sp (inboxDrop pid s) = part sp s := by
  cases sp <;> first | rfl | contradiction
@[simp] theorem restartInbox_core (ep : Nat) (s : State) : coreView (restartInbox ep s) = coreView s := by
  rfl
@[simp] theorem restartInbox_fuses (ep : Nat) (s : State) : fuseView (restartInbox ep s) = fuseView s := fuses_of_core (restartInbox_core ep s)
@[simp] theorem restartInbox_memOk (ep : Nat) (s : State) : MemOk (restartInbox ep s) ↔ MemOk s := memOk_of_core (restartInbox_core ep s)
@[simp] theorem restartInbox_part (ep : Nat) (s : State) {sp : StatePart} (g_braid : sp ≠ .braid) : part sp (restartInbox ep s) = part sp s := by
  cases sp <;> first | rfl | contradiction
@[simp] theorem respond_core (ep : Nat) (p : Packet) (deliveredAt : Nat) (fixed : Nat) (st : Status) (data : List Byte) (poison : List Nat) (sealedOk : Bool) (s : State) : coreView (respond ep p deliveredAt fixed st data poison sealedOk s) = coreView s := by
  unfold respond
  simp [core_ite]
@[simp] theorem respond_fuses (ep : Nat) (p : Packet) (deliveredAt : Nat) (fixed : Nat) (st : Status) (data : List Byte) (poison : List Nat) (sealedOk : Bool) (s : State) : fuseView (respond ep p deliveredAt fixed st data poison sealedOk s) = fuseView s := fuses_of_core (respond_core ep p deliveredAt fixed st data poison sealedOk s)
@[simp] theorem respond_memOk (ep : Nat) (p : Packet) (deliveredAt : Nat) (fixed : Nat) (st : Status) (data : List Byte) (poison : List Nat) (sealedOk : Bool) (s : State) : MemOk (respond ep p deliveredAt fixed st data poison sealedOk s) ↔ MemOk s := memOk_of_core (respond_core ep p deliveredAt fixed st data poison sealedOk s)
@[simp] theorem respond_part (ep : Nat) (p : Packet) (deliveredAt : Nat) (fixed : Nat) (st : Status) (data : List Byte) (poison : List Nat) (sealedOk : Bool) (s : State) {sp : StatePart} (g_braid : sp ≠ .braid) (g_events : sp ≠ .events) : part sp (respond ep p deliveredAt fixed st data poison sealedOk s) = part sp s := by
  unfold respond
  simp [part_ite, *]
@[simp] theorem respondInbox_core (d : Delivered) (fixed : Nat) (st : Status) (data : List Byte) (s : State) : coreView (respondInbox d fixed st data s) = coreView s := by
  unfold respondInbox
  simp
@[simp] theorem respondInbox_fuses (d : Delivered) (fixed : Nat) (st : Status) (data : List Byte) (s : State) : fuseView (respondInbox d fixed st data s) = fuseView s := fuses_of_core (respondInbox_core d fixed st data s)
@[simp] theorem respondInbox_memOk (d : Delivered) (fixed : Nat) (st : Status) (data : List Byte) (s : State) : MemOk (respondInbox d fixed st data s) ↔ MemOk s := memOk_of_core (respondInbox_core d fixed st data s)
@[simp] theorem respondInbox_part (d : Delivered) (fixed : Nat) (st : Status) (data : List Byte) (s : State) {sp : StatePart} (g_braid : sp ≠ .braid) (g_events : sp ≠ .events) : part sp (respondInbox d fixed st data s) = part sp s := by
  unfold respondInbox
  simp [*]
@[simp] theorem requestPresented_core (ep : Nat) (agent : Nat) (r : Req) (s : State) : coreView (requestPresented ep agent r s) = coreView s := by
  unfold requestPresented
  repeat' split
  all_goals simp [*]
@[simp] theorem requestPresented_fuses (ep : Nat) (agent : Nat) (r : Req) (s : State) : fuseView (requestPresented ep agent r s) = fuseView s := fuses_of_core (requestPresented_core ep agent r s)
@[simp] theorem requestPresented_memOk (ep : Nat) (agent : Nat) (r : Req) (s : State) : MemOk (requestPresented ep agent r s) ↔ MemOk s := memOk_of_core (requestPresented_core ep agent r s)
@[simp] theorem requestPresented_part (ep : Nat) (agent : Nat) (r : Req) (s : State) {sp : StatePart} (g_braid : sp ≠ .braid) (g_eng : sp ≠ .eng) (g_events : sp ≠ .events) : part sp (requestPresented ep agent r s) = part sp s := by
  unfold requestPresented
  repeat' split
  all_goals simp [*]
@[simp] theorem ungrant_core (p : Packet) (s : State) : coreView (ungrant p s) = coreView s := by
  unfold ungrant
  simp [core_ite]
@[simp] theorem ungrant_fuses (p : Packet) (s : State) : fuseView (ungrant p s) = fuseView s := fuses_of_core (ungrant_core p s)
@[simp] theorem ungrant_memOk (p : Packet) (s : State) : MemOk (ungrant p s) ↔ MemOk s := memOk_of_core (ungrant_core p s)
@[simp] theorem ungrant_part (p : Packet) (s : State) {sp : StatePart} (g_braid : sp ≠ .braid) (g_delta : sp ≠ .delta) : part sp (ungrant p s) = part sp s := by
  unfold ungrant
  simp [part_ite, *]
@[simp] theorem dropQueued_core (ep : Nat) (p : Packet) (s : State) : coreView (dropQueued ep p s) = coreView s := by
  unfold dropQueued
  simp
@[simp] theorem dropQueued_fuses (ep : Nat) (p : Packet) (s : State) : fuseView (dropQueued ep p s) = fuseView s := fuses_of_core (dropQueued_core ep p s)
@[simp] theorem dropQueued_memOk (ep : Nat) (p : Packet) (s : State) : MemOk (dropQueued ep p s) ↔ MemOk s := memOk_of_core (dropQueued_core ep p s)
@[simp] theorem dropQueued_part (ep : Nat) (p : Packet) (s : State) {sp : StatePart} (g_braid : sp ≠ .braid) (g_delta : sp ≠ .delta) : part sp (dropQueued ep p s) = part sp s := by
  unfold dropQueued
  simp [*]
@[simp] theorem refuseQueued_core (ep : Nat) (p : Packet) (st : Status) (s : State) : coreView (refuseQueued ep p st s) = coreView s := by
  unfold refuseQueued
  split <;> simp
@[simp] theorem refuseQueued_fuses (ep : Nat) (p : Packet) (st : Status) (s : State) : fuseView (refuseQueued ep p st s) = fuseView s := fuses_of_core (refuseQueued_core ep p st s)
@[simp] theorem refuseQueued_memOk (ep : Nat) (p : Packet) (st : Status) (s : State) : MemOk (refuseQueued ep p st s) ↔ MemOk s := memOk_of_core (refuseQueued_core ep p st s)
@[simp] theorem refuseQueued_part (ep : Nat) (p : Packet) (st : Status) (s : State) {sp : StatePart} (g_braid : sp ≠ .braid) (g_delta : sp ≠ .delta) (g_eng : sp ≠ .eng) (g_events : sp ≠ .events) : part sp (refuseQueued ep p st s) = part sp s := by
  unfold refuseQueued
  split <;> simp [*]
@[simp] theorem injectPacket_core (ep : Nat) (p : Packet) (s : State) : coreView (injectPacket ep p s) = coreView s := by
  unfold injectPacket
  dsimp only
  repeat' split
  all_goals simp [*]
@[simp] theorem injectPacket_fuses (ep : Nat) (p : Packet) (s : State) : fuseView (injectPacket ep p s) = fuseView s := fuses_of_core (injectPacket_core ep p s)
@[simp] theorem injectPacket_memOk (ep : Nat) (p : Packet) (s : State) : MemOk (injectPacket ep p s) ↔ MemOk s := memOk_of_core (injectPacket_core ep p s)
@[simp] theorem injectPacket_part (ep : Nat) (p : Packet) (s : State) {sp : StatePart} (g_braid : sp ≠ .braid) (g_delta : sp ≠ .delta) (g_eng : sp ≠ .eng) (g_events : sp ≠ .events) : part sp (injectPacket ep p s) = part sp s := by
  unfold injectPacket
  dsimp only
  repeat' split
  all_goals simp [*]
@[simp] theorem packetInject_core (ep : Nat) (pid : Nat) (s : State) : coreView (packetInject ep pid s) = coreView s := by
  unfold packetInject
  repeat' split
  all_goals simp [*]
@[simp] theorem packetInject_fuses (ep : Nat) (pid : Nat) (s : State) : fuseView (packetInject ep pid s) = fuseView s := fuses_of_core (packetInject_core ep pid s)
@[simp] theorem packetInject_memOk (ep : Nat) (pid : Nat) (s : State) : MemOk (packetInject ep pid s) ↔ MemOk s := memOk_of_core (packetInject_core ep pid s)
@[simp] theorem packetInject_part (ep : Nat) (pid : Nat) (s : State) {sp : StatePart} (g_braid : sp ≠ .braid) (g_delta : sp ≠ .delta) (g_eng : sp ≠ .eng) (g_events : sp ≠ .events) : part sp (packetInject ep pid s) = part sp s := by
  unfold packetInject
  repeat' split
  all_goals simp [*]
@[simp] theorem linkDownAt_core (r : Nat) (port : Nat) (s : State) : coreView (linkDownAt r port s) = coreView s := by
  rfl
@[simp] theorem linkDownAt_fuses (r : Nat) (port : Nat) (s : State) : fuseView (linkDownAt r port s) = fuseView s := fuses_of_core (linkDownAt_core r port s)
@[simp] theorem linkDownAt_memOk (r : Nat) (port : Nat) (s : State) : MemOk (linkDownAt r port s) ↔ MemOk s := memOk_of_core (linkDownAt_core r port s)
@[simp] theorem linkDownAt_part (r : Nat) (port : Nat) (s : State) {sp : StatePart} (g_braid : sp ≠ .braid) : part sp (linkDownAt r port s) = part sp s := by
  cases sp <;> first | rfl | contradiction
@[simp] theorem linkDown_core (r : Nat) (port : Nat) (s : State) : coreView (linkDown r port s) = coreView s := by
  unfold linkDown
  repeat' split
  all_goals simp [*]
@[simp] theorem linkDown_fuses (r : Nat) (port : Nat) (s : State) : fuseView (linkDown r port s) = fuseView s := fuses_of_core (linkDown_core r port s)
@[simp] theorem linkDown_memOk (r : Nat) (port : Nat) (s : State) : MemOk (linkDown r port s) ↔ MemOk s := memOk_of_core (linkDown_core r port s)
@[simp] theorem linkDown_part (r : Nat) (port : Nat) (s : State) {sp : StatePart} (g_braid : sp ≠ .braid) : part sp (linkDown r port s) = part sp s := by
  unfold linkDown
  repeat' split
  all_goals simp [*]
@[simp] theorem owe_core (r : Nat) (port : Nat) (vc : Nat) (s : State) : coreView (owe r port vc s) = coreView s := by
  rfl
@[simp] theorem owe_fuses (r : Nat) (port : Nat) (vc : Nat) (s : State) : fuseView (owe r port vc s) = fuseView s := fuses_of_core (owe_core r port vc s)
@[simp] theorem owe_memOk (r : Nat) (port : Nat) (vc : Nat) (s : State) : MemOk (owe r port vc s) ↔ MemOk s := memOk_of_core (owe_core r port vc s)
@[simp] theorem owe_part (r : Nat) (port : Nat) (vc : Nat) (s : State) {sp : StatePart} (g_braid : sp ≠ .braid) : part sp (owe r port vc s) = part sp s := by
  cases sp <;> first | rfl | contradiction
@[simp] theorem bufferFlit_core (r : Nat) (port : Nat) (f : Flit) (s : State) : coreView (bufferFlit r port f s) = coreView s := by
  rfl
@[simp] theorem bufferFlit_fuses (r : Nat) (port : Nat) (f : Flit) (s : State) : fuseView (bufferFlit r port f s) = fuseView s := fuses_of_core (bufferFlit_core r port f s)
@[simp] theorem bufferFlit_memOk (r : Nat) (port : Nat) (f : Flit) (s : State) : MemOk (bufferFlit r port f s) ↔ MemOk s := memOk_of_core (bufferFlit_core r port f s)
@[simp] theorem bufferFlit_part (r : Nat) (port : Nat) (f : Flit) (s : State) {sp : StatePart} (g_braid : sp ≠ .braid) : part sp (bufferFlit r port f s) = part sp s := by
  cases sp <;> first | rfl | contradiction
@[simp] theorem dropFlit_core (r : Nat) (port : Nat) (f : Flit) (s : State) : coreView (dropFlit r port f s) = coreView s := by
  rfl
@[simp] theorem dropFlit_fuses (r : Nat) (port : Nat) (f : Flit) (s : State) : fuseView (dropFlit r port f s) = fuseView s := fuses_of_core (dropFlit_core r port f s)
@[simp] theorem dropFlit_memOk (r : Nat) (port : Nat) (f : Flit) (s : State) : MemOk (dropFlit r port f s) ↔ MemOk s := memOk_of_core (dropFlit_core r port f s)
@[simp] theorem dropFlit_part (r : Nat) (port : Nat) (f : Flit) (s : State) {sp : StatePart} (g_braid : sp ≠ .braid) : part sp (dropFlit r port f s) = part sp s := by
  cases sp <;> first | rfl | contradiction
@[simp] theorem acceptFlit_core (r : Nat) (port : Nat) (f : Flit) (arrived : Nat) (parityError : Bool) (s : State) : coreView (acceptFlit r port f arrived parityError s) = coreView s := by
  unfold acceptFlit
  simp [core_ite]
@[simp] theorem acceptFlit_fuses (r : Nat) (port : Nat) (f : Flit) (arrived : Nat) (parityError : Bool) (s : State) : fuseView (acceptFlit r port f arrived parityError s) = fuseView s := fuses_of_core (acceptFlit_core r port f arrived parityError s)
@[simp] theorem acceptFlit_memOk (r : Nat) (port : Nat) (f : Flit) (arrived : Nat) (parityError : Bool) (s : State) : MemOk (acceptFlit r port f arrived parityError s) ↔ MemOk s := memOk_of_core (acceptFlit_core r port f arrived parityError s)
@[simp] theorem acceptFlit_part (r : Nat) (port : Nat) (f : Flit) (arrived : Nat) (parityError : Bool) (s : State) {sp : StatePart} (g_braid : sp ≠ .braid) (g_events : sp ≠ .events) : part sp (acceptFlit r port f arrived parityError s) = part sp s := by
  unfold acceptFlit
  simp [part_ite, *]
@[simp] theorem flitArrival_core (r : Nat) (port : Nat) (parityError : Bool) (s : State) : coreView (flitArrival r port parityError s) = coreView s := by
  unfold flitArrival
  split <;> simp
@[simp] theorem flitArrival_fuses (r : Nat) (port : Nat) (parityError : Bool) (s : State) : fuseView (flitArrival r port parityError s) = fuseView s := fuses_of_core (flitArrival_core r port parityError s)
@[simp] theorem flitArrival_memOk (r : Nat) (port : Nat) (parityError : Bool) (s : State) : MemOk (flitArrival r port parityError s) ↔ MemOk s := memOk_of_core (flitArrival_core r port parityError s)
@[simp] theorem flitArrival_part (r : Nat) (port : Nat) (parityError : Bool) (s : State) {sp : StatePart} (g_braid : sp ≠ .braid) (g_events : sp ≠ .events) : part sp (flitArrival r port parityError s) = part sp s := by
  unfold flitArrival
  split <;> simp [*]
@[simp] theorem routerPipelineStart_core (r : Nat) (s : State) : coreView (routerPipelineStart r s) = coreView s := by
  unfold routerPipelineStart
  repeat' split
  all_goals simp [*]
@[simp] theorem routerPipelineStart_fuses (r : Nat) (s : State) : fuseView (routerPipelineStart r s) = fuseView s := fuses_of_core (routerPipelineStart_core r s)
@[simp] theorem routerPipelineStart_memOk (r : Nat) (s : State) : MemOk (routerPipelineStart r s) ↔ MemOk s := memOk_of_core (routerPipelineStart_core r s)
@[simp] theorem routerPipelineStart_part (r : Nat) (s : State) {sp : StatePart} (g_braid : sp ≠ .braid) : part sp (routerPipelineStart r s) = part sp s := by
  unfold routerPipelineStart
  repeat' split
  all_goals simp [*]
@[simp] theorem routerSleep_core (r : Nat) (s : State) : coreView (routerSleep r s) = coreView s := by
  unfold routerSleep
  split <;> simp
@[simp] theorem routerSleep_fuses (r : Nat) (s : State) : fuseView (routerSleep r s) = fuseView s := fuses_of_core (routerSleep_core r s)
@[simp] theorem routerSleep_memOk (r : Nat) (s : State) : MemOk (routerSleep r s) ↔ MemOk s := memOk_of_core (routerSleep_core r s)
@[simp] theorem routerSleep_part (r : Nat) (s : State) {sp : StatePart} (g_braid : sp ≠ .braid) : part sp (routerSleep r s) = part sp s := by
  unfold routerSleep
  split <;> simp [*]
@[simp] theorem urgAgeing_core (r : Nat) (port : Nat) (vc : Nat) (pid : Nat) (s : State) : coreView (urgAgeing r port vc pid s) = coreView s := by
  rfl
@[simp] theorem urgAgeing_fuses (r : Nat) (port : Nat) (vc : Nat) (pid : Nat) (s : State) : fuseView (urgAgeing r port vc pid s) = fuseView s := fuses_of_core (urgAgeing_core r port vc pid s)
@[simp] theorem urgAgeing_memOk (r : Nat) (port : Nat) (vc : Nat) (pid : Nat) (s : State) : MemOk (urgAgeing r port vc pid s) ↔ MemOk s := memOk_of_core (urgAgeing_core r port vc pid s)
@[simp] theorem urgAgeing_part (r : Nat) (port : Nat) (vc : Nat) (pid : Nat) (s : State) {sp : StatePart} (g_braid : sp ≠ .braid) : part sp (urgAgeing r port vc pid s) = part sp s := by
  cases sp <;> first | rfl | contradiction
@[simp] theorem sendFlit_core (r : Nat) (out : Nat) (port : Nat) (vc : Nat) (f : Flit) (s : State) : coreView (sendFlit r out port vc f s) = coreView s := by
  unfold sendFlit
  repeat' split
  all_goals simp [*]
@[simp] theorem sendFlit_fuses (r : Nat) (out : Nat) (port : Nat) (vc : Nat) (f : Flit) (s : State) : fuseView (sendFlit r out port vc f s) = fuseView s := fuses_of_core (sendFlit_core r out port vc f s)
@[simp] theorem sendFlit_memOk (r : Nat) (out : Nat) (port : Nat) (vc : Nat) (f : Flit) (s : State) : MemOk (sendFlit r out port vc f s) ↔ MemOk s := memOk_of_core (sendFlit_core r out port vc f s)
@[simp] theorem sendFlit_part (r : Nat) (out : Nat) (port : Nat) (vc : Nat) (f : Flit) (s : State) {sp : StatePart} (g_braid : sp ≠ .braid) : part sp (sendFlit r out port vc f s) = part sp s := by
  unfold sendFlit
  repeat' split
  all_goals simp [*]
@[simp] theorem dropBuffered_core (r : Nat) (port : Nat) (f : Flit) (s : State) : coreView (dropBuffered r port f s) = coreView s := by
  unfold dropBuffered
  simp
@[simp] theorem dropBuffered_fuses (r : Nat) (port : Nat) (f : Flit) (s : State) : fuseView (dropBuffered r port f s) = fuseView s := fuses_of_core (dropBuffered_core r port f s)
@[simp] theorem dropBuffered_memOk (r : Nat) (port : Nat) (f : Flit) (s : State) : MemOk (dropBuffered r port f s) ↔ MemOk s := memOk_of_core (dropBuffered_core r port f s)
@[simp] theorem dropBuffered_part (r : Nat) (port : Nat) (f : Flit) (s : State) {sp : StatePart} (g_braid : sp ≠ .braid) (g_events : sp ≠ .events) : part sp (dropBuffered r port f s) = part sp s := by
  unfold dropBuffered
  simp [*]
@[simp] theorem outputArbitration_core (r : Nat) (out : Nat) (s : State) : coreView (outputArbitration r out s) = coreView s := by
  unfold outputArbitration
  dsimp only
  repeat' split
  all_goals simp [*]
@[simp] theorem outputArbitration_fuses (r : Nat) (out : Nat) (s : State) : fuseView (outputArbitration r out s) = fuseView s := fuses_of_core (outputArbitration_core r out s)
@[simp] theorem outputArbitration_memOk (r : Nat) (out : Nat) (s : State) : MemOk (outputArbitration r out s) ↔ MemOk s := memOk_of_core (outputArbitration_core r out s)
@[simp] theorem outputArbitration_part (r : Nat) (out : Nat) (s : State) {sp : StatePart} (g_braid : sp ≠ .braid) (g_events : sp ≠ .events) : part sp (outputArbitration r out s) = part sp s := by
  unfold outputArbitration
  dsimp only
  repeat' split
  all_goals simp [*]
@[simp] theorem creditReturn_core (r : Nat) (port : Nat) (vc : Nat) (s : State) : coreView (creditReturn r port vc s) = coreView s := by
  unfold creditReturn
  repeat' split
  all_goals simp [*]
@[simp] theorem creditReturn_fuses (r : Nat) (port : Nat) (vc : Nat) (s : State) : fuseView (creditReturn r port vc s) = fuseView s := fuses_of_core (creditReturn_core r port vc s)
@[simp] theorem creditReturn_memOk (r : Nat) (port : Nat) (vc : Nat) (s : State) : MemOk (creditReturn r port vc s) ↔ MemOk s := memOk_of_core (creditReturn_core r port vc s)
@[simp] theorem creditReturn_part (r : Nat) (port : Nat) (vc : Nat) (s : State) {sp : StatePart} (g_braid : sp ≠ .braid) : part sp (creditReturn r port vc s) = part sp s := by
  unfold creditReturn
  repeat' split
  all_goals simp [*]
@[simp] theorem clearNi_core (ep : Nat) (pid : Nat) (s : State) : coreView (clearNi ep pid s) = coreView s := by
  rfl
@[simp] theorem clearNi_fuses (ep : Nat) (pid : Nat) (s : State) : fuseView (clearNi ep pid s) = fuseView s := fuses_of_core (clearNi_core ep pid s)
@[simp] theorem clearNi_memOk (ep : Nat) (pid : Nat) (s : State) : MemOk (clearNi ep pid s) ↔ MemOk s := memOk_of_core (clearNi_core ep pid s)
@[simp] theorem clearNi_part (ep : Nat) (pid : Nat) (s : State) {sp : StatePart} (g_braid : sp ≠ .braid) : part sp (clearNi ep pid s) = part sp s := by
  cases sp <;> first | rfl | contradiction
@[simp] theorem niParity_core (ep : Nat) (parity : Option Nat) (p : Packet) (s : State) : coreView (niParity ep parity p s).2 = coreView s := by
  unfold niParity
  split <;> simp
@[simp] theorem niParity_fuses (ep : Nat) (parity : Option Nat) (p : Packet) (s : State) : fuseView (niParity ep parity p s).2 = fuseView s := fuses_of_core (niParity_core ep parity p s)
@[simp] theorem niParity_memOk (ep : Nat) (parity : Option Nat) (p : Packet) (s : State) : MemOk (niParity ep parity p s).2 ↔ MemOk s := memOk_of_core (niParity_core ep parity p s)
theorem niParity_core' {ep : Nat} {parity : Option Nat} {p : Packet} {s : State} {o : Option Packet} {t : State} (h : niParity ep parity p s = (o, t)) : coreView t = coreView s := by
  have hc := niParity_core ep parity p s
  rw [h] at hc
  exact hc

@[simp] theorem niParity_part (ep : Nat) (parity : Option Nat) (p : Packet) (s : State) {sp : StatePart} (g_braid : sp ≠ .braid) (g_events : sp ≠ .events) : part sp (niParity ep parity p s).2 = part sp s := by
  unfold niParity
  split <;> simp [*]
theorem niParity_part' {ep : Nat} {parity : Option Nat} {p : Packet} {s : State} {o : Option Packet} {t : State} (h : niParity ep parity p s = (o, t)) {sp : StatePart} (g_braid : sp ≠ .braid) (g_events : sp ≠ .events) : part sp t = part sp s := by
  have hc := niParity_part ep parity p s g_braid g_events
  rw [h] at hc
  exact hc

@[simp] theorem probeAnswer_core (ep : Nat) (pid : Nat) (parity : Option Nat) (s : State) : coreView (probeAnswer ep pid parity s) = coreView s := by
  unfold probeAnswer
  repeat' split
  all_goals first | (simp [*]; done) | (rename_i h; simp [*, niParity_core' h]; done) | (rename_i h _; simp [*, niParity_core' h]; done) | (rename_i h _ _; simp [*, niParity_core' h]; done) | (rename_i h _ _ _; simp [*, niParity_core' h]; done) | (rename_i h _ _ _ _; simp [*, niParity_core' h]; done) | (rename_i h _ _ _ _ _; simp [*, niParity_core' h]; done) | (rename_i h _ _ _ _ _ _; simp [*, niParity_core' h]; done) | (rename_i h _ _ _ _ _ _ _; simp [*, niParity_core' h]; done) | (rename_i h _ _ _ _ _ _ _ _; simp [*, niParity_core' h]; done) | rfl
@[simp] theorem probeAnswer_fuses (ep : Nat) (pid : Nat) (parity : Option Nat) (s : State) : fuseView (probeAnswer ep pid parity s) = fuseView s := fuses_of_core (probeAnswer_core ep pid parity s)
@[simp] theorem probeAnswer_memOk (ep : Nat) (pid : Nat) (parity : Option Nat) (s : State) : MemOk (probeAnswer ep pid parity s) ↔ MemOk s := memOk_of_core (probeAnswer_core ep pid parity s)
@[simp] theorem probeAnswer_part (ep : Nat) (pid : Nat) (parity : Option Nat) (s : State) {sp : StatePart} (g_braid : sp ≠ .braid) (g_events : sp ≠ .events) : part sp (probeAnswer ep pid parity s) = part sp s := by
  unfold probeAnswer
  repeat' split
  all_goals first | (simp [*]; done) | (rename_i h; simp [*, niParity_part' h]; done) | (rename_i h _; simp [*, niParity_part' h]; done) | (rename_i h _ _; simp [*, niParity_part' h]; done) | (rename_i h _ _ _; simp [*, niParity_part' h]; done) | (rename_i h _ _ _ _; simp [*, niParity_part' h]; done) | (rename_i h _ _ _ _ _; simp [*, niParity_part' h]; done) | (rename_i h _ _ _ _ _ _; simp [*, niParity_part' h]; done) | (rename_i h _ _ _ _ _ _ _; simp [*, niParity_part' h]; done) | (rename_i h _ _ _ _ _ _ _ _; simp [*, niParity_part' h]; done) | (simp [*]; cases sp <;> first | rfl | contradiction) | (cases sp <;> first | rfl | contradiction)
@[simp] theorem acceptResponse_core (ep : Nat) (p : Packet) (came : Nat) (s : State) : coreView (acceptResponse ep p came s) = coreView s := by
  unfold acceptResponse
  repeat' split
  all_goals simp [*]
@[simp] theorem acceptResponse_fuses (ep : Nat) (p : Packet) (came : Nat) (s : State) : fuseView (acceptResponse ep p came s) = fuseView s := fuses_of_core (acceptResponse_core ep p came s)
@[simp] theorem acceptResponse_memOk (ep : Nat) (p : Packet) (came : Nat) (s : State) : MemOk (acceptResponse ep p came s) ↔ MemOk s := memOk_of_core (acceptResponse_core ep p came s)
@[simp] theorem acceptResponse_part (ep : Nat) (p : Packet) (came : Nat) (s : State) {sp : StatePart} (g_braid : sp ≠ .braid) (g_eng : sp ≠ .eng) (g_events : sp ≠ .events) : part sp (acceptResponse ep p came s) = part sp s := by
  unfold acceptResponse
  repeat' split
  all_goals simp [*]
@[simp] theorem responseArrival_core (ep : Nat) (pid : Nat) (parity : Option Nat) (s : State) : coreView (responseArrival ep pid parity s) = coreView s := by
  unfold responseArrival
  repeat' split
  all_goals first | (simp [*]; done) | (rename_i h; simp [*, niParity_core' h]; done) | (rename_i h _; simp [*, niParity_core' h]; done) | (rename_i h _ _; simp [*, niParity_core' h]; done) | (rename_i h _ _ _; simp [*, niParity_core' h]; done) | (rename_i h _ _ _ _; simp [*, niParity_core' h]; done) | (rename_i h _ _ _ _ _; simp [*, niParity_core' h]; done) | (rename_i h _ _ _ _ _ _; simp [*, niParity_core' h]; done) | (rename_i h _ _ _ _ _ _ _; simp [*, niParity_core' h]; done) | (rename_i h _ _ _ _ _ _ _ _; simp [*, niParity_core' h]; done) | rfl
@[simp] theorem responseArrival_fuses (ep : Nat) (pid : Nat) (parity : Option Nat) (s : State) : fuseView (responseArrival ep pid parity s) = fuseView s := fuses_of_core (responseArrival_core ep pid parity s)
@[simp] theorem responseArrival_memOk (ep : Nat) (pid : Nat) (parity : Option Nat) (s : State) : MemOk (responseArrival ep pid parity s) ↔ MemOk s := memOk_of_core (responseArrival_core ep pid parity s)
@[simp] theorem responseArrival_part (ep : Nat) (pid : Nat) (parity : Option Nat) (s : State) {sp : StatePart} (g_braid : sp ≠ .braid) (g_eng : sp ≠ .eng) (g_events : sp ≠ .events) : part sp (responseArrival ep pid parity s) = part sp s := by
  unfold responseArrival
  repeat' split
  all_goals first | (simp [*]; done) | (rename_i h; simp [*, niParity_part' h]; done) | (rename_i h _; simp [*, niParity_part' h]; done) | (rename_i h _ _; simp [*, niParity_part' h]; done) | (rename_i h _ _ _; simp [*, niParity_part' h]; done) | (rename_i h _ _ _ _; simp [*, niParity_part' h]; done) | (rename_i h _ _ _ _ _; simp [*, niParity_part' h]; done) | (rename_i h _ _ _ _ _ _; simp [*, niParity_part' h]; done) | (rename_i h _ _ _ _ _ _ _; simp [*, niParity_part' h]; done) | (rename_i h _ _ _ _ _ _ _ _; simp [*, niParity_part' h]; done) | (simp [*]; cases sp <;> first | rfl | contradiction) | (cases sp <;> first | rfl | contradiction)
@[simp] theorem orbExpiry_core (ep : Nat) (index : Nat) (s : State) : coreView (orbExpiry ep index s) = coreView s := by
  unfold orbExpiry
  repeat' split
  all_goals simp [*]
@[simp] theorem orbExpiry_fuses (ep : Nat) (index : Nat) (s : State) : fuseView (orbExpiry ep index s) = fuseView s := fuses_of_core (orbExpiry_core ep index s)
@[simp] theorem orbExpiry_memOk (ep : Nat) (index : Nat) (s : State) : MemOk (orbExpiry ep index s) ↔ MemOk s := memOk_of_core (orbExpiry_core ep index s)
@[simp] theorem orbExpiry_part (ep : Nat) (index : Nat) (s : State) {sp : StatePart} (g_braid : sp ≠ .braid) (g_eng : sp ≠ .eng) (g_events : sp ≠ .events) : part sp (orbExpiry ep index s) = part sp s := by
  unfold orbExpiry
  repeat' split
  all_goals simp [*]
@[simp] theorem holdDst_core (ep : Nat) (dst : Nat) (old : Nat) (sent : List (Nat × Nat × Nat)) (s : State) : coreView (holdDst ep dst old sent s) = coreView s := by
  unfold holdDst
  simp
@[simp] theorem holdDst_fuses (ep : Nat) (dst : Nat) (old : Nat) (sent : List (Nat × Nat × Nat)) (s : State) : fuseView (holdDst ep dst old sent s) = fuseView s := fuses_of_core (holdDst_core ep dst old sent s)
@[simp] theorem holdDst_memOk (ep : Nat) (dst : Nat) (old : Nat) (sent : List (Nat × Nat × Nat)) (s : State) : MemOk (holdDst ep dst old sent s) ↔ MemOk s := memOk_of_core (holdDst_core ep dst old sent s)
@[simp] theorem holdDst_part (ep : Nat) (dst : Nat) (old : Nat) (sent : List (Nat × Nat × Nat)) (s : State) {sp : StatePart} (g_braid : sp ≠ .braid) : part sp (holdDst ep dst old sent s) = part sp s := by
  unfold holdDst
  simp [*]
@[simp] theorem swapRoutes_core (ep : Nat) (s : State) : coreView (swapRoutes ep s) = coreView s := by
  unfold swapRoutes
  simp
@[simp] theorem swapRoutes_fuses (ep : Nat) (s : State) : fuseView (swapRoutes ep s) = fuseView s := fuses_of_core (swapRoutes_core ep s)
@[simp] theorem swapRoutes_memOk (ep : Nat) (s : State) : MemOk (swapRoutes ep s) ↔ MemOk s := memOk_of_core (swapRoutes_core ep s)
@[simp] theorem swapRoutes_part (ep : Nat) (s : State) {sp : StatePart} (g_braid : sp ≠ .braid) : part sp (swapRoutes ep s) = part sp s := by
  unfold swapRoutes
  simp [*]
@[simp] theorem swapsDone_core (s : State) : coreView (swapsDone s) = coreView s := by
  unfold swapsDone
  split <;> simp
@[simp] theorem swapsDone_fuses (s : State) : fuseView (swapsDone s) = fuseView s := fuses_of_core (swapsDone_core s)
@[simp] theorem swapsDone_memOk (s : State) : MemOk (swapsDone s) ↔ MemOk s := memOk_of_core (swapsDone_core s)
@[simp] theorem swapsDone_part (s : State) {sp : StatePart} (g_braid : sp ≠ .braid) (g_ferry : sp ≠ .ferry) : part sp (swapsDone s) = part sp s := by
  unfold swapsDone
  split <;> simp [*]
@[simp] theorem niTableSwap_core (ep : Nat) (s : State) : coreView (niTableSwap ep s) = coreView s := by
  unfold niTableSwap
  split <;> simp
@[simp] theorem niTableSwap_fuses (ep : Nat) (s : State) : fuseView (niTableSwap ep s) = fuseView s := fuses_of_core (niTableSwap_core ep s)
@[simp] theorem niTableSwap_memOk (ep : Nat) (s : State) : MemOk (niTableSwap ep s) ↔ MemOk s := memOk_of_core (niTableSwap_core ep s)
@[simp] theorem niTableSwap_part (ep : Nat) (s : State) {sp : StatePart} (g_braid : sp ≠ .braid) (g_ferry : sp ≠ .ferry) (g_delta : sp ≠ .delta) (g_dram : sp ≠ .dram) : part sp (niTableSwap ep s) = part sp s := by
  unfold niTableSwap
  split <;> simp [*]
@[simp] theorem fenceBitmapUpdate_core (s : State) : coreView (fenceBitmapUpdate s) = coreView s := by
  unfold fenceBitmapUpdate
  simp
@[simp] theorem fenceBitmapUpdate_fuses (s : State) : fuseView (fenceBitmapUpdate s) = fuseView s := fuses_of_core (fenceBitmapUpdate_core s)
@[simp] theorem fenceBitmapUpdate_memOk (s : State) : MemOk (fenceBitmapUpdate s) ↔ MemOk s := memOk_of_core (fenceBitmapUpdate_core s)
@[simp] theorem fenceBitmapUpdate_part (s : State) {sp : StatePart} (g_braid : sp ≠ .braid) : part sp (fenceBitmapUpdate s) = part sp s := by
  unfold fenceBitmapUpdate
  simp [*]
@[simp] theorem yieldSlot_core (ep : Nat) (s : State) : coreView (yieldSlot ep s) = coreView s := by
  unfold yieldSlot
  simp [core_ite]
@[simp] theorem yieldSlot_fuses (ep : Nat) (s : State) : fuseView (yieldSlot ep s) = fuseView s := fuses_of_core (yieldSlot_core ep s)
@[simp] theorem yieldSlot_memOk (ep : Nat) (s : State) : MemOk (yieldSlot ep s) ↔ MemOk s := memOk_of_core (yieldSlot_core ep s)
@[simp] theorem yieldSlot_part (ep : Nat) (s : State) {sp : StatePart} (g_braid : sp ≠ .braid) : part sp (yieldSlot ep s) = part sp s := by
  unfold yieldSlot
  simp [part_ite, *]
@[simp] theorem sluiceInject_core (f : Flow) (r : Released) (s : State) : coreView (sluiceInject f r s) = coreView s := by
  unfold sluiceInject
  simp
@[simp] theorem sluiceInject_fuses (f : Flow) (r : Released) (s : State) : fuseView (sluiceInject f r s) = fuseView s := fuses_of_core (sluiceInject_core f r s)
@[simp] theorem sluiceInject_memOk (f : Flow) (r : Released) (s : State) : MemOk (sluiceInject f r s) ↔ MemOk s := memOk_of_core (sluiceInject_core f r s)
@[simp] theorem sluiceInject_part (f : Flow) (r : Released) (s : State) {sp : StatePart} (g_braid : sp ≠ .braid) (g_sluice : sp ≠ .sluice) : part sp (sluiceInject f r s) = part sp s := by
  unfold sluiceInject
  simp [*]
@[simp] theorem ungrant?_core (pkt : Option Packet) (s : State) : coreView (ungrant? pkt s) = coreView s := by
  unfold ungrant?
  split <;> simp
@[simp] theorem ungrant?_fuses (pkt : Option Packet) (s : State) : fuseView (ungrant? pkt s) = fuseView s := fuses_of_core (ungrant?_core pkt s)
@[simp] theorem ungrant?_memOk (pkt : Option Packet) (s : State) : MemOk (ungrant? pkt s) ↔ MemOk s := memOk_of_core (ungrant?_core pkt s)
@[simp] theorem ungrant?_part (pkt : Option Packet) (s : State) {sp : StatePart} (g_braid : sp ≠ .braid) (g_delta : sp ≠ .delta) : part sp (ungrant? pkt s) = part sp s := by
  unfold ungrant?
  split <;> simp [*]
@[simp] theorem presentFlit_core (ep : Nat) (flow : Nat) (addr : Nat) (data : List Byte) (poison : Bool) (pkt : Option Packet) (s : State) : coreView (presentFlit ep flow addr data poison pkt s) = coreView s := by
  unfold presentFlit
  dsimp only
  repeat' split
  all_goals simp [*]
@[simp] theorem presentFlit_fuses (ep : Nat) (flow : Nat) (addr : Nat) (data : List Byte) (poison : Bool) (pkt : Option Packet) (s : State) : fuseView (presentFlit ep flow addr data poison pkt s) = fuseView s := fuses_of_core (presentFlit_core ep flow addr data poison pkt s)
@[simp] theorem presentFlit_memOk (ep : Nat) (flow : Nat) (addr : Nat) (data : List Byte) (poison : Bool) (pkt : Option Packet) (s : State) : MemOk (presentFlit ep flow addr data poison pkt s) ↔ MemOk s := memOk_of_core (presentFlit_core ep flow addr data poison pkt s)
@[simp] theorem presentFlit_part (ep : Nat) (flow : Nat) (addr : Nat) (data : List Byte) (poison : Bool) (pkt : Option Packet) (s : State) {sp : StatePart} (g_braid : sp ≠ .braid) (g_sluice : sp ≠ .sluice) (g_delta : sp ≠ .delta) (g_events : sp ≠ .events) : part sp (presentFlit ep flow addr data poison pkt s) = part sp s := by
  unfold presentFlit
  dsimp only
  repeat' split
  all_goals simp [*]
@[simp] theorem vc2FlitPresent_core (ep : Nat) (flow : Nat) (addr : Nat) (data : List Byte) (poison : Bool) (s : State) : coreView (vc2FlitPresent ep flow addr data poison s) = coreView s := by
  unfold vc2FlitPresent
  split <;> simp
@[simp] theorem vc2FlitPresent_fuses (ep : Nat) (flow : Nat) (addr : Nat) (data : List Byte) (poison : Bool) (s : State) : fuseView (vc2FlitPresent ep flow addr data poison s) = fuseView s := fuses_of_core (vc2FlitPresent_core ep flow addr data poison s)
@[simp] theorem vc2FlitPresent_memOk (ep : Nat) (flow : Nat) (addr : Nat) (data : List Byte) (poison : Bool) (s : State) : MemOk (vc2FlitPresent ep flow addr data poison s) ↔ MemOk s := memOk_of_core (vc2FlitPresent_core ep flow addr data poison s)
@[simp] theorem vc2FlitPresent_part (ep : Nat) (flow : Nat) (addr : Nat) (data : List Byte) (poison : Bool) (s : State) {sp : StatePart} (g_braid : sp ≠ .braid) (g_sluice : sp ≠ .sluice) (g_delta : sp ≠ .delta) (g_events : sp ≠ .events) : part sp (vc2FlitPresent ep flow addr data poison s) = part sp s := by
  unfold vc2FlitPresent
  split <;> simp [*]
@[simp] theorem vc2Inject_core (ep : Nat) (flow : Nat) (s : State) : coreView (vc2Inject ep flow s) = coreView s := by
  unfold vc2Inject
  repeat' split
  all_goals simp [*]
@[simp] theorem vc2Inject_fuses (ep : Nat) (flow : Nat) (s : State) : fuseView (vc2Inject ep flow s) = fuseView s := fuses_of_core (vc2Inject_core ep flow s)
@[simp] theorem vc2Inject_memOk (ep : Nat) (flow : Nat) (s : State) : MemOk (vc2Inject ep flow s) ↔ MemOk s := memOk_of_core (vc2Inject_core ep flow s)
@[simp] theorem vc2Inject_part (ep : Nat) (flow : Nat) (s : State) {sp : StatePart} (g_braid : sp ≠ .braid) (g_sluice : sp ≠ .sluice) (g_delta : sp ≠ .delta) (g_events : sp ≠ .events) : part sp (vc2Inject ep flow s) = part sp s := by
  unfold vc2Inject
  repeat' split
  all_goals simp [*]
@[simp] theorem wakeRouters_core (cal : List Flow) (s : State) : coreView (wakeRouters cal s) = coreView s := by
  rfl
@[simp] theorem wakeRouters_fuses (cal : List Flow) (s : State) : fuseView (wakeRouters cal s) = fuseView s := fuses_of_core (wakeRouters_core cal s)
@[simp] theorem wakeRouters_memOk (cal : List Flow) (s : State) : MemOk (wakeRouters cal s) ↔ MemOk s := memOk_of_core (wakeRouters_core cal s)
@[simp] theorem wakeRouters_part (cal : List Flow) (s : State) {sp : StatePart} (g_braid : sp ≠ .braid) : part sp (wakeRouters cal s) = part sp s := by
  cases sp <;> first | rfl | contradiction
@[simp] theorem calendarSwap_core (s : State) : coreView (calendarSwap s) = coreView s := by
  unfold calendarSwap
  repeat' split
  all_goals simp [*]
@[simp] theorem calendarSwap_fuses (s : State) : fuseView (calendarSwap s) = fuseView s := fuses_of_core (calendarSwap_core s)
@[simp] theorem calendarSwap_memOk (s : State) : MemOk (calendarSwap s) ↔ MemOk s := memOk_of_core (calendarSwap_core s)
@[simp] theorem calendarSwap_part (s : State) {sp : StatePart} (g_braid : sp ≠ .braid) (g_sluice : sp ≠ .sluice) (g_ferry : sp ≠ .ferry) (g_delta : sp ≠ .delta) (g_events : sp ≠ .events) : part sp (calendarSwap s) = part sp s := by
  unfold calendarSwap
  repeat' split
  all_goals simp [*]

end Sys2Proof.Machine
end

