-- ==== Sys2Proof/Laws/FrameEngine.lean ====
section
/-! SUPPORT. Frame lemmas of the engines' operations and bundles: which parts of the state each function leaves alone, which leave the fuses and the bytes of memory alone, and that the others keep memory in its canonical form. -/

set_option linter.all false

namespace Sys2Proof.Machine
open Sys2Proof

@[simp] theorem ev488_core (k : Nat) (cause : Nat) (sev : Nat) (im : Bool) (a : Nat) (s : State) : coreView (ev488 k cause sev im a s) = coreView s := by
  unfold ev488
  split <;> simp
@[simp] theorem ev488_fuses (k : Nat) (cause : Nat) (sev : Nat) (im : Bool) (a : Nat) (s : State) : fuseView (ev488 k cause sev im a s) = fuseView s := fuses_of_core (ev488_core k cause sev im a s)
@[simp] theorem ev488_memOk (k : Nat) (cause : Nat) (sev : Nat) (im : Bool) (a : Nat) (s : State) : MemOk (ev488 k cause sev im a s) ↔ MemOk s := memOk_of_core (ev488_core k cause sev im a s)
@[simp] theorem ev488_part (k : Nat) (cause : Nat) (sev : Nat) (im : Bool) (a : Nat) (s : State) {sp : StatePart} (g_braid : sp ≠ .braid) (g_events : sp ≠ .events) : part sp (ev488 k cause sev im a s) = part sp s := by
  unfold ev488
  split <;> simp [*]
@[simp] theorem memReadEvents_core (k : Nat) (im : Bool) (rs : List (Nat × WordRead)) (s : State) : coreView (memReadEvents k im rs s) = coreView s := by
  unfold memReadEvents
  refine (forAll_core _ _ _ (fun t x => ?_))
  split <;> simp
@[simp] theorem memReadEvents_fuses (k : Nat) (im : Bool) (rs : List (Nat × WordRead)) (s : State) : fuseView (memReadEvents k im rs s) = fuseView s := fuses_of_core (memReadEvents_core k im rs s)
@[simp] theorem memReadEvents_memOk (k : Nat) (im : Bool) (rs : List (Nat × WordRead)) (s : State) : MemOk (memReadEvents k im rs s) ↔ MemOk s := memOk_of_core (memReadEvents_core k im rs s)
@[simp] theorem memReadEvents_part (k : Nat) (im : Bool) (rs : List (Nat × WordRead)) (s : State) {sp : StatePart} (g_braid : sp ≠ .braid) (g_events : sp ≠ .events) : part sp (memReadEvents k im rs s) = part sp s := by
  unfold memReadEvents
  refine (forAll_part _ _ _ (fun t x => ?_))
  split <;> simp [*]
@[simp] theorem noteA_core (k : Nat) (word : Nat) (s : State) : coreView (noteA k word s) = coreView s := by
  rfl
@[simp] theorem noteA_fuses (k : Nat) (word : Nat) (s : State) : fuseView (noteA k word s) = fuseView s := fuses_of_core (noteA_core k word s)
@[simp] theorem noteA_memOk (k : Nat) (word : Nat) (s : State) : MemOk (noteA k word s) ↔ MemOk s := memOk_of_core (noteA_core k word s)
@[simp] theorem noteA_part (k : Nat) (word : Nat) (s : State) {sp : StatePart} (g_eng : sp ≠ .eng) : part sp (noteA k word s) = part sp s := by
  cases sp <;> first | rfl | contradiction
@[simp] theorem noteB_core (k : Nat) (ws : List Nat) (s : State) : coreView (noteB k ws s) = coreView s := by
  rfl
@[simp] theorem noteB_fuses (k : Nat) (ws : List Nat) (s : State) : fuseView (noteB k ws s) = fuseView s := fuses_of_core (noteB_core k ws s)
@[simp] theorem noteB_memOk (k : Nat) (ws : List Nat) (s : State) : MemOk (noteB k ws s) ↔ MemOk s := memOk_of_core (noteB_core k ws s)
@[simp] theorem noteB_part (k : Nat) (ws : List Nat) (s : State) {sp : StatePart} (g_eng : sp ≠ .eng) : part sp (noteB k ws s) = part sp s := by
  cases sp <;> first | rfl | contradiction
@[simp] theorem portALoad_core (k : Nat) (a : Nat) (w : Nat) (s : State) : coreView (portALoad k a w s).2.2 = coreView s := by
  unfold portALoad
  dsimp only
  repeat' split
  all_goals simp [*]
@[simp] theorem portALoad_fuses (k : Nat) (a : Nat) (w : Nat) (s : State) : fuseView (portALoad k a w s).2.2 = fuseView s := fuses_of_core (portALoad_core k a w s)
@[simp] theorem portALoad_memOk (k : Nat) (a : Nat) (w : Nat) (s : State) : MemOk (portALoad k a w s).2.2 ↔ MemOk s := memOk_of_core (portALoad_core k a w s)
@[simp] theorem portALoad_part (k : Nat) (a : Nat) (w : Nat) (s : State) {sp : StatePart} (g_freeCtr : sp ≠ .freeCtr) (g_braid : sp ≠ .braid) (g_mems : sp ≠ .mems) (g_events : sp ≠ .events) : part sp (portALoad k a w s).2.2 = part sp s := by
  unfold portALoad
  dsimp only
  repeat' split
  all_goals simp [*]
@[simp] theorem portAStore_fuses (k : Nat) (a : Nat) (w : Nat) (v : Nat) (s : State) : fuseView (portAStore k a w v s) = fuseView s := by
  unfold portAStore
  dsimp only
  repeat' split
  all_goals simp [*]
@[simp] theorem portAStore_memOk (k : Nat) (a : Nat) (w : Nat) (v : Nat) (s : State) (h : MemOk s) : MemOk (portAStore k a w v s) := by
  unfold portAStore
  dsimp only
  repeat' split
  all_goals simp [*]
@[simp] theorem portAStore_part (k : Nat) (a : Nat) (w : Nat) (v : Nat) (s : State) {sp : StatePart} (g_freeCtr : sp ≠ .freeCtr) (g_braid : sp ≠ .braid) (g_eng : sp ≠ .eng) (g_mems : sp ≠ .mems) (g_events : sp ≠ .events) : part sp (portAStore k a w v s) = part sp s := by
  unfold portAStore
  dsimp only
  repeat' split
  all_goals simp [*]
@[simp] theorem putDecision_fuses (k : Nat) (d : Nat × Nat × BitVec 64) (s : State) : fuseView (putDecision k d s) = fuseView s := by
  unfold putDecision
  simp
@[simp] theorem putDecision_memOk (k : Nat) (d : Nat × Nat × BitVec 64) (s : State) (h : MemOk s) : MemOk (putDecision k d s) := by
  unfold putDecision
  simp [*]
@[simp] theorem putDecision_part (k : Nat) (d : Nat × Nat × BitVec 64) (s : State) {sp : StatePart} (g_eng : sp ≠ .eng) (g_mems : sp ≠ .mems) : part sp (putDecision k d s) = part sp s := by
  unfold putDecision
  simp [*]
@[simp] theorem writeDecisions_fuses (k : Nat) (s : State) : fuseView (writeDecisions k s) = fuseView s := by
  unfold writeDecisions
  simp
@[simp] theorem writeDecisions_memOk (k : Nat) (s : State) (h : MemOk s) : MemOk (writeDecisions k s) := by
  unfold writeDecisions
  rw [modEng_memOk]
  exact forAll_memOk _ _ _ (fun t x ht => putDecision_memOk _ _ _ ht) h
@[simp] theorem writeDecisions_part (k : Nat) (s : State) {sp : StatePart} (g_eng : sp ≠ .eng) (g_mems : sp ≠ .mems) : part sp (writeDecisions k s) = part sp s := by
  unfold writeDecisions
  simp [*]
@[simp] theorem startXfer_core (k : Nat) (x : Xfer) (s : State) : coreView (startXfer k x s) = coreView s := by
  unfold startXfer
  split <;> simp
@[simp] theorem startXfer_fuses (k : Nat) (x : Xfer) (s : State) : fuseView (startXfer k x s) = fuseView s := fuses_of_core (startXfer_core k x s)
@[simp] theorem startXfer_memOk (k : Nat) (x : Xfer) (s : State) : MemOk (startXfer k x s) ↔ MemOk s := memOk_of_core (startXfer_core k x s)
@[simp] theorem startXfer_part (k : Nat) (x : Xfer) (s : State) {sp : StatePart} (g_freeCtr : sp ≠ .freeCtr) (g_braid : sp ≠ .braid) (g_eng : sp ≠ .eng) (g_mems : sp ≠ .mems) (g_events : sp ≠ .events) : part sp (startXfer k x s) = part sp s := by
  unfold startXfer
  split <;> simp [*]
@[simp] theorem startMover_core (k : Nat) (desc : Nat) (s : State) : coreView (startMover k desc s) = coreView s := by
  rfl
@[simp] theorem startMover_fuses (k : Nat) (desc : Nat) (s : State) : fuseView (startMover k desc s) = fuseView s := fuses_of_core (startMover_core k desc s)
@[simp] theorem startMover_memOk (k : Nat) (desc : Nat) (s : State) : MemOk (startMover k desc s) ↔ MemOk s := memOk_of_core (startMover_core k desc s)
@[simp] theorem startMover_part (k : Nat) (desc : Nat) (s : State) {sp : StatePart} (g_eng : sp ≠ .eng) : part sp (startMover k desc s) = part sp s := by
  cases sp <;> first | rfl | contradiction
@[simp] theorem engEv_core (k : Nat) (cause : Nat) (sev : Nat) (s : State) : coreView (engEv k cause sev s) = coreView s := by
  unfold engEv
  simp
@[simp] theorem engEv_fuses (k : Nat) (cause : Nat) (sev : Nat) (s : State) : fuseView (engEv k cause sev s) = fuseView s := fuses_of_core (engEv_core k cause sev s)
@[simp] theorem engEv_memOk (k : Nat) (cause : Nat) (sev : Nat) (s : State) : MemOk (engEv k cause sev s) ↔ MemOk s := memOk_of_core (engEv_core k cause sev s)
@[simp] theorem engEv_part (k : Nat) (cause : Nat) (sev : Nat) (s : State) {sp : StatePart} (g_braid : sp ≠ .braid) (g_events : sp ≠ .events) : part sp (engEv k cause sev s) = part sp s := by
  unfold engEv
  simp [*]
@[simp] theorem startPllMe_core (s : State) : coreView (startPllMe s) = coreView s := by
  unfold startPllMe
  split <;> simp
@[simp] theorem startPllMe_fuses (s : State) : fuseView (startPllMe s) = fuseView s := fuses_of_core (startPllMe_core s)
@[simp] theorem startPllMe_memOk (s : State) : MemOk (startPllMe s) ↔ MemOk s := memOk_of_core (startPllMe_core s)
@[simp] theorem startPllMe_part (s : State) {sp : StatePart} (g_eng : sp ≠ .eng) : part sp (startPllMe s) = part sp s := by
  unfold startPllMe
  split <;> simp [*]
@[simp] theorem wakeQuad_core (q : Nat) (s : State) : coreView (wakeQuad q s) = coreView s := by
  unfold wakeQuad
  split <;> simp
@[simp] theorem wakeQuad_fuses (q : Nat) (s : State) : fuseView (wakeQuad q s) = fuseView s := fuses_of_core (wakeQuad_core q s)
@[simp] theorem wakeQuad_memOk (q : Nat) (s : State) : MemOk (wakeQuad q s) ↔ MemOk s := memOk_of_core (wakeQuad_core q s)
@[simp] theorem wakeQuad_part (q : Nat) (s : State) {sp : StatePart} (g_eng : sp ≠ .eng) : part sp (wakeQuad q s) = part sp s := by
  unfold wakeQuad
  split <;> simp [*]
@[simp] theorem raiseLine_core (k : Nat) (line : Nat) (s : State) : coreView (raiseLine k line s) = coreView s := by
  unfold raiseLine
  split <;> simp
@[simp] theorem raiseLine_fuses (k : Nat) (line : Nat) (s : State) : fuseView (raiseLine k line s) = fuseView s := fuses_of_core (raiseLine_core k line s)
@[simp] theorem raiseLine_memOk (k : Nat) (line : Nat) (s : State) : MemOk (raiseLine k line s) ↔ MemOk s := memOk_of_core (raiseLine_core k line s)
@[simp] theorem raiseLine_part (k : Nat) (line : Nat) (s : State) {sp : StatePart} (g_eng : sp ≠ .eng) : part sp (raiseLine k line s) = part sp s := by
  unfold raiseLine
  split <;> simp [*]
@[simp] theorem localY_fuses (k : Nat) (w : Nat) (s : State) : fuseView (localY k w s) = fuseView s := by
  unfold localY
  repeat' split
  all_goals simp [*]
@[simp] theorem localY_memOk (k : Nat) (w : Nat) (s : State) (h : MemOk s) : MemOk (localY k w s) := by
  unfold localY
  repeat' split
  all_goals simp [*]
@[simp] theorem localY_part (k : Nat) (w : Nat) (s : State) {sp : StatePart} (g_freeCtr : sp ≠ .freeCtr) (g_braid : sp ≠ .braid) (g_eng : sp ≠ .eng) (g_mems : sp ≠ .mems) (g_events : sp ≠ .events) : part sp (localY k w s) = part sp s := by
  unfold localY
  repeat' split
  all_goals simp [*]
@[simp] theorem remoteY_core (k : Nat) (w : Nat) (s : State) : coreView (remoteY k w s) = coreView s := by
  unfold remoteY
  simp [core_ite]
@[simp] theorem remoteY_fuses (k : Nat) (w : Nat) (s : State) : fuseView (remoteY k w s) = fuseView s := fuses_of_core (remoteY_core k w s)
@[simp] theorem remoteY_memOk (k : Nat) (w : Nat) (s : State) : MemOk (remoteY k w s) ↔ MemOk s := memOk_of_core (remoteY_core k w s)
@[simp] theorem remoteY_part (k : Nat) (w : Nat) (s : State) {sp : StatePart} (g_freeCtr : sp ≠ .freeCtr) (g_braid : sp ≠ .braid) (g_eng : sp ≠ .eng) (g_mems : sp ≠ .mems) (g_events : sp ≠ .events) : part sp (remoteY k w s) = part sp s := by
  unfold remoteY
  simp [part_ite, *]
@[simp] theorem fetchBundle_core (k : Nat) (s : State) : coreView (fetchBundle k s).2 = coreView s := by
  unfold fetchBundle
  dsimp only
  repeat' split
  all_goals simp [*]
@[simp] theorem fetchBundle_fuses (k : Nat) (s : State) : fuseView (fetchBundle k s).2 = fuseView s := fuses_of_core (fetchBundle_core k s)
@[simp] theorem fetchBundle_memOk (k : Nat) (s : State) : MemOk (fetchBundle k s).2 ↔ MemOk s := memOk_of_core (fetchBundle_core k s)
@[simp] theorem fetchBundle_part (k : Nat) (s : State) {sp : StatePart} (g_freeCtr : sp ≠ .freeCtr) (g_braid : sp ≠ .braid) (g_mems : sp ≠ .mems) (g_events : sp ≠ .events) : part sp (fetchBundle k s).2 = part sp s := by
  unfold fetchBundle
  dsimp only
  repeat' split
  all_goals simp [*]
@[simp] theorem halt_fuses (k : Nat) (st : EngState) (s : State) : fuseView (halt k st s) = fuseView s := by
  unfold halt
  simp
@[simp] theorem halt_memOk (k : Nat) (st : EngState) (s : State) (h : MemOk s) : MemOk (halt k st s) := by
  unfold halt
  simp [*]
@[simp] theorem halt_part (k : Nat) (st : EngState) (s : State) {sp : StatePart} (g_eng : sp ≠ .eng) (g_mems : sp ≠ .mems) : part sp (halt k st s) = part sp s := by
  unfold halt
  simp [*]
@[simp] theorem setFault_core (k : Nat) (cause : Nat) (slot : Nat) (addr : Nat) (s : State) : coreView (setFault k cause slot addr s) = coreView s := by
  rfl
@[simp] theorem setFault_fuses (k : Nat) (cause : Nat) (slot : Nat) (addr : Nat) (s : State) : fuseView (setFault k cause slot addr s) = fuseView s := fuses_of_core (setFault_core k cause slot addr s)
@[simp] theorem setFault_memOk (k : Nat) (cause : Nat) (slot : Nat) (addr : Nat) (s : State) : MemOk (setFault k cause slot addr s) ↔ MemOk s := memOk_of_core (setFault_core k cause slot addr s)
@[simp] theorem setFault_part (k : Nat) (cause : Nat) (slot : Nat) (addr : Nat) (s : State) {sp : StatePart} (g_eng : sp ≠ .eng) : part sp (setFault k cause slot addr s) = part sp s := by
  cases sp <;> first | rfl | contradiction
@[simp] theorem afterX_fuses (k : Nat) (w : Nat) (e : Engine) (s : State) : fuseView (afterX k w e s) = fuseView s := by
  unfold afterX
  simp [fuses_ite]
@[simp] theorem afterX_memOk (k : Nat) (w : Nat) (e : Engine) (s : State) (h : MemOk s) : MemOk (afterX k w e s) := by
  unfold afterX
  dsimp only
  repeat' split
  all_goals simp [*]
@[simp] theorem afterX_part (k : Nat) (w : Nat) (e : Engine) (s : State) {sp : StatePart} (g_braid : sp ≠ .braid) (g_eng : sp ≠ .eng) (g_mems : sp ≠ .mems) (g_events : sp ≠ .events) : part sp (afterX k w e s) = part sp s := by
  unfold afterX
  simp [part_ite, *]
@[simp] theorem issueBundle_fuses (k : Nat) (x : Nat) (y : Nat) (z : Nat) (s : State) : fuseView (issueBundle k x y z s) = fuseView s := by
  unfold issueBundle
  simp
@[simp] theorem issueBundle_memOk (k : Nat) (x : Nat) (y : Nat) (z : Nat) (s : State) (h : MemOk s) : MemOk (issueBundle k x y z s) := by
  unfold issueBundle
  simp [*]
@[simp] theorem issueBundle_part (k : Nat) (x : Nat) (y : Nat) (z : Nat) (s : State) {sp : StatePart} (g_freeCtr : sp ≠ .freeCtr) (g_braid : sp ≠ .braid) (g_eng : sp ≠ .eng) (g_mems : sp ≠ .mems) (g_events : sp ≠ .events) : part sp (issueBundle k x y z s) = part sp s := by
  unfold issueBundle
  simp [*]
@[simp] theorem bundleIssue_fuses (k : Nat) (s : State) : fuseView (bundleIssue k s) = fuseView s := by
  unfold bundleIssue
  split
  · dsimp only
    split
    · simp
    · have hc := fuses_of_core (fetchBundle_core k s)
      split
      · rename_i h
        rw [h] at hc
        simpa using hc
      · rename_i h
        rw [h] at hc
        dsimp only at hc
        repeat' split
        all_goals simpa using hc
  · rfl
@[simp] theorem bundleIssue_memOk (k : Nat) (s : State) (h : MemOk s) : MemOk (bundleIssue k s) := by
  unfold bundleIssue
  split
  · dsimp only
    split
    · exact (modEng_memOk ..).mpr (halt_memOk _ _ _ h)
    · have hc := (memOk_of_core (fetchBundle_core k s)).mpr h
      split
      · rename_i he
        rw [he] at hc
        simpa using hc
      · rename_i he
        rw [he] at hc
        dsimp only at hc
        repeat' split
        all_goals first | (simpa using hc) | exact issueBundle_memOk _ _ _ _ _ hc
  · exact h
@[simp] theorem bundleIssue_part (k : Nat) (s : State) {sp : StatePart} (g_freeCtr : sp ≠ .freeCtr) (g_braid : sp ≠ .braid) (g_eng : sp ≠ .eng) (g_mems : sp ≠ .mems) (g_events : sp ≠ .events) : part sp (bundleIssue k s) = part sp s := by
  unfold bundleIssue
  split
  · dsimp only
    split
    · simp [*]
    · have hc : part sp (fetchBundle k s).2 = part sp s := by simp [*]
      split
      · rename_i h
        rw [h] at hc
        dsimp only at hc
        rw [← hc]
        simp [*]
      · rename_i h
        rw [h] at hc
        dsimp only at hc
        rw [← hc]
        repeat' split
        all_goals simp [*]
  · rfl
@[simp] theorem operationResult_core (k : Nat) (s : State) : coreView (operationResult k s) = coreView s := by
  unfold operationResult
  simp [core_ite]
@[simp] theorem operationResult_fuses (k : Nat) (s : State) : fuseView (operationResult k s) = fuseView s := fuses_of_core (operationResult_core k s)
@[simp] theorem operationResult_memOk (k : Nat) (s : State) : MemOk (operationResult k s) ↔ MemOk s := memOk_of_core (operationResult_core k s)
@[simp] theorem operationResult_part (k : Nat) (s : State) {sp : StatePart} (g_eng : sp ≠ .eng) : part sp (operationResult k s) = part sp s := by
  unfold operationResult
  simp [part_ite, *]
@[simp] theorem decisionWrite_fuses (k : Nat) (s : State) : fuseView (decisionWrite k s) = fuseView s := by
  unfold decisionWrite
  dsimp only
  repeat' split
  all_goals simp [*]
@[simp] theorem decisionWrite_memOk (k : Nat) (s : State) (h : MemOk s) : MemOk (decisionWrite k s) := by
  unfold decisionWrite
  dsimp only
  repeat' split
  all_goals simp [*]
@[simp] theorem decisionWrite_part (k : Nat) (s : State) {sp : StatePart} (g_eng : sp ≠ .eng) (g_mems : sp ≠ .mems) : part sp (decisionWrite k s) = part sp s := by
  unfold decisionWrite
  dsimp only
  repeat' split
  all_goals simp [*]
@[simp] theorem rldCompletion_core (k : Nat) (s : State) : coreView (rldCompletion k s) = coreView s := by
  unfold rldCompletion
  dsimp only
  repeat' split
  all_goals first | (simp [*]; done) | (rename_i h; simp [*, takeCompletion_core h]; done) | (rename_i h _; simp [*, takeCompletion_core h]; done) | (rename_i h _ _; simp [*, takeCompletion_core h]; done) | (rename_i h _ _ _; simp [*, takeCompletion_core h]; done) | (rename_i h _ _ _ _; simp [*, takeCompletion_core h]; done) | rfl
@[simp] theorem rldCompletion_fuses (k : Nat) (s : State) : fuseView (rldCompletion k s) = fuseView s := fuses_of_core (rldCompletion_core k s)
@[simp] theorem rldCompletion_memOk (k : Nat) (s : State) : MemOk (rldCompletion k s) ↔ MemOk s := memOk_of_core (rldCompletion_core k s)
@[simp] theorem rldCompletion_part (k : Nat) (s : State) {sp : StatePart} (g_braid : sp ≠ .braid) (g_eng : sp ≠ .eng) : part sp (rldCompletion k s) = part sp s := by
  unfold rldCompletion
  dsimp only
  repeat' split
  all_goals first | (simp [*]; done) | (rename_i h; simp [*, takeCompletion_part h]; done) | (rename_i h _; simp [*, takeCompletion_part h]; done) | (rename_i h _ _; simp [*, takeCompletion_part h]; done) | (rename_i h _ _ _; simp [*, takeCompletion_part h]; done) | (rename_i h _ _ _ _; simp [*, takeCompletion_part h]; done) | (simp [*]; cases sp <;> first | rfl | contradiction) | (cases sp <;> first | rfl | contradiction)
@[simp] theorem storeParts_fuses (k : Nat) (localAddr : Nat) (c : Completion) (s : State) : fuseView (storeParts k localAddr c s) = fuseView s := by
  unfold storeParts
  simp [fuses_ite]
@[simp] theorem storeParts_memOk (k : Nat) (localAddr : Nat) (c : Completion) (s : State) (h : MemOk s) : MemOk (storeParts k localAddr c s) := by
  unfold storeParts
  refine forAll_memOk _ _ _ (fun t x ht => ?_) h
  split
  · exact writeWords_memOk _ _ _ _ ht
  · exact ht
@[simp] theorem storeParts_part (k : Nat) (localAddr : Nat) (c : Completion) (s : State) {sp : StatePart} (g_eng : sp ≠ .eng) (g_mems : sp ≠ .mems) : part sp (storeParts k localAddr c s) = part sp s := by
  unfold storeParts
  simp [part_ite, *]
@[simp] theorem endTicketFreeze_core (k : Nat) (ticket : Nat) (s : State) : coreView (endTicketFreeze k ticket s) = coreView s := by
  unfold endTicketFreeze
  dsimp only
  repeat' split
  all_goals simp [*]
@[simp] theorem endTicketFreeze_fuses (k : Nat) (ticket : Nat) (s : State) : fuseView (endTicketFreeze k ticket s) = fuseView s := fuses_of_core (endTicketFreeze_core k ticket s)
@[simp] theorem endTicketFreeze_memOk (k : Nat) (ticket : Nat) (s : State) : MemOk (endTicketFreeze k ticket s) ↔ MemOk s := memOk_of_core (endTicketFreeze_core k ticket s)
@[simp] theorem endTicketFreeze_part (k : Nat) (ticket : Nat) (s : State) {sp : StatePart} (g_freeCtr : sp ≠ .freeCtr) (g_braid : sp ≠ .braid) (g_eng : sp ≠ .eng) (g_mems : sp ≠ .mems) (g_events : sp ≠ .events) : part sp (endTicketFreeze k ticket s) = part sp s := by
  unfold endTicketFreeze
  dsimp only
  repeat' split
  all_goals simp [*]
@[simp] theorem ticketCompletion_fuses (k : Nat) (ticket : Nat) (s : State) : fuseView (ticketCompletion k ticket s) = fuseView s := by
  unfold ticketCompletion
  dsimp only
  repeat' split
  all_goals first | (simp; done) | (rename_i h; simp [fuses_of_core (takeCompletion_core h)]; done) | (rename_i h _; simp [fuses_of_core (takeCompletion_core h)]; done)
@[simp] theorem ticketCompletion_memOk (k : Nat) (ticket : Nat) (s : State) (h : MemOk s) : MemOk (ticketCompletion k ticket s) := by
  unfold ticketCompletion
  dsimp only
  repeat' split
  all_goals first | exact h | (rename_i he; simp [(memOk_of_core (takeCompletion_core he)).mpr h]; done) | (rename_i he _; simp [(memOk_of_core (takeCompletion_core he)).mpr h]; done)
@[simp] theorem ticketCompletion_part (k : Nat) (ticket : Nat) (s : State) {sp : StatePart} (g_freeCtr : sp ≠ .freeCtr) (g_braid : sp ≠ .braid) (g_eng : sp ≠ .eng) (g_mems : sp ≠ .mems) (g_events : sp ≠ .events) : part sp (ticketCompletion k ticket s) = part sp s := by
  unfold ticketCompletion
  dsimp only
  repeat' split
  all_goals first | (simp [*]; done) | (rename_i h; simp [*, takeCompletion_part h]; done) | (rename_i h _; simp [*, takeCompletion_part h]; done) | (rename_i h _ _; simp [*, takeCompletion_part h]; done) | (rename_i h _ _ _; simp [*, takeCompletion_part h]; done) | (rename_i h _ _ _ _; simp [*, takeCompletion_part h]; done) | (simp [*]; cases sp <;> first | rfl | contradiction) | (cases sp <;> first | rfl | contradiction)
@[simp] theorem interruptInputRise_core (k : Nat) (line : Nat) (s : State) : coreView (interruptInputRise k line s) = coreView s := by
  unfold interruptInputRise
  split <;> simp
@[simp] theorem interruptInputRise_fuses (k : Nat) (line : Nat) (s : State) : fuseView (interruptInputRise k line s) = fuseView s := fuses_of_core (interruptInputRise_core k line s)
@[simp] theorem interruptInputRise_memOk (k : Nat) (line : Nat) (s : State) : MemOk (interruptInputRise k line s) ↔ MemOk s := memOk_of_core (interruptInputRise_core k line s)
@[simp] theorem interruptInputRise_part (k : Nat) (line : Nat) (s : State) {sp : StatePart} (g_eng : sp ≠ .eng) : part sp (interruptInputRise k line s) = part sp s := by
  unfold interruptInputRise
  split <;> simp [*]
@[simp] theorem interruptEntry_fuses (k : Nat) (s : State) : fuseView (interruptEntry k s) = fuseView s := by
  unfold interruptEntry
  simp [fuses_ite]
@[simp] theorem interruptEntry_memOk (k : Nat) (s : State) (h : MemOk s) : MemOk (interruptEntry k s) := by
  unfold interruptEntry
  dsimp only
  repeat' split
  all_goals simp [*]
@[simp] theorem interruptEntry_part (k : Nat) (s : State) {sp : StatePart} (g_eng : sp ≠ .eng) (g_mems : sp ≠ .mems) : part sp (interruptEntry k s) = part sp s := by
  unfold interruptEntry
  simp [part_ite, *]
@[simp] theorem exceptionEntry_fuses (k : Nat) (s : State) : fuseView (exceptionEntry k s) = fuseView s := by
  unfold exceptionEntry
  dsimp only
  repeat' split
  all_goals simp [*]
@[simp] theorem exceptionEntry_memOk (k : Nat) (s : State) (h : MemOk s) : MemOk (exceptionEntry k s) := by
  unfold exceptionEntry
  dsimp only
  repeat' split
  all_goals simp [*]
@[simp] theorem exceptionEntry_part (k : Nat) (s : State) {sp : StatePart} (g_braid : sp ≠ .braid) (g_eng : sp ≠ .eng) (g_mems : sp ≠ .mems) (g_events : sp ≠ .events) : part sp (exceptionEntry k s) = part sp s := by
  unfold exceptionEntry
  dsimp only
  repeat' split
  all_goals simp [*]

end Sys2Proof.Machine
end

