-- ==== Sys2Proof/Laws/FrameFerry.lean ====
section
/-! SUPPORT. Frame lemmas of delivery, the events, the Ferry and the host: which parts of the state each function leaves alone, which leave the fuses and the bytes of memory alone, and that the others keep memory in its canonical form. -/

set_option linter.all false

namespace Sys2Proof.Machine
open Sys2Proof

@[simp] theorem afterWrites_core (pid : Nat) (s : State) : coreView (afterWrites pid s) = coreView s := by
  unfold afterWrites
  simp
@[simp] theorem afterWrites_fuses (pid : Nat) (s : State) : fuseView (afterWrites pid s) = fuseView s := fuses_of_core (afterWrites_core pid s)
@[simp] theorem afterWrites_memOk (pid : Nat) (s : State) : MemOk (afterWrites pid s) ↔ MemOk s := memOk_of_core (afterWrites_core pid s)
@[simp] theorem afterWrites_part (pid : Nat) (s : State) {sp : StatePart} (g_ferry : sp ≠ .ferry) : part sp (afterWrites pid s) = part sp s := by
  unfold afterWrites
  simp [*]
@[simp] theorem ferryDenied_core (p : Packet) (s : State) : coreView (ferryDenied p s) = coreView s := by
  unfold ferryDenied
  simp
@[simp] theorem ferryDenied_fuses (p : Packet) (s : State) : fuseView (ferryDenied p s) = fuseView s := fuses_of_core (ferryDenied_core p s)
@[simp] theorem ferryDenied_memOk (p : Packet) (s : State) : MemOk (ferryDenied p s) ↔ MemOk s := memOk_of_core (ferryDenied_core p s)
@[simp] theorem ferryDenied_part (p : Packet) (s : State) {sp : StatePart} (g_braid : sp ≠ .braid) (g_events : sp ≠ .events) : part sp (ferryDenied p s) = part sp s := by
  unfold ferryDenied
  simp [*]
@[simp] theorem intoInbox_core (ep : Nat) (p : Packet) (s : State) : coreView (intoInbox ep p s) = coreView s := by
  rfl
@[simp] theorem intoInbox_fuses (ep : Nat) (p : Packet) (s : State) : fuseView (intoInbox ep p s) = fuseView s := fuses_of_core (intoInbox_core ep p s)
@[simp] theorem intoInbox_memOk (ep : Nat) (p : Packet) (s : State) : MemOk (intoInbox ep p s) ↔ MemOk s := memOk_of_core (intoInbox_core ep p s)
@[simp] theorem intoInbox_part (ep : Nat) (p : Packet) (s : State) {sp : StatePart} (g_braid : sp ≠ .braid) : part sp (intoInbox ep p s) = part sp s := by
  cases sp <;> first | rfl | contradiction
@[simp] theorem answerNow_core (ep : Nat) (p : Packet) (t : Nat) (st : Status) (data : List Byte) (s : State) : coreView (answerNow ep p t st data s) = coreView s := by
  unfold answerNow
  simp
@[simp] theorem answerNow_fuses (ep : Nat) (p : Packet) (t : Nat) (st : Status) (data : List Byte) (s : State) : fuseView (answerNow ep p t st data s) = fuseView s := fuses_of_core (answerNow_core ep p t st data s)
@[simp] theorem answerNow_memOk (ep : Nat) (p : Packet) (t : Nat) (st : Status) (data : List Byte) (s : State) : MemOk (answerNow ep p t st data s) ↔ MemOk s := memOk_of_core (answerNow_core ep p t st data s)
@[simp] theorem answerNow_part (ep : Nat) (p : Packet) (t : Nat) (st : Status) (data : List Byte) (s : State) {sp : StatePart} (g_braid : sp ≠ .braid) (g_events : sp ≠ .events) : part sp (answerNow ep p t st data s) = part sp s := by
  unfold answerNow
  simp [*]
@[simp] theorem deliverFerry_core (p : Packet) (o : Nat) (s : State) : coreView (deliverFerry p o s) = coreView s := by
  unfold deliverFerry
  simp [core_ite]
@[simp] theorem deliverFerry_fuses (p : Packet) (o : Nat) (s : State) : fuseView (deliverFerry p o s) = fuseView s := fuses_of_core (deliverFerry_core p o s)
@[simp] theorem deliverFerry_memOk (p : Packet) (o : Nat) (s : State) : MemOk (deliverFerry p o s) ↔ MemOk s := memOk_of_core (deliverFerry_core p o s)
@[simp] theorem deliverFerry_part (p : Packet) (o : Nat) (s : State) {sp : StatePart} (g_braid : sp ≠ .braid) (g_events : sp ≠ .events) : part sp (deliverFerry p o s) = part sp s := by
  unfold deliverFerry
  simp [part_ite, *]
@[simp] theorem overRill_core (p : Packet) (s : State) : coreView (overRill p s) = coreView s := by
  rfl
@[simp] theorem overRill_fuses (p : Packet) (s : State) : fuseView (overRill p s) = fuseView s := fuses_of_core (overRill_core p s)
@[simp] theorem overRill_memOk (p : Packet) (s : State) : MemOk (overRill p s) ↔ MemOk s := memOk_of_core (overRill_core p s)
@[simp] theorem overRill_part (p : Packet) (s : State) {sp : StatePart} (g_braid : sp ≠ .braid) (g_rill : sp ≠ .rill) : part sp (overRill p s) = part sp s := by
  cases sp <;> first | rfl | contradiction
@[simp] theorem deliverReg_core (ep : Nat) (p : Packet) (o : Nat) (s : State) : coreView (deliverReg ep p o s) = coreView s := by
  unfold deliverReg
  repeat' split
  all_goals first | (simp [*]; done) | (simp; rfl)
@[simp] theorem deliverReg_fuses (ep : Nat) (p : Packet) (o : Nat) (s : State) : fuseView (deliverReg ep p o s) = fuseView s := fuses_of_core (deliverReg_core ep p o s)
@[simp] theorem deliverReg_memOk (ep : Nat) (p : Packet) (o : Nat) (s : State) : MemOk (deliverReg ep p o s) ↔ MemOk s := memOk_of_core (deliverReg_core ep p o s)
@[simp] theorem deliverReg_part (ep : Nat) (p : Packet) (o : Nat) (s : State) {sp : StatePart} (g_braid : sp ≠ .braid) (g_events : sp ≠ .events) (g_rill : sp ≠ .rill) : part sp (deliverReg ep p o s) = part sp s := by
  unfold deliverReg
  repeat' split
  all_goals first | (simp [*]; done) | (simp [*]; cases sp <;> first | rfl | contradiction) | (cases sp <;> first | rfl | contradiction)
@[simp] theorem protectRefuse_core (ep : Nat) (range : Nat) (p : Packet) (s : State) : coreView (protectRefuse ep range p s) = coreView s := by
  unfold protectRefuse
  simp
@[simp] theorem protectRefuse_fuses (ep : Nat) (range : Nat) (p : Packet) (s : State) : fuseView (protectRefuse ep range p s) = fuseView s := fuses_of_core (protectRefuse_core ep range p s)
@[simp] theorem protectRefuse_memOk (ep : Nat) (range : Nat) (p : Packet) (s : State) : MemOk (protectRefuse ep range p s) ↔ MemOk s := memOk_of_core (protectRefuse_core ep range p s)
@[simp] theorem protectRefuse_part (ep : Nat) (range : Nat) (p : Packet) (s : State) {sp : StatePart} (g_braid : sp ≠ .braid) (g_events : sp ≠ .events) : part sp (protectRefuse ep range p s) = part sp s := by
  unfold protectRefuse
  simp [*]
@[simp] theorem holdVc2_core (ep : Nat) (p : Packet) (s : State) : coreView (holdVc2 ep p s) = coreView s := by
  unfold holdVc2
  split <;> simp
@[simp] theorem holdVc2_fuses (ep : Nat) (p : Packet) (s : State) : fuseView (holdVc2 ep p s) = fuseView s := fuses_of_core (holdVc2_core ep p s)
@[simp] theorem holdVc2_memOk (ep : Nat) (p : Packet) (s : State) : MemOk (holdVc2 ep p s) ↔ MemOk s := memOk_of_core (holdVc2_core ep p s)
@[simp] theorem holdVc2_part (ep : Nat) (p : Packet) (s : State) {sp : StatePart} (g_braid : sp ≠ .braid) (g_events : sp ≠ .events) : part sp (holdVc2 ep p s) = part sp s := by
  unfold holdVc2
  split <;> simp [*]
@[simp] theorem takeVc2_core (s : State) : coreView (takeVc2 s) = coreView s := by
  unfold takeVc2
  simp
@[simp] theorem takeVc2_fuses (s : State) : fuseView (takeVc2 s) = fuseView s := fuses_of_core (takeVc2_core s)
@[simp] theorem takeVc2_memOk (s : State) : MemOk (takeVc2 s) ↔ MemOk s := memOk_of_core (takeVc2_core s)
@[simp] theorem takeVc2_part (s : State) {sp : StatePart} (g_braid : sp ≠ .braid) : part sp (takeVc2 s) = part sp s := by
  unfold takeVc2
  simp [*]
@[simp] theorem deliverReq_core (ep : Nat) (p : Packet) (s : State) : coreView (deliverReq ep p s) = coreView s := by
  unfold deliverReq
  dsimp only
  repeat' split
  all_goals simp [*]
@[simp] theorem deliverReq_fuses (ep : Nat) (p : Packet) (s : State) : fuseView (deliverReq ep p s) = fuseView s := fuses_of_core (deliverReq_core ep p s)
@[simp] theorem deliverReq_memOk (ep : Nat) (p : Packet) (s : State) : MemOk (deliverReq ep p s) ↔ MemOk s := memOk_of_core (deliverReq_core ep p s)
@[simp] theorem deliverReq_part (ep : Nat) (p : Packet) (s : State) {sp : StatePart} (g_braid : sp ≠ .braid) (g_events : sp ≠ .events) (g_rill : sp ≠ .rill) : part sp (deliverReq ep p s) = part sp s := by
  unfold deliverReq
  dsimp only
  repeat' split
  all_goals simp [*]
@[simp] theorem farFail_core (ni : Nat) (cause : Nat) (port : Nat) (p : Packet) (s : State) : coreView (farFail ni cause port p s) = coreView s := by
  unfold farFail
  simp [core_ite]
@[simp] theorem farFail_fuses (ni : Nat) (cause : Nat) (port : Nat) (p : Packet) (s : State) : fuseView (farFail ni cause port p s) = fuseView s := fuses_of_core (farFail_core ni cause port p s)
@[simp] theorem farFail_memOk (ni : Nat) (cause : Nat) (port : Nat) (p : Packet) (s : State) : MemOk (farFail ni cause port p s) ↔ MemOk s := memOk_of_core (farFail_core ni cause port p s)
@[simp] theorem farFail_part (ni : Nat) (cause : Nat) (port : Nat) (p : Packet) (s : State) {sp : StatePart} (g_braid : sp ≠ .braid) (g_delta : sp ≠ .delta) (g_events : sp ≠ .events) : part sp (farFail ni cause port p s) = part sp s := by
  unfold farFail
  simp [part_ite, *]
@[simp] theorem exitAccept_core (ni : Nat) (p : Packet) (s : State) : coreView (exitAccept ni p s) = coreView s := by
  unfold exitAccept
  simp [core_ite]
@[simp] theorem exitAccept_fuses (ni : Nat) (p : Packet) (s : State) : fuseView (exitAccept ni p s) = fuseView s := fuses_of_core (exitAccept_core ni p s)
@[simp] theorem exitAccept_memOk (ni : Nat) (p : Packet) (s : State) : MemOk (exitAccept ni p s) ↔ MemOk s := memOk_of_core (exitAccept_core ni p s)
@[simp] theorem exitAccept_part (ni : Nat) (p : Packet) (s : State) {sp : StatePart} (g_braid : sp ≠ .braid) (g_delta : sp ≠ .delta) (g_events : sp ≠ .events) : part sp (exitAccept ni p s) = part sp s := by
  unfold exitAccept
  simp [part_ite, *]
@[simp] theorem requestDelivery_core (ep : Nat) (pid : Nat) (parity : Option Nat) (s : State) : coreView (requestDelivery ep pid parity s) = coreView s := by
  unfold requestDelivery
  dsimp only
  repeat' split
  all_goals first | (simp [*]; done) | (rename_i h; simp [*, niParity_core' h]; done) | (rename_i h _; simp [*, niParity_core' h]; done) | (rename_i h _ _; simp [*, niParity_core' h]; done) | (rename_i h _ _ _; simp [*, niParity_core' h]; done) | (rename_i h _ _ _ _; simp [*, niParity_core' h]; done) | (rename_i h _ _ _ _ _; simp [*, niParity_core' h]; done) | (rename_i h _ _ _ _ _ _; simp [*, niParity_core' h]; done) | (rename_i h _ _ _ _ _ _ _; simp [*, niParity_core' h]; done) | (rename_i h _ _ _ _ _ _ _ _; simp [*, niParity_core' h]; done) | rfl
@[simp] theorem requestDelivery_fuses (ep : Nat) (pid : Nat) (parity : Option Nat) (s : State) : fuseView (requestDelivery ep pid parity s) = fuseView s := fuses_of_core (requestDelivery_core ep pid parity s)
@[simp] theorem requestDelivery_memOk (ep : Nat) (pid : Nat) (parity : Option Nat) (s : State) : MemOk (requestDelivery ep pid parity s) ↔ MemOk s := memOk_of_core (requestDelivery_core ep pid parity s)
@[simp] theorem requestDelivery_part (ep : Nat) (pid : Nat) (parity : Option Nat) (s : State) {sp : StatePart} (g_braid : sp ≠ .braid) (g_delta : sp ≠ .delta) (g_eng : sp ≠ .eng) (g_events : sp ≠ .events) (g_rill : sp ≠ .rill) : part sp (requestDelivery ep pid parity s) = part sp s := by
  unfold requestDelivery
  dsimp only
  repeat' split
  all_goals first | (simp [*]; done) | (rename_i h; simp [*, niParity_part' h]; done) | (rename_i h _; simp [*, niParity_part' h]; done) | (rename_i h _ _; simp [*, niParity_part' h]; done) | (rename_i h _ _ _; simp [*, niParity_part' h]; done) | (rename_i h _ _ _ _; simp [*, niParity_part' h]; done) | (rename_i h _ _ _ _ _; simp [*, niParity_part' h]; done) | (rename_i h _ _ _ _ _ _; simp [*, niParity_part' h]; done) | (rename_i h _ _ _ _ _ _ _; simp [*, niParity_part' h]; done) | (rename_i h _ _ _ _ _ _ _ _; simp [*, niParity_part' h]; done) | (simp [*]; cases sp <;> first | rfl | contradiction) | (cases sp <;> first | rfl | contradiction)
@[simp] theorem setLock_core (n : Nat) (l : Lock) (s : State) : coreView (setLock n l s) = coreView s := by
  rfl
@[simp] theorem setLock_fuses (n : Nat) (l : Lock) (s : State) : fuseView (setLock n l s) = fuseView s := fuses_of_core (setLock_core n l s)
@[simp] theorem setLock_memOk (n : Nat) (l : Lock) (s : State) : MemOk (setLock n l s) ↔ MemOk s := memOk_of_core (setLock_core n l s)
@[simp] theorem setLock_part (n : Nat) (l : Lock) (s : State) {sp : StatePart} (g_locks : sp ≠ .locks) : part sp (setLock n l s) = part sp s := by
  cases sp <;> first | rfl | contradiction
@[simp] theorem lockEv_core (n : Nat) (owner : Nat) (cause : Nat) (s : State) : coreView (lockEv n owner cause s) = coreView s := by
  unfold lockEv
  simp
@[simp] theorem lockEv_fuses (n : Nat) (owner : Nat) (cause : Nat) (s : State) : fuseView (lockEv n owner cause s) = fuseView s := fuses_of_core (lockEv_core n owner cause s)
@[simp] theorem lockEv_memOk (n : Nat) (owner : Nat) (cause : Nat) (s : State) : MemOk (lockEv n owner cause s) ↔ MemOk s := memOk_of_core (lockEv_core n owner cause s)
@[simp] theorem lockEv_part (n : Nat) (owner : Nat) (cause : Nat) (s : State) {sp : StatePart} (g_braid : sp ≠ .braid) (g_events : sp ≠ .events) : part sp (lockEv n owner cause s) = part sp s := by
  unfold lockEv
  simp [*]
@[simp] theorem freeLocks_core (owner : Nat) (s : State) : coreView (freeLocks owner s) = coreView s := by
  unfold freeLocks
  simp
@[simp] theorem freeLocks_fuses (owner : Nat) (s : State) : fuseView (freeLocks owner s) = fuseView s := fuses_of_core (freeLocks_core owner s)
@[simp] theorem freeLocks_memOk (owner : Nat) (s : State) : MemOk (freeLocks owner s) ↔ MemOk s := memOk_of_core (freeLocks_core owner s)
@[simp] theorem freeLocks_part (owner : Nat) (s : State) {sp : StatePart} (g_braid : sp ≠ .braid) (g_locks : sp ≠ .locks) (g_events : sp ≠ .events) : part sp (freeLocks owner s) = part sp s := by
  unfold freeLocks
  simp [*]
@[simp] theorem pauseLocks_core (owner : Nat) (s : State) : coreView (pauseLocks owner s) = coreView s := by
  unfold pauseLocks
  simp [core_ite]
@[simp] theorem pauseLocks_fuses (owner : Nat) (s : State) : fuseView (pauseLocks owner s) = fuseView s := fuses_of_core (pauseLocks_core owner s)
@[simp] theorem pauseLocks_memOk (owner : Nat) (s : State) : MemOk (pauseLocks owner s) ↔ MemOk s := memOk_of_core (pauseLocks_core owner s)
@[simp] theorem pauseLocks_part (owner : Nat) (s : State) {sp : StatePart} (g_locks : sp ≠ .locks) : part sp (pauseLocks owner s) = part sp s := by
  unfold pauseLocks
  simp [part_ite, *]
@[simp] theorem resumeLocks_core (owner : Nat) (s : State) : coreView (resumeLocks owner s) = coreView s := by
  unfold resumeLocks
  simp [core_ite]
@[simp] theorem resumeLocks_fuses (owner : Nat) (s : State) : fuseView (resumeLocks owner s) = fuseView s := fuses_of_core (resumeLocks_core owner s)
@[simp] theorem resumeLocks_memOk (owner : Nat) (s : State) : MemOk (resumeLocks owner s) ↔ MemOk s := memOk_of_core (resumeLocks_core owner s)
@[simp] theorem resumeLocks_part (owner : Nat) (s : State) {sp : StatePart} (g_locks : sp ≠ .locks) : part sp (resumeLocks owner s) = part sp s := by
  unfold resumeLocks
  simp [part_ite, *]
@[simp] theorem senderResetChan_core (c : Nat) (s : State) : coreView (senderResetChan c s) = coreView s := by
  unfold senderResetChan
  simp
@[simp] theorem senderResetChan_fuses (c : Nat) (s : State) : fuseView (senderResetChan c s) = fuseView s := fuses_of_core (senderResetChan_core c s)
@[simp] theorem senderResetChan_memOk (c : Nat) (s : State) : MemOk (senderResetChan c s) ↔ MemOk s := memOk_of_core (senderResetChan_core c s)
@[simp] theorem senderResetChan_part (c : Nat) (s : State) {sp : StatePart} (g_braid : sp ≠ .braid) (g_ferry : sp ≠ .ferry) (g_locks : sp ≠ .locks) (g_events : sp ≠ .events) : part sp (senderResetChan c s) = part sp s := by
  unfold senderResetChan
  simp [*]
@[simp] theorem addNotify_core (c : Nat) (cmd : Bool) (s : State) : coreView (addNotify c cmd s) = coreView s := by
  rfl
@[simp] theorem addNotify_fuses (c : Nat) (cmd : Bool) (s : State) : fuseView (addNotify c cmd s) = fuseView s := fuses_of_core (addNotify_core c cmd s)
@[simp] theorem addNotify_memOk (c : Nat) (cmd : Bool) (s : State) : MemOk (addNotify c cmd s) ↔ MemOk s := memOk_of_core (addNotify_core c cmd s)
@[simp] theorem addNotify_part (c : Nat) (cmd : Bool) (s : State) {sp : StatePart} (g_ferry : sp ≠ .ferry) : part sp (addNotify c cmd s) = part sp s := by
  cases sp <;> first | rfl | contradiction
@[simp] theorem writeDone_core (d : Delivered) (s : State) : coreView (writeDone d s) = coreView s := by
  unfold writeDone
  simp
@[simp] theorem writeDone_fuses (d : Delivered) (s : State) : fuseView (writeDone d s) = fuseView s := fuses_of_core (writeDone_core d s)
@[simp] theorem writeDone_memOk (d : Delivered) (s : State) : MemOk (writeDone d s) ↔ MemOk s := memOk_of_core (writeDone_core d s)
@[simp] theorem writeDone_part (d : Delivered) (s : State) {sp : StatePart} (g_braid : sp ≠ .braid) (g_events : sp ≠ .events) : part sp (writeDone d s) = part sp s := by
  unfold writeDone
  simp [*]
@[simp] theorem runWrite_core (pid : Nat) (s : State) : coreView (runWrite pid s) = coreView s := by
  unfold runWrite
  repeat' split
  all_goals simp [*]
@[simp] theorem runWrite_fuses (pid : Nat) (s : State) : fuseView (runWrite pid s) = fuseView s := fuses_of_core (runWrite_core pid s)
@[simp] theorem runWrite_memOk (pid : Nat) (s : State) : MemOk (runWrite pid s) ↔ MemOk s := memOk_of_core (runWrite_core pid s)
@[simp] theorem runWrite_part (pid : Nat) (s : State) {sp : StatePart} (g_braid : sp ≠ .braid) (g_eng : sp ≠ .eng) (g_events : sp ≠ .events) : part sp (runWrite pid s) = part sp s := by
  unfold runWrite
  repeat' split
  all_goals simp [*]
@[simp] theorem qmDescWrite_core (pid : Nat) (s : State) : coreView (qmDescWrite pid s) = coreView s := by
  unfold qmDescWrite
  repeat' split
  all_goals simp [*]
@[simp] theorem qmDescWrite_fuses (pid : Nat) (s : State) : fuseView (qmDescWrite pid s) = fuseView s := fuses_of_core (qmDescWrite_core pid s)
@[simp] theorem qmDescWrite_memOk (pid : Nat) (s : State) : MemOk (qmDescWrite pid s) ↔ MemOk s := memOk_of_core (qmDescWrite_core pid s)
@[simp] theorem qmDescWrite_part (pid : Nat) (s : State) {sp : StatePart} (g_braid : sp ≠ .braid) (g_eng : sp ≠ .eng) (g_events : sp ≠ .events) : part sp (qmDescWrite pid s) = part sp s := by
  unfold qmDescWrite
  repeat' split
  all_goals simp [*]
@[simp] theorem kickWrite_core (pid : Nat) (s : State) : coreView (kickWrite pid s) = coreView s := by
  unfold kickWrite
  repeat' split
  all_goals first | rfl | (rw [writeDone_core]; rfl) | (simp; done)
@[simp] theorem kickWrite_fuses (pid : Nat) (s : State) : fuseView (kickWrite pid s) = fuseView s := fuses_of_core (kickWrite_core pid s)
@[simp] theorem kickWrite_memOk (pid : Nat) (s : State) : MemOk (kickWrite pid s) ↔ MemOk s := memOk_of_core (kickWrite_core pid s)
@[simp] theorem kickWrite_part (pid : Nat) (s : State) {sp : StatePart} (g_braid : sp ≠ .braid) (g_events : sp ≠ .events) (g_rill : sp ≠ .rill) : part sp (kickWrite pid s) = part sp s := by
  unfold kickWrite
  repeat' split
  all_goals first | rfl | (simp [*]; done) | (rw [writeDone_part _ _ g_braid g_events]; cases sp <;> first | rfl | contradiction)
@[simp] theorem issuePieces_core (k : Nat) (fuel : Nat) (s : State) : coreView (issuePieces k fuel s) = coreView s := by
  induction fuel generalizing s with
  | zero => rfl
  | succ f ih =>
    unfold issuePieces
    dsimp only
    split
    · simp [ih]
    · rfl
@[simp] theorem issuePieces_fuses (k : Nat) (fuel : Nat) (s : State) : fuseView (issuePieces k fuel s) = fuseView s := fuses_of_core (issuePieces_core k fuel s)
@[simp] theorem issuePieces_memOk (k : Nat) (fuel : Nat) (s : State) : MemOk (issuePieces k fuel s) ↔ MemOk s := memOk_of_core (issuePieces_core k fuel s)
@[simp] theorem issuePieces_part (k : Nat) (fuel : Nat) (s : State) {sp : StatePart} (g_braid : sp ≠ .braid) (g_eng : sp ≠ .eng) (g_events : sp ≠ .events) : part sp (issuePieces k fuel s) = part sp s := by
  induction fuel generalizing s with
  | zero => rfl
  | succ f ih =>
    unfold issuePieces
    dsimp only
    split
    · simp [ih, *]
    · rfl
@[simp] theorem endMoverFreeze_core (k : Nat) (s : State) : coreView (endMoverFreeze k s) = coreView s := by
  unfold endMoverFreeze
  repeat' split
  all_goals simp [*]
@[simp] theorem endMoverFreeze_fuses (k : Nat) (s : State) : fuseView (endMoverFreeze k s) = fuseView s := fuses_of_core (endMoverFreeze_core k s)
@[simp] theorem endMoverFreeze_memOk (k : Nat) (s : State) : MemOk (endMoverFreeze k s) ↔ MemOk s := memOk_of_core (endMoverFreeze_core k s)
@[simp] theorem endMoverFreeze_part (k : Nat) (s : State) {sp : StatePart} (g_eng : sp ≠ .eng) : part sp (endMoverFreeze k s) = part sp s := by
  unfold endMoverFreeze
  repeat' split
  all_goals simp [*]
@[simp] theorem endDescriptor_fuses (k : Nat) (s : State) : fuseView (endDescriptor k s) = fuseView s := by
  unfold endDescriptor
  simp [fuses_ite]
@[simp] theorem endDescriptor_memOk (k : Nat) (s : State) (h : MemOk s) : MemOk (endDescriptor k s) := by
  unfold endDescriptor
  dsimp only
  repeat' split
  all_goals simp [*]
@[simp] theorem endDescriptor_part (k : Nat) (s : State) {sp : StatePart} (g_braid : sp ≠ .braid) (g_eng : sp ≠ .eng) (g_mems : sp ≠ .mems) (g_events : sp ≠ .events) : part sp (endDescriptor k s) = part sp s := by
  unfold endDescriptor
  simp [part_ite, *]
@[simp] theorem moverGo_fuses (k : Nat) (s : State) : fuseView (moverGo k s) = fuseView s := by
  unfold moverGo
  simp [fuses_ite]
@[simp] theorem moverGo_memOk (k : Nat) (s : State) (h : MemOk s) : MemOk (moverGo k s) := by
  unfold moverGo
  dsimp only
  repeat' split
  all_goals simp [*]
@[simp] theorem moverGo_part (k : Nat) (s : State) {sp : StatePart} (g_braid : sp ≠ .braid) (g_eng : sp ≠ .eng) (g_mems : sp ≠ .mems) (g_events : sp ≠ .events) : part sp (moverGo k s) = part sp s := by
  unfold moverGo
  simp [part_ite, *]
@[simp] theorem quadGo_fuses (q : Nat) (s : State) : fuseView (quadGo q s) = fuseView s := by
  unfold quadGo
  simp [fuses_ite]
@[simp] theorem quadGo_memOk (q : Nat) (s : State) (h : MemOk s) : MemOk (quadGo q s) := by
  unfold quadGo
  refine forAll_memOk _ _ _ (fun t x ht => ?_) h
  split
  · exact moverGo_memOk _ _ ht
  · exact ht
@[simp] theorem quadGo_part (q : Nat) (s : State) {sp : StatePart} (g_braid : sp ≠ .braid) (g_eng : sp ≠ .eng) (g_mems : sp ≠ .mems) (g_events : sp ≠ .events) : part sp (quadGo q s) = part sp s := by
  unfold quadGo
  simp [part_ite, *]
@[simp] theorem abortWrite_fuses (pid : Nat) (s : State) : fuseView (abortWrite pid s) = fuseView s := by
  unfold abortWrite
  repeat' split
  all_goals simp [*]
@[simp] theorem abortWrite_memOk (pid : Nat) (s : State) (h : MemOk s) : MemOk (abortWrite pid s) := by
  unfold abortWrite
  repeat' split
  all_goals simp [*]
@[simp] theorem abortWrite_part (pid : Nat) (s : State) {sp : StatePart} (g_braid : sp ≠ .braid) (g_eng : sp ≠ .eng) (g_mems : sp ≠ .mems) (g_events : sp ≠ .events) : part sp (abortWrite pid s) = part sp s := by
  unfold abortWrite
  repeat' split
  all_goals simp [*]
@[simp] theorem resetEngine_fuses (k : Nat) (s : State) : fuseView (resetEngine k s) = fuseView s := by
  unfold resetEngine
  simp
@[simp] theorem resetEngine_memOk (k : Nat) (s : State) (h : MemOk s) : MemOk (resetEngine k s) := by
  unfold resetEngine
  simp [*]
@[simp] theorem resetEngine_part (k : Nat) (s : State) {sp : StatePart} (g_braid : sp ≠ .braid) (g_ferry : sp ≠ .ferry) (g_locks : sp ≠ .locks) (g_eng : sp ≠ .eng) (g_mems : sp ≠ .mems) (g_events : sp ≠ .events) : part sp (resetEngine k s) = part sp s := by
  unfold resetEngine
  simp [*]
@[simp] theorem engineReset_fuses (pid : Nat) (s : State) : fuseView (engineReset pid s) = fuseView s := by
  unfold engineReset
  repeat' split
  all_goals simp [*]
@[simp] theorem engineReset_memOk (pid : Nat) (s : State) (h : MemOk s) : MemOk (engineReset pid s) := by
  unfold engineReset
  repeat' split
  all_goals simp [*]
@[simp] theorem engineReset_part (pid : Nat) (s : State) {sp : StatePart} (g_braid : sp ≠ .braid) (g_ferry : sp ≠ .ferry) (g_locks : sp ≠ .locks) (g_eng : sp ≠ .eng) (g_mems : sp ≠ .mems) (g_events : sp ≠ .events) : part sp (engineReset pid s) = part sp s := by
  unfold engineReset
  repeat' split
  all_goals simp [*]
@[simp] theorem descriptorStart_fuses (k : Nat) (s : State) : fuseView (descriptorStart k s) = fuseView s := by
  unfold descriptorStart
  simp [fuses_ite]
@[simp] theorem descriptorStart_memOk (k : Nat) (s : State) (h : MemOk s) : MemOk (descriptorStart k s) := by
  unfold descriptorStart
  dsimp only
  repeat' split
  all_goals simp [*]
@[simp] theorem descriptorStart_part (k : Nat) (s : State) {sp : StatePart} (g_freeCtr : sp ≠ .freeCtr) (g_braid : sp ≠ .braid) (g_eng : sp ≠ .eng) (g_mems : sp ≠ .mems) (g_events : sp ≠ .events) : part sp (descriptorStart k s) = part sp s := by
  unfold descriptorStart
  simp [part_ite, *]
@[simp] theorem pieceDone_core (k : Nat) (p : Piece) (c : Completion) (s : State) : coreView (pieceDone k p c s) = coreView s := by
  unfold pieceDone
  simp [core_ite]
@[simp] theorem pieceDone_fuses (k : Nat) (p : Piece) (c : Completion) (s : State) : fuseView (pieceDone k p c s) = fuseView s := fuses_of_core (pieceDone_core k p c s)
@[simp] theorem pieceDone_memOk (k : Nat) (p : Piece) (c : Completion) (s : State) : MemOk (pieceDone k p c s) ↔ MemOk s := memOk_of_core (pieceDone_core k p c s)
@[simp] theorem pieceDone_part (k : Nat) (p : Piece) (c : Completion) (s : State) {sp : StatePart} (g_braid : sp ≠ .braid) (g_eng : sp ≠ .eng) (g_events : sp ≠ .events) : part sp (pieceDone k p c s) = part sp s := by
  unfold pieceDone
  simp [part_ite, *]
@[simp] theorem moverPieceCompletion_fuses (k : Nat) (s : State) : fuseView (moverPieceCompletion k s) = fuseView s := by
  unfold moverPieceCompletion
  split
  · rfl
  · split
    · rfl
    · rename_i he
      exact (quadGo_fuses ..).trans ((pieceDone_fuses ..).trans (fuses_of_core (takeCompletion_core he)))
@[simp] theorem moverPieceCompletion_memOk (k : Nat) (s : State) (h : MemOk s) : MemOk (moverPieceCompletion k s) := by
  unfold moverPieceCompletion
  split
  · exact h
  · split
    · exact h
    · rename_i he
      exact quadGo_memOk _ _ ((pieceDone_memOk ..).mpr ((memOk_of_core (takeCompletion_core he)).mpr h))
@[simp] theorem moverPieceCompletion_part (k : Nat) (s : State) {sp : StatePart} (g_braid : sp ≠ .braid) (g_eng : sp ≠ .eng) (g_mems : sp ≠ .mems) (g_events : sp ≠ .events) : part sp (moverPieceCompletion k s) = part sp s := by
  unfold moverPieceCompletion
  repeat' split
  all_goals first | (simp [*]; done) | (rename_i h; simp [*, takeCompletion_part h]; done) | (rename_i h _; simp [*, takeCompletion_part h]; done) | (rename_i h _ _; simp [*, takeCompletion_part h]; done) | (rename_i h _ _ _; simp [*, takeCompletion_part h]; done) | (rename_i h _ _ _ _; simp [*, takeCompletion_part h]; done) | (simp [*]; cases sp <;> first | rfl | contradiction) | (cases sp <;> first | rfl | contradiction)
@[simp] theorem portBAnswer_core (d : Delivered) (st : Status) (data : List Byte) (poison : List Nat) (s : State) : coreView (portBAnswer d st data poison s) = coreView s := by
  unfold portBAnswer
  simp
@[simp] theorem portBAnswer_fuses (d : Delivered) (st : Status) (data : List Byte) (poison : List Nat) (s : State) : fuseView (portBAnswer d st data poison s) = fuseView s := fuses_of_core (portBAnswer_core d st data poison s)
@[simp] theorem portBAnswer_memOk (d : Delivered) (st : Status) (data : List Byte) (poison : List Nat) (s : State) : MemOk (portBAnswer d st data poison s) ↔ MemOk s := memOk_of_core (portBAnswer_core d st data poison s)
@[simp] theorem portBAnswer_part (d : Delivered) (st : Status) (data : List Byte) (poison : List Nat) (s : State) {sp : StatePart} (g_braid : sp ≠ .braid) (g_events : sp ≠ .events) : part sp (portBAnswer d st data poison s) = part sp s := by
  unfold portBAnswer
  simp [*]
@[simp] theorem portBRead_core (d : Delivered) (s : State) : coreView (portBRead d s) = coreView s := by
  unfold portBRead
  simp
@[simp] theorem portBRead_fuses (d : Delivered) (s : State) : fuseView (portBRead d s) = fuseView s := fuses_of_core (portBRead_core d s)
@[simp] theorem portBRead_memOk (d : Delivered) (s : State) : MemOk (portBRead d s) ↔ MemOk s := memOk_of_core (portBRead_core d s)
@[simp] theorem portBRead_part (d : Delivered) (s : State) {sp : StatePart} (g_freeCtr : sp ≠ .freeCtr) (g_braid : sp ≠ .braid) (g_mems : sp ≠ .mems) (g_events : sp ≠ .events) : part sp (portBRead d s) = part sp s := by
  unfold portBRead
  simp [*]
@[simp] theorem portBPut_fuses (d : Delivered) (lo : Nat) (hi : Nat) (s : State) : fuseView (portBPut d lo hi s) = fuseView s := by
  unfold portBPut
  dsimp only
  rw [writeWords_fuses]
  refine (forAll_fuses _ _ _ (fun t x => ?_)).trans (by simp)
  split <;> simp
@[simp] theorem portBPut_memOk (d : Delivered) (lo : Nat) (hi : Nat) (s : State) (h : MemOk s) : MemOk (portBPut d lo hi s) := by
  unfold portBPut
  dsimp only
  refine writeWords_memOk _ _ _ _ (forAll_memOk _ _ _ (fun t x ht => ?_) (by simpa using h))
  split <;> simpa using ht
@[simp] theorem portBPut_part (d : Delivered) (lo : Nat) (hi : Nat) (s : State) {sp : StatePart} (g_freeCtr : sp ≠ .freeCtr) (g_braid : sp ≠ .braid) (g_eng : sp ≠ .eng) (g_mems : sp ≠ .mems) (g_events : sp ≠ .events) : part sp (portBPut d lo hi s) = part sp s := by
  unfold portBPut
  dsimp only
  refine (writeWords_part _ _ _ _ g_mems).trans ((forAll_part _ _ _ (fun t x => ?_)).trans (by simp [*]))
  split <;> simp [*]
@[simp] theorem portBAtom_fuses (d : Delivered) (s : State) : fuseView (portBAtom d s) = fuseView s := by
  unfold portBAtom
  simp [fuses_ite]
@[simp] theorem portBAtom_memOk (d : Delivered) (s : State) (h : MemOk s) : MemOk (portBAtom d s) := by
  unfold portBAtom
  dsimp only
  repeat' split
  all_goals simp [*]
@[simp] theorem portBAtom_part (d : Delivered) (s : State) {sp : StatePart} (g_freeCtr : sp ≠ .freeCtr) (g_braid : sp ≠ .braid) (g_eng : sp ≠ .eng) (g_mems : sp ≠ .mems) (g_events : sp ≠ .events) : part sp (portBAtom d s) = part sp s := by
  unfold portBAtom
  simp [part_ite, *]
@[simp] theorem portBServe_fuses (d : Delivered) (lo : Nat) (coll : Option Nat) (s : State) : fuseView (portBServe d lo coll s) = fuseView s := by
  unfold portBServe
  simp [fuses_ite]
@[simp] theorem portBServe_memOk (d : Delivered) (lo : Nat) (coll : Option Nat) (s : State) (h : MemOk s) : MemOk (portBServe d lo coll s) := by
  unfold portBServe
  dsimp only
  repeat' split
  all_goals first | exact (modMems_memOk ..).mpr h | exact (modMems_memOk ..).mpr (portBPut_memOk _ _ _ _ h) | (simpa using h) | exact (portBAnswer_memOk ..).mpr (portBPut_memOk _ _ _ _ h) | exact portBAtom_memOk _ _ h
@[simp] theorem portBServe_part (d : Delivered) (lo : Nat) (coll : Option Nat) (s : State) {sp : StatePart} (g_freeCtr : sp ≠ .freeCtr) (g_braid : sp ≠ .braid) (g_eng : sp ≠ .eng) (g_mems : sp ≠ .mems) (g_events : sp ≠ .events) : part sp (portBServe d lo coll s) = part sp s := by
  unfold portBServe
  simp [part_ite, *]
@[simp] theorem portBAccess_fuses (pid : Nat) (collides : Option Nat) (errs : List WordErr) (s : State) : fuseView (portBAccess pid collides errs s) = fuseView s := by
  unfold portBAccess
  dsimp only
  repeat' split
  all_goals simp [*]
@[simp] theorem portBAccess_memOk (pid : Nat) (collides : Option Nat) (errs : List WordErr) (s : State) (h : MemOk s) : MemOk (portBAccess pid collides errs s) := by
  unfold portBAccess
  dsimp only
  repeat' split
  all_goals first | exact h | exact portBServe_memOk _ _ _ _ (addWordErrs_memOk _ _ h)
@[simp] theorem portBAccess_part (pid : Nat) (collides : Option Nat) (errs : List WordErr) (s : State) {sp : StatePart} (g_freeCtr : sp ≠ .freeCtr) (g_braid : sp ≠ .braid) (g_eng : sp ≠ .eng) (g_mems : sp ≠ .mems) (g_events : sp ≠ .events) : part sp (portBAccess pid collides errs s) = part sp s := by
  unfold portBAccess
  dsimp only
  repeat' split
  all_goals simp [*]
@[simp] theorem portBRetry_fuses (pid : Nat) (collides : Option Nat) (s : State) : fuseView (portBRetry pid collides s) = fuseView s := by
  unfold portBRetry
  repeat' split
  all_goals simp [*]
@[simp] theorem portBRetry_memOk (pid : Nat) (collides : Option Nat) (s : State) (h : MemOk s) : MemOk (portBRetry pid collides s) := by
  unfold portBRetry
  dsimp only
  repeat' split
  all_goals first | exact h | (apply portBServe_memOk; exact h) | (rw [portBAnswer_memOk]; exact h)
@[simp] theorem portBRetry_part (pid : Nat) (collides : Option Nat) (s : State) {sp : StatePart} (g_freeCtr : sp ≠ .freeCtr) (g_braid : sp ≠ .braid) (g_eng : sp ≠ .eng) (g_mems : sp ≠ .mems) (g_events : sp ≠ .events) : part sp (portBRetry pid collides s) = part sp s := by
  unfold portBRetry
  repeat' split
  all_goals simp [*]
@[simp] theorem enterDebug_fuses (k : Nat) (s : State) : fuseView (enterDebug k s) = fuseView s := by
  unfold enterDebug
  simp
@[simp] theorem enterDebug_memOk (k : Nat) (s : State) (h : MemOk s) : MemOk (enterDebug k s) := by
  unfold enterDebug
  simp [*]
@[simp] theorem enterDebug_part (k : Nat) (s : State) {sp : StatePart} (g_locks : sp ≠ .locks) (g_eng : sp ≠ .eng) (g_mems : sp ≠ .mems) : part sp (enterDebug k s) = part sp s := by
  unfold enterDebug
  simp [*]
@[simp] theorem debugHalt_fuses (k : Nat) (s : State) : fuseView (debugHalt k s) = fuseView s := by
  unfold debugHalt
  simp [fuses_ite]
@[simp] theorem debugHalt_memOk (k : Nat) (s : State) (h : MemOk s) : MemOk (debugHalt k s) := by
  unfold debugHalt
  dsimp only
  repeat' split
  all_goals simp [*]
@[simp] theorem debugHalt_part (k : Nat) (s : State) {sp : StatePart} (g_locks : sp ≠ .locks) (g_eng : sp ≠ .eng) (g_mems : sp ≠ .mems) : part sp (debugHalt k s) = part sp s := by
  unfold debugHalt
  simp [part_ite, *]
@[simp] theorem modWdt_core (k : Nat) (f : Wdt → Wdt) (s : State) : coreView (modWdt k f s) = coreView s := by
  rfl
@[simp] theorem modWdt_fuses (k : Nat) (f : Wdt → Wdt) (s : State) : fuseView (modWdt k f s) = fuseView s := fuses_of_core (modWdt_core k f s)
@[simp] theorem modWdt_memOk (k : Nat) (f : Wdt → Wdt) (s : State) : MemOk (modWdt k f s) ↔ MemOk s := memOk_of_core (modWdt_core k f s)
@[simp] theorem modWdt_part (k : Nat) (f : Wdt → Wdt) (s : State) {sp : StatePart} (g_tbase : sp ≠ .tbase) : part sp (modWdt k f s) = part sp s := by
  cases sp <;> first | rfl | contradiction
@[simp] theorem watchdogWarn_core (k : Nat) (s : State) : coreView (watchdogWarn k s) = coreView s := by
  unfold watchdogWarn
  simp [core_ite]
@[simp] theorem watchdogWarn_fuses (k : Nat) (s : State) : fuseView (watchdogWarn k s) = fuseView s := fuses_of_core (watchdogWarn_core k s)
@[simp] theorem watchdogWarn_memOk (k : Nat) (s : State) : MemOk (watchdogWarn k s) ↔ MemOk s := memOk_of_core (watchdogWarn_core k s)
@[simp] theorem watchdogWarn_part (k : Nat) (s : State) {sp : StatePart} (g_braid : sp ≠ .braid) (g_tbase : sp ≠ .tbase) (g_events : sp ≠ .events) : part sp (watchdogWarn k s) = part sp s := by
  unfold watchdogWarn
  simp [part_ite, *]
@[simp] theorem watchdogExpiry_fuses (k : Nat) (s : State) : fuseView (watchdogExpiry k s) = fuseView s := by
  unfold watchdogExpiry
  simp [fuses_ite]
@[simp] theorem watchdogExpiry_memOk (k : Nat) (s : State) (h : MemOk s) : MemOk (watchdogExpiry k s) := by
  unfold watchdogExpiry
  dsimp only
  repeat' split
  all_goals simp [*]
@[simp] theorem watchdogExpiry_part (k : Nat) (s : State) {sp : StatePart} (g_braid : sp ≠ .braid) (g_ferry : sp ≠ .ferry) (g_locks : sp ≠ .locks) (g_eng : sp ≠ .eng) (g_mems : sp ≠ .mems) (g_tbase : sp ≠ .tbase) (g_events : sp ≠ .events) : part sp (watchdogExpiry k s) = part sp s := by
  unfold watchdogExpiry
  simp [part_ite, *]
@[simp] theorem eventRaise_core (ev : Nat) (cause : Nat) (detail : List Byte) (s : State) : coreView (eventRaise ev cause detail s) = coreView s := by
  unfold eventRaise
  split <;> simp
@[simp] theorem eventRaise_fuses (ev : Nat) (cause : Nat) (detail : List Byte) (s : State) : fuseView (eventRaise ev cause detail s) = fuseView s := fuses_of_core (eventRaise_core ev cause detail s)
@[simp] theorem eventRaise_memOk (ev : Nat) (cause : Nat) (detail : List Byte) (s : State) : MemOk (eventRaise ev cause detail s) ↔ MemOk s := memOk_of_core (eventRaise_core ev cause detail s)
@[simp] theorem eventRaise_part (ev : Nat) (cause : Nat) (detail : List Byte) (s : State) {sp : StatePart} (g_braid : sp ≠ .braid) (g_events : sp ≠ .events) : part sp (eventRaise ev cause detail s) = part sp s := by
  unfold eventRaise
  split <;> simp [*]
@[simp] theorem eventRillArrival_core (ev : Nat) (s : State) : coreView (eventRillArrival ev s) = coreView s := by
  unfold eventRillArrival
  dsimp only
  repeat' split
  all_goals simp [*]
@[simp] theorem eventRillArrival_fuses (ev : Nat) (s : State) : fuseView (eventRillArrival ev s) = fuseView s := fuses_of_core (eventRillArrival_core ev s)
@[simp] theorem eventRillArrival_memOk (ev : Nat) (s : State) : MemOk (eventRillArrival ev s) ↔ MemOk s := memOk_of_core (eventRillArrival_core ev s)
@[simp] theorem eventRillArrival_part (ev : Nat) (s : State) {sp : StatePart} (g_events : sp ≠ .events) : part sp (eventRillArrival ev s) = part sp s := by
  unfold eventRillArrival
  dsimp only
  repeat' split
  all_goals simp [*]
@[simp] theorem raiseEvLine_core (c : Nat) (s : State) : coreView (raiseEvLine c s) = coreView s := by
  unfold raiseEvLine
  split <;> simp
@[simp] theorem raiseEvLine_fuses (c : Nat) (s : State) : fuseView (raiseEvLine c s) = fuseView s := fuses_of_core (raiseEvLine_core c s)
@[simp] theorem raiseEvLine_memOk (c : Nat) (s : State) : MemOk (raiseEvLine c s) ↔ MemOk s := memOk_of_core (raiseEvLine_core c s)
@[simp] theorem raiseEvLine_part (c : Nat) (s : State) {sp : StatePart} (g_eng : sp ≠ .eng) : part sp (raiseEvLine c s) = part sp s := by
  unfold raiseEvLine
  split <;> simp [*]
@[simp] theorem msixRecord_core (v : Nat) (s : State) : coreView (msixRecord v s) = coreView s := by
  unfold msixRecord
  simp [core_ite]
@[simp] theorem msixRecord_fuses (v : Nat) (s : State) : fuseView (msixRecord v s) = fuseView s := fuses_of_core (msixRecord_core v s)
@[simp] theorem msixRecord_memOk (v : Nat) (s : State) : MemOk (msixRecord v s) ↔ MemOk s := memOk_of_core (msixRecord_core v s)
@[simp] theorem msixRecord_part (v : Nat) (s : State) {sp : StatePart} (g_host : sp ≠ .host) : part sp (msixRecord v s) = part sp s := by
  unfold msixRecord
  simp [part_ite, *]
@[simp] theorem routeRec_core (r : Rec) (c : Nat) (s : State) : coreView (routeRec r c s) = coreView s := by
  unfold routeRec
  simp [core_ite]
@[simp] theorem routeRec_fuses (r : Rec) (c : Nat) (s : State) : fuseView (routeRec r c s) = fuseView s := fuses_of_core (routeRec_core r c s)
@[simp] theorem routeRec_memOk (r : Rec) (c : Nat) (s : State) : MemOk (routeRec r c s) ↔ MemOk s := memOk_of_core (routeRec_core r c s)
@[simp] theorem routeRec_part (r : Rec) (c : Nat) (s : State) {sp : StatePart} (g_host : sp ≠ .host) (g_eng : sp ≠ .eng) (g_events : sp ≠ .events) : part sp (routeRec r c s) = part sp s := by
  unfold routeRec
  simp [part_ite, *]
@[simp] theorem promote_core (ev : Nat) (p : Pend) (s : State) : coreView (promote ev p s) = coreView s := by
  unfold promote
  repeat' split
  all_goals simp [*]
@[simp] theorem promote_fuses (ev : Nat) (p : Pend) (s : State) : fuseView (promote ev p s) = fuseView s := fuses_of_core (promote_core ev p s)
@[simp] theorem promote_memOk (ev : Nat) (p : Pend) (s : State) : MemOk (promote ev p s) ↔ MemOk s := memOk_of_core (promote_core ev p s)
@[simp] theorem promote_part (ev : Nat) (p : Pend) (s : State) {sp : StatePart} (g_braid : sp ≠ .braid) (g_events : sp ≠ .events) : part sp (promote ev p s) = part sp s := by
  unfold promote
  repeat' split
  all_goals simp [*]
@[simp] theorem eventTake_core (s : State) : coreView (eventTake s) = coreView s := by
  unfold eventTake
  repeat' split
  all_goals simp [*]
@[simp] theorem eventTake_fuses (s : State) : fuseView (eventTake s) = fuseView s := fuses_of_core (eventTake_core s)
@[simp] theorem eventTake_memOk (s : State) : MemOk (eventTake s) ↔ MemOk s := memOk_of_core (eventTake_core s)
@[simp] theorem eventTake_part (s : State) {sp : StatePart} (g_braid : sp ≠ .braid) (g_host : sp ≠ .host) (g_eng : sp ≠ .eng) (g_events : sp ≠ .events) : part sp (eventTake s) = part sp s := by
  unfold eventTake
  repeat' split
  all_goals simp [*]
@[simp] theorem eventDrain_core (s : State) : coreView (eventDrain s) = coreView s := by
  unfold eventDrain
  split <;> simp
@[simp] theorem eventDrain_fuses (s : State) : fuseView (eventDrain s) = fuseView s := fuses_of_core (eventDrain_core s)
@[simp] theorem eventDrain_memOk (s : State) : MemOk (eventDrain s) ↔ MemOk s := memOk_of_core (eventDrain_core s)
@[simp] theorem eventDrain_part (s : State) {sp : StatePart} (g_events : sp ≠ .events) : part sp (eventDrain s) = part sp s := by
  unfold eventDrain
  split <;> simp [*]
@[simp] theorem fatalSummaryClear_core (mask : Nat) (s : State) : coreView (fatalSummaryClear mask s) = coreView s := by
  rfl
@[simp] theorem fatalSummaryClear_fuses (mask : Nat) (s : State) : fuseView (fatalSummaryClear mask s) = fuseView s := fuses_of_core (fatalSummaryClear_core mask s)
@[simp] theorem fatalSummaryClear_memOk (mask : Nat) (s : State) : MemOk (fatalSummaryClear mask s) ↔ MemOk s := memOk_of_core (fatalSummaryClear_core mask s)
@[simp] theorem fatalSummaryClear_part (mask : Nat) (s : State) {sp : StatePart} (g_events : sp ≠ .events) : part sp (fatalSummaryClear mask s) = part sp s := by
  cases sp <;> first | rfl | contradiction
@[simp] theorem evDoorbellClear_core (mask : Nat) (s : State) : coreView (evDoorbellClear mask s) = coreView s := by
  rfl
@[simp] theorem evDoorbellClear_fuses (mask : Nat) (s : State) : fuseView (evDoorbellClear mask s) = fuseView s := fuses_of_core (evDoorbellClear_core mask s)
@[simp] theorem evDoorbellClear_memOk (mask : Nat) (s : State) : MemOk (evDoorbellClear mask s) ↔ MemOk s := memOk_of_core (evDoorbellClear_core mask s)
@[simp] theorem evDoorbellClear_part (mask : Nat) (s : State) {sp : StatePart} (g_host : sp ≠ .host) : part sp (evDoorbellClear mask s) = part sp s := by
  cases sp <;> first | rfl | contradiction
@[simp] theorem setEvCfg_core (n : Nat) (v : Nat) (s : State) : coreView (setEvCfg n v s) = coreView s := by
  rfl
@[simp] theorem setEvCfg_fuses (n : Nat) (v : Nat) (s : State) : fuseView (setEvCfg n v s) = fuseView s := fuses_of_core (setEvCfg_core n v s)
@[simp] theorem setEvCfg_memOk (n : Nat) (v : Nat) (s : State) : MemOk (setEvCfg n v s) ↔ MemOk s := memOk_of_core (setEvCfg_core n v s)
@[simp] theorem setEvCfg_part (n : Nat) (v : Nat) (s : State) {sp : StatePart} (g_events : sp ≠ .events) : part sp (setEvCfg n v s) = part sp s := by
  cases sp <;> first | rfl | contradiction
@[simp] theorem setEvCtrl_core (v : Nat) (s : State) : coreView (setEvCtrl v s) = coreView s := by
  rfl
@[simp] theorem setEvCtrl_fuses (v : Nat) (s : State) : fuseView (setEvCtrl v s) = fuseView s := fuses_of_core (setEvCtrl_core v s)
@[simp] theorem setEvCtrl_memOk (v : Nat) (s : State) : MemOk (setEvCtrl v s) ↔ MemOk s := memOk_of_core (setEvCtrl_core v s)
@[simp] theorem setEvCtrl_part (v : Nat) (s : State) {sp : StatePart} (g_events : sp ≠ .events) : part sp (setEvCtrl v s) = part sp s := by
  cases sp <;> first | rfl | contradiction
@[simp] theorem ferryReads_core (s : State) : coreView (ferryReads s) = coreView s := by
  unfold ferryReads
  simp
@[simp] theorem ferryReads_fuses (s : State) : fuseView (ferryReads s) = fuseView s := fuses_of_core (ferryReads_core s)
@[simp] theorem ferryReads_memOk (s : State) : MemOk (ferryReads s) ↔ MemOk s := memOk_of_core (ferryReads_core s)
@[simp] theorem ferryReads_part (s : State) {sp : StatePart} (g_braid : sp ≠ .braid) (g_ferry : sp ≠ .ferry) (g_events : sp ≠ .events) : part sp (ferryReads s) = part sp s := by
  unfold ferryReads
  simp [*]
@[simp] theorem ferryWriteDone_core (d : Delivered) (ok : Bool) (s : State) : coreView (ferryWriteDone d ok s) = coreView s := by
  unfold ferryWriteDone
  simp
@[simp] theorem ferryWriteDone_fuses (d : Delivered) (ok : Bool) (s : State) : fuseView (ferryWriteDone d ok s) = fuseView s := fuses_of_core (ferryWriteDone_core d ok s)
@[simp] theorem ferryWriteDone_memOk (d : Delivered) (ok : Bool) (s : State) : MemOk (ferryWriteDone d ok s) ↔ MemOk s := memOk_of_core (ferryWriteDone_core d ok s)
@[simp] theorem ferryWriteDone_part (d : Delivered) (ok : Bool) (s : State) {sp : StatePart} (g_braid : sp ≠ .braid) (g_events : sp ≠ .events) : part sp (ferryWriteDone d ok s) = part sp s := by
  unfold ferryWriteDone
  simp [*]
@[simp] theorem ferryWrite_core (pid : Nat) (mine : Nat → Nat → Bool) (s : State) : coreView (ferryWrite pid mine s) = coreView s := by
  unfold ferryWrite
  dsimp only
  repeat' split
  all_goals simp [*]
@[simp] theorem ferryWrite_fuses (pid : Nat) (mine : Nat → Nat → Bool) (s : State) : fuseView (ferryWrite pid mine s) = fuseView s := fuses_of_core (ferryWrite_core pid mine s)
@[simp] theorem ferryWrite_memOk (pid : Nat) (mine : Nat → Nat → Bool) (s : State) : MemOk (ferryWrite pid mine s) ↔ MemOk s := memOk_of_core (ferryWrite_core pid mine s)
@[simp] theorem ferryWrite_part (pid : Nat) (mine : Nat → Nat → Bool) (s : State) {sp : StatePart} (g_braid : sp ≠ .braid) (g_ferry : sp ≠ .ferry) (g_events : sp ≠ .events) : part sp (ferryWrite pid mine s) = part sp s := by
  unfold ferryWrite
  dsimp only
  repeat' split
  all_goals simp [*]
@[simp] theorem ferryMsgWrite_core (pid : Nat) (s : State) : coreView (ferryMsgWrite pid s) = coreView s := by
  unfold ferryMsgWrite
  simp
@[simp] theorem ferryMsgWrite_fuses (pid : Nat) (s : State) : fuseView (ferryMsgWrite pid s) = fuseView s := fuses_of_core (ferryMsgWrite_core pid s)
@[simp] theorem ferryMsgWrite_memOk (pid : Nat) (s : State) : MemOk (ferryMsgWrite pid s) ↔ MemOk s := memOk_of_core (ferryMsgWrite_core pid s)
@[simp] theorem ferryMsgWrite_part (pid : Nat) (s : State) {sp : StatePart} (g_braid : sp ≠ .braid) (g_ferry : sp ≠ .ferry) (g_events : sp ≠ .events) : part sp (ferryMsgWrite pid s) = part sp s := by
  unfold ferryMsgWrite
  simp [*]
@[simp] theorem bellPost_core (pid : Nat) (s : State) : coreView (bellPost pid s) = coreView s := by
  unfold bellPost
  simp
@[simp] theorem bellPost_fuses (pid : Nat) (s : State) : fuseView (bellPost pid s) = fuseView s := fuses_of_core (bellPost_core pid s)
@[simp] theorem bellPost_memOk (pid : Nat) (s : State) : MemOk (bellPost pid s) ↔ MemOk s := memOk_of_core (bellPost_core pid s)
@[simp] theorem bellPost_part (pid : Nat) (s : State) {sp : StatePart} (g_braid : sp ≠ .braid) (g_ferry : sp ≠ .ferry) (g_events : sp ≠ .events) : part sp (bellPost pid s) = part sp s := by
  unfold bellPost
  simp [*]
@[simp] theorem bellClear_core (pid : Nat) (s : State) : coreView (bellClear pid s) = coreView s := by
  unfold bellClear
  simp
@[simp] theorem bellClear_fuses (pid : Nat) (s : State) : fuseView (bellClear pid s) = fuseView s := fuses_of_core (bellClear_core pid s)
@[simp] theorem bellClear_memOk (pid : Nat) (s : State) : MemOk (bellClear pid s) ↔ MemOk s := memOk_of_core (bellClear_core pid s)
@[simp] theorem bellClear_part (pid : Nat) (s : State) {sp : StatePart} (g_braid : sp ≠ .braid) (g_ferry : sp ≠ .ferry) (g_events : sp ≠ .events) : part sp (bellClear pid s) = part sp s := by
  unfold bellClear
  simp [*]
@[simp] theorem senderReset_core (c : Nat) (s : State) : coreView (senderReset c s) = coreView s := by
  unfold senderReset
  split <;> simp
@[simp] theorem senderReset_fuses (c : Nat) (s : State) : fuseView (senderReset c s) = fuseView s := fuses_of_core (senderReset_core c s)
@[simp] theorem senderReset_memOk (c : Nat) (s : State) : MemOk (senderReset c s) ↔ MemOk s := memOk_of_core (senderReset_core c s)
@[simp] theorem senderReset_part (c : Nat) (s : State) {sp : StatePart} (g_braid : sp ≠ .braid) (g_ferry : sp ≠ .ferry) (g_locks : sp ≠ .locks) (g_events : sp ≠ .events) : part sp (senderReset c s) = part sp s := by
  unfold senderReset
  split <;> simp [*]
@[simp] theorem headwaterInterrupt_core (s : State) : coreView (headwaterInterrupt s) = coreView s := by
  unfold headwaterInterrupt
  split <;> simp
@[simp] theorem headwaterInterrupt_fuses (s : State) : fuseView (headwaterInterrupt s) = fuseView s := fuses_of_core (headwaterInterrupt_core s)
@[simp] theorem headwaterInterrupt_memOk (s : State) : MemOk (headwaterInterrupt s) ↔ MemOk s := memOk_of_core (headwaterInterrupt_core s)
@[simp] theorem headwaterInterrupt_part (s : State) {sp : StatePart} (g_ferry : sp ≠ .ferry) : part sp (headwaterInterrupt s) = part sp s := by
  unfold headwaterInterrupt
  split <;> simp [*]
@[simp] theorem take_core (s : State) : coreView (take s) = coreView s := by
  unfold take
  repeat' split
  all_goals simp [*]
@[simp] theorem take_fuses (s : State) : fuseView (take s) = fuseView s := fuses_of_core (take_core s)
@[simp] theorem take_memOk (s : State) : MemOk (take s) ↔ MemOk s := memOk_of_core (take_core s)
@[simp] theorem take_part (s : State) {sp : StatePart} (g_ferry : sp ≠ .ferry) : part sp (take s) = part sp s := by
  unfold take
  repeat' split
  all_goals simp [*]
@[simp] theorem setReply_core (r : Reply) (s : State) : coreView (setReply r s) = coreView s := by
  rfl
@[simp] theorem setReply_fuses (r : Reply) (s : State) : fuseView (setReply r s) = fuseView s := fuses_of_core (setReply_core r s)
@[simp] theorem setReply_memOk (r : Reply) (s : State) : MemOk (setReply r s) ↔ MemOk s := memOk_of_core (setReply_core r s)
@[simp] theorem setReply_part (r : Reply) (s : State) {sp : StatePart} (g_ferry : sp ≠ .ferry) : part sp (setReply r s) = part sp s := by
  cases sp <;> first | rfl | contradiction
@[simp] theorem waitFor_core (k : Nat) (s : State) : coreView (waitFor k s) = coreView s := by
  rfl
@[simp] theorem waitFor_fuses (k : Nat) (s : State) : fuseView (waitFor k s) = fuseView s := fuses_of_core (waitFor_core k s)
@[simp] theorem waitFor_memOk (k : Nat) (s : State) : MemOk (waitFor k s) ↔ MemOk s := memOk_of_core (waitFor_core k s)
@[simp] theorem waitFor_part (k : Nat) (s : State) {sp : StatePart} (g_ferry : sp ≠ .ferry) : part sp (waitFor k s) = part sp s := by
  cases sp <;> first | rfl | contradiction
@[simp] theorem ferryServe_core (opcode : Nat) (maxLen : Nat) (target : Nat → Bool) (body : Serving → State → Reply × State) (s : State) (hbody : ∀ y0 y1, coreView (body y0 y1).2 = coreView y1) : coreView (ferryServe opcode maxLen target body s) = coreView s := by
  unfold ferryServe
  dsimp only
  repeat' split
  all_goals simp [*]
@[simp] theorem ferryServe_fuses (opcode : Nat) (maxLen : Nat) (target : Nat → Bool) (body : Serving → State → Reply × State) (s : State) (hbody : ∀ y0 y1, fuseView (body y0 y1).2 = fuseView y1) : fuseView (ferryServe opcode maxLen target body s) = fuseView s := by
  unfold ferryServe
  dsimp only
  repeat' split
  all_goals simp [*]
@[simp] theorem ferryServe_memOk (opcode : Nat) (maxLen : Nat) (target : Nat → Bool) (body : Serving → State → Reply × State) (s : State) (hbody : ∀ y0 y1, coreView (body y0 y1).2 = coreView y1) : MemOk (ferryServe opcode maxLen target body s) ↔ MemOk s := memOk_of_core (ferryServe_core opcode maxLen target body s hbody)
theorem ferryServe_keeps (opcode : Nat) (maxLen : Nat) (target : Nat → Bool) (body : Serving → State → Reply × State) (s : State) (hb : ∀ v t, MemOk t → MemOk (body v t).2) (h : MemOk s) : MemOk (ferryServe opcode maxLen target body s) := by
  unfold ferryServe
  dsimp only
  repeat' split
  all_goals first | exact h | (simpa using h) | (simpa using hb _ _ h)

@[simp] theorem ferryServe_part (opcode : Nat) (maxLen : Nat) (target : Nat → Bool) (body : Serving → State → Reply × State) (s : State) {sp : StatePart} (hbody : ∀ y0 y1, part sp (body y0 y1).2 = part sp y1) (g_ferry : sp ≠ .ferry) : part sp (ferryServe opcode maxLen target body s) = part sp s := by
  unfold ferryServe
  dsimp only
  repeat' split
  all_goals simp [*]
@[simp] theorem startJob_core (v : Serving) (obj : Nat) (s : State) : coreView (startJob v obj s).2 = coreView s := by
  rfl
@[simp] theorem startJob_fuses (v : Serving) (obj : Nat) (s : State) : fuseView (startJob v obj s).2 = fuseView s := fuses_of_core (startJob_core v obj s)
@[simp] theorem startJob_memOk (v : Serving) (obj : Nat) (s : State) : MemOk (startJob v obj s).2 ↔ MemOk s := memOk_of_core (startJob_core v obj s)
@[simp] theorem startJob_part (v : Serving) (obj : Nat) (s : State) {sp : StatePart} (g_ferry : sp ≠ .ferry) : part sp (startJob v obj s).2 = part sp s := by
  cases sp <;> first | rfl | contradiction
@[simp] theorem ackWith_core (v : Serving) (r : Reply) (s : State) : coreView (ackWith v r s) = coreView s := by
  unfold ackWith
  simp [core_ite]
@[simp] theorem ackWith_fuses (v : Serving) (r : Reply) (s : State) : fuseView (ackWith v r s) = fuseView s := fuses_of_core (ackWith_core v r s)
@[simp] theorem ackWith_memOk (v : Serving) (r : Reply) (s : State) : MemOk (ackWith v r s) ↔ MemOk s := memOk_of_core (ackWith_core v r s)
@[simp] theorem ackWith_part (v : Serving) (r : Reply) (s : State) {sp : StatePart} (g_braid : sp ≠ .braid) (g_ferry : sp ≠ .ferry) (g_twin : sp ≠ .twin) (g_debug : sp ≠ .debug) (g_events : sp ≠ .events) : part sp (ackWith v r s) = part sp s := by
  unfold ackWith
  simp [part_ite, *]
@[simp] theorem ferryAckWrite_core (s : State) : coreView (ferryAckWrite s) = coreView s := by
  unfold ferryAckWrite
  repeat' split
  all_goals simp [*]
@[simp] theorem ferryAckWrite_fuses (s : State) : fuseView (ferryAckWrite s) = fuseView s := fuses_of_core (ferryAckWrite_core s)
@[simp] theorem ferryAckWrite_memOk (s : State) : MemOk (ferryAckWrite s) ↔ MemOk s := memOk_of_core (ferryAckWrite_core s)
@[simp] theorem ferryAckWrite_part (s : State) {sp : StatePart} (g_braid : sp ≠ .braid) (g_ferry : sp ≠ .ferry) (g_twin : sp ≠ .twin) (g_debug : sp ≠ .debug) (g_events : sp ≠ .events) : part sp (ferryAckWrite s) = part sp s := by
  unfold ferryAckWrite
  repeat' split
  all_goals simp [*]
@[simp] theorem remoteDone_core (c : Nat) (dev : Nat) (s : State) : coreView (remoteDone c dev s) = coreView s := by
  unfold remoteDone
  simp
@[simp] theorem remoteDone_fuses (c : Nat) (dev : Nat) (s : State) : fuseView (remoteDone c dev s) = fuseView s := fuses_of_core (remoteDone_core c dev s)
@[simp] theorem remoteDone_memOk (c : Nat) (dev : Nat) (s : State) : MemOk (remoteDone c dev s) ↔ MemOk s := memOk_of_core (remoteDone_core c dev s)
@[simp] theorem remoteDone_part (c : Nat) (dev : Nat) (s : State) {sp : StatePart} (g_braid : sp ≠ .braid) (g_eng : sp ≠ .eng) (g_events : sp ≠ .events) : part sp (remoteDone c dev s) = part sp s := by
  unfold remoteDone
  simp [*]
@[simp] theorem notifySender_core (c : Nat) (s : State) : coreView (notifySender c s) = coreView s := by
  unfold notifySender
  repeat' split
  all_goals simp [*]
@[simp] theorem notifySender_fuses (c : Nat) (s : State) : fuseView (notifySender c s) = fuseView s := fuses_of_core (notifySender_core c s)
@[simp] theorem notifySender_memOk (c : Nat) (s : State) : MemOk (notifySender c s) ↔ MemOk s := memOk_of_core (notifySender_core c s)
@[simp] theorem notifySender_part (c : Nat) (s : State) {sp : StatePart} (g_braid : sp ≠ .braid) (g_host : sp ≠ .host) (g_twin : sp ≠ .twin) (g_eng : sp ≠ .eng) (g_debug : sp ≠ .debug) (g_events : sp ≠ .events) : part sp (notifySender c s) = part sp s := by
  unfold notifySender
  repeat' split
  all_goals simp [*]
@[simp] theorem completionNotification_core (c : Nat) (s : State) : coreView (completionNotification c s) = coreView s := by
  unfold completionNotification
  split <;> simp
@[simp] theorem completionNotification_fuses (c : Nat) (s : State) : fuseView (completionNotification c s) = fuseView s := fuses_of_core (completionNotification_core c s)
@[simp] theorem completionNotification_memOk (c : Nat) (s : State) : MemOk (completionNotification c s) ↔ MemOk s := memOk_of_core (completionNotification_core c s)
@[simp] theorem completionNotification_part (c : Nat) (s : State) {sp : StatePart} (g_braid : sp ≠ .braid) (g_ferry : sp ≠ .ferry) (g_host : sp ≠ .host) (g_twin : sp ≠ .twin) (g_eng : sp ≠ .eng) (g_debug : sp ≠ .debug) (g_events : sp ≠ .events) : part sp (completionNotification c s) = part sp s := by
  unfold completionNotification
  split <;> simp [*]
@[simp] theorem abortChannels_core (s : State) : coreView (abortChannels s) = coreView s := by
  unfold abortChannels
  simp
@[simp] theorem abortChannels_fuses (s : State) : fuseView (abortChannels s) = fuseView s := fuses_of_core (abortChannels_core s)
@[simp] theorem abortChannels_memOk (s : State) : MemOk (abortChannels s) ↔ MemOk s := memOk_of_core (abortChannels_core s)
@[simp] theorem abortChannels_part (s : State) {sp : StatePart} (g_ferry : sp ≠ .ferry) : part sp (abortChannels s) = part sp s := by
  unfold abortChannels
  simp [*]
@[simp] theorem hwReset_core (c : HwResetCause) (s : State) : coreView (hwReset c s) = coreView s := by
  unfold hwReset
  simp
@[simp] theorem hwReset_fuses (c : HwResetCause) (s : State) : fuseView (hwReset c s) = fuseView s := fuses_of_core (hwReset_core c s)
@[simp] theorem hwReset_memOk (c : HwResetCause) (s : State) : MemOk (hwReset c s) ↔ MemOk s := memOk_of_core (hwReset_core c s)
@[simp] theorem hwReset_part (c : HwResetCause) (s : State) {sp : StatePart} (g_braid : sp ≠ .braid) (g_ferry : sp ≠ .ferry) (g_locks : sp ≠ .locks) (g_debug : sp ≠ .debug) (g_events : sp ≠ .events) : part sp (hwReset c s) = part sp s := by
  unfold hwReset
  simp [*]
@[simp] theorem lockstepMismatch_core (s : State) : coreView (lockstepMismatch s) = coreView s := by
  unfold lockstepMismatch
  simp
@[simp] theorem lockstepMismatch_fuses (s : State) : fuseView (lockstepMismatch s) = fuseView s := fuses_of_core (lockstepMismatch_core s)
@[simp] theorem lockstepMismatch_memOk (s : State) : MemOk (lockstepMismatch s) ↔ MemOk s := memOk_of_core (lockstepMismatch_core s)
@[simp] theorem lockstepMismatch_part (s : State) {sp : StatePart} (g_braid : sp ≠ .braid) (g_ferry : sp ≠ .ferry) (g_locks : sp ≠ .locks) (g_debug : sp ≠ .debug) (g_events : sp ≠ .events) : part sp (lockstepMismatch s) = part sp s := by
  unfold lockstepMismatch
  simp [*]
@[simp] theorem headwaterWatchdogExpiry_core (s : State) : coreView (headwaterWatchdogExpiry s) = coreView s := by
  unfold headwaterWatchdogExpiry
  split <;> simp
@[simp] theorem headwaterWatchdogExpiry_fuses (s : State) : fuseView (headwaterWatchdogExpiry s) = fuseView s := fuses_of_core (headwaterWatchdogExpiry_core s)
@[simp] theorem headwaterWatchdogExpiry_memOk (s : State) : MemOk (headwaterWatchdogExpiry s) ↔ MemOk s := memOk_of_core (headwaterWatchdogExpiry_core s)
@[simp] theorem headwaterWatchdogExpiry_part (s : State) {sp : StatePart} (g_braid : sp ≠ .braid) (g_ferry : sp ≠ .ferry) (g_locks : sp ≠ .locks) (g_debug : sp ≠ .debug) (g_events : sp ≠ .events) : part sp (headwaterWatchdogExpiry s) = part sp s := by
  unfold headwaterWatchdogExpiry
  split <;> simp [*]
@[simp] theorem readLock_core (n : Nat) (owner : Nat) (debug : Bool) (s : State) : coreView (readLock n owner debug s).2 = coreView s := by
  unfold readLock
  dsimp only
  repeat' split
  all_goals simp [*]
@[simp] theorem readLock_fuses (n : Nat) (owner : Nat) (debug : Bool) (s : State) : fuseView (readLock n owner debug s).2 = fuseView s := fuses_of_core (readLock_core n owner debug s)
@[simp] theorem readLock_memOk (n : Nat) (owner : Nat) (debug : Bool) (s : State) : MemOk (readLock n owner debug s).2 ↔ MemOk s := memOk_of_core (readLock_core n owner debug s)
@[simp] theorem readLock_part (n : Nat) (owner : Nat) (debug : Bool) (s : State) {sp : StatePart} (g_locks : sp ≠ .locks) : part sp (readLock n owner debug s).2 = part sp s := by
  unfold readLock
  dsimp only
  repeat' split
  all_goals simp [*]
@[simp] theorem hwLockServe_core (n : Nat) (value : Option Nat) (s : State) : coreView (hwLockServe n value s) = coreView s := by
  unfold hwLockServe
  dsimp only
  repeat' split
  all_goals simp [*]
@[simp] theorem hwLockServe_fuses (n : Nat) (value : Option Nat) (s : State) : fuseView (hwLockServe n value s) = fuseView s := fuses_of_core (hwLockServe_core n value s)
@[simp] theorem hwLockServe_memOk (n : Nat) (value : Option Nat) (s : State) : MemOk (hwLockServe n value s) ↔ MemOk s := memOk_of_core (hwLockServe_core n value s)
@[simp] theorem hwLockServe_part (n : Nat) (value : Option Nat) (s : State) {sp : StatePart} (g_locks : sp ≠ .locks) : part sp (hwLockServe n value s) = part sp s := by
  unfold hwLockServe
  dsimp only
  repeat' split
  all_goals simp [*]
@[simp] theorem hwLockAccess_core (n : Nat) (value : Option Nat) (s : State) : coreView (hwLockAccess n value s) = coreView s := by
  unfold hwLockAccess
  simp [core_ite]
@[simp] theorem hwLockAccess_fuses (n : Nat) (value : Option Nat) (s : State) : fuseView (hwLockAccess n value s) = fuseView s := fuses_of_core (hwLockAccess_core n value s)
@[simp] theorem hwLockAccess_memOk (n : Nat) (value : Option Nat) (s : State) : MemOk (hwLockAccess n value s) ↔ MemOk s := memOk_of_core (hwLockAccess_core n value s)
@[simp] theorem hwLockAccess_part (n : Nat) (value : Option Nat) (s : State) {sp : StatePart} (g_locks : sp ≠ .locks) : part sp (hwLockAccess n value s) = part sp s := by
  unfold hwLockAccess
  simp [part_ite, *]
@[simp] theorem hwLockTick_core (s : State) : coreView (hwLockTick s) = coreView s := by
  unfold hwLockTick
  split <;> simp
@[simp] theorem hwLockTick_fuses (s : State) : fuseView (hwLockTick s) = fuseView s := fuses_of_core (hwLockTick_core s)
@[simp] theorem hwLockTick_memOk (s : State) : MemOk (hwLockTick s) ↔ MemOk s := memOk_of_core (hwLockTick_core s)
@[simp] theorem hwLockTick_part (s : State) {sp : StatePart} (g_locks : sp ≠ .locks) : part sp (hwLockTick s) = part sp s := by
  unfold hwLockTick
  split <;> simp [*]
@[simp] theorem lockServed_core (s : State) : coreView (lockServed s) = coreView s := by
  rfl
@[simp] theorem lockServed_fuses (s : State) : fuseView (lockServed s) = fuseView s := fuses_of_core (lockServed_core s)
@[simp] theorem lockServed_memOk (s : State) : MemOk (lockServed s) ↔ MemOk s := memOk_of_core (lockServed_core s)
@[simp] theorem lockServed_part (s : State) {sp : StatePart} (g_locks : sp ≠ .locks) : part sp (lockServed s) = part sp s := by
  cases sp <;> first | rfl | contradiction
@[simp] theorem lockRead_core (port : LockPort) (s : State) : coreView (lockRead port s) = coreView s := by
  unfold lockRead
  dsimp only
  repeat' split
  all_goals simp [*]
@[simp] theorem lockRead_fuses (port : LockPort) (s : State) : fuseView (lockRead port s) = fuseView s := fuses_of_core (lockRead_core port s)
@[simp] theorem lockRead_memOk (port : LockPort) (s : State) : MemOk (lockRead port s) ↔ MemOk s := memOk_of_core (lockRead_core port s)
@[simp] theorem lockRead_part (port : LockPort) (s : State) {sp : StatePart} (g_braid : sp ≠ .braid) (g_locks : sp ≠ .locks) (g_events : sp ≠ .events) : part sp (lockRead port s) = part sp s := by
  unfold lockRead
  dsimp only
  repeat' split
  all_goals simp [*]
@[simp] theorem lockRelease_core (port : LockPort) (value : Nat) (s : State) : coreView (lockRelease port value s) = coreView s := by
  unfold lockRelease
  dsimp only
  repeat' split
  all_goals first | (simp; done) | (apply hwLockAccess_core; intro t; split <;> simp)
@[simp] theorem lockRelease_fuses (port : LockPort) (value : Nat) (s : State) : fuseView (lockRelease port value s) = fuseView s := fuses_of_core (lockRelease_core port value s)
@[simp] theorem lockRelease_memOk (port : LockPort) (value : Nat) (s : State) : MemOk (lockRelease port value s) ↔ MemOk s := memOk_of_core (lockRelease_core port value s)
@[simp] theorem lockRelease_part (port : LockPort) (value : Nat) (s : State) {sp : StatePart} (g_braid : sp ≠ .braid) (g_locks : sp ≠ .locks) (g_events : sp ≠ .events) : part sp (lockRelease port value s) = part sp s := by
  unfold lockRelease
  dsimp only
  repeat' split
  all_goals first | (simp [*]; done) | (refine hwLockAccess_part _ _ ?_ g_locks; intro t; split <;> simp [*])
@[simp] theorem lockHoldExpiry_core (n : Nat) (s : State) : coreView (lockHoldExpiry n s) = coreView s := by
  unfold lockHoldExpiry
  simp [core_ite]
@[simp] theorem lockHoldExpiry_fuses (n : Nat) (s : State) : fuseView (lockHoldExpiry n s) = fuseView s := fuses_of_core (lockHoldExpiry_core n s)
@[simp] theorem lockHoldExpiry_memOk (n : Nat) (s : State) : MemOk (lockHoldExpiry n s) ↔ MemOk s := memOk_of_core (lockHoldExpiry_core n s)
@[simp] theorem lockHoldExpiry_part (n : Nat) (s : State) {sp : StatePart} (g_braid : sp ≠ .braid) (g_locks : sp ≠ .locks) (g_events : sp ≠ .events) : part sp (lockHoldExpiry n s) = part sp s := by
  unfold lockHoldExpiry
  simp [part_ite, *]
@[simp] theorem timebaseLoRead_core (debug : Bool) (s : State) : coreView (timebaseLoRead debug s) = coreView s := by
  rfl
@[simp] theorem timebaseLoRead_fuses (debug : Bool) (s : State) : fuseView (timebaseLoRead debug s) = fuseView s := fuses_of_core (timebaseLoRead_core debug s)
@[simp] theorem timebaseLoRead_memOk (debug : Bool) (s : State) : MemOk (timebaseLoRead debug s) ↔ MemOk s := memOk_of_core (timebaseLoRead_core debug s)
@[simp] theorem timebaseLoRead_part (debug : Bool) (s : State) {sp : StatePart} (g_host : sp ≠ .host) : part sp (timebaseLoRead debug s) = part sp s := by
  cases sp <;> first | rfl | contradiction
@[simp] theorem receiveTlp_core (r : Req) (s : State) : coreView (receiveTlp r s) = coreView s := by
  rfl
@[simp] theorem receiveTlp_fuses (r : Req) (s : State) : fuseView (receiveTlp r s) = fuseView s := fuses_of_core (receiveTlp_core r s)
@[simp] theorem receiveTlp_memOk (r : Req) (s : State) : MemOk (receiveTlp r s) ↔ MemOk s := memOk_of_core (receiveTlp_core r s)
@[simp] theorem receiveTlp_part (r : Req) (s : State) {sp : StatePart} (g_host : sp ≠ .host) : part sp (receiveTlp r s) = part sp s := by
  cases sp <;> first | rfl | contradiction
@[simp] theorem msixTick_core (s : State) : coreView (msixTick s) = coreView s := by
  rfl
@[simp] theorem msixTick_fuses (s : State) : fuseView (msixTick s) = fuseView s := fuses_of_core (msixTick_core s)
@[simp] theorem msixTick_memOk (s : State) : MemOk (msixTick s) ↔ MemOk s := memOk_of_core (msixTick_core s)
@[simp] theorem msixTick_part (s : State) {sp : StatePart} (g_host : sp ≠ .host) : part sp (msixTick s) = part sp s := by
  cases sp <;> first | rfl | contradiction
@[simp] theorem bridgeTick_core (s : State) : coreView (bridgeTick s) = coreView s := by
  unfold bridgeTick
  simp
@[simp] theorem bridgeTick_fuses (s : State) : fuseView (bridgeTick s) = fuseView s := fuses_of_core (bridgeTick_core s)
@[simp] theorem bridgeTick_memOk (s : State) : MemOk (bridgeTick s) ↔ MemOk s := memOk_of_core (bridgeTick_core s)
@[simp] theorem bridgeTick_part (s : State) {sp : StatePart} (g_braid : sp ≠ .braid) (g_host : sp ≠ .host) (g_eng : sp ≠ .eng) (g_events : sp ≠ .events) : part sp (bridgeTick s) = part sp s := by
  unfold bridgeTick
  simp [*]
@[simp] theorem bar2Request_core (o : Nat) (r : Req) (s : State) : coreView (bar2Request o r s) = coreView s := by
  unfold bar2Request
  split <;> simp
@[simp] theorem bar2Request_fuses (o : Nat) (r : Req) (s : State) : fuseView (bar2Request o r s) = fuseView s := fuses_of_core (bar2Request_core o r s)
@[simp] theorem bar2Request_memOk (o : Nat) (r : Req) (s : State) : MemOk (bar2Request o r s) ↔ MemOk s := memOk_of_core (bar2Request_core o r s)
@[simp] theorem bar2Request_part (o : Nat) (r : Req) (s : State) {sp : StatePart} (g_host : sp ≠ .host) : part sp (bar2Request o r s) = part sp s := by
  unfold bar2Request
  split <;> simp [*]
@[simp] theorem pcieReset_core (s : State) : coreView (pcieReset s) = coreView s := by
  unfold pcieReset
  simp
@[simp] theorem pcieReset_fuses (s : State) : fuseView (pcieReset s) = fuseView s := fuses_of_core (pcieReset_core s)
@[simp] theorem pcieReset_memOk (s : State) : MemOk (pcieReset s) ↔ MemOk s := memOk_of_core (pcieReset_core s)
@[simp] theorem pcieReset_part (s : State) {sp : StatePart} (g_braid : sp ≠ .braid) (g_ferry : sp ≠ .ferry) (g_locks : sp ≠ .locks) (g_host : sp ≠ .host) (g_eng : sp ≠ .eng) (g_events : sp ≠ .events) : part sp (pcieReset s) = part sp s := by
  unfold pcieReset
  simp [*]
@[simp] theorem bar0Write_core (o : Nat) (v : Nat) (s : State) : coreView (bar0Write o v s) = coreView s := by
  unfold bar0Write
  simp [core_ite]
@[simp] theorem bar0Write_fuses (o : Nat) (v : Nat) (s : State) : fuseView (bar0Write o v s) = fuseView s := fuses_of_core (bar0Write_core o v s)
@[simp] theorem bar0Write_memOk (o : Nat) (v : Nat) (s : State) : MemOk (bar0Write o v s) ↔ MemOk s := memOk_of_core (bar0Write_core o v s)
@[simp] theorem bar0Write_part (o : Nat) (v : Nat) (s : State) {sp : StatePart} (g_host : sp ≠ .host) (g_events : sp ≠ .events) : part sp (bar0Write o v s) = part sp s := by
  unfold bar0Write
  simp [part_ite, *]
theorem braidWrite_core {d : Delivered} {s t : State} (h : braidWrite d s = some t) : coreView t = coreView s := by
  unfold braidWrite at h
  dsimp only at h
  repeat' split at h
  all_goals first | (cases h; done) | (cases h; rfl) | (cases h; simp; done)

theorem braidWrite_part {d : Delivered} {s t : State} (h : braidWrite d s = some t) {sp : StatePart} (g_events : sp ≠ .events) (g_eng : sp ≠ .eng) : part sp t = part sp s := by
  unfold braidWrite at h
  dsimp only at h
  repeat' split at h
  all_goals first | (cases h; done) | (cases h; simp [*]; done)

@[simp] theorem registerWrite_core (a : RegAccess) (s : State) : coreView (registerWrite a s) = coreView s := by
  unfold registerWrite
  repeat' split
  all_goals first | (simp [*]; done) | (rename_i h; simp [*, braidWrite_core h]; done) | (rename_i h _; simp [*, braidWrite_core h]; done) | (rename_i h _ _; simp [*, braidWrite_core h]; done) | (rename_i h _ _ _; simp [*, braidWrite_core h]; done) | (rename_i h _ _ _ _; simp [*, braidWrite_core h]; done) | rfl
@[simp] theorem registerWrite_fuses (a : RegAccess) (s : State) : fuseView (registerWrite a s) = fuseView s := fuses_of_core (registerWrite_core a s)
@[simp] theorem registerWrite_memOk (a : RegAccess) (s : State) : MemOk (registerWrite a s) ↔ MemOk s := memOk_of_core (registerWrite_core a s)
@[simp] theorem registerWrite_part (a : RegAccess) (s : State) {sp : StatePart} (g_braid : sp ≠ .braid) (g_host : sp ≠ .host) (g_eng : sp ≠ .eng) (g_events : sp ≠ .events) : part sp (registerWrite a s) = part sp s := by
  unfold registerWrite
  repeat' split
  all_goals first | (simp [*]; done) | (rename_i h; simp [*, braidWrite_part h]; done) | (rename_i h _; simp [*, braidWrite_part h]; done) | (rename_i h _ _; simp [*, braidWrite_part h]; done) | (rename_i h _ _ _; simp [*, braidWrite_part h]; done) | (rename_i h _ _ _ _; simp [*, braidWrite_part h]; done) | (simp [*]; cases sp <;> first | rfl | contradiction) | (cases sp <;> first | rfl | contradiction)
@[simp] theorem kmRngOutRead_core (pid : Nat) (draw : BitVec 64) (s : State) : coreView (kmRngOutRead pid draw s) = coreView s := by
  unfold kmRngOutRead
  dsimp only
  repeat' split
  all_goals simp [*]
@[simp] theorem kmRngOutRead_fuses (pid : Nat) (draw : BitVec 64) (s : State) : fuseView (kmRngOutRead pid draw s) = fuseView s := fuses_of_core (kmRngOutRead_core pid draw s)
@[simp] theorem kmRngOutRead_memOk (pid : Nat) (draw : BitVec 64) (s : State) : MemOk (kmRngOutRead pid draw s) ↔ MemOk s := memOk_of_core (kmRngOutRead_core pid draw s)
@[simp] theorem kmRngOutRead_part (pid : Nat) (draw : BitVec 64) (s : State) {sp : StatePart} (g_braid : sp ≠ .braid) (g_crypto : sp ≠ .crypto) (g_events : sp ≠ .events) : part sp (kmRngOutRead pid draw s) = part sp s := by
  unfold kmRngOutRead
  dsimp only
  repeat' split
  all_goals simp [*]
@[simp] theorem cfgXspiRdRead_core (pid : Nat) (s : State) : coreView (cfgXspiRdRead pid s) = coreView s := by
  unfold cfgXspiRdRead
  repeat' split
  all_goals simp [*]
@[simp] theorem cfgXspiRdRead_fuses (pid : Nat) (s : State) : fuseView (cfgXspiRdRead pid s) = fuseView s := fuses_of_core (cfgXspiRdRead_core pid s)
@[simp] theorem cfgXspiRdRead_memOk (pid : Nat) (s : State) : MemOk (cfgXspiRdRead pid s) ↔ MemOk s := memOk_of_core (cfgXspiRdRead_core pid s)
@[simp] theorem cfgXspiRdRead_part (pid : Nat) (s : State) {sp : StatePart} (g_braid : sp ≠ .braid) (g_fabric : sp ≠ .fabric) (g_events : sp ≠ .events) : part sp (cfgXspiRdRead pid s) = part sp s := by
  unfold cfgXspiRdRead
  repeat' split
  all_goals simp [*]
@[simp] theorem rillAccess_core (s : State) : coreView (rillAccess s) = coreView s := by
  unfold rillAccess
  repeat' split
  all_goals first | (simp; done) | (simp; rfl) | rfl
@[simp] theorem rillAccess_fuses (s : State) : fuseView (rillAccess s) = fuseView s := fuses_of_core (rillAccess_core s)
@[simp] theorem rillAccess_memOk (s : State) : MemOk (rillAccess s) ↔ MemOk s := memOk_of_core (rillAccess_core s)
@[simp] theorem rillAccess_part (s : State) {sp : StatePart} (g_braid : sp ≠ .braid) (g_tbase : sp ≠ .tbase) (g_events : sp ≠ .events) (g_rill : sp ≠ .rill) : part sp (rillAccess s) = part sp s := by
  unfold rillAccess
  repeat' split
  all_goals first | (simp [*]; done) | (simp [*]; cases sp <;> first | rfl | contradiction) | (cases sp <;> first | rfl | contradiction)

end Sys2Proof.Machine
end

