-- ==== Sys2Proof/Laws/FrameLanes.lean ====
section
/-! SUPPORT. Frame lemmas of the lanes, the ports and the twin: which parts of the state each function leaves alone, which leave the fuses and the bytes of memory alone, and that the others keep memory in its canonical form. -/

set_option linter.all false

namespace Sys2Proof.Machine
open Sys2Proof

@[simp] theorem clearWords_fuses (a : Nat) (n : Nat) (s : State) : fuseView (clearWords a n s) = fuseView s := by
  rfl
@[simp] theorem clearWords_memOk (a : Nat) (n : Nat) (s : State) (h : MemOk s) : MemOk (clearWords a n s) := by
  unfold clearWords
  exact wf_mzero _ _ h
@[simp] theorem clearWords_part (a : Nat) (n : Nat) (s : State) {sp : StatePart} (g_mems : sp ≠ .mems) : part sp (clearWords a n s) = part sp s := by
  cases sp <;> first | rfl | contradiction
@[simp] theorem clearUnit_fuses (u : Nat) (s : State) : fuseView (clearUnit u s) = fuseView s := by
  unfold clearUnit
  split <;> simp
@[simp] theorem clearUnit_memOk (u : Nat) (s : State) (h : MemOk s) : MemOk (clearUnit u s) := by
  unfold clearUnit
  dsimp only
  split
  · exact clearWords_memOk _ _ _ h
  · exact clearWords_memOk _ _ _ h
@[simp] theorem clearUnit_part (u : Nat) (s : State) {sp : StatePart} (g_mems : sp ≠ .mems) : part sp (clearUnit u s) = part sp s := by
  unfold clearUnit
  split <;> simp [*]
@[simp] theorem unitOff_fuses (u : Nat) (s : State) : fuseView (unitOff u s) = fuseView s := by
  unfold unitOff
  split <;> simp
@[simp] theorem unitOff_memOk (u : Nat) (s : State) (h : MemOk s) : MemOk (unitOff u s) := by
  unfold unitOff
  repeat' split
  all_goals simp [*]
@[simp] theorem unitOff_part (u : Nat) (s : State) {sp : StatePart} (g_mems : sp ≠ .mems) : part sp (unitOff u s) = part sp s := by
  unfold unitOff
  split <;> simp [*]
@[simp] theorem engineOff_fuses (k : Nat) (s : State) : fuseView (engineOff k s) = fuseView s := by
  unfold engineOff
  simp
@[simp] theorem engineOff_memOk (k : Nat) (s : State) (h : MemOk s) : MemOk (engineOff k s) := by
  unfold engineOff
  simp [*]
@[simp] theorem engineOff_part (k : Nat) (s : State) {sp : StatePart} (g_braid : sp ≠ .braid) (g_ferry : sp ≠ .ferry) (g_locks : sp ≠ .locks) (g_eng : sp ≠ .eng) (g_mems : sp ≠ .mems) (g_events : sp ≠ .events) : part sp (engineOff k s) = part sp s := by
  unfold engineOff
  simp [*]
@[simp] theorem endScan_core (l : Nat) (s : State) : coreView (endScan l s) = coreView s := by
  unfold endScan
  split <;> simp
@[simp] theorem endScan_fuses (l : Nat) (s : State) : fuseView (endScan l s) = fuseView s := fuses_of_core (endScan_core l s)
@[simp] theorem endScan_memOk (l : Nat) (s : State) : MemOk (endScan l s) ↔ MemOk s := memOk_of_core (endScan_core l s)
@[simp] theorem endScan_part (l : Nat) (s : State) {sp : StatePart} (g_braid : sp ≠ .braid) (g_ferry : sp ≠ .ferry) (g_lanes : sp ≠ .lanes) (g_twin : sp ≠ .twin) (g_debug : sp ≠ .debug) (g_events : sp ≠ .events) : part sp (endScan l s) = part sp s := by
  unfold endScan
  split <;> simp [*]
@[simp] theorem lanesOff_core (ls : List Nat) (pll : Nat) (s : State) : coreView (lanesOff ls pll s) = coreView s := by
  unfold lanesOff
  simp
@[simp] theorem lanesOff_fuses (ls : List Nat) (pll : Nat) (s : State) : fuseView (lanesOff ls pll s) = fuseView s := fuses_of_core (lanesOff_core ls pll s)
@[simp] theorem lanesOff_memOk (ls : List Nat) (pll : Nat) (s : State) : MemOk (lanesOff ls pll s) ↔ MemOk s := memOk_of_core (lanesOff_core ls pll s)
@[simp] theorem lanesOff_part (ls : List Nat) (pll : Nat) (s : State) {sp : StatePart} (g_braid : sp ≠ .braid) (g_ferry : sp ≠ .ferry) (g_lanes : sp ≠ .lanes) (g_twin : sp ≠ .twin) (g_debug : sp ≠ .debug) (g_events : sp ≠ .events) : part sp (lanesOff ls pll s) = part sp s := by
  unfold lanesOff
  simp [*]
@[simp] theorem clearRegion_core (r : Nat) (s : State) : coreView (clearRegion r s) = coreView s := by
  rfl
@[simp] theorem clearRegion_fuses (r : Nat) (s : State) : fuseView (clearRegion r s) = fuseView s := fuses_of_core (clearRegion_core r s)
@[simp] theorem clearRegion_memOk (r : Nat) (s : State) : MemOk (clearRegion r s) ↔ MemOk s := memOk_of_core (clearRegion_core r s)
@[simp] theorem clearRegion_part (r : Nat) (s : State) {sp : StatePart} (g_fabric : sp ≠ .fabric) : part sp (clearRegion r s) = part sp s := by
  cases sp <;> first | rfl | contradiction
@[simp] theorem keepNow_core (c : Nat) (s : State) : coreView (keepNow c s) = coreView s := by
  rfl
@[simp] theorem keepNow_fuses (c : Nat) (s : State) : fuseView (keepNow c s) = fuseView s := fuses_of_core (keepNow_core c s)
@[simp] theorem keepNow_memOk (c : Nat) (s : State) : MemOk (keepNow c s) ↔ MemOk s := memOk_of_core (keepNow_core c s)
@[simp] theorem keepNow_part (c : Nat) (s : State) {sp : StatePart} (g_dram : sp ≠ .dram) : part sp (keepNow c s) = part sp s := by
  cases sp <;> first | rfl | contradiction
@[simp] theorem channelOff_core (c : Nat) (s : State) : coreView (channelOff c s) = coreView s := by
  rfl
@[simp] theorem channelOff_fuses (c : Nat) (s : State) : fuseView (channelOff c s) = fuseView s := fuses_of_core (channelOff_core c s)
@[simp] theorem channelOff_memOk (c : Nat) (s : State) : MemOk (channelOff c s) ↔ MemOk s := memOk_of_core (channelOff_core c s)
@[simp] theorem channelOff_part (c : Nat) (s : State) {sp : StatePart} (g_dram : sp ≠ .dram) : part sp (channelOff c s) = part sp s := by
  cases sp <;> first | rfl | contradiction
@[simp] theorem domainLoss_fuses (d : Nat) (s : State) : fuseView (domainLoss d s) = fuseView s := by
  unfold domainLoss
  repeat' split
  · rw [unitOff_fuses]; exact forAll_fuses _ _ _ (fun t x => by simp)
  · simp
  · simp
  · simp
  · simp
  · exact modCrypto_fuses _ _
  · simp
  · rfl
  · simp
  · rfl
@[simp] theorem domainLoss_memOk (d : Nat) (s : State) (h : MemOk s) : MemOk (domainLoss d s) := by
  unfold domainLoss
  repeat' split
  · exact unitOff_memOk _ _ (forAll_memOk _ _ _ (fun t x ht => engineOff_memOk _ _ ht) h)
  · simpa using h
  · simpa using h
  · simpa using h
  · exact unitOff_memOk _ _ (unitOff_memOk _ _ h)
  · exact h
  · simpa using h
  · exact h
  · simpa using h
  · exact h
@[simp] theorem domainLoss_part (d : Nat) (s : State) {sp : StatePart} (g_braid : sp ≠ .braid) (g_ferry : sp ≠ .ferry) (g_locks : sp ≠ .locks) (g_lanes : sp ≠ .lanes) (g_twin : sp ≠ .twin) (g_eng : sp ≠ .eng) (g_dram : sp ≠ .dram) (g_mems : sp ≠ .mems) (g_crypto : sp ≠ .crypto) (g_fabric : sp ≠ .fabric) (g_bw : sp ≠ .bw) (g_bwx : sp ≠ .bwx) (g_debug : sp ≠ .debug) (g_events : sp ≠ .events) : part sp (domainLoss d s) = part sp s := by
  unfold domainLoss
  repeat' split
  all_goals first | (simp [*]; done) | (simp [*]; cases sp <;> first | rfl | contradiction) | (cases sp <;> first | rfl | contradiction)
@[simp] theorem holdVcc_core (s : State) : coreView (holdVcc s) = coreView s := by
  unfold holdVcc
  split <;> simp
@[simp] theorem holdVcc_fuses (s : State) : fuseView (holdVcc s) = fuseView s := fuses_of_core (holdVcc_core s)
@[simp] theorem holdVcc_memOk (s : State) : MemOk (holdVcc s) ↔ MemOk s := memOk_of_core (holdVcc_core s)
@[simp] theorem holdVcc_part (s : State) {sp : StatePart} (g_power : sp ≠ .power) : part sp (holdVcc s) = part sp s := by
  unfold holdVcc
  split <;> simp [*]
@[simp] theorem quadOn_core (q : Nat) (s : State) : coreView (quadOn q s) = coreView s := by
  unfold quadOn
  simp [core_ite]
@[simp] theorem quadOn_fuses (q : Nat) (s : State) : fuseView (quadOn q s) = fuseView s := fuses_of_core (quadOn_core q s)
@[simp] theorem quadOn_memOk (q : Nat) (s : State) : MemOk (quadOn q s) ↔ MemOk s := memOk_of_core (quadOn_core q s)
@[simp] theorem quadOn_part (q : Nat) (s : State) {sp : StatePart} (g_eng : sp ≠ .eng) (g_power : sp ≠ .power) : part sp (quadOn q s) = part sp s := by
  unfold quadOn
  simp [part_ite, *]
@[simp] theorem domainOff_fuses (d : Nat) (s : State) : fuseView (domainOff d s) = fuseView s := by
  unfold domainOff
  split <;> simp
@[simp] theorem domainOff_memOk (d : Nat) (s : State) (h : MemOk s) : MemOk (domainOff d s) := by
  unfold domainOff
  repeat' split
  all_goals simp [*]
@[simp] theorem domainOff_part (d : Nat) (s : State) {sp : StatePart} (g_braid : sp ≠ .braid) (g_ferry : sp ≠ .ferry) (g_locks : sp ≠ .locks) (g_lanes : sp ≠ .lanes) (g_twin : sp ≠ .twin) (g_eng : sp ≠ .eng) (g_dram : sp ≠ .dram) (g_mems : sp ≠ .mems) (g_crypto : sp ≠ .crypto) (g_fabric : sp ≠ .fabric) (g_bw : sp ≠ .bw) (g_bwx : sp ≠ .bwx) (g_power : sp ≠ .power) (g_debug : sp ≠ .debug) (g_events : sp ≠ .events) : part sp (domainOff d s) = part sp s := by
  unfold domainOff
  split <;> simp [*]
@[simp] theorem storedLanes_core (q : Nat) (s : State) : coreView (storedLanes q s) = coreView s := by
  unfold storedLanes
  refine (forAll_core _ _ _ (fun t x => ?_))
  split <;> simp
@[simp] theorem storedLanes_fuses (q : Nat) (s : State) : fuseView (storedLanes q s) = fuseView s := fuses_of_core (storedLanes_core q s)
@[simp] theorem storedLanes_memOk (q : Nat) (s : State) : MemOk (storedLanes q s) ↔ MemOk s := memOk_of_core (storedLanes_core q s)
@[simp] theorem storedLanes_part (q : Nat) (s : State) {sp : StatePart} (g_lanes : sp ≠ .lanes) : part sp (storedLanes q s) = part sp s := by
  unfold storedLanes
  refine (forAll_part _ _ _ (fun t x => ?_))
  split <;> simp [*]
@[simp] theorem dramCount_core (c : Nat) (i : Nat) (n : Nat) (s : State) : coreView (dramCount c i n s) = coreView s := by
  rfl
@[simp] theorem dramCount_fuses (c : Nat) (i : Nat) (n : Nat) (s : State) : fuseView (dramCount c i n s) = fuseView s := fuses_of_core (dramCount_core c i n s)
@[simp] theorem dramCount_memOk (c : Nat) (i : Nat) (n : Nat) (s : State) : MemOk (dramCount c i n s) ↔ MemOk s := memOk_of_core (dramCount_core c i n s)
@[simp] theorem dramCount_part (c : Nat) (i : Nat) (n : Nat) (s : State) {sp : StatePart} (g_dram : sp ≠ .dram) : part sp (dramCount c i n s) = part sp s := by
  cases sp <;> first | rfl | contradiction
@[simp] theorem loseEighths_core (c : Nat) (lost : Nat) (s : State) : coreView (loseEighths c lost s) = coreView s := by
  rfl
@[simp] theorem loseEighths_fuses (c : Nat) (lost : Nat) (s : State) : fuseView (loseEighths c lost s) = fuseView s := fuses_of_core (loseEighths_core c lost s)
@[simp] theorem loseEighths_memOk (c : Nat) (lost : Nat) (s : State) : MemOk (loseEighths c lost s) ↔ MemOk s := memOk_of_core (loseEighths_core c lost s)
@[simp] theorem loseEighths_part (c : Nat) (lost : Nat) (s : State) {sp : StatePart} (g_dram : sp ≠ .dram) (g_mems : sp ≠ .mems) : part sp (loseEighths c lost s) = part sp s := by
  cases sp <;> first | rfl | contradiction
@[simp] theorem leaveSelfRefresh_core (c : Nat) (s : State) : coreView (leaveSelfRefresh c s) = coreView s := by
  unfold leaveSelfRefresh
  simp
@[simp] theorem leaveSelfRefresh_fuses (c : Nat) (s : State) : fuseView (leaveSelfRefresh c s) = fuseView s := fuses_of_core (leaveSelfRefresh_core c s)
@[simp] theorem leaveSelfRefresh_memOk (c : Nat) (s : State) : MemOk (leaveSelfRefresh c s) ↔ MemOk s := memOk_of_core (leaveSelfRefresh_core c s)
@[simp] theorem leaveSelfRefresh_part (c : Nat) (s : State) {sp : StatePart} (g_dram : sp ≠ .dram) (g_mems : sp ≠ .mems) : part sp (leaveSelfRefresh c s) = part sp s := by
  unfold leaveSelfRefresh
  simp [*]
@[simp] theorem braidSwaps_core (d : Nat) (s : State) : coreView (braidSwaps d s) = coreView s := by
  unfold braidSwaps
  simp
@[simp] theorem braidSwaps_fuses (d : Nat) (s : State) : fuseView (braidSwaps d s) = fuseView s := fuses_of_core (braidSwaps_core d s)
@[simp] theorem braidSwaps_memOk (d : Nat) (s : State) : MemOk (braidSwaps d s) ↔ MemOk s := memOk_of_core (braidSwaps_core d s)
@[simp] theorem braidSwaps_part (d : Nat) (s : State) {sp : StatePart} (g_braid : sp ≠ .braid) (g_ferry : sp ≠ .ferry) (g_delta : sp ≠ .delta) (g_dram : sp ≠ .dram) : part sp (braidSwaps d s) = part sp s := by
  unfold braidSwaps
  simp [*]
@[simp] theorem domainOn_core (d : Nat) (s : State) : coreView (domainOn d s) = coreView s := by
  unfold domainOn
  simp [core_ite]
@[simp] theorem domainOn_fuses (d : Nat) (s : State) : fuseView (domainOn d s) = fuseView s := fuses_of_core (domainOn_core d s)
@[simp] theorem domainOn_memOk (d : Nat) (s : State) : MemOk (domainOn d s) ↔ MemOk s := memOk_of_core (domainOn_core d s)
@[simp] theorem domainOn_part (d : Nat) (s : State) {sp : StatePart} (g_braid : sp ≠ .braid) (g_ferry : sp ≠ .ferry) (g_lanes : sp ≠ .lanes) (g_delta : sp ≠ .delta) (g_eng : sp ≠ .eng) (g_dram : sp ≠ .dram) (g_mems : sp ≠ .mems) (g_fabric : sp ≠ .fabric) (g_power : sp ≠ .power) : part sp (domainOn d s) = part sp s := by
  unfold domainOn
  simp [part_ite, *]
theorem wakeFor_core {d : Nat} {s t : State} (h : wakeFor d s = some t) : coreView t = coreView s := by
  unfold wakeFor at h
  repeat' split at h
  all_goals first | (cases h; done) | (cases h; rfl) | (cases h; simp; done)

theorem wakeFor_part {d : Nat} {s t : State} (h : wakeFor d s = some t) {sp : StatePart} (g_braid : sp ≠ .braid) (g_ferry : sp ≠ .ferry) (g_lanes : sp ≠ .lanes) (g_delta : sp ≠ .delta) (g_eng : sp ≠ .eng) (g_dram : sp ≠ .dram) (g_mems : sp ≠ .mems) (g_fabric : sp ≠ .fabric) (g_power : sp ≠ .power) : part sp t = part sp s := by
  unfold wakeFor at h
  repeat' split at h
  all_goals first | (cases h; done) | (cases h; rfl) | (cases h; simp [*]; done)

@[simp] theorem setPll_core (q : Nat) (p : PllState) (s : State) : coreView (setPll q p s) = coreView s := by
  rfl
@[simp] theorem setPll_fuses (q : Nat) (p : PllState) (s : State) : fuseView (setPll q p s) = fuseView s := fuses_of_core (setPll_core q p s)
@[simp] theorem setPll_memOk (q : Nat) (p : PllState) (s : State) : MemOk (setPll q p s) ↔ MemOk s := memOk_of_core (setPll_core q p s)
@[simp] theorem setPll_part (q : Nat) (p : PllState) (s : State) {sp : StatePart} (g_lanes : sp ≠ .lanes) : part sp (setPll q p s) = part sp s := by
  cases sp <;> first | rfl | contradiction
@[simp] theorem modLinkSlot_core (link : Nat) (dir : Nat) (slot : Nat) (f : LinkSlot → LinkSlot) (s : State) : coreView (modLinkSlot link dir slot f s) = coreView s := by
  rfl
@[simp] theorem modLinkSlot_fuses (link : Nat) (dir : Nat) (slot : Nat) (f : LinkSlot → LinkSlot) (s : State) : fuseView (modLinkSlot link dir slot f s) = fuseView s := fuses_of_core (modLinkSlot_core link dir slot f s)
@[simp] theorem modLinkSlot_memOk (link : Nat) (dir : Nat) (slot : Nat) (f : LinkSlot → LinkSlot) (s : State) : MemOk (modLinkSlot link dir slot f s) ↔ MemOk s := memOk_of_core (modLinkSlot_core link dir slot f s)
@[simp] theorem modLinkSlot_part (link : Nat) (dir : Nat) (slot : Nat) (f : LinkSlot → LinkSlot) (s : State) {sp : StatePart} (g_crypto : sp ≠ .crypto) : part sp (modLinkSlot link dir slot f s) = part sp s := by
  cases sp <;> first | rfl | contradiction
@[simp] theorem sealFrame_core (link : Nat) (l : Nat) (data : List Block) (s : State) : coreView (sealFrame link l data s).2 = coreView s := by
  unfold sealFrame
  simp [core_ite]
@[simp] theorem sealFrame_fuses (link : Nat) (l : Nat) (data : List Block) (s : State) : fuseView (sealFrame link l data s).2 = fuseView s := fuses_of_core (sealFrame_core link l data s)
@[simp] theorem sealFrame_memOk (link : Nat) (l : Nat) (data : List Block) (s : State) : MemOk (sealFrame link l data s).2 ↔ MemOk s := memOk_of_core (sealFrame_core link l data s)
@[simp] theorem sealFrame_part (link : Nat) (l : Nat) (data : List Block) (s : State) {sp : StatePart} (g_braid : sp ≠ .braid) (g_crypto : sp ≠ .crypto) (g_events : sp ≠ .events) : part sp (sealFrame link l data s).2 = part sp s := by
  unfold sealFrame
  simp [part_ite, *]
@[simp] theorem portCount_core (p : Nat) (k : Nat) (n : Nat) (s : State) : coreView (portCount p k n s) = coreView s := by
  rfl
@[simp] theorem portCount_fuses (p : Nat) (k : Nat) (n : Nat) (s : State) : fuseView (portCount p k n s) = fuseView s := fuses_of_core (portCount_core p k n s)
@[simp] theorem portCount_memOk (p : Nat) (k : Nat) (n : Nat) (s : State) : MemOk (portCount p k n s) ↔ MemOk s := memOk_of_core (portCount_core p k n s)
@[simp] theorem portCount_part (p : Nat) (k : Nat) (n : Nat) (s : State) {sp : StatePart} (g_delta : sp ≠ .delta) : part sp (portCount p k n s) = part sp s := by
  cases sp <;> first | rfl | contradiction
@[simp] theorem laneEv_core (l : Nat) (quality : Nat) (cause : Nat) (sev : Nat) (s : State) : coreView (laneEv l quality cause sev s) = coreView s := by
  unfold laneEv
  split <;> simp
@[simp] theorem laneEv_fuses (l : Nat) (quality : Nat) (cause : Nat) (sev : Nat) (s : State) : fuseView (laneEv l quality cause sev s) = fuseView s := fuses_of_core (laneEv_core l quality cause sev s)
@[simp] theorem laneEv_memOk (l : Nat) (quality : Nat) (cause : Nat) (sev : Nat) (s : State) : MemOk (laneEv l quality cause sev s) ↔ MemOk s := memOk_of_core (laneEv_core l quality cause sev s)
@[simp] theorem laneEv_part (l : Nat) (quality : Nat) (cause : Nat) (sev : Nat) (s : State) {sp : StatePart} (g_braid : sp ≠ .braid) (g_events : sp ≠ .events) : part sp (laneEv l quality cause sev s) = part sp s := by
  unfold laneEv
  split <;> simp [*]
@[simp] theorem laneEvLimited_core (l : Nat) (cause : Nat) (sev : Nat) (s : State) : coreView (laneEvLimited l cause sev s) = coreView s := by
  unfold laneEvLimited
  split <;> simp
@[simp] theorem laneEvLimited_fuses (l : Nat) (cause : Nat) (sev : Nat) (s : State) : fuseView (laneEvLimited l cause sev s) = fuseView s := fuses_of_core (laneEvLimited_core l cause sev s)
@[simp] theorem laneEvLimited_memOk (l : Nat) (cause : Nat) (sev : Nat) (s : State) : MemOk (laneEvLimited l cause sev s) ↔ MemOk s := memOk_of_core (laneEvLimited_core l cause sev s)
@[simp] theorem laneEvLimited_part (l : Nat) (cause : Nat) (sev : Nat) (s : State) {sp : StatePart} (g_braid : sp ≠ .braid) (g_events : sp ≠ .events) : part sp (laneEvLimited l cause sev s) = part sp s := by
  unfold laneEvLimited
  split <;> simp [*]
@[simp] theorem rxFallTo_core (l : Nat) (r : RxState) (s : State) : coreView (rxFallTo l r s) = coreView s := by
  unfold rxFallTo
  simp
@[simp] theorem rxFallTo_fuses (l : Nat) (r : RxState) (s : State) : fuseView (rxFallTo l r s) = fuseView s := fuses_of_core (rxFallTo_core l r s)
@[simp] theorem rxFallTo_memOk (l : Nat) (r : RxState) (s : State) : MemOk (rxFallTo l r s) ↔ MemOk s := memOk_of_core (rxFallTo_core l r s)
@[simp] theorem rxFallTo_part (l : Nat) (r : RxState) (s : State) {sp : StatePart} (g_braid : sp ≠ .braid) (g_ferry : sp ≠ .ferry) (g_lanes : sp ≠ .lanes) (g_twin : sp ≠ .twin) (g_debug : sp ≠ .debug) (g_events : sp ≠ .events) : part sp (rxFallTo l r s) = part sp s := by
  unfold rxFallTo
  simp [*]
@[simp] theorem rxUp_core (l : Nat) (s : State) : coreView (rxUp l s) = coreView s := by
  unfold rxUp
  simp
@[simp] theorem rxUp_fuses (l : Nat) (s : State) : fuseView (rxUp l s) = fuseView s := fuses_of_core (rxUp_core l s)
@[simp] theorem rxUp_memOk (l : Nat) (s : State) : MemOk (rxUp l s) ↔ MemOk s := memOk_of_core (rxUp_core l s)
@[simp] theorem rxUp_part (l : Nat) (s : State) {sp : StatePart} (g_braid : sp ≠ .braid) (g_lanes : sp ≠ .lanes) (g_events : sp ≠ .events) : part sp (rxUp l s) = part sp s := by
  unfold rxUp
  simp [*]
@[simp] theorem pushBlocks_core (p : Nat) (l : List Block) (s : State) : coreView (pushBlocks p l s) = coreView s := by
  rfl
@[simp] theorem pushBlocks_fuses (p : Nat) (l : List Block) (s : State) : fuseView (pushBlocks p l s) = fuseView s := fuses_of_core (pushBlocks_core p l s)
@[simp] theorem pushBlocks_memOk (p : Nat) (l : List Block) (s : State) : MemOk (pushBlocks p l s) ↔ MemOk s := memOk_of_core (pushBlocks_core p l s)
@[simp] theorem pushBlocks_part (p : Nat) (l : List Block) (s : State) {sp : StatePart} (g_delta : sp ≠ .delta) : part sp (pushBlocks p l s) = part sp s := by
  cases sp <;> first | rfl | contradiction
@[simp] theorem dealFrame_core (p : Nat) (s : State) : coreView (dealFrame p s) = coreView s := by
  unfold dealFrame
  simp
@[simp] theorem dealFrame_fuses (p : Nat) (s : State) : fuseView (dealFrame p s) = fuseView s := fuses_of_core (dealFrame_core p s)
@[simp] theorem dealFrame_memOk (p : Nat) (s : State) : MemOk (dealFrame p s) ↔ MemOk s := memOk_of_core (dealFrame_core p s)
@[simp] theorem dealFrame_part (p : Nat) (s : State) {sp : StatePart} (g_lanes : sp ≠ .lanes) (g_delta : sp ≠ .delta) : part sp (dealFrame p s) = part sp s := by
  unfold dealFrame
  simp [*]
@[simp] theorem loadFrame_core (l : Nat) (s : State) : coreView (loadFrame l s) = coreView s := by
  unfold loadFrame
  repeat' split
  all_goals simp [*]
@[simp] theorem loadFrame_fuses (l : Nat) (s : State) : fuseView (loadFrame l s) = fuseView s := fuses_of_core (loadFrame_core l s)
@[simp] theorem loadFrame_memOk (l : Nat) (s : State) : MemOk (loadFrame l s) ↔ MemOk s := memOk_of_core (loadFrame_core l s)
@[simp] theorem loadFrame_part (l : Nat) (s : State) {sp : StatePart} (g_lanes : sp ≠ .lanes) (g_delta : sp ≠ .delta) : part sp (loadFrame l s) = part sp s := by
  unfold loadFrame
  repeat' split
  all_goals simp [*]
@[simp] theorem gather_core (p : Nat) (fuel : Nat) (s : State) : coreView (gather p fuel s) = coreView s := by
  induction fuel generalizing s with
  | zero => rfl
  | succ n ih =>
    unfold gather
    dsimp only
    repeat' split
    all_goals first | rfl | (simp [ih]; done) | (simp [ih]; split <;> simp)
@[simp] theorem gather_fuses (p : Nat) (fuel : Nat) (s : State) : fuseView (gather p fuel s) = fuseView s := fuses_of_core (gather_core p fuel s)
@[simp] theorem gather_memOk (p : Nat) (fuel : Nat) (s : State) : MemOk (gather p fuel s) ↔ MemOk s := memOk_of_core (gather_core p fuel s)
@[simp] theorem gather_part (p : Nat) (fuel : Nat) (s : State) {sp : StatePart} (g_lanes : sp ≠ .lanes) (g_delta : sp ≠ .delta) : part sp (gather p fuel s) = part sp s := by
  induction fuel generalizing s with
  | zero => rfl
  | succ n ih =>
    unfold gather
    dsimp only
    repeat' split
    all_goals first | rfl | (simp [ih, *]; done) | (simp [ih, *]; split <;> simp [*])
@[simp] theorem tagFail_core (p : Nat) (l : Nat) (s : State) : coreView (tagFail p l s) = coreView s := by
  unfold tagFail
  simp
@[simp] theorem tagFail_fuses (p : Nat) (l : Nat) (s : State) : fuseView (tagFail p l s) = fuseView s := fuses_of_core (tagFail_core p l s)
@[simp] theorem tagFail_memOk (p : Nat) (l : Nat) (s : State) : MemOk (tagFail p l s) ↔ MemOk s := memOk_of_core (tagFail_core p l s)
@[simp] theorem tagFail_part (p : Nat) (l : Nat) (s : State) {sp : StatePart} (g_braid : sp ≠ .braid) (g_lanes : sp ≠ .lanes) (g_delta : sp ≠ .delta) (g_events : sp ≠ .events) : part sp (tagFail p l s) = part sp s := by
  unfold tagFail
  simp [*]
@[simp] theorem deliverFrame_core (l : Nat) (last : Nat) (bad : Bool) (fr : List Block) (s : State) : coreView (deliverFrame l last bad fr s) = coreView s := by
  unfold deliverFrame
  repeat' split
  all_goals simp [*]
@[simp] theorem deliverFrame_fuses (l : Nat) (last : Nat) (bad : Bool) (fr : List Block) (s : State) : fuseView (deliverFrame l last bad fr s) = fuseView s := fuses_of_core (deliverFrame_core l last bad fr s)
@[simp] theorem deliverFrame_memOk (l : Nat) (last : Nat) (bad : Bool) (fr : List Block) (s : State) : MemOk (deliverFrame l last bad fr s) ↔ MemOk s := memOk_of_core (deliverFrame_core l last bad fr s)
@[simp] theorem deliverFrame_part (l : Nat) (last : Nat) (bad : Bool) (fr : List Block) (s : State) {sp : StatePart} (g_braid : sp ≠ .braid) (g_lanes : sp ≠ .lanes) (g_delta : sp ≠ .delta) (g_crypto : sp ≠ .crypto) (g_events : sp ≠ .events) : part sp (deliverFrame l last bad fr s) = part sp s := by
  unfold deliverFrame
  repeat' split
  all_goals simp [*]
@[simp] theorem cleanStream_core (p : Nat) (s : State) : coreView (cleanStream p s) = coreView s := by
  unfold cleanStream
  simp [core_ite]
@[simp] theorem cleanStream_fuses (p : Nat) (s : State) : fuseView (cleanStream p s) = fuseView s := fuses_of_core (cleanStream_core p s)
@[simp] theorem cleanStream_memOk (p : Nat) (s : State) : MemOk (cleanStream p s) ↔ MemOk s := memOk_of_core (cleanStream_core p s)
@[simp] theorem cleanStream_part (p : Nat) (s : State) {sp : StatePart} (g_delta : sp ≠ .delta) : part sp (cleanStream p s) = part sp s := by
  unfold cleanStream
  simp [part_ite, *]
theorem takeBlock_core {p t : Nat} {s u : State} {b : Block} (h : takeBlock p t s = some (b, u)) : coreView u = coreView s := by
  unfold takeBlock at h
  dsimp only at h
  repeat' split at h
  all_goals first | (cases h; done) | (cases h; simp; done)

theorem takeBlock_part {p t : Nat} {s u : State} {b : Block} (h : takeBlock p t s = some (b, u)) {sp : StatePart} (g_delta : sp ≠ .delta) : part sp u = part sp s := by
  unfold takeBlock at h
  dsimp only at h
  repeat' split at h
  all_goals first | (cases h; done) | (cases h; simp [*]; done)

@[simp] theorem lanePllReady_core (l : Nat) (s : State) : coreView (lanePllReady l s) = coreView s := by
  unfold lanePllReady
  simp [core_ite]
@[simp] theorem lanePllReady_fuses (l : Nat) (s : State) : fuseView (lanePllReady l s) = fuseView s := fuses_of_core (lanePllReady_core l s)
@[simp] theorem lanePllReady_memOk (l : Nat) (s : State) : MemOk (lanePllReady l s) ↔ MemOk s := memOk_of_core (lanePllReady_core l s)
@[simp] theorem lanePllReady_part (l : Nat) (s : State) {sp : StatePart} (g_braid : sp ≠ .braid) (g_ferry : sp ≠ .ferry) (g_lanes : sp ≠ .lanes) (g_twin : sp ≠ .twin) (g_debug : sp ≠ .debug) (g_events : sp ≠ .events) : part sp (lanePllReady l s) = part sp s := by
  unfold lanePllReady
  simp [part_ite, *]
@[simp] theorem lanePllLock_core (q : Nat) (s : State) : coreView (lanePllLock q s) = coreView s := by
  unfold lanePllLock
  split
  · refine (forAll_core _ _ _ (fun t x => ?_)).trans (by simp)
    split <;> simp
  · rfl
@[simp] theorem lanePllLock_fuses (q : Nat) (s : State) : fuseView (lanePllLock q s) = fuseView s := fuses_of_core (lanePllLock_core q s)
@[simp] theorem lanePllLock_memOk (q : Nat) (s : State) : MemOk (lanePllLock q s) ↔ MemOk s := memOk_of_core (lanePllLock_core q s)
@[simp] theorem lanePllLock_part (q : Nat) (s : State) {sp : StatePart} (g_braid : sp ≠ .braid) (g_ferry : sp ≠ .ferry) (g_lanes : sp ≠ .lanes) (g_twin : sp ≠ .twin) (g_debug : sp ≠ .debug) (g_events : sp ≠ .events) : part sp (lanePllLock q s) = part sp s := by
  unfold lanePllLock
  split
  · refine (forAll_part _ _ _ (fun t x => ?_)).trans (by simp [*])
    split <;> simp [*]
  · rfl
@[simp] theorem pllLockTimeout_core (q : Nat) (s : State) : coreView (pllLockTimeout q s) = coreView s := by
  unfold pllLockTimeout
  split
  · refine (forAll_core _ _ _ (fun t x => ?_)).trans (by simp)
    split <;> simp
  · rfl
@[simp] theorem pllLockTimeout_fuses (q : Nat) (s : State) : fuseView (pllLockTimeout q s) = fuseView s := fuses_of_core (pllLockTimeout_core q s)
@[simp] theorem pllLockTimeout_memOk (q : Nat) (s : State) : MemOk (pllLockTimeout q s) ↔ MemOk s := memOk_of_core (pllLockTimeout_core q s)
@[simp] theorem pllLockTimeout_part (q : Nat) (s : State) {sp : StatePart} (g_braid : sp ≠ .braid) (g_ferry : sp ≠ .ferry) (g_lanes : sp ≠ .lanes) (g_twin : sp ≠ .twin) (g_debug : sp ≠ .debug) (g_events : sp ≠ .events) : part sp (pllLockTimeout q s) = part sp s := by
  unfold pllLockTimeout
  split
  · refine (forAll_part _ _ _ (fun t x => ?_)).trans (by simp [*])
    split <;> simp [*]
  · rfl
@[simp] theorem pllUnlock_core (q : Nat) (s : State) : coreView (pllUnlock q s) = coreView s := by
  unfold pllUnlock
  split
  · refine (forAll_core _ _ _ (fun t x => ?_)).trans (by simp)
    split
    · dsimp only
      split <;> simp
    · rfl
  · rfl
@[simp] theorem pllUnlock_fuses (q : Nat) (s : State) : fuseView (pllUnlock q s) = fuseView s := fuses_of_core (pllUnlock_core q s)
@[simp] theorem pllUnlock_memOk (q : Nat) (s : State) : MemOk (pllUnlock q s) ↔ MemOk s := memOk_of_core (pllUnlock_core q s)
@[simp] theorem pllUnlock_part (q : Nat) (s : State) {sp : StatePart} (g_braid : sp ≠ .braid) (g_ferry : sp ≠ .ferry) (g_lanes : sp ≠ .lanes) (g_twin : sp ≠ .twin) (g_debug : sp ≠ .debug) (g_events : sp ≠ .events) : part sp (pllUnlock q s) = part sp s := by
  unfold pllUnlock
  split
  · refine (forAll_part _ _ _ (fun t x => ?_)).trans (by simp [*])
    split
    · dsimp only
      split <;> simp [*]
    · rfl
  · rfl
@[simp] theorem energyDetected_core (l : Nat) (s : State) : coreView (energyDetected l s) = coreView s := by
  unfold energyDetected
  split <;> simp
@[simp] theorem energyDetected_fuses (l : Nat) (s : State) : fuseView (energyDetected l s) = fuseView s := fuses_of_core (energyDetected_core l s)
@[simp] theorem energyDetected_memOk (l : Nat) (s : State) : MemOk (energyDetected l s) ↔ MemOk s := memOk_of_core (energyDetected_core l s)
@[simp] theorem energyDetected_part (l : Nat) (s : State) {sp : StatePart} (g_lanes : sp ≠ .lanes) : part sp (energyDetected l s) = part sp s := by
  unfold energyDetected
  split <;> simp [*]
@[simp] theorem cdrLock_core (l : Nat) (s : State) : coreView (cdrLock l s) = coreView s := by
  unfold cdrLock
  split <;> simp
@[simp] theorem cdrLock_fuses (l : Nat) (s : State) : fuseView (cdrLock l s) = fuseView s := fuses_of_core (cdrLock_core l s)
@[simp] theorem cdrLock_memOk (l : Nat) (s : State) : MemOk (cdrLock l s) ↔ MemOk s := memOk_of_core (cdrLock_core l s)
@[simp] theorem cdrLock_part (l : Nat) (s : State) {sp : StatePart} (g_lanes : sp ≠ .lanes) : part sp (cdrLock l s) = part sp s := by
  unfold cdrLock
  split <;> simp [*]
@[simp] theorem equalizerConverged_core (l : Nat) (c : Coeffs) (s : State) : coreView (equalizerConverged l c s) = coreView s := by
  unfold equalizerConverged
  split <;> simp
@[simp] theorem equalizerConverged_fuses (l : Nat) (c : Coeffs) (s : State) : fuseView (equalizerConverged l c s) = fuseView s := fuses_of_core (equalizerConverged_core l c s)
@[simp] theorem equalizerConverged_memOk (l : Nat) (c : Coeffs) (s : State) : MemOk (equalizerConverged l c s) ↔ MemOk s := memOk_of_core (equalizerConverged_core l c s)
@[simp] theorem equalizerConverged_part (l : Nat) (c : Coeffs) (s : State) {sp : StatePart} (g_lanes : sp ≠ .lanes) : part sp (equalizerConverged l c s) = part sp s := by
  unfold equalizerConverged
  split <;> simp [*]
@[simp] theorem blockLock_core (l : Nat) (s : State) : coreView (blockLock l s) = coreView s := by
  unfold blockLock
  simp [core_ite]
@[simp] theorem blockLock_fuses (l : Nat) (s : State) : fuseView (blockLock l s) = fuseView s := fuses_of_core (blockLock_core l s)
@[simp] theorem blockLock_memOk (l : Nat) (s : State) : MemOk (blockLock l s) ↔ MemOk s := memOk_of_core (blockLock_core l s)
@[simp] theorem blockLock_part (l : Nat) (s : State) {sp : StatePart} (g_braid : sp ≠ .braid) (g_lanes : sp ≠ .lanes) (g_events : sp ≠ .events) : part sp (blockLock l s) = part sp s := by
  unfold blockLock
  simp [part_ite, *]
@[simp] theorem frameLock_core (l : Nat) (s : State) : coreView (frameLock l s) = coreView s := by
  unfold frameLock
  split <;> simp
@[simp] theorem frameLock_fuses (l : Nat) (s : State) : fuseView (frameLock l s) = fuseView s := fuses_of_core (frameLock_core l s)
@[simp] theorem frameLock_memOk (l : Nat) (s : State) : MemOk (frameLock l s) ↔ MemOk s := memOk_of_core (frameLock_core l s)
@[simp] theorem frameLock_part (l : Nat) (s : State) {sp : StatePart} (g_braid : sp ≠ .braid) (g_lanes : sp ≠ .lanes) (g_events : sp ≠ .events) : part sp (frameLock l s) = part sp s := by
  unfold frameLock
  split <;> simp [*]
@[simp] theorem countLockLoss_core (l : Nat) (s : State) : coreView (countLockLoss l s) = coreView s := by
  rfl
@[simp] theorem countLockLoss_fuses (l : Nat) (s : State) : fuseView (countLockLoss l s) = fuseView s := fuses_of_core (countLockLoss_core l s)
@[simp] theorem countLockLoss_memOk (l : Nat) (s : State) : MemOk (countLockLoss l s) ↔ MemOk s := memOk_of_core (countLockLoss_core l s)
@[simp] theorem countLockLoss_part (l : Nat) (s : State) {sp : StatePart} (g_lanes : sp ≠ .lanes) : part sp (countLockLoss l s) = part sp s := by
  cases sp <;> first | rfl | contradiction
@[simp] theorem rxBoundExpiry_core (l : Nat) (s : State) : coreView (rxBoundExpiry l s) = coreView s := by
  unfold rxBoundExpiry
  simp [core_ite]
@[simp] theorem rxBoundExpiry_fuses (l : Nat) (s : State) : fuseView (rxBoundExpiry l s) = fuseView s := fuses_of_core (rxBoundExpiry_core l s)
@[simp] theorem rxBoundExpiry_memOk (l : Nat) (s : State) : MemOk (rxBoundExpiry l s) ↔ MemOk s := memOk_of_core (rxBoundExpiry_core l s)
@[simp] theorem rxBoundExpiry_part (l : Nat) (s : State) {sp : StatePart} (g_lanes : sp ≠ .lanes) : part sp (rxBoundExpiry l s) = part sp s := by
  unfold rxBoundExpiry
  simp [part_ite, *]
@[simp] theorem rxLoss_core (l : Nat) (cause : Nat) (r : RxState) (s : State) : coreView (rxLoss l cause r s) = coreView s := by
  unfold rxLoss
  split <;> simp
@[simp] theorem rxLoss_fuses (l : Nat) (cause : Nat) (r : RxState) (s : State) : fuseView (rxLoss l cause r s) = fuseView s := fuses_of_core (rxLoss_core l cause r s)
@[simp] theorem rxLoss_memOk (l : Nat) (cause : Nat) (r : RxState) (s : State) : MemOk (rxLoss l cause r s) ↔ MemOk s := memOk_of_core (rxLoss_core l cause r s)
@[simp] theorem rxLoss_part (l : Nat) (cause : Nat) (r : RxState) (s : State) {sp : StatePart} (g_braid : sp ≠ .braid) (g_ferry : sp ≠ .ferry) (g_lanes : sp ≠ .lanes) (g_twin : sp ≠ .twin) (g_debug : sp ≠ .debug) (g_events : sp ≠ .events) : part sp (rxLoss l cause r s) = part sp s := by
  unfold rxLoss
  split <;> simp [*]
@[simp] theorem energyLoss_core (l : Nat) (s : State) : coreView (energyLoss l s) = coreView s := by
  unfold energyLoss
  split <;> simp
@[simp] theorem energyLoss_fuses (l : Nat) (s : State) : fuseView (energyLoss l s) = fuseView s := fuses_of_core (energyLoss_core l s)
@[simp] theorem energyLoss_memOk (l : Nat) (s : State) : MemOk (energyLoss l s) ↔ MemOk s := memOk_of_core (energyLoss_core l s)
@[simp] theorem energyLoss_part (l : Nat) (s : State) {sp : StatePart} (g_braid : sp ≠ .braid) (g_ferry : sp ≠ .ferry) (g_lanes : sp ≠ .lanes) (g_twin : sp ≠ .twin) (g_debug : sp ≠ .debug) (g_events : sp ≠ .events) : part sp (energyLoss l s) = part sp s := by
  unfold energyLoss
  split <;> simp [*]
@[simp] theorem cdrLoss_core (l : Nat) (s : State) : coreView (cdrLoss l s) = coreView s := by
  unfold cdrLoss
  split <;> simp
@[simp] theorem cdrLoss_fuses (l : Nat) (s : State) : fuseView (cdrLoss l s) = fuseView s := fuses_of_core (cdrLoss_core l s)
@[simp] theorem cdrLoss_memOk (l : Nat) (s : State) : MemOk (cdrLoss l s) ↔ MemOk s := memOk_of_core (cdrLoss_core l s)
@[simp] theorem cdrLoss_part (l : Nat) (s : State) {sp : StatePart} (g_braid : sp ≠ .braid) (g_ferry : sp ≠ .ferry) (g_lanes : sp ≠ .lanes) (g_twin : sp ≠ .twin) (g_debug : sp ≠ .debug) (g_events : sp ≠ .events) : part sp (cdrLoss l s) = part sp s := by
  unfold cdrLoss
  split <;> simp [*]
@[simp] theorem blockLockLoss_core (l : Nat) (s : State) : coreView (blockLockLoss l s) = coreView s := by
  unfold blockLockLoss
  simp [core_ite]
@[simp] theorem blockLockLoss_fuses (l : Nat) (s : State) : fuseView (blockLockLoss l s) = fuseView s := fuses_of_core (blockLockLoss_core l s)
@[simp] theorem blockLockLoss_memOk (l : Nat) (s : State) : MemOk (blockLockLoss l s) ↔ MemOk s := memOk_of_core (blockLockLoss_core l s)
@[simp] theorem blockLockLoss_part (l : Nat) (s : State) {sp : StatePart} (g_braid : sp ≠ .braid) (g_ferry : sp ≠ .ferry) (g_lanes : sp ≠ .lanes) (g_twin : sp ≠ .twin) (g_debug : sp ≠ .debug) (g_events : sp ≠ .events) : part sp (blockLockLoss l s) = part sp s := by
  unfold blockLockLoss
  simp [part_ite, *]
@[simp] theorem frameLockLoss_core (l : Nat) (s : State) : coreView (frameLockLoss l s) = coreView s := by
  unfold frameLockLoss
  simp [core_ite]
@[simp] theorem frameLockLoss_fuses (l : Nat) (s : State) : fuseView (frameLockLoss l s) = fuseView s := fuses_of_core (frameLockLoss_core l s)
@[simp] theorem frameLockLoss_memOk (l : Nat) (s : State) : MemOk (frameLockLoss l s) ↔ MemOk s := memOk_of_core (frameLockLoss_core l s)
@[simp] theorem frameLockLoss_part (l : Nat) (s : State) {sp : StatePart} (g_braid : sp ≠ .braid) (g_ferry : sp ≠ .ferry) (g_lanes : sp ≠ .lanes) (g_twin : sp ≠ .twin) (g_debug : sp ≠ .debug) (g_events : sp ≠ .events) : part sp (frameLockLoss l s) = part sp s := by
  unfold frameLockLoss
  simp [part_ite, *]
@[simp] theorem seeHeaders_core (l : Nat) (bs : List Block) (s : State) : coreView (seeHeaders l bs s) = coreView s := by
  rfl
@[simp] theorem seeHeaders_fuses (l : Nat) (bs : List Block) (s : State) : fuseView (seeHeaders l bs s) = fuseView s := fuses_of_core (seeHeaders_core l bs s)
@[simp] theorem seeHeaders_memOk (l : Nat) (bs : List Block) (s : State) : MemOk (seeHeaders l bs s) ↔ MemOk s := memOk_of_core (seeHeaders_core l bs s)
@[simp] theorem seeHeaders_part (l : Nat) (bs : List Block) (s : State) {sp : StatePart} (g_lanes : sp ≠ .lanes) : part sp (seeHeaders l bs s) = part sp s := by
  cases sp <;> first | rfl | contradiction
@[simp] theorem fecSee_core (l : Nat) (corrected : Nat) (uncorrectable : Nat) (s : State) : coreView (fecSee l corrected uncorrectable s) = coreView s := by
  unfold fecSee
  split <;> simp
@[simp] theorem fecSee_fuses (l : Nat) (corrected : Nat) (uncorrectable : Nat) (s : State) : fuseView (fecSee l corrected uncorrectable s) = fuseView s := fuses_of_core (fecSee_core l corrected uncorrectable s)
@[simp] theorem fecSee_memOk (l : Nat) (corrected : Nat) (uncorrectable : Nat) (s : State) : MemOk (fecSee l corrected uncorrectable s) ↔ MemOk s := memOk_of_core (fecSee_core l corrected uncorrectable s)
@[simp] theorem fecSee_part (l : Nat) (corrected : Nat) (uncorrectable : Nat) (s : State) {sp : StatePart} (g_braid : sp ≠ .braid) (g_lanes : sp ≠ .lanes) (g_events : sp ≠ .events) : part sp (fecSee l corrected uncorrectable s) = part sp s := by
  unfold fecSee
  split <;> simp [*]
@[simp] theorem dropBits_core (l : Nat) (n : Nat) (s : State) : coreView (dropBits l n s) = coreView s := by
  rfl
@[simp] theorem dropBits_fuses (l : Nat) (n : Nat) (s : State) : fuseView (dropBits l n s) = fuseView s := fuses_of_core (dropBits_core l n s)
@[simp] theorem dropBits_memOk (l : Nat) (n : Nat) (s : State) : MemOk (dropBits l n s) ↔ MemOk s := memOk_of_core (dropBits_core l n s)
@[simp] theorem dropBits_part (l : Nat) (n : Nat) (s : State) {sp : StatePart} (g_lanes : sp ≠ .lanes) : part sp (dropBits l n s) = part sp s := by
  cases sp <;> first | rfl | contradiction
@[simp] theorem lineIn_core (l : Nat) (syms : List Nat) (s : State) : coreView (lineIn l syms s) = coreView s := by
  rfl
@[simp] theorem lineIn_fuses (l : Nat) (syms : List Nat) (s : State) : fuseView (lineIn l syms s) = fuseView s := fuses_of_core (lineIn_core l syms s)
@[simp] theorem lineIn_memOk (l : Nat) (syms : List Nat) (s : State) : MemOk (lineIn l syms s) ↔ MemOk s := memOk_of_core (lineIn_core l syms s)
@[simp] theorem lineIn_part (l : Nat) (syms : List Nat) (s : State) {sp : StatePart} (g_lanes : sp ≠ .lanes) : part sp (lineIn l syms s) = part sp s := by
  cases sp <;> first | rfl | contradiction
@[simp] theorem huntBlock_core (l : Nat) (s : State) : coreView (huntBlock l s) = coreView s := by
  unfold huntBlock
  simp [core_ite]
@[simp] theorem huntBlock_fuses (l : Nat) (s : State) : fuseView (huntBlock l s) = fuseView s := fuses_of_core (huntBlock_core l s)
@[simp] theorem huntBlock_memOk (l : Nat) (s : State) : MemOk (huntBlock l s) ↔ MemOk s := memOk_of_core (huntBlock_core l s)
@[simp] theorem huntBlock_part (l : Nat) (s : State) {sp : StatePart} (g_lanes : sp ≠ .lanes) : part sp (huntBlock l s) = part sp s := by
  unfold huntBlock
  simp [part_ite, *]
@[simp] theorem huntFrame_core (l : Nat) (s : State) : coreView (huntFrame l s) = coreView s := by
  unfold huntFrame
  simp [core_ite]
@[simp] theorem huntFrame_fuses (l : Nat) (s : State) : fuseView (huntFrame l s) = fuseView s := fuses_of_core (huntFrame_core l s)
@[simp] theorem huntFrame_memOk (l : Nat) (s : State) : MemOk (huntFrame l s) ↔ MemOk s := memOk_of_core (huntFrame_core l s)
@[simp] theorem huntFrame_part (l : Nat) (s : State) {sp : StatePart} (g_lanes : sp ≠ .lanes) : part sp (huntFrame l s) = part sp s := by
  unfold huntFrame
  simp [part_ite, *]
@[simp] theorem upFrame_core (l : Nat) (s : State) : coreView (upFrame l s) = coreView s := by
  unfold upFrame
  dsimp only
  repeat' split
  all_goals simp [*]
@[simp] theorem upFrame_fuses (l : Nat) (s : State) : fuseView (upFrame l s) = fuseView s := fuses_of_core (upFrame_core l s)
@[simp] theorem upFrame_memOk (l : Nat) (s : State) : MemOk (upFrame l s) ↔ MemOk s := memOk_of_core (upFrame_core l s)
@[simp] theorem upFrame_part (l : Nat) (s : State) {sp : StatePart} (g_braid : sp ≠ .braid) (g_lanes : sp ≠ .lanes) (g_delta : sp ≠ .delta) (g_crypto : sp ≠ .crypto) (g_events : sp ≠ .events) : part sp (upFrame l s) = part sp s := by
  unfold upFrame
  dsimp only
  repeat' split
  all_goals simp [*]
@[simp] theorem nativeBits_core (l : Nat) (fuel : Nat) (s : State) : coreView (nativeBits l fuel s) = coreView s := by
  induction fuel generalizing s with
  | zero => rfl
  | succ n ih =>
    unfold nativeBits
    dsimp only
    repeat' split
    all_goals first | rfl | (simp [ih]; done) | (simp [ih]; split <;> simp)
@[simp] theorem nativeBits_fuses (l : Nat) (fuel : Nat) (s : State) : fuseView (nativeBits l fuel s) = fuseView s := fuses_of_core (nativeBits_core l fuel s)
@[simp] theorem nativeBits_memOk (l : Nat) (fuel : Nat) (s : State) : MemOk (nativeBits l fuel s) ↔ MemOk s := memOk_of_core (nativeBits_core l fuel s)
@[simp] theorem nativeBits_part (l : Nat) (fuel : Nat) (s : State) {sp : StatePart} (g_braid : sp ≠ .braid) (g_lanes : sp ≠ .lanes) (g_delta : sp ≠ .delta) (g_crypto : sp ≠ .crypto) (g_events : sp ≠ .events) : part sp (nativeBits l fuel s) = part sp s := by
  induction fuel generalizing s with
  | zero => rfl
  | succ n ih =>
    unfold nativeBits
    dsimp only
    repeat' split
    all_goals first | rfl | (simp [ih, *]; done) | (simp [ih, *]; split <;> simp [*])
@[simp] theorem nativeFrameReceive_core (l : Nat) (syms : List Nat) (s : State) : coreView (nativeFrameReceive l syms s) = coreView s := by
  unfold nativeFrameReceive
  simp [core_ite]
@[simp] theorem nativeFrameReceive_fuses (l : Nat) (syms : List Nat) (s : State) : fuseView (nativeFrameReceive l syms s) = fuseView s := fuses_of_core (nativeFrameReceive_core l syms s)
@[simp] theorem nativeFrameReceive_memOk (l : Nat) (syms : List Nat) (s : State) : MemOk (nativeFrameReceive l syms s) ↔ MemOk s := memOk_of_core (nativeFrameReceive_core l syms s)
@[simp] theorem nativeFrameReceive_part (l : Nat) (syms : List Nat) (s : State) {sp : StatePart} (g_braid : sp ≠ .braid) (g_lanes : sp ≠ .lanes) (g_delta : sp ≠ .delta) (g_crypto : sp ≠ .crypto) (g_events : sp ≠ .events) : part sp (nativeFrameReceive l syms s) = part sp s := by
  unfold nativeFrameReceive
  simp [part_ite, *]
@[simp] theorem lineOut_core (l : Nat) (bs : List Bool) (s : State) : coreView (lineOut l bs s) = coreView s := by
  rfl
@[simp] theorem lineOut_fuses (l : Nat) (bs : List Bool) (s : State) : fuseView (lineOut l bs s) = fuseView s := fuses_of_core (lineOut_core l bs s)
@[simp] theorem lineOut_memOk (l : Nat) (bs : List Bool) (s : State) : MemOk (lineOut l bs s) ↔ MemOk s := memOk_of_core (lineOut_core l bs s)
@[simp] theorem lineOut_part (l : Nat) (bs : List Bool) (s : State) {sp : StatePart} (g_lanes : sp ≠ .lanes) : part sp (lineOut l bs s) = part sp s := by
  cases sp <;> first | rfl | contradiction
@[simp] theorem sendPrbs_core (l : Nat) (n : Nat) (s : State) : coreView (sendPrbs l n s) = coreView s := by
  rfl
@[simp] theorem sendPrbs_fuses (l : Nat) (n : Nat) (s : State) : fuseView (sendPrbs l n s) = fuseView s := fuses_of_core (sendPrbs_core l n s)
@[simp] theorem sendPrbs_memOk (l : Nat) (n : Nat) (s : State) : MemOk (sendPrbs l n s) ↔ MemOk s := memOk_of_core (sendPrbs_core l n s)
@[simp] theorem sendPrbs_part (l : Nat) (n : Nat) (s : State) {sp : StatePart} (g_lanes : sp ≠ .lanes) : part sp (sendPrbs l n s) = part sp s := by
  cases sp <;> first | rfl | contradiction
@[simp] theorem nativeFrameTransmit_core (l : Nat) (s : State) : coreView (nativeFrameTransmit l s) = coreView s := by
  unfold nativeFrameTransmit
  dsimp only
  repeat' split
  all_goals simp [*]
@[simp] theorem nativeFrameTransmit_fuses (l : Nat) (s : State) : fuseView (nativeFrameTransmit l s) = fuseView s := fuses_of_core (nativeFrameTransmit_core l s)
@[simp] theorem nativeFrameTransmit_memOk (l : Nat) (s : State) : MemOk (nativeFrameTransmit l s) ↔ MemOk s := memOk_of_core (nativeFrameTransmit_core l s)
@[simp] theorem nativeFrameTransmit_part (l : Nat) (s : State) {sp : StatePart} (g_braid : sp ≠ .braid) (g_lanes : sp ≠ .lanes) (g_delta : sp ≠ .delta) (g_crypto : sp ≠ .crypto) (g_events : sp ≠ .events) : part sp (nativeFrameTransmit l s) = part sp s := by
  unfold nativeFrameTransmit
  dsimp only
  repeat' split
  all_goals simp [*]
@[simp] theorem pushRecord_core (l : Nat) (b : Block) (s : State) : coreView (pushRecord l b s) = coreView s := by
  unfold pushRecord
  simp [core_ite]
@[simp] theorem pushRecord_fuses (l : Nat) (b : Block) (s : State) : fuseView (pushRecord l b s) = fuseView s := fuses_of_core (pushRecord_core l b s)
@[simp] theorem pushRecord_memOk (l : Nat) (b : Block) (s : State) : MemOk (pushRecord l b s) ↔ MemOk s := memOk_of_core (pushRecord_core l b s)
@[simp] theorem pushRecord_part (l : Nat) (b : Block) (s : State) {sp : StatePart} (g_braid : sp ≠ .braid) (g_lanes : sp ≠ .lanes) (g_events : sp ≠ .events) : part sp (pushRecord l b s) = part sp s := by
  unfold pushRecord
  simp [part_ite, *]
@[simp] theorem passRecord_core (l : Nat) (bad : Bool) (b : Block) (s : State) : coreView (passRecord l bad b s) = coreView s := by
  unfold passRecord
  split <;> simp
@[simp] theorem passRecord_fuses (l : Nat) (bad : Bool) (b : Block) (s : State) : fuseView (passRecord l bad b s) = fuseView s := fuses_of_core (passRecord_core l bad b s)
@[simp] theorem passRecord_memOk (l : Nat) (bad : Bool) (b : Block) (s : State) : MemOk (passRecord l bad b s) ↔ MemOk s := memOk_of_core (passRecord_core l bad b s)
@[simp] theorem passRecord_part (l : Nat) (bad : Bool) (b : Block) (s : State) {sp : StatePart} (g_braid : sp ≠ .braid) (g_lanes : sp ≠ .lanes) (g_events : sp ≠ .events) : part sp (passRecord l bad b s) = part sp s := by
  unfold passRecord
  split <;> simp [*]
@[simp] theorem upBlock_core (l : Nat) (s : State) : coreView (upBlock l s) = coreView s := by
  unfold upBlock
  simp
@[simp] theorem upBlock_fuses (l : Nat) (s : State) : fuseView (upBlock l s) = fuseView s := fuses_of_core (upBlock_core l s)
@[simp] theorem upBlock_memOk (l : Nat) (s : State) : MemOk (upBlock l s) ↔ MemOk s := memOk_of_core (upBlock_core l s)
@[simp] theorem upBlock_part (l : Nat) (s : State) {sp : StatePart} (g_braid : sp ≠ .braid) (g_lanes : sp ≠ .lanes) (g_events : sp ≠ .events) : part sp (upBlock l s) = part sp s := by
  unfold upBlock
  simp [*]
@[simp] theorem upCodeword_core (l : Nat) (s : State) : coreView (upCodeword l s) = coreView s := by
  unfold upCodeword
  dsimp only
  repeat' split
  all_goals simp [*]
@[simp] theorem upCodeword_fuses (l : Nat) (s : State) : fuseView (upCodeword l s) = fuseView s := fuses_of_core (upCodeword_core l s)
@[simp] theorem upCodeword_memOk (l : Nat) (s : State) : MemOk (upCodeword l s) ↔ MemOk s := memOk_of_core (upCodeword_core l s)
@[simp] theorem upCodeword_part (l : Nat) (s : State) {sp : StatePart} (g_braid : sp ≠ .braid) (g_lanes : sp ≠ .lanes) (g_events : sp ≠ .events) : part sp (upCodeword l s) = part sp s := by
  unfold upCodeword
  dsimp only
  repeat' split
  all_goals simp [*]
@[simp] theorem passBits_core (l : Nat) (fuel : Nat) (s : State) : coreView (passBits l fuel s) = coreView s := by
  induction fuel generalizing s with
  | zero => rfl
  | succ n ih =>
    unfold passBits
    dsimp only
    repeat' split
    all_goals first | rfl | (simp [ih]; done) | (simp [ih]; split <;> simp)
@[simp] theorem passBits_fuses (l : Nat) (fuel : Nat) (s : State) : fuseView (passBits l fuel s) = fuseView s := fuses_of_core (passBits_core l fuel s)
@[simp] theorem passBits_memOk (l : Nat) (fuel : Nat) (s : State) : MemOk (passBits l fuel s) ↔ MemOk s := memOk_of_core (passBits_core l fuel s)
@[simp] theorem passBits_part (l : Nat) (fuel : Nat) (s : State) {sp : StatePart} (g_braid : sp ≠ .braid) (g_lanes : sp ≠ .lanes) (g_events : sp ≠ .events) : part sp (passBits l fuel s) = part sp s := by
  induction fuel generalizing s with
  | zero => rfl
  | succ n ih =>
    unfold passBits
    dsimp only
    repeat' split
    all_goals first | rfl | (simp [ih, *]; done) | (simp [ih, *]; split <;> simp [*])
@[simp] theorem passBlockReceive_core (l : Nat) (syms : List Nat) (s : State) : coreView (passBlockReceive l syms s) = coreView s := by
  unfold passBlockReceive
  simp [core_ite]
@[simp] theorem passBlockReceive_fuses (l : Nat) (syms : List Nat) (s : State) : fuseView (passBlockReceive l syms s) = fuseView s := fuses_of_core (passBlockReceive_core l syms s)
@[simp] theorem passBlockReceive_memOk (l : Nat) (syms : List Nat) (s : State) : MemOk (passBlockReceive l syms s) ↔ MemOk s := memOk_of_core (passBlockReceive_core l syms s)
@[simp] theorem passBlockReceive_part (l : Nat) (syms : List Nat) (s : State) {sp : StatePart} (g_braid : sp ≠ .braid) (g_lanes : sp ≠ .lanes) (g_events : sp ≠ .events) : part sp (passBlockReceive l syms s) = part sp s := by
  unfold passBlockReceive
  simp [part_ite, *]
@[simp] theorem passStreamSend_core (l : Nat) (n : Nat) (s : State) : coreView (passStreamSend l n s) = coreView s := by
  unfold passStreamSend
  dsimp only
  repeat' split
  all_goals simp [*]
@[simp] theorem passStreamSend_fuses (l : Nat) (n : Nat) (s : State) : fuseView (passStreamSend l n s) = fuseView s := fuses_of_core (passStreamSend_core l n s)
@[simp] theorem passStreamSend_memOk (l : Nat) (n : Nat) (s : State) : MemOk (passStreamSend l n s) ↔ MemOk s := memOk_of_core (passStreamSend_core l n s)
@[simp] theorem passStreamSend_part (l : Nat) (n : Nat) (s : State) {sp : StatePart} (g_braid : sp ≠ .braid) (g_sluice : sp ≠ .sluice) (g_lanes : sp ≠ .lanes) (g_delta : sp ≠ .delta) (g_eng : sp ≠ .eng) (g_events : sp ≠ .events) : part sp (passStreamSend l n s) = part sp s := by
  unfold passStreamSend
  dsimp only
  repeat' split
  all_goals simp [*]
@[simp] theorem txStreamWrite_core (pid : Nat) (s : State) : coreView (txStreamWrite pid s) = coreView s := by
  unfold txStreamWrite
  dsimp only
  repeat' split
  all_goals simp [*]
@[simp] theorem txStreamWrite_fuses (pid : Nat) (s : State) : fuseView (txStreamWrite pid s) = fuseView s := fuses_of_core (txStreamWrite_core pid s)
@[simp] theorem txStreamWrite_memOk (pid : Nat) (s : State) : MemOk (txStreamWrite pid s) ↔ MemOk s := memOk_of_core (txStreamWrite_core pid s)
@[simp] theorem txStreamWrite_part (pid : Nat) (s : State) {sp : StatePart} (g_freeCtr : sp ≠ .freeCtr) (g_braid : sp ≠ .braid) (g_lanes : sp ≠ .lanes) (g_events : sp ≠ .events) : part sp (txStreamWrite pid s) = part sp s := by
  unfold txStreamWrite
  dsimp only
  repeat' split
  all_goals simp [*]
@[simp] theorem sendCodeword_core (l : Nat) (s : State) : coreView (sendCodeword l s) = coreView s := by
  unfold sendCodeword
  simp [core_ite]
@[simp] theorem sendCodeword_fuses (l : Nat) (s : State) : fuseView (sendCodeword l s) = fuseView s := fuses_of_core (sendCodeword_core l s)
@[simp] theorem sendCodeword_memOk (l : Nat) (s : State) : MemOk (sendCodeword l s) ↔ MemOk s := memOk_of_core (sendCodeword_core l s)
@[simp] theorem sendCodeword_part (l : Nat) (s : State) {sp : StatePart} (g_lanes : sp ≠ .lanes) : part sp (sendCodeword l s) = part sp s := by
  unfold sendCodeword
  simp [part_ite, *]
@[simp] theorem passBlockTransmit_core (l : Nat) (s : State) : coreView (passBlockTransmit l s) = coreView s := by
  unfold passBlockTransmit
  simp [core_ite]
@[simp] theorem passBlockTransmit_fuses (l : Nat) (s : State) : fuseView (passBlockTransmit l s) = fuseView s := fuses_of_core (passBlockTransmit_core l s)
@[simp] theorem passBlockTransmit_memOk (l : Nat) (s : State) : MemOk (passBlockTransmit l s) ↔ MemOk s := memOk_of_core (passBlockTransmit_core l s)
@[simp] theorem passBlockTransmit_part (l : Nat) (s : State) {sp : StatePart} (g_lanes : sp ≠ .lanes) : part sp (passBlockTransmit l s) = part sp s := by
  unfold passBlockTransmit
  simp [part_ite, *]
@[simp] theorem txSettingsApply_core (l : Nat) (s : State) : coreView (txSettingsApply l s) = coreView s := by
  unfold txSettingsApply
  dsimp only
  repeat' split
  all_goals simp [*]
@[simp] theorem txSettingsApply_fuses (l : Nat) (s : State) : fuseView (txSettingsApply l s) = fuseView s := fuses_of_core (txSettingsApply_core l s)
@[simp] theorem txSettingsApply_memOk (l : Nat) (s : State) : MemOk (txSettingsApply l s) ↔ MemOk s := memOk_of_core (txSettingsApply_core l s)
@[simp] theorem txSettingsApply_part (l : Nat) (s : State) {sp : StatePart} (g_lanes : sp ≠ .lanes) : part sp (txSettingsApply l s) = part sp s := by
  unfold txSettingsApply
  dsimp only
  repeat' split
  all_goals simp [*]
@[simp] theorem setMargin_core (l : Nat) (margin : Nat) (s : State) : coreView (setMargin l margin s) = coreView s := by
  unfold setMargin
  simp [core_ite]
@[simp] theorem setMargin_fuses (l : Nat) (margin : Nat) (s : State) : fuseView (setMargin l margin s) = fuseView s := fuses_of_core (setMargin_core l margin s)
@[simp] theorem setMargin_memOk (l : Nat) (margin : Nat) (s : State) : MemOk (setMargin l margin s) ↔ MemOk s := memOk_of_core (setMargin_core l margin s)
@[simp] theorem setMargin_part (l : Nat) (margin : Nat) (s : State) {sp : StatePart} (g_braid : sp ≠ .braid) (g_lanes : sp ≠ .lanes) (g_events : sp ≠ .events) : part sp (setMargin l margin s) = part sp s := by
  unfold setMargin
  simp [part_ite, *]
@[simp] theorem adaptationUpdate_core (l : Nat) (t : Trial) (s : State) : coreView (adaptationUpdate l t s) = coreView s := by
  unfold adaptationUpdate
  simp [core_ite]
@[simp] theorem adaptationUpdate_fuses (l : Nat) (t : Trial) (s : State) : fuseView (adaptationUpdate l t s) = fuseView s := fuses_of_core (adaptationUpdate_core l t s)
@[simp] theorem adaptationUpdate_memOk (l : Nat) (t : Trial) (s : State) : MemOk (adaptationUpdate l t s) ↔ MemOk s := memOk_of_core (adaptationUpdate_core l t s)
@[simp] theorem adaptationUpdate_part (l : Nat) (t : Trial) (s : State) {sp : StatePart} (g_braid : sp ≠ .braid) (g_lanes : sp ≠ .lanes) (g_events : sp ≠ .events) : part sp (adaptationUpdate l t s) = part sp s := by
  unfold adaptationUpdate
  simp [part_ite, *]
@[simp] theorem marginRefresh_core (l : Nat) (margin : Nat) (s : State) : coreView (marginRefresh l margin s) = coreView s := by
  unfold marginRefresh
  split <;> simp
@[simp] theorem marginRefresh_fuses (l : Nat) (margin : Nat) (s : State) : fuseView (marginRefresh l margin s) = fuseView s := fuses_of_core (marginRefresh_core l margin s)
@[simp] theorem marginRefresh_memOk (l : Nat) (margin : Nat) (s : State) : MemOk (marginRefresh l margin s) ↔ MemOk s := memOk_of_core (marginRefresh_core l margin s)
@[simp] theorem marginRefresh_part (l : Nat) (margin : Nat) (s : State) {sp : StatePart} (g_braid : sp ≠ .braid) (g_lanes : sp ≠ .lanes) (g_events : sp ≠ .events) : part sp (marginRefresh l margin s) = part sp s := by
  unfold marginRefresh
  split <;> simp [*]
@[simp] theorem corrWindowEnd_core (l : Nat) (s : State) : coreView (corrWindowEnd l s) = coreView s := by
  unfold corrWindowEnd
  simp [core_ite]
@[simp] theorem corrWindowEnd_fuses (l : Nat) (s : State) : fuseView (corrWindowEnd l s) = fuseView s := fuses_of_core (corrWindowEnd_core l s)
@[simp] theorem corrWindowEnd_memOk (l : Nat) (s : State) : MemOk (corrWindowEnd l s) ↔ MemOk s := memOk_of_core (corrWindowEnd_core l s)
@[simp] theorem corrWindowEnd_part (l : Nat) (s : State) {sp : StatePart} (g_braid : sp ≠ .braid) (g_lanes : sp ≠ .lanes) (g_events : sp ≠ .events) : part sp (corrWindowEnd l s) = part sp s := by
  unfold corrWindowEnd
  simp [part_ite, *]
@[simp] theorem energyDetect_core (l : Nat) (s : State) : coreView (energyDetect l s) = coreView s := by
  unfold energyDetect
  simp [core_ite]
@[simp] theorem energyDetect_fuses (l : Nat) (s : State) : fuseView (energyDetect l s) = fuseView s := fuses_of_core (energyDetect_core l s)
@[simp] theorem energyDetect_memOk (l : Nat) (s : State) : MemOk (energyDetect l s) ↔ MemOk s := memOk_of_core (energyDetect_core l s)
@[simp] theorem energyDetect_part (l : Nat) (s : State) {sp : StatePart} (g_braid : sp ≠ .braid) (g_lanes : sp ≠ .lanes) (g_events : sp ≠ .events) : part sp (energyDetect l s) = part sp s := by
  unfold energyDetect
  simp [part_ite, *]
@[simp] theorem eyeScanDone_fuses (l : Nat) (counts : List Nat) (s : State) : fuseView (eyeScanDone l counts s) = fuseView s := by
  unfold eyeScanDone
  dsimp only
  repeat' split
  all_goals first | (simp; done) | (rename_i h; simp [hwWrite_fuses h]; done)
@[simp] theorem eyeScanDone_memOk (l : Nat) (counts : List Nat) (s : State) (h : MemOk s) : MemOk (eyeScanDone l counts s) := by
  unfold eyeScanDone
  dsimp only
  repeat' split
  all_goals first | (simpa using h) | (rename_i he; rw [endJob_memOk]; exact hwWrite_memOk he (by simpa using h))
@[simp] theorem eyeScanDone_part (l : Nat) (counts : List Nat) (s : State) {sp : StatePart} (g_braid : sp ≠ .braid) (g_ferry : sp ≠ .ferry) (g_lanes : sp ≠ .lanes) (g_twin : sp ≠ .twin) (g_dram : sp ≠ .dram) (g_mems : sp ≠ .mems) (g_debug : sp ≠ .debug) (g_events : sp ≠ .events) : part sp (eyeScanDone l counts s) = part sp s := by
  unfold eyeScanDone
  dsimp only
  repeat' split
  all_goals first | (simp [*]; done) | (rename_i h; simp [*, hwWrite_part h]; done) | (rename_i h _; simp [*, hwWrite_part h]; done) | (rename_i h _ _; simp [*, hwWrite_part h]; done) | (rename_i h _ _ _; simp [*, hwWrite_part h]; done) | (rename_i h _ _ _ _; simp [*, hwWrite_part h]; done) | (simp [*]; cases sp <;> first | rfl | contradiction) | (cases sp <;> first | rfl | contradiction)
@[simp] theorem releasePll_core (q : Nat) (s : State) : coreView (releasePll q s) = coreView s := by
  unfold releasePll
  split <;> simp
@[simp] theorem releasePll_fuses (q : Nat) (s : State) : fuseView (releasePll q s) = fuseView s := fuses_of_core (releasePll_core q s)
@[simp] theorem releasePll_memOk (q : Nat) (s : State) : MemOk (releasePll q s) ↔ MemOk s := memOk_of_core (releasePll_core q s)
@[simp] theorem releasePll_part (q : Nat) (s : State) {sp : StatePart} (g_lanes : sp ≠ .lanes) : part sp (releasePll q s) = part sp s := by
  unfold releasePll
  split <;> simp [*]
@[simp] theorem wakeLane_core (l : Nat) (s : State) : coreView (wakeLane l s) = coreView s := by
  unfold wakeLane
  dsimp only
  repeat' split
  all_goals simp [*]
@[simp] theorem wakeLane_fuses (l : Nat) (s : State) : fuseView (wakeLane l s) = fuseView s := fuses_of_core (wakeLane_core l s)
@[simp] theorem wakeLane_memOk (l : Nat) (s : State) : MemOk (wakeLane l s) ↔ MemOk s := memOk_of_core (wakeLane_core l s)
@[simp] theorem wakeLane_part (l : Nat) (s : State) {sp : StatePart} (g_braid : sp ≠ .braid) (g_ferry : sp ≠ .ferry) (g_lanes : sp ≠ .lanes) (g_twin : sp ≠ .twin) (g_debug : sp ≠ .debug) (g_events : sp ≠ .events) : part sp (wakeLane l s) = part sp s := by
  unfold wakeLane
  dsimp only
  repeat' split
  all_goals simp [*]
@[simp] theorem moveLane_core (l : Nat) (p : LanePwr) (s : State) : coreView (moveLane l p s) = coreView s := by
  unfold moveLane
  split <;> simp
@[simp] theorem moveLane_fuses (l : Nat) (p : LanePwr) (s : State) : fuseView (moveLane l p s) = fuseView s := fuses_of_core (moveLane_core l p s)
@[simp] theorem moveLane_memOk (l : Nat) (p : LanePwr) (s : State) : MemOk (moveLane l p s) ↔ MemOk s := memOk_of_core (moveLane_core l p s)
@[simp] theorem moveLane_part (l : Nat) (p : LanePwr) (s : State) {sp : StatePart} (g_braid : sp ≠ .braid) (g_ferry : sp ≠ .ferry) (g_lanes : sp ≠ .lanes) (g_twin : sp ≠ .twin) (g_debug : sp ≠ .debug) (g_events : sp ≠ .events) : part sp (moveLane l p s) = part sp s := by
  unfold moveLane
  split <;> simp [*]
@[simp] theorem laneReached_core (l : Nat) (p : LanePwr) (s : State) : coreView (laneReached l p s) = coreView s := by
  unfold laneReached
  split <;> simp
@[simp] theorem laneReached_fuses (l : Nat) (p : LanePwr) (s : State) : fuseView (laneReached l p s) = fuseView s := fuses_of_core (laneReached_core l p s)
@[simp] theorem laneReached_memOk (l : Nat) (p : LanePwr) (s : State) : MemOk (laneReached l p s) ↔ MemOk s := memOk_of_core (laneReached_core l p s)
@[simp] theorem laneReached_part (l : Nat) (p : LanePwr) (s : State) {sp : StatePart} (g_braid : sp ≠ .braid) (g_ferry : sp ≠ .ferry) (g_lanes : sp ≠ .lanes) (g_twin : sp ≠ .twin) (g_debug : sp ≠ .debug) (g_events : sp ≠ .events) : part sp (laneReached l p s) = part sp s := by
  unfold laneReached
  split <;> simp [*]
@[simp] theorem laneStateReached_core (l : Nat) (s : State) : coreView (laneStateReached l s) = coreView s := by
  unfold laneStateReached
  repeat' split
  all_goals simp [*]
@[simp] theorem laneStateReached_fuses (l : Nat) (s : State) : fuseView (laneStateReached l s) = fuseView s := fuses_of_core (laneStateReached_core l s)
@[simp] theorem laneStateReached_memOk (l : Nat) (s : State) : MemOk (laneStateReached l s) ↔ MemOk s := memOk_of_core (laneStateReached_core l s)
@[simp] theorem laneStateReached_part (l : Nat) (s : State) {sp : StatePart} (g_braid : sp ≠ .braid) (g_ferry : sp ≠ .ferry) (g_lanes : sp ≠ .lanes) (g_twin : sp ≠ .twin) (g_debug : sp ≠ .debug) (g_events : sp ≠ .events) : part sp (laneStateReached l s) = part sp s := by
  unfold laneStateReached
  repeat' split
  all_goals simp [*]
@[simp] theorem startLane_core (l : Nat) (job : Nat) (v : Serving) (x : TxSet) (ctle : Option Nat) (s : State) : coreView (startLane l job v x ctle s) = coreView s := by
  unfold startLane
  simp [core_ite]
@[simp] theorem startLane_fuses (l : Nat) (job : Nat) (v : Serving) (x : TxSet) (ctle : Option Nat) (s : State) : fuseView (startLane l job v x ctle s) = fuseView s := fuses_of_core (startLane_core l job v x ctle s)
@[simp] theorem startLane_memOk (l : Nat) (job : Nat) (v : Serving) (x : TxSet) (ctle : Option Nat) (s : State) : MemOk (startLane l job v x ctle s) ↔ MemOk s := memOk_of_core (startLane_core l job v x ctle s)
@[simp] theorem startLane_part (l : Nat) (job : Nat) (v : Serving) (x : TxSet) (ctle : Option Nat) (s : State) {sp : StatePart} (g_braid : sp ≠ .braid) (g_ferry : sp ≠ .ferry) (g_lanes : sp ≠ .lanes) (g_twin : sp ≠ .twin) (g_debug : sp ≠ .debug) (g_events : sp ≠ .events) : part sp (startLane l job v x ctle s) = part sp s := by
  unfold startLane
  simp [part_ite, *]
@[simp] theorem setModeBody_core (v : Serving) (s : State) : coreView (setModeBody v s).2 = coreView s := by
  unfold setModeBody
  dsimp only
  repeat' split
  all_goals first | (simp [*]; done) | (rename_i h; simp [*, wakeFor_core h]; done) | (rename_i h _; simp [*, wakeFor_core h]; done) | (rename_i h _ _; simp [*, wakeFor_core h]; done) | (rename_i h _ _ _; simp [*, wakeFor_core h]; done) | (rename_i h _ _ _ _; simp [*, wakeFor_core h]; done) | rfl
@[simp] theorem setModeBody_fuses (v : Serving) (s : State) : fuseView (setModeBody v s).2 = fuseView s := fuses_of_core (setModeBody_core v s)
@[simp] theorem setModeBody_memOk (v : Serving) (s : State) : MemOk (setModeBody v s).2 ↔ MemOk s := memOk_of_core (setModeBody_core v s)
@[simp] theorem setModeBody_part (v : Serving) (s : State) {sp : StatePart} (g_braid : sp ≠ .braid) (g_ferry : sp ≠ .ferry) (g_lanes : sp ≠ .lanes) (g_delta : sp ≠ .delta) (g_twin : sp ≠ .twin) (g_eng : sp ≠ .eng) (g_dram : sp ≠ .dram) (g_mems : sp ≠ .mems) (g_fabric : sp ≠ .fabric) (g_power : sp ≠ .power) (g_debug : sp ≠ .debug) (g_events : sp ≠ .events) : part sp (setModeBody v s).2 = part sp s := by
  unfold setModeBody
  dsimp only
  repeat' split
  all_goals first | (simp [*]; done) | (rename_i h; simp [*, wakeFor_part h]; done) | (rename_i h _; simp [*, wakeFor_part h]; done) | (rename_i h _ _; simp [*, wakeFor_part h]; done) | (rename_i h _ _ _; simp [*, wakeFor_part h]; done) | (rename_i h _ _ _ _; simp [*, wakeFor_part h]; done) | (simp [*]; cases sp <;> first | rfl | contradiction) | (cases sp <;> first | rfl | contradiction)
@[simp] theorem laneSetMode_core (s : State) : coreView (laneSetMode s) = coreView s := by
  unfold laneSetMode
  simp
@[simp] theorem laneSetMode_fuses (s : State) : fuseView (laneSetMode s) = fuseView s := fuses_of_core (laneSetMode_core s)
@[simp] theorem laneSetMode_memOk (s : State) : MemOk (laneSetMode s) ↔ MemOk s := memOk_of_core (laneSetMode_core s)
@[simp] theorem laneSetMode_part (s : State) {sp : StatePart} (g_braid : sp ≠ .braid) (g_ferry : sp ≠ .ferry) (g_lanes : sp ≠ .lanes) (g_delta : sp ≠ .delta) (g_twin : sp ≠ .twin) (g_eng : sp ≠ .eng) (g_dram : sp ≠ .dram) (g_mems : sp ≠ .mems) (g_fabric : sp ≠ .fabric) (g_power : sp ≠ .power) (g_debug : sp ≠ .debug) (g_events : sp ≠ .events) : part sp (laneSetMode s) = part sp s := by
  unfold laneSetMode
  simp [*]
@[simp] theorem setTapsBody_core (v : Serving) (s : State) : coreView (setTapsBody v s).2 = coreView s := by
  unfold setTapsBody
  dsimp only
  repeat' split
  all_goals simp [*]
@[simp] theorem setTapsBody_fuses (v : Serving) (s : State) : fuseView (setTapsBody v s).2 = fuseView s := fuses_of_core (setTapsBody_core v s)
@[simp] theorem setTapsBody_memOk (v : Serving) (s : State) : MemOk (setTapsBody v s).2 ↔ MemOk s := memOk_of_core (setTapsBody_core v s)
@[simp] theorem setTapsBody_part (v : Serving) (s : State) {sp : StatePart} (g_lanes : sp ≠ .lanes) : part sp (setTapsBody v s).2 = part sp s := by
  unfold setTapsBody
  dsimp only
  repeat' split
  all_goals simp [*]
@[simp] theorem laneSetTaps_core (s : State) : coreView (laneSetTaps s) = coreView s := by
  unfold laneSetTaps
  simp
@[simp] theorem laneSetTaps_fuses (s : State) : fuseView (laneSetTaps s) = fuseView s := fuses_of_core (laneSetTaps_core s)
@[simp] theorem laneSetTaps_memOk (s : State) : MemOk (laneSetTaps s) ↔ MemOk s := memOk_of_core (laneSetTaps_core s)
@[simp] theorem laneSetTaps_part (s : State) {sp : StatePart} (g_ferry : sp ≠ .ferry) (g_lanes : sp ≠ .lanes) : part sp (laneSetTaps s) = part sp s := by
  unfold laneSetTaps
  simp [*]
@[simp] theorem loadSlotBody_core (v : Serving) (s : State) : coreView (loadSlotBody v s).2 = coreView s := by
  unfold loadSlotBody
  repeat' split
  all_goals simp [*]
@[simp] theorem loadSlotBody_fuses (v : Serving) (s : State) : fuseView (loadSlotBody v s).2 = fuseView s := fuses_of_core (loadSlotBody_core v s)
@[simp] theorem loadSlotBody_memOk (v : Serving) (s : State) : MemOk (loadSlotBody v s).2 ↔ MemOk s := memOk_of_core (loadSlotBody_core v s)
@[simp] theorem loadSlotBody_part (v : Serving) (s : State) {sp : StatePart} (g_lanes : sp ≠ .lanes) : part sp (loadSlotBody v s).2 = part sp s := by
  unfold loadSlotBody
  repeat' split
  all_goals simp [*]
@[simp] theorem laneLoadSlotTable_core (s : State) : coreView (laneLoadSlotTable s) = coreView s := by
  unfold laneLoadSlotTable
  simp
@[simp] theorem laneLoadSlotTable_fuses (s : State) : fuseView (laneLoadSlotTable s) = fuseView s := fuses_of_core (laneLoadSlotTable_core s)
@[simp] theorem laneLoadSlotTable_memOk (s : State) : MemOk (laneLoadSlotTable s) ↔ MemOk s := memOk_of_core (laneLoadSlotTable_core s)
@[simp] theorem laneLoadSlotTable_part (s : State) {sp : StatePart} (g_ferry : sp ≠ .ferry) (g_lanes : sp ≠ .lanes) : part sp (laneLoadSlotTable s) = part sp s := by
  unfold laneLoadSlotTable
  simp [*]
@[simp] theorem laneStateBody_core (v : Serving) (s : State) : coreView (laneStateBody v s).2 = coreView s := by
  unfold laneStateBody
  dsimp only
  repeat' split
  all_goals first | (simp [*]; done) | (rename_i h; simp [*, wakeFor_core h]; done) | (rename_i h _; simp [*, wakeFor_core h]; done) | (rename_i h _ _; simp [*, wakeFor_core h]; done) | (rename_i h _ _ _; simp [*, wakeFor_core h]; done) | (rename_i h _ _ _ _; simp [*, wakeFor_core h]; done) | rfl
@[simp] theorem laneStateBody_fuses (v : Serving) (s : State) : fuseView (laneStateBody v s).2 = fuseView s := fuses_of_core (laneStateBody_core v s)
@[simp] theorem laneStateBody_memOk (v : Serving) (s : State) : MemOk (laneStateBody v s).2 ↔ MemOk s := memOk_of_core (laneStateBody_core v s)
@[simp] theorem laneStateBody_part (v : Serving) (s : State) {sp : StatePart} (g_braid : sp ≠ .braid) (g_ferry : sp ≠ .ferry) (g_lanes : sp ≠ .lanes) (g_delta : sp ≠ .delta) (g_twin : sp ≠ .twin) (g_eng : sp ≠ .eng) (g_dram : sp ≠ .dram) (g_mems : sp ≠ .mems) (g_fabric : sp ≠ .fabric) (g_power : sp ≠ .power) (g_debug : sp ≠ .debug) (g_events : sp ≠ .events) : part sp (laneStateBody v s).2 = part sp s := by
  unfold laneStateBody
  dsimp only
  repeat' split
  all_goals first | (simp [*]; done) | (rename_i h; simp [*, wakeFor_part h]; done) | (rename_i h _; simp [*, wakeFor_part h]; done) | (rename_i h _ _; simp [*, wakeFor_part h]; done) | (rename_i h _ _ _; simp [*, wakeFor_part h]; done) | (rename_i h _ _ _ _; simp [*, wakeFor_part h]; done) | (simp [*]; cases sp <;> first | rfl | contradiction) | (cases sp <;> first | rfl | contradiction)
@[simp] theorem laneState_core (s : State) : coreView (laneState s) = coreView s := by
  unfold laneState
  simp
@[simp] theorem laneState_fuses (s : State) : fuseView (laneState s) = fuseView s := fuses_of_core (laneState_core s)
@[simp] theorem laneState_memOk (s : State) : MemOk (laneState s) ↔ MemOk s := memOk_of_core (laneState_core s)
@[simp] theorem laneState_part (s : State) {sp : StatePart} (g_braid : sp ≠ .braid) (g_ferry : sp ≠ .ferry) (g_lanes : sp ≠ .lanes) (g_delta : sp ≠ .delta) (g_twin : sp ≠ .twin) (g_eng : sp ≠ .eng) (g_dram : sp ≠ .dram) (g_mems : sp ≠ .mems) (g_fabric : sp ≠ .fabric) (g_power : sp ≠ .power) (g_debug : sp ≠ .debug) (g_events : sp ≠ .events) : part sp (laneState s) = part sp s := by
  unfold laneState
  simp [*]
@[simp] theorem laneStatusBody_core (v : Serving) (s : State) : coreView (laneStatusBody v s).2 = coreView s := by
  unfold laneStatusBody
  repeat' split
  all_goals simp [*]
@[simp] theorem laneStatusBody_fuses (v : Serving) (s : State) : fuseView (laneStatusBody v s).2 = fuseView s := fuses_of_core (laneStatusBody_core v s)
@[simp] theorem laneStatusBody_memOk (v : Serving) (s : State) : MemOk (laneStatusBody v s).2 ↔ MemOk s := memOk_of_core (laneStatusBody_core v s)
@[simp] theorem laneStatusBody_part (v : Serving) (s : State) {sp : StatePart} (g_lanes : sp ≠ .lanes) : part sp (laneStatusBody v s).2 = part sp s := by
  unfold laneStatusBody
  repeat' split
  all_goals simp [*]
@[simp] theorem laneStatus_core (s : State) : coreView (laneStatus s) = coreView s := by
  unfold laneStatus
  simp
@[simp] theorem laneStatus_fuses (s : State) : fuseView (laneStatus s) = fuseView s := fuses_of_core (laneStatus_core s)
@[simp] theorem laneStatus_memOk (s : State) : MemOk (laneStatus s) ↔ MemOk s := memOk_of_core (laneStatus_core s)
@[simp] theorem laneStatus_part (s : State) {sp : StatePart} (g_ferry : sp ≠ .ferry) (g_lanes : sp ≠ .lanes) : part sp (laneStatus s) = part sp s := by
  unfold laneStatus
  simp [*]
@[simp] theorem laneEyeBody_core (v : Serving) (s : State) : coreView (laneEyeBody v s).2 = coreView s := by
  unfold laneEyeBody
  dsimp only
  repeat' split
  all_goals simp [*]
@[simp] theorem laneEyeBody_fuses (v : Serving) (s : State) : fuseView (laneEyeBody v s).2 = fuseView s := fuses_of_core (laneEyeBody_core v s)
@[simp] theorem laneEyeBody_memOk (v : Serving) (s : State) : MemOk (laneEyeBody v s).2 ↔ MemOk s := memOk_of_core (laneEyeBody_core v s)
@[simp] theorem laneEyeBody_part (v : Serving) (s : State) {sp : StatePart} (g_ferry : sp ≠ .ferry) (g_lanes : sp ≠ .lanes) : part sp (laneEyeBody v s).2 = part sp s := by
  unfold laneEyeBody
  dsimp only
  repeat' split
  all_goals simp [*]
@[simp] theorem laneEye_core (s : State) : coreView (laneEye s) = coreView s := by
  unfold laneEye
  simp
@[simp] theorem laneEye_fuses (s : State) : fuseView (laneEye s) = fuseView s := fuses_of_core (laneEye_core s)
@[simp] theorem laneEye_memOk (s : State) : MemOk (laneEye s) ↔ MemOk s := memOk_of_core (laneEye_core s)
@[simp] theorem laneEye_part (s : State) {sp : StatePart} (g_ferry : sp ≠ .ferry) (g_lanes : sp ≠ .lanes) : part sp (laneEye s) = part sp s := by
  unfold laneEye
  simp [*]
@[simp] theorem loopOff_core (l : Nat) (s : State) : coreView (loopOff l s).2 = coreView s := by
  unfold loopOff
  simp [core_ite]
@[simp] theorem loopOff_fuses (l : Nat) (s : State) : fuseView (loopOff l s).2 = fuseView s := fuses_of_core (loopOff_core l s)
@[simp] theorem loopOff_memOk (l : Nat) (s : State) : MemOk (loopOff l s).2 ↔ MemOk s := memOk_of_core (loopOff_core l s)
@[simp] theorem loopOff_part (l : Nat) (s : State) {sp : StatePart} (g_braid : sp ≠ .braid) (g_ferry : sp ≠ .ferry) (g_lanes : sp ≠ .lanes) (g_twin : sp ≠ .twin) (g_debug : sp ≠ .debug) (g_events : sp ≠ .events) : part sp (loopOff l s).2 = part sp s := by
  unfold loopOff
  simp [part_ite, *]
@[simp] theorem diagLoopbackBody_core (v : Serving) (s : State) : coreView (diagLoopbackBody v s).2 = coreView s := by
  unfold diagLoopbackBody
  dsimp only
  repeat' split
  all_goals simp [*]
@[simp] theorem diagLoopbackBody_fuses (v : Serving) (s : State) : fuseView (diagLoopbackBody v s).2 = fuseView s := fuses_of_core (diagLoopbackBody_core v s)
@[simp] theorem diagLoopbackBody_memOk (v : Serving) (s : State) : MemOk (diagLoopbackBody v s).2 ↔ MemOk s := memOk_of_core (diagLoopbackBody_core v s)
@[simp] theorem diagLoopbackBody_part (v : Serving) (s : State) {sp : StatePart} (g_braid : sp ≠ .braid) (g_ferry : sp ≠ .ferry) (g_lanes : sp ≠ .lanes) (g_twin : sp ≠ .twin) (g_debug : sp ≠ .debug) (g_events : sp ≠ .events) : part sp (diagLoopbackBody v s).2 = part sp s := by
  unfold diagLoopbackBody
  dsimp only
  repeat' split
  all_goals simp [*]
@[simp] theorem diagLoopback_core (s : State) : coreView (diagLoopback s) = coreView s := by
  unfold diagLoopback
  simp
@[simp] theorem diagLoopback_fuses (s : State) : fuseView (diagLoopback s) = fuseView s := fuses_of_core (diagLoopback_core s)
@[simp] theorem diagLoopback_memOk (s : State) : MemOk (diagLoopback s) ↔ MemOk s := memOk_of_core (diagLoopback_core s)
@[simp] theorem diagLoopback_part (s : State) {sp : StatePart} (g_braid : sp ≠ .braid) (g_ferry : sp ≠ .ferry) (g_lanes : sp ≠ .lanes) (g_twin : sp ≠ .twin) (g_debug : sp ≠ .debug) (g_events : sp ≠ .events) : part sp (diagLoopback s) = part sp s := by
  unfold diagLoopback
  simp [*]
@[simp] theorem portEv_core (p : Nat) (cause : Nat) (sev : Nat) (s : State) : coreView (portEv p cause sev s) = coreView s := by
  unfold portEv
  simp [core_ite]
@[simp] theorem portEv_fuses (p : Nat) (cause : Nat) (sev : Nat) (s : State) : fuseView (portEv p cause sev s) = fuseView s := fuses_of_core (portEv_core p cause sev s)
@[simp] theorem portEv_memOk (p : Nat) (cause : Nat) (sev : Nat) (s : State) : MemOk (portEv p cause sev s) ↔ MemOk s := memOk_of_core (portEv_core p cause sev s)
@[simp] theorem portEv_part (p : Nat) (cause : Nat) (sev : Nat) (s : State) {sp : StatePart} (g_braid : sp ≠ .braid) (g_events : sp ≠ .events) : part sp (portEv p cause sev s) = part sp s := by
  unfold portEv
  simp [part_ite, *]
@[simp] theorem grantLvc_core (p : Nat) (lvc : Nat) (fuel : Nat) (s : State) : coreView (grantLvc p lvc fuel s) = coreView s := by
  induction fuel generalizing s with
  | zero => rfl
  | succ f ih =>
    unfold grantLvc
    dsimp only
    repeat' split
    all_goals first | rfl | simp [ih]
@[simp] theorem grantLvc_fuses (p : Nat) (lvc : Nat) (fuel : Nat) (s : State) : fuseView (grantLvc p lvc fuel s) = fuseView s := fuses_of_core (grantLvc_core p lvc fuel s)
@[simp] theorem grantLvc_memOk (p : Nat) (lvc : Nat) (fuel : Nat) (s : State) : MemOk (grantLvc p lvc fuel s) ↔ MemOk s := memOk_of_core (grantLvc_core p lvc fuel s)
@[simp] theorem grantLvc_part (p : Nat) (lvc : Nat) (fuel : Nat) (s : State) {sp : StatePart} (g_braid : sp ≠ .braid) (g_delta : sp ≠ .delta) : part sp (grantLvc p lvc fuel s) = part sp s := by
  induction fuel generalizing s with
  | zero => rfl
  | succ f ih =>
    unfold grantLvc
    dsimp only
    repeat' split
    all_goals first | rfl | simp [ih, *]
@[simp] theorem grantPort_core (p : Nat) (s : State) : coreView (grantPort p s) = coreView s := by
  unfold grantPort
  simp
@[simp] theorem grantPort_fuses (p : Nat) (s : State) : fuseView (grantPort p s) = fuseView s := fuses_of_core (grantPort_core p s)
@[simp] theorem grantPort_memOk (p : Nat) (s : State) : MemOk (grantPort p s) ↔ MemOk s := memOk_of_core (grantPort_core p s)
@[simp] theorem grantPort_part (p : Nat) (s : State) {sp : StatePart} (g_braid : sp ≠ .braid) (g_delta : sp ≠ .delta) : part sp (grantPort p s) = part sp s := by
  unfold grantPort
  simp [*]
@[simp] theorem trackWindows_core (s : State) : coreView (trackWindows s) = coreView s := by
  unfold trackWindows
  split <;> simp
@[simp] theorem trackWindows_fuses (s : State) : fuseView (trackWindows s) = fuseView s := fuses_of_core (trackWindows_core s)
@[simp] theorem trackWindows_memOk (s : State) : MemOk (trackWindows s) ↔ MemOk s := memOk_of_core (trackWindows_core s)
@[simp] theorem trackWindows_part (s : State) {sp : StatePart} (g_braid : sp ≠ .braid) (g_twin : sp ≠ .twin) (g_events : sp ≠ .events) : part sp (trackWindows s) = part sp s := by
  unfold trackWindows
  split <;> simp [*]
@[simp] theorem trackedEntry_core (s : State) : coreView (trackedEntry s) = coreView s := by
  unfold trackedEntry
  simp
@[simp] theorem trackedEntry_fuses (s : State) : fuseView (trackedEntry s) = fuseView s := fuses_of_core (trackedEntry_core s)
@[simp] theorem trackedEntry_memOk (s : State) : MemOk (trackedEntry s) ↔ MemOk s := memOk_of_core (trackedEntry_core s)
@[simp] theorem trackedEntry_part (s : State) {sp : StatePart} (g_braid : sp ≠ .braid) (g_ferry : sp ≠ .ferry) (g_twin : sp ≠ .twin) (g_debug : sp ≠ .debug) (g_events : sp ≠ .events) : part sp (trackedEntry s) = part sp s := by
  unfold trackedEntry
  simp [*]
@[simp] theorem markDirty_fuses (a : Nat) (s : State) : fuseView (markDirty a s) = fuseView s := by
  unfold markDirty
  dsimp only
  repeat' split
  all_goals first | (simp; done) | (refine (hwWrite_getD_fuses _ _ _).trans (by simp))
@[simp] theorem markDirty_memOk (a : Nat) (s : State) (h : MemOk s) : MemOk (markDirty a s) := by
  unfold markDirty
  dsimp only
  repeat' split
  all_goals first | (simpa using h) | exact hwWrite_getD_memOk _ _ _ (by simpa using h)
@[simp] theorem markDirty_part (a : Nat) (s : State) {sp : StatePart} (g_twin : sp ≠ .twin) (g_dram : sp ≠ .dram) (g_mems : sp ≠ .mems) : part sp (markDirty a s) = part sp s := by
  unfold markDirty
  dsimp only
  repeat' split
  all_goals first | (simp [*]; done) | (refine (hwWrite_getD_part _ _ _ ‹_› ‹_›).trans (by simp [*]))
@[simp] theorem clearDirty_fuses (page : Nat) (s : State) : fuseView (clearDirty page s) = fuseView s := by
  unfold clearDirty
  dsimp only
  repeat' split
  all_goals first | (simp; done) | (refine (hwWrite_getD_fuses _ _ _).trans (by simp))
@[simp] theorem clearDirty_memOk (page : Nat) (s : State) (h : MemOk s) : MemOk (clearDirty page s) := by
  unfold clearDirty
  dsimp only
  repeat' split
  all_goals first | (simpa using h) | exact hwWrite_getD_memOk _ _ _ (by simpa using h)
@[simp] theorem clearDirty_part (page : Nat) (s : State) {sp : StatePart} (g_twin : sp ≠ .twin) (g_dram : sp ≠ .dram) (g_mems : sp ≠ .mems) : part sp (clearDirty page s) = part sp s := by
  unfold clearDirty
  dsimp only
  repeat' split
  all_goals first | (simp [*]; done) | (refine (hwWrite_getD_part _ _ _ ‹_› ‹_›).trans (by simp [*]))
@[simp] theorem mirrorAnswer_core (m : Mirrored) (s : State) : coreView (mirrorAnswer m s) = coreView s := by
  unfold mirrorAnswer
  split <;> simp
@[simp] theorem mirrorAnswer_fuses (m : Mirrored) (s : State) : fuseView (mirrorAnswer m s) = fuseView s := fuses_of_core (mirrorAnswer_core m s)
@[simp] theorem mirrorAnswer_memOk (m : Mirrored) (s : State) : MemOk (mirrorAnswer m s) ↔ MemOk s := memOk_of_core (mirrorAnswer_core m s)
@[simp] theorem mirrorAnswer_part (m : Mirrored) (s : State) {sp : StatePart} (g_braid : sp ≠ .braid) (g_events : sp ≠ .events) : part sp (mirrorAnswer m s) = part sp s := by
  unfold mirrorAnswer
  split <;> simp [*]
@[simp] theorem twinDone_core (opcode : Nat) (s : State) : coreView (twinDone opcode s) = coreView s := by
  rfl
@[simp] theorem twinDone_fuses (opcode : Nat) (s : State) : fuseView (twinDone opcode s) = fuseView s := fuses_of_core (twinDone_core opcode s)
@[simp] theorem twinDone_memOk (opcode : Nat) (s : State) : MemOk (twinDone opcode s) ↔ MemOk s := memOk_of_core (twinDone_core opcode s)
@[simp] theorem twinDone_part (opcode : Nat) (s : State) {sp : StatePart} (g_ferry : sp ≠ .ferry) : part sp (twinDone opcode s) = part sp s := by
  cases sp <;> first | rfl | contradiction
@[simp] theorem dropWindow_core (i : Nat) (w : Window) (s : State) : coreView (dropWindow i w s) = coreView s := by
  rfl
@[simp] theorem dropWindow_fuses (i : Nat) (w : Window) (s : State) : fuseView (dropWindow i w s) = fuseView s := fuses_of_core (dropWindow_core i w s)
@[simp] theorem dropWindow_memOk (i : Nat) (w : Window) (s : State) : MemOk (dropWindow i w s) ↔ MemOk s := memOk_of_core (dropWindow_core i w s)
@[simp] theorem dropWindow_part (i : Nat) (w : Window) (s : State) {sp : StatePart} (g_twin : sp ≠ .twin) : part sp (dropWindow i w s) = part sp s := by
  cases sp <;> first | rfl | contradiction
@[simp] theorem clearDone_core (s : State) : coreView (clearDone s) = coreView s := by
  unfold clearDone
  repeat' split
  all_goals simp [*]
@[simp] theorem clearDone_fuses (s : State) : fuseView (clearDone s) = fuseView s := fuses_of_core (clearDone_core s)
@[simp] theorem clearDone_memOk (s : State) : MemOk (clearDone s) ↔ MemOk s := memOk_of_core (clearDone_core s)
@[simp] theorem clearDone_part (s : State) {sp : StatePart} (g_ferry : sp ≠ .ferry) (g_twin : sp ≠ .twin) : part sp (clearDone s) = part sp s := by
  unfold clearDone
  repeat' split
  all_goals simp [*]
@[simp] theorem flushMirror_fuses (s : State) : fuseView (flushMirror s) = fuseView s := by
  unfold flushMirror
  simp
@[simp] theorem flushMirror_memOk (s : State) (h : MemOk s) : MemOk (flushMirror s) := by
  unfold flushMirror
  dsimp only
  rw [clearDone_memOk]
  exact forAll_memOk _ _ _ (fun t x ht => by simpa using markDirty_memOk _ _ ht) (by simpa using h)
@[simp] theorem flushMirror_part (s : State) {sp : StatePart} (g_braid : sp ≠ .braid) (g_ferry : sp ≠ .ferry) (g_twin : sp ≠ .twin) (g_dram : sp ≠ .dram) (g_mems : sp ≠ .mems) (g_events : sp ≠ .events) : part sp (flushMirror s) = part sp s := by
  unfold flushMirror
  simp [*]
@[simp] theorem failQueued_core (p : Nat) (s : State) : coreView (failQueued p s) = coreView s := by
  unfold failQueued
  simp [core_ite]
@[simp] theorem failQueued_fuses (p : Nat) (s : State) : fuseView (failQueued p s) = fuseView s := fuses_of_core (failQueued_core p s)
@[simp] theorem failQueued_memOk (p : Nat) (s : State) : MemOk (failQueued p s) ↔ MemOk s := memOk_of_core (failQueued_core p s)
@[simp] theorem failQueued_part (p : Nat) (s : State) {sp : StatePart} (g_braid : sp ≠ .braid) (g_delta : sp ≠ .delta) (g_events : sp ≠ .events) : part sp (failQueued p s) = part sp s := by
  unfold failQueued
  simp [part_ite, *]
@[simp] theorem resetRemote_core (p : Nat) (s : State) : coreView (resetRemote p s) = coreView s := by
  unfold resetRemote
  repeat' split
  all_goals simp [*]
@[simp] theorem resetRemote_fuses (p : Nat) (s : State) : fuseView (resetRemote p s) = fuseView s := fuses_of_core (resetRemote_core p s)
@[simp] theorem resetRemote_memOk (p : Nat) (s : State) : MemOk (resetRemote p s) ↔ MemOk s := memOk_of_core (resetRemote_core p s)
@[simp] theorem resetRemote_part (p : Nat) (s : State) {sp : StatePart} (g_braid : sp ≠ .braid) (g_ferry : sp ≠ .ferry) (g_locks : sp ≠ .locks) (g_events : sp ≠ .events) : part sp (resetRemote p s) = part sp s := by
  unfold resetRemote
  repeat' split
  all_goals simp [*]
@[simp] theorem portFall_fuses (p : Nat) (cause : Nat) (s : State) : fuseView (portFall p cause s) = fuseView s := by
  unfold portFall
  simp [fuses_ite]
@[simp] theorem portFall_memOk (p : Nat) (cause : Nat) (s : State) (h : MemOk s) : MemOk (portFall p cause s) := by
  unfold portFall
  dsimp only
  repeat' split
  all_goals first | (apply flushMirror_memOk; simpa using h) | (simpa using h)
@[simp] theorem portFall_part (p : Nat) (cause : Nat) (s : State) {sp : StatePart} (g_braid : sp ≠ .braid) (g_ferry : sp ≠ .ferry) (g_locks : sp ≠ .locks) (g_lanes : sp ≠ .lanes) (g_delta : sp ≠ .delta) (g_twin : sp ≠ .twin) (g_dram : sp ≠ .dram) (g_mems : sp ≠ .mems) (g_debug : sp ≠ .debug) (g_events : sp ≠ .events) : part sp (portFall p cause s) = part sp s := by
  unfold portFall
  simp [part_ite, *]
@[simp] theorem portInit_core (p : Nat) (s : State) : coreView (portInit p s) = coreView s := by
  unfold portInit
  simp [core_ite]
@[simp] theorem portInit_fuses (p : Nat) (s : State) : fuseView (portInit p s) = fuseView s := fuses_of_core (portInit_core p s)
@[simp] theorem portInit_memOk (p : Nat) (s : State) : MemOk (portInit p s) ↔ MemOk s := memOk_of_core (portInit_core p s)
@[simp] theorem portInit_part (p : Nat) (s : State) {sp : StatePart} (g_delta : sp ≠ .delta) : part sp (portInit p s) = part sp s := by
  unfold portInit
  simp [part_ite, *]
@[simp] theorem portUp_core (p : Nat) (flight : Nat) (s : State) : coreView (portUp p flight s) = coreView s := by
  unfold portUp
  split <;> simp
@[simp] theorem portUp_fuses (p : Nat) (flight : Nat) (s : State) : fuseView (portUp p flight s) = fuseView s := fuses_of_core (portUp_core p flight s)
@[simp] theorem portUp_memOk (p : Nat) (flight : Nat) (s : State) : MemOk (portUp p flight s) ↔ MemOk s := memOk_of_core (portUp_core p flight s)
@[simp] theorem portUp_part (p : Nat) (flight : Nat) (s : State) {sp : StatePart} (g_braid : sp ≠ .braid) (g_delta : sp ≠ .delta) (g_events : sp ≠ .events) : part sp (portUp p flight s) = part sp s := by
  unfold portUp
  split <;> simp [*]
@[simp] theorem portDown_fuses (p : Nat) (cause : Nat) (s : State) : fuseView (portDown p cause s) = fuseView s := by
  unfold portDown
  split <;> simp
@[simp] theorem portDown_memOk (p : Nat) (cause : Nat) (s : State) (h : MemOk s) : MemOk (portDown p cause s) := by
  unfold portDown
  repeat' split
  all_goals simp [*]
@[simp] theorem portDown_part (p : Nat) (cause : Nat) (s : State) {sp : StatePart} (g_braid : sp ≠ .braid) (g_ferry : sp ≠ .ferry) (g_locks : sp ≠ .locks) (g_lanes : sp ≠ .lanes) (g_delta : sp ≠ .delta) (g_twin : sp ≠ .twin) (g_dram : sp ≠ .dram) (g_mems : sp ≠ .mems) (g_debug : sp ≠ .debug) (g_events : sp ≠ .events) : part sp (portDown p cause s) = part sp s := by
  unfold portDown
  split <;> simp [*]
@[simp] theorem ackTo_core (p : Nat) (ack : Nat) (s : State) : coreView (ackTo p ack s) = coreView s := by
  unfold ackTo
  simp [core_ite]
@[simp] theorem ackTo_fuses (p : Nat) (ack : Nat) (s : State) : fuseView (ackTo p ack s) = fuseView s := fuses_of_core (ackTo_core p ack s)
@[simp] theorem ackTo_memOk (p : Nat) (ack : Nat) (s : State) : MemOk (ackTo p ack s) ↔ MemOk s := memOk_of_core (ackTo_core p ack s)
@[simp] theorem ackTo_part (p : Nat) (ack : Nat) (s : State) {sp : StatePart} (g_delta : sp ≠ .delta) : part sp (ackTo p ack s) = part sp s := by
  unfold ackTo
  simp [part_ite, *]
@[simp] theorem replayRate_core (p : Nat) (s : State) : coreView (replayRate p s) = coreView s := by
  unfold replayRate
  dsimp only
  split
  · exact (raiseEvAt_core ..).trans (modEvents_core ..)
  · exact modEvents_core ..
@[simp] theorem replayRate_fuses (p : Nat) (s : State) : fuseView (replayRate p s) = fuseView s := fuses_of_core (replayRate_core p s)
@[simp] theorem replayRate_memOk (p : Nat) (s : State) : MemOk (replayRate p s) ↔ MemOk s := memOk_of_core (replayRate_core p s)
@[simp] theorem replayRate_part (p : Nat) (s : State) {sp : StatePart} (g_braid : sp ≠ .braid) (g_events : sp ≠ .events) : part sp (replayRate p s) = part sp s := by
  unfold replayRate
  simp [part_ite, *]
@[simp] theorem startReplay_core (p : Nat) (s : State) : coreView (startReplay p s) = coreView s := by
  unfold startReplay
  split <;> simp
@[simp] theorem startReplay_fuses (p : Nat) (s : State) : fuseView (startReplay p s) = fuseView s := fuses_of_core (startReplay_core p s)
@[simp] theorem startReplay_memOk (p : Nat) (s : State) : MemOk (startReplay p s) ↔ MemOk s := memOk_of_core (startReplay_core p s)
@[simp] theorem startReplay_part (p : Nat) (s : State) {sp : StatePart} (g_braid : sp ≠ .braid) (g_delta : sp ≠ .delta) (g_events : sp ≠ .events) : part sp (startReplay p s) = part sp s := by
  unfold startReplay
  split <;> simp [*]
@[simp] theorem rxFlit_core (p : Nat) (f : RxLinkFlit) (s : State) : coreView (rxFlit p f s) = coreView s := by
  unfold rxFlit
  simp [core_ite]
@[simp] theorem rxFlit_fuses (p : Nat) (f : RxLinkFlit) (s : State) : fuseView (rxFlit p f s) = fuseView s := fuses_of_core (rxFlit_core p f s)
@[simp] theorem rxFlit_memOk (p : Nat) (f : RxLinkFlit) (s : State) : MemOk (rxFlit p f s) ↔ MemOk s := memOk_of_core (rxFlit_core p f s)
@[simp] theorem rxFlit_part (p : Nat) (f : RxLinkFlit) (s : State) {sp : StatePart} (g_braid : sp ≠ .braid) (g_delta : sp ≠ .delta) : part sp (rxFlit p f s) = part sp s := by
  unfold rxFlit
  simp [part_ite, *]
@[simp] theorem readFlit_core (p : Nat) (f : RxLinkFlit) (s : State) : coreView (readFlit p f s) = coreView s := by
  unfold readFlit
  simp [core_ite]
@[simp] theorem readFlit_fuses (p : Nat) (f : RxLinkFlit) (s : State) : fuseView (readFlit p f s) = fuseView s := fuses_of_core (readFlit_core p f s)
@[simp] theorem readFlit_memOk (p : Nat) (f : RxLinkFlit) (s : State) : MemOk (readFlit p f s) ↔ MemOk s := memOk_of_core (readFlit_core p f s)
@[simp] theorem readFlit_part (p : Nat) (f : RxLinkFlit) (s : State) {sp : StatePart} (g_braid : sp ≠ .braid) (g_delta : sp ≠ .delta) : part sp (readFlit p f s) = part sp s := by
  unfold readFlit
  simp [part_ite, *]
@[simp] theorem linkFlitReceive_core (p : Nat) (s : State) : coreView (linkFlitReceive p s) = coreView s := by
  unfold linkFlitReceive
  dsimp only
  repeat' split
  all_goals simp [*]
@[simp] theorem linkFlitReceive_fuses (p : Nat) (s : State) : fuseView (linkFlitReceive p s) = fuseView s := fuses_of_core (linkFlitReceive_core p s)
@[simp] theorem linkFlitReceive_memOk (p : Nat) (s : State) : MemOk (linkFlitReceive p s) ↔ MemOk s := memOk_of_core (linkFlitReceive_core p s)
@[simp] theorem linkFlitReceive_part (p : Nat) (s : State) {sp : StatePart} (g_braid : sp ≠ .braid) (g_delta : sp ≠ .delta) : part sp (linkFlitReceive p s) = part sp s := by
  unfold linkFlitReceive
  dsimp only
  repeat' split
  all_goals simp [*]
@[simp] theorem sendLinkFlit_core (p : Nat) (f : LinkFlit) (s : State) : coreView (sendLinkFlit p f s) = coreView s := by
  rfl
@[simp] theorem sendLinkFlit_fuses (p : Nat) (f : LinkFlit) (s : State) : fuseView (sendLinkFlit p f s) = fuseView s := fuses_of_core (sendLinkFlit_core p f s)
@[simp] theorem sendLinkFlit_memOk (p : Nat) (f : LinkFlit) (s : State) : MemOk (sendLinkFlit p f s) ↔ MemOk s := memOk_of_core (sendLinkFlit_core p f s)
@[simp] theorem sendLinkFlit_part (p : Nat) (f : LinkFlit) (s : State) {sp : StatePart} (g_delta : sp ≠ .delta) : part sp (sendLinkFlit p f s) = part sp s := by
  cases sp <;> first | rfl | contradiction
@[simp] theorem twinAnswers_core (s : State) : coreView (twinAnswers s) = coreView s := by
  unfold twinAnswers
  simp
@[simp] theorem twinAnswers_fuses (s : State) : fuseView (twinAnswers s) = fuseView s := fuses_of_core (twinAnswers_core s)
@[simp] theorem twinAnswers_memOk (s : State) : MemOk (twinAnswers s) ↔ MemOk s := memOk_of_core (twinAnswers_core s)
@[simp] theorem twinAnswers_part (s : State) {sp : StatePart} (g_braid : sp ≠ .braid) (g_delta : sp ≠ .delta) : part sp (twinAnswers s) = part sp s := by
  unfold twinAnswers
  simp [*]
@[simp] theorem linkFlitSend_core (p : Nat) (s0 : State) : coreView (linkFlitSend p s0) = coreView s0 := by
  unfold linkFlitSend
  dsimp only
  repeat' split
  all_goals simp [*]
@[simp] theorem linkFlitSend_fuses (p : Nat) (s0 : State) : fuseView (linkFlitSend p s0) = fuseView s0 := fuses_of_core (linkFlitSend_core p s0)
@[simp] theorem linkFlitSend_memOk (p : Nat) (s0 : State) : MemOk (linkFlitSend p s0) ↔ MemOk s0 := memOk_of_core (linkFlitSend_core p s0)
@[simp] theorem linkFlitSend_part (p : Nat) (s0 : State) {sp : StatePart} (g_braid : sp ≠ .braid) (g_delta : sp ≠ .delta) : part sp (linkFlitSend p s0) = part sp s0 := by
  unfold linkFlitSend
  dsimp only
  repeat' split
  all_goals simp [*]
@[simp] theorem readLinkctl_core (p : Nat) (c : LinkCtl) (s : State) : coreView (readLinkctl p c s) = coreView s := by
  unfold readLinkctl
  simp [core_ite]
@[simp] theorem readLinkctl_fuses (p : Nat) (c : LinkCtl) (s : State) : fuseView (readLinkctl p c s) = fuseView s := fuses_of_core (readLinkctl_core p c s)
@[simp] theorem readLinkctl_memOk (p : Nat) (c : LinkCtl) (s : State) : MemOk (readLinkctl p c s) ↔ MemOk s := memOk_of_core (readLinkctl_core p c s)
@[simp] theorem readLinkctl_part (p : Nat) (c : LinkCtl) (s : State) {sp : StatePart} (g_braid : sp ≠ .braid) (g_delta : sp ≠ .delta) (g_events : sp ≠ .events) : part sp (readLinkctl p c s) = part sp s := by
  unfold readLinkctl
  simp [part_ite, *]
@[simp] theorem linkctlReceive_core (p : Nat) (s : State) : coreView (linkctlReceive p s) = coreView s := by
  unfold linkctlReceive
  repeat' split
  all_goals first | (simp [*]; done) | (rename_i h; simp [*, takeBlock_core h]; done) | (rename_i h _; simp [*, takeBlock_core h]; done) | (rename_i h _ _; simp [*, takeBlock_core h]; done) | (rename_i h _ _ _; simp [*, takeBlock_core h]; done) | (rename_i h _ _ _ _; simp [*, takeBlock_core h]; done) | (rename_i h _ _ _ _ _; simp [*, takeBlock_core h]; done) | (rename_i h _ _ _ _ _ _; simp [*, takeBlock_core h]; done) | (rename_i h _ _ _ _ _ _ _; simp [*, takeBlock_core h]; done) | (rename_i h _ _ _ _ _ _ _ _; simp [*, takeBlock_core h]; done) | rfl
@[simp] theorem linkctlReceive_fuses (p : Nat) (s : State) : fuseView (linkctlReceive p s) = fuseView s := fuses_of_core (linkctlReceive_core p s)
@[simp] theorem linkctlReceive_memOk (p : Nat) (s : State) : MemOk (linkctlReceive p s) ↔ MemOk s := memOk_of_core (linkctlReceive_core p s)
@[simp] theorem linkctlReceive_part (p : Nat) (s : State) {sp : StatePart} (g_braid : sp ≠ .braid) (g_delta : sp ≠ .delta) (g_events : sp ≠ .events) : part sp (linkctlReceive p s) = part sp s := by
  unfold linkctlReceive
  repeat' split
  all_goals first | (simp [*]; done) | (rename_i h; simp [*, takeBlock_part h]; done) | (rename_i h _; simp [*, takeBlock_part h]; done) | (rename_i h _ _; simp [*, takeBlock_part h]; done) | (rename_i h _ _ _; simp [*, takeBlock_part h]; done) | (rename_i h _ _ _ _; simp [*, takeBlock_part h]; done) | (rename_i h _ _ _ _ _; simp [*, takeBlock_part h]; done) | (rename_i h _ _ _ _ _ _; simp [*, takeBlock_part h]; done) | (rename_i h _ _ _ _ _ _ _; simp [*, takeBlock_part h]; done) | (rename_i h _ _ _ _ _ _ _ _; simp [*, takeBlock_part h]; done) | (simp [*]; cases sp <;> first | rfl | contradiction) | (cases sp <;> first | rfl | contradiction)
@[simp] theorem replayTimeout_core (p : Nat) (s : State) : coreView (replayTimeout p s) = coreView s := by
  unfold replayTimeout
  simp [core_ite]
@[simp] theorem replayTimeout_fuses (p : Nat) (s : State) : fuseView (replayTimeout p s) = fuseView s := fuses_of_core (replayTimeout_core p s)
@[simp] theorem replayTimeout_memOk (p : Nat) (s : State) : MemOk (replayTimeout p s) ↔ MemOk s := memOk_of_core (replayTimeout_core p s)
@[simp] theorem replayTimeout_part (p : Nat) (s : State) {sp : StatePart} (g_braid : sp ≠ .braid) (g_delta : sp ≠ .delta) (g_events : sp ≠ .events) : part sp (replayTimeout p s) = part sp s := by
  unfold replayTimeout
  simp [part_ite, *]
@[simp] theorem linkctlSend_core (p : Nat) (s : State) : coreView (linkctlSend p s) = coreView s := by
  unfold linkctlSend
  simp [core_ite]
@[simp] theorem linkctlSend_fuses (p : Nat) (s : State) : fuseView (linkctlSend p s) = fuseView s := fuses_of_core (linkctlSend_core p s)
@[simp] theorem linkctlSend_memOk (p : Nat) (s : State) : MemOk (linkctlSend p s) ↔ MemOk s := memOk_of_core (linkctlSend_core p s)
@[simp] theorem linkctlSend_part (p : Nat) (s : State) {sp : StatePart} (g_delta : sp ≠ .delta) : part sp (linkctlSend p s) = part sp s := by
  unfold linkctlSend
  simp [part_ite, *]
@[simp] theorem tokenArrival_core (id : Nat) (s : State) : coreView (tokenArrival id s) = coreView s := by
  unfold tokenArrival
  repeat' split
  all_goals simp [*]
@[simp] theorem tokenArrival_fuses (id : Nat) (s : State) : fuseView (tokenArrival id s) = fuseView s := fuses_of_core (tokenArrival_core id s)
@[simp] theorem tokenArrival_memOk (id : Nat) (s : State) : MemOk (tokenArrival id s) ↔ MemOk s := memOk_of_core (tokenArrival_core id s)
@[simp] theorem tokenArrival_part (id : Nat) (s : State) {sp : StatePart} (g_braid : sp ≠ .braid) (g_delta : sp ≠ .delta) : part sp (tokenArrival id s) = part sp s := by
  unfold tokenArrival
  repeat' split
  all_goals simp [*]
@[simp] theorem freeFront_core (p : Nat) (lvc : Nat) (n : Nat) (s : State) : coreView (freeFront p lvc n s) = coreView s := by
  rfl
@[simp] theorem freeFront_fuses (p : Nat) (lvc : Nat) (n : Nat) (s : State) : fuseView (freeFront p lvc n s) = fuseView s := fuses_of_core (freeFront_core p lvc n s)
@[simp] theorem freeFront_memOk (p : Nat) (lvc : Nat) (n : Nat) (s : State) : MemOk (freeFront p lvc n s) ↔ MemOk s := memOk_of_core (freeFront_core p lvc n s)
@[simp] theorem freeFront_part (p : Nat) (lvc : Nat) (n : Nat) (s : State) {sp : StatePart} (g_delta : sp ≠ .delta) : part sp (freeFront p lvc n s) = part sp s := by
  cases sp <;> first | rfl | contradiction
@[simp] theorem enterLocal_core (p : Nat) (lvc : Nat) (n : Nat) (q : Packet) (s : State) : coreView (enterLocal p lvc n q s) = coreView s := by
  unfold enterLocal
  simp [core_ite]
@[simp] theorem enterLocal_fuses (p : Nat) (lvc : Nat) (n : Nat) (q : Packet) (s : State) : fuseView (enterLocal p lvc n q s) = fuseView s := fuses_of_core (enterLocal_core p lvc n q s)
@[simp] theorem enterLocal_memOk (p : Nat) (lvc : Nat) (n : Nat) (q : Packet) (s : State) : MemOk (enterLocal p lvc n q s) ↔ MemOk s := memOk_of_core (enterLocal_core p lvc n q s)
@[simp] theorem enterLocal_part (p : Nat) (lvc : Nat) (n : Nat) (q : Packet) (s : State) {sp : StatePart} (g_braid : sp ≠ .braid) (g_sluice : sp ≠ .sluice) (g_delta : sp ≠ .delta) (g_events : sp ≠ .events) : part sp (enterLocal p lvc n q s) = part sp s := by
  unfold enterLocal
  simp [part_ite, *]
@[simp] theorem enterForward_core (p : Nat) (lvc : Nat) (n : Nat) (q : Packet) (s : State) : coreView (enterForward p lvc n q s) = coreView s := by
  unfold enterForward
  dsimp only
  repeat' split
  all_goals simp [*]
@[simp] theorem enterForward_fuses (p : Nat) (lvc : Nat) (n : Nat) (q : Packet) (s : State) : fuseView (enterForward p lvc n q s) = fuseView s := fuses_of_core (enterForward_core p lvc n q s)
@[simp] theorem enterForward_memOk (p : Nat) (lvc : Nat) (n : Nat) (q : Packet) (s : State) : MemOk (enterForward p lvc n q s) ↔ MemOk s := memOk_of_core (enterForward_core p lvc n q s)
@[simp] theorem enterForward_part (p : Nat) (lvc : Nat) (n : Nat) (q : Packet) (s : State) {sp : StatePart} (g_braid : sp ≠ .braid) (g_sluice : sp ≠ .sluice) (g_delta : sp ≠ .delta) (g_events : sp ≠ .events) : part sp (enterForward p lvc n q s) = part sp s := by
  unfold enterForward
  dsimp only
  repeat' split
  all_goals simp [*]
@[simp] theorem enterTwin_core (lvc : Nat) (n : Nat) (q : Packet) (s : State) : coreView (enterTwin lvc n q s) = coreView s := by
  unfold enterTwin
  simp [core_ite]
@[simp] theorem enterTwin_fuses (lvc : Nat) (n : Nat) (q : Packet) (s : State) : fuseView (enterTwin lvc n q s) = fuseView s := fuses_of_core (enterTwin_core lvc n q s)
@[simp] theorem enterTwin_memOk (lvc : Nat) (n : Nat) (q : Packet) (s : State) : MemOk (enterTwin lvc n q s) ↔ MemOk s := memOk_of_core (enterTwin_core lvc n q s)
@[simp] theorem enterTwin_part (lvc : Nat) (n : Nat) (q : Packet) (s : State) {sp : StatePart} (g_braid : sp ≠ .braid) (g_delta : sp ≠ .delta) (g_twin : sp ≠ .twin) (g_eng : sp ≠ .eng) (g_events : sp ≠ .events) : part sp (enterTwin lvc n q s) = part sp s := by
  unfold enterTwin
  simp [part_ite, *]
@[simp] theorem deltaPacketEntry_core (p : Nat) (s : State) : coreView (deltaPacketEntry p s) = coreView s := by
  unfold deltaPacketEntry
  repeat' split
  all_goals simp [*]
@[simp] theorem deltaPacketEntry_fuses (p : Nat) (s : State) : fuseView (deltaPacketEntry p s) = fuseView s := fuses_of_core (deltaPacketEntry_core p s)
@[simp] theorem deltaPacketEntry_memOk (p : Nat) (s : State) : MemOk (deltaPacketEntry p s) ↔ MemOk s := memOk_of_core (deltaPacketEntry_core p s)
@[simp] theorem deltaPacketEntry_part (p : Nat) (s : State) {sp : StatePart} (g_braid : sp ≠ .braid) (g_sluice : sp ≠ .sluice) (g_delta : sp ≠ .delta) (g_twin : sp ≠ .twin) (g_eng : sp ≠ .eng) (g_events : sp ≠ .events) : part sp (deltaPacketEntry p s) = part sp s := by
  unfold deltaPacketEntry
  repeat' split
  all_goals simp [*]
@[simp] theorem keySwitchApply_core (link : Nat) (s : State) : coreView (keySwitchApply link s) = coreView s := by
  unfold keySwitchApply
  split <;> simp
@[simp] theorem keySwitchApply_fuses (link : Nat) (s : State) : fuseView (keySwitchApply link s) = fuseView s := fuses_of_core (keySwitchApply_core link s)
@[simp] theorem keySwitchApply_memOk (link : Nat) (s : State) : MemOk (keySwitchApply link s) ↔ MemOk s := memOk_of_core (keySwitchApply_core link s)
@[simp] theorem keySwitchApply_part (link : Nat) (s : State) {sp : StatePart} (g_braid : sp ≠ .braid) (g_ferry : sp ≠ .ferry) (g_delta : sp ≠ .delta) (g_crypto : sp ≠ .crypto) (g_events : sp ≠ .events) : part sp (keySwitchApply link s) = part sp s := by
  unfold keySwitchApply
  split <;> simp [*]
@[simp] theorem portSetBody_fuses (v : Serving) (s : State) : fuseView (portSetBody v s).2 = fuseView s := by
  unfold portSetBody
  dsimp only
  repeat' split
  all_goals simp [*]
@[simp] theorem portSetBody_memOk (v : Serving) (s : State) (h : MemOk s) : MemOk (portSetBody v s).2 := by
  unfold portSetBody
  dsimp only
  repeat' split
  all_goals simp [*]
@[simp] theorem portSetBody_part (v : Serving) (s : State) {sp : StatePart} (g_braid : sp ≠ .braid) (g_ferry : sp ≠ .ferry) (g_locks : sp ≠ .locks) (g_lanes : sp ≠ .lanes) (g_delta : sp ≠ .delta) (g_twin : sp ≠ .twin) (g_dram : sp ≠ .dram) (g_mems : sp ≠ .mems) (g_debug : sp ≠ .debug) (g_events : sp ≠ .events) : part sp (portSetBody v s).2 = part sp s := by
  unfold portSetBody
  dsimp only
  repeat' split
  all_goals simp [*]
@[simp] theorem deltaPortSet_fuses (s : State) : fuseView (deltaPortSet s) = fuseView s := by
  unfold deltaPortSet
  simp
@[simp] theorem deltaPortSet_memOk (s : State) (h : MemOk s) : MemOk (deltaPortSet s) := by
  unfold deltaPortSet
  exact ferryServe_keeps _ _ _ _ _ (fun v t ht => portSetBody_memOk _ _ ht) h
@[simp] theorem deltaPortSet_part (s : State) {sp : StatePart} (g_braid : sp ≠ .braid) (g_ferry : sp ≠ .ferry) (g_locks : sp ≠ .locks) (g_lanes : sp ≠ .lanes) (g_delta : sp ≠ .delta) (g_twin : sp ≠ .twin) (g_dram : sp ≠ .dram) (g_mems : sp ≠ .mems) (g_debug : sp ≠ .debug) (g_events : sp ≠ .events) : part sp (deltaPortSet s) = part sp s := by
  unfold deltaPortSet
  simp [*]
@[simp] theorem farRouteBody_core (v : Serving) (s : State) : coreView (farRouteBody v s).2 = coreView s := by
  unfold farRouteBody
  repeat' split
  all_goals simp [*]
@[simp] theorem farRouteBody_fuses (v : Serving) (s : State) : fuseView (farRouteBody v s).2 = fuseView s := fuses_of_core (farRouteBody_core v s)
@[simp] theorem farRouteBody_memOk (v : Serving) (s : State) : MemOk (farRouteBody v s).2 ↔ MemOk s := memOk_of_core (farRouteBody_core v s)
@[simp] theorem farRouteBody_part (v : Serving) (s : State) {sp : StatePart} (g_ferry : sp ≠ .ferry) (g_delta : sp ≠ .delta) (g_twin : sp ≠ .twin) : part sp (farRouteBody v s).2 = part sp s := by
  unfold farRouteBody
  repeat' split
  all_goals simp [*]
@[simp] theorem farRouteLoad_core (s : State) : coreView (farRouteLoad s) = coreView s := by
  unfold farRouteLoad
  simp
@[simp] theorem farRouteLoad_fuses (s : State) : fuseView (farRouteLoad s) = fuseView s := fuses_of_core (farRouteLoad_core s)
@[simp] theorem farRouteLoad_memOk (s : State) : MemOk (farRouteLoad s) ↔ MemOk s := memOk_of_core (farRouteLoad_core s)
@[simp] theorem farRouteLoad_part (s : State) {sp : StatePart} (g_ferry : sp ≠ .ferry) (g_delta : sp ≠ .delta) (g_twin : sp ≠ .twin) : part sp (farRouteLoad s) = part sp s := by
  unfold farRouteLoad
  simp [*]
@[simp] theorem deviceIdBody_core (v : Serving) (s : State) : coreView (deviceIdBody v s).2 = coreView s := by
  unfold deviceIdBody
  repeat' split
  all_goals simp [*]
@[simp] theorem deviceIdBody_fuses (v : Serving) (s : State) : fuseView (deviceIdBody v s).2 = fuseView s := fuses_of_core (deviceIdBody_core v s)
@[simp] theorem deviceIdBody_memOk (v : Serving) (s : State) : MemOk (deviceIdBody v s).2 ↔ MemOk s := memOk_of_core (deviceIdBody_core v s)
@[simp] theorem deviceIdBody_part (v : Serving) (s : State) {sp : StatePart} (g_delta : sp ≠ .delta) : part sp (deviceIdBody v s).2 = part sp s := by
  unfold deviceIdBody
  repeat' split
  all_goals simp [*]
@[simp] theorem deviceIdSet_core (s : State) : coreView (deviceIdSet s) = coreView s := by
  unfold deviceIdSet
  simp
@[simp] theorem deviceIdSet_fuses (s : State) : fuseView (deviceIdSet s) = fuseView s := fuses_of_core (deviceIdSet_core s)
@[simp] theorem deviceIdSet_memOk (s : State) : MemOk (deviceIdSet s) ↔ MemOk s := memOk_of_core (deviceIdSet_core s)
@[simp] theorem deviceIdSet_part (s : State) {sp : StatePart} (g_ferry : sp ≠ .ferry) (g_delta : sp ≠ .delta) : part sp (deviceIdSet s) = part sp s := by
  unfold deviceIdSet
  simp [*]
@[simp] theorem shiftLanes_core (a : LanePwr) (b : LanePwr) (tx : Bool) (s : State) : coreView (shiftLanes a b tx s) = coreView s := by
  unfold shiftLanes
  simp [core_ite]
@[simp] theorem shiftLanes_fuses (a : LanePwr) (b : LanePwr) (tx : Bool) (s : State) : fuseView (shiftLanes a b tx s) = fuseView s := fuses_of_core (shiftLanes_core a b tx s)
@[simp] theorem shiftLanes_memOk (a : LanePwr) (b : LanePwr) (tx : Bool) (s : State) : MemOk (shiftLanes a b tx s) ↔ MemOk s := memOk_of_core (shiftLanes_core a b tx s)
@[simp] theorem shiftLanes_part (a : LanePwr) (b : LanePwr) (tx : Bool) (s : State) {sp : StatePart} (g_lanes : sp ≠ .lanes) : part sp (shiftLanes a b tx s) = part sp s := by
  unfold shiftLanes
  simp [part_ite, *]
@[simp] theorem takeover_core (cause : Nat) (s : State) : coreView (takeover cause s) = coreView s := by
  unfold takeover
  simp
@[simp] theorem takeover_fuses (cause : Nat) (s : State) : fuseView (takeover cause s) = fuseView s := fuses_of_core (takeover_core cause s)
@[simp] theorem takeover_memOk (cause : Nat) (s : State) : MemOk (takeover cause s) ↔ MemOk s := memOk_of_core (takeover_core cause s)
@[simp] theorem takeover_part (cause : Nat) (s : State) {sp : StatePart} (g_braid : sp ≠ .braid) (g_lanes : sp ≠ .lanes) (g_twin : sp ≠ .twin) (g_events : sp ≠ .events) : part sp (takeover cause s) = part sp s := by
  unfold takeover
  simp [*]
@[simp] theorem fence_fuses (s : State) : fuseView (fence s) = fuseView s := by
  unfold fence
  simp
@[simp] theorem fence_memOk (s : State) (h : MemOk s) : MemOk (fence s) := by
  unfold fence
  simp [*]
@[simp] theorem fence_part (s : State) {sp : StatePart} (g_braid : sp ≠ .braid) (g_ferry : sp ≠ .ferry) (g_twin : sp ≠ .twin) (g_dram : sp ≠ .dram) (g_mems : sp ≠ .mems) (g_debug : sp ≠ .debug) (g_events : sp ≠ .events) : part sp (fence s) = part sp s := by
  unfold fence
  simp [*]
@[simp] theorem enterStandby_core (s : State) : coreView (enterStandby s) = coreView s := by
  unfold enterStandby
  simp
@[simp] theorem enterStandby_fuses (s : State) : fuseView (enterStandby s) = fuseView s := fuses_of_core (enterStandby_core s)
@[simp] theorem enterStandby_memOk (s : State) : MemOk (enterStandby s) ↔ MemOk s := memOk_of_core (enterStandby_core s)
@[simp] theorem enterStandby_part (s : State) {sp : StatePart} (g_lanes : sp ≠ .lanes) (g_twin : sp ≠ .twin) : part sp (enterStandby s) = part sp s := by
  unfold enterStandby
  simp [*]
@[simp] theorem twinPairBody_core (v : Serving) (s : State) : coreView (twinPairBody v s).2 = coreView s := by
  unfold twinPairBody
  dsimp only
  repeat' split
  all_goals first | (simp [*]; done) | (rename_i h; simp [*, wakeFor_core h]; done) | (rename_i h _; simp [*, wakeFor_core h]; done) | (rename_i h _ _; simp [*, wakeFor_core h]; done) | (rename_i h _ _ _; simp [*, wakeFor_core h]; done) | (rename_i h _ _ _ _; simp [*, wakeFor_core h]; done) | rfl
@[simp] theorem twinPairBody_fuses (v : Serving) (s : State) : fuseView (twinPairBody v s).2 = fuseView s := fuses_of_core (twinPairBody_core v s)
@[simp] theorem twinPairBody_memOk (v : Serving) (s : State) : MemOk (twinPairBody v s).2 ↔ MemOk s := memOk_of_core (twinPairBody_core v s)
@[simp] theorem twinPairBody_part (v : Serving) (s : State) {sp : StatePart} (g_braid : sp ≠ .braid) (g_ferry : sp ≠ .ferry) (g_lanes : sp ≠ .lanes) (g_delta : sp ≠ .delta) (g_twin : sp ≠ .twin) (g_eng : sp ≠ .eng) (g_dram : sp ≠ .dram) (g_mems : sp ≠ .mems) (g_fabric : sp ≠ .fabric) (g_power : sp ≠ .power) : part sp (twinPairBody v s).2 = part sp s := by
  unfold twinPairBody
  dsimp only
  repeat' split
  all_goals first | (simp [*]; done) | (rename_i h; simp [*, wakeFor_part h]; done) | (rename_i h _; simp [*, wakeFor_part h]; done) | (rename_i h _ _; simp [*, wakeFor_part h]; done) | (rename_i h _ _ _; simp [*, wakeFor_part h]; done) | (rename_i h _ _ _ _; simp [*, wakeFor_part h]; done) | (simp [*]; cases sp <;> first | rfl | contradiction) | (cases sp <;> first | rfl | contradiction)
@[simp] theorem twinPair_core (s : State) : coreView (twinPair s) = coreView s := by
  unfold twinPair
  simp
@[simp] theorem twinPair_fuses (s : State) : fuseView (twinPair s) = fuseView s := fuses_of_core (twinPair_core s)
@[simp] theorem twinPair_memOk (s : State) : MemOk (twinPair s) ↔ MemOk s := memOk_of_core (twinPair_core s)
@[simp] theorem twinPair_part (s : State) {sp : StatePart} (g_braid : sp ≠ .braid) (g_ferry : sp ≠ .ferry) (g_lanes : sp ≠ .lanes) (g_delta : sp ≠ .delta) (g_twin : sp ≠ .twin) (g_eng : sp ≠ .eng) (g_dram : sp ≠ .dram) (g_mems : sp ≠ .mems) (g_fabric : sp ≠ .fabric) (g_power : sp ≠ .power) : part sp (twinPair s) = part sp s := by
  unfold twinPair
  simp [*]
@[simp] theorem fillBitmap_fuses (w : Window) (b : Byte) (s : State) : fuseView (fillBitmap w b s) = fuseView s := by
  exact hwWrite_getD_fuses _ _ _
@[simp] theorem fillBitmap_memOk (w : Window) (b : Byte) (s : State) (h : MemOk s) : MemOk (fillBitmap w b s) := by
  exact hwWrite_getD_memOk _ _ _ h
@[simp] theorem fillBitmap_part (w : Window) (b : Byte) (s : State) {sp : StatePart} (g_dram : sp ≠ .dram) (g_mems : sp ≠ .mems) : part sp (fillBitmap w b s) = part sp s := by
  exact hwWrite_getD_part _ _ _ ‹_› ‹_›
@[simp] theorem pairingDone_fuses (p : PairReply) (s : State) : fuseView (pairingDone p s) = fuseView s := by
  unfold pairingDone
  dsimp only
  repeat' split
  all_goals simp [*]
@[simp] theorem pairingDone_memOk (p : PairReply) (s : State) (h : MemOk s) : MemOk (pairingDone p s) := by
  unfold pairingDone
  split
  · exact h
  · split
    · dsimp only
      rw [endJob_memOk]
      split
      · refine forAll_memOk _ _ _ (fun u x hu => fillBitmap_memOk _ _ _ hu) ?_
        exact (modTwin_memOk ..).mpr ((modDelta_memOk ..).mpr ((modTwin_memOk ..).mpr h))
      · exact (enterStandby_memOk ..).mpr ((modDelta_memOk ..).mpr ((modTwin_memOk ..).mpr h))
    · exact h
@[simp] theorem pairingDone_part (p : PairReply) (s : State) {sp : StatePart} (g_braid : sp ≠ .braid) (g_ferry : sp ≠ .ferry) (g_lanes : sp ≠ .lanes) (g_delta : sp ≠ .delta) (g_twin : sp ≠ .twin) (g_dram : sp ≠ .dram) (g_mems : sp ≠ .mems) (g_debug : sp ≠ .debug) (g_events : sp ≠ .events) : part sp (pairingDone p s) = part sp s := by
  unfold pairingDone
  dsimp only
  repeat' split
  all_goals simp [*]
@[simp] theorem pairTimeout_core (s : State) : coreView (pairTimeout s) = coreView s := by
  unfold pairTimeout
  repeat' split
  all_goals simp [*]
@[simp] theorem pairTimeout_fuses (s : State) : fuseView (pairTimeout s) = fuseView s := fuses_of_core (pairTimeout_core s)
@[simp] theorem pairTimeout_memOk (s : State) : MemOk (pairTimeout s) ↔ MemOk s := memOk_of_core (pairTimeout_core s)
@[simp] theorem pairTimeout_part (s : State) {sp : StatePart} (g_braid : sp ≠ .braid) (g_ferry : sp ≠ .ferry) (g_delta : sp ≠ .delta) (g_twin : sp ≠ .twin) (g_debug : sp ≠ .debug) (g_events : sp ≠ .events) : part sp (pairTimeout s) = part sp s := by
  unfold pairTimeout
  repeat' split
  all_goals simp [*]
@[simp] theorem heartbeatArm_core (s : State) : coreView (heartbeatArm s) = coreView s := by
  unfold heartbeatArm
  split <;> simp
@[simp] theorem heartbeatArm_fuses (s : State) : fuseView (heartbeatArm s) = fuseView s := fuses_of_core (heartbeatArm_core s)
@[simp] theorem heartbeatArm_memOk (s : State) : MemOk (heartbeatArm s) ↔ MemOk s := memOk_of_core (heartbeatArm_core s)
@[simp] theorem heartbeatArm_part (s : State) {sp : StatePart} (g_twin : sp ≠ .twin) : part sp (heartbeatArm s) = part sp s := by
  unfold heartbeatArm
  split <;> simp [*]
@[simp] theorem heartbeatSend_fuses (s : State) : fuseView (heartbeatSend s) = fuseView s := by
  unfold heartbeatSend
  simp [fuses_ite]
@[simp] theorem heartbeatSend_memOk (s : State) (h : MemOk s) : MemOk (heartbeatSend s) := by
  unfold heartbeatSend
  dsimp only
  repeat' split
  all_goals simp [*]
@[simp] theorem heartbeatSend_part (s : State) {sp : StatePart} (g_braid : sp ≠ .braid) (g_ferry : sp ≠ .ferry) (g_delta : sp ≠ .delta) (g_twin : sp ≠ .twin) (g_dram : sp ≠ .dram) (g_mems : sp ≠ .mems) (g_debug : sp ≠ .debug) (g_events : sp ≠ .events) : part sp (heartbeatSend s) = part sp s := by
  unfold heartbeatSend
  simp [part_ite, *]
@[simp] theorem heartbeatArmTimeout_fuses (s : State) : fuseView (heartbeatArmTimeout s) = fuseView s := by
  unfold heartbeatArmTimeout
  split <;> simp
@[simp] theorem heartbeatArmTimeout_memOk (s : State) (h : MemOk s) : MemOk (heartbeatArmTimeout s) := by
  unfold heartbeatArmTimeout
  repeat' split
  all_goals simp [*]
@[simp] theorem heartbeatArmTimeout_part (s : State) {sp : StatePart} (g_braid : sp ≠ .braid) (g_ferry : sp ≠ .ferry) (g_twin : sp ≠ .twin) (g_dram : sp ≠ .dram) (g_mems : sp ≠ .mems) (g_debug : sp ≠ .debug) (g_events : sp ≠ .events) : part sp (heartbeatArmTimeout s) = part sp s := by
  unfold heartbeatArmTimeout
  split <;> simp [*]
@[simp] theorem heartbeatRole_fuses (h : Heartbeat) (s : State) : fuseView (heartbeatRole h s) = fuseView s := by
  unfold heartbeatRole
  repeat' split
  all_goals simp [*]
@[simp] theorem heartbeatRole_memOk (h : Heartbeat) (s : State) (hM : MemOk s) : MemOk (heartbeatRole h s) := by
  unfold heartbeatRole
  repeat' split
  all_goals simp [*]
@[simp] theorem heartbeatRole_part (h : Heartbeat) (s : State) {sp : StatePart} (g_braid : sp ≠ .braid) (g_ferry : sp ≠ .ferry) (g_lanes : sp ≠ .lanes) (g_twin : sp ≠ .twin) (g_dram : sp ≠ .dram) (g_mems : sp ≠ .mems) (g_debug : sp ≠ .debug) (g_events : sp ≠ .events) : part sp (heartbeatRole h s) = part sp s := by
  unfold heartbeatRole
  repeat' split
  all_goals simp [*]
@[simp] theorem readHeartbeat_fuses (h : Heartbeat) (s : State) : fuseView (readHeartbeat h s) = fuseView s := by
  unfold readHeartbeat
  split <;> simp
@[simp] theorem readHeartbeat_memOk (h : Heartbeat) (s : State) (hM : MemOk s) : MemOk (readHeartbeat h s) := by
  unfold readHeartbeat
  repeat' split
  all_goals simp [*]
@[simp] theorem readHeartbeat_part (h : Heartbeat) (s : State) {sp : StatePart} (g_braid : sp ≠ .braid) (g_ferry : sp ≠ .ferry) (g_lanes : sp ≠ .lanes) (g_twin : sp ≠ .twin) (g_dram : sp ≠ .dram) (g_mems : sp ≠ .mems) (g_debug : sp ≠ .debug) (g_events : sp ≠ .events) : part sp (readHeartbeat h s) = part sp s := by
  unfold readHeartbeat
  split <;> simp [*]
@[simp] theorem heartbeatReceive_fuses (s : State) : fuseView (heartbeatReceive s) = fuseView s := by
  unfold heartbeatReceive
  split
  · rename_i he
    exact (readHeartbeat_fuses ..).trans (fuses_of_core (takeBlock_core he))
  · simp
@[simp] theorem heartbeatReceive_memOk (s : State) (h : MemOk s) : MemOk (heartbeatReceive s) := by
  unfold heartbeatReceive
  split
  · rename_i he
    exact readHeartbeat_memOk _ _ ((memOk_of_core (takeBlock_core he)).mpr h)
  · simpa using h
@[simp] theorem heartbeatReceive_part (s : State) {sp : StatePart} (g_braid : sp ≠ .braid) (g_ferry : sp ≠ .ferry) (g_lanes : sp ≠ .lanes) (g_delta : sp ≠ .delta) (g_twin : sp ≠ .twin) (g_dram : sp ≠ .dram) (g_mems : sp ≠ .mems) (g_debug : sp ≠ .debug) (g_events : sp ≠ .events) : part sp (heartbeatReceive s) = part sp s := by
  unfold heartbeatReceive
  repeat' split
  all_goals first | (simp [*]; done) | (rename_i h; simp [*, takeBlock_part h]; done) | (rename_i h _; simp [*, takeBlock_part h]; done) | (rename_i h _ _; simp [*, takeBlock_part h]; done) | (rename_i h _ _ _; simp [*, takeBlock_part h]; done) | (rename_i h _ _ _ _; simp [*, takeBlock_part h]; done) | (rename_i h _ _ _ _ _; simp [*, takeBlock_part h]; done) | (rename_i h _ _ _ _ _ _; simp [*, takeBlock_part h]; done) | (rename_i h _ _ _ _ _ _ _; simp [*, takeBlock_part h]; done) | (rename_i h _ _ _ _ _ _ _ _; simp [*, takeBlock_part h]; done) | (simp [*]; cases sp <;> first | rfl | contradiction) | (cases sp <;> first | rfl | contradiction)
@[simp] theorem partnerLost_fuses (s : State) : fuseView (partnerLost s) = fuseView s := by
  unfold partnerLost
  simp [fuses_ite]
@[simp] theorem partnerLost_memOk (s : State) (h : MemOk s) : MemOk (partnerLost s) := by
  unfold partnerLost
  repeat' split
  all_goals simp [*]
@[simp] theorem partnerLost_part (s : State) {sp : StatePart} (g_braid : sp ≠ .braid) (g_ferry : sp ≠ .ferry) (g_locks : sp ≠ .locks) (g_lanes : sp ≠ .lanes) (g_twin : sp ≠ .twin) (g_dram : sp ≠ .dram) (g_mems : sp ≠ .mems) (g_debug : sp ≠ .debug) (g_events : sp ≠ .events) : part sp (partnerLost s) = part sp s := by
  unfold partnerLost
  simp [part_ite, *]
@[simp] theorem heartbeatMissed_fuses (s : State) : fuseView (heartbeatMissed s) = fuseView s := by
  unfold heartbeatMissed
  simp [fuses_ite]
@[simp] theorem heartbeatMissed_memOk (s : State) (h : MemOk s) : MemOk (heartbeatMissed s) := by
  unfold heartbeatMissed
  dsimp only
  repeat' split
  all_goals simp [*]
@[simp] theorem heartbeatMissed_part (s : State) {sp : StatePart} (g_braid : sp ≠ .braid) (g_ferry : sp ≠ .ferry) (g_locks : sp ≠ .locks) (g_lanes : sp ≠ .lanes) (g_twin : sp ≠ .twin) (g_dram : sp ≠ .dram) (g_mems : sp ≠ .mems) (g_debug : sp ≠ .debug) (g_events : sp ≠ .events) : part sp (heartbeatMissed s) = part sp s := by
  unfold heartbeatMissed
  simp [part_ite, *]
@[simp] theorem twinHbInEdge_core (s : State) : coreView (twinHbInEdge s) = coreView s := by
  rfl
@[simp] theorem twinHbInEdge_fuses (s : State) : fuseView (twinHbInEdge s) = fuseView s := fuses_of_core (twinHbInEdge_core s)
@[simp] theorem twinHbInEdge_memOk (s : State) : MemOk (twinHbInEdge s) ↔ MemOk s := memOk_of_core (twinHbInEdge_core s)
@[simp] theorem twinHbInEdge_part (s : State) {sp : StatePart} (g_twin : sp ≠ .twin) : part sp (twinHbInEdge s) = part sp s := by
  cases sp <;> first | rfl | contradiction
@[simp] theorem switchoverBody_core (u0 : Serving) (s : State) : coreView (switchoverBody u0 s).2 = coreView s := by
  unfold switchoverBody
  repeat' split
  all_goals simp [*]
@[simp] theorem switchoverBody_fuses (u0 : Serving) (s : State) : fuseView (switchoverBody u0 s).2 = fuseView s := fuses_of_core (switchoverBody_core u0 s)
@[simp] theorem switchoverBody_memOk (u0 : Serving) (s : State) : MemOk (switchoverBody u0 s).2 ↔ MemOk s := memOk_of_core (switchoverBody_core u0 s)
@[simp] theorem switchoverBody_part (u0 : Serving) (s : State) {sp : StatePart} (g_braid : sp ≠ .braid) (g_ferry : sp ≠ .ferry) (g_lanes : sp ≠ .lanes) (g_twin : sp ≠ .twin) (g_events : sp ≠ .events) : part sp (switchoverBody u0 s).2 = part sp s := by
  unfold switchoverBody
  repeat' split
  all_goals simp [*]
@[simp] theorem twinSwitchover_core (s : State) : coreView (twinSwitchover s) = coreView s := by
  unfold twinSwitchover
  simp
@[simp] theorem twinSwitchover_fuses (s : State) : fuseView (twinSwitchover s) = fuseView s := fuses_of_core (twinSwitchover_core s)
@[simp] theorem twinSwitchover_memOk (s : State) : MemOk (twinSwitchover s) ↔ MemOk s := memOk_of_core (twinSwitchover_core s)
@[simp] theorem twinSwitchover_part (s : State) {sp : StatePart} (g_braid : sp ≠ .braid) (g_ferry : sp ≠ .ferry) (g_lanes : sp ≠ .lanes) (g_twin : sp ≠ .twin) (g_events : sp ≠ .events) : part sp (twinSwitchover s) = part sp s := by
  unfold twinSwitchover
  simp [*]
@[simp] theorem mirrorSet_fuses (v : Serving) (s : State) : fuseView (mirrorSet v s).2 = fuseView s := by
  unfold mirrorSet
  dsimp only
  repeat' split
  all_goals simp [*]
@[simp] theorem mirrorSet_memOk (v : Serving) (s : State) (h : MemOk s) : MemOk (mirrorSet v s).2 := by
  unfold mirrorSet
  dsimp only
  repeat' split
  all_goals simp [*]
@[simp] theorem mirrorSet_part (v : Serving) (s : State) {sp : StatePart} (g_twin : sp ≠ .twin) (g_dram : sp ≠ .dram) (g_mems : sp ≠ .mems) : part sp (mirrorSet v s).2 = part sp s := by
  unfold mirrorSet
  dsimp only
  repeat' split
  all_goals simp [*]
@[simp] theorem mirrorClear_core (v : Serving) (s : State) : coreView (mirrorClear v s).2 = coreView s := by
  unfold mirrorClear
  repeat' split
  all_goals simp [*]
@[simp] theorem mirrorClear_fuses (v : Serving) (s : State) : fuseView (mirrorClear v s).2 = fuseView s := fuses_of_core (mirrorClear_core v s)
@[simp] theorem mirrorClear_memOk (v : Serving) (s : State) : MemOk (mirrorClear v s).2 ↔ MemOk s := memOk_of_core (mirrorClear_core v s)
@[simp] theorem mirrorClear_part (v : Serving) (s : State) {sp : StatePart} (g_ferry : sp ≠ .ferry) (g_twin : sp ≠ .twin) : part sp (mirrorClear v s).2 = part sp s := by
  unfold mirrorClear
  repeat' split
  all_goals simp [*]
@[simp] theorem mirrorResync_core (v : Serving) (s : State) : coreView (mirrorResync v s).2 = coreView s := by
  unfold mirrorResync
  dsimp only
  repeat' split
  all_goals simp [*]
@[simp] theorem mirrorResync_fuses (v : Serving) (s : State) : fuseView (mirrorResync v s).2 = fuseView s := fuses_of_core (mirrorResync_core v s)
@[simp] theorem mirrorResync_memOk (v : Serving) (s : State) : MemOk (mirrorResync v s).2 ↔ MemOk s := memOk_of_core (mirrorResync_core v s)
@[simp] theorem mirrorResync_part (v : Serving) (s : State) {sp : StatePart} (g_ferry : sp ≠ .ferry) (g_twin : sp ≠ .twin) : part sp (mirrorResync v s).2 = part sp s := by
  unfold mirrorResync
  dsimp only
  repeat' split
  all_goals simp [*]
@[simp] theorem twinMirrorBody_fuses (v : Serving) (s : State) : fuseView (twinMirrorBody v s).2 = fuseView s := by
  unfold twinMirrorBody
  dsimp only
  repeat' split
  all_goals simp [*]
@[simp] theorem twinMirrorBody_memOk (v : Serving) (s : State) (h : MemOk s) : MemOk (twinMirrorBody v s).2 := by
  unfold twinMirrorBody
  dsimp only
  repeat' split
  all_goals simp [*]
@[simp] theorem twinMirrorBody_part (v : Serving) (s : State) {sp : StatePart} (g_ferry : sp ≠ .ferry) (g_twin : sp ≠ .twin) (g_dram : sp ≠ .dram) (g_mems : sp ≠ .mems) : part sp (twinMirrorBody v s).2 = part sp s := by
  unfold twinMirrorBody
  dsimp only
  repeat' split
  all_goals simp [*]
@[simp] theorem twinMirror_fuses (s : State) : fuseView (twinMirror s) = fuseView s := by
  unfold twinMirror
  simp
@[simp] theorem twinMirror_memOk (s : State) (h : MemOk s) : MemOk (twinMirror s) := by
  unfold twinMirror
  exact ferryServe_keeps _ _ _ _ _ (fun v t ht => twinMirrorBody_memOk _ _ ht) h
@[simp] theorem twinMirror_part (s : State) {sp : StatePart} (g_ferry : sp ≠ .ferry) (g_twin : sp ≠ .twin) (g_dram : sp ≠ .dram) (g_mems : sp ≠ .mems) : part sp (twinMirror s) = part sp s := by
  unfold twinMirror
  simp [*]
@[simp] theorem mirrorLag_core (s : State) : coreView (mirrorLag s) = coreView s := by
  unfold mirrorLag
  simp [core_ite]
@[simp] theorem mirrorLag_fuses (s : State) : fuseView (mirrorLag s) = fuseView s := fuses_of_core (mirrorLag_core s)
@[simp] theorem mirrorLag_memOk (s : State) : MemOk (mirrorLag s) ↔ MemOk s := memOk_of_core (mirrorLag_core s)
@[simp] theorem mirrorLag_part (s : State) {sp : StatePart} (g_braid : sp ≠ .braid) (g_twin : sp ≠ .twin) (g_events : sp ≠ .events) : part sp (mirrorLag s) = part sp s := by
  unfold mirrorLag
  simp [part_ite, *]
@[simp] theorem forwardNext_core (c : Nat) (s : State) : coreView (forwardNext c s) = coreView s := by
  unfold forwardNext
  dsimp only
  repeat' split
  all_goals simp [*]
@[simp] theorem forwardNext_fuses (c : Nat) (s : State) : fuseView (forwardNext c s) = fuseView s := fuses_of_core (forwardNext_core c s)
@[simp] theorem forwardNext_memOk (c : Nat) (s : State) : MemOk (forwardNext c s) ↔ MemOk s := memOk_of_core (forwardNext_core c s)
@[simp] theorem forwardNext_part (c : Nat) (s : State) {sp : StatePart} (g_braid : sp ≠ .braid) (g_delta : sp ≠ .delta) (g_twin : sp ≠ .twin) (g_events : sp ≠ .events) : part sp (forwardNext c s) = part sp s := by
  unfold forwardNext
  dsimp only
  repeat' split
  all_goals simp [*]
@[simp] theorem cleanCopied_fuses (m : Mirrored) (s : State) : fuseView (cleanCopied m s) = fuseView s := by
  unfold cleanCopied
  split <;> simp
@[simp] theorem cleanCopied_memOk (m : Mirrored) (s : State) (h : MemOk s) : MemOk (cleanCopied m s) := by
  unfold cleanCopied
  repeat' split
  all_goals simp [*]
@[simp] theorem cleanCopied_part (m : Mirrored) (s : State) {sp : StatePart} (g_twin : sp ≠ .twin) (g_dram : sp ≠ .dram) (g_mems : sp ≠ .mems) : part sp (cleanCopied m s) = part sp s := by
  unfold cleanCopied
  split <;> simp [*]
@[simp] theorem mirrorEnded_fuses (c : Nat) (st : Status) (s : State) : fuseView (mirrorEnded c st s) = fuseView s := by
  unfold mirrorEnded
  dsimp only
  repeat' split
  all_goals simp [*]
@[simp] theorem mirrorEnded_memOk (c : Nat) (st : Status) (s : State) (h : MemOk s) : MemOk (mirrorEnded c st s) := by
  unfold mirrorEnded
  dsimp only
  repeat' split
  all_goals simp [*]
@[simp] theorem mirrorEnded_part (c : Nat) (st : Status) (s : State) {sp : StatePart} (g_braid : sp ≠ .braid) (g_ferry : sp ≠ .ferry) (g_twin : sp ≠ .twin) (g_dram : sp ≠ .dram) (g_mems : sp ≠ .mems) (g_debug : sp ≠ .debug) (g_events : sp ≠ .events) : part sp (mirrorEnded c st s) = part sp s := by
  unfold mirrorEnded
  dsimp only
  repeat' split
  all_goals simp [*]
@[simp] theorem mirrorCompletion_fuses (s : State) : fuseView (mirrorCompletion s) = fuseView s := by
  unfold mirrorCompletion
  split <;> simp
@[simp] theorem mirrorCompletion_memOk (s : State) (h : MemOk s) : MemOk (mirrorCompletion s) := by
  unfold mirrorCompletion
  repeat' split
  all_goals simp [*]
@[simp] theorem mirrorCompletion_part (s : State) {sp : StatePart} (g_braid : sp ≠ .braid) (g_ferry : sp ≠ .ferry) (g_twin : sp ≠ .twin) (g_dram : sp ≠ .dram) (g_mems : sp ≠ .mems) (g_debug : sp ≠ .debug) (g_events : sp ≠ .events) : part sp (mirrorCompletion s) = part sp s := by
  unfold mirrorCompletion
  split <;> simp [*]
@[simp] theorem resyncPageCopy_core (s : State) : coreView (resyncPageCopy s) = coreView s := by
  unfold resyncPageCopy
  repeat' split
  all_goals simp [*]
@[simp] theorem resyncPageCopy_fuses (s : State) : fuseView (resyncPageCopy s) = fuseView s := fuses_of_core (resyncPageCopy_core s)
@[simp] theorem resyncPageCopy_memOk (s : State) : MemOk (resyncPageCopy s) ↔ MemOk s := memOk_of_core (resyncPageCopy_core s)
@[simp] theorem resyncPageCopy_part (s : State) {sp : StatePart} (g_braid : sp ≠ .braid) (g_ferry : sp ≠ .ferry) (g_twin : sp ≠ .twin) (g_debug : sp ≠ .debug) (g_events : sp ≠ .events) : part sp (resyncPageCopy s) = part sp s := by
  unfold resyncPageCopy
  repeat' split
  all_goals simp [*]

end Sys2Proof.Machine
end

