-- ==== Sys2Proof/Laws/FrameDram.lean ====
section
/-! SUPPORT. Frame lemmas of the DRAM channels and Basin: which parts of the state each function leaves alone, which leave the fuses and the bytes of memory alone, and that the others keep memory in its canonical form. -/

set_option linter.all false

namespace Sys2Proof.Machine
open Sys2Proof

@[simp] theorem dramEv_core (c : Nat) (k : Nat) (cause : Nat) (sev : Nat) (detail : List Byte) (s : State) : coreView (dramEv c k cause sev detail s) = coreView s := by
  unfold dramEv
  simp
@[simp] theorem dramEv_fuses (c : Nat) (k : Nat) (cause : Nat) (sev : Nat) (detail : List Byte) (s : State) : fuseView (dramEv c k cause sev detail s) = fuseView s := fuses_of_core (dramEv_core c k cause sev detail s)
@[simp] theorem dramEv_memOk (c : Nat) (k : Nat) (cause : Nat) (sev : Nat) (detail : List Byte) (s : State) : MemOk (dramEv c k cause sev detail s) ↔ MemOk s := memOk_of_core (dramEv_core c k cause sev detail s)
@[simp] theorem dramEv_part (c : Nat) (k : Nat) (cause : Nat) (sev : Nat) (detail : List Byte) (s : State) {sp : StatePart} (g_braid : sp ≠ .braid) (g_events : sp ≠ .events) : part sp (dramEv c k cause sev detail s) = part sp s := by
  unfold dramEv
  simp [*]
@[simp] theorem eccCorrected_core (c : Nat) (s : State) : coreView (eccCorrected c s) = coreView s := by
  unfold eccCorrected
  simp
@[simp] theorem eccCorrected_fuses (c : Nat) (s : State) : fuseView (eccCorrected c s) = fuseView s := fuses_of_core (eccCorrected_core c s)
@[simp] theorem eccCorrected_memOk (c : Nat) (s : State) : MemOk (eccCorrected c s) ↔ MemOk s := memOk_of_core (eccCorrected_core c s)
@[simp] theorem eccCorrected_part (c : Nat) (s : State) {sp : StatePart} (g_braid : sp ≠ .braid) (g_dram : sp ≠ .dram) (g_events : sp ≠ .events) : part sp (eccCorrected c s) = part sp s := by
  unfold eccCorrected
  simp [*]
@[simp] theorem eccUncorr_core (c : Nat) (line : Nat) (s : State) : coreView (eccUncorr c line s) = coreView s := by
  unfold eccUncorr
  simp
@[simp] theorem eccUncorr_fuses (c : Nat) (line : Nat) (s : State) : fuseView (eccUncorr c line s) = fuseView s := fuses_of_core (eccUncorr_core c line s)
@[simp] theorem eccUncorr_memOk (c : Nat) (line : Nat) (s : State) : MemOk (eccUncorr c line s) ↔ MemOk s := memOk_of_core (eccUncorr_core c line s)
@[simp] theorem eccUncorr_part (c : Nat) (line : Nat) (s : State) {sp : StatePart} (g_braid : sp ≠ .braid) (g_dram : sp ≠ .dram) (g_events : sp ≠ .events) : part sp (eccUncorr c line s) = part sp s := by
  unfold eccUncorr
  simp [*]
@[simp] theorem modPageCtr_core (c : Nat) (page : Nat) (f : PageCtr → PageCtr) (s : State) : coreView (modPageCtr c page f s) = coreView s := by
  rfl
@[simp] theorem modPageCtr_fuses (c : Nat) (page : Nat) (f : PageCtr → PageCtr) (s : State) : fuseView (modPageCtr c page f s) = fuseView s := fuses_of_core (modPageCtr_core c page f s)
@[simp] theorem modPageCtr_memOk (c : Nat) (page : Nat) (f : PageCtr → PageCtr) (s : State) : MemOk (modPageCtr c page f s) ↔ MemOk s := memOk_of_core (modPageCtr_core c page f s)
@[simp] theorem modPageCtr_part (c : Nat) (page : Nat) (f : PageCtr → PageCtr) (s : State) {sp : StatePart} (g_dram : sp ≠ .dram) (g_crypto : sp ≠ .crypto) : part sp (modPageCtr c page f s) = part sp s := by
  cases sp <;> first | rfl | contradiction
@[simp] theorem macFail_core (c : Nat) (kid : Nat) (addr : Nat) (s : State) : coreView (macFail c kid addr s) = coreView s := by
  unfold macFail
  simp
@[simp] theorem macFail_fuses (c : Nat) (kid : Nat) (addr : Nat) (s : State) : fuseView (macFail c kid addr s) = fuseView s := fuses_of_core (macFail_core c kid addr s)
@[simp] theorem macFail_memOk (c : Nat) (kid : Nat) (addr : Nat) (s : State) : MemOk (macFail c kid addr s) ↔ MemOk s := memOk_of_core (macFail_core c kid addr s)
@[simp] theorem macFail_part (c : Nat) (kid : Nat) (addr : Nat) (s : State) {sp : StatePart} (g_braid : sp ≠ .braid) (g_events : sp ≠ .events) : part sp (macFail c kid addr s) = part sp s := by
  unfold macFail
  simp [*]
@[simp] theorem sendCounter_core (c : Nat) (n : Nat) (op : CounterOp) (s : State) : coreView (sendCounter c n op s) = coreView s := by
  rfl
@[simp] theorem sendCounter_fuses (c : Nat) (n : Nat) (op : CounterOp) (s : State) : fuseView (sendCounter c n op s) = fuseView s := fuses_of_core (sendCounter_core c n op s)
@[simp] theorem sendCounter_memOk (c : Nat) (n : Nat) (op : CounterOp) (s : State) : MemOk (sendCounter c n op s) ↔ MemOk s := memOk_of_core (sendCounter_core c n op s)
@[simp] theorem sendCounter_part (c : Nat) (n : Nat) (op : CounterOp) (s : State) {sp : StatePart} (g_braid : sp ≠ .braid) : part sp (sendCounter c n op s) = part sp s := by
  cases sp <;> first | rfl | contradiction
@[simp] theorem askCounter_core (c : Nat) (page : Nat) (s : State) : coreView (askCounter c page s) = coreView s := by
  unfold askCounter
  simp [core_ite]
@[simp] theorem askCounter_fuses (c : Nat) (page : Nat) (s : State) : fuseView (askCounter c page s) = fuseView s := fuses_of_core (askCounter_core c page s)
@[simp] theorem askCounter_memOk (c : Nat) (page : Nat) (s : State) : MemOk (askCounter c page s) ↔ MemOk s := memOk_of_core (askCounter_core c page s)
@[simp] theorem askCounter_part (c : Nat) (page : Nat) (s : State) {sp : StatePart} (g_braid : sp ≠ .braid) : part sp (askCounter c page s) = part sp s := by
  unfold askCounter
  simp [part_ite, *]
@[simp] theorem upsetLine_core (c : Nat) (line : Nat) (errs : List LineErr) (s : State) : coreView (upsetLine c line errs s) = coreView s := by
  unfold upsetLine
  simp [core_ite]
@[simp] theorem upsetLine_fuses (c : Nat) (line : Nat) (errs : List LineErr) (s : State) : fuseView (upsetLine c line errs s) = fuseView s := fuses_of_core (upsetLine_core c line errs s)
@[simp] theorem upsetLine_memOk (c : Nat) (line : Nat) (errs : List LineErr) (s : State) : MemOk (upsetLine c line errs s) ↔ MemOk s := memOk_of_core (upsetLine_core c line errs s)
@[simp] theorem upsetLine_part (c : Nat) (line : Nat) (errs : List LineErr) (s : State) {sp : StatePart} (g_mems : sp ≠ .mems) : part sp (upsetLine c line errs s) = part sp s := by
  unfold upsetLine
  simp [part_ite, *]
@[simp] theorem useFree_core (t : LineTag) (s : State) : coreView (useFree t s) = coreView s := by
  unfold useFree
  split <;> rfl
@[simp] theorem useFree_fuses (t : LineTag) (s : State) : fuseView (useFree t s) = fuseView s := fuses_of_core (useFree_core t s)
@[simp] theorem useFree_memOk (t : LineTag) (s : State) : MemOk (useFree t s) ↔ MemOk s := memOk_of_core (useFree_core t s)
@[simp] theorem useFree_part (t : LineTag) (s : State) {sp : StatePart} (g_freeCtr : sp ≠ .freeCtr) : part sp (useFree t s) = part sp s := by
  unfold useFree
  split <;> (cases sp <;> first | rfl | contradiction)
@[simp] theorem applyFlip_core (c : Nat) (line : Nat) (s : State) : coreView (applyFlip c line s) = coreView s := by
  unfold applyFlip
  split <;> simp
@[simp] theorem applyFlip_fuses (c : Nat) (line : Nat) (s : State) : fuseView (applyFlip c line s) = fuseView s := fuses_of_core (applyFlip_core c line s)
@[simp] theorem applyFlip_memOk (c : Nat) (line : Nat) (s : State) : MemOk (applyFlip c line s) ↔ MemOk s := memOk_of_core (applyFlip_core c line s)
@[simp] theorem applyFlip_part (c : Nat) (line : Nat) (s : State) {sp : StatePart} (g_braid : sp ≠ .braid) (g_ferry : sp ≠ .ferry) (g_twin : sp ≠ .twin) (g_dram : sp ≠ .dram) (g_mems : sp ≠ .mems) (g_debug : sp ≠ .debug) (g_events : sp ≠ .events) : part sp (applyFlip c line s) = part sp s := by
  unfold applyFlip
  split <;> simp [*]
@[simp] theorem writeBack_core (by_ : Reader) (c : Nat) (line : Nat) (s : State) : coreView (writeBack by_ c line s) = coreView s := by
  unfold writeBack
  simp [core_ite]
@[simp] theorem writeBack_fuses (by_ : Reader) (c : Nat) (line : Nat) (s : State) : fuseView (writeBack by_ c line s) = fuseView s := fuses_of_core (writeBack_core by_ c line s)
@[simp] theorem writeBack_memOk (by_ : Reader) (c : Nat) (line : Nat) (s : State) : MemOk (writeBack by_ c line s) ↔ MemOk s := memOk_of_core (writeBack_core by_ c line s)
@[simp] theorem writeBack_part (by_ : Reader) (c : Nat) (line : Nat) (s : State) {sp : StatePart} (g_braid : sp ≠ .braid) (g_ferry : sp ≠ .ferry) (g_twin : sp ≠ .twin) (g_dram : sp ≠ .dram) (g_mems : sp ≠ .mems) (g_debug : sp ≠ .debug) (g_events : sp ≠ .events) : part sp (writeBack by_ c line s) = part sp s := by
  unfold writeBack
  simp [part_ite, *]
@[simp] theorem checkLine_core (by_ : Reader) (c : Nat) (line : Nat) (s : State) : coreView (checkLine by_ c line s).2 = coreView s := by
  unfold checkLine
  dsimp only
  repeat' split
  all_goals simp [*]
@[simp] theorem checkLine_fuses (by_ : Reader) (c : Nat) (line : Nat) (s : State) : fuseView (checkLine by_ c line s).2 = fuseView s := fuses_of_core (checkLine_core by_ c line s)
@[simp] theorem checkLine_memOk (by_ : Reader) (c : Nat) (line : Nat) (s : State) : MemOk (checkLine by_ c line s).2 ↔ MemOk s := memOk_of_core (checkLine_core by_ c line s)
@[simp] theorem checkLine_part (by_ : Reader) (c : Nat) (line : Nat) (s : State) {sp : StatePart} (g_braid : sp ≠ .braid) (g_ferry : sp ≠ .ferry) (g_twin : sp ≠ .twin) (g_dram : sp ≠ .dram) (g_mems : sp ≠ .mems) (g_debug : sp ≠ .debug) (g_events : sp ≠ .events) : part sp (checkLine by_ c line s).2 = part sp s := by
  unfold checkLine
  dsimp only
  repeat' split
  all_goals simp [*]
@[simp] theorem readStored_core (by_ : Reader) (c : Nat) (line : Nat) (addr : Nat) (kid : Nat) (s : State) : coreView (readStored by_ c line addr kid s).2 = coreView s := by
  unfold readStored
  dsimp only
  repeat' split
  all_goals simp [*]
@[simp] theorem readStored_fuses (by_ : Reader) (c : Nat) (line : Nat) (addr : Nat) (kid : Nat) (s : State) : fuseView (readStored by_ c line addr kid s).2 = fuseView s := fuses_of_core (readStored_core by_ c line addr kid s)
@[simp] theorem readStored_memOk (by_ : Reader) (c : Nat) (line : Nat) (addr : Nat) (kid : Nat) (s : State) : MemOk (readStored by_ c line addr kid s).2 ↔ MemOk s := memOk_of_core (readStored_core by_ c line addr kid s)
@[simp] theorem readStored_part (by_ : Reader) (c : Nat) (line : Nat) (addr : Nat) (kid : Nat) (s : State) {sp : StatePart} (g_freeCtr : sp ≠ .freeCtr) (g_braid : sp ≠ .braid) (g_ferry : sp ≠ .ferry) (g_twin : sp ≠ .twin) (g_dram : sp ≠ .dram) (g_mems : sp ≠ .mems) (g_debug : sp ≠ .debug) (g_events : sp ≠ .events) : part sp (readStored by_ c line addr kid s).2 = part sp s := by
  unfold readStored
  dsimp only
  repeat' split
  all_goals simp [*]
@[simp] theorem writeLine_fuses (c : Nat) (line : Nat) (addr : Nat) (kid : Nat) (data : List Byte) (poison : Bool) (s : State) : fuseView (writeLine c line addr kid data poison s) = fuseView s := by
  unfold writeLine
  split <;> simp
@[simp] theorem writeLine_memOk (c : Nat) (line : Nat) (addr : Nat) (kid : Nat) (data : List Byte) (poison : Bool) (s : State) (h : MemOk s) : MemOk (writeLine c line addr kid data poison s) := by
  unfold writeLine
  repeat' split
  all_goals simp [*]
@[simp] theorem writeLine_part (c : Nat) (line : Nat) (addr : Nat) (kid : Nat) (data : List Byte) (poison : Bool) (s : State) {sp : StatePart} (g_braid : sp ≠ .braid) (g_ferry : sp ≠ .ferry) (g_twin : sp ≠ .twin) (g_dram : sp ≠ .dram) (g_mems : sp ≠ .mems) (g_crypto : sp ≠ .crypto) (g_debug : sp ≠ .debug) (g_events : sp ≠ .events) : part sp (writeLine c line addr kid data poison s) = part sp s := by
  unfold writeLine
  split <;> simp [*]
@[simp] theorem performWrite_fuses (c : Nat) (e : DEntry) (s : State) : fuseView (performWrite c e s) = fuseView s := by
  unfold performWrite
  dsimp only
  repeat' split
  all_goals simp [*]
@[simp] theorem performWrite_memOk (c : Nat) (e : DEntry) (s : State) (h : MemOk s) : MemOk (performWrite c e s) := by
  unfold performWrite
  dsimp only
  repeat' split
  all_goals simp [*]
@[simp] theorem performWrite_part (c : Nat) (e : DEntry) (s : State) {sp : StatePart} (g_freeCtr : sp ≠ .freeCtr) (g_braid : sp ≠ .braid) (g_ferry : sp ≠ .ferry) (g_twin : sp ≠ .twin) (g_dram : sp ≠ .dram) (g_mems : sp ≠ .mems) (g_crypto : sp ≠ .crypto) (g_debug : sp ≠ .debug) (g_events : sp ≠ .events) : part sp (performWrite c e s) = part sp s := by
  unfold performWrite
  dsimp only
  repeat' split
  all_goals simp [*]
@[simp] theorem modQueues_core (c : Nat) (f : Chan → Chan) (s : State) : coreView (modQueues c f s) = coreView s := by
  rfl
@[simp] theorem modQueues_fuses (c : Nat) (f : Chan → Chan) (s : State) : fuseView (modQueues c f s) = fuseView s := fuses_of_core (modQueues_core c f s)
@[simp] theorem modQueues_memOk (c : Nat) (f : Chan → Chan) (s : State) : MemOk (modQueues c f s) ↔ MemOk s := memOk_of_core (modQueues_core c f s)
@[simp] theorem modQueues_part (c : Nat) (f : Chan → Chan) (s : State) {sp : StatePart} (g_dram : sp ≠ .dram) : part sp (modQueues c f s) = part sp s := by
  cases sp <;> first | rfl | contradiction
@[simp] theorem nextSeq_core (c : Nat) (s : State) : coreView (nextSeq c s).2 = coreView s := by
  rfl
@[simp] theorem nextSeq_fuses (c : Nat) (s : State) : fuseView (nextSeq c s).2 = fuseView s := fuses_of_core (nextSeq_core c s)
@[simp] theorem nextSeq_memOk (c : Nat) (s : State) : MemOk (nextSeq c s).2 ↔ MemOk s := memOk_of_core (nextSeq_core c s)
@[simp] theorem nextSeq_part (c : Nat) (s : State) {sp : StatePart} (g_dram : sp ≠ .dram) : part sp (nextSeq c s).2 = part sp s := by
  cases sp <;> first | rfl | contradiction
@[simp] theorem flushMerge_core (c : Nat) (e : DEntry) (s : State) : coreView (flushMerge c e s) = coreView s := by
  rfl
@[simp] theorem flushMerge_fuses (c : Nat) (e : DEntry) (s : State) : fuseView (flushMerge c e s) = fuseView s := fuses_of_core (flushMerge_core c e s)
@[simp] theorem flushMerge_memOk (c : Nat) (e : DEntry) (s : State) : MemOk (flushMerge c e s) ↔ MemOk s := memOk_of_core (flushMerge_core c e s)
@[simp] theorem flushMerge_part (c : Nat) (e : DEntry) (s : State) {sp : StatePart} (g_dram : sp ≠ .dram) : part sp (flushMerge c e s) = part sp s := by
  cases sp <;> first | rfl | contradiction
@[simp] theorem flushWhere_core (c : Nat) (p : DEntry → Bool) (s : State) : coreView (flushWhere c p s) = coreView s := by
  unfold flushWhere
  simp
@[simp] theorem flushWhere_fuses (c : Nat) (p : DEntry → Bool) (s : State) : fuseView (flushWhere c p s) = fuseView s := fuses_of_core (flushWhere_core c p s)
@[simp] theorem flushWhere_memOk (c : Nat) (p : DEntry → Bool) (s : State) : MemOk (flushWhere c p s) ↔ MemOk s := memOk_of_core (flushWhere_core c p s)
@[simp] theorem flushWhere_part (c : Nat) (p : DEntry → Bool) (s : State) {sp : StatePart} (g_dram : sp ≠ .dram) : part sp (flushWhere c p s) = part sp s := by
  unfold flushWhere
  simp [*]
@[simp] theorem trackWrite_core (c : Nat) (e : DEntry) (s : State) : coreView (trackWrite c e s).2 = coreView s := by
  unfold trackWrite
  split <;> simp
@[simp] theorem trackWrite_fuses (c : Nat) (e : DEntry) (s : State) : fuseView (trackWrite c e s).2 = fuseView s := fuses_of_core (trackWrite_core c e s)
@[simp] theorem trackWrite_memOk (c : Nat) (e : DEntry) (s : State) : MemOk (trackWrite c e s).2 ↔ MemOk s := memOk_of_core (trackWrite_core c e s)
@[simp] theorem trackWrite_part (c : Nat) (e : DEntry) (s : State) {sp : StatePart} (g_dram : sp ≠ .dram) : part sp (trackWrite c e s).2 = part sp s := by
  unfold trackWrite
  split <;> simp [*]
@[simp] theorem enterFull_core (c : Nat) (e : DEntry) (s : State) : coreView (enterFull c e s) = coreView s := by
  unfold enterFull
  simp
@[simp] theorem enterFull_fuses (c : Nat) (e : DEntry) (s : State) : fuseView (enterFull c e s) = fuseView s := fuses_of_core (enterFull_core c e s)
@[simp] theorem enterFull_memOk (c : Nat) (e : DEntry) (s : State) : MemOk (enterFull c e s) ↔ MemOk s := memOk_of_core (enterFull_core c e s)
@[simp] theorem enterFull_part (c : Nat) (e : DEntry) (s : State) {sp : StatePart} (g_dram : sp ≠ .dram) : part sp (enterFull c e s) = part sp s := by
  unfold enterFull
  simp [*]
@[simp] theorem enterPartial_core (c : Nat) (e : DEntry) (s : State) : coreView (enterPartial c e s) = coreView s := by
  unfold enterPartial
  dsimp only
  repeat' split
  all_goals simp [*]
@[simp] theorem enterPartial_fuses (c : Nat) (e : DEntry) (s : State) : fuseView (enterPartial c e s) = fuseView s := fuses_of_core (enterPartial_core c e s)
@[simp] theorem enterPartial_memOk (c : Nat) (e : DEntry) (s : State) : MemOk (enterPartial c e s) ↔ MemOk s := memOk_of_core (enterPartial_core c e s)
@[simp] theorem enterPartial_part (c : Nat) (e : DEntry) (s : State) {sp : StatePart} (g_dram : sp ≠ .dram) : part sp (enterPartial c e s) = part sp s := by
  unfold enterPartial
  dsimp only
  repeat' split
  all_goals simp [*]
@[simp] theorem finishRequest_core (c : Nat) (d : DPending) (s : State) : coreView (finishRequest c d s) = coreView s := by
  unfold finishRequest
  split <;> simp
@[simp] theorem finishRequest_fuses (c : Nat) (d : DPending) (s : State) : fuseView (finishRequest c d s) = fuseView s := fuses_of_core (finishRequest_core c d s)
@[simp] theorem finishRequest_memOk (c : Nat) (d : DPending) (s : State) : MemOk (finishRequest c d s) ↔ MemOk s := memOk_of_core (finishRequest_core c d s)
@[simp] theorem finishRequest_part (c : Nat) (d : DPending) (s : State) {sp : StatePart} (g_braid : sp ≠ .braid) (g_dram : sp ≠ .dram) (g_events : sp ≠ .events) : part sp (finishRequest c d s) = part sp s := by
  unfold finishRequest
  split <;> simp [*]
@[simp] theorem finishLine_core (c : Nat) (e : DEntry) (t : Nat) (st : Status) (bytes : List Byte) (verified : Bool) (s : State) : coreView (finishLine c e t st bytes verified s) = coreView s := by
  unfold finishLine
  dsimp only
  repeat' split
  all_goals simp [*]
@[simp] theorem finishLine_fuses (c : Nat) (e : DEntry) (t : Nat) (st : Status) (bytes : List Byte) (verified : Bool) (s : State) : fuseView (finishLine c e t st bytes verified s) = fuseView s := fuses_of_core (finishLine_core c e t st bytes verified s)
@[simp] theorem finishLine_memOk (c : Nat) (e : DEntry) (t : Nat) (st : Status) (bytes : List Byte) (verified : Bool) (s : State) : MemOk (finishLine c e t st bytes verified s) ↔ MemOk s := memOk_of_core (finishLine_core c e t st bytes verified s)
@[simp] theorem finishLine_part (c : Nat) (e : DEntry) (t : Nat) (st : Status) (bytes : List Byte) (verified : Bool) (s : State) {sp : StatePart} (g_braid : sp ≠ .braid) (g_dram : sp ≠ .dram) (g_events : sp ≠ .events) : part sp (finishLine c e t st bytes verified s) = part sp s := by
  unfold finishLine
  dsimp only
  repeat' split
  all_goals simp [*]
@[simp] theorem noteLines_core (c : Nat) (n : Nat) (s : State) : coreView (noteLines c n s) = coreView s := by
  rfl
@[simp] theorem noteLines_fuses (c : Nat) (n : Nat) (s : State) : fuseView (noteLines c n s) = fuseView s := fuses_of_core (noteLines_core c n s)
@[simp] theorem noteLines_memOk (c : Nat) (n : Nat) (s : State) : MemOk (noteLines c n s) ↔ MemOk s := memOk_of_core (noteLines_core c n s)
@[simp] theorem noteLines_part (c : Nat) (n : Nat) (s : State) {sp : StatePart} (g_dram : sp ≠ .dram) : part sp (noteLines c n s) = part sp s := by
  cases sp <;> first | rfl | contradiction
@[simp] theorem noteFallback_core (c : Nat) (e : DEntry) (s : State) : coreView (noteFallback c e s) = coreView s := by
  unfold noteFallback
  simp [core_ite]
@[simp] theorem noteFallback_fuses (c : Nat) (e : DEntry) (s : State) : fuseView (noteFallback c e s) = fuseView s := fuses_of_core (noteFallback_core c e s)
@[simp] theorem noteFallback_memOk (c : Nat) (e : DEntry) (s : State) : MemOk (noteFallback c e s) ↔ MemOk s := memOk_of_core (noteFallback_core c e s)
@[simp] theorem noteFallback_part (c : Nat) (e : DEntry) (s : State) {sp : StatePart} (g_braid : sp ≠ .braid) (g_dram : sp ≠ .dram) (g_events : sp ≠ .events) : part sp (noteFallback c e s) = part sp s := by
  unfold noteFallback
  simp [part_ite, *]
@[simp] theorem acceptReadLine_core (c : Nat) (p : Packet) (kind : DKind) (s : State) (x : Nat × Nat × Nat × Nat) : coreView (acceptReadLine c p kind s x) = coreView s := by
  unfold acceptReadLine
  simp [core_ite]
@[simp] theorem acceptReadLine_fuses (c : Nat) (p : Packet) (kind : DKind) (s : State) (x : Nat × Nat × Nat × Nat) : fuseView (acceptReadLine c p kind s x) = fuseView s := fuses_of_core (acceptReadLine_core c p kind s x)
@[simp] theorem acceptReadLine_memOk (c : Nat) (p : Packet) (kind : DKind) (s : State) (x : Nat × Nat × Nat × Nat) : MemOk (acceptReadLine c p kind s x) ↔ MemOk s := memOk_of_core (acceptReadLine_core c p kind s x)
@[simp] theorem acceptReadLine_part (c : Nat) (p : Packet) (kind : DKind) (s : State) (x : Nat × Nat × Nat × Nat) {sp : StatePart} (g_braid : sp ≠ .braid) (g_dram : sp ≠ .dram) (g_events : sp ≠ .events) : part sp (acceptReadLine c p kind s x) = part sp s := by
  unfold acceptReadLine
  simp [part_ite, *]
@[simp] theorem acceptRead_core (c : Nat) (d : Delivered) (kind : DKind) (lines : List (Nat × Nat × Nat × Nat)) (s : State) : coreView (acceptRead c d kind lines s) = coreView s := by
  unfold acceptRead
  simp
@[simp] theorem acceptRead_fuses (c : Nat) (d : Delivered) (kind : DKind) (lines : List (Nat × Nat × Nat × Nat)) (s : State) : fuseView (acceptRead c d kind lines s) = fuseView s := fuses_of_core (acceptRead_core c d kind lines s)
@[simp] theorem acceptRead_memOk (c : Nat) (d : Delivered) (kind : DKind) (lines : List (Nat × Nat × Nat × Nat)) (s : State) : MemOk (acceptRead c d kind lines s) ↔ MemOk s := memOk_of_core (acceptRead_core c d kind lines s)
@[simp] theorem acceptRead_part (c : Nat) (d : Delivered) (kind : DKind) (lines : List (Nat × Nat × Nat × Nat)) (s : State) {sp : StatePart} (g_braid : sp ≠ .braid) (g_dram : sp ≠ .dram) (g_events : sp ≠ .events) : part sp (acceptRead c d kind lines s) = part sp s := by
  unfold acceptRead
  simp [*]
@[simp] theorem enterLines_core (c : Nat) (p : Packet) (lines : List (Nat × Nat × Nat × Nat)) (s : State) : coreView (enterLines c p lines s) = coreView s := by
  unfold enterLines
  simp [core_ite]
@[simp] theorem enterLines_fuses (c : Nat) (p : Packet) (lines : List (Nat × Nat × Nat × Nat)) (s : State) : fuseView (enterLines c p lines s) = fuseView s := fuses_of_core (enterLines_core c p lines s)
@[simp] theorem enterLines_memOk (c : Nat) (p : Packet) (lines : List (Nat × Nat × Nat × Nat)) (s : State) : MemOk (enterLines c p lines s) ↔ MemOk s := memOk_of_core (enterLines_core c p lines s)
@[simp] theorem enterLines_part (c : Nat) (p : Packet) (lines : List (Nat × Nat × Nat × Nat)) (s : State) {sp : StatePart} (g_braid : sp ≠ .braid) (g_dram : sp ≠ .dram) : part sp (enterLines c p lines s) = part sp s := by
  unfold enterLines
  simp [part_ite, *]
@[simp] theorem acceptWrite_fuses (c : Nat) (p : Packet) (at_ : Nat) (lines : List (Nat × Nat × Nat × Nat)) (s : State) : fuseView (acceptWrite c p at_ lines s) = fuseView s := by
  unfold acceptWrite
  simp [fuses_ite]
@[simp] theorem acceptWrite_memOk (c : Nat) (p : Packet) (at_ : Nat) (lines : List (Nat × Nat × Nat × Nat)) (s : State) (h : MemOk s) : MemOk (acceptWrite c p at_ lines s) := by
  unfold acceptWrite
  dsimp only
  repeat' split
  all_goals simp [*]
@[simp] theorem acceptWrite_part (c : Nat) (p : Packet) (at_ : Nat) (lines : List (Nat × Nat × Nat × Nat)) (s : State) {sp : StatePart} (g_braid : sp ≠ .braid) (g_twin : sp ≠ .twin) (g_dram : sp ≠ .dram) (g_mems : sp ≠ .mems) (g_events : sp ≠ .events) : part sp (acceptWrite c p at_ lines s) = part sp s := by
  unfold acceptWrite
  simp [part_ite, *]
@[simp] theorem holdWrite_core (c : Nat) (d : Delivered) (s : State) : coreView (holdWrite c d s) = coreView s := by
  unfold holdWrite
  simp [core_ite]
@[simp] theorem holdWrite_fuses (c : Nat) (d : Delivered) (s : State) : fuseView (holdWrite c d s) = fuseView s := fuses_of_core (holdWrite_core c d s)
@[simp] theorem holdWrite_memOk (c : Nat) (d : Delivered) (s : State) : MemOk (holdWrite c d s) ↔ MemOk s := memOk_of_core (holdWrite_core c d s)
@[simp] theorem holdWrite_part (c : Nat) (d : Delivered) (s : State) {sp : StatePart} (g_braid : sp ≠ .braid) (g_dram : sp ≠ .dram) : part sp (holdWrite c d s) = part sp s := by
  unfold holdWrite
  simp [part_ite, *]
@[simp] theorem acceptRequest_fuses (c : Nat) (d : Delivered) (loc : Nat) (s : State) : fuseView (acceptRequest c d loc s) = fuseView s := by
  unfold acceptRequest
  dsimp only
  repeat' split
  all_goals simp [*]
@[simp] theorem acceptRequest_memOk (c : Nat) (d : Delivered) (loc : Nat) (s : State) (h : MemOk s) : MemOk (acceptRequest c d loc s) := by
  unfold acceptRequest
  dsimp only
  repeat' split
  all_goals simp [*]
@[simp] theorem acceptRequest_part (c : Nat) (d : Delivered) (loc : Nat) (s : State) {sp : StatePart} (g_braid : sp ≠ .braid) (g_twin : sp ≠ .twin) (g_dram : sp ≠ .dram) (g_mems : sp ≠ .mems) (g_events : sp ≠ .events) : part sp (acceptRequest c d loc s) = part sp s := by
  unfold acceptRequest
  dsimp only
  repeat' split
  all_goals simp [*]
@[simp] theorem dramRequestAccept_fuses (c : Nat) (pid : Nat) (s : State) : fuseView (dramRequestAccept c pid s) = fuseView s := by
  unfold dramRequestAccept
  dsimp only
  repeat' split
  all_goals simp [*]
@[simp] theorem dramRequestAccept_memOk (c : Nat) (pid : Nat) (s : State) (h : MemOk s) : MemOk (dramRequestAccept c pid s) := by
  unfold dramRequestAccept
  dsimp only
  repeat' split
  all_goals simp [*]
@[simp] theorem dramRequestAccept_part (c : Nat) (pid : Nat) (s : State) {sp : StatePart} (g_braid : sp ≠ .braid) (g_twin : sp ≠ .twin) (g_dram : sp ≠ .dram) (g_mems : sp ≠ .mems) (g_events : sp ≠ .events) : part sp (dramRequestAccept c pid s) = part sp s := by
  unfold dramRequestAccept
  dsimp only
  repeat' split
  all_goals simp [*]
@[simp] theorem unhold_fuses (c : Nat) (s : State) : fuseView (unhold c s) = fuseView s := by
  unfold unhold
  dsimp only
  repeat' split
  all_goals simp [*]
@[simp] theorem unhold_memOk (c : Nat) (s : State) (h : MemOk s) : MemOk (unhold c s) := by
  unfold unhold
  dsimp only
  repeat' split
  all_goals simp [*]
@[simp] theorem unhold_part (c : Nat) (s : State) {sp : StatePart} (g_braid : sp ≠ .braid) (g_twin : sp ≠ .twin) (g_dram : sp ≠ .dram) (g_mems : sp ≠ .mems) (g_events : sp ≠ .events) : part sp (unhold c s) = part sp s := by
  unfold unhold
  dsimp only
  repeat' split
  all_goals simp [*]
@[simp] theorem mirrorForward_fuses (c : Nat) (s : State) : fuseView (mirrorForward c s) = fuseView s := by
  unfold mirrorForward
  simp
@[simp] theorem mirrorForward_memOk (c : Nat) (s : State) (h : MemOk s) : MemOk (mirrorForward c s) := by
  unfold mirrorForward
  simp [*]
@[simp] theorem mirrorForward_part (c : Nat) (s : State) {sp : StatePart} (g_braid : sp ≠ .braid) (g_delta : sp ≠ .delta) (g_twin : sp ≠ .twin) (g_dram : sp ≠ .dram) (g_mems : sp ≠ .mems) (g_events : sp ≠ .events) : part sp (mirrorForward c s) = part sp s := by
  unfold mirrorForward
  simp [*]
@[simp] theorem countActivate_core (c : Nat) (e : DEntry) (s : State) : coreView (countActivate c e s) = coreView s := by
  unfold countActivate
  simp [core_ite]
@[simp] theorem countActivate_fuses (c : Nat) (e : DEntry) (s : State) : fuseView (countActivate c e s) = fuseView s := fuses_of_core (countActivate_core c e s)
@[simp] theorem countActivate_memOk (c : Nat) (e : DEntry) (s : State) : MemOk (countActivate c e s) ↔ MemOk s := memOk_of_core (countActivate_core c e s)
@[simp] theorem countActivate_part (c : Nat) (e : DEntry) (s : State) {sp : StatePart} (g_braid : sp ≠ .braid) (g_dram : sp ≠ .dram) (g_events : sp ≠ .events) : part sp (countActivate c e s) = part sp s := by
  unfold countActivate
  simp [part_ite, *]
@[simp] theorem shutRow_core (c : Nat) (b : Nat) (s : State) : coreView (shutRow c b s) = coreView s := by
  rfl
@[simp] theorem shutRow_fuses (c : Nat) (b : Nat) (s : State) : fuseView (shutRow c b s) = fuseView s := fuses_of_core (shutRow_core c b s)
@[simp] theorem shutRow_memOk (c : Nat) (b : Nat) (s : State) : MemOk (shutRow c b s) ↔ MemOk s := memOk_of_core (shutRow_core c b s)
@[simp] theorem shutRow_part (c : Nat) (b : Nat) (s : State) {sp : StatePart} (g_dram : sp ≠ .dram) : part sp (shutRow c b s) = part sp s := by
  cases sp <;> first | rfl | contradiction
@[simp] theorem drawRfm_core (c : Nat) (b : Nat) (draw : Nat) (s : State) : coreView (drawRfm c b draw s) = coreView s := by
  unfold drawRfm
  simp [core_ite]
@[simp] theorem drawRfm_fuses (c : Nat) (b : Nat) (draw : Nat) (s : State) : fuseView (drawRfm c b draw s) = fuseView s := fuses_of_core (drawRfm_core c b draw s)
@[simp] theorem drawRfm_memOk (c : Nat) (b : Nat) (draw : Nat) (s : State) : MemOk (drawRfm c b draw s) ↔ MemOk s := memOk_of_core (drawRfm_core c b draw s)
@[simp] theorem drawRfm_part (c : Nat) (b : Nat) (draw : Nat) (s : State) {sp : StatePart} (g_dram : sp ≠ .dram) : part sp (drawRfm c b draw s) = part sp s := by
  unfold drawRfm
  simp [part_ite, *]
@[simp] theorem leaveRow_core (c : Nat) (e : DEntry) (s : State) : coreView (leaveRow c e s) = coreView s := by
  rfl
@[simp] theorem leaveRow_fuses (c : Nat) (e : DEntry) (s : State) : fuseView (leaveRow c e s) = fuseView s := fuses_of_core (leaveRow_core c e s)
@[simp] theorem leaveRow_memOk (c : Nat) (e : DEntry) (s : State) : MemOk (leaveRow c e s) ↔ MemOk s := memOk_of_core (leaveRow_core c e s)
@[simp] theorem leaveRow_part (c : Nat) (e : DEntry) (s : State) {sp : StatePart} (g_dram : sp ≠ .dram) : part sp (leaveRow c e s) = part sp s := by
  cases sp <;> first | rfl | contradiction
@[simp] theorem leaveQueues_core (c : Nat) (e : DEntry) (s : State) : coreView (leaveQueues c e s) = coreView s := by
  rfl
@[simp] theorem leaveQueues_fuses (c : Nat) (e : DEntry) (s : State) : fuseView (leaveQueues c e s) = fuseView s := fuses_of_core (leaveQueues_core c e s)
@[simp] theorem leaveQueues_memOk (c : Nat) (e : DEntry) (s : State) : MemOk (leaveQueues c e s) ↔ MemOk s := memOk_of_core (leaveQueues_core c e s)
@[simp] theorem leaveQueues_part (c : Nat) (e : DEntry) (s : State) {sp : StatePart} (g_dram : sp ≠ .dram) : part sp (leaveQueues c e s) = part sp s := by
  cases sp <;> first | rfl | contradiction
@[simp] theorem issueEntry_fuses (c : Nat) (e : DEntry) (draw : Nat) (s : State) : fuseView (issueEntry c e draw s) = fuseView s := by
  unfold issueEntry
  dsimp only
  repeat' split
  all_goals simp [*]
@[simp] theorem issueEntry_memOk (c : Nat) (e : DEntry) (draw : Nat) (s : State) (h : MemOk s) : MemOk (issueEntry c e draw s) := by
  unfold issueEntry
  dsimp only
  repeat' split
  all_goals simp [*]
@[simp] theorem issueEntry_part (c : Nat) (e : DEntry) (draw : Nat) (s : State) {sp : StatePart} (g_freeCtr : sp ≠ .freeCtr) (g_braid : sp ≠ .braid) (g_ferry : sp ≠ .ferry) (g_twin : sp ≠ .twin) (g_dram : sp ≠ .dram) (g_mems : sp ≠ .mems) (g_crypto : sp ≠ .crypto) (g_debug : sp ≠ .debug) (g_events : sp ≠ .events) : part sp (issueEntry c e draw s) = part sp s := by
  unfold issueEntry
  dsimp only
  repeat' split
  all_goals simp [*]
@[simp] theorem dramAccessIssue_fuses (c : Nat) (draw : Nat) (s : State) : fuseView (dramAccessIssue c draw s) = fuseView s := by
  unfold dramAccessIssue
  dsimp only
  repeat' split
  all_goals simp [*]
@[simp] theorem dramAccessIssue_memOk (c : Nat) (draw : Nat) (s : State) (h : MemOk s) : MemOk (dramAccessIssue c draw s) := by
  unfold dramAccessIssue
  dsimp only
  repeat' split
  all_goals first | exact h | (apply issueEntry_memOk; simpa using h) | (simpa using h)
@[simp] theorem dramAccessIssue_part (c : Nat) (draw : Nat) (s : State) {sp : StatePart} (g_freeCtr : sp ≠ .freeCtr) (g_braid : sp ≠ .braid) (g_ferry : sp ≠ .ferry) (g_twin : sp ≠ .twin) (g_dram : sp ≠ .dram) (g_mems : sp ≠ .mems) (g_crypto : sp ≠ .crypto) (g_debug : sp ≠ .debug) (g_events : sp ≠ .events) : part sp (dramAccessIssue c draw s) = part sp s := by
  unfold dramAccessIssue
  dsimp only
  repeat' split
  all_goals simp [*]
@[simp] theorem scrubDone_core (c : Nat) (a : DAccess) (s : State) : coreView (scrubDone c a s) = coreView s := by
  unfold scrubDone
  dsimp only
  repeat' split
  all_goals simp [*]
@[simp] theorem scrubDone_fuses (c : Nat) (a : DAccess) (s : State) : fuseView (scrubDone c a s) = fuseView s := fuses_of_core (scrubDone_core c a s)
@[simp] theorem scrubDone_memOk (c : Nat) (a : DAccess) (s : State) : MemOk (scrubDone c a s) ↔ MemOk s := memOk_of_core (scrubDone_core c a s)
@[simp] theorem scrubDone_part (c : Nat) (a : DAccess) (s : State) {sp : StatePart} (g_braid : sp ≠ .braid) (g_ferry : sp ≠ .ferry) (g_twin : sp ≠ .twin) (g_dram : sp ≠ .dram) (g_mems : sp ≠ .mems) (g_debug : sp ≠ .debug) (g_events : sp ≠ .events) : part sp (scrubDone c a s) = part sp s := by
  unfold scrubDone
  dsimp only
  repeat' split
  all_goals simp [*]
@[simp] theorem observed_core (by_ : Reader) (c : Nat) (a : DAccess) (s : State) : coreView (observed by_ c a s).2 = coreView s := by
  unfold observed
  dsimp only
  repeat' split
  all_goals simp [*]
@[simp] theorem observed_fuses (by_ : Reader) (c : Nat) (a : DAccess) (s : State) : fuseView (observed by_ c a s).2 = fuseView s := fuses_of_core (observed_core by_ c a s)
@[simp] theorem observed_memOk (by_ : Reader) (c : Nat) (a : DAccess) (s : State) : MemOk (observed by_ c a s).2 ↔ MemOk s := memOk_of_core (observed_core by_ c a s)
@[simp] theorem observed_part (by_ : Reader) (c : Nat) (a : DAccess) (s : State) {sp : StatePart} (g_freeCtr : sp ≠ .freeCtr) (g_braid : sp ≠ .braid) (g_ferry : sp ≠ .ferry) (g_twin : sp ≠ .twin) (g_dram : sp ≠ .dram) (g_mems : sp ≠ .mems) (g_debug : sp ≠ .debug) (g_events : sp ≠ .events) : part sp (observed by_ c a s).2 = part sp s := by
  unfold observed
  dsimp only
  repeat' split
  all_goals simp [*]
@[simp] theorem convertWrite_core (c : Nat) (a : DAccess) (data : List Byte) (poison : Bool) (s : State) : coreView (convertWrite c a data poison s) = coreView s := by
  unfold convertWrite
  simp [core_ite]
@[simp] theorem convertWrite_fuses (c : Nat) (a : DAccess) (data : List Byte) (poison : Bool) (s : State) : fuseView (convertWrite c a data poison s) = fuseView s := fuses_of_core (convertWrite_core c a data poison s)
@[simp] theorem convertWrite_memOk (c : Nat) (a : DAccess) (data : List Byte) (poison : Bool) (s : State) : MemOk (convertWrite c a data poison s) ↔ MemOk s := memOk_of_core (convertWrite_core c a data poison s)
@[simp] theorem convertWrite_part (c : Nat) (a : DAccess) (data : List Byte) (poison : Bool) (s : State) {sp : StatePart} (g_braid : sp ≠ .braid) (g_dram : sp ≠ .dram) : part sp (convertWrite c a data poison s) = part sp s := by
  unfold convertWrite
  simp [part_ite, *]
@[simp] theorem convertDone_core (c : Nat) (a : DAccess) (s : State) : coreView (convertDone c a s) = coreView s := by
  unfold convertDone
  simp [core_ite]
@[simp] theorem convertDone_fuses (c : Nat) (a : DAccess) (s : State) : fuseView (convertDone c a s) = fuseView s := fuses_of_core (convertDone_core c a s)
@[simp] theorem convertDone_memOk (c : Nat) (a : DAccess) (s : State) : MemOk (convertDone c a s) ↔ MemOk s := memOk_of_core (convertDone_core c a s)
@[simp] theorem convertDone_part (c : Nat) (a : DAccess) (s : State) {sp : StatePart} (g_freeCtr : sp ≠ .freeCtr) (g_braid : sp ≠ .braid) (g_ferry : sp ≠ .ferry) (g_twin : sp ≠ .twin) (g_dram : sp ≠ .dram) (g_mems : sp ≠ .mems) (g_debug : sp ≠ .debug) (g_events : sp ≠ .events) : part sp (convertDone c a s) = part sp s := by
  unfold convertDone
  simp [part_ite, *]
@[simp] theorem atomDone_fuses (c : Nat) (a : DAccess) (s : State) : fuseView (atomDone c a s) = fuseView s := by
  unfold atomDone
  dsimp only
  repeat' split
  all_goals simp [*]
@[simp] theorem atomDone_memOk (c : Nat) (a : DAccess) (s : State) (h : MemOk s) : MemOk (atomDone c a s) := by
  unfold atomDone
  dsimp only
  repeat' split
  all_goals simp [*]
@[simp] theorem atomDone_part (c : Nat) (a : DAccess) (s : State) {sp : StatePart} (g_freeCtr : sp ≠ .freeCtr) (g_braid : sp ≠ .braid) (g_ferry : sp ≠ .ferry) (g_twin : sp ≠ .twin) (g_dram : sp ≠ .dram) (g_mems : sp ≠ .mems) (g_crypto : sp ≠ .crypto) (g_debug : sp ≠ .debug) (g_events : sp ≠ .events) : part sp (atomDone c a s) = part sp s := by
  unfold atomDone
  dsimp only
  repeat' split
  all_goals simp [*]
@[simp] theorem dramReadComplete_fuses (c : Nat) (errs : List LineErr) (s : State) : fuseView (dramReadComplete c errs s) = fuseView s := by
  unfold dramReadComplete
  repeat' split
  all_goals simp [*]
@[simp] theorem dramReadComplete_memOk (c : Nat) (errs : List LineErr) (s : State) (h : MemOk s) : MemOk (dramReadComplete c errs s) := by
  unfold dramReadComplete
  repeat' split
  all_goals simp [*]
@[simp] theorem dramReadComplete_part (c : Nat) (errs : List LineErr) (s : State) {sp : StatePart} (g_freeCtr : sp ≠ .freeCtr) (g_braid : sp ≠ .braid) (g_ferry : sp ≠ .ferry) (g_twin : sp ≠ .twin) (g_dram : sp ≠ .dram) (g_mems : sp ≠ .mems) (g_crypto : sp ≠ .crypto) (g_debug : sp ≠ .debug) (g_events : sp ≠ .events) : part sp (dramReadComplete c errs s) = part sp s := by
  unfold dramReadComplete
  repeat' split
  all_goals simp [*]
@[simp] theorem pageClose_core (c : Nat) (b : Nat) (s : State) : coreView (pageClose c b s) = coreView s := by
  unfold pageClose
  dsimp only
  repeat' split
  all_goals simp [*]
@[simp] theorem pageClose_fuses (c : Nat) (b : Nat) (s : State) : fuseView (pageClose c b s) = fuseView s := fuses_of_core (pageClose_core c b s)
@[simp] theorem pageClose_memOk (c : Nat) (b : Nat) (s : State) : MemOk (pageClose c b s) ↔ MemOk s := memOk_of_core (pageClose_core c b s)
@[simp] theorem pageClose_part (c : Nat) (b : Nat) (s : State) {sp : StatePart} (g_dram : sp ≠ .dram) : part sp (pageClose c b s) = part sp s := by
  unfold pageClose
  dsimp only
  repeat' split
  all_goals simp [*]
@[simp] theorem mergeFlush_core (c : Nat) (s : State) : coreView (mergeFlush c s) = coreView s := by
  unfold mergeFlush
  repeat' split
  all_goals simp [*]
@[simp] theorem mergeFlush_fuses (c : Nat) (s : State) : fuseView (mergeFlush c s) = fuseView s := fuses_of_core (mergeFlush_core c s)
@[simp] theorem mergeFlush_memOk (c : Nat) (s : State) : MemOk (mergeFlush c s) ↔ MemOk s := memOk_of_core (mergeFlush_core c s)
@[simp] theorem mergeFlush_part (c : Nat) (s : State) {sp : StatePart} (g_dram : sp ≠ .dram) : part sp (mergeFlush c s) = part sp s := by
  unfold mergeFlush
  repeat' split
  all_goals simp [*]
@[simp] theorem shutAll_core (c : Nat) (s : State) : coreView (shutAll c s) = coreView s := by
  unfold shutAll
  simp
@[simp] theorem shutAll_fuses (c : Nat) (s : State) : fuseView (shutAll c s) = fuseView s := fuses_of_core (shutAll_core c s)
@[simp] theorem shutAll_memOk (c : Nat) (s : State) : MemOk (shutAll c s) ↔ MemOk s := memOk_of_core (shutAll_core c s)
@[simp] theorem shutAll_part (c : Nat) (s : State) {sp : StatePart} (g_dram : sp ≠ .dram) : part sp (shutAll c s) = part sp s := by
  unfold shutAll
  simp [*]
@[simp] theorem refresh_core (c : Nat) (s : State) : coreView (refresh c s) = coreView s := by
  unfold refresh
  simp [core_ite]
@[simp] theorem refresh_fuses (c : Nat) (s : State) : fuseView (refresh c s) = fuseView s := fuses_of_core (refresh_core c s)
@[simp] theorem refresh_memOk (c : Nat) (s : State) : MemOk (refresh c s) ↔ MemOk s := memOk_of_core (refresh_core c s)
@[simp] theorem refresh_part (c : Nat) (s : State) {sp : StatePart} (g_dram : sp ≠ .dram) : part sp (refresh c s) = part sp s := by
  unfold refresh
  simp [part_ite, *]
@[simp] theorem temperatureReport_core (c : Nat) (hot : Bool) (s : State) : coreView (temperatureReport c hot s) = coreView s := by
  unfold temperatureReport
  simp [core_ite]
@[simp] theorem temperatureReport_fuses (c : Nat) (hot : Bool) (s : State) : fuseView (temperatureReport c hot s) = fuseView s := fuses_of_core (temperatureReport_core c hot s)
@[simp] theorem temperatureReport_memOk (c : Nat) (hot : Bool) (s : State) : MemOk (temperatureReport c hot s) ↔ MemOk s := memOk_of_core (temperatureReport_core c hot s)
@[simp] theorem temperatureReport_part (c : Nat) (hot : Bool) (s : State) {sp : StatePart} (g_braid : sp ≠ .braid) (g_dram : sp ≠ .dram) (g_events : sp ≠ .events) : part sp (temperatureReport c hot s) = part sp s := by
  unfold temperatureReport
  simp [part_ite, *]
@[simp] theorem actWindowEnd_core (c : Nat) (s : State) : coreView (actWindowEnd c s) = coreView s := by
  unfold actWindowEnd
  split <;> simp
@[simp] theorem actWindowEnd_fuses (c : Nat) (s : State) : fuseView (actWindowEnd c s) = fuseView s := fuses_of_core (actWindowEnd_core c s)
@[simp] theorem actWindowEnd_memOk (c : Nat) (s : State) : MemOk (actWindowEnd c s) ↔ MemOk s := memOk_of_core (actWindowEnd_core c s)
@[simp] theorem actWindowEnd_part (c : Nat) (s : State) {sp : StatePart} (g_dram : sp ≠ .dram) : part sp (actWindowEnd c s) = part sp s := by
  unfold actWindowEnd
  split <;> simp [*]
@[simp] theorem drainWrites_fuses (c : Nat) (s : State) : fuseView (drainWrites c s) = fuseView s := by
  unfold drainWrites
  simp
@[simp] theorem drainWrites_memOk (c : Nat) (s : State) (h : MemOk s) : MemOk (drainWrites c s) := by
  unfold drainWrites
  dsimp only
  exact forAll_memOk _ _ _ (fun t x ht => performWrite_memOk _ _ _ (by simpa using ht)) (by simpa using h)
@[simp] theorem drainWrites_part (c : Nat) (s : State) {sp : StatePart} (g_freeCtr : sp ≠ .freeCtr) (g_braid : sp ≠ .braid) (g_ferry : sp ≠ .ferry) (g_twin : sp ≠ .twin) (g_dram : sp ≠ .dram) (g_mems : sp ≠ .mems) (g_crypto : sp ≠ .crypto) (g_debug : sp ≠ .debug) (g_events : sp ≠ .events) : part sp (drainWrites c s) = part sp s := by
  unfold drainWrites
  simp [*]
@[simp] theorem toSelfRefresh_fuses (c : Nat) (s : State) : fuseView (toSelfRefresh c s) = fuseView s := by
  unfold toSelfRefresh
  simp
@[simp] theorem toSelfRefresh_memOk (c : Nat) (s : State) (h : MemOk s) : MemOk (toSelfRefresh c s) := by
  unfold toSelfRefresh
  simp [*]
@[simp] theorem toSelfRefresh_part (c : Nat) (s : State) {sp : StatePart} (g_freeCtr : sp ≠ .freeCtr) (g_braid : sp ≠ .braid) (g_ferry : sp ≠ .ferry) (g_twin : sp ≠ .twin) (g_dram : sp ≠ .dram) (g_mems : sp ≠ .mems) (g_crypto : sp ≠ .crypto) (g_debug : sp ≠ .debug) (g_events : sp ≠ .events) : part sp (toSelfRefresh c s) = part sp s := by
  unfold toSelfRefresh
  simp [*]
@[simp] theorem selfRefreshEntry_fuses (c : Nat) (s : State) : fuseView (selfRefreshEntry c s) = fuseView s := by
  unfold selfRefreshEntry
  simp [fuses_ite]
@[simp] theorem selfRefreshEntry_memOk (c : Nat) (s : State) (h : MemOk s) : MemOk (selfRefreshEntry c s) := by
  unfold selfRefreshEntry
  dsimp only
  repeat' split
  all_goals simp [*]
@[simp] theorem selfRefreshEntry_part (c : Nat) (s : State) {sp : StatePart} (g_freeCtr : sp ≠ .freeCtr) (g_braid : sp ≠ .braid) (g_ferry : sp ≠ .ferry) (g_twin : sp ≠ .twin) (g_dram : sp ≠ .dram) (g_mems : sp ≠ .mems) (g_crypto : sp ≠ .crypto) (g_debug : sp ≠ .debug) (g_events : sp ≠ .events) : part sp (selfRefreshEntry c s) = part sp s := by
  unfold selfRefreshEntry
  simp [part_ite, *]
@[simp] theorem selfRefreshExit_core (c : Nat) (s : State) : coreView (selfRefreshExit c s) = coreView s := by
  unfold selfRefreshExit
  split <;> simp
@[simp] theorem selfRefreshExit_fuses (c : Nat) (s : State) : fuseView (selfRefreshExit c s) = fuseView s := fuses_of_core (selfRefreshExit_core c s)
@[simp] theorem selfRefreshExit_memOk (c : Nat) (s : State) : MemOk (selfRefreshExit c s) ↔ MemOk s := memOk_of_core (selfRefreshExit_core c s)
@[simp] theorem selfRefreshExit_part (c : Nat) (s : State) {sp : StatePart} (g_braid : sp ≠ .braid) (g_dram : sp ≠ .dram) (g_mems : sp ≠ .mems) : part sp (selfRefreshExit c s) = part sp s := by
  unfold selfRefreshExit
  split <;> simp [*]
@[simp] theorem dqsRetrain_core (c : Nat) (drift : Nat) (s : State) : coreView (dqsRetrain c drift s) = coreView s := by
  unfold dqsRetrain
  simp [core_ite]
@[simp] theorem dqsRetrain_fuses (c : Nat) (drift : Nat) (s : State) : fuseView (dqsRetrain c drift s) = fuseView s := fuses_of_core (dqsRetrain_core c drift s)
@[simp] theorem dqsRetrain_memOk (c : Nat) (drift : Nat) (s : State) : MemOk (dqsRetrain c drift s) ↔ MemOk s := memOk_of_core (dqsRetrain_core c drift s)
@[simp] theorem dqsRetrain_part (c : Nat) (drift : Nat) (s : State) {sp : StatePart} (g_braid : sp ≠ .braid) (g_dram : sp ≠ .dram) (g_events : sp ≠ .events) : part sp (dqsRetrain c drift s) = part sp s := by
  unfold dqsRetrain
  simp [part_ite, *]
@[simp] theorem firstTraining_fuses (c : Nat) (s : State) : fuseView (firstTraining c s) = fuseView s := by
  rfl
@[simp] theorem firstTraining_memOk (c : Nat) (s : State) (h : MemOk s) : MemOk (firstTraining c s) := by
  unfold firstTraining
  simp
  exact wf_mzero _ _ h
@[simp] theorem firstTraining_part (c : Nat) (s : State) {sp : StatePart} (g_dram : sp ≠ .dram) (g_mems : sp ≠ .mems) : part sp (firstTraining c s) = part sp s := by
  cases sp <;> first | rfl | contradiction
@[simp] theorem trainingDone_fuses (c : Nat) (converged : Bool) (s : State) : fuseView (trainingDone c converged s) = fuseView s := by
  unfold trainingDone
  simp [fuses_ite]
@[simp] theorem trainingDone_memOk (c : Nat) (converged : Bool) (s : State) (h : MemOk s) : MemOk (trainingDone c converged s) := by
  unfold trainingDone
  dsimp only
  repeat' split
  all_goals simp [*]
@[simp] theorem trainingDone_part (c : Nat) (converged : Bool) (s : State) {sp : StatePart} (g_braid : sp ≠ .braid) (g_ferry : sp ≠ .ferry) (g_twin : sp ≠ .twin) (g_dram : sp ≠ .dram) (g_mems : sp ≠ .mems) (g_debug : sp ≠ .debug) (g_events : sp ≠ .events) : part sp (trainingDone c converged s) = part sp s := by
  unfold trainingDone
  simp [part_ite, *]
@[simp] theorem initLostDone_fuses (c : Nat) (s : State) : fuseView (initLostDone c s) = fuseView s := by
  unfold initLostDone
  dsimp only
  repeat' split
  all_goals simp [*]
@[simp] theorem initLostDone_memOk (c : Nat) (s : State) (h : MemOk s) : MemOk (initLostDone c s) := by
  unfold initLostDone
  dsimp only
  split
  · exact h
  · have hw : ∀ l : List Nat, Memory.wf (l.foldl (fun m i => if bit (dchX s c).lost i then mzero m (dramPhys c (i * (arrLines (activeArr s c) * 8))) (arrLines (activeArr s c) * 8) else m) s.mems.mem) := fun l =>
      List.foldlRecOn (motive := Memory.wf) _ _ h (fun m hm x _ => by split; exact wf_mzero _ _ hm; exact hm)
    split <;> simp <;> exact hw _
@[simp] theorem initLostDone_part (c : Nat) (s : State) {sp : StatePart} (g_braid : sp ≠ .braid) (g_ferry : sp ≠ .ferry) (g_twin : sp ≠ .twin) (g_dram : sp ≠ .dram) (g_mems : sp ≠ .mems) (g_debug : sp ≠ .debug) (g_events : sp ≠ .events) : part sp (initLostDone c s) = part sp s := by
  unfold initLostDone
  dsimp only
  repeat' split
  all_goals simp [*]
@[simp] theorem busyTick_core (s : State) : coreView (busyTick s) = coreView s := by
  unfold busyTick
  simp [core_ite]
@[simp] theorem busyTick_fuses (s : State) : fuseView (busyTick s) = fuseView s := fuses_of_core (busyTick_core s)
@[simp] theorem busyTick_memOk (s : State) : MemOk (busyTick s) ↔ MemOk s := memOk_of_core (busyTick_core s)
@[simp] theorem busyTick_part (s : State) {sp : StatePart} (g_dram : sp ≠ .dram) : part sp (busyTick s) = part sp s := by
  unfold busyTick
  simp [part_ite, *]
@[simp] theorem imbalanceWindow_core (c : Nat) (s : State) : coreView (imbalanceWindow c s) = coreView s := by
  unfold imbalanceWindow
  dsimp only
  repeat' split
  all_goals simp [*]
@[simp] theorem imbalanceWindow_fuses (c : Nat) (s : State) : fuseView (imbalanceWindow c s) = fuseView s := fuses_of_core (imbalanceWindow_core c s)
@[simp] theorem imbalanceWindow_memOk (c : Nat) (s : State) : MemOk (imbalanceWindow c s) ↔ MemOk s := memOk_of_core (imbalanceWindow_core c s)
@[simp] theorem imbalanceWindow_part (c : Nat) (s : State) {sp : StatePart} (g_braid : sp ≠ .braid) (g_dram : sp ≠ .dram) (g_events : sp ≠ .events) : part sp (imbalanceWindow c s) = part sp s := by
  unfold imbalanceWindow
  dsimp only
  repeat' split
  all_goals simp [*]
@[simp] theorem configChannel_core (v : Serving) (s : State) : coreView (configChannel v s).2 = coreView s := by
  unfold configChannel
  dsimp only
  repeat' split
  all_goals simp [*]
@[simp] theorem configChannel_fuses (v : Serving) (s : State) : fuseView (configChannel v s).2 = fuseView s := fuses_of_core (configChannel_core v s)
@[simp] theorem configChannel_memOk (v : Serving) (s : State) : MemOk (configChannel v s).2 ↔ MemOk s := memOk_of_core (configChannel_core v s)
@[simp] theorem configChannel_part (v : Serving) (s : State) {sp : StatePart} (g_dram : sp ≠ .dram) : part sp (configChannel v s).2 = part sp s := by
  unfold configChannel
  dsimp only
  repeat' split
  all_goals simp [*]
@[simp] theorem configMap_core (v : Serving) (s : State) : coreView (configMap v s).2 = coreView s := by
  unfold configMap
  dsimp only
  repeat' split
  all_goals simp [*]
@[simp] theorem configMap_fuses (v : Serving) (s : State) : fuseView (configMap v s).2 = fuseView s := fuses_of_core (configMap_core v s)
@[simp] theorem configMap_memOk (v : Serving) (s : State) : MemOk (configMap v s).2 ↔ MemOk s := memOk_of_core (configMap_core v s)
@[simp] theorem configMap_part (v : Serving) (s : State) {sp : StatePart} (g_ferry : sp ≠ .ferry) (g_dram : sp ≠ .dram) : part sp (configMap v s).2 = part sp s := by
  unfold configMap
  dsimp only
  repeat' split
  all_goals simp [*]
@[simp] theorem dramConfigBody_core (v : Serving) (s : State) : coreView (dramConfigBody v s).2 = coreView s := by
  unfold dramConfigBody
  split <;> simp
@[simp] theorem dramConfigBody_fuses (v : Serving) (s : State) : fuseView (dramConfigBody v s).2 = fuseView s := fuses_of_core (dramConfigBody_core v s)
@[simp] theorem dramConfigBody_memOk (v : Serving) (s : State) : MemOk (dramConfigBody v s).2 ↔ MemOk s := memOk_of_core (dramConfigBody_core v s)
@[simp] theorem dramConfigBody_part (v : Serving) (s : State) {sp : StatePart} (g_ferry : sp ≠ .ferry) (g_dram : sp ≠ .dram) : part sp (dramConfigBody v s).2 = part sp s := by
  unfold dramConfigBody
  split <;> simp [*]
@[simp] theorem dramConfig_core (s : State) : coreView (dramConfig s) = coreView s := by
  unfold dramConfig
  simp
@[simp] theorem dramConfig_fuses (s : State) : fuseView (dramConfig s) = fuseView s := fuses_of_core (dramConfig_core s)
@[simp] theorem dramConfig_memOk (s : State) : MemOk (dramConfig s) ↔ MemOk s := memOk_of_core (dramConfig_core s)
@[simp] theorem dramConfig_part (s : State) {sp : StatePart} (g_ferry : sp ≠ .ferry) (g_dram : sp ≠ .dram) : part sp (dramConfig s) = part sp s := by
  unfold dramConfig
  simp [*]
@[simp] theorem dramTrainBody_core (v : Serving) (s : State) : coreView (dramTrainBody v s).2 = coreView s := by
  unfold dramTrainBody
  dsimp only
  repeat' split
  all_goals first | (simp [*]; done) | (rename_i h; simp [*, wakeFor_core h]; done) | (rename_i h _; simp [*, wakeFor_core h]; done) | (rename_i h _ _; simp [*, wakeFor_core h]; done) | (rename_i h _ _ _; simp [*, wakeFor_core h]; done) | (rename_i h _ _ _ _; simp [*, wakeFor_core h]; done) | rfl
@[simp] theorem dramTrainBody_fuses (v : Serving) (s : State) : fuseView (dramTrainBody v s).2 = fuseView s := fuses_of_core (dramTrainBody_core v s)
@[simp] theorem dramTrainBody_memOk (v : Serving) (s : State) : MemOk (dramTrainBody v s).2 ↔ MemOk s := memOk_of_core (dramTrainBody_core v s)
@[simp] theorem dramTrainBody_part (v : Serving) (s : State) {sp : StatePart} (g_braid : sp ≠ .braid) (g_ferry : sp ≠ .ferry) (g_lanes : sp ≠ .lanes) (g_delta : sp ≠ .delta) (g_eng : sp ≠ .eng) (g_dram : sp ≠ .dram) (g_mems : sp ≠ .mems) (g_fabric : sp ≠ .fabric) (g_power : sp ≠ .power) : part sp (dramTrainBody v s).2 = part sp s := by
  unfold dramTrainBody
  dsimp only
  repeat' split
  all_goals first | (simp [*]; done) | (rename_i h; simp [*, wakeFor_part h]; done) | (rename_i h _; simp [*, wakeFor_part h]; done) | (rename_i h _ _; simp [*, wakeFor_part h]; done) | (rename_i h _ _ _; simp [*, wakeFor_part h]; done) | (rename_i h _ _ _ _; simp [*, wakeFor_part h]; done) | (simp [*]; cases sp <;> first | rfl | contradiction) | (cases sp <;> first | rfl | contradiction)
@[simp] theorem dramTrain_core (s : State) : coreView (dramTrain s) = coreView s := by
  unfold dramTrain
  simp
@[simp] theorem dramTrain_fuses (s : State) : fuseView (dramTrain s) = fuseView s := fuses_of_core (dramTrain_core s)
@[simp] theorem dramTrain_memOk (s : State) : MemOk (dramTrain s) ↔ MemOk s := memOk_of_core (dramTrain_core s)
@[simp] theorem dramTrain_part (s : State) {sp : StatePart} (g_braid : sp ≠ .braid) (g_ferry : sp ≠ .ferry) (g_lanes : sp ≠ .lanes) (g_delta : sp ≠ .delta) (g_eng : sp ≠ .eng) (g_dram : sp ≠ .dram) (g_mems : sp ≠ .mems) (g_fabric : sp ≠ .fabric) (g_power : sp ≠ .power) : part sp (dramTrain s) = part sp s := by
  unfold dramTrain
  simp [*]
@[simp] theorem initLost_core (v : Serving) (s : State) : coreView (initLost v s).2 = coreView s := by
  unfold initLost
  dsimp only
  repeat' split
  all_goals first | (simp [*]; done) | (rename_i h; simp [*, wakeFor_core h]; done) | (rename_i h _; simp [*, wakeFor_core h]; done) | (rename_i h _ _; simp [*, wakeFor_core h]; done) | (rename_i h _ _ _; simp [*, wakeFor_core h]; done) | (rename_i h _ _ _ _; simp [*, wakeFor_core h]; done) | rfl
@[simp] theorem initLost_fuses (v : Serving) (s : State) : fuseView (initLost v s).2 = fuseView s := fuses_of_core (initLost_core v s)
@[simp] theorem initLost_memOk (v : Serving) (s : State) : MemOk (initLost v s).2 ↔ MemOk s := memOk_of_core (initLost_core v s)
@[simp] theorem initLost_part (v : Serving) (s : State) {sp : StatePart} (g_braid : sp ≠ .braid) (g_ferry : sp ≠ .ferry) (g_lanes : sp ≠ .lanes) (g_delta : sp ≠ .delta) (g_eng : sp ≠ .eng) (g_dram : sp ≠ .dram) (g_mems : sp ≠ .mems) (g_fabric : sp ≠ .fabric) (g_power : sp ≠ .power) : part sp (initLost v s).2 = part sp s := by
  unfold initLost
  dsimp only
  repeat' split
  all_goals first | (simp [*]; done) | (rename_i h; simp [*, wakeFor_part h]; done) | (rename_i h _; simp [*, wakeFor_part h]; done) | (rename_i h _ _; simp [*, wakeFor_part h]; done) | (rename_i h _ _ _; simp [*, wakeFor_part h]; done) | (rename_i h _ _ _ _; simp [*, wakeFor_part h]; done) | (simp [*]; cases sp <;> first | rfl | contradiction) | (cases sp <;> first | rfl | contradiction)
@[simp] theorem dramPowerBody_core (v : Serving) (s : State) : coreView (dramPowerBody v s).2 = coreView s := by
  unfold dramPowerBody
  dsimp only
  repeat' split
  all_goals simp [*]
@[simp] theorem dramPowerBody_fuses (v : Serving) (s : State) : fuseView (dramPowerBody v s).2 = fuseView s := fuses_of_core (dramPowerBody_core v s)
@[simp] theorem dramPowerBody_memOk (v : Serving) (s : State) : MemOk (dramPowerBody v s).2 ↔ MemOk s := memOk_of_core (dramPowerBody_core v s)
@[simp] theorem dramPowerBody_part (v : Serving) (s : State) {sp : StatePart} (g_braid : sp ≠ .braid) (g_ferry : sp ≠ .ferry) (g_lanes : sp ≠ .lanes) (g_delta : sp ≠ .delta) (g_eng : sp ≠ .eng) (g_dram : sp ≠ .dram) (g_mems : sp ≠ .mems) (g_fabric : sp ≠ .fabric) (g_power : sp ≠ .power) : part sp (dramPowerBody v s).2 = part sp s := by
  unfold dramPowerBody
  dsimp only
  repeat' split
  all_goals simp [*]
@[simp] theorem dramPower_core (s : State) : coreView (dramPower s) = coreView s := by
  unfold dramPower
  simp
@[simp] theorem dramPower_fuses (s : State) : fuseView (dramPower s) = fuseView s := fuses_of_core (dramPower_core s)
@[simp] theorem dramPower_memOk (s : State) : MemOk (dramPower s) ↔ MemOk s := memOk_of_core (dramPower_core s)
@[simp] theorem dramPower_part (s : State) {sp : StatePart} (g_braid : sp ≠ .braid) (g_ferry : sp ≠ .ferry) (g_lanes : sp ≠ .lanes) (g_delta : sp ≠ .delta) (g_eng : sp ≠ .eng) (g_dram : sp ≠ .dram) (g_mems : sp ≠ .mems) (g_fabric : sp ≠ .fabric) (g_power : sp ≠ .power) : part sp (dramPower s) = part sp s := by
  unfold dramPower
  simp [*]
@[simp] theorem hammerBody_core (v : Serving) (s : State) : coreView (hammerBody v s).2 = coreView s := by
  unfold hammerBody
  dsimp only
  repeat' split
  all_goals simp [*]
@[simp] theorem hammerBody_fuses (v : Serving) (s : State) : fuseView (hammerBody v s).2 = fuseView s := fuses_of_core (hammerBody_core v s)
@[simp] theorem hammerBody_memOk (v : Serving) (s : State) : MemOk (hammerBody v s).2 ↔ MemOk s := memOk_of_core (hammerBody_core v s)
@[simp] theorem hammerBody_part (v : Serving) (s : State) {sp : StatePart} (g_dram : sp ≠ .dram) : part sp (hammerBody v s).2 = part sp s := by
  unfold hammerBody
  dsimp only
  repeat' split
  all_goals simp [*]
@[simp] theorem hammerSet_core (s : State) : coreView (hammerSet s) = coreView s := by
  unfold hammerSet
  simp
@[simp] theorem hammerSet_fuses (s : State) : fuseView (hammerSet s) = fuseView s := fuses_of_core (hammerSet_core s)
@[simp] theorem hammerSet_memOk (s : State) : MemOk (hammerSet s) ↔ MemOk s := memOk_of_core (hammerSet_core s)
@[simp] theorem hammerSet_part (s : State) {sp : StatePart} (g_ferry : sp ≠ .ferry) (g_dram : sp ≠ .dram) : part sp (hammerSet s) = part sp s := by
  unfold hammerSet
  simp [*]
@[simp] theorem flipBody_core (v : Serving) (s : State) : coreView (flipBody v s).2 = coreView s := by
  unfold flipBody
  dsimp only
  repeat' split
  all_goals simp [*]
@[simp] theorem flipBody_fuses (v : Serving) (s : State) : fuseView (flipBody v s).2 = fuseView s := fuses_of_core (flipBody_core v s)
@[simp] theorem flipBody_memOk (v : Serving) (s : State) : MemOk (flipBody v s).2 ↔ MemOk s := memOk_of_core (flipBody_core v s)
@[simp] theorem flipBody_part (v : Serving) (s : State) {sp : StatePart} (g_braid : sp ≠ .braid) (g_ferry : sp ≠ .ferry) (g_twin : sp ≠ .twin) (g_dram : sp ≠ .dram) (g_debug : sp ≠ .debug) (g_events : sp ≠ .events) : part sp (flipBody v s).2 = part sp s := by
  unfold flipBody
  dsimp only
  repeat' split
  all_goals simp [*]
@[simp] theorem flipMask_core (s : State) : coreView (flipMask s) = coreView s := by
  unfold flipMask
  simp
@[simp] theorem flipMask_fuses (s : State) : fuseView (flipMask s) = fuseView s := fuses_of_core (flipMask_core s)
@[simp] theorem flipMask_memOk (s : State) : MemOk (flipMask s) ↔ MemOk s := memOk_of_core (flipMask_core s)
@[simp] theorem flipMask_part (s : State) {sp : StatePart} (g_braid : sp ≠ .braid) (g_ferry : sp ≠ .ferry) (g_twin : sp ≠ .twin) (g_dram : sp ≠ .dram) (g_debug : sp ≠ .debug) (g_events : sp ≠ .events) : part sp (flipMask s) = part sp s := by
  unfold flipMask
  simp [*]
@[simp] theorem scourSetBody_core (v : Serving) (s : State) : coreView (scourSetBody v s).2 = coreView s := by
  unfold scourSetBody
  dsimp only
  repeat' split
  all_goals simp [*]
@[simp] theorem scourSetBody_fuses (v : Serving) (s : State) : fuseView (scourSetBody v s).2 = fuseView s := fuses_of_core (scourSetBody_core v s)
@[simp] theorem scourSetBody_memOk (v : Serving) (s : State) : MemOk (scourSetBody v s).2 ↔ MemOk s := memOk_of_core (scourSetBody_core v s)
@[simp] theorem scourSetBody_part (v : Serving) (s : State) {sp : StatePart} (g_dram : sp ≠ .dram) : part sp (scourSetBody v s).2 = part sp s := by
  unfold scourSetBody
  dsimp only
  repeat' split
  all_goals simp [*]
@[simp] theorem scourSet_core (s : State) : coreView (scourSet s) = coreView s := by
  unfold scourSet
  simp
@[simp] theorem scourSet_fuses (s : State) : fuseView (scourSet s) = fuseView s := fuses_of_core (scourSet_core s)
@[simp] theorem scourSet_memOk (s : State) : MemOk (scourSet s) ↔ MemOk s := memOk_of_core (scourSet_core s)
@[simp] theorem scourSet_part (s : State) {sp : StatePart} (g_ferry : sp ≠ .ferry) (g_dram : sp ≠ .dram) : part sp (scourSet s) = part sp s := by
  unfold scourSet
  simp [*]
@[simp] theorem scourPassBody_core (v : Serving) (s : State) : coreView (scourPassBody v s).2 = coreView s := by
  unfold scourPassBody
  dsimp only
  repeat' split
  all_goals simp [*]
@[simp] theorem scourPassBody_fuses (v : Serving) (s : State) : fuseView (scourPassBody v s).2 = fuseView s := fuses_of_core (scourPassBody_core v s)
@[simp] theorem scourPassBody_memOk (v : Serving) (s : State) : MemOk (scourPassBody v s).2 ↔ MemOk s := memOk_of_core (scourPassBody_core v s)
@[simp] theorem scourPassBody_part (v : Serving) (s : State) {sp : StatePart} (g_ferry : sp ≠ .ferry) (g_dram : sp ≠ .dram) : part sp (scourPassBody v s).2 = part sp s := by
  unfold scourPassBody
  dsimp only
  repeat' split
  all_goals simp [*]
@[simp] theorem scourPass_core (s : State) : coreView (scourPass s) = coreView s := by
  unfold scourPass
  simp
@[simp] theorem scourPass_fuses (s : State) : fuseView (scourPass s) = fuseView s := fuses_of_core (scourPass_core s)
@[simp] theorem scourPass_memOk (s : State) : MemOk (scourPass s) ↔ MemOk s := memOk_of_core (scourPass_core s)
@[simp] theorem scourPass_part (s : State) {sp : StatePart} (g_ferry : sp ≠ .ferry) (g_dram : sp ≠ .dram) : part sp (scourPass s) = part sp s := by
  unfold scourPass
  simp [*]
@[simp] theorem scourRead_core (agent : Nat) (a : Nat) (s : State) : coreView (scourRead agent a s) = coreView s := by
  unfold scourRead
  simp
@[simp] theorem scourRead_fuses (agent : Nat) (a : Nat) (s : State) : fuseView (scourRead agent a s) = fuseView s := fuses_of_core (scourRead_core agent a s)
@[simp] theorem scourRead_memOk (agent : Nat) (a : Nat) (s : State) : MemOk (scourRead agent a s) ↔ MemOk s := memOk_of_core (scourRead_core agent a s)
@[simp] theorem scourRead_part (agent : Nat) (a : Nat) (s : State) {sp : StatePart} (g_braid : sp ≠ .braid) (g_eng : sp ≠ .eng) (g_events : sp ≠ .events) : part sp (scourRead agent a s) = part sp s := by
  unfold scourRead
  simp [*]
@[simp] theorem dropScour_core (agent : Nat) (s : State) : coreView (dropScour agent s) = coreView s := by
  rfl
@[simp] theorem dropScour_fuses (agent : Nat) (s : State) : fuseView (dropScour agent s) = fuseView s := fuses_of_core (dropScour_core agent s)
@[simp] theorem dropScour_memOk (agent : Nat) (s : State) : MemOk (dropScour agent s) ↔ MemOk s := memOk_of_core (dropScour_core agent s)
@[simp] theorem dropScour_part (agent : Nat) (s : State) {sp : StatePart} (g_braid : sp ≠ .braid) : part sp (dropScour agent s) = part sp s := by
  cases sp <;> first | rfl | contradiction
@[simp] theorem scourWalkLine_core (r : Nat) (s : State) : coreView (scourWalkLine r s) = coreView s := by
  unfold scourWalkLine
  dsimp only
  repeat' split
  all_goals simp [*]
@[simp] theorem scourWalkLine_fuses (r : Nat) (s : State) : fuseView (scourWalkLine r s) = fuseView s := fuses_of_core (scourWalkLine_core r s)
@[simp] theorem scourWalkLine_memOk (r : Nat) (s : State) : MemOk (scourWalkLine r s) ↔ MemOk s := memOk_of_core (scourWalkLine_core r s)
@[simp] theorem scourWalkLine_part (r : Nat) (s : State) {sp : StatePart} (g_braid : sp ≠ .braid) (g_eng : sp ≠ .eng) (g_dram : sp ≠ .dram) (g_events : sp ≠ .events) : part sp (scourWalkLine r s) = part sp s := by
  unfold scourWalkLine
  dsimp only
  repeat' split
  all_goals simp [*]
@[simp] theorem passAbsorb_core (s : State) : coreView (passAbsorb s) = coreView s := by
  unfold passAbsorb
  split <;> simp
@[simp] theorem passAbsorb_fuses (s : State) : fuseView (passAbsorb s) = fuseView s := fuses_of_core (passAbsorb_core s)
@[simp] theorem passAbsorb_memOk (s : State) : MemOk (passAbsorb s) ↔ MemOk s := memOk_of_core (passAbsorb_core s)
@[simp] theorem passAbsorb_part (s : State) {sp : StatePart} (g_braid : sp ≠ .braid) (g_dram : sp ≠ .dram) : part sp (passAbsorb s) = part sp s := by
  unfold passAbsorb
  split <;> simp [*]
@[simp] theorem scourPassLine_core (s : State) : coreView (scourPassLine s) = coreView s := by
  unfold scourPassLine
  dsimp only
  repeat' split
  all_goals simp [*]
@[simp] theorem scourPassLine_fuses (s : State) : fuseView (scourPassLine s) = fuseView s := fuses_of_core (scourPassLine_core s)
@[simp] theorem scourPassLine_memOk (s : State) : MemOk (scourPassLine s) ↔ MemOk s := memOk_of_core (scourPassLine_core s)
@[simp] theorem scourPassLine_part (s : State) {sp : StatePart} (g_braid : sp ≠ .braid) (g_eng : sp ≠ .eng) (g_dram : sp ≠ .dram) (g_events : sp ≠ .events) : part sp (scourPassLine s) = part sp s := by
  unfold scourPassLine
  dsimp only
  repeat' split
  all_goals simp [*]
@[simp] theorem scourPassDone_fuses (s : State) : fuseView (scourPassDone s) = fuseView s := by
  unfold scourPassDone
  dsimp only
  repeat' split
  all_goals first | (simp; done) | (rename_i h; simp [hwWrite_fuses h]; done)
@[simp] theorem scourPassDone_memOk (s : State) (h : MemOk s) : MemOk (scourPassDone s) := by
  unfold scourPassDone
  dsimp only
  repeat' split
  all_goals first | (simpa using h) | (rename_i he; rw [endJob_memOk]; exact hwWrite_memOk he (by simpa using h))
@[simp] theorem scourPassDone_part (s : State) {sp : StatePart} (g_braid : sp ≠ .braid) (g_ferry : sp ≠ .ferry) (g_twin : sp ≠ .twin) (g_dram : sp ≠ .dram) (g_mems : sp ≠ .mems) (g_debug : sp ≠ .debug) (g_events : sp ≠ .events) : part sp (scourPassDone s) = part sp s := by
  unfold scourPassDone
  dsimp only
  repeat' split
  all_goals first | (simp [*]; done) | (rename_i h; simp [*, hwWrite_part h]; done) | (rename_i h _; simp [*, hwWrite_part h]; done) | (rename_i h _ _; simp [*, hwWrite_part h]; done) | (rename_i h _ _ _; simp [*, hwWrite_part h]; done) | (rename_i h _ _ _ _; simp [*, hwWrite_part h]; done) | (simp [*]; cases sp <;> first | rfl | contradiction) | (cases sp <;> first | rfl | contradiction)
@[simp] theorem basinRequestAccept_core (g : Nat) (pid : Nat) (s : State) : coreView (basinRequestAccept g pid s) = coreView s := by
  unfold basinRequestAccept
  repeat' split
  all_goals simp [*]
@[simp] theorem basinRequestAccept_fuses (g : Nat) (pid : Nat) (s : State) : fuseView (basinRequestAccept g pid s) = fuseView s := fuses_of_core (basinRequestAccept_core g pid s)
@[simp] theorem basinRequestAccept_memOk (g : Nat) (pid : Nat) (s : State) : MemOk (basinRequestAccept g pid s) ↔ MemOk s := memOk_of_core (basinRequestAccept_core g pid s)
@[simp] theorem basinRequestAccept_part (g : Nat) (pid : Nat) (s : State) {sp : StatePart} (g_braid : sp ≠ .braid) (g_mems : sp ≠ .mems) : part sp (basinRequestAccept g pid s) = part sp s := by
  unfold basinRequestAccept
  repeat' split
  all_goals simp [*]
@[simp] theorem basinCount_core (g : Nat) (i : Nat) (s : State) : coreView (basinCount g i s) = coreView s := by
  rfl
@[simp] theorem basinCount_fuses (g : Nat) (i : Nat) (s : State) : fuseView (basinCount g i s) = fuseView s := fuses_of_core (basinCount_core g i s)
@[simp] theorem basinCount_memOk (g : Nat) (i : Nat) (s : State) : MemOk (basinCount g i s) ↔ MemOk s := memOk_of_core (basinCount_core g i s)
@[simp] theorem basinCount_part (g : Nat) (i : Nat) (s : State) {sp : StatePart} (g_mems : sp ≠ .mems) : part sp (basinCount g i s) = part sp s := by
  cases sp <;> first | rfl | contradiction
@[simp] theorem wordCorrected_core (g : Nat) (s : State) : coreView (wordCorrected g s) = coreView s := by
  unfold wordCorrected
  simp
@[simp] theorem wordCorrected_fuses (g : Nat) (s : State) : fuseView (wordCorrected g s) = fuseView s := fuses_of_core (wordCorrected_core g s)
@[simp] theorem wordCorrected_memOk (g : Nat) (s : State) : MemOk (wordCorrected g s) ↔ MemOk s := memOk_of_core (wordCorrected_core g s)
@[simp] theorem wordCorrected_part (g : Nat) (s : State) {sp : StatePart} (g_braid : sp ≠ .braid) (g_mems : sp ≠ .mems) (g_events : sp ≠ .events) : part sp (wordCorrected g s) = part sp s := by
  unfold wordCorrected
  simp [*]
@[simp] theorem basinEv_core (g : Nat) (cause : Nat) (w : Nat) (s : State) : coreView (basinEv g cause w s) = coreView s := by
  unfold basinEv
  simp
@[simp] theorem basinEv_fuses (g : Nat) (cause : Nat) (w : Nat) (s : State) : fuseView (basinEv g cause w s) = fuseView s := fuses_of_core (basinEv_core g cause w s)
@[simp] theorem basinEv_memOk (g : Nat) (cause : Nat) (w : Nat) (s : State) : MemOk (basinEv g cause w s) ↔ MemOk s := memOk_of_core (basinEv_core g cause w s)
@[simp] theorem basinEv_part (g : Nat) (cause : Nat) (w : Nat) (s : State) {sp : StatePart} (g_braid : sp ≠ .braid) (g_mems : sp ≠ .mems) (g_events : sp ≠ .events) : part sp (basinEv g cause w s) = part sp s := by
  unfold basinEv
  simp [*]
@[simp] theorem basinRead_core (g : Nat) (ws : List Nat) (s : State) : coreView (basinRead g ws s).2 = coreView s := by
  unfold basinRead
  dsimp only
  refine (forAll_core _ _ _ (fun t x => ?_)).trans (by simp)
  split <;> simp
@[simp] theorem basinRead_fuses (g : Nat) (ws : List Nat) (s : State) : fuseView (basinRead g ws s).2 = fuseView s := fuses_of_core (basinRead_core g ws s)
@[simp] theorem basinRead_memOk (g : Nat) (ws : List Nat) (s : State) : MemOk (basinRead g ws s).2 ↔ MemOk s := memOk_of_core (basinRead_core g ws s)
@[simp] theorem basinRead_part (g : Nat) (ws : List Nat) (s : State) {sp : StatePart} (g_freeCtr : sp ≠ .freeCtr) (g_braid : sp ≠ .braid) (g_mems : sp ≠ .mems) (g_events : sp ≠ .events) : part sp (basinRead g ws s).2 = part sp s := by
  unfold basinRead
  dsimp only
  refine (forAll_part _ _ _ (fun t x => ?_)).trans (by simp [*])
  split <;> simp [*]
@[simp] theorem useBanks_core (g : Nat) (lines : List Nat) (s : State) : coreView (useBanks g lines s) = coreView s := by
  rfl
@[simp] theorem useBanks_fuses (g : Nat) (lines : List Nat) (s : State) : fuseView (useBanks g lines s) = fuseView s := fuses_of_core (useBanks_core g lines s)
@[simp] theorem useBanks_memOk (g : Nat) (lines : List Nat) (s : State) : MemOk (useBanks g lines s) ↔ MemOk s := memOk_of_core (useBanks_core g lines s)
@[simp] theorem useBanks_part (g : Nat) (lines : List Nat) (s : State) {sp : StatePart} (g_mems : sp ≠ .mems) : part sp (useBanks g lines s) = part sp s := by
  cases sp <;> first | rfl | contradiction
@[simp] theorem dropMerge_core (g : Nat) (w : Nat) (s : State) : coreView (dropMerge g w s) = coreView s := by
  rfl
@[simp] theorem dropMerge_fuses (g : Nat) (w : Nat) (s : State) : fuseView (dropMerge g w s) = fuseView s := fuses_of_core (dropMerge_core g w s)
@[simp] theorem dropMerge_memOk (g : Nat) (w : Nat) (s : State) : MemOk (dropMerge g w s) ↔ MemOk s := memOk_of_core (dropMerge_core g w s)
@[simp] theorem dropMerge_part (g : Nat) (w : Nat) (s : State) {sp : StatePart} (g_mems : sp ≠ .mems) : part sp (dropMerge g w s) = part sp s := by
  cases sp <;> first | rfl | contradiction
@[simp] theorem flushWord_fuses (g : Nat) (e : BMerge) (s : State) : fuseView (flushWord g e s) = fuseView s := by
  unfold flushWord
  simp [fuses_ite]
@[simp] theorem flushWord_memOk (g : Nat) (e : BMerge) (s : State) (h : MemOk s) : MemOk (flushWord g e s) := by
  unfold flushWord
  dsimp only
  repeat' split
  all_goals simp [*]
@[simp] theorem flushWord_part (g : Nat) (e : BMerge) (s : State) {sp : StatePart} (g_freeCtr : sp ≠ .freeCtr) (g_braid : sp ≠ .braid) (g_mems : sp ≠ .mems) (g_events : sp ≠ .events) : part sp (flushWord g e s) = part sp s := by
  unfold flushWord
  simp [part_ite, *]
@[simp] theorem flushGroup_fuses (g : Nat) (s : State) : fuseView (flushGroup g s) = fuseView s := by
  unfold flushGroup
  simp
@[simp] theorem flushGroup_memOk (g : Nat) (s : State) (h : MemOk s) : MemOk (flushGroup g s) := by
  unfold flushGroup
  exact forAll_memOk _ _ _ (fun t x ht => flushWord_memOk _ _ _ ht) h
@[simp] theorem flushGroup_part (g : Nat) (s : State) {sp : StatePart} (g_freeCtr : sp ≠ .freeCtr) (g_braid : sp ≠ .braid) (g_mems : sp ≠ .mems) (g_events : sp ≠ .events) : part sp (flushGroup g s) = part sp s := by
  unfold flushGroup
  simp [*]
@[simp] theorem mergeWrite_fuses (g : Nat) (w : Nat) (data : List Byte) (mask : Nat) (poison : Bool) (s : State) : fuseView (mergeWrite g w data mask poison s) = fuseView s := by
  unfold mergeWrite
  dsimp only
  repeat' split
  all_goals simp [*]
@[simp] theorem mergeWrite_memOk (g : Nat) (w : Nat) (data : List Byte) (mask : Nat) (poison : Bool) (s : State) (h : MemOk s) : MemOk (mergeWrite g w data mask poison s) := by
  unfold mergeWrite
  dsimp only
  repeat' split
  all_goals simp [*]
@[simp] theorem mergeWrite_part (g : Nat) (w : Nat) (data : List Byte) (mask : Nat) (poison : Bool) (s : State) {sp : StatePart} (g_freeCtr : sp ≠ .freeCtr) (g_braid : sp ≠ .braid) (g_mems : sp ≠ .mems) (g_events : sp ≠ .events) : part sp (mergeWrite g w data mask poison s) = part sp s := by
  unfold mergeWrite
  dsimp only
  repeat' split
  all_goals simp [*]
@[simp] theorem basinAnswer_core (d : Delivered) (t : Nat) (st : Status) (data : List Byte) (poison : List Nat) (s : State) : coreView (basinAnswer d t st data poison s) = coreView s := by
  unfold basinAnswer
  split <;> simp
@[simp] theorem basinAnswer_fuses (d : Delivered) (t : Nat) (st : Status) (data : List Byte) (poison : List Nat) (s : State) : fuseView (basinAnswer d t st data poison s) = fuseView s := fuses_of_core (basinAnswer_core d t st data poison s)
@[simp] theorem basinAnswer_memOk (d : Delivered) (t : Nat) (st : Status) (data : List Byte) (poison : List Nat) (s : State) : MemOk (basinAnswer d t st data poison s) ↔ MemOk s := memOk_of_core (basinAnswer_core d t st data poison s)
@[simp] theorem basinAnswer_part (d : Delivered) (t : Nat) (st : Status) (data : List Byte) (poison : List Nat) (s : State) {sp : StatePart} (g_braid : sp ≠ .braid) (g_mems : sp ≠ .mems) (g_events : sp ≠ .events) : part sp (basinAnswer d t st data poison s) = part sp s := by
  unfold basinAnswer
  split <;> simp [*]
@[simp] theorem basinServeRead_core (g : Nat) (d : Delivered) (s : State) : coreView (basinServeRead g d s) = coreView s := by
  unfold basinServeRead
  simp [core_ite]
@[simp] theorem basinServeRead_fuses (g : Nat) (d : Delivered) (s : State) : fuseView (basinServeRead g d s) = fuseView s := fuses_of_core (basinServeRead_core g d s)
@[simp] theorem basinServeRead_memOk (g : Nat) (d : Delivered) (s : State) : MemOk (basinServeRead g d s) ↔ MemOk s := memOk_of_core (basinServeRead_core g d s)
@[simp] theorem basinServeRead_part (g : Nat) (d : Delivered) (s : State) {sp : StatePart} (g_freeCtr : sp ≠ .freeCtr) (g_braid : sp ≠ .braid) (g_mems : sp ≠ .mems) (g_events : sp ≠ .events) : part sp (basinServeRead g d s) = part sp s := by
  unfold basinServeRead
  simp [part_ite, *]
@[simp] theorem basinScrub_core (g : Nat) (d : Delivered) (s : State) : coreView (basinScrub g d s) = coreView s := by
  unfold basinScrub
  simp
@[simp] theorem basinScrub_fuses (g : Nat) (d : Delivered) (s : State) : fuseView (basinScrub g d s) = fuseView s := fuses_of_core (basinScrub_core g d s)
@[simp] theorem basinScrub_memOk (g : Nat) (d : Delivered) (s : State) : MemOk (basinScrub g d s) ↔ MemOk s := memOk_of_core (basinScrub_core g d s)
@[simp] theorem basinScrub_part (g : Nat) (d : Delivered) (s : State) {sp : StatePart} (g_freeCtr : sp ≠ .freeCtr) (g_braid : sp ≠ .braid) (g_mems : sp ≠ .mems) (g_events : sp ≠ .events) : part sp (basinScrub g d s) = part sp s := by
  unfold basinScrub
  simp [*]
@[simp] theorem basinServeWrite_fuses (g : Nat) (d : Delivered) (s : State) : fuseView (basinServeWrite g d s) = fuseView s := by
  unfold basinServeWrite
  simp [fuses_ite]
@[simp] theorem basinServeWrite_memOk (g : Nat) (d : Delivered) (s : State) (h : MemOk s) : MemOk (basinServeWrite g d s) := by
  unfold basinServeWrite
  dsimp only
  rw [basinAnswer_memOk]
  refine forAll_memOk _ _ _ (fun t x ht => ?_) h
  split <;> simp [*]
@[simp] theorem basinServeWrite_part (g : Nat) (d : Delivered) (s : State) {sp : StatePart} (g_freeCtr : sp ≠ .freeCtr) (g_braid : sp ≠ .braid) (g_mems : sp ≠ .mems) (g_events : sp ≠ .events) : part sp (basinServeWrite g d s) = part sp s := by
  unfold basinServeWrite
  simp [part_ite, *]
@[simp] theorem basinServeAtom_fuses (g : Nat) (d : Delivered) (s : State) : fuseView (basinServeAtom g d s) = fuseView s := by
  unfold basinServeAtom
  dsimp only
  repeat' split
  all_goals simp [*]
@[simp] theorem basinServeAtom_memOk (g : Nat) (d : Delivered) (s : State) (h : MemOk s) : MemOk (basinServeAtom g d s) := by
  unfold basinServeAtom
  dsimp only
  repeat' split
  all_goals simp [*]
@[simp] theorem basinServeAtom_part (g : Nat) (d : Delivered) (s : State) {sp : StatePart} (g_freeCtr : sp ≠ .freeCtr) (g_braid : sp ≠ .braid) (g_mems : sp ≠ .mems) (g_events : sp ≠ .events) : part sp (basinServeAtom g d s) = part sp s := by
  unfold basinServeAtom
  dsimp only
  repeat' split
  all_goals simp [*]
@[simp] theorem basinRequestStart_fuses (g : Nat) (errs : List WordErr) (s : State) : fuseView (basinRequestStart g errs s) = fuseView s := by
  unfold basinRequestStart
  repeat' split
  all_goals simp [*]
@[simp] theorem basinRequestStart_memOk (g : Nat) (errs : List WordErr) (s : State) (h : MemOk s) : MemOk (basinRequestStart g errs s) := by
  unfold basinRequestStart
  repeat' split
  all_goals simp [*]
@[simp] theorem basinRequestStart_part (g : Nat) (errs : List WordErr) (s : State) {sp : StatePart} (g_freeCtr : sp ≠ .freeCtr) (g_braid : sp ≠ .braid) (g_mems : sp ≠ .mems) (g_events : sp ≠ .events) : part sp (basinRequestStart g errs s) = part sp s := by
  unfold basinRequestStart
  repeat' split
  all_goals simp [*]
@[simp] theorem basinMergeFlush_fuses (g : Nat) (errs : List WordErr) (s : State) : fuseView (basinMergeFlush g errs s) = fuseView s := by
  unfold basinMergeFlush
  repeat' split
  all_goals simp [*]
@[simp] theorem basinMergeFlush_memOk (g : Nat) (errs : List WordErr) (s : State) (h : MemOk s) : MemOk (basinMergeFlush g errs s) := by
  unfold basinMergeFlush
  repeat' split
  all_goals simp [*]
@[simp] theorem basinMergeFlush_part (g : Nat) (errs : List WordErr) (s : State) {sp : StatePart} (g_freeCtr : sp ≠ .freeCtr) (g_braid : sp ≠ .braid) (g_mems : sp ≠ .mems) (g_events : sp ≠ .events) : part sp (basinMergeFlush g errs s) = part sp s := by
  unfold basinMergeFlush
  repeat' split
  all_goals simp [*]
@[simp] theorem toRetention_fuses (m : MemUnit) (s : State) : fuseView (toRetention m s) = fuseView s := by
  unfold toRetention
  split <;> simp
@[simp] theorem toRetention_memOk (m : MemUnit) (s : State) (h : MemOk s) : MemOk (toRetention m s) := by
  unfold toRetention
  repeat' split
  all_goals simp [*]
@[simp] theorem toRetention_part (m : MemUnit) (s : State) {sp : StatePart} (g_freeCtr : sp ≠ .freeCtr) (g_braid : sp ≠ .braid) (g_mems : sp ≠ .mems) (g_events : sp ≠ .events) : part sp (toRetention m s) = part sp s := by
  unfold toRetention
  split <;> simp [*]
@[simp] theorem retentionEntry_fuses (m : MemUnit) (s : State) : fuseView (retentionEntry m s) = fuseView s := by
  unfold retentionEntry
  split <;> simp
@[simp] theorem retentionEntry_memOk (m : MemUnit) (s : State) (h : MemOk s) : MemOk (retentionEntry m s) := by
  unfold retentionEntry
  repeat' split
  all_goals simp [*]
@[simp] theorem retentionEntry_part (m : MemUnit) (s : State) {sp : StatePart} (g_freeCtr : sp ≠ .freeCtr) (g_braid : sp ≠ .braid) (g_mems : sp ≠ .mems) (g_events : sp ≠ .events) : part sp (retentionEntry m s) = part sp s := by
  unfold retentionEntry
  split <;> simp [*]
@[simp] theorem retentionCount_core (u : Nat) (i : Nat) (s : State) : coreView (retentionCount u i s) = coreView s := by
  unfold retentionCount
  split <;> simp
@[simp] theorem retentionCount_fuses (u : Nat) (i : Nat) (s : State) : fuseView (retentionCount u i s) = fuseView s := fuses_of_core (retentionCount_core u i s)
@[simp] theorem retentionCount_memOk (u : Nat) (i : Nat) (s : State) : MemOk (retentionCount u i s) ↔ MemOk s := memOk_of_core (retentionCount_core u i s)
@[simp] theorem retentionCount_part (u : Nat) (i : Nat) (s : State) {sp : StatePart} (g_mems : sp ≠ .mems) : part sp (retentionCount u i s) = part sp s := by
  unfold retentionCount
  split <;> simp [*]
@[simp] theorem lostEvent_core (u : Nat) (s : State) : coreView (lostEvent u s) = coreView s := by
  unfold lostEvent
  simp [core_ite]
@[simp] theorem lostEvent_fuses (u : Nat) (s : State) : fuseView (lostEvent u s) = fuseView s := fuses_of_core (lostEvent_core u s)
@[simp] theorem lostEvent_memOk (u : Nat) (s : State) : MemOk (lostEvent u s) ↔ MemOk s := memOk_of_core (lostEvent_core u s)
@[simp] theorem lostEvent_part (u : Nat) (s : State) {sp : StatePart} (g_braid : sp ≠ .braid) (g_mems : sp ≠ .mems) (g_events : sp ≠ .events) : part sp (lostEvent u s) = part sp s := by
  unfold lostEvent
  simp [part_ite, *]
@[simp] theorem unitAwake_core (u : Nat) (s : State) : coreView (unitAwake u s) = coreView s := by
  unfold unitAwake
  simp
@[simp] theorem unitAwake_fuses (u : Nat) (s : State) : fuseView (unitAwake u s) = fuseView s := fuses_of_core (unitAwake_core u s)
@[simp] theorem unitAwake_memOk (u : Nat) (s : State) : MemOk (unitAwake u s) ↔ MemOk s := memOk_of_core (unitAwake_core u s)
@[simp] theorem unitAwake_part (u : Nat) (s : State) {sp : StatePart} (g_braid : sp ≠ .braid) (g_mems : sp ≠ .mems) (g_events : sp ≠ .events) : part sp (unitAwake u s) = part sp s := by
  unfold unitAwake
  simp [*]
@[simp] theorem memoryWake_core (m : MemUnit) (s : State) : coreView (memoryWake m s) = coreView s := by
  unfold memoryWake
  repeat' split
  all_goals simp [*]
@[simp] theorem memoryWake_fuses (m : MemUnit) (s : State) : fuseView (memoryWake m s) = fuseView s := fuses_of_core (memoryWake_core m s)
@[simp] theorem memoryWake_memOk (m : MemUnit) (s : State) : MemOk (memoryWake m s) ↔ MemOk s := memOk_of_core (memoryWake_core m s)
@[simp] theorem memoryWake_part (m : MemUnit) (s : State) {sp : StatePart} (g_braid : sp ≠ .braid) (g_mems : sp ≠ .mems) (g_events : sp ≠ .events) : part sp (memoryWake m s) = part sp s := by
  unfold memoryWake
  repeat' split
  all_goals simp [*]
@[simp] theorem domainWaits_core (s : State) : coreView (domainWaits s) = coreView s := by
  rfl
@[simp] theorem domainWaits_fuses (s : State) : fuseView (domainWaits s) = fuseView s := fuses_of_core (domainWaits_core s)
@[simp] theorem domainWaits_memOk (s : State) : MemOk (domainWaits s) ↔ MemOk s := memOk_of_core (domainWaits_core s)
@[simp] theorem domainWaits_part (s : State) {sp : StatePart} (g_ferry : sp ≠ .ferry) : part sp (domainWaits s) = part sp s := by
  cases sp <;> first | rfl | contradiction
@[simp] theorem memoryInitDone_fuses (m : MemUnit) (s : State) : fuseView (memoryInitDone m s) = fuseView s := by
  unfold memoryInitDone
  dsimp only
  repeat' split
  all_goals simp [*]
@[simp] theorem memoryInitDone_memOk (m : MemUnit) (s : State) (h : MemOk s) : MemOk (memoryInitDone m s) := by
  unfold memoryInitDone
  dsimp only
  repeat' split
  all_goals simp [*]
@[simp] theorem memoryInitDone_part (m : MemUnit) (s : State) {sp : StatePart} (g_braid : sp ≠ .braid) (g_ferry : sp ≠ .ferry) (g_mems : sp ≠ .mems) : part sp (memoryInitDone m s) = part sp s := by
  unfold memoryInitDone
  dsimp only
  repeat' split
  all_goals simp [*]

end Sys2Proof.Machine
end

