-- ==== Sys2Proof/Laws/FrameFabric.lean ====
section
/-! SUPPORT. Frame lemmas of the keys, the reaches, the gates and Backwater: which parts of the state each function leaves alone, which leave the fuses and the bytes of memory alone, and that the others keep memory in its canonical form. -/

set_option linter.all false

namespace Sys2Proof.Machine
open Sys2Proof

@[simp] theorem setSlot_core (k : Nat) (v : KeySlot) (s : State) : coreView (setSlot k v s) = coreView s := by
  rfl
@[simp] theorem setSlot_fuses (k : Nat) (v : KeySlot) (s : State) : fuseView (setSlot k v s) = fuseView s := fuses_of_core (setSlot_core k v s)
@[simp] theorem setSlot_memOk (k : Nat) (v : KeySlot) (s : State) : MemOk (setSlot k v s) ↔ MemOk s := memOk_of_core (setSlot_core k v s)
@[simp] theorem setSlot_part (k : Nat) (v : KeySlot) (s : State) {sp : StatePart} (g_crypto : sp ≠ .crypto) : part sp (setSlot k v s) = part sp s := by
  cases sp <;> first | rfl | contradiction
@[simp] theorem keyEv_core (kid : Nat) (cause : Nat) (s : State) : coreView (keyEv kid cause s) = coreView s := by
  unfold keyEv
  simp
@[simp] theorem keyEv_fuses (kid : Nat) (cause : Nat) (s : State) : fuseView (keyEv kid cause s) = fuseView s := fuses_of_core (keyEv_core kid cause s)
@[simp] theorem keyEv_memOk (kid : Nat) (cause : Nat) (s : State) : MemOk (keyEv kid cause s) ↔ MemOk s := memOk_of_core (keyEv_core kid cause s)
@[simp] theorem keyEv_part (kid : Nat) (cause : Nat) (s : State) {sp : StatePart} (g_braid : sp ≠ .braid) (g_events : sp ≠ .events) : part sp (keyEv kid cause s) = part sp s := by
  unfold keyEv
  simp [*]
@[simp] theorem mirrorKey_core (m : MirrorItem) (s : State) : coreView (mirrorKey m s) = coreView s := by
  unfold mirrorKey
  simp
@[simp] theorem mirrorKey_fuses (m : MirrorItem) (s : State) : fuseView (mirrorKey m s) = fuseView s := fuses_of_core (mirrorKey_core m s)
@[simp] theorem mirrorKey_memOk (m : MirrorItem) (s : State) : MemOk (mirrorKey m s) ↔ MemOk s := memOk_of_core (mirrorKey_core m s)
@[simp] theorem mirrorKey_part (m : MirrorItem) (s : State) {sp : StatePart} (g_twin : sp ≠ .twin) : part sp (mirrorKey m s) = part sp s := by
  unfold mirrorKey
  simp [*]
@[simp] theorem keyInstallBody_core (v : Serving) (s : State) : coreView (keyInstallBody v s).2 = coreView s := by
  unfold keyInstallBody
  dsimp only
  repeat' split
  all_goals first | (simp [*]; done) | (rename_i h; simp [*, wakeFor_core h]; done) | (rename_i h _; simp [*, wakeFor_core h]; done) | (rename_i h _ _; simp [*, wakeFor_core h]; done) | (rename_i h _ _ _; simp [*, wakeFor_core h]; done) | (rename_i h _ _ _ _; simp [*, wakeFor_core h]; done) | (rename_i h _ _ _ _ _; simp [*, wakeFor_core h]; done) | (rename_i h _ _ _ _ _ _; simp [*, wakeFor_core h]; done) | (rename_i h _ _ _ _ _ _ _; simp [*, wakeFor_core h]; done) | (rename_i h _ _ _ _ _ _ _ _; simp [*, wakeFor_core h]; done) | rfl
@[simp] theorem keyInstallBody_fuses (v : Serving) (s : State) : fuseView (keyInstallBody v s).2 = fuseView s := fuses_of_core (keyInstallBody_core v s)
@[simp] theorem keyInstallBody_memOk (v : Serving) (s : State) : MemOk (keyInstallBody v s).2 ↔ MemOk s := memOk_of_core (keyInstallBody_core v s)
@[simp] theorem keyInstallBody_part (v : Serving) (s : State) {sp : StatePart} (g_braid : sp ≠ .braid) (g_ferry : sp ≠ .ferry) (g_lanes : sp ≠ .lanes) (g_delta : sp ≠ .delta) (g_twin : sp ≠ .twin) (g_eng : sp ≠ .eng) (g_dram : sp ≠ .dram) (g_mems : sp ≠ .mems) (g_crypto : sp ≠ .crypto) (g_fabric : sp ≠ .fabric) (g_power : sp ≠ .power) (g_events : sp ≠ .events) : part sp (keyInstallBody v s).2 = part sp s := by
  unfold keyInstallBody
  dsimp only
  repeat' split
  all_goals first | (simp [*]; done) | (rename_i h; simp [*, wakeFor_part h]; done) | (rename_i h _; simp [*, wakeFor_part h]; done) | (rename_i h _ _; simp [*, wakeFor_part h]; done) | (rename_i h _ _ _; simp [*, wakeFor_part h]; done) | (rename_i h _ _ _ _; simp [*, wakeFor_part h]; done) | (rename_i h _ _ _ _ _; simp [*, wakeFor_part h]; done) | (rename_i h _ _ _ _ _ _; simp [*, wakeFor_part h]; done) | (rename_i h _ _ _ _ _ _ _; simp [*, wakeFor_part h]; done) | (rename_i h _ _ _ _ _ _ _ _; simp [*, wakeFor_part h]; done) | (simp [*]; cases sp <;> first | rfl | contradiction) | (cases sp <;> first | rfl | contradiction)
@[simp] theorem keyInstall_core (s : State) : coreView (keyInstall s) = coreView s := by
  unfold keyInstall
  simp
@[simp] theorem keyInstall_fuses (s : State) : fuseView (keyInstall s) = fuseView s := fuses_of_core (keyInstall_core s)
@[simp] theorem keyInstall_memOk (s : State) : MemOk (keyInstall s) ↔ MemOk s := memOk_of_core (keyInstall_core s)
@[simp] theorem keyInstall_part (s : State) {sp : StatePart} (g_braid : sp ≠ .braid) (g_ferry : sp ≠ .ferry) (g_lanes : sp ≠ .lanes) (g_delta : sp ≠ .delta) (g_twin : sp ≠ .twin) (g_eng : sp ≠ .eng) (g_dram : sp ≠ .dram) (g_mems : sp ≠ .mems) (g_crypto : sp ≠ .crypto) (g_fabric : sp ≠ .fabric) (g_power : sp ≠ .power) (g_events : sp ≠ .events) : part sp (keyInstall s) = part sp s := by
  unfold keyInstall
  simp [*]
@[simp] theorem sendChannel_core (c : Nat) (n : Nat) (op : CounterOp) (s : State) : coreView (sendChannel c n op s) = coreView s := by
  rfl
@[simp] theorem sendChannel_fuses (c : Nat) (n : Nat) (op : CounterOp) (s : State) : fuseView (sendChannel c n op s) = fuseView s := fuses_of_core (sendChannel_core c n op s)
@[simp] theorem sendChannel_memOk (c : Nat) (n : Nat) (op : CounterOp) (s : State) : MemOk (sendChannel c n op s) ↔ MemOk s := memOk_of_core (sendChannel_core c n op s)
@[simp] theorem sendChannel_part (c : Nat) (n : Nat) (op : CounterOp) (s : State) {sp : StatePart} (g_braid : sp ≠ .braid) : part sp (sendChannel c n op s) = part sp s := by
  cases sp <;> first | rfl | contradiction
@[simp] theorem cacheDrop_core (e : Nat × Nat) (s : State) : coreView (cacheDrop e s) = coreView s := by
  unfold cacheDrop
  split <;> simp
@[simp] theorem cacheDrop_fuses (e : Nat × Nat) (s : State) : fuseView (cacheDrop e s) = fuseView s := fuses_of_core (cacheDrop_core e s)
@[simp] theorem cacheDrop_memOk (e : Nat × Nat) (s : State) : MemOk (cacheDrop e s) ↔ MemOk s := memOk_of_core (cacheDrop_core e s)
@[simp] theorem cacheDrop_part (e : Nat × Nat) (s : State) {sp : StatePart} (g_braid : sp ≠ .braid) (g_crypto : sp ≠ .crypto) : part sp (cacheDrop e s) = part sp s := by
  unfold cacheDrop
  split <;> simp [*]
@[simp] theorem cachePut_core (c : Nat) (n : Nat) (value : Nat) (dirty : Bool) (s : State) : coreView (cachePut c n value dirty s) = coreView s := by
  unfold cachePut
  dsimp only
  repeat' split
  all_goals simp [*]
@[simp] theorem cachePut_fuses (c : Nat) (n : Nat) (value : Nat) (dirty : Bool) (s : State) : fuseView (cachePut c n value dirty s) = fuseView s := fuses_of_core (cachePut_core c n value dirty s)
@[simp] theorem cachePut_memOk (c : Nat) (n : Nat) (value : Nat) (dirty : Bool) (s : State) : MemOk (cachePut c n value dirty s) ↔ MemOk s := memOk_of_core (cachePut_core c n value dirty s)
@[simp] theorem cachePut_part (c : Nat) (n : Nat) (value : Nat) (dirty : Bool) (s : State) {sp : StatePart} (g_braid : sp ≠ .braid) (g_crypto : sp ≠ .crypto) : part sp (cachePut c n value dirty s) = part sp s := by
  unfold cachePut
  dsimp only
  repeat' split
  all_goals simp [*]
@[simp] theorem counterRise_core (c : Nat) (n : Nat) (s : State) : coreView (counterRise c n s) = coreView s := by
  unfold counterRise
  split <;> simp
@[simp] theorem counterRise_fuses (c : Nat) (n : Nat) (s : State) : fuseView (counterRise c n s) = fuseView s := fuses_of_core (counterRise_core c n s)
@[simp] theorem counterRise_memOk (c : Nat) (n : Nat) (s : State) : MemOk (counterRise c n s) ↔ MemOk s := memOk_of_core (counterRise_core c n s)
@[simp] theorem counterRise_part (c : Nat) (n : Nat) (s : State) {sp : StatePart} (g_braid : sp ≠ .braid) (g_crypto : sp ≠ .crypto) : part sp (counterRise c n s) = part sp s := by
  unfold counterRise
  split <;> simp [*]
@[simp] theorem writeBackPage_core (c : Nat) (page : Nat) (s : State) : coreView (writeBackPage c page s) = coreView s := by
  unfold writeBackPage
  split <;> simp
@[simp] theorem writeBackPage_fuses (c : Nat) (page : Nat) (s : State) : fuseView (writeBackPage c page s) = fuseView s := fuses_of_core (writeBackPage_core c page s)
@[simp] theorem writeBackPage_memOk (c : Nat) (page : Nat) (s : State) : MemOk (writeBackPage c page s) ↔ MemOk s := memOk_of_core (writeBackPage_core c page s)
@[simp] theorem writeBackPage_part (c : Nat) (page : Nat) (s : State) {sp : StatePart} (g_braid : sp ≠ .braid) (g_dram : sp ≠ .dram) : part sp (writeBackPage c page s) = part sp s := by
  unfold writeBackPage
  split <;> simp [*]
@[simp] theorem writeBackKey_core (key : List Byte) (s : State) : coreView (writeBackKey key s) = coreView s := by
  unfold writeBackKey
  simp [core_ite]
@[simp] theorem writeBackKey_fuses (key : List Byte) (s : State) : fuseView (writeBackKey key s) = fuseView s := fuses_of_core (writeBackKey_core key s)
@[simp] theorem writeBackKey_memOk (key : List Byte) (s : State) : MemOk (writeBackKey key s) ↔ MemOk s := memOk_of_core (writeBackKey_core key s)
@[simp] theorem writeBackKey_part (key : List Byte) (s : State) {sp : StatePart} (g_braid : sp ≠ .braid) (g_dram : sp ≠ .dram) (g_crypto : sp ≠ .crypto) : part sp (writeBackKey key s) = part sp s := by
  unfold writeBackKey
  dsimp only
  refine (forAll_part _ _ _ (fun t x => ?_)).trans (forAll_part _ _ _ (fun t x => forAll_part _ _ _ (fun u y => by simp [*])))
  split <;> simp [*]
@[simp] theorem keyRetireBody_core (v : Serving) (s : State) : coreView (keyRetireBody v s).2 = coreView s := by
  unfold keyRetireBody
  dsimp only
  repeat' split
  all_goals simp [*]
@[simp] theorem keyRetireBody_fuses (v : Serving) (s : State) : fuseView (keyRetireBody v s).2 = fuseView s := fuses_of_core (keyRetireBody_core v s)
@[simp] theorem keyRetireBody_memOk (v : Serving) (s : State) : MemOk (keyRetireBody v s).2 ↔ MemOk s := memOk_of_core (keyRetireBody_core v s)
@[simp] theorem keyRetireBody_part (v : Serving) (s : State) {sp : StatePart} (g_braid : sp ≠ .braid) (g_ferry : sp ≠ .ferry) (g_dram : sp ≠ .dram) (g_crypto : sp ≠ .crypto) : part sp (keyRetireBody v s).2 = part sp s := by
  unfold keyRetireBody
  dsimp only
  repeat' split
  all_goals simp [*]
@[simp] theorem keyRetire_core (s : State) : coreView (keyRetire s) = coreView s := by
  unfold keyRetire
  simp
@[simp] theorem keyRetire_fuses (s : State) : fuseView (keyRetire s) = fuseView s := fuses_of_core (keyRetire_core s)
@[simp] theorem keyRetire_memOk (s : State) : MemOk (keyRetire s) ↔ MemOk s := memOk_of_core (keyRetire_core s)
@[simp] theorem keyRetire_part (s : State) {sp : StatePart} (g_braid : sp ≠ .braid) (g_ferry : sp ≠ .ferry) (g_dram : sp ≠ .dram) (g_crypto : sp ≠ .crypto) : part sp (keyRetire s) = part sp s := by
  unfold keyRetire
  simp [*]
@[simp] theorem keyRetireDone_core (k : Nat) (s : State) : coreView (keyRetireDone k s) = coreView s := by
  unfold keyRetireDone
  simp [core_ite]
@[simp] theorem keyRetireDone_fuses (k : Nat) (s : State) : fuseView (keyRetireDone k s) = fuseView s := fuses_of_core (keyRetireDone_core k s)
@[simp] theorem keyRetireDone_memOk (k : Nat) (s : State) : MemOk (keyRetireDone k s) ↔ MemOk s := memOk_of_core (keyRetireDone_core k s)
@[simp] theorem keyRetireDone_part (k : Nat) (s : State) {sp : StatePart} (g_braid : sp ≠ .braid) (g_ferry : sp ≠ .ferry) (g_twin : sp ≠ .twin) (g_dram : sp ≠ .dram) (g_crypto : sp ≠ .crypto) (g_debug : sp ≠ .debug) (g_events : sp ≠ .events) : part sp (keyRetireDone k s) = part sp s := by
  unfold keyRetireDone
  simp [part_ite, *]
@[simp] theorem tideStartBody_core (v : Serving) (s : State) : coreView (tideStartBody v s).2 = coreView s := by
  unfold tideStartBody
  dsimp only
  repeat' split
  all_goals simp [*]
@[simp] theorem tideStartBody_fuses (v : Serving) (s : State) : fuseView (tideStartBody v s).2 = fuseView s := fuses_of_core (tideStartBody_core v s)
@[simp] theorem tideStartBody_memOk (v : Serving) (s : State) : MemOk (tideStartBody v s).2 ↔ MemOk s := memOk_of_core (tideStartBody_core v s)
@[simp] theorem tideStartBody_part (v : Serving) (s : State) {sp : StatePart} (g_ferry : sp ≠ .ferry) (g_dram : sp ≠ .dram) (g_crypto : sp ≠ .crypto) : part sp (tideStartBody v s).2 = part sp s := by
  unfold tideStartBody
  dsimp only
  repeat' split
  all_goals simp [*]
@[simp] theorem tidelineStart_core (s : State) : coreView (tidelineStart s) = coreView s := by
  unfold tidelineStart
  simp
@[simp] theorem tidelineStart_fuses (s : State) : fuseView (tidelineStart s) = fuseView s := fuses_of_core (tidelineStart_core s)
@[simp] theorem tidelineStart_memOk (s : State) : MemOk (tidelineStart s) ↔ MemOk s := memOk_of_core (tidelineStart_core s)
@[simp] theorem tidelineStart_part (s : State) {sp : StatePart} (g_ferry : sp ≠ .ferry) (g_dram : sp ≠ .dram) (g_crypto : sp ≠ .crypto) : part sp (tidelineStart s) = part sp s := by
  unfold tidelineStart
  simp [*]
@[simp] theorem tideStatusBody_core (v : Serving) (s : State) : coreView (tideStatusBody v s).2 = coreView s := by
  unfold tideStatusBody
  dsimp only
  repeat' split
  all_goals simp [*]
@[simp] theorem tideStatusBody_fuses (v : Serving) (s : State) : fuseView (tideStatusBody v s).2 = fuseView s := fuses_of_core (tideStatusBody_core v s)
@[simp] theorem tideStatusBody_memOk (v : Serving) (s : State) : MemOk (tideStatusBody v s).2 ↔ MemOk s := memOk_of_core (tideStatusBody_core v s)
@[simp] theorem tideStatusBody_part (v : Serving) (s : State) {sp : StatePart} (g_crypto : sp ≠ .crypto) : part sp (tideStatusBody v s).2 = part sp s := by
  unfold tideStatusBody
  dsimp only
  repeat' split
  all_goals simp [*]
@[simp] theorem tidelineStatus_core (s : State) : coreView (tidelineStatus s) = coreView s := by
  unfold tidelineStatus
  simp
@[simp] theorem tidelineStatus_fuses (s : State) : fuseView (tidelineStatus s) = fuseView s := fuses_of_core (tidelineStatus_core s)
@[simp] theorem tidelineStatus_memOk (s : State) : MemOk (tidelineStatus s) ↔ MemOk s := memOk_of_core (tidelineStatus_core s)
@[simp] theorem tidelineStatus_part (s : State) {sp : StatePart} (g_ferry : sp ≠ .ferry) (g_crypto : sp ≠ .crypto) : part sp (tidelineStatus s) = part sp s := by
  unfold tidelineStatus
  simp [*]
@[simp] theorem tideEv_core (i : Nat) (cause : Nat) (sev : Nat) (s : State) : coreView (tideEv i cause sev s) = coreView s := by
  unfold tideEv
  simp
@[simp] theorem tideEv_fuses (i : Nat) (cause : Nat) (sev : Nat) (s : State) : fuseView (tideEv i cause sev s) = fuseView s := fuses_of_core (tideEv_core i cause sev s)
@[simp] theorem tideEv_memOk (i : Nat) (cause : Nat) (sev : Nat) (s : State) : MemOk (tideEv i cause sev s) ↔ MemOk s := memOk_of_core (tideEv_core i cause sev s)
@[simp] theorem tideEv_part (i : Nat) (cause : Nat) (sev : Nat) (s : State) {sp : StatePart} (g_braid : sp ≠ .braid) (g_events : sp ≠ .events) : part sp (tideEv i cause sev s) = part sp s := by
  unfold tideEv
  simp [*]
@[simp] theorem tideAnswer_core (i : Nat) (c : Completion) (s : State) : coreView (tideAnswer i c s) = coreView s := by
  unfold tideAnswer
  simp [core_ite]
@[simp] theorem tideAnswer_fuses (i : Nat) (c : Completion) (s : State) : fuseView (tideAnswer i c s) = fuseView s := fuses_of_core (tideAnswer_core i c s)
@[simp] theorem tideAnswer_memOk (i : Nat) (c : Completion) (s : State) : MemOk (tideAnswer i c s) ↔ MemOk s := memOk_of_core (tideAnswer_core i c s)
@[simp] theorem tideAnswer_part (i : Nat) (c : Completion) (s : State) {sp : StatePart} (g_braid : sp ≠ .braid) (g_crypto : sp ≠ .crypto) (g_events : sp ≠ .events) : part sp (tideAnswer i c s) = part sp s := by
  unfold tideAnswer
  simp [part_ite, *]
@[simp] theorem tideAbsorb_core (i : Nat) (s : State) : coreView (tideAbsorb i s) = coreView s := by
  unfold tideAbsorb
  dsimp only
  repeat' split
  all_goals simp [*]
@[simp] theorem tideAbsorb_fuses (i : Nat) (s : State) : fuseView (tideAbsorb i s) = fuseView s := fuses_of_core (tideAbsorb_core i s)
@[simp] theorem tideAbsorb_memOk (i : Nat) (s : State) : MemOk (tideAbsorb i s) ↔ MemOk s := memOk_of_core (tideAbsorb_core i s)
@[simp] theorem tideAbsorb_part (i : Nat) (s : State) {sp : StatePart} (g_braid : sp ≠ .braid) (g_crypto : sp ≠ .crypto) (g_events : sp ≠ .events) : part sp (tideAbsorb i s) = part sp s := by
  unfold tideAbsorb
  dsimp only
  repeat' split
  all_goals simp [*]
@[simp] theorem tidelineLine_core (i : Nat) (s : State) : coreView (tidelineLine i s) = coreView s := by
  unfold tidelineLine
  simp [core_ite]
@[simp] theorem tidelineLine_fuses (i : Nat) (s : State) : fuseView (tidelineLine i s) = fuseView s := fuses_of_core (tidelineLine_core i s)
@[simp] theorem tidelineLine_memOk (i : Nat) (s : State) : MemOk (tidelineLine i s) ↔ MemOk s := memOk_of_core (tidelineLine_core i s)
@[simp] theorem tidelineLine_part (i : Nat) (s : State) {sp : StatePart} (g_braid : sp ≠ .braid) (g_ferry : sp ≠ .ferry) (g_twin : sp ≠ .twin) (g_eng : sp ≠ .eng) (g_crypto : sp ≠ .crypto) (g_debug : sp ≠ .debug) (g_events : sp ≠ .events) : part sp (tidelineLine i s) = part sp s := by
  unfold tidelineLine
  simp [part_ite, *]
@[simp] theorem clearCounters_core (s : State) : coreView (clearCounters s) = coreView s := by
  unfold clearCounters
  simp
@[simp] theorem clearCounters_fuses (s : State) : fuseView (clearCounters s) = fuseView s := fuses_of_core (clearCounters_core s)
@[simp] theorem clearCounters_memOk (s : State) : MemOk (clearCounters s) ↔ MemOk s := memOk_of_core (clearCounters_core s)
@[simp] theorem clearCounters_part (s : State) {sp : StatePart} (g_dram : sp ≠ .dram) (g_crypto : sp ≠ .crypto) : part sp (clearCounters s) = part sp s := by
  unfold clearCounters
  simp [*]
@[simp] theorem sealWindowBody_core (v : Serving) (s : State) : coreView (sealWindowBody v s).2 = coreView s := by
  unfold sealWindowBody
  dsimp only
  repeat' split
  all_goals first | (simp [*]; done) | (rename_i h; simp [*, wakeFor_core h]; done) | (rename_i h _; simp [*, wakeFor_core h]; done) | (rename_i h _ _; simp [*, wakeFor_core h]; done) | (rename_i h _ _ _; simp [*, wakeFor_core h]; done) | (rename_i h _ _ _ _; simp [*, wakeFor_core h]; done) | (rename_i h _ _ _ _ _; simp [*, wakeFor_core h]; done) | (rename_i h _ _ _ _ _ _; simp [*, wakeFor_core h]; done) | (rename_i h _ _ _ _ _ _ _; simp [*, wakeFor_core h]; done) | (rename_i h _ _ _ _ _ _ _ _; simp [*, wakeFor_core h]; done) | rfl
@[simp] theorem sealWindowBody_fuses (v : Serving) (s : State) : fuseView (sealWindowBody v s).2 = fuseView s := fuses_of_core (sealWindowBody_core v s)
@[simp] theorem sealWindowBody_memOk (v : Serving) (s : State) : MemOk (sealWindowBody v s).2 ↔ MemOk s := memOk_of_core (sealWindowBody_core v s)
@[simp] theorem sealWindowBody_part (v : Serving) (s : State) {sp : StatePart} (g_freeCtr : sp ≠ .freeCtr) (g_braid : sp ≠ .braid) (g_ferry : sp ≠ .ferry) (g_lanes : sp ≠ .lanes) (g_delta : sp ≠ .delta) (g_eng : sp ≠ .eng) (g_dram : sp ≠ .dram) (g_mems : sp ≠ .mems) (g_crypto : sp ≠ .crypto) (g_fabric : sp ≠ .fabric) (g_power : sp ≠ .power) : part sp (sealWindowBody v s).2 = part sp s := by
  unfold sealWindowBody
  dsimp only
  repeat' split
  all_goals first | (simp [*]; done) | (rename_i h; simp [*, wakeFor_part h]; done) | (rename_i h _; simp [*, wakeFor_part h]; done) | (rename_i h _ _; simp [*, wakeFor_part h]; done) | (rename_i h _ _ _; simp [*, wakeFor_part h]; done) | (rename_i h _ _ _ _; simp [*, wakeFor_part h]; done) | (rename_i h _ _ _ _ _; simp [*, wakeFor_part h]; done) | (rename_i h _ _ _ _ _ _; simp [*, wakeFor_part h]; done) | (rename_i h _ _ _ _ _ _ _; simp [*, wakeFor_part h]; done) | (rename_i h _ _ _ _ _ _ _ _; simp [*, wakeFor_part h]; done) | (simp [*]; cases sp <;> first | rfl | contradiction) | (cases sp <;> first | rfl | contradiction)
@[simp] theorem sealWindow_core (s : State) : coreView (sealWindow s) = coreView s := by
  unfold sealWindow
  simp
@[simp] theorem sealWindow_fuses (s : State) : fuseView (sealWindow s) = fuseView s := fuses_of_core (sealWindow_core s)
@[simp] theorem sealWindow_memOk (s : State) : MemOk (sealWindow s) ↔ MemOk s := memOk_of_core (sealWindow_core s)
@[simp] theorem sealWindow_part (s : State) {sp : StatePart} (g_freeCtr : sp ≠ .freeCtr) (g_braid : sp ≠ .braid) (g_ferry : sp ≠ .ferry) (g_lanes : sp ≠ .lanes) (g_delta : sp ≠ .delta) (g_eng : sp ≠ .eng) (g_dram : sp ≠ .dram) (g_mems : sp ≠ .mems) (g_crypto : sp ≠ .crypto) (g_fabric : sp ≠ .fabric) (g_power : sp ≠ .power) : part sp (sealWindow s) = part sp s := by
  unfold sealWindow
  simp [*]
@[simp] theorem sealInitDone_core (s : State) : coreView (sealInitDone s) = coreView s := by
  unfold sealInitDone
  split <;> simp
@[simp] theorem sealInitDone_fuses (s : State) : fuseView (sealInitDone s) = fuseView s := fuses_of_core (sealInitDone_core s)
@[simp] theorem sealInitDone_memOk (s : State) : MemOk (sealInitDone s) ↔ MemOk s := memOk_of_core (sealInitDone_core s)
@[simp] theorem sealInitDone_part (s : State) {sp : StatePart} (g_braid : sp ≠ .braid) (g_ferry : sp ≠ .ferry) (g_twin : sp ≠ .twin) (g_crypto : sp ≠ .crypto) (g_debug : sp ≠ .debug) (g_events : sp ≠ .events) : part sp (sealInitDone s) = part sp s := by
  unfold sealInitDone
  split <;> simp [*]
@[simp] theorem bufferPage_core (c : Nat) (page : Nat) (s : State) : coreView (bufferPage c page s) = coreView s := by
  unfold bufferPage
  repeat' split
  all_goals simp [*]
@[simp] theorem bufferPage_fuses (c : Nat) (page : Nat) (s : State) : fuseView (bufferPage c page s) = fuseView s := fuses_of_core (bufferPage_core c page s)
@[simp] theorem bufferPage_memOk (c : Nat) (page : Nat) (s : State) : MemOk (bufferPage c page s) ↔ MemOk s := memOk_of_core (bufferPage_core c page s)
@[simp] theorem bufferPage_part (c : Nat) (page : Nat) (s : State) {sp : StatePart} (g_braid : sp ≠ .braid) (g_dram : sp ≠ .dram) : part sp (bufferPage c page s) = part sp s := by
  unfold bufferPage
  repeat' split
  all_goals simp [*]
@[simp] theorem counterFails_core (c : Nat) (n : Nat) (f : CounterFault) (s : State) : coreView (counterFails c n f s) = coreView s := by
  unfold counterFails
  split <;> simp
@[simp] theorem counterFails_fuses (c : Nat) (n : Nat) (f : CounterFault) (s : State) : fuseView (counterFails c n f s) = fuseView s := fuses_of_core (counterFails_core c n f s)
@[simp] theorem counterFails_memOk (c : Nat) (n : Nat) (f : CounterFault) (s : State) : MemOk (counterFails c n f s) ↔ MemOk s := memOk_of_core (counterFails_core c n f s)
@[simp] theorem counterFails_part (c : Nat) (n : Nat) (f : CounterFault) (s : State) {sp : StatePart} (g_braid : sp ≠ .braid) (g_dram : sp ≠ .dram) (g_crypto : sp ≠ .crypto) (g_events : sp ≠ .events) : part sp (counterFails c n f s) = part sp s := by
  unfold counterFails
  split <;> simp [*]
@[simp] theorem cacheUp_core (c : Nat) (n : Nat) (fuel : Nat) (s : State) : coreView (cacheUp c n fuel s) = coreView s := by
  induction fuel generalizing s n with
  | zero => rfl
  | succ f ih =>
    unfold cacheUp
    dsimp only
    repeat' split
    all_goals first | rfl | simp [ih]
@[simp] theorem cacheUp_fuses (c : Nat) (n : Nat) (fuel : Nat) (s : State) : fuseView (cacheUp c n fuel s) = fuseView s := fuses_of_core (cacheUp_core c n fuel s)
@[simp] theorem cacheUp_memOk (c : Nat) (n : Nat) (fuel : Nat) (s : State) : MemOk (cacheUp c n fuel s) ↔ MemOk s := memOk_of_core (cacheUp_core c n fuel s)
@[simp] theorem cacheUp_part (c : Nat) (n : Nat) (fuel : Nat) (s : State) {sp : StatePart} (g_braid : sp ≠ .braid) (g_crypto : sp ≠ .crypto) : part sp (cacheUp c n fuel s) = part sp s := by
  induction fuel generalizing s n with
  | zero => rfl
  | succ f ih =>
    unfold cacheUp
    dsimp only
    repeat' split
    all_goals first | rfl | simp [ih, *]
@[simp] theorem counterServe_core (c : Nat) (m : Nat) (op : CounterOp) (s : State) : coreView (counterServe c m op s) = coreView s := by
  unfold counterServe
  dsimp only
  repeat' split
  all_goals simp [*]
@[simp] theorem counterServe_fuses (c : Nat) (m : Nat) (op : CounterOp) (s : State) : fuseView (counterServe c m op s) = fuseView s := fuses_of_core (counterServe_core c m op s)
@[simp] theorem counterServe_memOk (c : Nat) (m : Nat) (op : CounterOp) (s : State) : MemOk (counterServe c m op s) ↔ MemOk s := memOk_of_core (counterServe_core c m op s)
@[simp] theorem counterServe_part (c : Nat) (m : Nat) (op : CounterOp) (s : State) {sp : StatePart} (g_braid : sp ≠ .braid) (g_dram : sp ≠ .dram) (g_crypto : sp ≠ .crypto) : part sp (counterServe c m op s) = part sp s := by
  unfold counterServe
  dsimp only
  repeat' split
  all_goals simp [*]
@[simp] theorem useManager_core (op : CounterOp) (s : State) : coreView (useManager op s) = coreView s := by
  unfold useManager
  split <;> simp
@[simp] theorem useManager_fuses (op : CounterOp) (s : State) : fuseView (useManager op s) = fuseView s := fuses_of_core (useManager_core op s)
@[simp] theorem useManager_memOk (op : CounterOp) (s : State) : MemOk (useManager op s) ↔ MemOk s := memOk_of_core (useManager_core op s)
@[simp] theorem useManager_part (op : CounterOp) (s : State) {sp : StatePart} (g_crypto : sp ≠ .crypto) : part sp (useManager op s) = part sp s := by
  unfold useManager
  split <;> simp [*]
@[simp] theorem counterToken_core (c : Nat) (n : Nat) (op : CounterOp) (fault : CounterFault) (s : State) : coreView (counterToken c n op fault s) = coreView s := by
  unfold counterToken
  repeat' split
  all_goals simp [*]
@[simp] theorem counterToken_fuses (c : Nat) (n : Nat) (op : CounterOp) (fault : CounterFault) (s : State) : fuseView (counterToken c n op fault s) = fuseView s := fuses_of_core (counterToken_core c n op fault s)
@[simp] theorem counterToken_memOk (c : Nat) (n : Nat) (op : CounterOp) (fault : CounterFault) (s : State) : MemOk (counterToken c n op fault s) ↔ MemOk s := memOk_of_core (counterToken_core c n op fault s)
@[simp] theorem counterToken_part (c : Nat) (n : Nat) (op : CounterOp) (fault : CounterFault) (s : State) {sp : StatePart} (g_braid : sp ≠ .braid) (g_dram : sp ≠ .dram) (g_crypto : sp ≠ .crypto) (g_events : sp ≠ .events) : part sp (counterToken c n op fault s) = part sp s := by
  unfold counterToken
  repeat' split
  all_goals simp [*]
@[simp] theorem resealLine_fuses (c : Nat) (page : Nat) (kid : Nat) (i : Nat) (fresh : Bool) (s : State) : fuseView (resealLine c page kid i fresh s) = fuseView s := by
  unfold resealLine
  split <;> simp
@[simp] theorem resealLine_memOk (c : Nat) (page : Nat) (kid : Nat) (i : Nat) (fresh : Bool) (s : State) (h : MemOk s) : MemOk (resealLine c page kid i fresh s) := by
  unfold resealLine
  repeat' split
  all_goals simp [*]
@[simp] theorem resealLine_part (c : Nat) (page : Nat) (kid : Nat) (i : Nat) (fresh : Bool) (s : State) {sp : StatePart} (g_mems : sp ≠ .mems) : part sp (resealLine c page kid i fresh s) = part sp s := by
  unfold resealLine
  split <;> simp [*]
@[simp] theorem reseal_fuses (c : Nat) (page : Nat) (s : State) : fuseView (reseal c page s) = fuseView s := by
  unfold reseal
  dsimp only
  repeat' split
  all_goals simp [*]
@[simp] theorem reseal_memOk (c : Nat) (page : Nat) (s : State) (h : MemOk s) : MemOk (reseal c page s) := by
  unfold reseal
  dsimp only
  repeat' split
  · exact h
  · simpa using h
  · rw [raiseLimitedAt_memOk]
    exact (forAll_memOk _ _ _ (fun t x ht => by simp [ht]) (by simpa using h))
@[simp] theorem reseal_part (c : Nat) (page : Nat) (s : State) {sp : StatePart} (g_braid : sp ≠ .braid) (g_dram : sp ≠ .dram) (g_mems : sp ≠ .mems) (g_crypto : sp ≠ .crypto) (g_events : sp ≠ .events) : part sp (reseal c page s) = part sp s := by
  unfold reseal
  dsimp only
  repeat' split
  all_goals simp [*]
@[simp] theorem reinitPage_core (c : Nat) (page : Nat) (s : State) : coreView (reinitPage c page s) = coreView s := by
  unfold reinitPage
  simp
@[simp] theorem reinitPage_fuses (c : Nat) (page : Nat) (s : State) : fuseView (reinitPage c page s) = fuseView s := fuses_of_core (reinitPage_core c page s)
@[simp] theorem reinitPage_memOk (c : Nat) (page : Nat) (s : State) : MemOk (reinitPage c page s) ↔ MemOk s := memOk_of_core (reinitPage_core c page s)
@[simp] theorem reinitPage_part (c : Nat) (page : Nat) (s : State) {sp : StatePart} (g_dram : sp ≠ .dram) (g_mems : sp ≠ .mems) (g_crypto : sp ≠ .crypto) : part sp (reinitPage c page s) = part sp s := by
  unfold reinitPage
  simp [*]
@[simp] theorem subtreeReinit_core (c : Nat) (s : State) : coreView (subtreeReinit c s) = coreView s := by
  unfold subtreeReinit
  split <;> simp
@[simp] theorem subtreeReinit_fuses (c : Nat) (s : State) : fuseView (subtreeReinit c s) = fuseView s := fuses_of_core (subtreeReinit_core c s)
@[simp] theorem subtreeReinit_memOk (c : Nat) (s : State) : MemOk (subtreeReinit c s) ↔ MemOk s := memOk_of_core (subtreeReinit_core c s)
@[simp] theorem subtreeReinit_part (c : Nat) (s : State) {sp : StatePart} (g_braid : sp ≠ .braid) (g_dram : sp ≠ .dram) (g_mems : sp ≠ .mems) (g_crypto : sp ≠ .crypto) (g_events : sp ≠ .events) : part sp (subtreeReinit c s) = part sp s := by
  unfold subtreeReinit
  split <;> simp [*]
@[simp] theorem protectBody_core (v : Serving) (s : State) : coreView (protectBody v s).2 = coreView s := by
  unfold protectBody
  dsimp only
  repeat' split
  all_goals simp [*]
@[simp] theorem protectBody_fuses (v : Serving) (s : State) : fuseView (protectBody v s).2 = fuseView s := fuses_of_core (protectBody_core v s)
@[simp] theorem protectBody_memOk (v : Serving) (s : State) : MemOk (protectBody v s).2 ↔ MemOk s := memOk_of_core (protectBody_core v s)
@[simp] theorem protectBody_part (v : Serving) (s : State) {sp : StatePart} (g_crypto : sp ≠ .crypto) : part sp (protectBody v s).2 = part sp s := by
  unfold protectBody
  dsimp only
  repeat' split
  all_goals simp [*]
@[simp] theorem protectRange_core (s : State) : coreView (protectRange s) = coreView s := by
  unfold protectRange
  simp
@[simp] theorem protectRange_fuses (s : State) : fuseView (protectRange s) = fuseView s := fuses_of_core (protectRange_core s)
@[simp] theorem protectRange_memOk (s : State) : MemOk (protectRange s) ↔ MemOk s := memOk_of_core (protectRange_core s)
@[simp] theorem protectRange_part (s : State) {sp : StatePart} (g_ferry : sp ≠ .ferry) (g_crypto : sp ≠ .crypto) : part sp (protectRange s) = part sp s := by
  unfold protectRange
  simp [*]
@[simp] theorem linkInstall_core (v : Serving) (s : State) : coreView (linkInstall v s).2 = coreView s := by
  unfold linkInstall
  dsimp only
  repeat' split
  all_goals simp [*]
@[simp] theorem linkInstall_fuses (v : Serving) (s : State) : fuseView (linkInstall v s).2 = fuseView s := fuses_of_core (linkInstall_core v s)
@[simp] theorem linkInstall_memOk (v : Serving) (s : State) : MemOk (linkInstall v s).2 ↔ MemOk s := memOk_of_core (linkInstall_core v s)
@[simp] theorem linkInstall_part (v : Serving) (s : State) {sp : StatePart} (g_twin : sp ≠ .twin) (g_crypto : sp ≠ .crypto) : part sp (linkInstall v s).2 = part sp s := by
  unfold linkInstall
  dsimp only
  repeat' split
  all_goals simp [*]
@[simp] theorem linkSwitch_core (v : Serving) (s : State) : coreView (linkSwitch v s).2 = coreView s := by
  unfold linkSwitch
  dsimp only
  repeat' split
  all_goals simp [*]
@[simp] theorem linkSwitch_fuses (v : Serving) (s : State) : fuseView (linkSwitch v s).2 = fuseView s := fuses_of_core (linkSwitch_core v s)
@[simp] theorem linkSwitch_memOk (v : Serving) (s : State) : MemOk (linkSwitch v s).2 ↔ MemOk s := memOk_of_core (linkSwitch_core v s)
@[simp] theorem linkSwitch_part (v : Serving) (s : State) {sp : StatePart} (g_ferry : sp ≠ .ferry) (g_crypto : sp ≠ .crypto) : part sp (linkSwitch v s).2 = part sp s := by
  unfold linkSwitch
  dsimp only
  repeat' split
  all_goals simp [*]
@[simp] theorem linkKeyBody_core (v : Serving) (s : State) : coreView (linkKeyBody v s).2 = coreView s := by
  unfold linkKeyBody
  dsimp only
  repeat' split
  all_goals simp [*]
@[simp] theorem linkKeyBody_fuses (v : Serving) (s : State) : fuseView (linkKeyBody v s).2 = fuseView s := fuses_of_core (linkKeyBody_core v s)
@[simp] theorem linkKeyBody_memOk (v : Serving) (s : State) : MemOk (linkKeyBody v s).2 ↔ MemOk s := memOk_of_core (linkKeyBody_core v s)
@[simp] theorem linkKeyBody_part (v : Serving) (s : State) {sp : StatePart} (g_ferry : sp ≠ .ferry) (g_twin : sp ≠ .twin) (g_crypto : sp ≠ .crypto) : part sp (linkKeyBody v s).2 = part sp s := by
  unfold linkKeyBody
  dsimp only
  repeat' split
  all_goals simp [*]
@[simp] theorem linkKey_core (s : State) : coreView (linkKey s) = coreView s := by
  unfold linkKey
  simp
@[simp] theorem linkKey_fuses (s : State) : fuseView (linkKey s) = fuseView s := fuses_of_core (linkKey_core s)
@[simp] theorem linkKey_memOk (s : State) : MemOk (linkKey s) ↔ MemOk s := memOk_of_core (linkKey_core s)
@[simp] theorem linkKey_part (s : State) {sp : StatePart} (g_ferry : sp ≠ .ferry) (g_twin : sp ≠ .twin) (g_crypto : sp ≠ .crypto) : part sp (linkKey s) = part sp s := by
  unfold linkKey
  simp [*]
@[simp] theorem trip_core (k : Nat) (s : State) : coreView (trip k s) = coreView s := by
  rfl
@[simp] theorem trip_fuses (k : Nat) (s : State) : fuseView (trip k s) = fuseView s := fuses_of_core (trip_core k s)
@[simp] theorem trip_memOk (k : Nat) (s : State) : MemOk (trip k s) ↔ MemOk s := memOk_of_core (trip_core k s)
@[simp] theorem trip_part (k : Nat) (s : State) {sp : StatePart} (g_crypto : sp ≠ .crypto) : part sp (trip k s) = part sp s := by
  cases sp <;> first | rfl | contradiction
@[simp] theorem tamperFilter_core (input : Nat) (s : State) : coreView (tamperFilter input s) = coreView s := by
  unfold tamperFilter
  split <;> simp
@[simp] theorem tamperFilter_fuses (input : Nat) (s : State) : fuseView (tamperFilter input s) = fuseView s := fuses_of_core (tamperFilter_core input s)
@[simp] theorem tamperFilter_memOk (input : Nat) (s : State) : MemOk (tamperFilter input s) ↔ MemOk s := memOk_of_core (tamperFilter_core input s)
@[simp] theorem tamperFilter_part (input : Nat) (s : State) {sp : StatePart} (g_crypto : sp ≠ .crypto) (g_debug : sp ≠ .debug) : part sp (tamperFilter input s) = part sp s := by
  unfold tamperFilter
  split <;> simp [*]
@[simp] theorem tamperNRise_core (input : Nat) (s : State) : coreView (tamperNRise input s) = coreView s := by
  rfl
@[simp] theorem tamperNRise_fuses (input : Nat) (s : State) : fuseView (tamperNRise input s) = fuseView s := fuses_of_core (tamperNRise_core input s)
@[simp] theorem tamperNRise_memOk (input : Nat) (s : State) : MemOk (tamperNRise input s) ↔ MemOk s := memOk_of_core (tamperNRise_core input s)
@[simp] theorem tamperNRise_part (input : Nat) (s : State) {sp : StatePart} (g_debug : sp ≠ .debug) : part sp (tamperNRise input s) = part sp s := by
  cases sp <;> first | rfl | contradiction
@[simp] theorem clearProof_core (targets : List Nat) (reason : Nat) (s : State) : coreView (clearProof targets reason s) = coreView s := by
  unfold clearProof
  simp
@[simp] theorem clearProof_fuses (targets : List Nat) (reason : Nat) (s : State) : fuseView (clearProof targets reason s) = fuseView s := fuses_of_core (clearProof_core targets reason s)
@[simp] theorem clearProof_memOk (targets : List Nat) (reason : Nat) (s : State) : MemOk (clearProof targets reason s) ↔ MemOk s := memOk_of_core (clearProof_core targets reason s)
@[simp] theorem clearProof_part (targets : List Nat) (reason : Nat) (s : State) {sp : StatePart} (g_braid : sp ≠ .braid) (g_debug : sp ≠ .debug) (g_events : sp ≠ .events) : part sp (clearProof targets reason s) = part sp s := by
  unfold clearProof
  simp [*]
@[simp] theorem dropTides_core (s : State) : coreView (dropTides s) = coreView s := by
  unfold dropTides
  simp
@[simp] theorem dropTides_fuses (s : State) : fuseView (dropTides s) = fuseView s := fuses_of_core (dropTides_core s)
@[simp] theorem dropTides_memOk (s : State) : MemOk (dropTides s) ↔ MemOk s := memOk_of_core (dropTides_core s)
@[simp] theorem dropTides_part (s : State) {sp : StatePart} (g_braid : sp ≠ .braid) (g_ferry : sp ≠ .ferry) (g_twin : sp ≠ .twin) (g_crypto : sp ≠ .crypto) (g_debug : sp ≠ .debug) (g_events : sp ≠ .events) : part sp (dropTides s) = part sp s := by
  unfold dropTides
  simp [*]
@[simp] theorem dropLinks_fuses (s : State) : fuseView (dropLinks s) = fuseView s := by
  unfold dropLinks
  simp
@[simp] theorem dropLinks_memOk (s : State) (h : MemOk s) : MemOk (dropLinks s) := by
  unfold dropLinks
  exact forAll_memOk _ _ _ (fun t x ht => by simp [ht]) h
@[simp] theorem dropLinks_part (s : State) {sp : StatePart} (g_braid : sp ≠ .braid) (g_ferry : sp ≠ .ferry) (g_locks : sp ≠ .locks) (g_lanes : sp ≠ .lanes) (g_delta : sp ≠ .delta) (g_twin : sp ≠ .twin) (g_dram : sp ≠ .dram) (g_mems : sp ≠ .mems) (g_debug : sp ≠ .debug) (g_events : sp ≠ .events) : part sp (dropLinks s) = part sp s := by
  unfold dropLinks
  simp [*]
@[simp] theorem zeroBank_core (s : State) : coreView (zeroBank s) = coreView s := by
  unfold zeroBank
  simp
@[simp] theorem zeroBank_fuses (s : State) : fuseView (zeroBank s) = fuseView s := fuses_of_core (zeroBank_core s)
@[simp] theorem zeroBank_memOk (s : State) : MemOk (zeroBank s) ↔ MemOk s := memOk_of_core (zeroBank_core s)
@[simp] theorem zeroBank_part (s : State) {sp : StatePart} (g_braid : sp ≠ .braid) (g_ferry : sp ≠ .ferry) (g_twin : sp ≠ .twin) (g_crypto : sp ≠ .crypto) (g_fabric : sp ≠ .fabric) (g_debug : sp ≠ .debug) (g_events : sp ≠ .events) : part sp (zeroBank s) = part sp s := by
  unfold zeroBank
  simp [*]
@[simp] theorem retireInit_core (s : State) : coreView (retireInit s) = coreView s := by
  unfold retireInit
  simp [core_ite]
@[simp] theorem retireInit_fuses (s : State) : fuseView (retireInit s) = fuseView s := fuses_of_core (retireInit_core s)
@[simp] theorem retireInit_memOk (s : State) : MemOk (retireInit s) ↔ MemOk s := memOk_of_core (retireInit_core s)
@[simp] theorem retireInit_part (s : State) {sp : StatePart} (g_mems : sp ≠ .mems) : part sp (retireInit s) = part sp s := by
  unfold retireInit
  simp [part_ite, *]
@[simp] theorem zeroization_fuses (s : State) : fuseView (zeroization s) = fuseView s := by
  unfold zeroization
  split <;> simp
@[simp] theorem zeroization_memOk (s : State) (h : MemOk s) : MemOk (zeroization s) := by
  unfold zeroization
  repeat' split
  all_goals simp [*]
@[simp] theorem zeroization_part (s : State) {sp : StatePart} (g_braid : sp ≠ .braid) (g_ferry : sp ≠ .ferry) (g_locks : sp ≠ .locks) (g_lanes : sp ≠ .lanes) (g_delta : sp ≠ .delta) (g_twin : sp ≠ .twin) (g_dram : sp ≠ .dram) (g_mems : sp ≠ .mems) (g_crypto : sp ≠ .crypto) (g_fabric : sp ≠ .fabric) (g_debug : sp ≠ .debug) (g_events : sp ≠ .events) : part sp (zeroization s) = part sp s := by
  unfold zeroization
  split <;> simp [*]
@[simp] theorem fenceGate_core (g : Nat) (force : Bool) (job : Option Nat) (s : State) : coreView (fenceGate g force job s) = coreView s := by
  unfold fenceGate
  simp
@[simp] theorem fenceGate_fuses (g : Nat) (force : Bool) (job : Option Nat) (s : State) : fuseView (fenceGate g force job s) = fuseView s := fuses_of_core (fenceGate_core g force job s)
@[simp] theorem fenceGate_memOk (g : Nat) (force : Bool) (job : Option Nat) (s : State) : MemOk (fenceGate g force job s) ↔ MemOk s := memOk_of_core (fenceGate_core g force job s)
@[simp] theorem fenceGate_part (g : Nat) (force : Bool) (job : Option Nat) (s : State) {sp : StatePart} (g_braid : sp ≠ .braid) : part sp (fenceGate g force job s) = part sp s := by
  unfold fenceGate
  simp [*]
@[simp] theorem openGate_core (g : Nat) (s : State) : coreView (openGate g s) = coreView s := by
  unfold openGate
  simp [core_ite]
@[simp] theorem openGate_fuses (g : Nat) (s : State) : fuseView (openGate g s) = fuseView s := fuses_of_core (openGate_core g s)
@[simp] theorem openGate_memOk (g : Nat) (s : State) : MemOk (openGate g s) ↔ MemOk s := memOk_of_core (openGate_core g s)
@[simp] theorem openGate_part (g : Nat) (s : State) {sp : StatePart} (g_braid : sp ≠ .braid) (g_ferry : sp ≠ .ferry) (g_twin : sp ≠ .twin) (g_debug : sp ≠ .debug) (g_events : sp ≠ .events) : part sp (openGate g s) = part sp s := by
  unfold openGate
  simp [part_ite, *]
@[simp] theorem closeGate_core (g : Nat) (s : State) : coreView (closeGate g s) = coreView s := by
  unfold closeGate
  simp
@[simp] theorem closeGate_fuses (g : Nat) (s : State) : fuseView (closeGate g s) = fuseView s := fuses_of_core (closeGate_core g s)
@[simp] theorem closeGate_memOk (g : Nat) (s : State) : MemOk (closeGate g s) ↔ MemOk s := memOk_of_core (closeGate_core g s)
@[simp] theorem closeGate_part (g : Nat) (s : State) {sp : StatePart} (g_braid : sp ≠ .braid) : part sp (closeGate g s) = part sp s := by
  unfold closeGate
  simp [*]
@[simp] theorem fenceAnswer_core (ep : Nat) (p : Packet) (at_ : Nat) (s : State) : coreView (fenceAnswer ep p at_ s) = coreView s := by
  unfold fenceAnswer
  simp
@[simp] theorem fenceAnswer_fuses (ep : Nat) (p : Packet) (at_ : Nat) (s : State) : fuseView (fenceAnswer ep p at_ s) = fuseView s := fuses_of_core (fenceAnswer_core ep p at_ s)
@[simp] theorem fenceAnswer_memOk (ep : Nat) (p : Packet) (at_ : Nat) (s : State) : MemOk (fenceAnswer ep p at_ s) ↔ MemOk s := memOk_of_core (fenceAnswer_core ep p at_ s)
@[simp] theorem fenceAnswer_part (ep : Nat) (p : Packet) (at_ : Nat) (s : State) {sp : StatePart} (g_braid : sp ≠ .braid) (g_events : sp ≠ .events) : part sp (fenceAnswer ep p at_ s) = part sp s := by
  unfold fenceAnswer
  simp [*]
@[simp] theorem drainArrived_core (ep : Nat) (s : State) : coreView (drainArrived ep s) = coreView s := by
  unfold drainArrived
  refine forAll_core _ _ _ (fun t x => ?_)
  split
  · split <;> simp
  · rfl
@[simp] theorem drainArrived_fuses (ep : Nat) (s : State) : fuseView (drainArrived ep s) = fuseView s := fuses_of_core (drainArrived_core ep s)
@[simp] theorem drainArrived_memOk (ep : Nat) (s : State) : MemOk (drainArrived ep s) ↔ MemOk s := memOk_of_core (drainArrived_core ep s)
@[simp] theorem drainArrived_part (ep : Nat) (s : State) {sp : StatePart} (g_braid : sp ≠ .braid) (g_events : sp ≠ .events) : part sp (drainArrived ep s) = part sp s := by
  unfold drainArrived
  refine forAll_part _ _ _ (fun t x => ?_)
  split
  · split <;> simp [*]
  · rfl
@[simp] theorem drainEndpoint_core (ep : Nat) (s : State) : coreView (drainEndpoint ep s) = coreView s := by
  unfold drainEndpoint
  simp [core_ite]
@[simp] theorem drainEndpoint_fuses (ep : Nat) (s : State) : fuseView (drainEndpoint ep s) = fuseView s := fuses_of_core (drainEndpoint_core ep s)
@[simp] theorem drainEndpoint_memOk (ep : Nat) (s : State) : MemOk (drainEndpoint ep s) ↔ MemOk s := memOk_of_core (drainEndpoint_core ep s)
@[simp] theorem drainEndpoint_part (ep : Nat) (s : State) {sp : StatePart} (g_braid : sp ≠ .braid) (g_twin : sp ≠ .twin) (g_dram : sp ≠ .dram) (g_mems : sp ≠ .mems) (g_events : sp ≠ .events) : part sp (drainEndpoint ep s) = part sp s := by
  unfold drainEndpoint
  simp [part_ite, *]
@[simp] theorem drainRouter_core (r : Nat) (s : State) : coreView (drainRouter r s) = coreView s := by
  rfl
@[simp] theorem drainRouter_fuses (r : Nat) (s : State) : fuseView (drainRouter r s) = fuseView s := fuses_of_core (drainRouter_core r s)
@[simp] theorem drainRouter_memOk (r : Nat) (s : State) : MemOk (drainRouter r s) ↔ MemOk s := memOk_of_core (drainRouter_core r s)
@[simp] theorem drainRouter_part (r : Nat) (s : State) {sp : StatePart} (g_braid : sp ≠ .braid) : part sp (drainRouter r s) = part sp s := by
  cases sp <;> first | rfl | contradiction
@[simp] theorem forcedDrain_core (g : Nat) (s : State) : coreView (forcedDrain g s) = coreView s := by
  unfold forcedDrain
  simp
@[simp] theorem forcedDrain_fuses (g : Nat) (s : State) : fuseView (forcedDrain g s) = fuseView s := fuses_of_core (forcedDrain_core g s)
@[simp] theorem forcedDrain_memOk (g : Nat) (s : State) : MemOk (forcedDrain g s) ↔ MemOk s := memOk_of_core (forcedDrain_core g s)
@[simp] theorem forcedDrain_part (g : Nat) (s : State) {sp : StatePart} (g_braid : sp ≠ .braid) (g_twin : sp ≠ .twin) (g_dram : sp ≠ .dram) (g_mems : sp ≠ .mems) (g_events : sp ≠ .events) : part sp (forcedDrain g s) = part sp s := by
  unfold forcedDrain
  simp [*]
@[simp] theorem reachEv_core (n : Nat) (cause : Nat) (sev : Nat) (detail : List Byte) (s : State) : coreView (reachEv n cause sev detail s) = coreView s := by
  unfold reachEv
  simp
@[simp] theorem reachEv_fuses (n : Nat) (cause : Nat) (sev : Nat) (detail : List Byte) (s : State) : fuseView (reachEv n cause sev detail s) = fuseView s := fuses_of_core (reachEv_core n cause sev detail s)
@[simp] theorem reachEv_memOk (n : Nat) (cause : Nat) (sev : Nat) (detail : List Byte) (s : State) : MemOk (reachEv n cause sev detail s) ↔ MemOk s := memOk_of_core (reachEv_core n cause sev detail s)
@[simp] theorem reachEv_part (n : Nat) (cause : Nat) (sev : Nat) (detail : List Byte) (s : State) {sp : StatePart} (g_braid : sp ≠ .braid) (g_events : sp ≠ .events) : part sp (reachEv n cause sev detail s) = part sp s := by
  unfold reachEv
  simp [*]
@[simp] theorem writeFrame_core (a : Nat) (v : BitVec 4096) (s : State) : coreView (writeFrame a v s) = coreView s := by
  rfl
@[simp] theorem writeFrame_fuses (a : Nat) (v : BitVec 4096) (s : State) : fuseView (writeFrame a v s) = fuseView s := fuses_of_core (writeFrame_core a v s)
@[simp] theorem writeFrame_memOk (a : Nat) (v : BitVec 4096) (s : State) : MemOk (writeFrame a v s) ↔ MemOk s := memOk_of_core (writeFrame_core a v s)
@[simp] theorem writeFrame_part (a : Nat) (v : BitVec 4096) (s : State) {sp : StatePart} (g_fabric : sp ≠ .fabric) : part sp (writeFrame a v s) = part sp s := by
  cases sp <;> first | rfl | contradiction
@[simp] theorem zeroRegion_core (r : Nat) (s : State) : coreView (zeroRegion r s) = coreView s := by
  rfl
@[simp] theorem zeroRegion_fuses (r : Nat) (s : State) : fuseView (zeroRegion r s) = fuseView s := fuses_of_core (zeroRegion_core r s)
@[simp] theorem zeroRegion_memOk (r : Nat) (s : State) : MemOk (zeroRegion r s) ↔ MemOk s := memOk_of_core (zeroRegion_core r s)
@[simp] theorem zeroRegion_part (r : Nat) (s : State) {sp : StatePart} (g_fabric : sp ≠ .fabric) : part sp (zeroRegion r s) = part sp s := by
  cases sp <;> first | rfl | contradiction
@[simp] theorem zeroTarget_core (l : Load) (s : State) : coreView (zeroTarget l s) = coreView s := by
  unfold zeroTarget
  split <;> simp
@[simp] theorem zeroTarget_fuses (l : Load) (s : State) : fuseView (zeroTarget l s) = fuseView s := fuses_of_core (zeroTarget_core l s)
@[simp] theorem zeroTarget_memOk (l : Load) (s : State) : MemOk (zeroTarget l s) ↔ MemOk s := memOk_of_core (zeroTarget_core l s)
@[simp] theorem zeroTarget_part (l : Load) (s : State) {sp : StatePart} (g_fabric : sp ≠ .fabric) : part sp (zeroTarget l s) = part sp s := by
  unfold zeroTarget
  split <;> simp [*]
@[simp] theorem beginLoad_core (l : Load) (s : State) : coreView (beginLoad l s) = coreView s := by
  unfold beginLoad
  split <;> simp
@[simp] theorem beginLoad_fuses (l : Load) (s : State) : fuseView (beginLoad l s) = fuseView s := fuses_of_core (beginLoad_core l s)
@[simp] theorem beginLoad_memOk (l : Load) (s : State) : MemOk (beginLoad l s) ↔ MemOk s := memOk_of_core (beginLoad_core l s)
@[simp] theorem beginLoad_part (l : Load) (s : State) {sp : StatePart} (g_braid : sp ≠ .braid) (g_fabric : sp ≠ .fabric) : part sp (beginLoad l s) = part sp s := by
  unfold beginLoad
  split <;> simp [*]
@[simp] theorem nextReload_core (s : State) : coreView (nextReload s) = coreView s := by
  unfold nextReload
  dsimp only
  repeat' split
  all_goals simp [*]
@[simp] theorem nextReload_fuses (s : State) : fuseView (nextReload s) = fuseView s := fuses_of_core (nextReload_core s)
@[simp] theorem nextReload_memOk (s : State) : MemOk (nextReload s) ↔ MemOk s := memOk_of_core (nextReload_core s)
@[simp] theorem nextReload_part (s : State) {sp : StatePart} (g_braid : sp ≠ .braid) (g_fabric : sp ≠ .fabric) : part sp (nextReload s) = part sp s := by
  unfold nextReload
  dsimp only
  repeat' split
  all_goals simp [*]
@[simp] theorem reachDrained_core (n : Nat) (s : State) : coreView (reachDrained n s) = coreView s := by
  unfold reachDrained
  dsimp only
  repeat' split
  all_goals simp [*]
@[simp] theorem reachDrained_fuses (n : Nat) (s : State) : fuseView (reachDrained n s) = fuseView s := fuses_of_core (reachDrained_core n s)
@[simp] theorem reachDrained_memOk (n : Nat) (s : State) : MemOk (reachDrained n s) ↔ MemOk s := memOk_of_core (reachDrained_core n s)
@[simp] theorem reachDrained_part (n : Nat) (s : State) {sp : StatePart} (g_braid : sp ≠ .braid) (g_ferry : sp ≠ .ferry) (g_twin : sp ≠ .twin) (g_fabric : sp ≠ .fabric) (g_debug : sp ≠ .debug) (g_events : sp ≠ .events) : part sp (reachDrained n s) = part sp s := by
  unfold reachDrained
  dsimp only
  repeat' split
  all_goals simp [*]
@[simp] theorem isolateReach_core (n : Nat) (why : IsoFor) (force : Bool) (job : Option Nat) (s : State) : coreView (isolateReach n why force job s) = coreView s := by
  unfold isolateReach
  dsimp only
  repeat' split
  all_goals simp [*]
@[simp] theorem isolateReach_fuses (n : Nat) (why : IsoFor) (force : Bool) (job : Option Nat) (s : State) : fuseView (isolateReach n why force job s) = fuseView s := fuses_of_core (isolateReach_core n why force job s)
@[simp] theorem isolateReach_memOk (n : Nat) (why : IsoFor) (force : Bool) (job : Option Nat) (s : State) : MemOk (isolateReach n why force job s) ↔ MemOk s := memOk_of_core (isolateReach_core n why force job s)
@[simp] theorem isolateReach_part (n : Nat) (why : IsoFor) (force : Bool) (job : Option Nat) (s : State) {sp : StatePart} (g_braid : sp ≠ .braid) (g_ferry : sp ≠ .ferry) (g_locks : sp ≠ .locks) (g_twin : sp ≠ .twin) (g_fabric : sp ≠ .fabric) (g_debug : sp ≠ .debug) (g_events : sp ≠ .events) : part sp (isolateReach n why force job s) = part sp s := by
  unfold isolateReach
  dsimp only
  repeat' split
  all_goals simp [*]
@[simp] theorem reachTimeout_core (n : Nat) (s : State) : coreView (reachTimeout n s) = coreView s := by
  unfold reachTimeout
  dsimp only
  repeat' split
  all_goals simp [*]
@[simp] theorem reachTimeout_fuses (n : Nat) (s : State) : fuseView (reachTimeout n s) = fuseView s := fuses_of_core (reachTimeout_core n s)
@[simp] theorem reachTimeout_memOk (n : Nat) (s : State) : MemOk (reachTimeout n s) ↔ MemOk s := memOk_of_core (reachTimeout_core n s)
@[simp] theorem reachTimeout_part (n : Nat) (s : State) {sp : StatePart} (g_braid : sp ≠ .braid) (g_ferry : sp ≠ .ferry) (g_twin : sp ≠ .twin) (g_fabric : sp ≠ .fabric) (g_debug : sp ≠ .debug) (g_events : sp ≠ .events) : part sp (reachTimeout n s) = part sp s := by
  unfold reachTimeout
  dsimp only
  repeat' split
  all_goals simp [*]
@[simp] theorem releaseReach_core (n : Nat) (s : State) : coreView (releaseReach n s) = coreView s := by
  unfold releaseReach
  simp
@[simp] theorem releaseReach_fuses (n : Nat) (s : State) : fuseView (releaseReach n s) = fuseView s := fuses_of_core (releaseReach_core n s)
@[simp] theorem releaseReach_memOk (n : Nat) (s : State) : MemOk (releaseReach n s) ↔ MemOk s := memOk_of_core (releaseReach_core n s)
@[simp] theorem releaseReach_part (n : Nat) (s : State) {sp : StatePart} (g_braid : sp ≠ .braid) (g_ferry : sp ≠ .ferry) (g_twin : sp ≠ .twin) (g_fabric : sp ≠ .fabric) (g_debug : sp ≠ .debug) (g_events : sp ≠ .events) : part sp (releaseReach n s) = part sp s := by
  unfold releaseReach
  simp [*]
@[simp] theorem startInitial_core (k : Nat) (s : State) : coreView (startInitial k s) = coreView s := by
  unfold startInitial
  split <;> simp
@[simp] theorem startInitial_fuses (k : Nat) (s : State) : fuseView (startInitial k s) = fuseView s := fuses_of_core (startInitial_core k s)
@[simp] theorem startInitial_memOk (k : Nat) (s : State) : MemOk (startInitial k s) ↔ MemOk s := memOk_of_core (startInitial_core k s)
@[simp] theorem startInitial_part (k : Nat) (s : State) {sp : StatePart} (g_braid : sp ≠ .braid) (g_fabric : sp ≠ .fabric) : part sp (startInitial k s) = part sp s := by
  unfold startInitial
  split <;> simp [*]
@[simp] theorem initialLoad_core (s : State) : coreView (initialLoad s) = coreView s := by
  unfold initialLoad
  split <;> simp
@[simp] theorem initialLoad_fuses (s : State) : fuseView (initialLoad s) = fuseView s := fuses_of_core (initialLoad_core s)
@[simp] theorem initialLoad_memOk (s : State) : MemOk (initialLoad s) ↔ MemOk s := memOk_of_core (initialLoad_core s)
@[simp] theorem initialLoad_part (s : State) {sp : StatePart} (g_braid : sp ≠ .braid) (g_fabric : sp ≠ .fabric) : part sp (initialLoad s) = part sp s := by
  unfold initialLoad
  split <;> simp [*]
@[simp] theorem failLoad_core (reason : Nat) (addr : Nat) (s : State) : coreView (failLoad reason addr s) = coreView s := by
  unfold failLoad
  split <;> simp
@[simp] theorem failLoad_fuses (reason : Nat) (addr : Nat) (s : State) : fuseView (failLoad reason addr s) = fuseView s := fuses_of_core (failLoad_core reason addr s)
@[simp] theorem failLoad_memOk (reason : Nat) (addr : Nat) (s : State) : MemOk (failLoad reason addr s) ↔ MemOk s := memOk_of_core (failLoad_core reason addr s)
@[simp] theorem failLoad_part (reason : Nat) (addr : Nat) (s : State) {sp : StatePart} (g_fabric : sp ≠ .fabric) : part sp (failLoad reason addr s) = part sp s := by
  unfold failLoad
  split <;> simp [*]
@[simp] theorem advanceLoad_core (n : Nat) (s : State) : coreView (advanceLoad n s) = coreView s := by
  rfl
@[simp] theorem advanceLoad_fuses (n : Nat) (s : State) : fuseView (advanceLoad n s) = fuseView s := fuses_of_core (advanceLoad_core n s)
@[simp] theorem advanceLoad_memOk (n : Nat) (s : State) : MemOk (advanceLoad n s) ↔ MemOk s := memOk_of_core (advanceLoad_core n s)
@[simp] theorem advanceLoad_part (n : Nat) (s : State) {sp : StatePart} (g_fabric : sp ≠ .fabric) : part sp (advanceLoad n s) = part sp s := by
  cases sp <;> first | rfl | contradiction
@[simp] theorem imageRecord_core (flashFails : Bool) (s : State) : coreView (imageRecord flashFails s) = coreView s := by
  unfold imageRecord
  repeat' split
  all_goals simp [*]
@[simp] theorem imageRecord_fuses (flashFails : Bool) (s : State) : fuseView (imageRecord flashFails s) = fuseView s := fuses_of_core (imageRecord_core flashFails s)
@[simp] theorem imageRecord_memOk (flashFails : Bool) (s : State) : MemOk (imageRecord flashFails s) ↔ MemOk s := memOk_of_core (imageRecord_core flashFails s)
@[simp] theorem imageRecord_part (flashFails : Bool) (s : State) {sp : StatePart} (g_braid : sp ≠ .braid) (g_fabric : sp ≠ .fabric) (g_events : sp ≠ .events) : part sp (imageRecord flashFails s) = part sp s := by
  unfold imageRecord
  repeat' split
  all_goals simp [*]
@[simp] theorem reachLoaded_core (l : Load) (s : State) : coreView (reachLoaded l s) = coreView s := by
  unfold reachLoaded
  split <;> simp
@[simp] theorem reachLoaded_fuses (l : Load) (s : State) : fuseView (reachLoaded l s) = fuseView s := fuses_of_core (reachLoaded_core l s)
@[simp] theorem reachLoaded_memOk (l : Load) (s : State) : MemOk (reachLoaded l s) ↔ MemOk s := memOk_of_core (reachLoaded_core l s)
@[simp] theorem reachLoaded_part (l : Load) (s : State) {sp : StatePart} (g_braid : sp ≠ .braid) (g_ferry : sp ≠ .ferry) (g_twin : sp ≠ .twin) (g_fabric : sp ≠ .fabric) (g_debug : sp ≠ .debug) (g_events : sp ≠ .events) : part sp (reachLoaded l s) = part sp s := by
  unfold reachLoaded
  split <;> simp [*]
@[simp] theorem fullLoaded_core (l : Load) (s : State) : coreView (fullLoaded l s) = coreView s := by
  unfold fullLoaded
  simp [core_ite]
@[simp] theorem fullLoaded_fuses (l : Load) (s : State) : fuseView (fullLoaded l s) = fuseView s := fuses_of_core (fullLoaded_core l s)
@[simp] theorem fullLoaded_memOk (l : Load) (s : State) : MemOk (fullLoaded l s) ↔ MemOk s := memOk_of_core (fullLoaded_core l s)
@[simp] theorem fullLoaded_part (l : Load) (s : State) {sp : StatePart} (g_braid : sp ≠ .braid) (g_ferry : sp ≠ .ferry) (g_twin : sp ≠ .twin) (g_fabric : sp ≠ .fabric) (g_debug : sp ≠ .debug) (g_events : sp ≠ .events) : part sp (fullLoaded l s) = part sp s := by
  unfold fullLoaded
  simp [part_ite, *]
@[simp] theorem loadDone_core (s : State) : coreView (loadDone s) = coreView s := by
  unfold loadDone
  repeat' split
  all_goals simp [*]
@[simp] theorem loadDone_fuses (s : State) : fuseView (loadDone s) = fuseView s := fuses_of_core (loadDone_core s)
@[simp] theorem loadDone_memOk (s : State) : MemOk (loadDone s) ↔ MemOk s := memOk_of_core (loadDone_core s)
@[simp] theorem loadDone_part (s : State) {sp : StatePart} (g_braid : sp ≠ .braid) (g_ferry : sp ≠ .ferry) (g_twin : sp ≠ .twin) (g_fabric : sp ≠ .fabric) (g_debug : sp ≠ .debug) (g_events : sp ≠ .events) : part sp (loadDone s) = part sp s := by
  unfold loadDone
  repeat' split
  all_goals simp [*]
@[simp] theorem initialFailed_core (k : Nat) (reason : Nat) (s : State) : coreView (initialFailed k reason s) = coreView s := by
  unfold initialFailed
  split <;> simp
@[simp] theorem initialFailed_fuses (k : Nat) (reason : Nat) (s : State) : fuseView (initialFailed k reason s) = fuseView s := fuses_of_core (initialFailed_core k reason s)
@[simp] theorem initialFailed_memOk (k : Nat) (reason : Nat) (s : State) : MemOk (initialFailed k reason s) ↔ MemOk s := memOk_of_core (initialFailed_core k reason s)
@[simp] theorem initialFailed_part (k : Nat) (reason : Nat) (s : State) {sp : StatePart} (g_braid : sp ≠ .braid) (g_fabric : sp ≠ .fabric) (g_debug : sp ≠ .debug) (g_events : sp ≠ .events) : part sp (initialFailed k reason s) = part sp s := by
  unfold initialFailed
  split <;> simp [*]
@[simp] theorem zeroFillDone_core (s : State) : coreView (zeroFillDone s) = coreView s := by
  unfold zeroFillDone
  repeat' split
  all_goals simp [*]
@[simp] theorem zeroFillDone_fuses (s : State) : fuseView (zeroFillDone s) = fuseView s := fuses_of_core (zeroFillDone_core s)
@[simp] theorem zeroFillDone_memOk (s : State) : MemOk (zeroFillDone s) ↔ MemOk s := memOk_of_core (zeroFillDone_core s)
@[simp] theorem zeroFillDone_part (s : State) {sp : StatePart} (g_braid : sp ≠ .braid) (g_ferry : sp ≠ .ferry) (g_twin : sp ≠ .twin) (g_fabric : sp ≠ .fabric) (g_debug : sp ≠ .debug) (g_events : sp ≠ .events) : part sp (zeroFillDone s) = part sp s := by
  unfold zeroFillDone
  repeat' split
  all_goals simp [*]
@[simp] theorem loadFull_core (v : Serving) (h : List Byte) (s : State) : coreView (loadFull v h s).2 = coreView s := by
  unfold loadFull
  dsimp only
  repeat' split
  all_goals first | (simp [*]; done) | (rename_i h; simp [*, wakeFor_core h]; done) | (rename_i h _; simp [*, wakeFor_core h]; done) | (rename_i h _ _; simp [*, wakeFor_core h]; done) | (rename_i h _ _ _; simp [*, wakeFor_core h]; done) | (rename_i h _ _ _ _; simp [*, wakeFor_core h]; done) | (rename_i h _ _ _ _ _; simp [*, wakeFor_core h]; done) | (rename_i h _ _ _ _ _ _; simp [*, wakeFor_core h]; done) | (rename_i h _ _ _ _ _ _ _; simp [*, wakeFor_core h]; done) | (rename_i h _ _ _ _ _ _ _ _; simp [*, wakeFor_core h]; done) | rfl
@[simp] theorem loadFull_fuses (v : Serving) (h : List Byte) (s : State) : fuseView (loadFull v h s).2 = fuseView s := fuses_of_core (loadFull_core v h s)
@[simp] theorem loadFull_memOk (v : Serving) (h : List Byte) (s : State) : MemOk (loadFull v h s).2 ↔ MemOk s := memOk_of_core (loadFull_core v h s)
@[simp] theorem loadFull_part (v : Serving) (h : List Byte) (s : State) {sp : StatePart} (g_braid : sp ≠ .braid) (g_ferry : sp ≠ .ferry) (g_lanes : sp ≠ .lanes) (g_delta : sp ≠ .delta) (g_eng : sp ≠ .eng) (g_dram : sp ≠ .dram) (g_mems : sp ≠ .mems) (g_fabric : sp ≠ .fabric) (g_power : sp ≠ .power) : part sp (loadFull v h s).2 = part sp s := by
  unfold loadFull
  dsimp only
  repeat' split
  all_goals first | (simp [*]; done) | (rename_i h; simp [*, wakeFor_part h]; done) | (rename_i h _; simp [*, wakeFor_part h]; done) | (rename_i h _ _; simp [*, wakeFor_part h]; done) | (rename_i h _ _ _; simp [*, wakeFor_part h]; done) | (rename_i h _ _ _ _; simp [*, wakeFor_part h]; done) | (rename_i h _ _ _ _ _; simp [*, wakeFor_part h]; done) | (rename_i h _ _ _ _ _ _; simp [*, wakeFor_part h]; done) | (rename_i h _ _ _ _ _ _ _; simp [*, wakeFor_part h]; done) | (rename_i h _ _ _ _ _ _ _ _; simp [*, wakeFor_part h]; done) | (simp [*]; cases sp <;> first | rfl | contradiction) | (cases sp <;> first | rfl | contradiction)
@[simp] theorem loadReach_core (v : Serving) (h : List Byte) (s : State) : coreView (loadReach v h s).2 = coreView s := by
  unfold loadReach
  dsimp only
  repeat' split
  all_goals first | (simp [*]; done) | (rename_i h; simp [*, wakeFor_core h]; done) | (rename_i h _; simp [*, wakeFor_core h]; done) | (rename_i h _ _; simp [*, wakeFor_core h]; done) | (rename_i h _ _ _; simp [*, wakeFor_core h]; done) | (rename_i h _ _ _ _; simp [*, wakeFor_core h]; done) | rfl
@[simp] theorem loadReach_fuses (v : Serving) (h : List Byte) (s : State) : fuseView (loadReach v h s).2 = fuseView s := fuses_of_core (loadReach_core v h s)
@[simp] theorem loadReach_memOk (v : Serving) (h : List Byte) (s : State) : MemOk (loadReach v h s).2 ↔ MemOk s := memOk_of_core (loadReach_core v h s)
@[simp] theorem loadReach_part (v : Serving) (h : List Byte) (s : State) {sp : StatePart} (g_braid : sp ≠ .braid) (g_ferry : sp ≠ .ferry) (g_locks : sp ≠ .locks) (g_lanes : sp ≠ .lanes) (g_delta : sp ≠ .delta) (g_twin : sp ≠ .twin) (g_eng : sp ≠ .eng) (g_dram : sp ≠ .dram) (g_mems : sp ≠ .mems) (g_fabric : sp ≠ .fabric) (g_power : sp ≠ .power) (g_debug : sp ≠ .debug) (g_events : sp ≠ .events) : part sp (loadReach v h s).2 = part sp s := by
  unfold loadReach
  dsimp only
  repeat' split
  all_goals first | (simp [*]; done) | (rename_i h; simp [*, wakeFor_part h]; done) | (rename_i h _; simp [*, wakeFor_part h]; done) | (rename_i h _ _; simp [*, wakeFor_part h]; done) | (rename_i h _ _ _; simp [*, wakeFor_part h]; done) | (rename_i h _ _ _ _; simp [*, wakeFor_part h]; done) | (simp [*]; cases sp <;> first | rfl | contradiction) | (cases sp <;> first | rfl | contradiction)
@[simp] theorem reachLoadBody_core (v : Serving) (s : State) : coreView (reachLoadBody v s).2 = coreView s := by
  unfold reachLoadBody
  dsimp only
  repeat' split
  all_goals simp [*]
@[simp] theorem reachLoadBody_fuses (v : Serving) (s : State) : fuseView (reachLoadBody v s).2 = fuseView s := fuses_of_core (reachLoadBody_core v s)
@[simp] theorem reachLoadBody_memOk (v : Serving) (s : State) : MemOk (reachLoadBody v s).2 ↔ MemOk s := memOk_of_core (reachLoadBody_core v s)
@[simp] theorem reachLoadBody_part (v : Serving) (s : State) {sp : StatePart} (g_braid : sp ≠ .braid) (g_ferry : sp ≠ .ferry) (g_locks : sp ≠ .locks) (g_lanes : sp ≠ .lanes) (g_delta : sp ≠ .delta) (g_twin : sp ≠ .twin) (g_eng : sp ≠ .eng) (g_dram : sp ≠ .dram) (g_mems : sp ≠ .mems) (g_fabric : sp ≠ .fabric) (g_power : sp ≠ .power) (g_debug : sp ≠ .debug) (g_events : sp ≠ .events) : part sp (reachLoadBody v s).2 = part sp s := by
  unfold reachLoadBody
  dsimp only
  repeat' split
  all_goals simp [*]
@[simp] theorem reachLoad_core (s : State) : coreView (reachLoad s) = coreView s := by
  unfold reachLoad
  simp
@[simp] theorem reachLoad_fuses (s : State) : fuseView (reachLoad s) = fuseView s := fuses_of_core (reachLoad_core s)
@[simp] theorem reachLoad_memOk (s : State) : MemOk (reachLoad s) ↔ MemOk s := memOk_of_core (reachLoad_core s)
@[simp] theorem reachLoad_part (s : State) {sp : StatePart} (g_braid : sp ≠ .braid) (g_ferry : sp ≠ .ferry) (g_locks : sp ≠ .locks) (g_lanes : sp ≠ .lanes) (g_delta : sp ≠ .delta) (g_twin : sp ≠ .twin) (g_eng : sp ≠ .eng) (g_dram : sp ≠ .dram) (g_mems : sp ≠ .mems) (g_fabric : sp ≠ .fabric) (g_power : sp ≠ .power) (g_debug : sp ≠ .debug) (g_events : sp ≠ .events) : part sp (reachLoad s) = part sp s := by
  unfold reachLoad
  simp [*]
@[simp] theorem reachIsolateBody_core (v : Serving) (s : State) : coreView (reachIsolateBody v s).2 = coreView s := by
  unfold reachIsolateBody
  dsimp only
  repeat' split
  all_goals simp [*]
@[simp] theorem reachIsolateBody_fuses (v : Serving) (s : State) : fuseView (reachIsolateBody v s).2 = fuseView s := fuses_of_core (reachIsolateBody_core v s)
@[simp] theorem reachIsolateBody_memOk (v : Serving) (s : State) : MemOk (reachIsolateBody v s).2 ↔ MemOk s := memOk_of_core (reachIsolateBody_core v s)
@[simp] theorem reachIsolateBody_part (v : Serving) (s : State) {sp : StatePart} (g_braid : sp ≠ .braid) (g_ferry : sp ≠ .ferry) (g_locks : sp ≠ .locks) (g_twin : sp ≠ .twin) (g_fabric : sp ≠ .fabric) (g_debug : sp ≠ .debug) (g_events : sp ≠ .events) : part sp (reachIsolateBody v s).2 = part sp s := by
  unfold reachIsolateBody
  dsimp only
  repeat' split
  all_goals simp [*]
@[simp] theorem reachIsolate_core (s : State) : coreView (reachIsolate s) = coreView s := by
  unfold reachIsolate
  simp
@[simp] theorem reachIsolate_fuses (s : State) : fuseView (reachIsolate s) = fuseView s := fuses_of_core (reachIsolate_core s)
@[simp] theorem reachIsolate_memOk (s : State) : MemOk (reachIsolate s) ↔ MemOk s := memOk_of_core (reachIsolate_core s)
@[simp] theorem reachIsolate_part (s : State) {sp : StatePart} (g_braid : sp ≠ .braid) (g_ferry : sp ≠ .ferry) (g_locks : sp ≠ .locks) (g_twin : sp ≠ .twin) (g_fabric : sp ≠ .fabric) (g_debug : sp ≠ .debug) (g_events : sp ≠ .events) : part sp (reachIsolate s) = part sp s := by
  unfold reachIsolate
  simp [*]
@[simp] theorem reachReleaseBody_core (v : Serving) (s : State) : coreView (reachReleaseBody v s).2 = coreView s := by
  unfold reachReleaseBody
  repeat' split
  all_goals simp [*]
@[simp] theorem reachReleaseBody_fuses (v : Serving) (s : State) : fuseView (reachReleaseBody v s).2 = fuseView s := fuses_of_core (reachReleaseBody_core v s)
@[simp] theorem reachReleaseBody_memOk (v : Serving) (s : State) : MemOk (reachReleaseBody v s).2 ↔ MemOk s := memOk_of_core (reachReleaseBody_core v s)
@[simp] theorem reachReleaseBody_part (v : Serving) (s : State) {sp : StatePart} (g_braid : sp ≠ .braid) (g_ferry : sp ≠ .ferry) (g_twin : sp ≠ .twin) (g_fabric : sp ≠ .fabric) (g_debug : sp ≠ .debug) (g_events : sp ≠ .events) : part sp (reachReleaseBody v s).2 = part sp s := by
  unfold reachReleaseBody
  repeat' split
  all_goals simp [*]
@[simp] theorem reachRelease_core (s : State) : coreView (reachRelease s) = coreView s := by
  unfold reachRelease
  simp
@[simp] theorem reachRelease_fuses (s : State) : fuseView (reachRelease s) = fuseView s := fuses_of_core (reachRelease_core s)
@[simp] theorem reachRelease_memOk (s : State) : MemOk (reachRelease s) ↔ MemOk s := memOk_of_core (reachRelease_core s)
@[simp] theorem reachRelease_part (s : State) {sp : StatePart} (g_braid : sp ≠ .braid) (g_ferry : sp ≠ .ferry) (g_twin : sp ≠ .twin) (g_fabric : sp ≠ .fabric) (g_debug : sp ≠ .debug) (g_events : sp ≠ .events) : part sp (reachRelease s) = part sp s := by
  unfold reachRelease
  simp [*]
@[simp] theorem hatchBody_core (v : Serving) (s : State) : coreView (hatchBody v s).2 = coreView s := by
  unfold hatchBody
  dsimp only
  repeat' split
  all_goals simp [*]
@[simp] theorem hatchBody_fuses (v : Serving) (s : State) : fuseView (hatchBody v s).2 = fuseView s := fuses_of_core (hatchBody_core v s)
@[simp] theorem hatchBody_memOk (v : Serving) (s : State) : MemOk (hatchBody v s).2 ↔ MemOk s := memOk_of_core (hatchBody_core v s)
@[simp] theorem hatchBody_part (v : Serving) (s : State) {sp : StatePart} (g_fabric : sp ≠ .fabric) : part sp (hatchBody v s).2 = part sp s := by
  unfold hatchBody
  dsimp only
  repeat' split
  all_goals simp [*]
@[simp] theorem hatchLoad_core (s : State) : coreView (hatchLoad s) = coreView s := by
  unfold hatchLoad
  simp
@[simp] theorem hatchLoad_fuses (s : State) : fuseView (hatchLoad s) = fuseView s := fuses_of_core (hatchLoad_core s)
@[simp] theorem hatchLoad_memOk (s : State) : MemOk (hatchLoad s) ↔ MemOk s := memOk_of_core (hatchLoad_core s)
@[simp] theorem hatchLoad_part (s : State) {sp : StatePart} (g_ferry : sp ≠ .ferry) (g_fabric : sp ≠ .fabric) : part sp (hatchLoad s) = part sp s := by
  unfold hatchLoad
  simp [*]
@[simp] theorem scrubSetBody_core (v : Serving) (s : State) : coreView (scrubSetBody v s).2 = coreView s := by
  unfold scrubSetBody
  dsimp only
  repeat' split
  all_goals simp [*]
@[simp] theorem scrubSetBody_fuses (v : Serving) (s : State) : fuseView (scrubSetBody v s).2 = fuseView s := fuses_of_core (scrubSetBody_core v s)
@[simp] theorem scrubSetBody_memOk (v : Serving) (s : State) : MemOk (scrubSetBody v s).2 ↔ MemOk s := memOk_of_core (scrubSetBody_core v s)
@[simp] theorem scrubSetBody_part (v : Serving) (s : State) {sp : StatePart} (g_fabric : sp ≠ .fabric) : part sp (scrubSetBody v s).2 = part sp s := by
  unfold scrubSetBody
  dsimp only
  repeat' split
  all_goals simp [*]
@[simp] theorem scrubSet_core (s : State) : coreView (scrubSet s) = coreView s := by
  unfold scrubSet
  simp
@[simp] theorem scrubSet_fuses (s : State) : fuseView (scrubSet s) = fuseView s := fuses_of_core (scrubSet_core s)
@[simp] theorem scrubSet_memOk (s : State) : MemOk (scrubSet s) ↔ MemOk s := memOk_of_core (scrubSet_core s)
@[simp] theorem scrubSet_part (s : State) {sp : StatePart} (g_ferry : sp ≠ .ferry) (g_fabric : sp ≠ .fabric) : part sp (scrubSet s) = part sp s := by
  unfold scrubSet
  simp [*]
@[simp] theorem reachStatusBody_core (v : Serving) (s : State) : coreView (reachStatusBody v s).2 = coreView s := by
  unfold reachStatusBody
  repeat' split
  all_goals simp [*]
@[simp] theorem reachStatusBody_fuses (v : Serving) (s : State) : fuseView (reachStatusBody v s).2 = fuseView s := fuses_of_core (reachStatusBody_core v s)
@[simp] theorem reachStatusBody_memOk (v : Serving) (s : State) : MemOk (reachStatusBody v s).2 ↔ MemOk s := memOk_of_core (reachStatusBody_core v s)
@[simp] theorem reachStatusBody_part (v : Serving) (s : State) {sp : StatePart} (g_fabric : sp ≠ .fabric) : part sp (reachStatusBody v s).2 = part sp s := by
  unfold reachStatusBody
  repeat' split
  all_goals simp [*]
@[simp] theorem reachStatus_core (s : State) : coreView (reachStatus s) = coreView s := by
  unfold reachStatus
  simp
@[simp] theorem reachStatus_fuses (s : State) : fuseView (reachStatus s) = fuseView s := fuses_of_core (reachStatus_core s)
@[simp] theorem reachStatus_memOk (s : State) : MemOk (reachStatus s) ↔ MemOk s := memOk_of_core (reachStatus_core s)
@[simp] theorem reachStatus_part (s : State) {sp : StatePart} (g_ferry : sp ≠ .ferry) (g_fabric : sp ≠ .fabric) : part sp (reachStatus s) = part sp s := by
  unfold reachStatus
  simp [*]
@[simp] theorem scrubPassStart_core (s : State) : coreView (scrubPassStart s) = coreView s := by
  unfold scrubPassStart
  simp [core_ite]
@[simp] theorem scrubPassStart_fuses (s : State) : fuseView (scrubPassStart s) = fuseView s := fuses_of_core (scrubPassStart_core s)
@[simp] theorem scrubPassStart_memOk (s : State) : MemOk (scrubPassStart s) ↔ MemOk s := memOk_of_core (scrubPassStart_core s)
@[simp] theorem scrubPassStart_part (s : State) {sp : StatePart} (g_fabric : sp ≠ .fabric) : part sp (scrubPassStart s) = part sp s := by
  unfold scrubPassStart
  simp [part_ite, *]
@[simp] theorem policyIsolate_core (n : Nat) (s : State) : coreView (policyIsolate n s) = coreView s := by
  unfold policyIsolate
  split <;> simp
@[simp] theorem policyIsolate_fuses (n : Nat) (s : State) : fuseView (policyIsolate n s) = fuseView s := fuses_of_core (policyIsolate_core n s)
@[simp] theorem policyIsolate_memOk (n : Nat) (s : State) : MemOk (policyIsolate n s) ↔ MemOk s := memOk_of_core (policyIsolate_core n s)
@[simp] theorem policyIsolate_part (n : Nat) (s : State) {sp : StatePart} (g_braid : sp ≠ .braid) (g_ferry : sp ≠ .ferry) (g_locks : sp ≠ .locks) (g_twin : sp ≠ .twin) (g_fabric : sp ≠ .fabric) (g_debug : sp ≠ .debug) (g_events : sp ≠ .events) : part sp (policyIsolate n s) = part sp s := by
  unfold policyIsolate
  split <;> simp [*]
@[simp] theorem policyReset_core (n : Nat) (s : State) : coreView (policyReset n s) = coreView s := by
  unfold policyReset
  split <;> simp
@[simp] theorem policyReset_fuses (n : Nat) (s : State) : fuseView (policyReset n s) = fuseView s := fuses_of_core (policyReset_core n s)
@[simp] theorem policyReset_memOk (n : Nat) (s : State) : MemOk (policyReset n s) ↔ MemOk s := memOk_of_core (policyReset_core n s)
@[simp] theorem policyReset_part (n : Nat) (s : State) {sp : StatePart} (g_braid : sp ≠ .braid) (g_ferry : sp ≠ .ferry) (g_locks : sp ≠ .locks) (g_twin : sp ≠ .twin) (g_fabric : sp ≠ .fabric) (g_debug : sp ≠ .debug) (g_events : sp ≠ .events) : part sp (policyReset n s) = part sp s := by
  unfold policyReset
  split <;> simp [*]
@[simp] theorem policyReload_core (n : Nat) (s : State) : coreView (policyReload n s) = coreView s := by
  unfold policyReload
  split <;> simp
@[simp] theorem policyReload_fuses (n : Nat) (s : State) : fuseView (policyReload n s) = fuseView s := fuses_of_core (policyReload_core n s)
@[simp] theorem policyReload_memOk (n : Nat) (s : State) : MemOk (policyReload n s) ↔ MemOk s := memOk_of_core (policyReload_core n s)
@[simp] theorem policyReload_part (n : Nat) (s : State) {sp : StatePart} (g_braid : sp ≠ .braid) (g_ferry : sp ≠ .ferry) (g_locks : sp ≠ .locks) (g_twin : sp ≠ .twin) (g_fabric : sp ≠ .fabric) (g_debug : sp ≠ .debug) (g_events : sp ≠ .events) : part sp (policyReload n s) = part sp s := by
  unfold policyReload
  split <;> simp [*]
@[simp] theorem applyPolicy_core (n : Nat) (critical : Bool) (s : State) : coreView (applyPolicy n critical s) = coreView s := by
  unfold applyPolicy
  dsimp only
  repeat' split
  all_goals simp [*]
@[simp] theorem applyPolicy_fuses (n : Nat) (critical : Bool) (s : State) : fuseView (applyPolicy n critical s) = fuseView s := fuses_of_core (applyPolicy_core n critical s)
@[simp] theorem applyPolicy_memOk (n : Nat) (critical : Bool) (s : State) : MemOk (applyPolicy n critical s) ↔ MemOk s := memOk_of_core (applyPolicy_core n critical s)
@[simp] theorem applyPolicy_part (n : Nat) (critical : Bool) (s : State) {sp : StatePart} (g_braid : sp ≠ .braid) (g_ferry : sp ≠ .ferry) (g_locks : sp ≠ .locks) (g_twin : sp ≠ .twin) (g_fabric : sp ≠ .fabric) (g_debug : sp ≠ .debug) (g_events : sp ≠ .events) : part sp (applyPolicy n critical s) = part sp s := by
  unfold applyPolicy
  dsimp only
  repeat' split
  all_goals simp [*]
@[simp] theorem criticalWord_core (n : Nat) (addr : Nat) (word : Nat) (cause : Nat) (s : State) : coreView (criticalWord n addr word cause s) = coreView s := by
  unfold criticalWord
  simp
@[simp] theorem criticalWord_fuses (n : Nat) (addr : Nat) (word : Nat) (cause : Nat) (s : State) : fuseView (criticalWord n addr word cause s) = fuseView s := fuses_of_core (criticalWord_core n addr word cause s)
@[simp] theorem criticalWord_memOk (n : Nat) (addr : Nat) (word : Nat) (cause : Nat) (s : State) : MemOk (criticalWord n addr word cause s) ↔ MemOk s := memOk_of_core (criticalWord_core n addr word cause s)
@[simp] theorem criticalWord_part (n : Nat) (addr : Nat) (word : Nat) (cause : Nat) (s : State) {sp : StatePart} (g_braid : sp ≠ .braid) (g_ferry : sp ≠ .ferry) (g_locks : sp ≠ .locks) (g_twin : sp ≠ .twin) (g_fabric : sp ≠ .fabric) (g_debug : sp ≠ .debug) (g_events : sp ≠ .events) : part sp (criticalWord n addr word cause s) = part sp s := by
  unfold criticalWord
  simp [*]
@[simp] theorem judgeWord_core (n : Nat) (addr : Nat) (word : Nat) (s : State) : coreView (judgeWord n addr word s) = coreView s := by
  unfold judgeWord
  split <;> simp
@[simp] theorem judgeWord_fuses (n : Nat) (addr : Nat) (word : Nat) (s : State) : fuseView (judgeWord n addr word s) = fuseView s := fuses_of_core (judgeWord_core n addr word s)
@[simp] theorem judgeWord_memOk (n : Nat) (addr : Nat) (word : Nat) (s : State) : MemOk (judgeWord n addr word s) ↔ MemOk s := memOk_of_core (judgeWord_core n addr word s)
@[simp] theorem judgeWord_part (n : Nat) (addr : Nat) (word : Nat) (s : State) {sp : StatePart} (g_braid : sp ≠ .braid) (g_ferry : sp ≠ .ferry) (g_locks : sp ≠ .locks) (g_twin : sp ≠ .twin) (g_eng : sp ≠ .eng) (g_fabric : sp ≠ .fabric) (g_debug : sp ≠ .debug) (g_events : sp ≠ .events) : part sp (judgeWord n addr word s) = part sp s := by
  unfold judgeWord
  split <;> simp [*]
@[simp] theorem readReachFrame_core (n : Nat) (addr : Nat) (flips : List Nat) (s : State) : coreView (readReachFrame n addr flips s) = coreView s := by
  unfold readReachFrame
  dsimp only
  repeat' split
  all_goals simp [*]
@[simp] theorem readReachFrame_fuses (n : Nat) (addr : Nat) (flips : List Nat) (s : State) : fuseView (readReachFrame n addr flips s) = fuseView s := fuses_of_core (readReachFrame_core n addr flips s)
@[simp] theorem readReachFrame_memOk (n : Nat) (addr : Nat) (flips : List Nat) (s : State) : MemOk (readReachFrame n addr flips s) ↔ MemOk s := memOk_of_core (readReachFrame_core n addr flips s)
@[simp] theorem readReachFrame_part (n : Nat) (addr : Nat) (flips : List Nat) (s : State) {sp : StatePart} (g_braid : sp ≠ .braid) (g_ferry : sp ≠ .ferry) (g_locks : sp ≠ .locks) (g_twin : sp ≠ .twin) (g_eng : sp ≠ .eng) (g_fabric : sp ≠ .fabric) (g_debug : sp ≠ .debug) (g_events : sp ≠ .events) : part sp (readReachFrame n addr flips s) = part sp s := by
  unfold readReachFrame
  dsimp only
  repeat' split
  all_goals simp [*]
@[simp] theorem passEnd_core (s : State) : coreView (passEnd s) = coreView s := by
  unfold passEnd
  simp [core_ite]
@[simp] theorem passEnd_fuses (s : State) : fuseView (passEnd s) = fuseView s := fuses_of_core (passEnd_core s)
@[simp] theorem passEnd_memOk (s : State) : MemOk (passEnd s) ↔ MemOk s := memOk_of_core (passEnd_core s)
@[simp] theorem passEnd_part (s : State) {sp : StatePart} (g_braid : sp ≠ .braid) (g_fabric : sp ≠ .fabric) (g_events : sp ≠ .events) : part sp (passEnd s) = part sp s := by
  unfold passEnd
  simp [part_ite, *]
@[simp] theorem readShellFrame_core (flips : List Nat) (s : State) : coreView (readShellFrame flips s) = coreView s := by
  unfold readShellFrame
  simp [core_ite]
@[simp] theorem readShellFrame_fuses (flips : List Nat) (s : State) : fuseView (readShellFrame flips s) = fuseView s := fuses_of_core (readShellFrame_core flips s)
@[simp] theorem readShellFrame_memOk (flips : List Nat) (s : State) : MemOk (readShellFrame flips s) ↔ MemOk s := memOk_of_core (readShellFrame_core flips s)
@[simp] theorem readShellFrame_part (flips : List Nat) (s : State) {sp : StatePart} (g_braid : sp ≠ .braid) (g_fabric : sp ≠ .fabric) (g_events : sp ≠ .events) : part sp (readShellFrame flips s) = part sp s := by
  unfold readShellFrame
  simp [part_ite, *]
@[simp] theorem frameReadback_core (flips : List Nat) (s : State) : coreView (frameReadback flips s) = coreView s := by
  unfold frameReadback
  dsimp only
  repeat' split
  all_goals simp [*]
@[simp] theorem frameReadback_fuses (flips : List Nat) (s : State) : fuseView (frameReadback flips s) = fuseView s := fuses_of_core (frameReadback_core flips s)
@[simp] theorem frameReadback_memOk (flips : List Nat) (s : State) : MemOk (frameReadback flips s) ↔ MemOk s := memOk_of_core (frameReadback_core flips s)
@[simp] theorem frameReadback_part (flips : List Nat) (s : State) {sp : StatePart} (g_braid : sp ≠ .braid) (g_ferry : sp ≠ .ferry) (g_locks : sp ≠ .locks) (g_twin : sp ≠ .twin) (g_eng : sp ≠ .eng) (g_fabric : sp ≠ .fabric) (g_debug : sp ≠ .debug) (g_events : sp ≠ .events) : part sp (frameReadback flips s) = part sp s := by
  unfold frameReadback
  dsimp only
  repeat' split
  all_goals simp [*]
@[simp] theorem hatchReadResult_core (s : State) : coreView (hatchReadResult s) = coreView s := by
  unfold hatchReadResult
  repeat' split
  all_goals simp [*]
@[simp] theorem hatchReadResult_fuses (s : State) : fuseView (hatchReadResult s) = fuseView s := fuses_of_core (hatchReadResult_core s)
@[simp] theorem hatchReadResult_memOk (s : State) : MemOk (hatchReadResult s) ↔ MemOk s := memOk_of_core (hatchReadResult_core s)
@[simp] theorem hatchReadResult_part (s : State) {sp : StatePart} (g_braid : sp ≠ .braid) (g_ferry : sp ≠ .ferry) (g_locks : sp ≠ .locks) (g_twin : sp ≠ .twin) (g_fabric : sp ≠ .fabric) (g_debug : sp ≠ .debug) (g_events : sp ≠ .events) : part sp (hatchReadResult s) = part sp s := by
  unfold hatchReadResult
  repeat' split
  all_goals simp [*]
@[simp] theorem policyResetEnd_core (n : Nat) (s : State) : coreView (policyResetEnd n s) = coreView s := by
  unfold policyResetEnd
  dsimp only
  repeat' split
  all_goals simp [*]
@[simp] theorem policyResetEnd_fuses (n : Nat) (s : State) : fuseView (policyResetEnd n s) = fuseView s := fuses_of_core (policyResetEnd_core n s)
@[simp] theorem policyResetEnd_memOk (n : Nat) (s : State) : MemOk (policyResetEnd n s) ↔ MemOk s := memOk_of_core (policyResetEnd_core n s)
@[simp] theorem policyResetEnd_part (n : Nat) (s : State) {sp : StatePart} (g_braid : sp ≠ .braid) (g_ferry : sp ≠ .ferry) (g_twin : sp ≠ .twin) (g_fabric : sp ≠ .fabric) (g_debug : sp ≠ .debug) (g_events : sp ≠ .events) : part sp (policyResetEnd n s) = part sp s := by
  unfold policyResetEnd
  dsimp only
  repeat' split
  all_goals simp [*]
@[simp] theorem tmrVote_core (s : State) : coreView (tmrVote s) = coreView s := by
  unfold tmrVote
  simp
@[simp] theorem tmrVote_fuses (s : State) : fuseView (tmrVote s) = fuseView s := fuses_of_core (tmrVote_core s)
@[simp] theorem tmrVote_memOk (s : State) : MemOk (tmrVote s) ↔ MemOk s := memOk_of_core (tmrVote_core s)
@[simp] theorem tmrVote_part (s : State) {sp : StatePart} (g_braid : sp ≠ .braid) (g_events : sp ≠ .events) : part sp (tmrVote s) = part sp s := by
  unfold tmrVote
  simp [*]
@[simp] theorem trimCheck_core (s : State) : coreView (trimCheck s) = coreView s := by
  unfold trimCheck
  repeat' split
  all_goals simp [*]
@[simp] theorem trimCheck_fuses (s : State) : fuseView (trimCheck s) = fuseView s := fuses_of_core (trimCheck_core s)
@[simp] theorem trimCheck_memOk (s : State) : MemOk (trimCheck s) ↔ MemOk s := memOk_of_core (trimCheck_core s)
@[simp] theorem trimCheck_part (s : State) {sp : StatePart} (g_braid : sp ≠ .braid) (g_ferry : sp ≠ .ferry) (g_twin : sp ≠ .twin) (g_power : sp ≠ .power) (g_debug : sp ≠ .debug) (g_events : sp ≠ .events) : part sp (trimCheck s) = part sp s := by
  unfold trimCheck
  repeat' split
  all_goals simp [*]
@[simp] theorem trimDrained_fuses (g : Nat) (s : State) : fuseView (trimDrained g s) = fuseView s := by
  unfold trimDrained
  split <;> simp
@[simp] theorem trimDrained_memOk (g : Nat) (s : State) (h : MemOk s) : MemOk (trimDrained g s) := by
  unfold trimDrained
  repeat' split
  all_goals simp [*]
@[simp] theorem trimDrained_part (g : Nat) (s : State) {sp : StatePart} (g_braid : sp ≠ .braid) (g_ferry : sp ≠ .ferry) (g_locks : sp ≠ .locks) (g_lanes : sp ≠ .lanes) (g_twin : sp ≠ .twin) (g_eng : sp ≠ .eng) (g_dram : sp ≠ .dram) (g_mems : sp ≠ .mems) (g_crypto : sp ≠ .crypto) (g_fabric : sp ≠ .fabric) (g_bw : sp ≠ .bw) (g_bwx : sp ≠ .bwx) (g_power : sp ≠ .power) (g_debug : sp ≠ .debug) (g_events : sp ≠ .events) : part sp (trimDrained g s) = part sp s := by
  unfold trimDrained
  split <;> simp [*]
@[simp] theorem trimFailed_core (g : Nat) (s : State) : coreView (trimFailed g s) = coreView s := by
  unfold trimFailed
  split <;> simp
@[simp] theorem trimFailed_fuses (g : Nat) (s : State) : fuseView (trimFailed g s) = fuseView s := fuses_of_core (trimFailed_core g s)
@[simp] theorem trimFailed_memOk (g : Nat) (s : State) : MemOk (trimFailed g s) ↔ MemOk s := memOk_of_core (trimFailed_core g s)
@[simp] theorem trimFailed_part (g : Nat) (s : State) {sp : StatePart} (g_braid : sp ≠ .braid) (g_ferry : sp ≠ .ferry) (g_twin : sp ≠ .twin) (g_power : sp ≠ .power) (g_debug : sp ≠ .debug) (g_events : sp ≠ .events) : part sp (trimFailed g s) = part sp s := by
  unfold trimFailed
  split <;> simp [*]
@[simp] theorem drainedHooks_fuses (g : Nat) (s : State) : fuseView (drainedHooks g s) = fuseView s := by
  unfold drainedHooks
  simp [fuses_ite]
@[simp] theorem drainedHooks_memOk (g : Nat) (s : State) (h : MemOk s) : MemOk (drainedHooks g s) := by
  unfold drainedHooks
  repeat' split
  · simpa using h
  · exact trimDrained_memOk _ _ (drainWrites_memOk _ _ h)
  · exact trimDrained_memOk _ _ (flushGroup_memOk _ _ (flushGroup_memOk _ _ h))
  · exact trimDrained_memOk _ _ h
@[simp] theorem drainedHooks_part (g : Nat) (s : State) {sp : StatePart} (g_freeCtr : sp ≠ .freeCtr) (g_braid : sp ≠ .braid) (g_ferry : sp ≠ .ferry) (g_locks : sp ≠ .locks) (g_lanes : sp ≠ .lanes) (g_twin : sp ≠ .twin) (g_eng : sp ≠ .eng) (g_dram : sp ≠ .dram) (g_mems : sp ≠ .mems) (g_crypto : sp ≠ .crypto) (g_fabric : sp ≠ .fabric) (g_bw : sp ≠ .bw) (g_bwx : sp ≠ .bwx) (g_power : sp ≠ .power) (g_debug : sp ≠ .debug) (g_events : sp ≠ .events) : part sp (drainedHooks g s) = part sp s := by
  unfold drainedHooks
  simp [part_ite, *]
@[simp] theorem drainGate_fuses (g : Nat) (s : State) : fuseView (drainGate g s) = fuseView s := by
  unfold drainGate
  simp
@[simp] theorem drainGate_memOk (g : Nat) (s : State) (h : MemOk s) : MemOk (drainGate g s) := by
  unfold drainGate
  simp [*]
@[simp] theorem drainGate_part (g : Nat) (s : State) {sp : StatePart} (g_freeCtr : sp ≠ .freeCtr) (g_braid : sp ≠ .braid) (g_ferry : sp ≠ .ferry) (g_locks : sp ≠ .locks) (g_lanes : sp ≠ .lanes) (g_twin : sp ≠ .twin) (g_eng : sp ≠ .eng) (g_dram : sp ≠ .dram) (g_mems : sp ≠ .mems) (g_crypto : sp ≠ .crypto) (g_fabric : sp ≠ .fabric) (g_bw : sp ≠ .bw) (g_bwx : sp ≠ .bwx) (g_power : sp ≠ .power) (g_debug : sp ≠ .debug) (g_events : sp ≠ .events) : part sp (drainGate g s) = part sp s := by
  unfold drainGate
  simp [*]
@[simp] theorem gateDrained_fuses (g : Nat) (s : State) : fuseView (gateDrained g s) = fuseView s := by
  unfold gateDrained
  split <;> simp
@[simp] theorem gateDrained_memOk (g : Nat) (s : State) (h : MemOk s) : MemOk (gateDrained g s) := by
  unfold gateDrained
  repeat' split
  all_goals simp [*]
@[simp] theorem gateDrained_part (g : Nat) (s : State) {sp : StatePart} (g_freeCtr : sp ≠ .freeCtr) (g_braid : sp ≠ .braid) (g_ferry : sp ≠ .ferry) (g_locks : sp ≠ .locks) (g_lanes : sp ≠ .lanes) (g_twin : sp ≠ .twin) (g_eng : sp ≠ .eng) (g_dram : sp ≠ .dram) (g_mems : sp ≠ .mems) (g_crypto : sp ≠ .crypto) (g_fabric : sp ≠ .fabric) (g_bw : sp ≠ .bw) (g_bwx : sp ≠ .bwx) (g_power : sp ≠ .power) (g_debug : sp ≠ .debug) (g_events : sp ≠ .events) : part sp (gateDrained g s) = part sp s := by
  unfold gateDrained
  split <;> simp [*]
@[simp] theorem commitTables_core (f : Nat → Tbl Nat) (s : State) : coreView (commitTables f s) = coreView s := by
  unfold commitTables
  simp
@[simp] theorem commitTables_fuses (f : Nat → Tbl Nat) (s : State) : fuseView (commitTables f s) = fuseView s := fuses_of_core (commitTables_core f s)
@[simp] theorem commitTables_memOk (f : Nat → Tbl Nat) (s : State) : MemOk (commitTables f s) ↔ MemOk s := memOk_of_core (commitTables_core f s)
@[simp] theorem commitTables_part (f : Nat → Tbl Nat) (s : State) {sp : StatePart} (g_braid : sp ≠ .braid) : part sp (commitTables f s) = part sp s := by
  unfold commitTables
  simp [*]
@[simp] theorem setMaint_core (m : Option Maint) (s : State) : coreView (setMaint m s) = coreView s := by
  rfl
@[simp] theorem setMaint_fuses (m : Option Maint) (s : State) : fuseView (setMaint m s) = fuseView s := fuses_of_core (setMaint_core m s)
@[simp] theorem setMaint_memOk (m : Option Maint) (s : State) : MemOk (setMaint m s) ↔ MemOk s := memOk_of_core (setMaint_core m s)
@[simp] theorem setMaint_part (m : Option Maint) (s : State) {sp : StatePart} (g_braid : sp ≠ .braid) : part sp (setMaint m s) = part sp s := by
  cases sp <;> first | rfl | contradiction
@[simp] theorem maintTimeout_core (g : Nat) (s : State) : coreView (maintTimeout g s) = coreView s := by
  unfold maintTimeout
  repeat' split
  all_goals simp [*]
@[simp] theorem maintTimeout_fuses (g : Nat) (s : State) : fuseView (maintTimeout g s) = fuseView s := fuses_of_core (maintTimeout_core g s)
@[simp] theorem maintTimeout_memOk (g : Nat) (s : State) : MemOk (maintTimeout g s) ↔ MemOk s := memOk_of_core (maintTimeout_core g s)
@[simp] theorem maintTimeout_part (g : Nat) (s : State) {sp : StatePart} (g_braid : sp ≠ .braid) (g_ferry : sp ≠ .ferry) (g_twin : sp ≠ .twin) (g_debug : sp ≠ .debug) (g_events : sp ≠ .events) : part sp (maintTimeout g s) = part sp s := by
  unfold maintTimeout
  repeat' split
  all_goals simp [*]
@[simp] theorem drainTimeout_core (g : Nat) (s : State) : coreView (drainTimeout g s) = coreView s := by
  unfold drainTimeout
  split <;> simp
@[simp] theorem drainTimeout_fuses (g : Nat) (s : State) : fuseView (drainTimeout g s) = fuseView s := fuses_of_core (drainTimeout_core g s)
@[simp] theorem drainTimeout_memOk (g : Nat) (s : State) : MemOk (drainTimeout g s) ↔ MemOk s := memOk_of_core (drainTimeout_core g s)
@[simp] theorem drainTimeout_part (g : Nat) (s : State) {sp : StatePart} (g_braid : sp ≠ .braid) (g_ferry : sp ≠ .ferry) (g_twin : sp ≠ .twin) (g_fabric : sp ≠ .fabric) (g_power : sp ≠ .power) (g_debug : sp ≠ .debug) (g_events : sp ≠ .events) : part sp (drainTimeout g s) = part sp s := by
  unfold drainTimeout
  split <;> simp [*]
@[simp] theorem drainMaxExpiry_fuses (g : Nat) (s : State) : fuseView (drainMaxExpiry g s) = fuseView s := by
  unfold drainMaxExpiry
  simp [fuses_ite]
@[simp] theorem drainMaxExpiry_memOk (g : Nat) (s : State) (h : MemOk s) : MemOk (drainMaxExpiry g s) := by
  unfold drainMaxExpiry
  dsimp only
  repeat' split
  all_goals simp [*]
@[simp] theorem drainMaxExpiry_part (g : Nat) (s : State) {sp : StatePart} (g_freeCtr : sp ≠ .freeCtr) (g_braid : sp ≠ .braid) (g_ferry : sp ≠ .ferry) (g_locks : sp ≠ .locks) (g_lanes : sp ≠ .lanes) (g_twin : sp ≠ .twin) (g_eng : sp ≠ .eng) (g_dram : sp ≠ .dram) (g_mems : sp ≠ .mems) (g_crypto : sp ≠ .crypto) (g_fabric : sp ≠ .fabric) (g_bw : sp ≠ .bw) (g_bwx : sp ≠ .bwx) (g_power : sp ≠ .power) (g_debug : sp ≠ .debug) (g_events : sp ≠ .events) : part sp (drainMaxExpiry g s) = part sp s := by
  unfold drainMaxExpiry
  simp [part_ite, *]
@[simp] theorem weirFenceBody_core (v : Serving) (s : State) : coreView (weirFenceBody v s).2 = coreView s := by
  unfold weirFenceBody
  dsimp only
  repeat' split
  all_goals simp [*]
@[simp] theorem weirFenceBody_fuses (v : Serving) (s : State) : fuseView (weirFenceBody v s).2 = fuseView s := fuses_of_core (weirFenceBody_core v s)
@[simp] theorem weirFenceBody_memOk (v : Serving) (s : State) : MemOk (weirFenceBody v s).2 ↔ MemOk s := memOk_of_core (weirFenceBody_core v s)
@[simp] theorem weirFenceBody_part (v : Serving) (s : State) {sp : StatePart} (g_braid : sp ≠ .braid) (g_ferry : sp ≠ .ferry) : part sp (weirFenceBody v s).2 = part sp s := by
  unfold weirFenceBody
  dsimp only
  repeat' split
  all_goals simp [*]
@[simp] theorem weirFence_core (s : State) : coreView (weirFence s) = coreView s := by
  unfold weirFence
  simp
@[simp] theorem weirFence_fuses (s : State) : fuseView (weirFence s) = fuseView s := fuses_of_core (weirFence_core s)
@[simp] theorem weirFence_memOk (s : State) : MemOk (weirFence s) ↔ MemOk s := memOk_of_core (weirFence_core s)
@[simp] theorem weirFence_part (s : State) {sp : StatePart} (g_braid : sp ≠ .braid) (g_ferry : sp ≠ .ferry) : part sp (weirFence s) = part sp s := by
  unfold weirFence
  simp [*]
@[simp] theorem weirOpenBody_core (v : Serving) (s : State) : coreView (weirOpenBody v s).2 = coreView s := by
  unfold weirOpenBody
  dsimp only
  repeat' split
  all_goals simp [*]
@[simp] theorem weirOpenBody_fuses (v : Serving) (s : State) : fuseView (weirOpenBody v s).2 = fuseView s := fuses_of_core (weirOpenBody_core v s)
@[simp] theorem weirOpenBody_memOk (v : Serving) (s : State) : MemOk (weirOpenBody v s).2 ↔ MemOk s := memOk_of_core (weirOpenBody_core v s)
@[simp] theorem weirOpenBody_part (v : Serving) (s : State) {sp : StatePart} (g_braid : sp ≠ .braid) (g_ferry : sp ≠ .ferry) (g_twin : sp ≠ .twin) (g_debug : sp ≠ .debug) (g_events : sp ≠ .events) : part sp (weirOpenBody v s).2 = part sp s := by
  unfold weirOpenBody
  dsimp only
  repeat' split
  all_goals simp [*]
@[simp] theorem weirOpen_core (s : State) : coreView (weirOpen s) = coreView s := by
  unfold weirOpen
  simp
@[simp] theorem weirOpen_fuses (s : State) : fuseView (weirOpen s) = fuseView s := fuses_of_core (weirOpen_core s)
@[simp] theorem weirOpen_memOk (s : State) : MemOk (weirOpen s) ↔ MemOk s := memOk_of_core (weirOpen_core s)
@[simp] theorem weirOpen_part (s : State) {sp : StatePart} (g_braid : sp ≠ .braid) (g_ferry : sp ≠ .ferry) (g_twin : sp ≠ .twin) (g_debug : sp ≠ .debug) (g_events : sp ≠ .events) : part sp (weirOpen s) = part sp s := by
  unfold weirOpen
  simp [*]
@[simp] theorem routeLoadBody_core (v : Serving) (s : State) : coreView (routeLoadBody v s).2 = coreView s := by
  unfold routeLoadBody
  dsimp only
  repeat' split
  all_goals simp [*]
@[simp] theorem routeLoadBody_fuses (v : Serving) (s : State) : fuseView (routeLoadBody v s).2 = fuseView s := fuses_of_core (routeLoadBody_core v s)
@[simp] theorem routeLoadBody_memOk (v : Serving) (s : State) : MemOk (routeLoadBody v s).2 ↔ MemOk s := memOk_of_core (routeLoadBody_core v s)
@[simp] theorem routeLoadBody_part (v : Serving) (s : State) {sp : StatePart} (g_braid : sp ≠ .braid) : part sp (routeLoadBody v s).2 = part sp s := by
  unfold routeLoadBody
  dsimp only
  repeat' split
  all_goals simp [*]
@[simp] theorem routeLoad_core (s : State) : coreView (routeLoad s) = coreView s := by
  unfold routeLoad
  simp
@[simp] theorem routeLoad_fuses (s : State) : fuseView (routeLoad s) = fuseView s := fuses_of_core (routeLoad_core s)
@[simp] theorem routeLoad_memOk (s : State) : MemOk (routeLoad s) ↔ MemOk s := memOk_of_core (routeLoad_core s)
@[simp] theorem routeLoad_part (s : State) {sp : StatePart} (g_braid : sp ≠ .braid) (g_ferry : sp ≠ .ferry) : part sp (routeLoad s) = part sp s := by
  unfold routeLoad
  simp [*]
@[simp] theorem routeCommitBody_core (v : Serving) (s : State) : coreView (routeCommitBody v s).2 = coreView s := by
  unfold routeCommitBody
  dsimp only
  repeat' split
  all_goals simp [*]
@[simp] theorem routeCommitBody_fuses (v : Serving) (s : State) : fuseView (routeCommitBody v s).2 = fuseView s := fuses_of_core (routeCommitBody_core v s)
@[simp] theorem routeCommitBody_memOk (v : Serving) (s : State) : MemOk (routeCommitBody v s).2 ↔ MemOk s := memOk_of_core (routeCommitBody_core v s)
@[simp] theorem routeCommitBody_part (v : Serving) (s : State) {sp : StatePart} (g_braid : sp ≠ .braid) (g_ferry : sp ≠ .ferry) (g_twin : sp ≠ .twin) : part sp (routeCommitBody v s).2 = part sp s := by
  unfold routeCommitBody
  dsimp only
  repeat' split
  all_goals simp [*]
@[simp] theorem routeCommit_core (s : State) : coreView (routeCommit s) = coreView s := by
  unfold routeCommit
  simp
@[simp] theorem routeCommit_fuses (s : State) : fuseView (routeCommit s) = fuseView s := fuses_of_core (routeCommit_core s)
@[simp] theorem routeCommit_memOk (s : State) : MemOk (routeCommit s) ↔ MemOk s := memOk_of_core (routeCommit_core s)
@[simp] theorem routeCommit_part (s : State) {sp : StatePart} (g_braid : sp ≠ .braid) (g_ferry : sp ≠ .ferry) (g_twin : sp ≠ .twin) : part sp (routeCommit s) = part sp s := by
  unfold routeCommit
  simp [*]
@[simp] theorem sluiceLoadBody_core (v : Serving) (s : State) : coreView (sluiceLoadBody v s).2 = coreView s := by
  unfold sluiceLoadBody
  dsimp only
  repeat' split
  all_goals simp [*]
@[simp] theorem sluiceLoadBody_fuses (v : Serving) (s : State) : fuseView (sluiceLoadBody v s).2 = fuseView s := fuses_of_core (sluiceLoadBody_core v s)
@[simp] theorem sluiceLoadBody_memOk (v : Serving) (s : State) : MemOk (sluiceLoadBody v s).2 ↔ MemOk s := memOk_of_core (sluiceLoadBody_core v s)
@[simp] theorem sluiceLoadBody_part (v : Serving) (s : State) {sp : StatePart} (g_sluice : sp ≠ .sluice) : part sp (sluiceLoadBody v s).2 = part sp s := by
  unfold sluiceLoadBody
  dsimp only
  repeat' split
  all_goals simp [*]
@[simp] theorem sluiceLoad_core (s : State) : coreView (sluiceLoad s) = coreView s := by
  unfold sluiceLoad
  simp
@[simp] theorem sluiceLoad_fuses (s : State) : fuseView (sluiceLoad s) = fuseView s := fuses_of_core (sluiceLoad_core s)
@[simp] theorem sluiceLoad_memOk (s : State) : MemOk (sluiceLoad s) ↔ MemOk s := memOk_of_core (sluiceLoad_core s)
@[simp] theorem sluiceLoad_part (s : State) {sp : StatePart} (g_sluice : sp ≠ .sluice) (g_ferry : sp ≠ .ferry) : part sp (sluiceLoad s) = part sp s := by
  unfold sluiceLoad
  simp [*]
@[simp] theorem startCommit_core (kind : CommitKind) (new : List Flow) (now : Nat) (s : State) : coreView (startCommit kind new now s) = coreView s := by
  rfl
@[simp] theorem startCommit_fuses (kind : CommitKind) (new : List Flow) (now : Nat) (s : State) : fuseView (startCommit kind new now s) = fuseView s := fuses_of_core (startCommit_core kind new now s)
@[simp] theorem startCommit_memOk (kind : CommitKind) (new : List Flow) (now : Nat) (s : State) : MemOk (startCommit kind new now s) ↔ MemOk s := memOk_of_core (startCommit_core kind new now s)
@[simp] theorem startCommit_part (kind : CommitKind) (new : List Flow) (now : Nat) (s : State) {sp : StatePart} (g_braid : sp ≠ .braid) (g_sluice : sp ≠ .sluice) : part sp (startCommit kind new now s) = part sp s := by
  cases sp <;> first | rfl | contradiction
@[simp] theorem sluiceCommitBody_core (v : Serving) (s : State) : coreView (sluiceCommitBody v s).2 = coreView s := by
  unfold sluiceCommitBody
  repeat' split
  all_goals simp [*]
@[simp] theorem sluiceCommitBody_fuses (v : Serving) (s : State) : fuseView (sluiceCommitBody v s).2 = fuseView s := fuses_of_core (sluiceCommitBody_core v s)
@[simp] theorem sluiceCommitBody_memOk (v : Serving) (s : State) : MemOk (sluiceCommitBody v s).2 ↔ MemOk s := memOk_of_core (sluiceCommitBody_core v s)
@[simp] theorem sluiceCommitBody_part (v : Serving) (s : State) {sp : StatePart} (g_braid : sp ≠ .braid) (g_sluice : sp ≠ .sluice) (g_ferry : sp ≠ .ferry) (g_twin : sp ≠ .twin) : part sp (sluiceCommitBody v s).2 = part sp s := by
  unfold sluiceCommitBody
  repeat' split
  all_goals simp [*]
@[simp] theorem sluiceCommit_core (s : State) : coreView (sluiceCommit s) = coreView s := by
  unfold sluiceCommit
  simp
@[simp] theorem sluiceCommit_fuses (s : State) : fuseView (sluiceCommit s) = fuseView s := fuses_of_core (sluiceCommit_core s)
@[simp] theorem sluiceCommit_memOk (s : State) : MemOk (sluiceCommit s) ↔ MemOk s := memOk_of_core (sluiceCommit_core s)
@[simp] theorem sluiceCommit_part (s : State) {sp : StatePart} (g_braid : sp ≠ .braid) (g_sluice : sp ≠ .sluice) (g_ferry : sp ≠ .ferry) (g_twin : sp ≠ .twin) : part sp (sluiceCommit s) = part sp s := by
  unfold sluiceCommit
  simp [*]
@[simp] theorem startMaint_core (r : Nat) (action : Nat) (port : Nat) (force : Bool) (j : Nat) (s : State) : coreView (startMaint r action port force j s) = coreView s := by
  unfold startMaint
  simp
@[simp] theorem startMaint_fuses (r : Nat) (action : Nat) (port : Nat) (force : Bool) (j : Nat) (s : State) : fuseView (startMaint r action port force j s) = fuseView s := fuses_of_core (startMaint_core r action port force j s)
@[simp] theorem startMaint_memOk (r : Nat) (action : Nat) (port : Nat) (force : Bool) (j : Nat) (s : State) : MemOk (startMaint r action port force j s) ↔ MemOk s := memOk_of_core (startMaint_core r action port force j s)
@[simp] theorem startMaint_part (r : Nat) (action : Nat) (port : Nat) (force : Bool) (j : Nat) (s : State) {sp : StatePart} (g_braid : sp ≠ .braid) : part sp (startMaint r action port force j s) = part sp s := by
  unfold startMaint
  simp [*]
@[simp] theorem routerMaintBody_core (v : Serving) (s : State) : coreView (routerMaintBody v s).2 = coreView s := by
  unfold routerMaintBody
  dsimp only
  repeat' split
  all_goals simp [*]
@[simp] theorem routerMaintBody_fuses (v : Serving) (s : State) : fuseView (routerMaintBody v s).2 = fuseView s := fuses_of_core (routerMaintBody_core v s)
@[simp] theorem routerMaintBody_memOk (v : Serving) (s : State) : MemOk (routerMaintBody v s).2 ↔ MemOk s := memOk_of_core (routerMaintBody_core v s)
@[simp] theorem routerMaintBody_part (v : Serving) (s : State) {sp : StatePart} (g_braid : sp ≠ .braid) (g_ferry : sp ≠ .ferry) : part sp (routerMaintBody v s).2 = part sp s := by
  unfold routerMaintBody
  dsimp only
  repeat' split
  all_goals simp [*]
@[simp] theorem routerMaint_core (s : State) : coreView (routerMaint s) = coreView s := by
  unfold routerMaint
  simp
@[simp] theorem routerMaint_fuses (s : State) : fuseView (routerMaint s) = fuseView s := fuses_of_core (routerMaint_core s)
@[simp] theorem routerMaint_memOk (s : State) : MemOk (routerMaint s) ↔ MemOk s := memOk_of_core (routerMaint_core s)
@[simp] theorem routerMaint_part (s : State) {sp : StatePart} (g_braid : sp ≠ .braid) (g_ferry : sp ≠ .ferry) : part sp (routerMaint s) = part sp s := by
  unfold routerMaint
  simp [*]
@[simp] theorem clearRouter_core (r : Nat) (s : State) : coreView (clearRouter r s) = coreView s := by
  rfl
@[simp] theorem clearRouter_fuses (r : Nat) (s : State) : fuseView (clearRouter r s) = fuseView s := fuses_of_core (clearRouter_core r s)
@[simp] theorem clearRouter_memOk (r : Nat) (s : State) : MemOk (clearRouter r s) ↔ MemOk s := memOk_of_core (clearRouter_core r s)
@[simp] theorem clearRouter_part (r : Nat) (s : State) {sp : StatePart} (g_braid : sp ≠ .braid) : part sp (clearRouter r s) = part sp s := by
  cases sp <;> first | rfl | contradiction
@[simp] theorem enablePort_core (r : Nat) (port : Nat) (s : State) : coreView (enablePort r port s) = coreView s := by
  unfold enablePort
  repeat' split
  all_goals simp [*]
@[simp] theorem enablePort_fuses (r : Nat) (port : Nat) (s : State) : fuseView (enablePort r port s) = fuseView s := fuses_of_core (enablePort_core r port s)
@[simp] theorem enablePort_memOk (r : Nat) (port : Nat) (s : State) : MemOk (enablePort r port s) ↔ MemOk s := memOk_of_core (enablePort_core r port s)
@[simp] theorem enablePort_part (r : Nat) (port : Nat) (s : State) {sp : StatePart} (g_braid : sp ≠ .braid) : part sp (enablePort r port s) = part sp s := by
  unfold enablePort
  repeat' split
  all_goals simp [*]
@[simp] theorem maintAction_core (m : Maint) (s : State) : coreView (maintAction m s) = coreView s := by
  unfold maintAction
  split <;> simp
@[simp] theorem maintAction_fuses (m : Maint) (s : State) : fuseView (maintAction m s) = fuseView s := fuses_of_core (maintAction_core m s)
@[simp] theorem maintAction_memOk (m : Maint) (s : State) : MemOk (maintAction m s) ↔ MemOk s := memOk_of_core (maintAction_core m s)
@[simp] theorem maintAction_part (m : Maint) (s : State) {sp : StatePart} (g_braid : sp ≠ .braid) : part sp (maintAction m s) = part sp s := by
  unfold maintAction
  split <;> simp [*]
@[simp] theorem maintPerform_core (m : Maint) (testPassed : Bool) (s : State) : coreView (maintPerform m testPassed s) = coreView s := by
  unfold maintPerform
  simp [core_ite]
@[simp] theorem maintPerform_fuses (m : Maint) (testPassed : Bool) (s : State) : fuseView (maintPerform m testPassed s) = fuseView s := fuses_of_core (maintPerform_core m testPassed s)
@[simp] theorem maintPerform_memOk (m : Maint) (testPassed : Bool) (s : State) : MemOk (maintPerform m testPassed s) ↔ MemOk s := memOk_of_core (maintPerform_core m testPassed s)
@[simp] theorem maintPerform_part (m : Maint) (testPassed : Bool) (s : State) {sp : StatePart} (g_braid : sp ≠ .braid) (g_ferry : sp ≠ .ferry) (g_twin : sp ≠ .twin) (g_debug : sp ≠ .debug) (g_events : sp ≠ .events) : part sp (maintPerform m testPassed s) = part sp s := by
  unfold maintPerform
  simp [part_ite, *]
@[simp] theorem routerMaintStep_core (testPassed : Bool) (s : State) : coreView (routerMaintStep testPassed s) = coreView s := by
  unfold routerMaintStep
  dsimp only
  repeat' split
  all_goals simp [*]
@[simp] theorem routerMaintStep_fuses (testPassed : Bool) (s : State) : fuseView (routerMaintStep testPassed s) = fuseView s := fuses_of_core (routerMaintStep_core testPassed s)
@[simp] theorem routerMaintStep_memOk (testPassed : Bool) (s : State) : MemOk (routerMaintStep testPassed s) ↔ MemOk s := memOk_of_core (routerMaintStep_core testPassed s)
@[simp] theorem routerMaintStep_part (testPassed : Bool) (s : State) {sp : StatePart} (g_braid : sp ≠ .braid) (g_ferry : sp ≠ .ferry) (g_twin : sp ≠ .twin) (g_debug : sp ≠ .debug) (g_events : sp ≠ .events) : part sp (routerMaintStep testPassed s) = part sp s := by
  unfold routerMaintStep
  dsimp only
  repeat' split
  all_goals simp [*]
@[simp] theorem requantum_core (q : Nat) (s : State) : coreView (requantum q s) = coreView s := by
  rfl
@[simp] theorem requantum_fuses (q : Nat) (s : State) : fuseView (requantum q s) = fuseView s := fuses_of_core (requantum_core q s)
@[simp] theorem requantum_memOk (q : Nat) (s : State) : MemOk (requantum q s) ↔ MemOk s := memOk_of_core (requantum_core q s)
@[simp] theorem requantum_part (q : Nat) (s : State) {sp : StatePart} (g_braid : sp ≠ .braid) : part sp (requantum q s) = part sp s := by
  cases sp <;> first | rfl | contradiction
@[simp] theorem newHold_core (v : Nat) (s : State) : coreView (newHold v s) = coreView s := by
  unfold newHold
  simp
@[simp] theorem newHold_fuses (v : Nat) (s : State) : fuseView (newHold v s) = fuseView s := fuses_of_core (newHold_core v s)
@[simp] theorem newHold_memOk (v : Nat) (s : State) : MemOk (newHold v s) ↔ MemOk s := memOk_of_core (newHold_core v s)
@[simp] theorem newHold_part (v : Nat) (s : State) {sp : StatePart} (g_braid : sp ≠ .braid) (g_locks : sp ≠ .locks) (g_events : sp ≠ .events) : part sp (newHold v s) = part sp s := by
  unfold newHold
  simp [*]
@[simp] theorem applyTimeout_core (sel : Nat) (v : Nat) (s : State) : coreView (applyTimeout sel v s) = coreView s := by
  unfold applyTimeout
  split <;> simp
@[simp] theorem applyTimeout_fuses (sel : Nat) (v : Nat) (s : State) : fuseView (applyTimeout sel v s) = fuseView s := fuses_of_core (applyTimeout_core sel v s)
@[simp] theorem applyTimeout_memOk (sel : Nat) (v : Nat) (s : State) : MemOk (applyTimeout sel v s) ↔ MemOk s := memOk_of_core (applyTimeout_core sel v s)
@[simp] theorem applyTimeout_part (sel : Nat) (v : Nat) (s : State) {sp : StatePart} (g_braid : sp ≠ .braid) (g_locks : sp ≠ .locks) (g_events : sp ≠ .events) : part sp (applyTimeout sel v s) = part sp s := by
  unfold applyTimeout
  split <;> simp [*]
@[simp] theorem timeoutSetBody_core (v : Serving) (s : State) : coreView (timeoutSetBody v s).2 = coreView s := by
  unfold timeoutSetBody
  split <;> simp
@[simp] theorem timeoutSetBody_fuses (v : Serving) (s : State) : fuseView (timeoutSetBody v s).2 = fuseView s := fuses_of_core (timeoutSetBody_core v s)
@[simp] theorem timeoutSetBody_memOk (v : Serving) (s : State) : MemOk (timeoutSetBody v s).2 ↔ MemOk s := memOk_of_core (timeoutSetBody_core v s)
@[simp] theorem timeoutSetBody_part (v : Serving) (s : State) {sp : StatePart} (g_braid : sp ≠ .braid) (g_locks : sp ≠ .locks) (g_events : sp ≠ .events) : part sp (timeoutSetBody v s).2 = part sp s := by
  unfold timeoutSetBody
  split <;> simp [*]
@[simp] theorem timeoutSet_core (s : State) : coreView (timeoutSet s) = coreView s := by
  unfold timeoutSet
  simp
@[simp] theorem timeoutSet_fuses (s : State) : fuseView (timeoutSet s) = fuseView s := fuses_of_core (timeoutSet_core s)
@[simp] theorem timeoutSet_memOk (s : State) : MemOk (timeoutSet s) ↔ MemOk s := memOk_of_core (timeoutSet_core s)
@[simp] theorem timeoutSet_part (s : State) {sp : StatePart} (g_braid : sp ≠ .braid) (g_ferry : sp ≠ .ferry) (g_locks : sp ≠ .locks) (g_events : sp ≠ .events) : part sp (timeoutSet s) = part sp s := by
  unfold timeoutSet
  simp [*]
@[simp] theorem syncError_core (s : State) : coreView (syncError s) = coreView s := by
  rfl
@[simp] theorem syncError_fuses (s : State) : fuseView (syncError s) = fuseView s := fuses_of_core (syncError_core s)
@[simp] theorem syncError_memOk (s : State) : MemOk (syncError s) ↔ MemOk s := memOk_of_core (syncError_core s)
@[simp] theorem syncError_part (s : State) {sp : StatePart} (g_bw : sp ≠ .bw) : part sp (syncError s) = part sp s := by
  cases sp <;> first | rfl | contradiction
@[simp] theorem bwLock_core (twoClock : Bool) (s : State) : coreView (bwLock twoClock s) = coreView s := by
  unfold bwLock
  simp
@[simp] theorem bwLock_fuses (twoClock : Bool) (s : State) : fuseView (bwLock twoClock s) = fuseView s := fuses_of_core (bwLock_core twoClock s)
@[simp] theorem bwLock_memOk (twoClock : Bool) (s : State) : MemOk (bwLock twoClock s) ↔ MemOk s := memOk_of_core (bwLock_core twoClock s)
@[simp] theorem bwLock_part (twoClock : Bool) (s : State) {sp : StatePart} (g_braid : sp ≠ .braid) (g_ferry : sp ≠ .ferry) (g_twin : sp ≠ .twin) (g_bw : sp ≠ .bw) (g_bwx : sp ≠ .bwx) (g_debug : sp ≠ .debug) (g_events : sp ≠ .events) : part sp (bwLock twoClock s) = part sp s := by
  unfold bwLock
  simp [*]
@[simp] theorem bwHunt_core (s : State) : coreView (bwHunt s) = coreView s := by
  rfl
@[simp] theorem bwHunt_fuses (s : State) : fuseView (bwHunt s) = fuseView s := fuses_of_core (bwHunt_core s)
@[simp] theorem bwHunt_memOk (s : State) : MemOk (bwHunt s) ↔ MemOk s := memOk_of_core (bwHunt_core s)
@[simp] theorem bwHunt_part (s : State) {sp : StatePart} (g_bw : sp ≠ .bw) : part sp (bwHunt s) = part sp s := by
  cases sp <;> first | rfl | contradiction
@[simp] theorem bwMultiframe_core (ending : Bool) (s : State) : coreView (bwMultiframe ending s) = coreView s := by
  unfold bwMultiframe
  simp [core_ite]
@[simp] theorem bwMultiframe_fuses (ending : Bool) (s : State) : fuseView (bwMultiframe ending s) = fuseView s := fuses_of_core (bwMultiframe_core ending s)
@[simp] theorem bwMultiframe_memOk (ending : Bool) (s : State) : MemOk (bwMultiframe ending s) ↔ MemOk s := memOk_of_core (bwMultiframe_core ending s)
@[simp] theorem bwMultiframe_part (ending : Bool) (s : State) {sp : StatePart} (g_bw : sp ≠ .bw) : part sp (bwMultiframe ending s) = part sp s := by
  unfold bwMultiframe
  simp [part_ite, *]
@[simp] theorem syncPulse_core (width : Nat) (position : Nat) (s : State) : coreView (syncPulse width position s) = coreView s := by
  unfold syncPulse
  simp [core_ite]
@[simp] theorem syncPulse_fuses (width : Nat) (position : Nat) (s : State) : fuseView (syncPulse width position s) = fuseView s := fuses_of_core (syncPulse_core width position s)
@[simp] theorem syncPulse_memOk (width : Nat) (position : Nat) (s : State) : MemOk (syncPulse width position s) ↔ MemOk s := memOk_of_core (syncPulse_core width position s)
@[simp] theorem syncPulse_part (width : Nat) (position : Nat) (s : State) {sp : StatePart} (g_braid : sp ≠ .braid) (g_ferry : sp ≠ .ferry) (g_twin : sp ≠ .twin) (g_bw : sp ≠ .bw) (g_bwx : sp ≠ .bwx) (g_debug : sp ≠ .debug) (g_events : sp ≠ .events) : part sp (syncPulse width position s) = part sp s := by
  unfold syncPulse
  simp [part_ite, *]
@[simp] theorem clockLoss_core (s : State) : coreView (clockLoss s) = coreView s := by
  unfold clockLoss
  split <;> simp
@[simp] theorem clockLoss_fuses (s : State) : fuseView (clockLoss s) = fuseView s := fuses_of_core (clockLoss_core s)
@[simp] theorem clockLoss_memOk (s : State) : MemOk (clockLoss s) ↔ MemOk s := memOk_of_core (clockLoss_core s)
@[simp] theorem clockLoss_part (s : State) {sp : StatePart} (g_braid : sp ≠ .braid) (g_bw : sp ≠ .bw) (g_events : sp ≠ .events) : part sp (clockLoss s) = part sp s := by
  unfold clockLoss
  split <;> simp [*]
@[simp] theorem slotZero_core (h : Nat) (v : Byte) (s : State) : coreView (slotZero h v s) = coreView s := by
  unfold slotZero
  split <;> simp
@[simp] theorem slotZero_fuses (h : Nat) (v : Byte) (s : State) : fuseView (slotZero h v s) = fuseView s := fuses_of_core (slotZero_core h v s)
@[simp] theorem slotZero_memOk (h : Nat) (v : Byte) (s : State) : MemOk (slotZero h v s) ↔ MemOk s := memOk_of_core (slotZero_core h v s)
@[simp] theorem slotZero_part (h : Nat) (v : Byte) (s : State) {sp : StatePart} (g_braid : sp ≠ .braid) (g_bw : sp ≠ .bw) (g_events : sp ≠ .events) : part sp (slotZero h v s) = part sp s := by
  unfold slotZero
  split <;> simp [*]
@[simp] theorem missingSync_core (s : State) : coreView (missingSync s) = coreView s := by
  unfold missingSync
  simp [core_ite]
@[simp] theorem missingSync_fuses (s : State) : fuseView (missingSync s) = fuseView s := fuses_of_core (missingSync_core s)
@[simp] theorem missingSync_memOk (s : State) : MemOk (missingSync s) ↔ MemOk s := memOk_of_core (missingSync_core s)
@[simp] theorem missingSync_part (s : State) {sp : StatePart} (g_braid : sp ≠ .braid) (g_bw : sp ≠ .bw) (g_events : sp ≠ .events) : part sp (missingSync s) = part sp s := by
  unfold missingSync
  simp [part_ite, *]
@[simp] theorem bwFrame_core (slots : Tbl Byte) (syncMissing : Bool) (s : State) : coreView (bwFrame slots syncMissing s) = coreView s := by
  unfold bwFrame
  simp [core_ite]
@[simp] theorem bwFrame_fuses (slots : Tbl Byte) (syncMissing : Bool) (s : State) : fuseView (bwFrame slots syncMissing s) = fuseView s := fuses_of_core (bwFrame_core slots syncMissing s)
@[simp] theorem bwFrame_memOk (slots : Tbl Byte) (syncMissing : Bool) (s : State) : MemOk (bwFrame slots syncMissing s) ↔ MemOk s := memOk_of_core (bwFrame_core slots syncMissing s)
@[simp] theorem bwFrame_part (slots : Tbl Byte) (syncMissing : Bool) (s : State) {sp : StatePart} (g_braid : sp ≠ .braid) (g_bw : sp ≠ .bw) (g_bwx : sp ≠ .bwx) (g_events : sp ≠ .events) : part sp (bwFrame slots syncMissing s) = part sp s := by
  unfold bwFrame
  simp [part_ite, *]
@[simp] theorem multiframeBoundary_core (s : State) : coreView (multiframeBoundary s) = coreView s := by
  unfold multiframeBoundary
  split <;> simp
@[simp] theorem multiframeBoundary_fuses (s : State) : fuseView (multiframeBoundary s) = fuseView s := fuses_of_core (multiframeBoundary_core s)
@[simp] theorem multiframeBoundary_memOk (s : State) : MemOk (multiframeBoundary s) ↔ MemOk s := memOk_of_core (multiframeBoundary_core s)
@[simp] theorem multiframeBoundary_part (s : State) {sp : StatePart} (g_braid : sp ≠ .braid) (g_ferry : sp ≠ .ferry) (g_twin : sp ≠ .twin) (g_bw : sp ≠ .bw) (g_debug : sp ≠ .debug) (g_events : sp ≠ .events) : part sp (multiframeBoundary s) = part sp s := by
  unfold multiframeBoundary
  split <;> simp [*]
@[simp] theorem braidTxSend_core (s : State) : coreView (braidTxSend s) = coreView s := by
  unfold braidTxSend
  split <;> simp
@[simp] theorem braidTxSend_fuses (s : State) : fuseView (braidTxSend s) = fuseView s := fuses_of_core (braidTxSend_core s)
@[simp] theorem braidTxSend_memOk (s : State) : MemOk (braidTxSend s) ↔ MemOk s := memOk_of_core (braidTxSend_core s)
@[simp] theorem braidTxSend_part (s : State) {sp : StatePart} (g_braid : sp ≠ .braid) (g_eng : sp ≠ .eng) (g_bw : sp ≠ .bw) (g_events : sp ≠ .events) : part sp (braidTxSend s) = part sp s := by
  unfold braidTxSend
  split <;> simp [*]
@[simp] theorem ringWrite_core (pid : Nat) (s : State) : coreView (ringWrite pid s) = coreView s := by
  unfold ringWrite
  dsimp only
  repeat' split
  all_goals simp [*]
@[simp] theorem ringWrite_fuses (pid : Nat) (s : State) : fuseView (ringWrite pid s) = fuseView s := fuses_of_core (ringWrite_core pid s)
@[simp] theorem ringWrite_memOk (pid : Nat) (s : State) : MemOk (ringWrite pid s) ↔ MemOk s := memOk_of_core (ringWrite_core pid s)
@[simp] theorem ringWrite_part (pid : Nat) (s : State) {sp : StatePart} (g_braid : sp ≠ .braid) (g_bw : sp ≠ .bw) (g_events : sp ≠ .events) : part sp (ringWrite pid s) = part sp s := by
  unfold ringWrite
  dsimp only
  repeat' split
  all_goals simp [*]
@[simp] theorem ringConsume_core (s : State) : coreView (ringConsume s) = coreView s := by
  unfold ringConsume
  simp [core_ite]
@[simp] theorem ringConsume_fuses (s : State) : fuseView (ringConsume s) = fuseView s := fuses_of_core (ringConsume_core s)
@[simp] theorem ringConsume_memOk (s : State) : MemOk (ringConsume s) ↔ MemOk s := memOk_of_core (ringConsume_core s)
@[simp] theorem ringConsume_part (s : State) {sp : StatePart} (g_braid : sp ≠ .braid) (g_bw : sp ≠ .bw) (g_bwx : sp ≠ .bwx) (g_events : sp ≠ .events) : part sp (ringConsume s) = part sp s := by
  unfold ringConsume
  simp [part_ite, *]
@[simp] theorem bwRelease_core (s : State) : coreView (bwRelease s) = coreView s := by
  rfl
@[simp] theorem bwRelease_fuses (s : State) : fuseView (bwRelease s) = fuseView s := fuses_of_core (bwRelease_core s)
@[simp] theorem bwRelease_memOk (s : State) : MemOk (bwRelease s) ↔ MemOk s := memOk_of_core (bwRelease_core s)
@[simp] theorem bwRelease_part (s : State) {sp : StatePart} (g_bw : sp ≠ .bw) : part sp (bwRelease s) = part sp s := by
  cases sp <;> first | rfl | contradiction
@[simp] theorem bwStart_core (v : Serving) (j : Nat) (s : State) : coreView (bwStart v j s) = coreView s := by
  unfold bwStart
  simp
@[simp] theorem bwStart_fuses (v : Serving) (j : Nat) (s : State) : fuseView (bwStart v j s) = fuseView s := fuses_of_core (bwStart_core v j s)
@[simp] theorem bwStart_memOk (v : Serving) (j : Nat) (s : State) : MemOk (bwStart v j s) ↔ MemOk s := memOk_of_core (bwStart_core v j s)
@[simp] theorem bwStart_part (v : Serving) (j : Nat) (s : State) {sp : StatePart} (g_braid : sp ≠ .braid) (g_ferry : sp ≠ .ferry) (g_twin : sp ≠ .twin) (g_bw : sp ≠ .bw) (g_bwx : sp ≠ .bwx) (g_debug : sp ≠ .debug) (g_events : sp ≠ .events) : part sp (bwStart v j s) = part sp s := by
  unfold bwStart
  simp [*]
@[simp] theorem bwInitBody_core (v : Serving) (s : State) : coreView (bwInitBody v s).2 = coreView s := by
  unfold bwInitBody
  dsimp only
  repeat' split
  all_goals first | (simp [*]; done) | (rename_i h; simp [*, wakeFor_core h]; done) | (rename_i h _; simp [*, wakeFor_core h]; done) | (rename_i h _ _; simp [*, wakeFor_core h]; done) | (rename_i h _ _ _; simp [*, wakeFor_core h]; done) | (rename_i h _ _ _ _; simp [*, wakeFor_core h]; done) | rfl
@[simp] theorem bwInitBody_fuses (v : Serving) (s : State) : fuseView (bwInitBody v s).2 = fuseView s := fuses_of_core (bwInitBody_core v s)
@[simp] theorem bwInitBody_memOk (v : Serving) (s : State) : MemOk (bwInitBody v s).2 ↔ MemOk s := memOk_of_core (bwInitBody_core v s)
@[simp] theorem bwInitBody_part (v : Serving) (s : State) {sp : StatePart} (g_braid : sp ≠ .braid) (g_ferry : sp ≠ .ferry) (g_lanes : sp ≠ .lanes) (g_delta : sp ≠ .delta) (g_twin : sp ≠ .twin) (g_eng : sp ≠ .eng) (g_dram : sp ≠ .dram) (g_mems : sp ≠ .mems) (g_fabric : sp ≠ .fabric) (g_bw : sp ≠ .bw) (g_bwx : sp ≠ .bwx) (g_power : sp ≠ .power) (g_debug : sp ≠ .debug) (g_events : sp ≠ .events) : part sp (bwInitBody v s).2 = part sp s := by
  unfold bwInitBody
  dsimp only
  repeat' split
  all_goals first | (simp [*]; done) | (rename_i h; simp [*, wakeFor_part h]; done) | (rename_i h _; simp [*, wakeFor_part h]; done) | (rename_i h _ _; simp [*, wakeFor_part h]; done) | (rename_i h _ _ _; simp [*, wakeFor_part h]; done) | (rename_i h _ _ _ _; simp [*, wakeFor_part h]; done) | (simp [*]; cases sp <;> first | rfl | contradiction) | (cases sp <;> first | rfl | contradiction)
@[simp] theorem bwInit_core (s : State) : coreView (bwInit s) = coreView s := by
  unfold bwInit
  simp
@[simp] theorem bwInit_fuses (s : State) : fuseView (bwInit s) = fuseView s := fuses_of_core (bwInit_core s)
@[simp] theorem bwInit_memOk (s : State) : MemOk (bwInit s) ↔ MemOk s := memOk_of_core (bwInit_core s)
@[simp] theorem bwInit_part (s : State) {sp : StatePart} (g_braid : sp ≠ .braid) (g_ferry : sp ≠ .ferry) (g_lanes : sp ≠ .lanes) (g_delta : sp ≠ .delta) (g_twin : sp ≠ .twin) (g_eng : sp ≠ .eng) (g_dram : sp ≠ .dram) (g_mems : sp ≠ .mems) (g_fabric : sp ≠ .fabric) (g_bw : sp ≠ .bw) (g_bwx : sp ≠ .bwx) (g_power : sp ≠ .power) (g_debug : sp ≠ .debug) (g_events : sp ≠ .events) : part sp (bwInit s) = part sp s := by
  unfold bwInit
  simp [*]
@[simp] theorem bwLockTimeout_core (s : State) : coreView (bwLockTimeout s) = coreView s := by
  unfold bwLockTimeout
  split <;> simp
@[simp] theorem bwLockTimeout_fuses (s : State) : fuseView (bwLockTimeout s) = fuseView s := fuses_of_core (bwLockTimeout_core s)
@[simp] theorem bwLockTimeout_memOk (s : State) : MemOk (bwLockTimeout s) ↔ MemOk s := memOk_of_core (bwLockTimeout_core s)
@[simp] theorem bwLockTimeout_part (s : State) {sp : StatePart} (g_braid : sp ≠ .braid) (g_ferry : sp ≠ .ferry) (g_twin : sp ≠ .twin) (g_bwx : sp ≠ .bwx) (g_debug : sp ≠ .debug) (g_events : sp ≠ .events) : part sp (bwLockTimeout s) = part sp s := by
  unfold bwLockTimeout
  split <;> simp [*]
@[simp] theorem bwConnectBody_core (v : Serving) (s : State) : coreView (bwConnectBody v s).2 = coreView s := by
  unfold bwConnectBody
  dsimp only
  repeat' split
  all_goals simp [*]
@[simp] theorem bwConnectBody_fuses (v : Serving) (s : State) : fuseView (bwConnectBody v s).2 = fuseView s := fuses_of_core (bwConnectBody_core v s)
@[simp] theorem bwConnectBody_memOk (v : Serving) (s : State) : MemOk (bwConnectBody v s).2 ↔ MemOk s := memOk_of_core (bwConnectBody_core v s)
@[simp] theorem bwConnectBody_part (v : Serving) (s : State) {sp : StatePart} (g_ferry : sp ≠ .ferry) (g_bw : sp ≠ .bw) : part sp (bwConnectBody v s).2 = part sp s := by
  unfold bwConnectBody
  dsimp only
  repeat' split
  all_goals simp [*]
@[simp] theorem bwConnect_core (s : State) : coreView (bwConnect s) = coreView s := by
  unfold bwConnect
  simp
@[simp] theorem bwConnect_fuses (s : State) : fuseView (bwConnect s) = fuseView s := fuses_of_core (bwConnect_core s)
@[simp] theorem bwConnect_memOk (s : State) : MemOk (bwConnect s) ↔ MemOk s := memOk_of_core (bwConnect_core s)
@[simp] theorem bwConnect_part (s : State) {sp : StatePart} (g_ferry : sp ≠ .ferry) (g_bw : sp ≠ .bw) : part sp (bwConnect s) = part sp s := by
  unfold bwConnect
  simp [*]
@[simp] theorem bwStatusBody_core (v : Serving) (s : State) : coreView (bwStatusBody v s).2 = coreView s := by
  unfold bwStatusBody
  repeat' split
  all_goals simp [*]
@[simp] theorem bwStatusBody_fuses (v : Serving) (s : State) : fuseView (bwStatusBody v s).2 = fuseView s := fuses_of_core (bwStatusBody_core v s)
@[simp] theorem bwStatusBody_memOk (v : Serving) (s : State) : MemOk (bwStatusBody v s).2 ↔ MemOk s := memOk_of_core (bwStatusBody_core v s)
@[simp] theorem bwStatusBody_part (v : Serving) (s : State) {sp : StatePart} (g_bw : sp ≠ .bw) : part sp (bwStatusBody v s).2 = part sp s := by
  unfold bwStatusBody
  repeat' split
  all_goals simp [*]
@[simp] theorem bwStatus_core (s : State) : coreView (bwStatus s) = coreView s := by
  unfold bwStatus
  simp
@[simp] theorem bwStatus_fuses (s : State) : fuseView (bwStatus s) = fuseView s := fuses_of_core (bwStatus_core s)
@[simp] theorem bwStatus_memOk (s : State) : MemOk (bwStatus s) ↔ MemOk s := memOk_of_core (bwStatus_core s)
@[simp] theorem bwStatus_part (s : State) {sp : StatePart} (g_ferry : sp ≠ .ferry) (g_bw : sp ≠ .bw) : part sp (bwStatus s) = part sp s := by
  unfold bwStatus
  simp [*]

end Sys2Proof.Machine
end

