-- ==== Sys2Proof/Laws/FramePower.lean ====
section
/-! SUPPORT. Frame lemmas of power, boot, the Stylus and time: which parts of the state each function leaves alone, which leave the fuses and the bytes of memory alone, and that the others keep memory in its canonical form. -/

set_option linter.all false

namespace Sys2Proof.Machine
open Sys2Proof

@[simp] theorem domainOffReply_fuses (d : Nat) (s : State) : fuseView (domainOffReply d s).2 = fuseView s := by
  unfold domainOffReply
  repeat' split
  all_goals simp [*]
@[simp] theorem domainOffReply_memOk (d : Nat) (s : State) (h : MemOk s) : MemOk (domainOffReply d s).2 := by
  unfold domainOffReply
  repeat' split
  all_goals simp [*]
@[simp] theorem domainOffReply_part (d : Nat) (s : State) {sp : StatePart} (g_braid : sp ≠ .braid) (g_ferry : sp ≠ .ferry) (g_locks : sp ≠ .locks) (g_lanes : sp ≠ .lanes) (g_twin : sp ≠ .twin) (g_eng : sp ≠ .eng) (g_dram : sp ≠ .dram) (g_mems : sp ≠ .mems) (g_crypto : sp ≠ .crypto) (g_fabric : sp ≠ .fabric) (g_bw : sp ≠ .bw) (g_bwx : sp ≠ .bwx) (g_power : sp ≠ .power) (g_debug : sp ≠ .debug) (g_events : sp ≠ .events) : part sp (domainOffReply d s).2 = part sp s := by
  unfold domainOffReply
  repeat' split
  all_goals simp [*]
@[simp] theorem domainOnReply_core (d : Nat) (s : State) : coreView (domainOnReply d s).2 = coreView s := by
  unfold domainOnReply
  dsimp only
  repeat' split
  all_goals simp [*]
@[simp] theorem domainOnReply_fuses (d : Nat) (s : State) : fuseView (domainOnReply d s).2 = fuseView s := fuses_of_core (domainOnReply_core d s)
@[simp] theorem domainOnReply_memOk (d : Nat) (s : State) : MemOk (domainOnReply d s).2 ↔ MemOk s := memOk_of_core (domainOnReply_core d s)
@[simp] theorem domainOnReply_part (d : Nat) (s : State) {sp : StatePart} (g_braid : sp ≠ .braid) (g_ferry : sp ≠ .ferry) (g_lanes : sp ≠ .lanes) (g_delta : sp ≠ .delta) (g_eng : sp ≠ .eng) (g_dram : sp ≠ .dram) (g_mems : sp ≠ .mems) (g_fabric : sp ≠ .fabric) (g_power : sp ≠ .power) : part sp (domainOnReply d s).2 = part sp s := by
  unfold domainOnReply
  dsimp only
  repeat' split
  all_goals simp [*]
@[simp] theorem pwrDomainBody_fuses (v : Serving) (s : State) : fuseView (pwrDomainBody v s).2 = fuseView s := by
  unfold pwrDomainBody
  dsimp only
  repeat' split
  all_goals simp [*]
@[simp] theorem pwrDomainBody_memOk (v : Serving) (s : State) (h : MemOk s) : MemOk (pwrDomainBody v s).2 := by
  unfold pwrDomainBody
  dsimp only
  repeat' split
  all_goals simp [*]
@[simp] theorem pwrDomainBody_part (v : Serving) (s : State) {sp : StatePart} (g_braid : sp ≠ .braid) (g_ferry : sp ≠ .ferry) (g_locks : sp ≠ .locks) (g_lanes : sp ≠ .lanes) (g_delta : sp ≠ .delta) (g_twin : sp ≠ .twin) (g_eng : sp ≠ .eng) (g_dram : sp ≠ .dram) (g_mems : sp ≠ .mems) (g_crypto : sp ≠ .crypto) (g_fabric : sp ≠ .fabric) (g_bw : sp ≠ .bw) (g_bwx : sp ≠ .bwx) (g_power : sp ≠ .power) (g_debug : sp ≠ .debug) (g_events : sp ≠ .events) : part sp (pwrDomainBody v s).2 = part sp s := by
  unfold pwrDomainBody
  dsimp only
  repeat' split
  all_goals simp [*]
@[simp] theorem pwrDomain_fuses (s : State) : fuseView (pwrDomain s) = fuseView s := by
  unfold pwrDomain
  simp
@[simp] theorem pwrDomain_memOk (s : State) (h : MemOk s) : MemOk (pwrDomain s) := by
  unfold pwrDomain
  exact ferryServe_keeps _ _ _ _ _ (fun v t ht => pwrDomainBody_memOk _ _ ht) h
@[simp] theorem pwrDomain_part (s : State) {sp : StatePart} (g_braid : sp ≠ .braid) (g_ferry : sp ≠ .ferry) (g_locks : sp ≠ .locks) (g_lanes : sp ≠ .lanes) (g_delta : sp ≠ .delta) (g_twin : sp ≠ .twin) (g_eng : sp ≠ .eng) (g_dram : sp ≠ .dram) (g_mems : sp ≠ .mems) (g_crypto : sp ≠ .crypto) (g_fabric : sp ≠ .fabric) (g_bw : sp ≠ .bw) (g_bwx : sp ≠ .bwx) (g_power : sp ≠ .power) (g_debug : sp ≠ .debug) (g_events : sp ≠ .events) : part sp (pwrDomain s) = part sp s := by
  unfold pwrDomain
  simp [*]
@[simp] theorem trimOne_fuses (d : Nat) (s : State) : fuseView (trimOne d s) = fuseView s := by
  unfold trimOne
  simp [fuses_ite]
@[simp] theorem trimOne_memOk (d : Nat) (s : State) (h : MemOk s) : MemOk (trimOne d s) := by
  unfold trimOne
  repeat' split
  all_goals simp [*]
@[simp] theorem trimOne_part (d : Nat) (s : State) {sp : StatePart} (g_braid : sp ≠ .braid) (g_ferry : sp ≠ .ferry) (g_locks : sp ≠ .locks) (g_lanes : sp ≠ .lanes) (g_twin : sp ≠ .twin) (g_eng : sp ≠ .eng) (g_dram : sp ≠ .dram) (g_mems : sp ≠ .mems) (g_crypto : sp ≠ .crypto) (g_fabric : sp ≠ .fabric) (g_bw : sp ≠ .bw) (g_bwx : sp ≠ .bwx) (g_power : sp ≠ .power) (g_debug : sp ≠ .debug) (g_events : sp ≠ .events) : part sp (trimOne d s) = part sp s := by
  unfold trimOne
  simp [part_ite, *]
@[simp] theorem enterTrim_fuses (v : Serving) (s : State) : fuseView (enterTrim v s).2 = fuseView s := by
  unfold enterTrim
  dsimp only
  repeat' split
  all_goals simp [*]
@[simp] theorem enterTrim_memOk (v : Serving) (s : State) (h : MemOk s) : MemOk (enterTrim v s).2 := by
  unfold enterTrim
  dsimp only
  repeat' split
  all_goals first | exact h | (rw [trimCheck_memOk]; exact forAll_memOk _ _ _ (fun t x ht => by simp [ht]) (by simpa using h))
@[simp] theorem enterTrim_part (v : Serving) (s : State) {sp : StatePart} (g_braid : sp ≠ .braid) (g_ferry : sp ≠ .ferry) (g_locks : sp ≠ .locks) (g_lanes : sp ≠ .lanes) (g_twin : sp ≠ .twin) (g_eng : sp ≠ .eng) (g_dram : sp ≠ .dram) (g_mems : sp ≠ .mems) (g_crypto : sp ≠ .crypto) (g_fabric : sp ≠ .fabric) (g_bw : sp ≠ .bw) (g_bwx : sp ≠ .bwx) (g_power : sp ≠ .power) (g_debug : sp ≠ .debug) (g_events : sp ≠ .events) : part sp (enterTrim v s).2 = part sp s := by
  unfold enterTrim
  dsimp only
  repeat' split
  all_goals simp [*]
@[simp] theorem enterActive_core (s : State) : coreView (enterActive s).2 = coreView s := by
  unfold enterActive
  dsimp only
  repeat' split
  all_goals simp [*]
@[simp] theorem enterActive_fuses (s : State) : fuseView (enterActive s).2 = fuseView s := fuses_of_core (enterActive_core s)
@[simp] theorem enterActive_memOk (s : State) : MemOk (enterActive s).2 ↔ MemOk s := memOk_of_core (enterActive_core s)
@[simp] theorem enterActive_part (s : State) {sp : StatePart} (g_braid : sp ≠ .braid) (g_ferry : sp ≠ .ferry) (g_lanes : sp ≠ .lanes) (g_delta : sp ≠ .delta) (g_eng : sp ≠ .eng) (g_dram : sp ≠ .dram) (g_mems : sp ≠ .mems) (g_fabric : sp ≠ .fabric) (g_power : sp ≠ .power) : part sp (enterActive s).2 = part sp s := by
  unfold enterActive
  dsimp only
  repeat' split
  all_goals simp [*]
@[simp] theorem enterSleep_core (v : Serving) (target : DevState) (s : State) : coreView (enterSleep v target s).2 = coreView s := by
  unfold enterSleep
  dsimp only
  repeat' split
  all_goals simp [*]
@[simp] theorem enterSleep_fuses (v : Serving) (target : DevState) (s : State) : fuseView (enterSleep v target s).2 = fuseView s := fuses_of_core (enterSleep_core v target s)
@[simp] theorem enterSleep_memOk (v : Serving) (target : DevState) (s : State) : MemOk (enterSleep v target s).2 ↔ MemOk s := memOk_of_core (enterSleep_core v target s)
@[simp] theorem enterSleep_part (v : Serving) (target : DevState) (s : State) {sp : StatePart} (g_ferry : sp ≠ .ferry) (g_power : sp ≠ .power) : part sp (enterSleep v target s).2 = part sp s := by
  unfold enterSleep
  dsimp only
  repeat' split
  all_goals simp [*]
@[simp] theorem pwrStateBody_fuses (v : Serving) (s : State) : fuseView (pwrStateBody v s).2 = fuseView s := by
  unfold pwrStateBody
  repeat' split
  all_goals simp [*]
@[simp] theorem pwrStateBody_memOk (v : Serving) (s : State) (h : MemOk s) : MemOk (pwrStateBody v s).2 := by
  unfold pwrStateBody
  repeat' split
  all_goals simp [*]
@[simp] theorem pwrStateBody_part (v : Serving) (s : State) {sp : StatePart} (g_braid : sp ≠ .braid) (g_ferry : sp ≠ .ferry) (g_locks : sp ≠ .locks) (g_lanes : sp ≠ .lanes) (g_delta : sp ≠ .delta) (g_twin : sp ≠ .twin) (g_eng : sp ≠ .eng) (g_dram : sp ≠ .dram) (g_mems : sp ≠ .mems) (g_crypto : sp ≠ .crypto) (g_fabric : sp ≠ .fabric) (g_bw : sp ≠ .bw) (g_bwx : sp ≠ .bwx) (g_power : sp ≠ .power) (g_debug : sp ≠ .debug) (g_events : sp ≠ .events) : part sp (pwrStateBody v s).2 = part sp s := by
  unfold pwrStateBody
  repeat' split
  all_goals simp [*]
@[simp] theorem pwrState_fuses (s : State) : fuseView (pwrState s) = fuseView s := by
  unfold pwrState
  simp
@[simp] theorem pwrState_memOk (s : State) (h : MemOk s) : MemOk (pwrState s) := by
  unfold pwrState
  exact ferryServe_keeps _ _ _ _ _ (fun v t ht => pwrStateBody_memOk _ _ ht) h
@[simp] theorem pwrState_part (s : State) {sp : StatePart} (g_braid : sp ≠ .braid) (g_ferry : sp ≠ .ferry) (g_locks : sp ≠ .locks) (g_lanes : sp ≠ .lanes) (g_delta : sp ≠ .delta) (g_twin : sp ≠ .twin) (g_eng : sp ≠ .eng) (g_dram : sp ≠ .dram) (g_mems : sp ≠ .mems) (g_crypto : sp ≠ .crypto) (g_fabric : sp ≠ .fabric) (g_bw : sp ≠ .bw) (g_bwx : sp ≠ .bwx) (g_power : sp ≠ .power) (g_debug : sp ≠ .debug) (g_events : sp ≠ .events) : part sp (pwrState s) = part sp s := by
  unfold pwrState
  simp [*]
@[simp] theorem setPoints_core (op : Nat) (qs : List Nat) (s : State) : coreView (setPoints op qs s) = coreView s := by
  unfold setPoints
  simp
@[simp] theorem setPoints_fuses (op : Nat) (qs : List Nat) (s : State) : fuseView (setPoints op qs s) = fuseView s := fuses_of_core (setPoints_core op qs s)
@[simp] theorem setPoints_memOk (op : Nat) (qs : List Nat) (s : State) : MemOk (setPoints op qs s) ↔ MemOk s := memOk_of_core (setPoints_core op qs s)
@[simp] theorem setPoints_part (op : Nat) (qs : List Nat) (s : State) {sp : StatePart} (g_eng : sp ≠ .eng) : part sp (setPoints op qs s) = part sp s := by
  unfold setPoints
  simp [*]
@[simp] theorem beginDvfs_core (fuel : Nat) (s : State) : coreView (beginDvfs fuel s) = coreView s := by
  induction fuel generalizing s with
  | zero => rfl
  | succ f ih =>
    unfold beginDvfs
    dsimp only
    repeat' split
    all_goals first | rfl | simp [ih]
@[simp] theorem beginDvfs_fuses (fuel : Nat) (s : State) : fuseView (beginDvfs fuel s) = fuseView s := fuses_of_core (beginDvfs_core fuel s)
@[simp] theorem beginDvfs_memOk (fuel : Nat) (s : State) : MemOk (beginDvfs fuel s) ↔ MemOk s := memOk_of_core (beginDvfs_core fuel s)
@[simp] theorem beginDvfs_part (fuel : Nat) (s : State) {sp : StatePart} (g_braid : sp ≠ .braid) (g_ferry : sp ≠ .ferry) (g_twin : sp ≠ .twin) (g_eng : sp ≠ .eng) (g_power : sp ≠ .power) (g_debug : sp ≠ .debug) (g_events : sp ≠ .events) : part sp (beginDvfs fuel s) = part sp s := by
  induction fuel generalizing s with
  | zero => rfl
  | succ f ih =>
    unfold beginDvfs
    dsimp only
    repeat' split
    all_goals first | rfl | simp [ih, *]
@[simp] theorem nextDvfs_core (s : State) : coreView (nextDvfs s) = coreView s := by
  unfold nextDvfs
  simp [core_ite]
@[simp] theorem nextDvfs_fuses (s : State) : fuseView (nextDvfs s) = fuseView s := fuses_of_core (nextDvfs_core s)
@[simp] theorem nextDvfs_memOk (s : State) : MemOk (nextDvfs s) ↔ MemOk s := memOk_of_core (nextDvfs_core s)
@[simp] theorem nextDvfs_part (s : State) {sp : StatePart} (g_braid : sp ≠ .braid) (g_ferry : sp ≠ .ferry) (g_twin : sp ≠ .twin) (g_eng : sp ≠ .eng) (g_power : sp ≠ .power) (g_debug : sp ≠ .debug) (g_events : sp ≠ .events) : part sp (nextDvfs s) = part sp s := by
  unfold nextDvfs
  simp [part_ite, *]
@[simp] theorem pmbusSet_core (v : Serving) (s : State) : coreView (pmbusSet v s).2 = coreView s := by
  unfold pmbusSet
  split <;> simp
@[simp] theorem pmbusSet_fuses (v : Serving) (s : State) : fuseView (pmbusSet v s).2 = fuseView s := fuses_of_core (pmbusSet_core v s)
@[simp] theorem pmbusSet_memOk (v : Serving) (s : State) : MemOk (pmbusSet v s).2 ↔ MemOk s := memOk_of_core (pmbusSet_core v s)
@[simp] theorem pmbusSet_part (v : Serving) (s : State) {sp : StatePart} (g_power : sp ≠ .power) : part sp (pmbusSet v s).2 = part sp s := by
  unfold pmbusSet
  split <;> simp [*]
@[simp] theorem plannedOps_core (s : State) : coreView (plannedOps s) = coreView s := by
  unfold plannedOps
  simp
@[simp] theorem plannedOps_fuses (s : State) : fuseView (plannedOps s) = fuseView s := fuses_of_core (plannedOps_core s)
@[simp] theorem plannedOps_memOk (s : State) : MemOk (plannedOps s) ↔ MemOk s := memOk_of_core (plannedOps_core s)
@[simp] theorem plannedOps_part (s : State) {sp : StatePart} (g_eng : sp ≠ .eng) : part sp (plannedOps s) = part sp s := by
  unfold plannedOps
  exact forAll_part _ _ _ (fun t x => forAll_part _ _ _ (fun u y => by simp [*]))
@[simp] theorem dvfsSetBody_core (v : Serving) (s : State) : coreView (dvfsSetBody v s).2 = coreView s := by
  unfold dvfsSetBody
  dsimp only
  repeat' split
  all_goals simp [*]
@[simp] theorem dvfsSetBody_fuses (v : Serving) (s : State) : fuseView (dvfsSetBody v s).2 = fuseView s := fuses_of_core (dvfsSetBody_core v s)
@[simp] theorem dvfsSetBody_memOk (v : Serving) (s : State) : MemOk (dvfsSetBody v s).2 ↔ MemOk s := memOk_of_core (dvfsSetBody_core v s)
@[simp] theorem dvfsSetBody_part (v : Serving) (s : State) {sp : StatePart} (g_braid : sp ≠ .braid) (g_ferry : sp ≠ .ferry) (g_twin : sp ≠ .twin) (g_eng : sp ≠ .eng) (g_power : sp ≠ .power) (g_debug : sp ≠ .debug) (g_events : sp ≠ .events) : part sp (dvfsSetBody v s).2 = part sp s := by
  unfold dvfsSetBody
  dsimp only
  repeat' split
  all_goals simp [*]
@[simp] theorem dvfsSet_core (s : State) : coreView (dvfsSet s) = coreView s := by
  unfold dvfsSet
  simp
@[simp] theorem dvfsSet_fuses (s : State) : fuseView (dvfsSet s) = fuseView s := fuses_of_core (dvfsSet_core s)
@[simp] theorem dvfsSet_memOk (s : State) : MemOk (dvfsSet s) ↔ MemOk s := memOk_of_core (dvfsSet_core s)
@[simp] theorem dvfsSet_part (s : State) {sp : StatePart} (g_braid : sp ≠ .braid) (g_ferry : sp ≠ .ferry) (g_twin : sp ≠ .twin) (g_eng : sp ≠ .eng) (g_power : sp ≠ .power) (g_debug : sp ≠ .debug) (g_events : sp ≠ .events) : part sp (dvfsSet s) = part sp s := by
  unfold dvfsSet
  simp [*]
@[simp] theorem powerGood_core (s : State) : coreView (powerGood s) = coreView s := by
  unfold powerGood
  split <;> simp
@[simp] theorem powerGood_fuses (s : State) : fuseView (powerGood s) = fuseView s := fuses_of_core (powerGood_core s)
@[simp] theorem powerGood_memOk (s : State) : MemOk (powerGood s) ↔ MemOk s := memOk_of_core (powerGood_core s)
@[simp] theorem powerGood_part (s : State) {sp : StatePart} (g_power : sp ≠ .power) : part sp (powerGood s) = part sp s := by
  unfold powerGood
  split <;> simp [*]
@[simp] theorem dvfsFrequencyChange_core (q : Nat) (s : State) : coreView (dvfsFrequencyChange q s) = coreView s := by
  unfold dvfsFrequencyChange
  dsimp only
  repeat' split
  all_goals simp [*]
@[simp] theorem dvfsFrequencyChange_fuses (q : Nat) (s : State) : fuseView (dvfsFrequencyChange q s) = fuseView s := fuses_of_core (dvfsFrequencyChange_core q s)
@[simp] theorem dvfsFrequencyChange_memOk (q : Nat) (s : State) : MemOk (dvfsFrequencyChange q s) ↔ MemOk s := memOk_of_core (dvfsFrequencyChange_core q s)
@[simp] theorem dvfsFrequencyChange_part (q : Nat) (s : State) {sp : StatePart} (g_braid : sp ≠ .braid) (g_ferry : sp ≠ .ferry) (g_twin : sp ≠ .twin) (g_eng : sp ≠ .eng) (g_power : sp ≠ .power) (g_debug : sp ≠ .debug) (g_events : sp ≠ .events) : part sp (dvfsFrequencyChange q s) = part sp s := by
  unfold dvfsFrequencyChange
  dsimp only
  repeat' split
  all_goals simp [*]
@[simp] theorem pgTimeout_core (busFailed : Bool) (s : State) : coreView (pgTimeout busFailed s) = coreView s := by
  unfold pgTimeout
  repeat' split
  all_goals simp [*]
@[simp] theorem pgTimeout_fuses (busFailed : Bool) (s : State) : fuseView (pgTimeout busFailed s) = fuseView s := fuses_of_core (pgTimeout_core busFailed s)
@[simp] theorem pgTimeout_memOk (busFailed : Bool) (s : State) : MemOk (pgTimeout busFailed s) ↔ MemOk s := memOk_of_core (pgTimeout_core busFailed s)
@[simp] theorem pgTimeout_part (busFailed : Bool) (s : State) {sp : StatePart} (g_braid : sp ≠ .braid) (g_ferry : sp ≠ .ferry) (g_twin : sp ≠ .twin) (g_eng : sp ≠ .eng) (g_power : sp ≠ .power) (g_debug : sp ≠ .debug) (g_events : sp ≠ .events) : part sp (pgTimeout busFailed s) = part sp s := by
  unfold pgTimeout
  repeat' split
  all_goals simp [*]
@[simp] theorem stippleProgramBody_core (v : Serving) (s : State) : coreView (stippleProgramBody v s).2 = coreView s := by
  unfold stippleProgramBody
  repeat' split
  all_goals simp [*]
@[simp] theorem stippleProgramBody_fuses (v : Serving) (s : State) : fuseView (stippleProgramBody v s).2 = fuseView s := fuses_of_core (stippleProgramBody_core v s)
@[simp] theorem stippleProgramBody_memOk (v : Serving) (s : State) : MemOk (stippleProgramBody v s).2 ↔ MemOk s := memOk_of_core (stippleProgramBody_core v s)
@[simp] theorem stippleProgramBody_part (v : Serving) (s : State) {sp : StatePart} (g_power : sp ≠ .power) : part sp (stippleProgramBody v s).2 = part sp s := by
  unfold stippleProgramBody
  repeat' split
  all_goals simp [*]
@[simp] theorem stippleProgram_core (s : State) : coreView (stippleProgram s) = coreView s := by
  unfold stippleProgram
  simp
@[simp] theorem stippleProgram_fuses (s : State) : fuseView (stippleProgram s) = fuseView s := fuses_of_core (stippleProgram_core s)
@[simp] theorem stippleProgram_memOk (s : State) : MemOk (stippleProgram s) ↔ MemOk s := memOk_of_core (stippleProgram_core s)
@[simp] theorem stippleProgram_part (s : State) {sp : StatePart} (g_ferry : sp ≠ .ferry) (g_power : sp ≠ .power) : part sp (stippleProgram s) = part sp s := by
  unfold stippleProgram
  simp [*]
@[simp] theorem timeSetTo_core (x : Nat) (s : State) : coreView (timeSetTo x s) = coreView s := by
  unfold timeSetTo
  simp
@[simp] theorem timeSetTo_fuses (x : Nat) (s : State) : fuseView (timeSetTo x s) = fuseView s := fuses_of_core (timeSetTo_core x s)
@[simp] theorem timeSetTo_memOk (x : Nat) (s : State) : MemOk (timeSetTo x s) ↔ MemOk s := memOk_of_core (timeSetTo_core x s)
@[simp] theorem timeSetTo_part (x : Nat) (s : State) {sp : StatePart} (g_braid : sp ≠ .braid) (g_tbase : sp ≠ .tbase) (g_events : sp ≠ .events) : part sp (timeSetTo x s) = part sp s := by
  unfold timeSetTo
  simp [*]
@[simp] theorem timeStep_core (x : Nat) (s : State) : coreView (timeStep x s) = coreView s := by
  unfold timeStep
  simp
@[simp] theorem timeStep_fuses (x : Nat) (s : State) : fuseView (timeStep x s) = fuseView s := fuses_of_core (timeStep_core x s)
@[simp] theorem timeStep_memOk (x : Nat) (s : State) : MemOk (timeStep x s) ↔ MemOk s := memOk_of_core (timeStep_core x s)
@[simp] theorem timeStep_part (x : Nat) (s : State) {sp : StatePart} (g_braid : sp ≠ .braid) (g_tbase : sp ≠ .tbase) (g_events : sp ≠ .events) : part sp (timeStep x s) = part sp s := by
  unfold timeStep
  simp [*]
@[simp] theorem timeSetBody_core (v : Serving) (s : State) : coreView (timeSetBody v s).2 = coreView s := by
  unfold timeSetBody
  dsimp only
  repeat' split
  all_goals simp [*]
@[simp] theorem timeSetBody_fuses (v : Serving) (s : State) : fuseView (timeSetBody v s).2 = fuseView s := fuses_of_core (timeSetBody_core v s)
@[simp] theorem timeSetBody_memOk (v : Serving) (s : State) : MemOk (timeSetBody v s).2 ↔ MemOk s := memOk_of_core (timeSetBody_core v s)
@[simp] theorem timeSetBody_part (v : Serving) (s : State) {sp : StatePart} (g_braid : sp ≠ .braid) (g_ferry : sp ≠ .ferry) (g_tbase : sp ≠ .tbase) (g_events : sp ≠ .events) : part sp (timeSetBody v s).2 = part sp s := by
  unfold timeSetBody
  dsimp only
  repeat' split
  all_goals simp [*]
@[simp] theorem timeSet_core (s : State) : coreView (timeSet s) = coreView s := by
  unfold timeSet
  simp
@[simp] theorem timeSet_fuses (s : State) : fuseView (timeSet s) = fuseView s := fuses_of_core (timeSet_core s)
@[simp] theorem timeSet_memOk (s : State) : MemOk (timeSet s) ↔ MemOk s := memOk_of_core (timeSet_core s)
@[simp] theorem timeSet_part (s : State) {sp : StatePart} (g_braid : sp ≠ .braid) (g_ferry : sp ≠ .ferry) (g_tbase : sp ≠ .tbase) (g_events : sp ≠ .events) : part sp (timeSet s) = part sp s := by
  unfold timeSet
  simp [*]
@[simp] theorem trimMeasureDone_core (pllCycles : Nat) (s : State) : coreView (trimMeasureDone pllCycles s) = coreView s := by
  unfold trimMeasureDone
  dsimp only
  repeat' split
  all_goals simp [*]
@[simp] theorem trimMeasureDone_fuses (pllCycles : Nat) (s : State) : fuseView (trimMeasureDone pllCycles s) = fuseView s := fuses_of_core (trimMeasureDone_core pllCycles s)
@[simp] theorem trimMeasureDone_memOk (pllCycles : Nat) (s : State) : MemOk (trimMeasureDone pllCycles s) ↔ MemOk s := memOk_of_core (trimMeasureDone_core pllCycles s)
@[simp] theorem trimMeasureDone_part (pllCycles : Nat) (s : State) {sp : StatePart} (g_braid : sp ≠ .braid) (g_ferry : sp ≠ .ferry) (g_twin : sp ≠ .twin) (g_tbase : sp ≠ .tbase) (g_debug : sp ≠ .debug) (g_events : sp ≠ .events) : part sp (trimMeasureDone pllCycles s) = part sp s := by
  unfold trimMeasureDone
  dsimp only
  repeat' split
  all_goals simp [*]
@[simp] theorem slowClockLoss_core (s : State) : coreView (slowClockLoss s) = coreView s := by
  unfold slowClockLoss
  split <;> simp
@[simp] theorem slowClockLoss_fuses (s : State) : fuseView (slowClockLoss s) = fuseView s := fuses_of_core (slowClockLoss_core s)
@[simp] theorem slowClockLoss_memOk (s : State) : MemOk (slowClockLoss s) ↔ MemOk s := memOk_of_core (slowClockLoss_core s)
@[simp] theorem slowClockLoss_part (s : State) {sp : StatePart} (g_braid : sp ≠ .braid) (g_tbase : sp ≠ .tbase) (g_events : sp ≠ .events) : part sp (slowClockLoss s) = part sp s := by
  unfold slowClockLoss
  split <;> simp [*]
@[simp] theorem crystalWatchExpiry_core (oscillating : Bool) (s : State) : coreView (crystalWatchExpiry oscillating s) = coreView s := by
  unfold crystalWatchExpiry
  simp [core_ite]
@[simp] theorem crystalWatchExpiry_fuses (oscillating : Bool) (s : State) : fuseView (crystalWatchExpiry oscillating s) = fuseView s := fuses_of_core (crystalWatchExpiry_core oscillating s)
@[simp] theorem crystalWatchExpiry_memOk (oscillating : Bool) (s : State) : MemOk (crystalWatchExpiry oscillating s) ↔ MemOk s := memOk_of_core (crystalWatchExpiry_core oscillating s)
@[simp] theorem crystalWatchExpiry_part (oscillating : Bool) (s : State) {sp : StatePart} (g_braid : sp ≠ .braid) (g_tbase : sp ≠ .tbase) (g_events : sp ≠ .events) : part sp (crystalWatchExpiry oscillating s) = part sp s := by
  unfold crystalWatchExpiry
  simp [part_ite, *]
@[simp] theorem wdtSetBody_core (v : Serving) (s : State) : coreView (wdtSetBody v s).2 = coreView s := by
  unfold wdtSetBody
  dsimp only
  repeat' split
  all_goals simp [*]
@[simp] theorem wdtSetBody_fuses (v : Serving) (s : State) : fuseView (wdtSetBody v s).2 = fuseView s := fuses_of_core (wdtSetBody_core v s)
@[simp] theorem wdtSetBody_memOk (v : Serving) (s : State) : MemOk (wdtSetBody v s).2 ↔ MemOk s := memOk_of_core (wdtSetBody_core v s)
@[simp] theorem wdtSetBody_part (v : Serving) (s : State) {sp : StatePart} (g_tbase : sp ≠ .tbase) : part sp (wdtSetBody v s).2 = part sp s := by
  unfold wdtSetBody
  dsimp only
  repeat' split
  all_goals simp [*]
@[simp] theorem wdtSet_core (s : State) : coreView (wdtSet s) = coreView s := by
  unfold wdtSet
  simp
@[simp] theorem wdtSet_fuses (s : State) : fuseView (wdtSet s) = fuseView s := fuses_of_core (wdtSet_core s)
@[simp] theorem wdtSet_memOk (s : State) : MemOk (wdtSet s) ↔ MemOk s := memOk_of_core (wdtSet_core s)
@[simp] theorem wdtSet_part (s : State) {sp : StatePart} (g_ferry : sp ≠ .ferry) (g_tbase : sp ≠ .tbase) : part sp (wdtSet s) = part sp s := by
  unfold wdtSet
  simp [*]
@[simp] theorem allOff_fuses (s : State) : fuseView (allOff s) = fuseView s := by
  unfold allOff
  simp [fuses_ite]
@[simp] theorem allOff_memOk (s : State) (h : MemOk s) : MemOk (allOff s) := by
  unfold allOff
  dsimp only
  simp
  refine forAll_memOk _ _ _ (fun t x ht => ?_) h
  split
  · simp [ht]
  · exact ht
@[simp] theorem allOff_part (s : State) {sp : StatePart} (g_braid : sp ≠ .braid) (g_ferry : sp ≠ .ferry) (g_locks : sp ≠ .locks) (g_lanes : sp ≠ .lanes) (g_twin : sp ≠ .twin) (g_eng : sp ≠ .eng) (g_dram : sp ≠ .dram) (g_mems : sp ≠ .mems) (g_crypto : sp ≠ .crypto) (g_fabric : sp ≠ .fabric) (g_bw : sp ≠ .bw) (g_bwx : sp ≠ .bwx) (g_power : sp ≠ .power) (g_debug : sp ≠ .debug) (g_events : sp ≠ .events) : part sp (allOff s) = part sp s := by
  unfold allOff
  simp [part_ite, *]
@[simp] theorem thermalTrip_fuses (sensor : Nat) (s : State) : fuseView (thermalTrip sensor s) = fuseView s := by
  unfold thermalTrip
  simp
@[simp] theorem thermalTrip_memOk (sensor : Nat) (s : State) (h : MemOk s) : MemOk (thermalTrip sensor s) := by
  unfold thermalTrip
  simp [*]
@[simp] theorem thermalTrip_part (sensor : Nat) (s : State) {sp : StatePart} (g_braid : sp ≠ .braid) (g_ferry : sp ≠ .ferry) (g_locks : sp ≠ .locks) (g_lanes : sp ≠ .lanes) (g_twin : sp ≠ .twin) (g_eng : sp ≠ .eng) (g_dram : sp ≠ .dram) (g_mems : sp ≠ .mems) (g_crypto : sp ≠ .crypto) (g_fabric : sp ≠ .fabric) (g_bw : sp ≠ .bw) (g_bwx : sp ≠ .bwx) (g_power : sp ≠ .power) (g_debug : sp ≠ .debug) (g_events : sp ≠ .events) : part sp (thermalTrip sensor s) = part sp s := by
  unfold thermalTrip
  simp [*]
@[simp] theorem thermalSample_fuses (sensor : Nat) (v : Int) (s : State) : fuseView (thermalSample sensor v s) = fuseView s := by
  unfold thermalSample
  simp [fuses_ite]
@[simp] theorem thermalSample_memOk (sensor : Nat) (v : Int) (s : State) (h : MemOk s) : MemOk (thermalSample sensor v s) := by
  unfold thermalSample
  repeat' split
  all_goals simp [*]
@[simp] theorem thermalSample_part (sensor : Nat) (v : Int) (s : State) {sp : StatePart} (g_braid : sp ≠ .braid) (g_ferry : sp ≠ .ferry) (g_locks : sp ≠ .locks) (g_lanes : sp ≠ .lanes) (g_twin : sp ≠ .twin) (g_eng : sp ≠ .eng) (g_dram : sp ≠ .dram) (g_mems : sp ≠ .mems) (g_crypto : sp ≠ .crypto) (g_fabric : sp ≠ .fabric) (g_bw : sp ≠ .bw) (g_bwx : sp ≠ .bwx) (g_power : sp ≠ .power) (g_debug : sp ≠ .debug) (g_events : sp ≠ .events) : part sp (thermalSample sensor v s) = part sp s := by
  unfold thermalSample
  simp [part_ite, *]
@[simp] theorem supplyEv_core (r : Rail) (s : State) : coreView (supplyEv r s) = coreView s := by
  unfold supplyEv
  split <;> simp
@[simp] theorem supplyEv_fuses (r : Rail) (s : State) : fuseView (supplyEv r s) = fuseView s := fuses_of_core (supplyEv_core r s)
@[simp] theorem supplyEv_memOk (r : Rail) (s : State) : MemOk (supplyEv r s) ↔ MemOk s := memOk_of_core (supplyEv_core r s)
@[simp] theorem supplyEv_part (r : Rail) (s : State) {sp : StatePart} (g_braid : sp ≠ .braid) (g_events : sp ≠ .events) : part sp (supplyEv r s) = part sp s := by
  unfold supplyEv
  split <;> simp [*]
@[simp] theorem railEffect_fuses (r : Rail) (s : State) : fuseView (railEffect r s) = fuseView s := by
  unfold railEffect
  split <;> simp
@[simp] theorem railEffect_memOk (r : Rail) (s : State) (h : MemOk s) : MemOk (railEffect r s) := by
  unfold railEffect
  split
  · exact h
  · exact h
  · exact (supplyEv_memOk ..).mpr ((endJob?_memOk ..).mpr ((modBwx_memOk ..).mpr ((bwRelease_memOk ..).mpr h)))
  · exact (supplyEv_memOk ..).mpr h
  · exact allOff_memOk _ ((assertFatal_memOk ..).mpr ((trip_memOk ..).mpr ((supplyEv_memOk ..).mpr h)))
@[simp] theorem railEffect_part (r : Rail) (s : State) {sp : StatePart} (g_braid : sp ≠ .braid) (g_ferry : sp ≠ .ferry) (g_locks : sp ≠ .locks) (g_lanes : sp ≠ .lanes) (g_twin : sp ≠ .twin) (g_eng : sp ≠ .eng) (g_dram : sp ≠ .dram) (g_mems : sp ≠ .mems) (g_crypto : sp ≠ .crypto) (g_fabric : sp ≠ .fabric) (g_bw : sp ≠ .bw) (g_bwx : sp ≠ .bwx) (g_power : sp ≠ .power) (g_debug : sp ≠ .debug) (g_events : sp ≠ .events) : part sp (railEffect r s) = part sp s := by
  unfold railEffect
  split <;> simp [*]
@[simp] theorem railFault_fuses (r : Rail) (s : State) : fuseView (railFault r s) = fuseView s := by
  unfold railFault
  simp [fuses_ite]
@[simp] theorem railFault_memOk (r : Rail) (s : State) (h : MemOk s) : MemOk (railFault r s) := by
  unfold railFault
  repeat' split
  all_goals simp [*]
@[simp] theorem railFault_part (r : Rail) (s : State) {sp : StatePart} (g_braid : sp ≠ .braid) (g_ferry : sp ≠ .ferry) (g_locks : sp ≠ .locks) (g_lanes : sp ≠ .lanes) (g_twin : sp ≠ .twin) (g_eng : sp ≠ .eng) (g_dram : sp ≠ .dram) (g_mems : sp ≠ .mems) (g_crypto : sp ≠ .crypto) (g_fabric : sp ≠ .fabric) (g_bw : sp ≠ .bw) (g_bwx : sp ≠ .bwx) (g_power : sp ≠ .power) (g_debug : sp ≠ .debug) (g_events : sp ≠ .events) : part sp (railFault r s) = part sp s := by
  unfold railFault
  simp [part_ite, *]
@[simp] theorem railReturn_core (r : Rail) (s : State) : coreView (railReturn r s) = coreView s := by
  unfold railReturn
  split <;> simp
@[simp] theorem railReturn_fuses (r : Rail) (s : State) : fuseView (railReturn r s) = fuseView s := fuses_of_core (railReturn_core r s)
@[simp] theorem railReturn_memOk (r : Rail) (s : State) : MemOk (railReturn r s) ↔ MemOk s := memOk_of_core (railReturn_core r s)
@[simp] theorem railReturn_part (r : Rail) (s : State) {sp : StatePart} (g_power : sp ≠ .power) : part sp (railReturn r s) = part sp s := by
  unfold railReturn
  split <;> simp [*]
@[simp] theorem setEntry_core (e : Option Entry) (s : State) : coreView (setEntry e s) = coreView s := by
  rfl
@[simp] theorem setEntry_fuses (e : Option Entry) (s : State) : fuseView (setEntry e s) = fuseView s := fuses_of_core (setEntry_core e s)
@[simp] theorem setEntry_memOk (e : Option Entry) (s : State) : MemOk (setEntry e s) ↔ MemOk s := memOk_of_core (setEntry_core e s)
@[simp] theorem setEntry_part (e : Option Entry) (s : State) {sp : StatePart} (g_power : sp ≠ .power) : part sp (setEntry e s) = part sp s := by
  cases sp <;> first | rfl | contradiction
@[simp] theorem prepareVote_core (d : Nat) (sleepOk : Bool) (s : State) : coreView (prepareVote d sleepOk s) = coreView s := by
  unfold prepareVote
  repeat' split
  all_goals simp [*]
@[simp] theorem prepareVote_fuses (d : Nat) (sleepOk : Bool) (s : State) : fuseView (prepareVote d sleepOk s) = fuseView s := fuses_of_core (prepareVote_core d sleepOk s)
@[simp] theorem prepareVote_memOk (d : Nat) (sleepOk : Bool) (s : State) : MemOk (prepareVote d sleepOk s) ↔ MemOk s := memOk_of_core (prepareVote_core d sleepOk s)
@[simp] theorem prepareVote_part (d : Nat) (sleepOk : Bool) (s : State) {sp : StatePart} (g_power : sp ≠ .power) : part sp (prepareVote d sleepOk s) = part sp s := by
  unfold prepareVote
  repeat' split
  all_goals simp [*]
@[simp] theorem voteTimeout_core (d : Nat) (s : State) : coreView (voteTimeout d s) = coreView s := by
  unfold voteTimeout
  repeat' split
  all_goals simp [*]
@[simp] theorem voteTimeout_fuses (d : Nat) (s : State) : fuseView (voteTimeout d s) = fuseView s := fuses_of_core (voteTimeout_core d s)
@[simp] theorem voteTimeout_memOk (d : Nat) (s : State) : MemOk (voteTimeout d s) ↔ MemOk s := memOk_of_core (voteTimeout_core d s)
@[simp] theorem voteTimeout_part (d : Nat) (s : State) {sp : StatePart} (g_power : sp ≠ .power) : part sp (voteTimeout d s) = part sp s := by
  unfold voteTimeout
  repeat' split
  all_goals simp [*]
@[simp] theorem startSequencer_core (s : State) : coreView (startSequencer s) = coreView s := by
  rfl
@[simp] theorem startSequencer_fuses (s : State) : fuseView (startSequencer s) = fuseView s := fuses_of_core (startSequencer_core s)
@[simp] theorem startSequencer_memOk (s : State) : MemOk (startSequencer s) ↔ MemOk s := memOk_of_core (startSequencer_core s)
@[simp] theorem startSequencer_part (s : State) {sp : StatePart} (g_twin : sp ≠ .twin) (g_power : sp ≠ .power) : part sp (startSequencer s) = part sp s := by
  cases sp <;> first | rfl | contradiction
@[simp] theorem fallAsleep_core (e : Entry) (emulated : Bool) (s : State) : coreView (fallAsleep e emulated s) = coreView s := by
  unfold fallAsleep
  simp [core_ite]
@[simp] theorem fallAsleep_fuses (e : Entry) (emulated : Bool) (s : State) : fuseView (fallAsleep e emulated s) = fuseView s := fuses_of_core (fallAsleep_core e emulated s)
@[simp] theorem fallAsleep_memOk (e : Entry) (emulated : Bool) (s : State) : MemOk (fallAsleep e emulated s) ↔ MemOk s := memOk_of_core (fallAsleep_core e emulated s)
@[simp] theorem fallAsleep_part (e : Entry) (emulated : Bool) (s : State) {sp : StatePart} (g_twin : sp ≠ .twin) (g_power : sp ≠ .power) : part sp (fallAsleep e emulated s) = part sp s := by
  unfold fallAsleep
  simp [part_ite, *]
@[simp] theorem saveCounters_core (c : Nat) (s : State) : coreView (saveCounters c s) = coreView s := by
  unfold saveCounters
  simp
@[simp] theorem saveCounters_fuses (c : Nat) (s : State) : fuseView (saveCounters c s) = fuseView s := fuses_of_core (saveCounters_core c s)
@[simp] theorem saveCounters_memOk (c : Nat) (s : State) : MemOk (saveCounters c s) ↔ MemOk s := memOk_of_core (saveCounters_core c s)
@[simp] theorem saveCounters_part (c : Nat) (s : State) {sp : StatePart} (g_braid : sp ≠ .braid) (g_dram : sp ≠ .dram) (g_crypto : sp ≠ .crypto) : part sp (saveCounters c s) = part sp s := by
  unfold saveCounters
  simp [*]
@[simp] theorem saveRoots_core (s : State) : coreView (saveRoots s) = coreView s := by
  rfl
@[simp] theorem saveRoots_fuses (s : State) : fuseView (saveRoots s) = fuseView s := fuses_of_core (saveRoots_core s)
@[simp] theorem saveRoots_memOk (s : State) : MemOk (saveRoots s) ↔ MemOk s := memOk_of_core (saveRoots_core s)
@[simp] theorem saveRoots_part (s : State) {sp : StatePart} (g_crypto : sp ≠ .crypto) : part sp (saveRoots s) = part sp s := by
  cases sp <;> first | rfl | contradiction
@[simp] theorem commitStipple_fuses (e : Entry) (s : State) : fuseView (commitStipple e s) = fuseView s := by
  unfold commitStipple
  simp [fuses_ite]
@[simp] theorem commitStipple_memOk (e : Entry) (s : State) (h : MemOk s) : MemOk (commitStipple e s) := by
  unfold commitStipple
  dsimp only
  rw [modPower_memOk, modEngines_memOk, modTime_memOk]
  refine forAll_memOk _ _ _ (fun t x ht => ?_) ?_
  · split
    · exact toSelfRefresh_memOk _ _ ht
    · exact ht
  · rw [saveRoots_memOk, forAll_memOk_iff _ _ _ (fun t x => by simp)]
    refine forAll_memOk _ _ _ (fun t x ht => ?_) (forAll_memOk _ _ _ (fun t x ht => drainWrites_memOk _ _ ht) h)
    split
    · exact flushGroup_memOk _ _ ht
    · exact ht
@[simp] theorem commitStipple_part (e : Entry) (s : State) {sp : StatePart} (g_freeCtr : sp ≠ .freeCtr) (g_braid : sp ≠ .braid) (g_ferry : sp ≠ .ferry) (g_twin : sp ≠ .twin) (g_eng : sp ≠ .eng) (g_dram : sp ≠ .dram) (g_mems : sp ≠ .mems) (g_crypto : sp ≠ .crypto) (g_power : sp ≠ .power) (g_tbase : sp ≠ .tbase) (g_debug : sp ≠ .debug) (g_events : sp ≠ .events) : part sp (commitStipple e s) = part sp s := by
  unfold commitStipple
  simp [part_ite, *]
@[simp] theorem sleepCommit_fuses (s : State) : fuseView (sleepCommit s) = fuseView s := by
  unfold sleepCommit
  repeat' split
  all_goals simp [*]
@[simp] theorem sleepCommit_memOk (s : State) (h : MemOk s) : MemOk (sleepCommit s) := by
  unfold sleepCommit
  repeat' split
  all_goals simp [*]
@[simp] theorem sleepCommit_part (s : State) {sp : StatePart} (g_freeCtr : sp ≠ .freeCtr) (g_braid : sp ≠ .braid) (g_sluice : sp ≠ .sluice) (g_ferry : sp ≠ .ferry) (g_twin : sp ≠ .twin) (g_eng : sp ≠ .eng) (g_dram : sp ≠ .dram) (g_mems : sp ≠ .mems) (g_crypto : sp ≠ .crypto) (g_power : sp ≠ .power) (g_tbase : sp ≠ .tbase) (g_debug : sp ≠ .debug) (g_events : sp ≠ .events) : part sp (sleepCommit s) = part sp s := by
  unfold sleepCommit
  repeat' split
  all_goals simp [*]
@[simp] theorem memsRetain_core (s : State) : coreView (memsRetain s) = coreView s := by
  unfold memsRetain
  simp [core_ite]
@[simp] theorem memsRetain_fuses (s : State) : fuseView (memsRetain s) = fuseView s := fuses_of_core (memsRetain_core s)
@[simp] theorem memsRetain_memOk (s : State) : MemOk (memsRetain s) ↔ MemOk s := memOk_of_core (memsRetain_core s)
@[simp] theorem memsRetain_part (s : State) {sp : StatePart} (g_mems : sp ≠ .mems) : part sp (memsRetain s) = part sp s := by
  unfold memsRetain
  simp [part_ite, *]
@[simp] theorem memsWake_core (s : State) : coreView (memsWake s) = coreView s := by
  unfold memsWake
  simp [core_ite]
@[simp] theorem memsWake_fuses (s : State) : fuseView (memsWake s) = fuseView s := fuses_of_core (memsWake_core s)
@[simp] theorem memsWake_memOk (s : State) : MemOk (memsWake s) ↔ MemOk s := memOk_of_core (memsWake_core s)
@[simp] theorem memsWake_part (s : State) {sp : StatePart} (g_braid : sp ≠ .braid) (g_mems : sp ≠ .mems) (g_events : sp ≠ .events) : part sp (memsWake s) = part sp s := by
  unfold memsWake
  simp [part_ite, *]
@[simp] theorem retentionStep_core (s : State) : coreView (retentionStep s) = coreView s := by
  unfold retentionStep
  repeat' split
  all_goals simp [*]
@[simp] theorem retentionStep_fuses (s : State) : fuseView (retentionStep s) = fuseView s := fuses_of_core (retentionStep_core s)
@[simp] theorem retentionStep_memOk (s : State) : MemOk (retentionStep s) ↔ MemOk s := memOk_of_core (retentionStep_core s)
@[simp] theorem retentionStep_part (s : State) {sp : StatePart} (g_mems : sp ≠ .mems) (g_power : sp ≠ .power) : part sp (retentionStep s) = part sp s := by
  unfold retentionStep
  repeat' split
  all_goals simp [*]
@[simp] theorem lanesDown_core (s : State) : coreView (lanesDown s) = coreView s := by
  unfold lanesDown
  simp [core_ite]
@[simp] theorem lanesDown_fuses (s : State) : fuseView (lanesDown s) = fuseView s := fuses_of_core (lanesDown_core s)
@[simp] theorem lanesDown_memOk (s : State) : MemOk (lanesDown s) ↔ MemOk s := memOk_of_core (lanesDown_core s)
@[simp] theorem lanesDown_part (s : State) {sp : StatePart} (g_braid : sp ≠ .braid) (g_ferry : sp ≠ .ferry) (g_lanes : sp ≠ .lanes) (g_twin : sp ≠ .twin) (g_debug : sp ≠ .debug) (g_events : sp ≠ .events) : part sp (lanesDown s) = part sp s := by
  unfold lanesDown
  simp [part_ite, *]
@[simp] theorem enginesDown_fuses (s : State) : fuseView (enginesDown s) = fuseView s := by
  unfold enginesDown
  simp [fuses_ite]
@[simp] theorem enginesDown_memOk (s : State) (h : MemOk s) : MemOk (enginesDown s) := by
  unfold enginesDown
  refine forAll_memOk _ _ _ (fun t x ht => ?_) h
  split
  · exact engineOff_memOk _ _ ht
  · exact ht
@[simp] theorem enginesDown_part (s : State) {sp : StatePart} (g_braid : sp ≠ .braid) (g_ferry : sp ≠ .ferry) (g_locks : sp ≠ .locks) (g_eng : sp ≠ .eng) (g_mems : sp ≠ .mems) (g_events : sp ≠ .events) : part sp (enginesDown s) = part sp s := by
  unfold enginesDown
  simp [part_ite, *]
@[simp] theorem stippleEntered_fuses (s : State) : fuseView (stippleEntered s) = fuseView s := by
  unfold stippleEntered
  repeat' split
  all_goals simp [*]
@[simp] theorem stippleEntered_memOk (s : State) (h : MemOk s) : MemOk (stippleEntered s) := by
  unfold stippleEntered
  repeat' split
  all_goals simp [*]
@[simp] theorem stippleEntered_part (s : State) {sp : StatePart} (g_braid : sp ≠ .braid) (g_ferry : sp ≠ .ferry) (g_locks : sp ≠ .locks) (g_lanes : sp ≠ .lanes) (g_twin : sp ≠ .twin) (g_eng : sp ≠ .eng) (g_mems : sp ≠ .mems) (g_power : sp ≠ .power) (g_debug : sp ≠ .debug) (g_events : sp ≠ .events) : part sp (stippleEntered s) = part sp s := by
  unfold stippleEntered
  repeat' split
  all_goals simp [*]
@[simp] theorem swapToFast_core (s : State) : coreView (swapToFast s) = coreView s := by
  unfold swapToFast
  split <;> simp
@[simp] theorem swapToFast_fuses (s : State) : fuseView (swapToFast s) = fuseView s := fuses_of_core (swapToFast_core s)
@[simp] theorem swapToFast_memOk (s : State) : MemOk (swapToFast s) ↔ MemOk s := memOk_of_core (swapToFast_core s)
@[simp] theorem swapToFast_part (s : State) {sp : StatePart} (g_tbase : sp ≠ .tbase) : part sp (swapToFast s) = part sp s := by
  unfold swapToFast
  split <;> simp [*]
@[simp] theorem wakeChannels_core (s : State) : coreView (wakeChannels s) = coreView s := by
  unfold wakeChannels
  simp [core_ite]
@[simp] theorem wakeChannels_fuses (s : State) : fuseView (wakeChannels s) = fuseView s := fuses_of_core (wakeChannels_core s)
@[simp] theorem wakeChannels_memOk (s : State) : MemOk (wakeChannels s) ↔ MemOk s := memOk_of_core (wakeChannels_core s)
@[simp] theorem wakeChannels_part (s : State) {sp : StatePart} (g_dram : sp ≠ .dram) (g_mems : sp ≠ .mems) : part sp (wakeChannels s) = part sp s := by
  unfold wakeChannels
  simp [part_ite, *]
@[simp] theorem pllsOn_core (s : State) : coreView (pllsOn s) = coreView s := by
  rfl
@[simp] theorem pllsOn_fuses (s : State) : fuseView (pllsOn s) = fuseView s := fuses_of_core (pllsOn_core s)
@[simp] theorem pllsOn_memOk (s : State) : MemOk (pllsOn s) ↔ MemOk s := memOk_of_core (pllsOn_core s)
@[simp] theorem pllsOn_part (s : State) {sp : StatePart} (g_eng : sp ≠ .eng) : part sp (pllsOn s) = part sp s := by
  cases sp <;> first | rfl | contradiction
@[simp] theorem undoEntry_core (e : Entry) (s : State) : coreView (undoEntry e s) = coreView s := by
  unfold undoEntry
  simp [core_ite]
@[simp] theorem undoEntry_fuses (e : Entry) (s : State) : fuseView (undoEntry e s) = fuseView s := fuses_of_core (undoEntry_core e s)
@[simp] theorem undoEntry_memOk (e : Entry) (s : State) : MemOk (undoEntry e s) ↔ MemOk s := memOk_of_core (undoEntry_core e s)
@[simp] theorem undoEntry_part (e : Entry) (s : State) {sp : StatePart} (g_braid : sp ≠ .braid) (g_sluice : sp ≠ .sluice) (g_eng : sp ≠ .eng) (g_dram : sp ≠ .dram) (g_mems : sp ≠ .mems) (g_tbase : sp ≠ .tbase) (g_events : sp ≠ .events) : part sp (undoEntry e s) = part sp s := by
  unfold undoEntry
  simp [part_ite, *]
@[simp] theorem sleepAborted_core (s : State) : coreView (sleepAborted s) = coreView s := by
  unfold sleepAborted
  repeat' split
  all_goals simp [*]
@[simp] theorem sleepAborted_fuses (s : State) : fuseView (sleepAborted s) = fuseView s := fuses_of_core (sleepAborted_core s)
@[simp] theorem sleepAborted_memOk (s : State) : MemOk (sleepAborted s) ↔ MemOk s := memOk_of_core (sleepAborted_core s)
@[simp] theorem sleepAborted_part (s : State) {sp : StatePart} (g_braid : sp ≠ .braid) (g_sluice : sp ≠ .sluice) (g_ferry : sp ≠ .ferry) (g_twin : sp ≠ .twin) (g_eng : sp ≠ .eng) (g_dram : sp ≠ .dram) (g_mems : sp ≠ .mems) (g_power : sp ≠ .power) (g_tbase : sp ≠ .tbase) (g_debug : sp ≠ .debug) (g_events : sp ≠ .events) : part sp (sleepAborted s) = part sp s := by
  unfold sleepAborted
  repeat' split
  all_goals simp [*]
@[simp] theorem wakeInEntry_core (e : Entry) (w : WakeSource) (s : State) : coreView (wakeInEntry e w s) = coreView s := by
  unfold wakeInEntry
  split <;> simp
@[simp] theorem wakeInEntry_fuses (e : Entry) (w : WakeSource) (s : State) : fuseView (wakeInEntry e w s) = fuseView s := fuses_of_core (wakeInEntry_core e w s)
@[simp] theorem wakeInEntry_memOk (e : Entry) (w : WakeSource) (s : State) : MemOk (wakeInEntry e w s) ↔ MemOk s := memOk_of_core (wakeInEntry_core e w s)
@[simp] theorem wakeInEntry_part (e : Entry) (w : WakeSource) (s : State) {sp : StatePart} (g_power : sp ≠ .power) : part sp (wakeInEntry e w s) = part sp s := by
  unfold wakeInEntry
  split <;> simp [*]
@[simp] theorem wakeEvent_core (w : WakeSource) (s : State) : coreView (wakeEvent w s) = coreView s := by
  unfold wakeEvent
  repeat' split
  all_goals simp [*]
@[simp] theorem wakeEvent_fuses (w : WakeSource) (s : State) : fuseView (wakeEvent w s) = fuseView s := fuses_of_core (wakeEvent_core w s)
@[simp] theorem wakeEvent_memOk (w : WakeSource) (s : State) : MemOk (wakeEvent w s) ↔ MemOk s := memOk_of_core (wakeEvent_core w s)
@[simp] theorem wakeEvent_part (w : WakeSource) (s : State) {sp : StatePart} (g_power : sp ≠ .power) : part sp (wakeEvent w s) = part sp s := by
  unfold wakeEvent
  repeat' split
  all_goals simp [*]
@[simp] theorem awake_core (s : State) : coreView (awake s) = coreView s := by
  unfold awake
  split <;> simp
@[simp] theorem awake_fuses (s : State) : fuseView (awake s) = fuseView s := fuses_of_core (awake_core s)
@[simp] theorem awake_memOk (s : State) : MemOk (awake s) ↔ MemOk s := memOk_of_core (awake_core s)
@[simp] theorem awake_part (s : State) {sp : StatePart} (g_braid : sp ≠ .braid) (g_ferry : sp ≠ .ferry) (g_lanes : sp ≠ .lanes) (g_twin : sp ≠ .twin) (g_power : sp ≠ .power) (g_debug : sp ≠ .debug) (g_events : sp ≠ .events) : part sp (awake s) = part sp s := by
  unfold awake
  split <;> simp [*]
@[simp] theorem dozeExit_core (s : State) : coreView (dozeExit s) = coreView s := by
  unfold dozeExit
  split <;> simp
@[simp] theorem dozeExit_fuses (s : State) : fuseView (dozeExit s) = fuseView s := fuses_of_core (dozeExit_core s)
@[simp] theorem dozeExit_memOk (s : State) : MemOk (dozeExit s) ↔ MemOk s := memOk_of_core (dozeExit_core s)
@[simp] theorem dozeExit_part (s : State) {sp : StatePart} (g_braid : sp ≠ .braid) (g_ferry : sp ≠ .ferry) (g_lanes : sp ≠ .lanes) (g_twin : sp ≠ .twin) (g_power : sp ≠ .power) (g_debug : sp ≠ .debug) (g_events : sp ≠ .events) : part sp (dozeExit s) = part sp s := by
  unfold dozeExit
  split <;> simp [*]
@[simp] theorem restoreRoots_core (s : State) : coreView (restoreRoots s) = coreView s := by
  unfold restoreRoots
  split <;> simp
@[simp] theorem restoreRoots_fuses (s : State) : fuseView (restoreRoots s) = fuseView s := fuses_of_core (restoreRoots_core s)
@[simp] theorem restoreRoots_memOk (s : State) : MemOk (restoreRoots s) ↔ MemOk s := memOk_of_core (restoreRoots_core s)
@[simp] theorem restoreRoots_part (s : State) {sp : StatePart} (g_braid : sp ≠ .braid) (g_crypto : sp ≠ .crypto) (g_events : sp ≠ .events) : part sp (restoreRoots s) = part sp s := by
  unfold restoreRoots
  split <;> simp [*]
@[simp] theorem restoreChannels_core (s : State) : coreView (restoreChannels s) = coreView s := by
  unfold restoreChannels
  simp
@[simp] theorem restoreChannels_fuses (s : State) : fuseView (restoreChannels s) = fuseView s := fuses_of_core (restoreChannels_core s)
@[simp] theorem restoreChannels_memOk (s : State) : MemOk (restoreChannels s) ↔ MemOk s := memOk_of_core (restoreChannels_core s)
@[simp] theorem restoreChannels_part (s : State) {sp : StatePart} (g_dram : sp ≠ .dram) : part sp (restoreChannels s) = part sp s := by
  unfold restoreChannels
  simp [*]
@[simp] theorem reachesRestart_core (s : State) : coreView (reachesRestart s) = coreView s := by
  unfold reachesRestart
  simp [core_ite]
@[simp] theorem reachesRestart_fuses (s : State) : fuseView (reachesRestart s) = fuseView s := fuses_of_core (reachesRestart_core s)
@[simp] theorem reachesRestart_memOk (s : State) : MemOk (reachesRestart s) ↔ MemOk s := memOk_of_core (reachesRestart_core s)
@[simp] theorem reachesRestart_part (s : State) {sp : StatePart} (g_fabric : sp ≠ .fabric) : part sp (reachesRestart s) = part sp s := by
  unfold reachesRestart
  simp [part_ite, *]
@[simp] theorem lanesUpAgain_core (ready : Bool) (s : State) : coreView (lanesUpAgain ready s) = coreView s := by
  unfold lanesUpAgain
  refine forAll_core _ _ _ (fun t x => ?_)
  dsimp only
  repeat' split
  all_goals simp
@[simp] theorem lanesUpAgain_fuses (ready : Bool) (s : State) : fuseView (lanesUpAgain ready s) = fuseView s := fuses_of_core (lanesUpAgain_core ready s)
@[simp] theorem lanesUpAgain_memOk (ready : Bool) (s : State) : MemOk (lanesUpAgain ready s) ↔ MemOk s := memOk_of_core (lanesUpAgain_core ready s)
@[simp] theorem lanesUpAgain_part (ready : Bool) (s : State) {sp : StatePart} (g_braid : sp ≠ .braid) (g_ferry : sp ≠ .ferry) (g_lanes : sp ≠ .lanes) (g_twin : sp ≠ .twin) (g_debug : sp ≠ .debug) (g_events : sp ≠ .events) : part sp (lanesUpAgain ready s) = part sp s := by
  unfold lanesUpAgain
  refine forAll_part _ _ _ (fun t x => ?_)
  dsimp only
  repeat' split
  all_goals simp [*]
@[simp] theorem stippleRestore_core (s : State) : coreView (stippleRestore s) = coreView s := by
  unfold stippleRestore
  simp
@[simp] theorem stippleRestore_fuses (s : State) : fuseView (stippleRestore s) = fuseView s := fuses_of_core (stippleRestore_core s)
@[simp] theorem stippleRestore_memOk (s : State) : MemOk (stippleRestore s) ↔ MemOk s := memOk_of_core (stippleRestore_core s)
@[simp] theorem stippleRestore_part (s : State) {sp : StatePart} (g_braid : sp ≠ .braid) (g_eng : sp ≠ .eng) (g_dram : sp ≠ .dram) (g_mems : sp ≠ .mems) (g_crypto : sp ≠ .crypto) (g_fabric : sp ≠ .fabric) (g_tbase : sp ≠ .tbase) (g_events : sp ≠ .events) : part sp (stippleRestore s) = part sp s := by
  unfold stippleRestore
  simp [*]
@[simp] theorem stippleLeave_core (s : State) : coreView (stippleLeave s) = coreView s := by
  unfold stippleLeave
  simp
@[simp] theorem stippleLeave_fuses (s : State) : fuseView (stippleLeave s) = fuseView s := fuses_of_core (stippleLeave_core s)
@[simp] theorem stippleLeave_memOk (s : State) : MemOk (stippleLeave s) ↔ MemOk s := memOk_of_core (stippleLeave_core s)
@[simp] theorem stippleLeave_part (s : State) {sp : StatePart} (g_braid : sp ≠ .braid) (g_ferry : sp ≠ .ferry) (g_lanes : sp ≠ .lanes) (g_twin : sp ≠ .twin) (g_power : sp ≠ .power) (g_debug : sp ≠ .debug) (g_events : sp ≠ .events) : part sp (stippleLeave s) = part sp s := by
  unfold stippleLeave
  simp [*]
@[simp] theorem stippleExitDone_core (s : State) : coreView (stippleExitDone s) = coreView s := by
  unfold stippleExitDone
  dsimp only
  repeat' split
  all_goals simp [*]
@[simp] theorem stippleExitDone_fuses (s : State) : fuseView (stippleExitDone s) = fuseView s := fuses_of_core (stippleExitDone_core s)
@[simp] theorem stippleExitDone_memOk (s : State) : MemOk (stippleExitDone s) ↔ MemOk s := memOk_of_core (stippleExitDone_core s)
@[simp] theorem stippleExitDone_part (s : State) {sp : StatePart} (g_braid : sp ≠ .braid) (g_sluice : sp ≠ .sluice) (g_ferry : sp ≠ .ferry) (g_lanes : sp ≠ .lanes) (g_twin : sp ≠ .twin) (g_eng : sp ≠ .eng) (g_dram : sp ≠ .dram) (g_mems : sp ≠ .mems) (g_crypto : sp ≠ .crypto) (g_fabric : sp ≠ .fabric) (g_power : sp ≠ .power) (g_tbase : sp ≠ .tbase) (g_debug : sp ≠ .debug) (g_events : sp ≠ .events) : part sp (stippleExitDone s) = part sp s := by
  unfold stippleExitDone
  dsimp only
  repeat' split
  all_goals simp [*]
@[simp] theorem keepSample_core (s : State) (x : StipEntry) (v : Int) : coreView (keepSample s x v) = coreView s := by
  unfold keepSample
  simp [core_ite]
@[simp] theorem keepSample_fuses (s : State) (x : StipEntry) (v : Int) : fuseView (keepSample s x v) = fuseView s := fuses_of_core (keepSample_core s x v)
@[simp] theorem keepSample_memOk (s : State) (x : StipEntry) (v : Int) : MemOk (keepSample s x v) ↔ MemOk s := memOk_of_core (keepSample_core s x v)
@[simp] theorem keepSample_part (s : State) (x : StipEntry) (v : Int) {sp : StatePart} (g_power : sp ≠ .power) : part sp (keepSample s x v) = part sp s := by
  unfold keepSample
  simp [part_ite, *]
@[simp] theorem stipplePeriod_core (samples : List Int) (s : State) : coreView (stipplePeriod samples s) = coreView s := by
  unfold stipplePeriod
  dsimp only
  repeat' split
  all_goals simp [*]
@[simp] theorem stipplePeriod_fuses (samples : List Int) (s : State) : fuseView (stipplePeriod samples s) = fuseView s := fuses_of_core (stipplePeriod_core samples s)
@[simp] theorem stipplePeriod_memOk (samples : List Int) (s : State) : MemOk (stipplePeriod samples s) ↔ MemOk s := memOk_of_core (stipplePeriod_core samples s)
@[simp] theorem stipplePeriod_part (samples : List Int) (s : State) {sp : StatePart} (g_twin : sp ≠ .twin) (g_power : sp ≠ .power) : part sp (stipplePeriod samples s) = part sp s := by
  unfold stipplePeriod
  dsimp only
  repeat' split
  all_goals simp [*]
@[simp] theorem realSleep_core (s : State) : coreView (realSleep s) = coreView s := by
  unfold realSleep
  simp [core_ite]
@[simp] theorem realSleep_fuses (s : State) : fuseView (realSleep s) = fuseView s := fuses_of_core (realSleep_core s)
@[simp] theorem realSleep_memOk (s : State) : MemOk (realSleep s) ↔ MemOk s := memOk_of_core (realSleep_core s)
@[simp] theorem realSleep_part (s : State) {sp : StatePart} (g_twin : sp ≠ .twin) (g_power : sp ≠ .power) : part sp (realSleep s) = part sp s := by
  unfold realSleep
  simp [part_ite, *]
@[simp] theorem flashMode_core (octal : Bool) (s : State) : coreView (flashMode octal s) = coreView s := by
  unfold flashMode
  simp [core_ite]
@[simp] theorem flashMode_fuses (octal : Bool) (s : State) : fuseView (flashMode octal s) = fuseView s := fuses_of_core (flashMode_core octal s)
@[simp] theorem flashMode_memOk (octal : Bool) (s : State) : MemOk (flashMode octal s) ↔ MemOk s := memOk_of_core (flashMode_core octal s)
@[simp] theorem flashMode_part (octal : Bool) (s : State) {sp : StatePart} (g_braid : sp ≠ .braid) (g_debug : sp ≠ .debug) (g_events : sp ≠ .events) : part sp (flashMode octal s) = part sp s := by
  unfold flashMode
  simp [part_ite, *]
@[simp] theorem bootTry_core (l : List Nat) (s : State) : coreView (bootTry l s) = coreView s := by
  induction l generalizing s with
  | nil => unfold bootTry; simp
  | cons i r ih =>
    unfold bootTry
    repeat' split
    all_goals (simp [ih]; try (intro x; split <;> rfl))
@[simp] theorem bootTry_fuses (l : List Nat) (s : State) : fuseView (bootTry l s) = fuseView s := fuses_of_core (bootTry_core l s)
@[simp] theorem bootTry_memOk (l : List Nat) (s : State) : MemOk (bootTry l s) ↔ MemOk s := memOk_of_core (bootTry_core l s)
@[simp] theorem bootTry_part (l : List Nat) (s : State) {sp : StatePart} (g_braid : sp ≠ .braid) (g_ferry : sp ≠ .ferry) (g_debug : sp ≠ .debug) (g_events : sp ≠ .events) : part sp (bootTry l s) = part sp s := by
  induction l generalizing s with
  | nil => unfold bootTry; simp [*]
  | cons i r ih =>
    unfold bootTry
    repeat' split
    all_goals simp [ih, *]
@[simp] theorem firmwareLoad_core (octal : Bool) (s : State) : coreView (firmwareLoad octal s) = coreView s := by
  unfold firmwareLoad
  split <;> simp
@[simp] theorem firmwareLoad_fuses (octal : Bool) (s : State) : fuseView (firmwareLoad octal s) = fuseView s := fuses_of_core (firmwareLoad_core octal s)
@[simp] theorem firmwareLoad_memOk (octal : Bool) (s : State) : MemOk (firmwareLoad octal s) ↔ MemOk s := memOk_of_core (firmwareLoad_core octal s)
@[simp] theorem firmwareLoad_part (octal : Bool) (s : State) {sp : StatePart} (g_braid : sp ≠ .braid) (g_ferry : sp ≠ .ferry) (g_debug : sp ≠ .debug) (g_events : sp ≠ .events) : part sp (firmwareLoad octal s) = part sp s := by
  unfold firmwareLoad
  split <;> simp [*]
@[simp] theorem blankReset_part (s : State) {sp : StatePart} (g_braid : sp ≠ .braid) (g_sluice : sp ≠ .sluice) (g_ferry : sp ≠ .ferry) (g_locks : sp ≠ .locks) (g_host : sp ≠ .host) (g_lanes : sp ≠ .lanes) (g_delta : sp ≠ .delta) (g_twin : sp ≠ .twin) (g_eng : sp ≠ .eng) (g_dram : sp ≠ .dram) (g_mems : sp ≠ .mems) (g_crypto : sp ≠ .crypto) (g_fabric : sp ≠ .fabric) (g_bw : sp ≠ .bw) (g_bwx : sp ≠ .bwx) (g_power : sp ≠ .power) (g_tbase : sp ≠ .tbase) (g_debug : sp ≠ .debug) (g_events : sp ≠ .events) (g_rill : sp ≠ .rill) : part sp (blankReset s) = part sp s := by
  cases sp <;> first | rfl | contradiction
@[simp] theorem deviceReset_part (kind : Nat) (s : State) {sp : StatePart} (g_braid : sp ≠ .braid) (g_sluice : sp ≠ .sluice) (g_ferry : sp ≠ .ferry) (g_locks : sp ≠ .locks) (g_host : sp ≠ .host) (g_lanes : sp ≠ .lanes) (g_delta : sp ≠ .delta) (g_twin : sp ≠ .twin) (g_eng : sp ≠ .eng) (g_dram : sp ≠ .dram) (g_mems : sp ≠ .mems) (g_crypto : sp ≠ .crypto) (g_fabric : sp ≠ .fabric) (g_bw : sp ≠ .bw) (g_bwx : sp ≠ .bwx) (g_power : sp ≠ .power) (g_tbase : sp ≠ .tbase) (g_debug : sp ≠ .debug) (g_events : sp ≠ .events) (g_rill : sp ≠ .rill) : part sp (deviceReset kind s) = part sp s := by
  unfold deviceReset
  dsimp only
  refine (raiseEv_part _ _ _ _ _ g_braid g_events).trans ((forAll_part _ _ _ (fun t x => raiseEv_part _ _ _ _ _ g_braid g_events)).trans ((modSty_part _ _ g_debug).trans ((modBoot_part _ _ g_debug).trans ?_)))
  cases sp <;> first | rfl | contradiction
@[simp] theorem powerOnReset_part (s : State) {sp : StatePart} (g_braid : sp ≠ .braid) (g_sluice : sp ≠ .sluice) (g_ferry : sp ≠ .ferry) (g_locks : sp ≠ .locks) (g_host : sp ≠ .host) (g_lanes : sp ≠ .lanes) (g_delta : sp ≠ .delta) (g_twin : sp ≠ .twin) (g_eng : sp ≠ .eng) (g_dram : sp ≠ .dram) (g_mems : sp ≠ .mems) (g_crypto : sp ≠ .crypto) (g_fabric : sp ≠ .fabric) (g_bw : sp ≠ .bw) (g_bwx : sp ≠ .bwx) (g_power : sp ≠ .power) (g_tbase : sp ≠ .tbase) (g_debug : sp ≠ .debug) (g_events : sp ≠ .events) (g_rill : sp ≠ .rill) : part sp (powerOnReset s) = part sp s := by
  cases sp <;> first | rfl | contradiction
@[simp] theorem resetRelease_core (bootMode : Nat) (slotId : Nat) (vmePg : Bool) (s : State) : coreView (resetRelease bootMode slotId vmePg s) = coreView s := by
  unfold resetRelease
  simp [core_ite]
@[simp] theorem resetRelease_fuses (bootMode : Nat) (slotId : Nat) (vmePg : Bool) (s : State) : fuseView (resetRelease bootMode slotId vmePg s) = fuseView s := fuses_of_core (resetRelease_core bootMode slotId vmePg s)
@[simp] theorem resetRelease_memOk (bootMode : Nat) (slotId : Nat) (vmePg : Bool) (s : State) : MemOk (resetRelease bootMode slotId vmePg s) ↔ MemOk s := memOk_of_core (resetRelease_core bootMode slotId vmePg s)
@[simp] theorem resetRelease_part (bootMode : Nat) (slotId : Nat) (vmePg : Bool) (s : State) {sp : StatePart} (g_braid : sp ≠ .braid) (g_delta : sp ≠ .delta) (g_debug : sp ≠ .debug) (g_events : sp ≠ .events) : part sp (resetRelease bootMode slotId vmePg s) = part sp s := by
  unfold resetRelease
  simp [part_ite, *]
@[simp] theorem flashWrite_core (o : Nat) (l : List Byte) (s : State) : coreView (flashWrite o l s) = coreView s := by
  rfl
@[simp] theorem flashWrite_fuses (o : Nat) (l : List Byte) (s : State) : fuseView (flashWrite o l s) = fuseView s := fuses_of_core (flashWrite_core o l s)
@[simp] theorem flashWrite_memOk (o : Nat) (l : List Byte) (s : State) : MemOk (flashWrite o l s) ↔ MemOk s := memOk_of_core (flashWrite_core o l s)
@[simp] theorem flashWrite_part (o : Nat) (l : List Byte) (s : State) {sp : StatePart} (g_debug : sp ≠ .debug) : part sp (flashWrite o l s) = part sp s := by
  cases sp <;> first | rfl | contradiction
@[simp] theorem writeDirectory_core (d : List Byte) (s : State) : coreView (writeDirectory d s) = coreView s := by
  rfl
@[simp] theorem writeDirectory_fuses (d : List Byte) (s : State) : fuseView (writeDirectory d s) = fuseView s := fuses_of_core (writeDirectory_core d s)
@[simp] theorem writeDirectory_memOk (d : List Byte) (s : State) : MemOk (writeDirectory d s) ↔ MemOk s := memOk_of_core (writeDirectory_core d s)
@[simp] theorem writeDirectory_part (d : List Byte) (s : State) {sp : StatePart} (g_debug : sp ≠ .debug) : part sp (writeDirectory d s) = part sp s := by
  cases sp <;> first | rfl | contradiction
@[simp] theorem sysFwStageBody_core (v : Serving) (s : State) : coreView (sysFwStageBody v s).2 = coreView s := by
  unfold sysFwStageBody
  dsimp only
  repeat' split
  all_goals simp [*]
@[simp] theorem sysFwStageBody_fuses (v : Serving) (s : State) : fuseView (sysFwStageBody v s).2 = fuseView s := fuses_of_core (sysFwStageBody_core v s)
@[simp] theorem sysFwStageBody_memOk (v : Serving) (s : State) : MemOk (sysFwStageBody v s).2 ↔ MemOk s := memOk_of_core (sysFwStageBody_core v s)
@[simp] theorem sysFwStageBody_part (v : Serving) (s : State) {sp : StatePart} (g_ferry : sp ≠ .ferry) (g_debug : sp ≠ .debug) : part sp (sysFwStageBody v s).2 = part sp s := by
  unfold sysFwStageBody
  dsimp only
  repeat' split
  all_goals simp [*]
@[simp] theorem sysFwStage_core (s : State) : coreView (sysFwStage s) = coreView s := by
  unfold sysFwStage
  simp
@[simp] theorem sysFwStage_fuses (s : State) : fuseView (sysFwStage s) = fuseView s := fuses_of_core (sysFwStage_core s)
@[simp] theorem sysFwStage_memOk (s : State) : MemOk (sysFwStage s) ↔ MemOk s := memOk_of_core (sysFwStage_core s)
@[simp] theorem sysFwStage_part (s : State) {sp : StatePart} (g_ferry : sp ≠ .ferry) (g_debug : sp ≠ .debug) : part sp (sysFwStage s) = part sp s := by
  unfold sysFwStage
  simp [*]
@[simp] theorem stagedFirmware_core (o : Nat) (j : Nat) (img : List Byte) (s : State) : coreView (stagedFirmware o j img s) = coreView s := by
  unfold stagedFirmware
  simp [core_ite]
@[simp] theorem stagedFirmware_fuses (o : Nat) (j : Nat) (img : List Byte) (s : State) : fuseView (stagedFirmware o j img s) = fuseView s := fuses_of_core (stagedFirmware_core o j img s)
@[simp] theorem stagedFirmware_memOk (o : Nat) (j : Nat) (img : List Byte) (s : State) : MemOk (stagedFirmware o j img s) ↔ MemOk s := memOk_of_core (stagedFirmware_core o j img s)
@[simp] theorem stagedFirmware_part (o : Nat) (j : Nat) (img : List Byte) (s : State) {sp : StatePart} (g_braid : sp ≠ .braid) (g_ferry : sp ≠ .ferry) (g_twin : sp ≠ .twin) (g_debug : sp ≠ .debug) (g_events : sp ≠ .events) : part sp (stagedFirmware o j img s) = part sp s := by
  unfold stagedFirmware
  simp [part_ite, *]
@[simp] theorem stagedFabric_core (o : Nat) (j : Nat) (prefer : Bool) (img : List Byte) (s : State) : coreView (stagedFabric o j prefer img s) = coreView s := by
  unfold stagedFabric
  simp [core_ite]
@[simp] theorem stagedFabric_fuses (o : Nat) (j : Nat) (prefer : Bool) (img : List Byte) (s : State) : fuseView (stagedFabric o j prefer img s) = fuseView s := fuses_of_core (stagedFabric_core o j prefer img s)
@[simp] theorem stagedFabric_memOk (o : Nat) (j : Nat) (prefer : Bool) (img : List Byte) (s : State) : MemOk (stagedFabric o j prefer img s) ↔ MemOk s := memOk_of_core (stagedFabric_core o j prefer img s)
@[simp] theorem stagedFabric_part (o : Nat) (j : Nat) (prefer : Bool) (img : List Byte) (s : State) {sp : StatePart} (g_braid : sp ≠ .braid) (g_ferry : sp ≠ .ferry) (g_twin : sp ≠ .twin) (g_debug : sp ≠ .debug) (g_events : sp ≠ .events) : part sp (stagedFabric o j prefer img s) = part sp s := by
  unfold stagedFabric
  simp [part_ite, *]
@[simp] theorem flashStagingDone_core (completed : Bool) (s : State) : coreView (flashStagingDone completed s) = coreView s := by
  unfold flashStagingDone
  repeat' split
  all_goals simp [*]
@[simp] theorem flashStagingDone_fuses (completed : Bool) (s : State) : fuseView (flashStagingDone completed s) = fuseView s := fuses_of_core (flashStagingDone_core completed s)
@[simp] theorem flashStagingDone_memOk (completed : Bool) (s : State) : MemOk (flashStagingDone completed s) ↔ MemOk s := memOk_of_core (flashStagingDone_core completed s)
@[simp] theorem flashStagingDone_part (completed : Bool) (s : State) {sp : StatePart} (g_freeCtr : sp ≠ .freeCtr) (g_braid : sp ≠ .braid) (g_ferry : sp ≠ .ferry) (g_twin : sp ≠ .twin) (g_fabric : sp ≠ .fabric) (g_debug : sp ≠ .debug) (g_events : sp ≠ .events) : part sp (flashStagingDone completed s) = part sp s := by
  unfold flashStagingDone
  repeat' split
  all_goals simp [*]
@[simp] theorem sysFwActivateBody_core (v : Serving) (s : State) : coreView (sysFwActivateBody v s).2 = coreView s := by
  unfold sysFwActivateBody
  dsimp only
  repeat' split
  all_goals simp [*]
@[simp] theorem sysFwActivateBody_fuses (v : Serving) (s : State) : fuseView (sysFwActivateBody v s).2 = fuseView s := fuses_of_core (sysFwActivateBody_core v s)
@[simp] theorem sysFwActivateBody_memOk (v : Serving) (s : State) : MemOk (sysFwActivateBody v s).2 ↔ MemOk s := memOk_of_core (sysFwActivateBody_core v s)
@[simp] theorem sysFwActivateBody_part (v : Serving) (s : State) {sp : StatePart} (g_ferry : sp ≠ .ferry) : part sp (sysFwActivateBody v s).2 = part sp s := by
  unfold sysFwActivateBody
  dsimp only
  repeat' split
  all_goals simp [*]
@[simp] theorem sysFwActivate_core (s : State) : coreView (sysFwActivate s) = coreView s := by
  unfold sysFwActivate
  simp
@[simp] theorem sysFwActivate_fuses (s : State) : fuseView (sysFwActivate s) = fuseView s := fuses_of_core (sysFwActivate_core s)
@[simp] theorem sysFwActivate_memOk (s : State) : MemOk (sysFwActivate s) ↔ MemOk s := memOk_of_core (sysFwActivate_core s)
@[simp] theorem sysFwActivate_part (s : State) {sp : StatePart} (g_ferry : sp ≠ .ferry) : part sp (sysFwActivate s) = part sp s := by
  unfold sysFwActivate
  simp [*]
@[simp] theorem commitSvn_part (s : State) {sp : StatePart} (g_debug : sp ≠ .debug) : part sp (commitSvn s) = part sp s := by
  unfold commitSvn
  split <;> simp [*]
@[simp] theorem firmwareSwitch_part (s : State) {sp : StatePart} (g_braid : sp ≠ .braid) (g_ferry : sp ≠ .ferry) (g_debug : sp ≠ .debug) (g_events : sp ≠ .events) : part sp (firmwareSwitch s) = part sp s := by
  unfold firmwareSwitch
  simp [part_ite, *]
@[simp] theorem directoryRewrite_core (s : State) : coreView (directoryRewrite s) = coreView s := by
  unfold directoryRewrite
  split <;> simp
@[simp] theorem directoryRewrite_fuses (s : State) : fuseView (directoryRewrite s) = fuseView s := fuses_of_core (directoryRewrite_core s)
@[simp] theorem directoryRewrite_memOk (s : State) : MemOk (directoryRewrite s) ↔ MemOk s := memOk_of_core (directoryRewrite_core s)
@[simp] theorem directoryRewrite_part (s : State) {sp : StatePart} (g_debug : sp ≠ .debug) : part sp (directoryRewrite s) = part sp s := by
  unfold directoryRewrite
  split <;> simp [*]
@[simp] theorem directoryRewriteDone_part (s : State) {sp : StatePart} (g_braid : sp ≠ .braid) (g_fabric : sp ≠ .fabric) (g_debug : sp ≠ .debug) : part sp (directoryRewriteDone s) = part sp s := by
  unfold directoryRewriteDone
  split <;> simp [*]
@[simp] theorem sysLifecycleBody_part (v : Serving) (s : State) {sp : StatePart} (g_ferry : sp ≠ .ferry) (g_debug : sp ≠ .debug) : part sp (sysLifecycleBody v s).2 = part sp s := by
  unfold sysLifecycleBody
  dsimp only
  repeat' split
  all_goals simp [*]
@[simp] theorem sysLifecycle_part (s : State) {sp : StatePart} (g_ferry : sp ≠ .ferry) (g_debug : sp ≠ .debug) : part sp (sysLifecycle s) = part sp s := by
  unfold sysLifecycle
  simp [*]
@[simp] theorem detachDebugger_core (s : State) : coreView (detachDebugger s) = coreView s := by
  unfold detachDebugger
  simp [core_ite]
@[simp] theorem detachDebugger_fuses (s : State) : fuseView (detachDebugger s) = fuseView s := fuses_of_core (detachDebugger_core s)
@[simp] theorem detachDebugger_memOk (s : State) : MemOk (detachDebugger s) ↔ MemOk s := memOk_of_core (detachDebugger_core s)
@[simp] theorem detachDebugger_part (s : State) {sp : StatePart} (g_braid : sp ≠ .braid) (g_ferry : sp ≠ .ferry) (g_locks : sp ≠ .locks) (g_twin : sp ≠ .twin) (g_eng : sp ≠ .eng) (g_power : sp ≠ .power) (g_debug : sp ≠ .debug) (g_events : sp ≠ .events) : part sp (detachDebugger s) = part sp s := by
  unfold detachDebugger
  simp [part_ite, *]
@[simp] theorem fuseProgrammingDone_part (verified : Bool) (s : State) {sp : StatePart} (g_braid : sp ≠ .braid) (g_ferry : sp ≠ .ferry) (g_locks : sp ≠ .locks) (g_twin : sp ≠ .twin) (g_eng : sp ≠ .eng) (g_crypto : sp ≠ .crypto) (g_power : sp ≠ .power) (g_debug : sp ≠ .debug) (g_events : sp ≠ .events) : part sp (fuseProgrammingDone verified s) = part sp s := by
  unfold fuseProgrammingDone
  repeat' split
  all_goals simp [*]
@[simp] theorem takeSymbol_core (b : Bool) (s : State) : coreView (takeSymbol b s) = coreView s := by
  unfold takeSymbol
  simp
@[simp] theorem takeSymbol_fuses (b : Bool) (s : State) : fuseView (takeSymbol b s) = fuseView s := fuses_of_core (takeSymbol_core b s)
@[simp] theorem takeSymbol_memOk (b : Bool) (s : State) : MemOk (takeSymbol b s) ↔ MemOk s := memOk_of_core (takeSymbol_core b s)
@[simp] theorem takeSymbol_part (b : Bool) (s : State) {sp : StatePart} (g_debug : sp ≠ .debug) : part sp (takeSymbol b s) = part sp s := by
  unfold takeSymbol
  simp [*]
@[simp] theorem responseWindow_core (s : State) : coreView (responseWindow s) = coreView s := by
  unfold responseWindow
  split <;> simp
@[simp] theorem responseWindow_fuses (s : State) : fuseView (responseWindow s) = fuseView s := fuses_of_core (responseWindow_core s)
@[simp] theorem responseWindow_memOk (s : State) : MemOk (responseWindow s) ↔ MemOk s := memOk_of_core (responseWindow_core s)
@[simp] theorem responseWindow_part (s : State) {sp : StatePart} (g_debug : sp ≠ .debug) : part sp (responseWindow s) = part sp s := by
  unfold responseWindow
  split <;> simp [*]
@[simp] theorem attach_core (s : State) : coreView (attach s) = coreView s := by
  unfold attach
  split <;> simp
@[simp] theorem attach_fuses (s : State) : fuseView (attach s) = fuseView s := fuses_of_core (attach_core s)
@[simp] theorem attach_memOk (s : State) : MemOk (attach s) ↔ MemOk s := memOk_of_core (attach_core s)
@[simp] theorem attach_part (s : State) {sp : StatePart} (g_braid : sp ≠ .braid) (g_debug : sp ≠ .debug) (g_events : sp ≠ .events) : part sp (attach s) = part sp s := by
  unfold attach
  split <;> simp [*]
@[simp] theorem shortPulse_core (w : Nat) (s : State) : coreView (shortPulse w s) = coreView s := by
  unfold shortPulse
  simp [core_ite]
@[simp] theorem shortPulse_fuses (w : Nat) (s : State) : fuseView (shortPulse w s) = fuseView s := fuses_of_core (shortPulse_core w s)
@[simp] theorem shortPulse_memOk (w : Nat) (s : State) : MemOk (shortPulse w s) ↔ MemOk s := memOk_of_core (shortPulse_core w s)
@[simp] theorem shortPulse_part (w : Nat) (s : State) {sp : StatePart} (g_braid : sp ≠ .braid) (g_debug : sp ≠ .debug) (g_events : sp ≠ .events) : part sp (shortPulse w s) = part sp s := by
  unfold shortPulse
  simp [part_ite, *]
@[simp] theorem styGlitch_core (s : State) : coreView (styGlitch s) = coreView s := by
  unfold styGlitch
  simp
@[simp] theorem styGlitch_fuses (s : State) : fuseView (styGlitch s) = fuseView s := fuses_of_core (styGlitch_core s)
@[simp] theorem styGlitch_memOk (s : State) : MemOk (styGlitch s) ↔ MemOk s := memOk_of_core (styGlitch_core s)
@[simp] theorem styGlitch_part (s : State) {sp : StatePart} (g_braid : sp ≠ .braid) (g_debug : sp ≠ .debug) (g_events : sp ≠ .events) : part sp (styGlitch s) = part sp s := by
  unfold styGlitch
  simp [*]
@[simp] theorem stylusFrameTimeout_core (s : State) : coreView (stylusFrameTimeout s) = coreView s := by
  unfold stylusFrameTimeout
  split <;> simp
@[simp] theorem stylusFrameTimeout_fuses (s : State) : fuseView (stylusFrameTimeout s) = fuseView s := fuses_of_core (stylusFrameTimeout_core s)
@[simp] theorem stylusFrameTimeout_memOk (s : State) : MemOk (stylusFrameTimeout s) ↔ MemOk s := memOk_of_core (stylusFrameTimeout_core s)
@[simp] theorem stylusFrameTimeout_part (s : State) {sp : StatePart} (g_debug : sp ≠ .debug) : part sp (stylusFrameTimeout s) = part sp s := by
  unfold stylusFrameTimeout
  split <;> simp [*]
@[simp] theorem styRespond_core (ferry : Bool) (n : Nat) (r : StyResp) (s : State) : coreView (styRespond ferry n r s) = coreView s := by
  rfl
@[simp] theorem styRespond_fuses (ferry : Bool) (n : Nat) (r : StyResp) (s : State) : fuseView (styRespond ferry n r s) = fuseView s := fuses_of_core (styRespond_core ferry n r s)
@[simp] theorem styRespond_memOk (ferry : Bool) (n : Nat) (r : StyResp) (s : State) : MemOk (styRespond ferry n r s) ↔ MemOk s := memOk_of_core (styRespond_core ferry n r s)
@[simp] theorem styRespond_part (ferry : Bool) (n : Nat) (r : StyResp) (s : State) {sp : StatePart} (g_debug : sp ≠ .debug) : part sp (styRespond ferry n r s) = part sp s := by
  cases sp <;> first | rfl | contradiction
@[simp] theorem stylusServe_core (cmd : Nat) (payload : List Byte) (n : Nat) (body : State → StyResp × State) (s : State) (hbody : ∀ y0, coreView (body y0).2 = coreView y0) : coreView (stylusServe cmd payload n body s) = coreView s := by
  unfold stylusServe
  dsimp only
  repeat' split
  all_goals simp [*]
@[simp] theorem stylusServe_fuses (cmd : Nat) (payload : List Byte) (n : Nat) (body : State → StyResp × State) (s : State) (hbody : ∀ y0, fuseView (body y0).2 = fuseView y0) : fuseView (stylusServe cmd payload n body s) = fuseView s := by
  unfold stylusServe
  dsimp only
  repeat' split
  all_goals simp [*]
@[simp] theorem stylusServe_memOk (cmd : Nat) (payload : List Byte) (n : Nat) (body : State → StyResp × State) (s : State) (hbody : ∀ y0, coreView (body y0).2 = coreView y0) : MemOk (stylusServe cmd payload n body s) ↔ MemOk s := memOk_of_core (stylusServe_core cmd payload n body s hbody)
theorem stylusServe_keeps (op : Nat) (args : List Byte) (max_ : Nat) (body : State → StyResp × State) (s : State) (hb : ∀ t, MemOk t → MemOk (body t).2) (h : MemOk s) : MemOk (stylusServe op args max_ body s) := by
  unfold stylusServe
  dsimp only
  repeat' split
  all_goals first | exact h | (simpa using h) | (simpa using hb _ h) | (simpa using hb _ (by simpa using h))

@[simp] theorem stylusServe_part (cmd : Nat) (payload : List Byte) (n : Nat) (body : State → StyResp × State) (s : State) {sp : StatePart} (hbody : ∀ y0, part sp (body y0).2 = part sp y0) (g_debug : sp ≠ .debug) : part sp (stylusServe cmd payload n body s) = part sp s := by
  unfold stylusServe
  dsimp only
  repeat' split
  all_goals simp [*]
@[simp] theorem idcode_core (s : State) : coreView (idcode s) = coreView s := by
  unfold idcode
  simp
@[simp] theorem idcode_fuses (s : State) : fuseView (idcode s) = fuseView s := fuses_of_core (idcode_core s)
@[simp] theorem idcode_memOk (s : State) : MemOk (idcode s) ↔ MemOk s := memOk_of_core (idcode_core s)
@[simp] theorem idcode_part (s : State) {sp : StatePart} (g_debug : sp ≠ .debug) : part sp (idcode s) = part sp s := by
  unfold idcode
  simp [*]
@[simp] theorem challenge_core (record : Nat) (nonce : BitVec 256) (s : State) : coreView (challenge record nonce s) = coreView s := by
  unfold challenge
  apply stylusServe_core
  intro t
  split <;> simp
@[simp] theorem challenge_fuses (record : Nat) (nonce : BitVec 256) (s : State) : fuseView (challenge record nonce s) = fuseView s := fuses_of_core (challenge_core record nonce s)
@[simp] theorem challenge_memOk (record : Nat) (nonce : BitVec 256) (s : State) : MemOk (challenge record nonce s) ↔ MemOk s := memOk_of_core (challenge_core record nonce s)
@[simp] theorem challenge_part (record : Nat) (nonce : BitVec 256) (s : State) {sp : StatePart} (g_debug : sp ≠ .debug) : part sp (challenge record nonce s) = part sp s := by
  unfold challenge
  refine stylusServe_part _ _ _ _ _ (fun t => ?_) g_debug
  split <;> simp [*]
@[simp] theorem wrongTag_core (s : State) : coreView (wrongTag s) = coreView s := by
  unfold wrongTag
  split <;> simp
@[simp] theorem wrongTag_fuses (s : State) : fuseView (wrongTag s) = fuseView s := fuses_of_core (wrongTag_core s)
@[simp] theorem wrongTag_memOk (s : State) : MemOk (wrongTag s) ↔ MemOk s := memOk_of_core (wrongTag_core s)
@[simp] theorem wrongTag_part (s : State) {sp : StatePart} (g_braid : sp ≠ .braid) (g_debug : sp ≠ .debug) (g_events : sp ≠ .events) : part sp (wrongTag s) = part sp s := by
  unfold wrongTag
  split <;> simp [*]
@[simp] theorem respondBody_core (tag : List Byte) (s : State) : coreView (respondBody tag s).2 = coreView s := by
  unfold respondBody
  dsimp only
  repeat' split
  all_goals simp [*]
@[simp] theorem respondBody_fuses (tag : List Byte) (s : State) : fuseView (respondBody tag s).2 = fuseView s := fuses_of_core (respondBody_core tag s)
@[simp] theorem respondBody_memOk (tag : List Byte) (s : State) : MemOk (respondBody tag s).2 ↔ MemOk s := memOk_of_core (respondBody_core tag s)
@[simp] theorem respondBody_part (tag : List Byte) (s : State) {sp : StatePart} (g_braid : sp ≠ .braid) (g_debug : sp ≠ .debug) (g_events : sp ≠ .events) : part sp (respondBody tag s).2 = part sp s := by
  unfold respondBody
  dsimp only
  repeat' split
  all_goals simp [*]
@[simp] theorem respondTag_core (tag : List Byte) (s : State) : coreView (respondTag tag s) = coreView s := by
  unfold respondTag
  simp
@[simp] theorem respondTag_fuses (tag : List Byte) (s : State) : fuseView (respondTag tag s) = fuseView s := fuses_of_core (respondTag_core tag s)
@[simp] theorem respondTag_memOk (tag : List Byte) (s : State) : MemOk (respondTag tag s) ↔ MemOk s := memOk_of_core (respondTag_core tag s)
@[simp] theorem respondTag_part (tag : List Byte) (s : State) {sp : StatePart} (g_braid : sp ≠ .braid) (g_debug : sp ≠ .debug) (g_events : sp ≠ .events) : part sp (respondTag tag s) = part sp s := by
  unfold respondTag
  simp [*]
@[simp] theorem detach_core (s : State) : coreView (detach s) = coreView s := by
  unfold detach
  simp
@[simp] theorem detach_fuses (s : State) : fuseView (detach s) = fuseView s := fuses_of_core (detach_core s)
@[simp] theorem detach_memOk (s : State) : MemOk (detach s) ↔ MemOk s := memOk_of_core (detach_core s)
@[simp] theorem detach_part (s : State) {sp : StatePart} (g_braid : sp ≠ .braid) (g_ferry : sp ≠ .ferry) (g_locks : sp ≠ .locks) (g_twin : sp ≠ .twin) (g_eng : sp ≠ .eng) (g_power : sp ≠ .power) (g_debug : sp ≠ .debug) (g_events : sp ≠ .events) : part sp (detach s) = part sp s := by
  unfold detach
  simp [*]
@[simp] theorem collect_core (s : State) : coreView (collect s).2 = coreView s := by
  unfold collect
  repeat' split
  all_goals first | (simp [*]; done) | (rename_i h; simp [*, takeCompletion_core h]; done) | (rename_i h _; simp [*, takeCompletion_core h]; done) | (rename_i h _ _; simp [*, takeCompletion_core h]; done) | (rename_i h _ _ _; simp [*, takeCompletion_core h]; done) | (rename_i h _ _ _ _; simp [*, takeCompletion_core h]; done) | rfl
@[simp] theorem collect_fuses (s : State) : fuseView (collect s).2 = fuseView s := fuses_of_core (collect_core s)
@[simp] theorem collect_memOk (s : State) : MemOk (collect s).2 ↔ MemOk s := memOk_of_core (collect_core s)
@[simp] theorem collect_part (s : State) {sp : StatePart} (g_braid : sp ≠ .braid) (g_debug : sp ≠ .debug) : part sp (collect s).2 = part sp s := by
  unfold collect
  repeat' split
  all_goals first | (simp [*]; done) | (rename_i h; simp [*, takeCompletion_part h]; done) | (rename_i h _; simp [*, takeCompletion_part h]; done) | (rename_i h _ _; simp [*, takeCompletion_part h]; done) | (rename_i h _ _ _; simp [*, takeCompletion_part h]; done) | (rename_i h _ _ _ _; simp [*, takeCompletion_part h]; done) | (simp [*]; cases sp <;> first | rfl | contradiction) | (cases sp <;> first | rfl | contradiction)
@[simp] theorem result_core (s : State) : coreView (result s) = coreView s := by
  unfold result
  simp
@[simp] theorem result_fuses (s : State) : fuseView (result s) = fuseView s := fuses_of_core (result_core s)
@[simp] theorem result_memOk (s : State) : MemOk (result s) ↔ MemOk s := memOk_of_core (result_core s)
@[simp] theorem result_part (s : State) {sp : StatePart} (g_braid : sp ≠ .braid) (g_debug : sp ≠ .debug) : part sp (result s) = part sp s := by
  unfold result
  simp [*]
@[simp] theorem styAccess_core (op : Op) (a : Nat) (size : Nat) (data : List Byte) (s : State) : coreView (styAccess op a size data s).2 = coreView s := by
  unfold styAccess
  dsimp only
  repeat' split
  all_goals simp [*]
@[simp] theorem styAccess_fuses (op : Op) (a : Nat) (size : Nat) (data : List Byte) (s : State) : fuseView (styAccess op a size data s).2 = fuseView s := fuses_of_core (styAccess_core op a size data s)
@[simp] theorem styAccess_memOk (op : Op) (a : Nat) (size : Nat) (data : List Byte) (s : State) : MemOk (styAccess op a size data s).2 ↔ MemOk s := memOk_of_core (styAccess_core op a size data s)
@[simp] theorem styAccess_part (op : Op) (a : Nat) (size : Nat) (data : List Byte) (s : State) {sp : StatePart} (g_braid : sp ≠ .braid) (g_eng : sp ≠ .eng) (g_debug : sp ≠ .debug) (g_events : sp ≠ .events) : part sp (styAccess op a size data s).2 = part sp s := by
  unfold styAccess
  dsimp only
  repeat' split
  all_goals simp [*]
@[simp] theorem stylusRead_core (a : Nat) (size : Nat) (s : State) : coreView (stylusRead a size s) = coreView s := by
  unfold stylusRead
  simp
@[simp] theorem stylusRead_fuses (a : Nat) (size : Nat) (s : State) : fuseView (stylusRead a size s) = fuseView s := fuses_of_core (stylusRead_core a size s)
@[simp] theorem stylusRead_memOk (a : Nat) (size : Nat) (s : State) : MemOk (stylusRead a size s) ↔ MemOk s := memOk_of_core (stylusRead_core a size s)
@[simp] theorem stylusRead_part (a : Nat) (size : Nat) (s : State) {sp : StatePart} (g_braid : sp ≠ .braid) (g_eng : sp ≠ .eng) (g_debug : sp ≠ .debug) (g_events : sp ≠ .events) : part sp (stylusRead a size s) = part sp s := by
  unfold stylusRead
  simp [*]
@[simp] theorem stylusWrite_core (a : Nat) (size : Nat) (data : List Byte) (s : State) : coreView (stylusWrite a size data s) = coreView s := by
  unfold stylusWrite
  simp
@[simp] theorem stylusWrite_fuses (a : Nat) (size : Nat) (data : List Byte) (s : State) : fuseView (stylusWrite a size data s) = fuseView s := fuses_of_core (stylusWrite_core a size data s)
@[simp] theorem stylusWrite_memOk (a : Nat) (size : Nat) (data : List Byte) (s : State) : MemOk (stylusWrite a size data s) ↔ MemOk s := memOk_of_core (stylusWrite_core a size data s)
@[simp] theorem stylusWrite_part (a : Nat) (size : Nat) (data : List Byte) (s : State) {sp : StatePart} (g_braid : sp ≠ .braid) (g_eng : sp ≠ .eng) (g_debug : sp ≠ .debug) (g_events : sp ≠ .events) : part sp (stylusWrite a size data s) = part sp s := by
  unfold stylusWrite
  simp [*]
@[simp] theorem onEngine_core (k : Nat) (body : State → StyResp × State) (s : State) (hbody : ∀ y0, coreView (body y0).2 = coreView y0) : coreView (onEngine k body s).2 = coreView s := by
  unfold onEngine
  repeat' split
  all_goals simp [*]
@[simp] theorem onEngine_fuses (k : Nat) (body : State → StyResp × State) (s : State) (hbody : ∀ y0, fuseView (body y0).2 = fuseView y0) : fuseView (onEngine k body s).2 = fuseView s := by
  unfold onEngine
  repeat' split
  all_goals simp [*]
@[simp] theorem onEngine_memOk (k : Nat) (body : State → StyResp × State) (s : State) (hbody : ∀ y0, coreView (body y0).2 = coreView y0) : MemOk (onEngine k body s).2 ↔ MemOk s := memOk_of_core (onEngine_core k body s hbody)
theorem onEngine_keeps (k : Nat) (body : State → StyResp × State) (s : State) (hb : ∀ t, MemOk t → MemOk (body t).2) (h : MemOk s) : MemOk (onEngine k body s).2 := by
  unfold onEngine
  repeat' split
  all_goals first | exact h | exact hb _ h

@[simp] theorem onEngine_part (k : Nat) (body : State → StyResp × State) (s : State) {sp : StatePart} (hbody : ∀ y0, part sp (body y0).2 = part sp y0)  : part sp (onEngine k body s).2 = part sp s := by
  unfold onEngine
  repeat' split
  all_goals simp [*]
@[simp] theorem stylusHalt_core (k : Nat) (s : State) : coreView (stylusHalt k s) = coreView s := by
  unfold stylusHalt
  simp
@[simp] theorem stylusHalt_fuses (k : Nat) (s : State) : fuseView (stylusHalt k s) = fuseView s := fuses_of_core (stylusHalt_core k s)
@[simp] theorem stylusHalt_memOk (k : Nat) (s : State) : MemOk (stylusHalt k s) ↔ MemOk s := memOk_of_core (stylusHalt_core k s)
@[simp] theorem stylusHalt_part (k : Nat) (s : State) {sp : StatePart} (g_eng : sp ≠ .eng) (g_debug : sp ≠ .debug) : part sp (stylusHalt k s) = part sp s := by
  unfold stylusHalt
  exact stylusServe_part _ _ _ _ _ (fun t => onEngine_part _ _ _ (fun u => by simp [*])) g_debug
@[simp] theorem resumeEngine_fuses (k : Nat) (stepping : Bool) (s : State) : fuseView (resumeEngine k stepping s) = fuseView s := by
  unfold resumeEngine
  simp
@[simp] theorem resumeEngine_memOk (k : Nat) (stepping : Bool) (s : State) (h : MemOk s) : MemOk (resumeEngine k stepping s) := by
  unfold resumeEngine
  simp [*]
@[simp] theorem resumeEngine_part (k : Nat) (stepping : Bool) (s : State) {sp : StatePart} (g_braid : sp ≠ .braid) (g_locks : sp ≠ .locks) (g_eng : sp ≠ .eng) (g_mems : sp ≠ .mems) (g_events : sp ≠ .events) : part sp (resumeEngine k stepping s) = part sp s := by
  unfold resumeEngine
  simp [*]
@[simp] theorem goOn_fuses (k : Nat) (stepping : Bool) (s : State) : fuseView (goOn k stepping s).2 = fuseView s := by
  unfold goOn
  split <;> simp
@[simp] theorem goOn_memOk (k : Nat) (stepping : Bool) (s : State) (h : MemOk s) : MemOk (goOn k stepping s).2 := by
  unfold goOn
  repeat' split
  all_goals simp [*]
@[simp] theorem goOn_part (k : Nat) (stepping : Bool) (s : State) {sp : StatePart} (g_braid : sp ≠ .braid) (g_locks : sp ≠ .locks) (g_eng : sp ≠ .eng) (g_mems : sp ≠ .mems) (g_events : sp ≠ .events) : part sp (goOn k stepping s).2 = part sp s := by
  unfold goOn
  split <;> simp [*]
@[simp] theorem stylusRun_fuses (k : Nat) (s : State) : fuseView (stylusRun k s) = fuseView s := by
  unfold stylusRun
  simp
@[simp] theorem stylusRun_memOk (k : Nat) (s : State) (h : MemOk s) : MemOk (stylusRun k s) := by
  unfold stylusRun
  refine stylusServe_keeps _ _ _ _ _ (fun t ht => onEngine_keeps _ _ _ (fun u hu => ?_) ht) h
  exact goOn_memOk _ _ _ hu
@[simp] theorem stylusRun_part (k : Nat) (s : State) {sp : StatePart} (g_braid : sp ≠ .braid) (g_locks : sp ≠ .locks) (g_eng : sp ≠ .eng) (g_mems : sp ≠ .mems) (g_debug : sp ≠ .debug) (g_events : sp ≠ .events) : part sp (stylusRun k s) = part sp s := by
  unfold stylusRun
  exact stylusServe_part _ _ _ _ _ (fun t => onEngine_part _ _ _ (fun u => by simp [*])) g_debug
@[simp] theorem stylusStep_fuses (k : Nat) (s : State) : fuseView (stylusStep k s) = fuseView s := by
  unfold stylusStep
  simp
@[simp] theorem stylusStep_memOk (k : Nat) (s : State) (h : MemOk s) : MemOk (stylusStep k s) := by
  unfold stylusStep
  refine stylusServe_keeps _ _ _ _ _ (fun t ht => onEngine_keeps _ _ _ (fun u hu => ?_) ht) h
  exact goOn_memOk _ _ _ hu
@[simp] theorem stylusStep_part (k : Nat) (s : State) {sp : StatePart} (g_braid : sp ≠ .braid) (g_locks : sp ≠ .locks) (g_eng : sp ≠ .eng) (g_mems : sp ≠ .mems) (g_debug : sp ≠ .debug) (g_events : sp ≠ .events) : part sp (stylusStep k s) = part sp s := by
  unfold stylusStep
  exact stylusServe_part _ _ _ _ _ (fun t => onEngine_part _ _ _ (fun u => by simp [*])) g_debug
@[simp] theorem engReset_fuses (k : Nat) (s : State) : fuseView (engReset k s) = fuseView s := by
  unfold engReset
  simp
@[simp] theorem engReset_memOk (k : Nat) (s : State) (h : MemOk s) : MemOk (engReset k s) := by
  unfold engReset
  apply stylusServe_keeps
  · intro t ht
    apply onEngine_keeps
    · intro u hu
      dsimp only
      exact resetEngine_memOk k u hu
    · exact ht
  · exact h
@[simp] theorem engReset_part (k : Nat) (s : State) {sp : StatePart} (g_braid : sp ≠ .braid) (g_ferry : sp ≠ .ferry) (g_locks : sp ≠ .locks) (g_eng : sp ≠ .eng) (g_mems : sp ≠ .mems) (g_debug : sp ≠ .debug) (g_events : sp ≠ .events) : part sp (engReset k s) = part sp s := by
  unfold engReset
  exact stylusServe_part _ _ _ _ _ (fun t => onEngine_part _ _ _ (fun u => by simp [*])) g_debug
@[simp] theorem regrdBody_core (k : Nat) (cls : Nat) (index : Nat) (s : State) : coreView (regrdBody k cls index s).2 = coreView s := by
  unfold regrdBody
  dsimp only
  repeat' split
  all_goals simp [*]
@[simp] theorem regrdBody_fuses (k : Nat) (cls : Nat) (index : Nat) (s : State) : fuseView (regrdBody k cls index s).2 = fuseView s := fuses_of_core (regrdBody_core k cls index s)
@[simp] theorem regrdBody_memOk (k : Nat) (cls : Nat) (index : Nat) (s : State) : MemOk (regrdBody k cls index s).2 ↔ MemOk s := memOk_of_core (regrdBody_core k cls index s)
@[simp] theorem regrdBody_part (k : Nat) (cls : Nat) (index : Nat) (s : State) {sp : StatePart} (g_eng : sp ≠ .eng) : part sp (regrdBody k cls index s).2 = part sp s := by
  unfold regrdBody
  dsimp only
  repeat' split
  all_goals simp [*]
@[simp] theorem regrd_core (k : Nat) (cls : Nat) (index : Nat) (s : State) : coreView (regrd k cls index s) = coreView s := by
  unfold regrd
  simp
@[simp] theorem regrd_fuses (k : Nat) (cls : Nat) (index : Nat) (s : State) : fuseView (regrd k cls index s) = fuseView s := fuses_of_core (regrd_core k cls index s)
@[simp] theorem regrd_memOk (k : Nat) (cls : Nat) (index : Nat) (s : State) : MemOk (regrd k cls index s) ↔ MemOk s := memOk_of_core (regrd_core k cls index s)
@[simp] theorem regrd_part (k : Nat) (cls : Nat) (index : Nat) (s : State) {sp : StatePart} (g_eng : sp ≠ .eng) (g_debug : sp ≠ .debug) : part sp (regrd k cls index s) = part sp s := by
  unfold regrd
  exact stylusServe_part _ _ _ _ _ (fun t => onEngine_part _ _ _ (fun u => by simp [*])) g_debug
@[simp] theorem regwr_core (k : Nat) (cls : Nat) (index : Nat) (v : BitVec 64) (s : State) : coreView (regwr k cls index v s) = coreView s := by
  unfold regwr
  apply stylusServe_core
  intro t
  apply onEngine_core
  intro t
  repeat' split
  all_goals simp
@[simp] theorem regwr_fuses (k : Nat) (cls : Nat) (index : Nat) (v : BitVec 64) (s : State) : fuseView (regwr k cls index v s) = fuseView s := fuses_of_core (regwr_core k cls index v s)
@[simp] theorem regwr_memOk (k : Nat) (cls : Nat) (index : Nat) (v : BitVec 64) (s : State) : MemOk (regwr k cls index v s) ↔ MemOk s := memOk_of_core (regwr_core k cls index v s)
@[simp] theorem regwr_part (k : Nat) (cls : Nat) (index : Nat) (v : BitVec 64) (s : State) {sp : StatePart} (g_eng : sp ≠ .eng) (g_debug : sp ≠ .debug) : part sp (regwr k cls index v s) = part sp s := by
  unfold regwr
  refine stylusServe_part _ _ _ _ _ (fun t => onEngine_part _ _ _ (fun u => ?_)) g_debug
  repeat' split
  all_goals simp [*]
@[simp] theorem resetHw_core (s : State) : coreView (resetHw s) = coreView s := by
  unfold resetHw
  simp
@[simp] theorem resetHw_fuses (s : State) : fuseView (resetHw s) = fuseView s := fuses_of_core (resetHw_core s)
@[simp] theorem resetHw_memOk (s : State) : MemOk (resetHw s) ↔ MemOk s := memOk_of_core (resetHw_core s)
@[simp] theorem resetHw_part (s : State) {sp : StatePart} (g_braid : sp ≠ .braid) (g_ferry : sp ≠ .ferry) (g_locks : sp ≠ .locks) (g_debug : sp ≠ .debug) (g_events : sp ≠ .events) : part sp (resetHw s) = part sp s := by
  unfold resetHw
  simp [*]
@[simp] theorem resetDevice_part (s : State) {sp : StatePart} (g_braid : sp ≠ .braid) (g_sluice : sp ≠ .sluice) (g_ferry : sp ≠ .ferry) (g_locks : sp ≠ .locks) (g_host : sp ≠ .host) (g_lanes : sp ≠ .lanes) (g_delta : sp ≠ .delta) (g_twin : sp ≠ .twin) (g_eng : sp ≠ .eng) (g_dram : sp ≠ .dram) (g_mems : sp ≠ .mems) (g_crypto : sp ≠ .crypto) (g_fabric : sp ≠ .fabric) (g_bw : sp ≠ .bw) (g_bwx : sp ≠ .bwx) (g_power : sp ≠ .power) (g_tbase : sp ≠ .tbase) (g_debug : sp ≠ .debug) (g_events : sp ≠ .events) (g_rill : sp ≠ .rill) : part sp (resetDevice s) = part sp s := by
  unfold resetDevice
  repeat' split
  all_goals simp [*]
@[simp] theorem sysInfoBody_core (v : Serving) (s : State) : coreView (sysInfoBody v s).2 = coreView s := by
  rfl
@[simp] theorem sysInfoBody_fuses (v : Serving) (s : State) : fuseView (sysInfoBody v s).2 = fuseView s := fuses_of_core (sysInfoBody_core v s)
@[simp] theorem sysInfoBody_memOk (v : Serving) (s : State) : MemOk (sysInfoBody v s).2 ↔ MemOk s := memOk_of_core (sysInfoBody_core v s)
@[simp] theorem sysInfoBody_part (v : Serving) (s : State) {sp : StatePart}  : part sp (sysInfoBody v s).2 = part sp s := by
  cases sp <;> first | rfl | contradiction
@[simp] theorem sysInfo_core (s : State) : coreView (sysInfo s) = coreView s := by
  unfold sysInfo
  simp
@[simp] theorem sysInfo_fuses (s : State) : fuseView (sysInfo s) = fuseView s := fuses_of_core (sysInfo_core s)
@[simp] theorem sysInfo_memOk (s : State) : MemOk (sysInfo s) ↔ MemOk s := memOk_of_core (sysInfo_core s)
@[simp] theorem sysInfo_part (s : State) {sp : StatePart} (g_ferry : sp ≠ .ferry) : part sp (sysInfo s) = part sp s := by
  unfold sysInfo
  simp [*]
@[simp] theorem sysBootStatusBody_core (u0 : Serving) (s : State) : coreView (sysBootStatusBody u0 s).2 = coreView s := by
  rfl
@[simp] theorem sysBootStatusBody_fuses (u0 : Serving) (s : State) : fuseView (sysBootStatusBody u0 s).2 = fuseView s := fuses_of_core (sysBootStatusBody_core u0 s)
@[simp] theorem sysBootStatusBody_memOk (u0 : Serving) (s : State) : MemOk (sysBootStatusBody u0 s).2 ↔ MemOk s := memOk_of_core (sysBootStatusBody_core u0 s)
@[simp] theorem sysBootStatusBody_part (u0 : Serving) (s : State) {sp : StatePart}  : part sp (sysBootStatusBody u0 s).2 = part sp s := by
  cases sp <;> first | rfl | contradiction
@[simp] theorem sysBootStatus_core (s : State) : coreView (sysBootStatus s) = coreView s := by
  unfold sysBootStatus
  simp
@[simp] theorem sysBootStatus_fuses (s : State) : fuseView (sysBootStatus s) = fuseView s := fuses_of_core (sysBootStatus_core s)
@[simp] theorem sysBootStatus_memOk (s : State) : MemOk (sysBootStatus s) ↔ MemOk s := memOk_of_core (sysBootStatus_core s)
@[simp] theorem sysBootStatus_part (s : State) {sp : StatePart} (g_ferry : sp ≠ .ferry) : part sp (sysBootStatus s) = part sp s := by
  unfold sysBootStatus
  simp [*]
@[simp] theorem proofSelectBody_core (v : Serving) (s : State) : coreView (proofSelectBody v s).2 = coreView s := by
  unfold proofSelectBody
  repeat' split
  all_goals simp [*]
@[simp] theorem proofSelectBody_fuses (v : Serving) (s : State) : fuseView (proofSelectBody v s).2 = fuseView s := fuses_of_core (proofSelectBody_core v s)
@[simp] theorem proofSelectBody_memOk (v : Serving) (s : State) : MemOk (proofSelectBody v s).2 ↔ MemOk s := memOk_of_core (proofSelectBody_core v s)
@[simp] theorem proofSelectBody_part (v : Serving) (s : State) {sp : StatePart} (g_braid : sp ≠ .braid) (g_debug : sp ≠ .debug) (g_events : sp ≠ .events) : part sp (proofSelectBody v s).2 = part sp s := by
  unfold proofSelectBody
  repeat' split
  all_goals simp [*]
@[simp] theorem proofSelect_core (s : State) : coreView (proofSelect s) = coreView s := by
  unfold proofSelect
  simp
@[simp] theorem proofSelect_fuses (s : State) : fuseView (proofSelect s) = fuseView s := fuses_of_core (proofSelect_core s)
@[simp] theorem proofSelect_memOk (s : State) : MemOk (proofSelect s) ↔ MemOk s := memOk_of_core (proofSelect_core s)
@[simp] theorem proofSelect_part (s : State) {sp : StatePart} (g_braid : sp ≠ .braid) (g_ferry : sp ≠ .ferry) (g_debug : sp ≠ .debug) (g_events : sp ≠ .events) : part sp (proofSelect s) = part sp s := by
  unfold proofSelect
  simp [*]
@[simp] theorem clearCounterSet_core (k : Nat) (t : Nat) (s : State) : coreView (clearCounterSet k t s) = coreView s := by
  unfold clearCounterSet
  split <;> simp
@[simp] theorem clearCounterSet_fuses (k : Nat) (t : Nat) (s : State) : fuseView (clearCounterSet k t s) = fuseView s := fuses_of_core (clearCounterSet_core k t s)
@[simp] theorem clearCounterSet_memOk (k : Nat) (t : Nat) (s : State) : MemOk (clearCounterSet k t s) ↔ MemOk s := memOk_of_core (clearCounterSet_core k t s)
@[simp] theorem clearCounterSet_part (k : Nat) (t : Nat) (s : State) {sp : StatePart} (g_braid : sp ≠ .braid) (g_delta : sp ≠ .delta) (g_dram : sp ≠ .dram) (g_mems : sp ≠ .mems) : part sp (clearCounterSet k t s) = part sp s := by
  unfold clearCounterSet
  split <;> simp [*]
@[simp] theorem diagCountersBody_core (v : Serving) (s : State) : coreView (diagCountersBody v s).2 = coreView s := by
  unfold diagCountersBody
  dsimp only
  repeat' split
  all_goals simp [*]
@[simp] theorem diagCountersBody_fuses (v : Serving) (s : State) : fuseView (diagCountersBody v s).2 = fuseView s := fuses_of_core (diagCountersBody_core v s)
@[simp] theorem diagCountersBody_memOk (v : Serving) (s : State) : MemOk (diagCountersBody v s).2 ↔ MemOk s := memOk_of_core (diagCountersBody_core v s)
@[simp] theorem diagCountersBody_part (v : Serving) (s : State) {sp : StatePart} (g_braid : sp ≠ .braid) (g_delta : sp ≠ .delta) (g_dram : sp ≠ .dram) (g_mems : sp ≠ .mems) : part sp (diagCountersBody v s).2 = part sp s := by
  unfold diagCountersBody
  dsimp only
  repeat' split
  all_goals simp [*]
@[simp] theorem diagCounters_core (s : State) : coreView (diagCounters s) = coreView s := by
  unfold diagCounters
  simp
@[simp] theorem diagCounters_fuses (s : State) : fuseView (diagCounters s) = fuseView s := fuses_of_core (diagCounters_core s)
@[simp] theorem diagCounters_memOk (s : State) : MemOk (diagCounters s) ↔ MemOk s := memOk_of_core (diagCounters_core s)
@[simp] theorem diagCounters_part (s : State) {sp : StatePart} (g_braid : sp ≠ .braid) (g_ferry : sp ≠ .ferry) (g_delta : sp ≠ .delta) (g_dram : sp ≠ .dram) (g_mems : sp ≠ .mems) : part sp (diagCounters s) = part sp s := by
  unfold diagCounters
  simp [*]
@[simp] theorem evRouteBody_core (v : Serving) (s : State) : coreView (evRouteBody v s).2 = coreView s := by
  unfold evRouteBody
  dsimp only
  repeat' split
  all_goals simp [*]
@[simp] theorem evRouteBody_fuses (v : Serving) (s : State) : fuseView (evRouteBody v s).2 = fuseView s := fuses_of_core (evRouteBody_core v s)
@[simp] theorem evRouteBody_memOk (v : Serving) (s : State) : MemOk (evRouteBody v s).2 ↔ MemOk s := memOk_of_core (evRouteBody_core v s)
@[simp] theorem evRouteBody_part (v : Serving) (s : State) {sp : StatePart} (g_events : sp ≠ .events) : part sp (evRouteBody v s).2 = part sp s := by
  unfold evRouteBody
  dsimp only
  repeat' split
  all_goals simp [*]
@[simp] theorem evRoute_core (s : State) : coreView (evRoute s) = coreView s := by
  unfold evRoute
  simp
@[simp] theorem evRoute_fuses (s : State) : fuseView (evRoute s) = fuseView s := fuses_of_core (evRoute_core s)
@[simp] theorem evRoute_memOk (s : State) : MemOk (evRoute s) ↔ MemOk s := memOk_of_core (evRoute_core s)
@[simp] theorem evRoute_part (s : State) {sp : StatePart} (g_ferry : sp ≠ .ferry) (g_events : sp ≠ .events) : part sp (evRoute s) = part sp s := by
  unfold evRoute
  simp [*]
@[simp] theorem writeRecs_fuses (a : Nat) (l : List Rec) (s : State) : fuseView (writeRecs a l s).2 = fuseView s := by
  induction l generalizing a s with
  | nil => rfl
  | cons r l ih =>
    unfold writeRecs
    split
    · rfl
    · rename_i h
      rw [ih, hwWrite_fuses h]
@[simp] theorem writeRecs_memOk (a : Nat) (l : List Rec) (s : State) (h : MemOk s) : MemOk (writeRecs a l s).2 := by
  induction l generalizing a s with
  | nil => exact h
  | cons r l ih =>
    unfold writeRecs
    split
    · exact h
    · rename_i he
      exact ih _ _ (hwWrite_memOk he h)
@[simp] theorem writeRecs_part (a : Nat) (l : List Rec) (s : State) {sp : StatePart} (g_dram : sp ≠ .dram) (g_mems : sp ≠ .mems) : part sp (writeRecs a l s).2 = part sp s := by
  induction l generalizing a s with
  | nil => rfl
  | cons r l ih =>
    unfold writeRecs
    split
    · rfl
    · rename_i h
      rw [ih, hwWrite_part h ‹_› ‹_›]
@[simp] theorem evReadBody_fuses (v : Serving) (s : State) : fuseView (evReadBody v s).2 = fuseView s := by
  unfold evReadBody
  dsimp only
  have hw := writeRecs_fuses (pay v 8 8) (s.events.hostQ.take (pay v 0 2)) s
  repeat' split
  all_goals first | (simp; done) | (rename_i h; rw [h] at hw; simpa using hw)
@[simp] theorem evReadBody_memOk (v : Serving) (s : State) (h : MemOk s) : MemOk (evReadBody v s).2 := by
  unfold evReadBody
  dsimp only
  have hw := writeRecs_memOk (pay v 8 8) (s.events.hostQ.take (pay v 0 2)) s h
  repeat' split
  all_goals first | (simpa using h) | (rename_i he; rw [he] at hw; simpa using hw)
@[simp] theorem evReadBody_part (v : Serving) (s : State) {sp : StatePart} (g_dram : sp ≠ .dram) (g_mems : sp ≠ .mems) (g_events : sp ≠ .events) : part sp (evReadBody v s).2 = part sp s := by
  unfold evReadBody
  dsimp only
  have hw : part sp (writeRecs (pay v 8 8) (s.events.hostQ.take (pay v 0 2)) s).2 = part sp s := by simp [*]
  repeat' split
  all_goals first | (simp [*]; done) | (rename_i h; rw [h] at hw; simpa [*] using hw)
@[simp] theorem evRead_fuses (s : State) : fuseView (evRead s) = fuseView s := by
  unfold evRead
  simp
@[simp] theorem evRead_memOk (s : State) (h : MemOk s) : MemOk (evRead s) := by
  unfold evRead
  exact ferryServe_keeps _ _ _ _ _ (fun v t ht => evReadBody_memOk _ _ ht) h
@[simp] theorem evRead_part (s : State) {sp : StatePart} (g_ferry : sp ≠ .ferry) (g_dram : sp ≠ .dram) (g_mems : sp ≠ .mems) (g_events : sp ≠ .events) : part sp (evRead s) = part sp s := by
  unfold evRead
  simp [*]
@[simp] theorem applyFails_core (s : State) : coreView (applyFails s) = coreView s := by
  unfold applyFails
  simp
@[simp] theorem applyFails_fuses (s : State) : fuseView (applyFails s) = fuseView s := fuses_of_core (applyFails_core s)
@[simp] theorem applyFails_memOk (s : State) : MemOk (applyFails s) ↔ MemOk s := memOk_of_core (applyFails_core s)
@[simp] theorem applyFails_part (s : State) {sp : StatePart} (g_braid : sp ≠ .braid) (g_events : sp ≠ .events) : part sp (applyFails s) = part sp s := by
  unfold applyFails
  simp [*]
@[simp] theorem applyCalendar_core (img : List Byte) (s : State) : coreView (applyCalendar img s) = coreView s := by
  unfold applyCalendar
  repeat' split
  all_goals simp [*]
@[simp] theorem applyCalendar_fuses (img : List Byte) (s : State) : fuseView (applyCalendar img s) = fuseView s := fuses_of_core (applyCalendar_core img s)
@[simp] theorem applyCalendar_memOk (img : List Byte) (s : State) : MemOk (applyCalendar img s) ↔ MemOk s := memOk_of_core (applyCalendar_core img s)
@[simp] theorem applyCalendar_part (img : List Byte) (s : State) {sp : StatePart} (g_braid : sp ≠ .braid) (g_sluice : sp ≠ .sluice) (g_twin : sp ≠ .twin) (g_events : sp ≠ .events) : part sp (applyCalendar img s) = part sp s := by
  unfold applyCalendar
  repeat' split
  all_goals simp [*]
@[simp] theorem mirrorCalTick_core (s : State) : coreView (mirrorCalTick s) = coreView s := by
  unfold mirrorCalTick
  repeat' split
  all_goals simp [*]
@[simp] theorem mirrorCalTick_fuses (s : State) : fuseView (mirrorCalTick s) = fuseView s := fuses_of_core (mirrorCalTick_core s)
@[simp] theorem mirrorCalTick_memOk (s : State) : MemOk (mirrorCalTick s) ↔ MemOk s := memOk_of_core (mirrorCalTick_core s)
@[simp] theorem mirrorCalTick_part (s : State) {sp : StatePart} (g_braid : sp ≠ .braid) (g_sluice : sp ≠ .sluice) (g_twin : sp ≠ .twin) (g_events : sp ≠ .events) : part sp (mirrorCalTick s) = part sp s := by
  unfold mirrorCalTick
  repeat' split
  all_goals simp [*]
@[simp] theorem applyRoutes_core (ni : Nat) (table : Tbl Nat) (s : State) : coreView (applyRoutes ni table s) = coreView s := by
  unfold applyRoutes
  simp
@[simp] theorem applyRoutes_fuses (ni : Nat) (table : Tbl Nat) (s : State) : fuseView (applyRoutes ni table s) = fuseView s := fuses_of_core (applyRoutes_core ni table s)
@[simp] theorem applyRoutes_memOk (ni : Nat) (table : Tbl Nat) (s : State) : MemOk (applyRoutes ni table s) ↔ MemOk s := memOk_of_core (applyRoutes_core ni table s)
@[simp] theorem applyRoutes_part (ni : Nat) (table : Tbl Nat) (s : State) {sp : StatePart} (g_braid : sp ≠ .braid) (g_ferry : sp ≠ .ferry) (g_delta : sp ≠ .delta) (g_dram : sp ≠ .dram) : part sp (applyRoutes ni table s) = part sp s := by
  unfold applyRoutes
  simp [*]
@[simp] theorem mirrorAnswered_core (item : MirrorItem) (applied : Bool) (s : State) : coreView (mirrorAnswered item applied s) = coreView s := by
  unfold mirrorAnswered
  simp [core_ite]
@[simp] theorem mirrorAnswered_fuses (item : MirrorItem) (applied : Bool) (s : State) : fuseView (mirrorAnswered item applied s) = fuseView s := fuses_of_core (mirrorAnswered_core item applied s)
@[simp] theorem mirrorAnswered_memOk (item : MirrorItem) (applied : Bool) (s : State) : MemOk (mirrorAnswered item applied s) ↔ MemOk s := memOk_of_core (mirrorAnswered_core item applied s)
@[simp] theorem mirrorAnswered_part (item : MirrorItem) (applied : Bool) (s : State) {sp : StatePart} (g_braid : sp ≠ .braid) (g_twin : sp ≠ .twin) (g_events : sp ≠ .events) : part sp (mirrorAnswered item applied s) = part sp s := by
  unfold mirrorAnswered
  simp [part_ite, *]
@[simp] theorem stateMirrorApply_core (item : MirrorItem) (applied : Bool) (s : State) : coreView (stateMirrorApply item applied s) = coreView s := by
  unfold stateMirrorApply
  repeat' split
  all_goals simp [*]
@[simp] theorem stateMirrorApply_fuses (item : MirrorItem) (applied : Bool) (s : State) : fuseView (stateMirrorApply item applied s) = fuseView s := fuses_of_core (stateMirrorApply_core item applied s)
@[simp] theorem stateMirrorApply_memOk (item : MirrorItem) (applied : Bool) (s : State) : MemOk (stateMirrorApply item applied s) ↔ MemOk s := memOk_of_core (stateMirrorApply_core item applied s)
@[simp] theorem stateMirrorApply_part (item : MirrorItem) (applied : Bool) (s : State) {sp : StatePart} (g_braid : sp ≠ .braid) (g_sluice : sp ≠ .sluice) (g_ferry : sp ≠ .ferry) (g_delta : sp ≠ .delta) (g_twin : sp ≠ .twin) (g_dram : sp ≠ .dram) (g_crypto : sp ≠ .crypto) (g_events : sp ≠ .events) : part sp (stateMirrorApply item applied s) = part sp s := by
  unfold stateMirrorApply
  repeat' split
  all_goals simp [*]
@[simp] theorem stopLoad_core (id : Nat) (s : State) : coreView (stopLoad id s) = coreView s := by
  unfold stopLoad
  dsimp only
  repeat' split
  all_goals simp [*]
@[simp] theorem stopLoad_fuses (id : Nat) (s : State) : fuseView (stopLoad id s) = fuseView s := fuses_of_core (stopLoad_core id s)
@[simp] theorem stopLoad_memOk (id : Nat) (s : State) : MemOk (stopLoad id s) ↔ MemOk s := memOk_of_core (stopLoad_core id s)
@[simp] theorem stopLoad_part (id : Nat) (s : State) {sp : StatePart} (g_freeCtr : sp ≠ .freeCtr) (g_braid : sp ≠ .braid) (g_fabric : sp ≠ .fabric) : part sp (stopLoad id s) = part sp s := by
  unfold stopLoad
  dsimp only
  repeat' split
  all_goals simp [*]
@[simp] theorem stopDramJob_fuses (id : Nat) (s : State) : fuseView (stopDramJob id s) = fuseView s := by
  unfold stopDramJob
  simp [fuses_ite]
@[simp] theorem stopDramJob_memOk (id : Nat) (s : State) (h : MemOk s) : MemOk (stopDramJob id s) := by
  unfold stopDramJob
  refine forAll_memOk _ _ _ (fun t x ht => ?_) h
  dsimp only
  split
  · exact (modDchX_memOk ..).mpr (trainingDone_memOk _ _ _ ht)
  · exact (modDchX_memOk ..).mpr ht
@[simp] theorem stopDramJob_part (id : Nat) (s : State) {sp : StatePart} (g_braid : sp ≠ .braid) (g_ferry : sp ≠ .ferry) (g_twin : sp ≠ .twin) (g_dram : sp ≠ .dram) (g_mems : sp ≠ .mems) (g_debug : sp ≠ .debug) (g_events : sp ≠ .events) : part sp (stopDramJob id s) = part sp s := by
  unfold stopDramJob
  simp [part_ite, *]
@[simp] theorem stopCryptoJob_core (id : Nat) (s : State) : coreView (stopCryptoJob id s) = coreView s := by
  rfl
@[simp] theorem stopCryptoJob_fuses (id : Nat) (s : State) : fuseView (stopCryptoJob id s) = fuseView s := fuses_of_core (stopCryptoJob_core id s)
@[simp] theorem stopCryptoJob_memOk (id : Nat) (s : State) : MemOk (stopCryptoJob id s) ↔ MemOk s := memOk_of_core (stopCryptoJob_core id s)
@[simp] theorem stopCryptoJob_part (id : Nat) (s : State) {sp : StatePart} (g_crypto : sp ≠ .crypto) : part sp (stopCryptoJob id s) = part sp s := by
  cases sp <;> first | rfl | contradiction
@[simp] theorem stopLaneJob_core (id : Nat) (s : State) : coreView (stopLaneJob id s) = coreView s := by
  unfold stopLaneJob
  simp [core_ite]
@[simp] theorem stopLaneJob_fuses (id : Nat) (s : State) : fuseView (stopLaneJob id s) = fuseView s := fuses_of_core (stopLaneJob_core id s)
@[simp] theorem stopLaneJob_memOk (id : Nat) (s : State) : MemOk (stopLaneJob id s) ↔ MemOk s := memOk_of_core (stopLaneJob_core id s)
@[simp] theorem stopLaneJob_part (id : Nat) (s : State) {sp : StatePart} (g_lanes : sp ≠ .lanes) : part sp (stopLaneJob id s) = part sp s := by
  unfold stopLaneJob
  simp [part_ite, *]
@[simp] theorem stopPowerJob_core (id : Nat) (s : State) : coreView (stopPowerJob id s) = coreView s := by
  unfold stopPowerJob
  repeat' split
  all_goals simp [*]
@[simp] theorem stopPowerJob_fuses (id : Nat) (s : State) : fuseView (stopPowerJob id s) = fuseView s := fuses_of_core (stopPowerJob_core id s)
@[simp] theorem stopPowerJob_memOk (id : Nat) (s : State) : MemOk (stopPowerJob id s) ↔ MemOk s := memOk_of_core (stopPowerJob_core id s)
@[simp] theorem stopPowerJob_part (id : Nat) (s : State) {sp : StatePart} (g_braid : sp ≠ .braid) (g_sluice : sp ≠ .sluice) (g_eng : sp ≠ .eng) (g_dram : sp ≠ .dram) (g_mems : sp ≠ .mems) (g_power : sp ≠ .power) (g_tbase : sp ≠ .tbase) (g_events : sp ≠ .events) : part sp (stopPowerJob id s) = part sp s := by
  unfold stopPowerJob
  repeat' split
  all_goals simp [*]
@[simp] theorem stopTwinJob_core (id : Nat) (s : State) : coreView (stopTwinJob id s) = coreView s := by
  unfold stopTwinJob
  split <;> simp
@[simp] theorem stopTwinJob_fuses (id : Nat) (s : State) : fuseView (stopTwinJob id s) = fuseView s := fuses_of_core (stopTwinJob_core id s)
@[simp] theorem stopTwinJob_memOk (id : Nat) (s : State) : MemOk (stopTwinJob id s) ↔ MemOk s := memOk_of_core (stopTwinJob_core id s)
@[simp] theorem stopTwinJob_part (id : Nat) (s : State) {sp : StatePart} (g_delta : sp ≠ .delta) (g_twin : sp ≠ .twin) : part sp (stopTwinJob id s) = part sp s := by
  unfold stopTwinJob
  split <;> simp [*]
@[simp] theorem stopBootJob_part (id : Nat) (s : State) {sp : StatePart} (g_bw : sp ≠ .bw) (g_bwx : sp ≠ .bwx) (g_debug : sp ≠ .debug) : part sp (stopBootJob id s) = part sp s := by
  unfold stopBootJob
  simp [*]
@[simp] theorem stopJob_part (id : Nat) (s : State) {sp : StatePart} (g_freeCtr : sp ≠ .freeCtr) (g_braid : sp ≠ .braid) (g_sluice : sp ≠ .sluice) (g_ferry : sp ≠ .ferry) (g_lanes : sp ≠ .lanes) (g_delta : sp ≠ .delta) (g_twin : sp ≠ .twin) (g_eng : sp ≠ .eng) (g_dram : sp ≠ .dram) (g_mems : sp ≠ .mems) (g_crypto : sp ≠ .crypto) (g_fabric : sp ≠ .fabric) (g_bw : sp ≠ .bw) (g_bwx : sp ≠ .bwx) (g_power : sp ≠ .power) (g_tbase : sp ≠ .tbase) (g_debug : sp ≠ .debug) (g_events : sp ≠ .events) : part sp (stopJob id s) = part sp s := by
  unfold stopJob
  dsimp only
  repeat' split
  all_goals simp [*]
@[simp] theorem hwReady_part (lost : List Nat) (s : State) {sp : StatePart} (g_freeCtr : sp ≠ .freeCtr) (g_braid : sp ≠ .braid) (g_sluice : sp ≠ .sluice) (g_ferry : sp ≠ .ferry) (g_lanes : sp ≠ .lanes) (g_delta : sp ≠ .delta) (g_twin : sp ≠ .twin) (g_eng : sp ≠ .eng) (g_dram : sp ≠ .dram) (g_mems : sp ≠ .mems) (g_crypto : sp ≠ .crypto) (g_fabric : sp ≠ .fabric) (g_bw : sp ≠ .bw) (g_bwx : sp ≠ .bwx) (g_power : sp ≠ .power) (g_tbase : sp ≠ .tbase) (g_debug : sp ≠ .debug) (g_events : sp ≠ .events) : part sp (hwReady lost s) = part sp s := by
  unfold hwReady
  split <;> simp [*]
@[simp] theorem quadTick_core (s : State) (q : Nat) : coreView (quadTick s q) = coreView s := by
  unfold quadTick
  split <;> simp
@[simp] theorem quadTick_fuses (s : State) (q : Nat) : fuseView (quadTick s q) = fuseView s := fuses_of_core (quadTick_core s q)
@[simp] theorem quadTick_memOk (s : State) (q : Nat) : MemOk (quadTick s q) ↔ MemOk s := memOk_of_core (quadTick_core s q)
@[simp] theorem quadTick_part (s : State) (q : Nat) {sp : StatePart} (g_eng : sp ≠ .eng) : part sp (quadTick s q) = part sp s := by
  unfold quadTick
  split <;> simp [*]
@[simp] theorem slowTick_core (s : State) : coreView (slowTick s) = coreView s := by
  rfl
@[simp] theorem slowTick_fuses (s : State) : fuseView (slowTick s) = fuseView s := fuses_of_core (slowTick_core s)
@[simp] theorem slowTick_memOk (s : State) : MemOk (slowTick s) ↔ MemOk s := memOk_of_core (slowTick_core s)
@[simp] theorem slowTick_part (s : State) {sp : StatePart} (g_tbase : sp ≠ .tbase) : part sp (slowTick s) = part sp s := by
  cases sp <;> first | rfl | contradiction
theorem slowPhase_part (s : State) (n : Nat) {sp : StatePart} (g_slowPhase : sp ≠ .slowPhase) : part sp { s with slowPhase := n } = part sp s := by
  cases sp <;> first | rfl | contradiction

@[simp] theorem slowAdvance_core (s : State) : coreView (slowAdvance s) = coreView s := by
  unfold slowAdvance
  split
  · exact (slowTick_core _).trans (by simp only [coreView])
  · simp only [coreView]
@[simp] theorem slowAdvance_fuses (s : State) : fuseView (slowAdvance s) = fuseView s := fuses_of_core (slowAdvance_core s)
@[simp] theorem slowAdvance_memOk (s : State) : MemOk (slowAdvance s) ↔ MemOk s := memOk_of_core (slowAdvance_core s)
@[simp] theorem slowAdvance_part (s : State) {sp : StatePart} (g_slowPhase : sp ≠ .slowPhase) (g_tbase : sp ≠ .tbase) : part sp (slowAdvance s) = part sp s := by
  unfold slowAdvance
  split
  · exact (slowTick_part _ g_tbase).trans (slowPhase_part _ _ g_slowPhase)
  · exact slowPhase_part _ _ g_slowPhase
@[simp] theorem hwAdvance_core (s : State) : coreView (hwAdvance s) = coreView s := by
  unfold hwAdvance
  split
  · exact (modTime_core ..).trans (by simp only [coreView])
  · simp only [coreView]
@[simp] theorem hwAdvance_fuses (s : State) : fuseView (hwAdvance s) = fuseView s := fuses_of_core (hwAdvance_core s)
@[simp] theorem hwAdvance_memOk (s : State) : MemOk (hwAdvance s) ↔ MemOk s := memOk_of_core (hwAdvance_core s)
@[simp] theorem hwAdvance_part (s : State) {sp : StatePart} (g_hwPhase : sp ≠ .hwPhase) (g_tbase : sp ≠ .tbase) : part sp (hwAdvance s) = part sp s := by
  unfold hwAdvance
  split
  · refine (modTime_part _ _ g_tbase).trans ?_
    cases sp <;> first | rfl | contradiction
  · cases sp <;> first | rfl | contradiction
@[simp] theorem pllMeTick_core (s : State) : coreView (pllMeTick s) = coreView s := by
  rfl
@[simp] theorem pllMeTick_fuses (s : State) : fuseView (pllMeTick s) = fuseView s := fuses_of_core (pllMeTick_core s)
@[simp] theorem pllMeTick_memOk (s : State) : MemOk (pllMeTick s) ↔ MemOk s := memOk_of_core (pllMeTick_core s)
@[simp] theorem pllMeTick_part (s : State) {sp : StatePart} (g_eng : sp ≠ .eng) : part sp (pllMeTick s) = part sp s := by
  cases sp <;> first | rfl | contradiction
@[simp] theorem orbFullTick_core (s : State) : coreView (orbFullTick s) = coreView s := by
  unfold orbFullTick
  simp
@[simp] theorem orbFullTick_fuses (s : State) : fuseView (orbFullTick s) = fuseView s := fuses_of_core (orbFullTick_core s)
@[simp] theorem orbFullTick_memOk (s : State) : MemOk (orbFullTick s) ↔ MemOk s := memOk_of_core (orbFullTick_core s)
@[simp] theorem orbFullTick_part (s : State) {sp : StatePart} (g_braid : sp ≠ .braid) : part sp (orbFullTick s) = part sp s := by
  unfold orbFullTick
  simp [*]
@[simp] theorem tick_core (s : State) : coreView (tick s) = coreView s := by
  unfold tick
  dsimp only
  refine (pllMeTick_core _).trans ((mirrorCalTick_core _).trans ((busyTick_core _).trans ((forAll_core _ _ _ (fun t x => quadTick_core t x)).trans ?_)))
  refine (msixTick_core _).trans ((bridgeTick_core _).trans ((takeVc2_core _).trans ((hwLockTick_core _).trans ((ferryReads_core _).trans ?_))))
  refine (slowAdvance_core _).trans ((hwAdvance_core _).trans ?_)
  exact orbFullTick_core s
@[simp] theorem tick_fuses (s : State) : fuseView (tick s) = fuseView s := fuses_of_core (tick_core s)
@[simp] theorem tick_memOk (s : State) : MemOk (tick s) ↔ MemOk s := memOk_of_core (tick_core s)
@[simp] theorem tick_part (s : State) {sp : StatePart} (g_time : sp ≠ .time) (g_hwPhase : sp ≠ .hwPhase) (g_slowPhase : sp ≠ .slowPhase) (g_braid : sp ≠ .braid) (g_sluice : sp ≠ .sluice) (g_ferry : sp ≠ .ferry) (g_locks : sp ≠ .locks) (g_host : sp ≠ .host) (g_twin : sp ≠ .twin) (g_eng : sp ≠ .eng) (g_dram : sp ≠ .dram) (g_tbase : sp ≠ .tbase) (g_events : sp ≠ .events) : part sp (tick s) = part sp s := by
  unfold tick
  dsimp only
  refine (pllMeTick_part _ g_eng).trans ((mirrorCalTick_part _ g_braid g_sluice g_twin g_events).trans ((busyTick_part _ g_dram).trans ((forAll_part _ _ _ (fun t x => quadTick_part t x g_eng)).trans ?_)))
  refine (msixTick_part _ g_host).trans ((bridgeTick_part _ g_braid g_host g_eng g_events).trans ((takeVc2_part _ g_braid).trans ((hwLockTick_part _ g_locks).trans ((ferryReads_part _ g_braid g_ferry g_events).trans ?_))))
  refine (slowAdvance_part _ g_slowPhase g_tbase).trans ((hwAdvance_part _ g_hwPhase g_tbase).trans ?_)
  refine Eq.trans ?_ (orbFullTick_part s g_braid)
  cases sp <;> first | rfl | contradiction

end Sys2Proof.Machine
end

