-- ==== Sys2Proof/Laws/State.lean ====
section
/-! SUPPORT. One lemma per field of State and update: what each update of a group of the state leaves, and what it makes. -/

namespace Sys2Proof.Machine
open Sys2Proof

@[simp] theorem modBraid_pending (s : State) (f : Braid → Braid) : (modBraid s f).pending = s.pending := rfl
@[simp] theorem modBraid_time (s : State) (f : Braid → Braid) : (modBraid s f).time = s.time := rfl
@[simp] theorem modBraid_hwPhase (s : State) (f : Braid → Braid) : (modBraid s f).hwPhase = s.hwPhase := rfl
@[simp] theorem modBraid_slowPhase (s : State) (f : Braid → Braid) : (modBraid s f).slowPhase = s.slowPhase := rfl
@[simp] theorem modBraid_freeCtr (s : State) (f : Braid → Braid) : (modBraid s f).freeCtr = s.freeCtr := rfl
@[simp] theorem modBraid_braid (s : State) (f : Braid → Braid) : (modBraid s f).braid = f s.braid := rfl
@[simp] theorem modBraid_sluice (s : State) (f : Braid → Braid) : (modBraid s f).sluice = s.sluice := rfl
@[simp] theorem modBraid_ferry (s : State) (f : Braid → Braid) : (modBraid s f).ferry = s.ferry := rfl
@[simp] theorem modBraid_locks (s : State) (f : Braid → Braid) : (modBraid s f).locks = s.locks := rfl
@[simp] theorem modBraid_host (s : State) (f : Braid → Braid) : (modBraid s f).host = s.host := rfl
@[simp] theorem modBraid_lanes (s : State) (f : Braid → Braid) : (modBraid s f).lanes = s.lanes := rfl
@[simp] theorem modBraid_delta (s : State) (f : Braid → Braid) : (modBraid s f).delta = s.delta := rfl
@[simp] theorem modBraid_twin (s : State) (f : Braid → Braid) : (modBraid s f).twin = s.twin := rfl
@[simp] theorem modBraid_eng (s : State) (f : Braid → Braid) : (modBraid s f).eng = s.eng := rfl
@[simp] theorem modBraid_dram (s : State) (f : Braid → Braid) : (modBraid s f).dram = s.dram := rfl
@[simp] theorem modBraid_mems (s : State) (f : Braid → Braid) : (modBraid s f).mems = s.mems := rfl
@[simp] theorem modBraid_crypto (s : State) (f : Braid → Braid) : (modBraid s f).crypto = s.crypto := rfl
@[simp] theorem modBraid_fabric (s : State) (f : Braid → Braid) : (modBraid s f).fabric = s.fabric := rfl
@[simp] theorem modBraid_bw (s : State) (f : Braid → Braid) : (modBraid s f).bw = s.bw := rfl
@[simp] theorem modBraid_bwx (s : State) (f : Braid → Braid) : (modBraid s f).bwx = s.bwx := rfl
@[simp] theorem modBraid_power (s : State) (f : Braid → Braid) : (modBraid s f).power = s.power := rfl
@[simp] theorem modBraid_tbase (s : State) (f : Braid → Braid) : (modBraid s f).tbase = s.tbase := rfl
@[simp] theorem modBraid_dbg (s : State) (f : Braid → Braid) : (modBraid s f).dbg = s.dbg := rfl
@[simp] theorem modBraid_events (s : State) (f : Braid → Braid) : (modBraid s f).events = s.events := rfl
@[simp] theorem modBraid_rill (s : State) (f : Braid → Braid) : (modBraid s f).rill = s.rill := rfl

@[simp] theorem modSluice_pending (s : State) (f : Sluice → Sluice) : (modSluice s f).pending = s.pending := rfl
@[simp] theorem modSluice_time (s : State) (f : Sluice → Sluice) : (modSluice s f).time = s.time := rfl
@[simp] theorem modSluice_hwPhase (s : State) (f : Sluice → Sluice) : (modSluice s f).hwPhase = s.hwPhase := rfl
@[simp] theorem modSluice_slowPhase (s : State) (f : Sluice → Sluice) : (modSluice s f).slowPhase = s.slowPhase := rfl
@[simp] theorem modSluice_freeCtr (s : State) (f : Sluice → Sluice) : (modSluice s f).freeCtr = s.freeCtr := rfl
@[simp] theorem modSluice_braid (s : State) (f : Sluice → Sluice) : (modSluice s f).braid = s.braid := rfl
@[simp] theorem modSluice_sluice (s : State) (f : Sluice → Sluice) : (modSluice s f).sluice = f s.sluice := rfl
@[simp] theorem modSluice_ferry (s : State) (f : Sluice → Sluice) : (modSluice s f).ferry = s.ferry := rfl
@[simp] theorem modSluice_locks (s : State) (f : Sluice → Sluice) : (modSluice s f).locks = s.locks := rfl
@[simp] theorem modSluice_host (s : State) (f : Sluice → Sluice) : (modSluice s f).host = s.host := rfl
@[simp] theorem modSluice_lanes (s : State) (f : Sluice → Sluice) : (modSluice s f).lanes = s.lanes := rfl
@[simp] theorem modSluice_delta (s : State) (f : Sluice → Sluice) : (modSluice s f).delta = s.delta := rfl
@[simp] theorem modSluice_twin (s : State) (f : Sluice → Sluice) : (modSluice s f).twin = s.twin := rfl
@[simp] theorem modSluice_eng (s : State) (f : Sluice → Sluice) : (modSluice s f).eng = s.eng := rfl
@[simp] theorem modSluice_dram (s : State) (f : Sluice → Sluice) : (modSluice s f).dram = s.dram := rfl
@[simp] theorem modSluice_mems (s : State) (f : Sluice → Sluice) : (modSluice s f).mems = s.mems := rfl
@[simp] theorem modSluice_crypto (s : State) (f : Sluice → Sluice) : (modSluice s f).crypto = s.crypto := rfl
@[simp] theorem modSluice_fabric (s : State) (f : Sluice → Sluice) : (modSluice s f).fabric = s.fabric := rfl
@[simp] theorem modSluice_bw (s : State) (f : Sluice → Sluice) : (modSluice s f).bw = s.bw := rfl
@[simp] theorem modSluice_bwx (s : State) (f : Sluice → Sluice) : (modSluice s f).bwx = s.bwx := rfl
@[simp] theorem modSluice_power (s : State) (f : Sluice → Sluice) : (modSluice s f).power = s.power := rfl
@[simp] theorem modSluice_tbase (s : State) (f : Sluice → Sluice) : (modSluice s f).tbase = s.tbase := rfl
@[simp] theorem modSluice_dbg (s : State) (f : Sluice → Sluice) : (modSluice s f).dbg = s.dbg := rfl
@[simp] theorem modSluice_events (s : State) (f : Sluice → Sluice) : (modSluice s f).events = s.events := rfl
@[simp] theorem modSluice_rill (s : State) (f : Sluice → Sluice) : (modSluice s f).rill = s.rill := rfl

@[simp] theorem modFerry_pending (s : State) (f : Ferry → Ferry) : (modFerry s f).pending = s.pending := rfl
@[simp] theorem modFerry_time (s : State) (f : Ferry → Ferry) : (modFerry s f).time = s.time := rfl
@[simp] theorem modFerry_hwPhase (s : State) (f : Ferry → Ferry) : (modFerry s f).hwPhase = s.hwPhase := rfl
@[simp] theorem modFerry_slowPhase (s : State) (f : Ferry → Ferry) : (modFerry s f).slowPhase = s.slowPhase := rfl
@[simp] theorem modFerry_freeCtr (s : State) (f : Ferry → Ferry) : (modFerry s f).freeCtr = s.freeCtr := rfl
@[simp] theorem modFerry_braid (s : State) (f : Ferry → Ferry) : (modFerry s f).braid = s.braid := rfl
@[simp] theorem modFerry_sluice (s : State) (f : Ferry → Ferry) : (modFerry s f).sluice = s.sluice := rfl
@[simp] theorem modFerry_ferry (s : State) (f : Ferry → Ferry) : (modFerry s f).ferry = f s.ferry := rfl
@[simp] theorem modFerry_locks (s : State) (f : Ferry → Ferry) : (modFerry s f).locks = s.locks := rfl
@[simp] theorem modFerry_host (s : State) (f : Ferry → Ferry) : (modFerry s f).host = s.host := rfl
@[simp] theorem modFerry_lanes (s : State) (f : Ferry → Ferry) : (modFerry s f).lanes = s.lanes := rfl
@[simp] theorem modFerry_delta (s : State) (f : Ferry → Ferry) : (modFerry s f).delta = s.delta := rfl
@[simp] theorem modFerry_twin (s : State) (f : Ferry → Ferry) : (modFerry s f).twin = s.twin := rfl
@[simp] theorem modFerry_eng (s : State) (f : Ferry → Ferry) : (modFerry s f).eng = s.eng := rfl
@[simp] theorem modFerry_dram (s : State) (f : Ferry → Ferry) : (modFerry s f).dram = s.dram := rfl
@[simp] theorem modFerry_mems (s : State) (f : Ferry → Ferry) : (modFerry s f).mems = s.mems := rfl
@[simp] theorem modFerry_crypto (s : State) (f : Ferry → Ferry) : (modFerry s f).crypto = s.crypto := rfl
@[simp] theorem modFerry_fabric (s : State) (f : Ferry → Ferry) : (modFerry s f).fabric = s.fabric := rfl
@[simp] theorem modFerry_bw (s : State) (f : Ferry → Ferry) : (modFerry s f).bw = s.bw := rfl
@[simp] theorem modFerry_bwx (s : State) (f : Ferry → Ferry) : (modFerry s f).bwx = s.bwx := rfl
@[simp] theorem modFerry_power (s : State) (f : Ferry → Ferry) : (modFerry s f).power = s.power := rfl
@[simp] theorem modFerry_tbase (s : State) (f : Ferry → Ferry) : (modFerry s f).tbase = s.tbase := rfl
@[simp] theorem modFerry_dbg (s : State) (f : Ferry → Ferry) : (modFerry s f).dbg = s.dbg := rfl
@[simp] theorem modFerry_events (s : State) (f : Ferry → Ferry) : (modFerry s f).events = s.events := rfl
@[simp] theorem modFerry_rill (s : State) (f : Ferry → Ferry) : (modFerry s f).rill = s.rill := rfl

@[simp] theorem modLocks_pending (s : State) (f : LockUnit → LockUnit) : (modLocks s f).pending = s.pending := rfl
@[simp] theorem modLocks_time (s : State) (f : LockUnit → LockUnit) : (modLocks s f).time = s.time := rfl
@[simp] theorem modLocks_hwPhase (s : State) (f : LockUnit → LockUnit) : (modLocks s f).hwPhase = s.hwPhase := rfl
@[simp] theorem modLocks_slowPhase (s : State) (f : LockUnit → LockUnit) : (modLocks s f).slowPhase = s.slowPhase := rfl
@[simp] theorem modLocks_freeCtr (s : State) (f : LockUnit → LockUnit) : (modLocks s f).freeCtr = s.freeCtr := rfl
@[simp] theorem modLocks_braid (s : State) (f : LockUnit → LockUnit) : (modLocks s f).braid = s.braid := rfl
@[simp] theorem modLocks_sluice (s : State) (f : LockUnit → LockUnit) : (modLocks s f).sluice = s.sluice := rfl
@[simp] theorem modLocks_ferry (s : State) (f : LockUnit → LockUnit) : (modLocks s f).ferry = s.ferry := rfl
@[simp] theorem modLocks_locks (s : State) (f : LockUnit → LockUnit) : (modLocks s f).locks = f s.locks := rfl
@[simp] theorem modLocks_host (s : State) (f : LockUnit → LockUnit) : (modLocks s f).host = s.host := rfl
@[simp] theorem modLocks_lanes (s : State) (f : LockUnit → LockUnit) : (modLocks s f).lanes = s.lanes := rfl
@[simp] theorem modLocks_delta (s : State) (f : LockUnit → LockUnit) : (modLocks s f).delta = s.delta := rfl
@[simp] theorem modLocks_twin (s : State) (f : LockUnit → LockUnit) : (modLocks s f).twin = s.twin := rfl
@[simp] theorem modLocks_eng (s : State) (f : LockUnit → LockUnit) : (modLocks s f).eng = s.eng := rfl
@[simp] theorem modLocks_dram (s : State) (f : LockUnit → LockUnit) : (modLocks s f).dram = s.dram := rfl
@[simp] theorem modLocks_mems (s : State) (f : LockUnit → LockUnit) : (modLocks s f).mems = s.mems := rfl
@[simp] theorem modLocks_crypto (s : State) (f : LockUnit → LockUnit) : (modLocks s f).crypto = s.crypto := rfl
@[simp] theorem modLocks_fabric (s : State) (f : LockUnit → LockUnit) : (modLocks s f).fabric = s.fabric := rfl
@[simp] theorem modLocks_bw (s : State) (f : LockUnit → LockUnit) : (modLocks s f).bw = s.bw := rfl
@[simp] theorem modLocks_bwx (s : State) (f : LockUnit → LockUnit) : (modLocks s f).bwx = s.bwx := rfl
@[simp] theorem modLocks_power (s : State) (f : LockUnit → LockUnit) : (modLocks s f).power = s.power := rfl
@[simp] theorem modLocks_tbase (s : State) (f : LockUnit → LockUnit) : (modLocks s f).tbase = s.tbase := rfl
@[simp] theorem modLocks_dbg (s : State) (f : LockUnit → LockUnit) : (modLocks s f).dbg = s.dbg := rfl
@[simp] theorem modLocks_events (s : State) (f : LockUnit → LockUnit) : (modLocks s f).events = s.events := rfl
@[simp] theorem modLocks_rill (s : State) (f : LockUnit → LockUnit) : (modLocks s f).rill = s.rill := rfl

@[simp] theorem modHost_pending (s : State) (f : HostBridge → HostBridge) : (modHost s f).pending = s.pending := rfl
@[simp] theorem modHost_time (s : State) (f : HostBridge → HostBridge) : (modHost s f).time = s.time := rfl
@[simp] theorem modHost_hwPhase (s : State) (f : HostBridge → HostBridge) : (modHost s f).hwPhase = s.hwPhase := rfl
@[simp] theorem modHost_slowPhase (s : State) (f : HostBridge → HostBridge) : (modHost s f).slowPhase = s.slowPhase := rfl
@[simp] theorem modHost_freeCtr (s : State) (f : HostBridge → HostBridge) : (modHost s f).freeCtr = s.freeCtr := rfl
@[simp] theorem modHost_braid (s : State) (f : HostBridge → HostBridge) : (modHost s f).braid = s.braid := rfl
@[simp] theorem modHost_sluice (s : State) (f : HostBridge → HostBridge) : (modHost s f).sluice = s.sluice := rfl
@[simp] theorem modHost_ferry (s : State) (f : HostBridge → HostBridge) : (modHost s f).ferry = s.ferry := rfl
@[simp] theorem modHost_locks (s : State) (f : HostBridge → HostBridge) : (modHost s f).locks = s.locks := rfl
@[simp] theorem modHost_host (s : State) (f : HostBridge → HostBridge) : (modHost s f).host = f s.host := rfl
@[simp] theorem modHost_lanes (s : State) (f : HostBridge → HostBridge) : (modHost s f).lanes = s.lanes := rfl
@[simp] theorem modHost_delta (s : State) (f : HostBridge → HostBridge) : (modHost s f).delta = s.delta := rfl
@[simp] theorem modHost_twin (s : State) (f : HostBridge → HostBridge) : (modHost s f).twin = s.twin := rfl
@[simp] theorem modHost_eng (s : State) (f : HostBridge → HostBridge) : (modHost s f).eng = s.eng := rfl
@[simp] theorem modHost_dram (s : State) (f : HostBridge → HostBridge) : (modHost s f).dram = s.dram := rfl
@[simp] theorem modHost_mems (s : State) (f : HostBridge → HostBridge) : (modHost s f).mems = s.mems := rfl
@[simp] theorem modHost_crypto (s : State) (f : HostBridge → HostBridge) : (modHost s f).crypto = s.crypto := rfl
@[simp] theorem modHost_fabric (s : State) (f : HostBridge → HostBridge) : (modHost s f).fabric = s.fabric := rfl
@[simp] theorem modHost_bw (s : State) (f : HostBridge → HostBridge) : (modHost s f).bw = s.bw := rfl
@[simp] theorem modHost_bwx (s : State) (f : HostBridge → HostBridge) : (modHost s f).bwx = s.bwx := rfl
@[simp] theorem modHost_power (s : State) (f : HostBridge → HostBridge) : (modHost s f).power = s.power := rfl
@[simp] theorem modHost_tbase (s : State) (f : HostBridge → HostBridge) : (modHost s f).tbase = s.tbase := rfl
@[simp] theorem modHost_dbg (s : State) (f : HostBridge → HostBridge) : (modHost s f).dbg = s.dbg := rfl
@[simp] theorem modHost_events (s : State) (f : HostBridge → HostBridge) : (modHost s f).events = s.events := rfl
@[simp] theorem modHost_rill (s : State) (f : HostBridge → HostBridge) : (modHost s f).rill = s.rill := rfl

@[simp] theorem modLanes_pending (s : State) (f : Lanes → Lanes) : (modLanes s f).pending = s.pending := rfl
@[simp] theorem modLanes_time (s : State) (f : Lanes → Lanes) : (modLanes s f).time = s.time := rfl
@[simp] theorem modLanes_hwPhase (s : State) (f : Lanes → Lanes) : (modLanes s f).hwPhase = s.hwPhase := rfl
@[simp] theorem modLanes_slowPhase (s : State) (f : Lanes → Lanes) : (modLanes s f).slowPhase = s.slowPhase := rfl
@[simp] theorem modLanes_freeCtr (s : State) (f : Lanes → Lanes) : (modLanes s f).freeCtr = s.freeCtr := rfl
@[simp] theorem modLanes_braid (s : State) (f : Lanes → Lanes) : (modLanes s f).braid = s.braid := rfl
@[simp] theorem modLanes_sluice (s : State) (f : Lanes → Lanes) : (modLanes s f).sluice = s.sluice := rfl
@[simp] theorem modLanes_ferry (s : State) (f : Lanes → Lanes) : (modLanes s f).ferry = s.ferry := rfl
@[simp] theorem modLanes_locks (s : State) (f : Lanes → Lanes) : (modLanes s f).locks = s.locks := rfl
@[simp] theorem modLanes_host (s : State) (f : Lanes → Lanes) : (modLanes s f).host = s.host := rfl
@[simp] theorem modLanes_lanes (s : State) (f : Lanes → Lanes) : (modLanes s f).lanes = f s.lanes := rfl
@[simp] theorem modLanes_delta (s : State) (f : Lanes → Lanes) : (modLanes s f).delta = s.delta := rfl
@[simp] theorem modLanes_twin (s : State) (f : Lanes → Lanes) : (modLanes s f).twin = s.twin := rfl
@[simp] theorem modLanes_eng (s : State) (f : Lanes → Lanes) : (modLanes s f).eng = s.eng := rfl
@[simp] theorem modLanes_dram (s : State) (f : Lanes → Lanes) : (modLanes s f).dram = s.dram := rfl
@[simp] theorem modLanes_mems (s : State) (f : Lanes → Lanes) : (modLanes s f).mems = s.mems := rfl
@[simp] theorem modLanes_crypto (s : State) (f : Lanes → Lanes) : (modLanes s f).crypto = s.crypto := rfl
@[simp] theorem modLanes_fabric (s : State) (f : Lanes → Lanes) : (modLanes s f).fabric = s.fabric := rfl
@[simp] theorem modLanes_bw (s : State) (f : Lanes → Lanes) : (modLanes s f).bw = s.bw := rfl
@[simp] theorem modLanes_bwx (s : State) (f : Lanes → Lanes) : (modLanes s f).bwx = s.bwx := rfl
@[simp] theorem modLanes_power (s : State) (f : Lanes → Lanes) : (modLanes s f).power = s.power := rfl
@[simp] theorem modLanes_tbase (s : State) (f : Lanes → Lanes) : (modLanes s f).tbase = s.tbase := rfl
@[simp] theorem modLanes_dbg (s : State) (f : Lanes → Lanes) : (modLanes s f).dbg = s.dbg := rfl
@[simp] theorem modLanes_events (s : State) (f : Lanes → Lanes) : (modLanes s f).events = s.events := rfl
@[simp] theorem modLanes_rill (s : State) (f : Lanes → Lanes) : (modLanes s f).rill = s.rill := rfl

@[simp] theorem modDelta_pending (s : State) (f : Delta → Delta) : (modDelta s f).pending = s.pending := rfl
@[simp] theorem modDelta_time (s : State) (f : Delta → Delta) : (modDelta s f).time = s.time := rfl
@[simp] theorem modDelta_hwPhase (s : State) (f : Delta → Delta) : (modDelta s f).hwPhase = s.hwPhase := rfl
@[simp] theorem modDelta_slowPhase (s : State) (f : Delta → Delta) : (modDelta s f).slowPhase = s.slowPhase := rfl
@[simp] theorem modDelta_freeCtr (s : State) (f : Delta → Delta) : (modDelta s f).freeCtr = s.freeCtr := rfl
@[simp] theorem modDelta_braid (s : State) (f : Delta → Delta) : (modDelta s f).braid = s.braid := rfl
@[simp] theorem modDelta_sluice (s : State) (f : Delta → Delta) : (modDelta s f).sluice = s.sluice := rfl
@[simp] theorem modDelta_ferry (s : State) (f : Delta → Delta) : (modDelta s f).ferry = s.ferry := rfl
@[simp] theorem modDelta_locks (s : State) (f : Delta → Delta) : (modDelta s f).locks = s.locks := rfl
@[simp] theorem modDelta_host (s : State) (f : Delta → Delta) : (modDelta s f).host = s.host := rfl
@[simp] theorem modDelta_lanes (s : State) (f : Delta → Delta) : (modDelta s f).lanes = s.lanes := rfl
@[simp] theorem modDelta_delta (s : State) (f : Delta → Delta) : (modDelta s f).delta = f s.delta := rfl
@[simp] theorem modDelta_twin (s : State) (f : Delta → Delta) : (modDelta s f).twin = s.twin := rfl
@[simp] theorem modDelta_eng (s : State) (f : Delta → Delta) : (modDelta s f).eng = s.eng := rfl
@[simp] theorem modDelta_dram (s : State) (f : Delta → Delta) : (modDelta s f).dram = s.dram := rfl
@[simp] theorem modDelta_mems (s : State) (f : Delta → Delta) : (modDelta s f).mems = s.mems := rfl
@[simp] theorem modDelta_crypto (s : State) (f : Delta → Delta) : (modDelta s f).crypto = s.crypto := rfl
@[simp] theorem modDelta_fabric (s : State) (f : Delta → Delta) : (modDelta s f).fabric = s.fabric := rfl
@[simp] theorem modDelta_bw (s : State) (f : Delta → Delta) : (modDelta s f).bw = s.bw := rfl
@[simp] theorem modDelta_bwx (s : State) (f : Delta → Delta) : (modDelta s f).bwx = s.bwx := rfl
@[simp] theorem modDelta_power (s : State) (f : Delta → Delta) : (modDelta s f).power = s.power := rfl
@[simp] theorem modDelta_tbase (s : State) (f : Delta → Delta) : (modDelta s f).tbase = s.tbase := rfl
@[simp] theorem modDelta_dbg (s : State) (f : Delta → Delta) : (modDelta s f).dbg = s.dbg := rfl
@[simp] theorem modDelta_events (s : State) (f : Delta → Delta) : (modDelta s f).events = s.events := rfl
@[simp] theorem modDelta_rill (s : State) (f : Delta → Delta) : (modDelta s f).rill = s.rill := rfl

@[simp] theorem modTwin_pending (s : State) (f : Twin → Twin) : (modTwin s f).pending = s.pending := rfl
@[simp] theorem modTwin_time (s : State) (f : Twin → Twin) : (modTwin s f).time = s.time := rfl
@[simp] theorem modTwin_hwPhase (s : State) (f : Twin → Twin) : (modTwin s f).hwPhase = s.hwPhase := rfl
@[simp] theorem modTwin_slowPhase (s : State) (f : Twin → Twin) : (modTwin s f).slowPhase = s.slowPhase := rfl
@[simp] theorem modTwin_freeCtr (s : State) (f : Twin → Twin) : (modTwin s f).freeCtr = s.freeCtr := rfl
@[simp] theorem modTwin_braid (s : State) (f : Twin → Twin) : (modTwin s f).braid = s.braid := rfl
@[simp] theorem modTwin_sluice (s : State) (f : Twin → Twin) : (modTwin s f).sluice = s.sluice := rfl
@[simp] theorem modTwin_ferry (s : State) (f : Twin → Twin) : (modTwin s f).ferry = s.ferry := rfl
@[simp] theorem modTwin_locks (s : State) (f : Twin → Twin) : (modTwin s f).locks = s.locks := rfl
@[simp] theorem modTwin_host (s : State) (f : Twin → Twin) : (modTwin s f).host = s.host := rfl
@[simp] theorem modTwin_lanes (s : State) (f : Twin → Twin) : (modTwin s f).lanes = s.lanes := rfl
@[simp] theorem modTwin_delta (s : State) (f : Twin → Twin) : (modTwin s f).delta = s.delta := rfl
@[simp] theorem modTwin_twin (s : State) (f : Twin → Twin) : (modTwin s f).twin = f s.twin := rfl
@[simp] theorem modTwin_eng (s : State) (f : Twin → Twin) : (modTwin s f).eng = s.eng := rfl
@[simp] theorem modTwin_dram (s : State) (f : Twin → Twin) : (modTwin s f).dram = s.dram := rfl
@[simp] theorem modTwin_mems (s : State) (f : Twin → Twin) : (modTwin s f).mems = s.mems := rfl
@[simp] theorem modTwin_crypto (s : State) (f : Twin → Twin) : (modTwin s f).crypto = s.crypto := rfl
@[simp] theorem modTwin_fabric (s : State) (f : Twin → Twin) : (modTwin s f).fabric = s.fabric := rfl
@[simp] theorem modTwin_bw (s : State) (f : Twin → Twin) : (modTwin s f).bw = s.bw := rfl
@[simp] theorem modTwin_bwx (s : State) (f : Twin → Twin) : (modTwin s f).bwx = s.bwx := rfl
@[simp] theorem modTwin_power (s : State) (f : Twin → Twin) : (modTwin s f).power = s.power := rfl
@[simp] theorem modTwin_tbase (s : State) (f : Twin → Twin) : (modTwin s f).tbase = s.tbase := rfl
@[simp] theorem modTwin_dbg (s : State) (f : Twin → Twin) : (modTwin s f).dbg = s.dbg := rfl
@[simp] theorem modTwin_events (s : State) (f : Twin → Twin) : (modTwin s f).events = s.events := rfl
@[simp] theorem modTwin_rill (s : State) (f : Twin → Twin) : (modTwin s f).rill = s.rill := rfl

@[simp] theorem modEngines_pending (s : State) (f : Engines → Engines) : (modEngines s f).pending = s.pending := rfl
@[simp] theorem modEngines_time (s : State) (f : Engines → Engines) : (modEngines s f).time = s.time := rfl
@[simp] theorem modEngines_hwPhase (s : State) (f : Engines → Engines) : (modEngines s f).hwPhase = s.hwPhase := rfl
@[simp] theorem modEngines_slowPhase (s : State) (f : Engines → Engines) : (modEngines s f).slowPhase = s.slowPhase := rfl
@[simp] theorem modEngines_freeCtr (s : State) (f : Engines → Engines) : (modEngines s f).freeCtr = s.freeCtr := rfl
@[simp] theorem modEngines_braid (s : State) (f : Engines → Engines) : (modEngines s f).braid = s.braid := rfl
@[simp] theorem modEngines_sluice (s : State) (f : Engines → Engines) : (modEngines s f).sluice = s.sluice := rfl
@[simp] theorem modEngines_ferry (s : State) (f : Engines → Engines) : (modEngines s f).ferry = s.ferry := rfl
@[simp] theorem modEngines_locks (s : State) (f : Engines → Engines) : (modEngines s f).locks = s.locks := rfl
@[simp] theorem modEngines_host (s : State) (f : Engines → Engines) : (modEngines s f).host = s.host := rfl
@[simp] theorem modEngines_lanes (s : State) (f : Engines → Engines) : (modEngines s f).lanes = s.lanes := rfl
@[simp] theorem modEngines_delta (s : State) (f : Engines → Engines) : (modEngines s f).delta = s.delta := rfl
@[simp] theorem modEngines_twin (s : State) (f : Engines → Engines) : (modEngines s f).twin = s.twin := rfl
@[simp] theorem modEngines_eng (s : State) (f : Engines → Engines) : (modEngines s f).eng = f s.eng := rfl
@[simp] theorem modEngines_dram (s : State) (f : Engines → Engines) : (modEngines s f).dram = s.dram := rfl
@[simp] theorem modEngines_mems (s : State) (f : Engines → Engines) : (modEngines s f).mems = s.mems := rfl
@[simp] theorem modEngines_crypto (s : State) (f : Engines → Engines) : (modEngines s f).crypto = s.crypto := rfl
@[simp] theorem modEngines_fabric (s : State) (f : Engines → Engines) : (modEngines s f).fabric = s.fabric := rfl
@[simp] theorem modEngines_bw (s : State) (f : Engines → Engines) : (modEngines s f).bw = s.bw := rfl
@[simp] theorem modEngines_bwx (s : State) (f : Engines → Engines) : (modEngines s f).bwx = s.bwx := rfl
@[simp] theorem modEngines_power (s : State) (f : Engines → Engines) : (modEngines s f).power = s.power := rfl
@[simp] theorem modEngines_tbase (s : State) (f : Engines → Engines) : (modEngines s f).tbase = s.tbase := rfl
@[simp] theorem modEngines_dbg (s : State) (f : Engines → Engines) : (modEngines s f).dbg = s.dbg := rfl
@[simp] theorem modEngines_events (s : State) (f : Engines → Engines) : (modEngines s f).events = s.events := rfl
@[simp] theorem modEngines_rill (s : State) (f : Engines → Engines) : (modEngines s f).rill = s.rill := rfl

@[simp] theorem modDram_pending (s : State) (f : Dram → Dram) : (modDram s f).pending = s.pending := rfl
@[simp] theorem modDram_time (s : State) (f : Dram → Dram) : (modDram s f).time = s.time := rfl
@[simp] theorem modDram_hwPhase (s : State) (f : Dram → Dram) : (modDram s f).hwPhase = s.hwPhase := rfl
@[simp] theorem modDram_slowPhase (s : State) (f : Dram → Dram) : (modDram s f).slowPhase = s.slowPhase := rfl
@[simp] theorem modDram_freeCtr (s : State) (f : Dram → Dram) : (modDram s f).freeCtr = s.freeCtr := rfl
@[simp] theorem modDram_braid (s : State) (f : Dram → Dram) : (modDram s f).braid = s.braid := rfl
@[simp] theorem modDram_sluice (s : State) (f : Dram → Dram) : (modDram s f).sluice = s.sluice := rfl
@[simp] theorem modDram_ferry (s : State) (f : Dram → Dram) : (modDram s f).ferry = s.ferry := rfl
@[simp] theorem modDram_locks (s : State) (f : Dram → Dram) : (modDram s f).locks = s.locks := rfl
@[simp] theorem modDram_host (s : State) (f : Dram → Dram) : (modDram s f).host = s.host := rfl
@[simp] theorem modDram_lanes (s : State) (f : Dram → Dram) : (modDram s f).lanes = s.lanes := rfl
@[simp] theorem modDram_delta (s : State) (f : Dram → Dram) : (modDram s f).delta = s.delta := rfl
@[simp] theorem modDram_twin (s : State) (f : Dram → Dram) : (modDram s f).twin = s.twin := rfl
@[simp] theorem modDram_eng (s : State) (f : Dram → Dram) : (modDram s f).eng = s.eng := rfl
@[simp] theorem modDram_dram (s : State) (f : Dram → Dram) : (modDram s f).dram = f s.dram := rfl
@[simp] theorem modDram_mems (s : State) (f : Dram → Dram) : (modDram s f).mems = s.mems := rfl
@[simp] theorem modDram_crypto (s : State) (f : Dram → Dram) : (modDram s f).crypto = s.crypto := rfl
@[simp] theorem modDram_fabric (s : State) (f : Dram → Dram) : (modDram s f).fabric = s.fabric := rfl
@[simp] theorem modDram_bw (s : State) (f : Dram → Dram) : (modDram s f).bw = s.bw := rfl
@[simp] theorem modDram_bwx (s : State) (f : Dram → Dram) : (modDram s f).bwx = s.bwx := rfl
@[simp] theorem modDram_power (s : State) (f : Dram → Dram) : (modDram s f).power = s.power := rfl
@[simp] theorem modDram_tbase (s : State) (f : Dram → Dram) : (modDram s f).tbase = s.tbase := rfl
@[simp] theorem modDram_dbg (s : State) (f : Dram → Dram) : (modDram s f).dbg = s.dbg := rfl
@[simp] theorem modDram_events (s : State) (f : Dram → Dram) : (modDram s f).events = s.events := rfl
@[simp] theorem modDram_rill (s : State) (f : Dram → Dram) : (modDram s f).rill = s.rill := rfl

@[simp] theorem modMems_pending (s : State) (f : Mems → Mems) : (modMems s f).pending = s.pending := rfl
@[simp] theorem modMems_time (s : State) (f : Mems → Mems) : (modMems s f).time = s.time := rfl
@[simp] theorem modMems_hwPhase (s : State) (f : Mems → Mems) : (modMems s f).hwPhase = s.hwPhase := rfl
@[simp] theorem modMems_slowPhase (s : State) (f : Mems → Mems) : (modMems s f).slowPhase = s.slowPhase := rfl
@[simp] theorem modMems_freeCtr (s : State) (f : Mems → Mems) : (modMems s f).freeCtr = s.freeCtr := rfl
@[simp] theorem modMems_braid (s : State) (f : Mems → Mems) : (modMems s f).braid = s.braid := rfl
@[simp] theorem modMems_sluice (s : State) (f : Mems → Mems) : (modMems s f).sluice = s.sluice := rfl
@[simp] theorem modMems_ferry (s : State) (f : Mems → Mems) : (modMems s f).ferry = s.ferry := rfl
@[simp] theorem modMems_locks (s : State) (f : Mems → Mems) : (modMems s f).locks = s.locks := rfl
@[simp] theorem modMems_host (s : State) (f : Mems → Mems) : (modMems s f).host = s.host := rfl
@[simp] theorem modMems_lanes (s : State) (f : Mems → Mems) : (modMems s f).lanes = s.lanes := rfl
@[simp] theorem modMems_delta (s : State) (f : Mems → Mems) : (modMems s f).delta = s.delta := rfl
@[simp] theorem modMems_twin (s : State) (f : Mems → Mems) : (modMems s f).twin = s.twin := rfl
@[simp] theorem modMems_eng (s : State) (f : Mems → Mems) : (modMems s f).eng = s.eng := rfl
@[simp] theorem modMems_dram (s : State) (f : Mems → Mems) : (modMems s f).dram = s.dram := rfl
@[simp] theorem modMems_mems (s : State) (f : Mems → Mems) : (modMems s f).mems = f s.mems := rfl
@[simp] theorem modMems_crypto (s : State) (f : Mems → Mems) : (modMems s f).crypto = s.crypto := rfl
@[simp] theorem modMems_fabric (s : State) (f : Mems → Mems) : (modMems s f).fabric = s.fabric := rfl
@[simp] theorem modMems_bw (s : State) (f : Mems → Mems) : (modMems s f).bw = s.bw := rfl
@[simp] theorem modMems_bwx (s : State) (f : Mems → Mems) : (modMems s f).bwx = s.bwx := rfl
@[simp] theorem modMems_power (s : State) (f : Mems → Mems) : (modMems s f).power = s.power := rfl
@[simp] theorem modMems_tbase (s : State) (f : Mems → Mems) : (modMems s f).tbase = s.tbase := rfl
@[simp] theorem modMems_dbg (s : State) (f : Mems → Mems) : (modMems s f).dbg = s.dbg := rfl
@[simp] theorem modMems_events (s : State) (f : Mems → Mems) : (modMems s f).events = s.events := rfl
@[simp] theorem modMems_rill (s : State) (f : Mems → Mems) : (modMems s f).rill = s.rill := rfl

@[simp] theorem modCrypto_pending (s : State) (f : Crypto → Crypto) : (modCrypto s f).pending = s.pending := rfl
@[simp] theorem modCrypto_time (s : State) (f : Crypto → Crypto) : (modCrypto s f).time = s.time := rfl
@[simp] theorem modCrypto_hwPhase (s : State) (f : Crypto → Crypto) : (modCrypto s f).hwPhase = s.hwPhase := rfl
@[simp] theorem modCrypto_slowPhase (s : State) (f : Crypto → Crypto) : (modCrypto s f).slowPhase = s.slowPhase := rfl
@[simp] theorem modCrypto_freeCtr (s : State) (f : Crypto → Crypto) : (modCrypto s f).freeCtr = s.freeCtr := rfl
@[simp] theorem modCrypto_braid (s : State) (f : Crypto → Crypto) : (modCrypto s f).braid = s.braid := rfl
@[simp] theorem modCrypto_sluice (s : State) (f : Crypto → Crypto) : (modCrypto s f).sluice = s.sluice := rfl
@[simp] theorem modCrypto_ferry (s : State) (f : Crypto → Crypto) : (modCrypto s f).ferry = s.ferry := rfl
@[simp] theorem modCrypto_locks (s : State) (f : Crypto → Crypto) : (modCrypto s f).locks = s.locks := rfl
@[simp] theorem modCrypto_host (s : State) (f : Crypto → Crypto) : (modCrypto s f).host = s.host := rfl
@[simp] theorem modCrypto_lanes (s : State) (f : Crypto → Crypto) : (modCrypto s f).lanes = s.lanes := rfl
@[simp] theorem modCrypto_delta (s : State) (f : Crypto → Crypto) : (modCrypto s f).delta = s.delta := rfl
@[simp] theorem modCrypto_twin (s : State) (f : Crypto → Crypto) : (modCrypto s f).twin = s.twin := rfl
@[simp] theorem modCrypto_eng (s : State) (f : Crypto → Crypto) : (modCrypto s f).eng = s.eng := rfl
@[simp] theorem modCrypto_dram (s : State) (f : Crypto → Crypto) : (modCrypto s f).dram = s.dram := rfl
@[simp] theorem modCrypto_mems (s : State) (f : Crypto → Crypto) : (modCrypto s f).mems = s.mems := rfl
@[simp] theorem modCrypto_crypto (s : State) (f : Crypto → Crypto) : (modCrypto s f).crypto = f s.crypto := rfl
@[simp] theorem modCrypto_fabric (s : State) (f : Crypto → Crypto) : (modCrypto s f).fabric = s.fabric := rfl
@[simp] theorem modCrypto_bw (s : State) (f : Crypto → Crypto) : (modCrypto s f).bw = s.bw := rfl
@[simp] theorem modCrypto_bwx (s : State) (f : Crypto → Crypto) : (modCrypto s f).bwx = s.bwx := rfl
@[simp] theorem modCrypto_power (s : State) (f : Crypto → Crypto) : (modCrypto s f).power = s.power := rfl
@[simp] theorem modCrypto_tbase (s : State) (f : Crypto → Crypto) : (modCrypto s f).tbase = s.tbase := rfl
@[simp] theorem modCrypto_dbg (s : State) (f : Crypto → Crypto) : (modCrypto s f).dbg = s.dbg := rfl
@[simp] theorem modCrypto_events (s : State) (f : Crypto → Crypto) : (modCrypto s f).events = s.events := rfl
@[simp] theorem modCrypto_rill (s : State) (f : Crypto → Crypto) : (modCrypto s f).rill = s.rill := rfl

@[simp] theorem modFabric_pending (s : State) (f : Fabric → Fabric) : (modFabric s f).pending = s.pending := rfl
@[simp] theorem modFabric_time (s : State) (f : Fabric → Fabric) : (modFabric s f).time = s.time := rfl
@[simp] theorem modFabric_hwPhase (s : State) (f : Fabric → Fabric) : (modFabric s f).hwPhase = s.hwPhase := rfl
@[simp] theorem modFabric_slowPhase (s : State) (f : Fabric → Fabric) : (modFabric s f).slowPhase = s.slowPhase := rfl
@[simp] theorem modFabric_freeCtr (s : State) (f : Fabric → Fabric) : (modFabric s f).freeCtr = s.freeCtr := rfl
@[simp] theorem modFabric_braid (s : State) (f : Fabric → Fabric) : (modFabric s f).braid = s.braid := rfl
@[simp] theorem modFabric_sluice (s : State) (f : Fabric → Fabric) : (modFabric s f).sluice = s.sluice := rfl
@[simp] theorem modFabric_ferry (s : State) (f : Fabric → Fabric) : (modFabric s f).ferry = s.ferry := rfl
@[simp] theorem modFabric_locks (s : State) (f : Fabric → Fabric) : (modFabric s f).locks = s.locks := rfl
@[simp] theorem modFabric_host (s : State) (f : Fabric → Fabric) : (modFabric s f).host = s.host := rfl
@[simp] theorem modFabric_lanes (s : State) (f : Fabric → Fabric) : (modFabric s f).lanes = s.lanes := rfl
@[simp] theorem modFabric_delta (s : State) (f : Fabric → Fabric) : (modFabric s f).delta = s.delta := rfl
@[simp] theorem modFabric_twin (s : State) (f : Fabric → Fabric) : (modFabric s f).twin = s.twin := rfl
@[simp] theorem modFabric_eng (s : State) (f : Fabric → Fabric) : (modFabric s f).eng = s.eng := rfl
@[simp] theorem modFabric_dram (s : State) (f : Fabric → Fabric) : (modFabric s f).dram = s.dram := rfl
@[simp] theorem modFabric_mems (s : State) (f : Fabric → Fabric) : (modFabric s f).mems = s.mems := rfl
@[simp] theorem modFabric_crypto (s : State) (f : Fabric → Fabric) : (modFabric s f).crypto = s.crypto := rfl
@[simp] theorem modFabric_fabric (s : State) (f : Fabric → Fabric) : (modFabric s f).fabric = f s.fabric := rfl
@[simp] theorem modFabric_bw (s : State) (f : Fabric → Fabric) : (modFabric s f).bw = s.bw := rfl
@[simp] theorem modFabric_bwx (s : State) (f : Fabric → Fabric) : (modFabric s f).bwx = s.bwx := rfl
@[simp] theorem modFabric_power (s : State) (f : Fabric → Fabric) : (modFabric s f).power = s.power := rfl
@[simp] theorem modFabric_tbase (s : State) (f : Fabric → Fabric) : (modFabric s f).tbase = s.tbase := rfl
@[simp] theorem modFabric_dbg (s : State) (f : Fabric → Fabric) : (modFabric s f).dbg = s.dbg := rfl
@[simp] theorem modFabric_events (s : State) (f : Fabric → Fabric) : (modFabric s f).events = s.events := rfl
@[simp] theorem modFabric_rill (s : State) (f : Fabric → Fabric) : (modFabric s f).rill = s.rill := rfl

@[simp] theorem modBw_pending (s : State) (f : Backwater → Backwater) : (modBw s f).pending = s.pending := rfl
@[simp] theorem modBw_time (s : State) (f : Backwater → Backwater) : (modBw s f).time = s.time := rfl
@[simp] theorem modBw_hwPhase (s : State) (f : Backwater → Backwater) : (modBw s f).hwPhase = s.hwPhase := rfl
@[simp] theorem modBw_slowPhase (s : State) (f : Backwater → Backwater) : (modBw s f).slowPhase = s.slowPhase := rfl
@[simp] theorem modBw_freeCtr (s : State) (f : Backwater → Backwater) : (modBw s f).freeCtr = s.freeCtr := rfl
@[simp] theorem modBw_braid (s : State) (f : Backwater → Backwater) : (modBw s f).braid = s.braid := rfl
@[simp] theorem modBw_sluice (s : State) (f : Backwater → Backwater) : (modBw s f).sluice = s.sluice := rfl
@[simp] theorem modBw_ferry (s : State) (f : Backwater → Backwater) : (modBw s f).ferry = s.ferry := rfl
@[simp] theorem modBw_locks (s : State) (f : Backwater → Backwater) : (modBw s f).locks = s.locks := rfl
@[simp] theorem modBw_host (s : State) (f : Backwater → Backwater) : (modBw s f).host = s.host := rfl
@[simp] theorem modBw_lanes (s : State) (f : Backwater → Backwater) : (modBw s f).lanes = s.lanes := rfl
@[simp] theorem modBw_delta (s : State) (f : Backwater → Backwater) : (modBw s f).delta = s.delta := rfl
@[simp] theorem modBw_twin (s : State) (f : Backwater → Backwater) : (modBw s f).twin = s.twin := rfl
@[simp] theorem modBw_eng (s : State) (f : Backwater → Backwater) : (modBw s f).eng = s.eng := rfl
@[simp] theorem modBw_dram (s : State) (f : Backwater → Backwater) : (modBw s f).dram = s.dram := rfl
@[simp] theorem modBw_mems (s : State) (f : Backwater → Backwater) : (modBw s f).mems = s.mems := rfl
@[simp] theorem modBw_crypto (s : State) (f : Backwater → Backwater) : (modBw s f).crypto = s.crypto := rfl
@[simp] theorem modBw_fabric (s : State) (f : Backwater → Backwater) : (modBw s f).fabric = s.fabric := rfl
@[simp] theorem modBw_bw (s : State) (f : Backwater → Backwater) : (modBw s f).bw = f s.bw := rfl
@[simp] theorem modBw_bwx (s : State) (f : Backwater → Backwater) : (modBw s f).bwx = s.bwx := rfl
@[simp] theorem modBw_power (s : State) (f : Backwater → Backwater) : (modBw s f).power = s.power := rfl
@[simp] theorem modBw_tbase (s : State) (f : Backwater → Backwater) : (modBw s f).tbase = s.tbase := rfl
@[simp] theorem modBw_dbg (s : State) (f : Backwater → Backwater) : (modBw s f).dbg = s.dbg := rfl
@[simp] theorem modBw_events (s : State) (f : Backwater → Backwater) : (modBw s f).events = s.events := rfl
@[simp] theorem modBw_rill (s : State) (f : Backwater → Backwater) : (modBw s f).rill = s.rill := rfl

@[simp] theorem modBwx_pending (s : State) (f : BackwaterX → BackwaterX) : (modBwx s f).pending = s.pending := rfl
@[simp] theorem modBwx_time (s : State) (f : BackwaterX → BackwaterX) : (modBwx s f).time = s.time := rfl
@[simp] theorem modBwx_hwPhase (s : State) (f : BackwaterX → BackwaterX) : (modBwx s f).hwPhase = s.hwPhase := rfl
@[simp] theorem modBwx_slowPhase (s : State) (f : BackwaterX → BackwaterX) : (modBwx s f).slowPhase = s.slowPhase := rfl
@[simp] theorem modBwx_freeCtr (s : State) (f : BackwaterX → BackwaterX) : (modBwx s f).freeCtr = s.freeCtr := rfl
@[simp] theorem modBwx_braid (s : State) (f : BackwaterX → BackwaterX) : (modBwx s f).braid = s.braid := rfl
@[simp] theorem modBwx_sluice (s : State) (f : BackwaterX → BackwaterX) : (modBwx s f).sluice = s.sluice := rfl
@[simp] theorem modBwx_ferry (s : State) (f : BackwaterX → BackwaterX) : (modBwx s f).ferry = s.ferry := rfl
@[simp] theorem modBwx_locks (s : State) (f : BackwaterX → BackwaterX) : (modBwx s f).locks = s.locks := rfl
@[simp] theorem modBwx_host (s : State) (f : BackwaterX → BackwaterX) : (modBwx s f).host = s.host := rfl
@[simp] theorem modBwx_lanes (s : State) (f : BackwaterX → BackwaterX) : (modBwx s f).lanes = s.lanes := rfl
@[simp] theorem modBwx_delta (s : State) (f : BackwaterX → BackwaterX) : (modBwx s f).delta = s.delta := rfl
@[simp] theorem modBwx_twin (s : State) (f : BackwaterX → BackwaterX) : (modBwx s f).twin = s.twin := rfl
@[simp] theorem modBwx_eng (s : State) (f : BackwaterX → BackwaterX) : (modBwx s f).eng = s.eng := rfl
@[simp] theorem modBwx_dram (s : State) (f : BackwaterX → BackwaterX) : (modBwx s f).dram = s.dram := rfl
@[simp] theorem modBwx_mems (s : State) (f : BackwaterX → BackwaterX) : (modBwx s f).mems = s.mems := rfl
@[simp] theorem modBwx_crypto (s : State) (f : BackwaterX → BackwaterX) : (modBwx s f).crypto = s.crypto := rfl
@[simp] theorem modBwx_fabric (s : State) (f : BackwaterX → BackwaterX) : (modBwx s f).fabric = s.fabric := rfl
@[simp] theorem modBwx_bw (s : State) (f : BackwaterX → BackwaterX) : (modBwx s f).bw = s.bw := rfl
@[simp] theorem modBwx_bwx (s : State) (f : BackwaterX → BackwaterX) : (modBwx s f).bwx = f s.bwx := rfl
@[simp] theorem modBwx_power (s : State) (f : BackwaterX → BackwaterX) : (modBwx s f).power = s.power := rfl
@[simp] theorem modBwx_tbase (s : State) (f : BackwaterX → BackwaterX) : (modBwx s f).tbase = s.tbase := rfl
@[simp] theorem modBwx_dbg (s : State) (f : BackwaterX → BackwaterX) : (modBwx s f).dbg = s.dbg := rfl
@[simp] theorem modBwx_events (s : State) (f : BackwaterX → BackwaterX) : (modBwx s f).events = s.events := rfl
@[simp] theorem modBwx_rill (s : State) (f : BackwaterX → BackwaterX) : (modBwx s f).rill = s.rill := rfl

@[simp] theorem modPower_pending (s : State) (f : Power → Power) : (modPower s f).pending = s.pending := rfl
@[simp] theorem modPower_time (s : State) (f : Power → Power) : (modPower s f).time = s.time := rfl
@[simp] theorem modPower_hwPhase (s : State) (f : Power → Power) : (modPower s f).hwPhase = s.hwPhase := rfl
@[simp] theorem modPower_slowPhase (s : State) (f : Power → Power) : (modPower s f).slowPhase = s.slowPhase := rfl
@[simp] theorem modPower_freeCtr (s : State) (f : Power → Power) : (modPower s f).freeCtr = s.freeCtr := rfl
@[simp] theorem modPower_braid (s : State) (f : Power → Power) : (modPower s f).braid = s.braid := rfl
@[simp] theorem modPower_sluice (s : State) (f : Power → Power) : (modPower s f).sluice = s.sluice := rfl
@[simp] theorem modPower_ferry (s : State) (f : Power → Power) : (modPower s f).ferry = s.ferry := rfl
@[simp] theorem modPower_locks (s : State) (f : Power → Power) : (modPower s f).locks = s.locks := rfl
@[simp] theorem modPower_host (s : State) (f : Power → Power) : (modPower s f).host = s.host := rfl
@[simp] theorem modPower_lanes (s : State) (f : Power → Power) : (modPower s f).lanes = s.lanes := rfl
@[simp] theorem modPower_delta (s : State) (f : Power → Power) : (modPower s f).delta = s.delta := rfl
@[simp] theorem modPower_twin (s : State) (f : Power → Power) : (modPower s f).twin = s.twin := rfl
@[simp] theorem modPower_eng (s : State) (f : Power → Power) : (modPower s f).eng = s.eng := rfl
@[simp] theorem modPower_dram (s : State) (f : Power → Power) : (modPower s f).dram = s.dram := rfl
@[simp] theorem modPower_mems (s : State) (f : Power → Power) : (modPower s f).mems = s.mems := rfl
@[simp] theorem modPower_crypto (s : State) (f : Power → Power) : (modPower s f).crypto = s.crypto := rfl
@[simp] theorem modPower_fabric (s : State) (f : Power → Power) : (modPower s f).fabric = s.fabric := rfl
@[simp] theorem modPower_bw (s : State) (f : Power → Power) : (modPower s f).bw = s.bw := rfl
@[simp] theorem modPower_bwx (s : State) (f : Power → Power) : (modPower s f).bwx = s.bwx := rfl
@[simp] theorem modPower_power (s : State) (f : Power → Power) : (modPower s f).power = f s.power := rfl
@[simp] theorem modPower_tbase (s : State) (f : Power → Power) : (modPower s f).tbase = s.tbase := rfl
@[simp] theorem modPower_dbg (s : State) (f : Power → Power) : (modPower s f).dbg = s.dbg := rfl
@[simp] theorem modPower_events (s : State) (f : Power → Power) : (modPower s f).events = s.events := rfl
@[simp] theorem modPower_rill (s : State) (f : Power → Power) : (modPower s f).rill = s.rill := rfl

@[simp] theorem modTime_pending (s : State) (f : TimeBase → TimeBase) : (modTime s f).pending = s.pending := rfl
@[simp] theorem modTime_time (s : State) (f : TimeBase → TimeBase) : (modTime s f).time = s.time := rfl
@[simp] theorem modTime_hwPhase (s : State) (f : TimeBase → TimeBase) : (modTime s f).hwPhase = s.hwPhase := rfl
@[simp] theorem modTime_slowPhase (s : State) (f : TimeBase → TimeBase) : (modTime s f).slowPhase = s.slowPhase := rfl
@[simp] theorem modTime_freeCtr (s : State) (f : TimeBase → TimeBase) : (modTime s f).freeCtr = s.freeCtr := rfl
@[simp] theorem modTime_braid (s : State) (f : TimeBase → TimeBase) : (modTime s f).braid = s.braid := rfl
@[simp] theorem modTime_sluice (s : State) (f : TimeBase → TimeBase) : (modTime s f).sluice = s.sluice := rfl
@[simp] theorem modTime_ferry (s : State) (f : TimeBase → TimeBase) : (modTime s f).ferry = s.ferry := rfl
@[simp] theorem modTime_locks (s : State) (f : TimeBase → TimeBase) : (modTime s f).locks = s.locks := rfl
@[simp] theorem modTime_host (s : State) (f : TimeBase → TimeBase) : (modTime s f).host = s.host := rfl
@[simp] theorem modTime_lanes (s : State) (f : TimeBase → TimeBase) : (modTime s f).lanes = s.lanes := rfl
@[simp] theorem modTime_delta (s : State) (f : TimeBase → TimeBase) : (modTime s f).delta = s.delta := rfl
@[simp] theorem modTime_twin (s : State) (f : TimeBase → TimeBase) : (modTime s f).twin = s.twin := rfl
@[simp] theorem modTime_eng (s : State) (f : TimeBase → TimeBase) : (modTime s f).eng = s.eng := rfl
@[simp] theorem modTime_dram (s : State) (f : TimeBase → TimeBase) : (modTime s f).dram = s.dram := rfl
@[simp] theorem modTime_mems (s : State) (f : TimeBase → TimeBase) : (modTime s f).mems = s.mems := rfl
@[simp] theorem modTime_crypto (s : State) (f : TimeBase → TimeBase) : (modTime s f).crypto = s.crypto := rfl
@[simp] theorem modTime_fabric (s : State) (f : TimeBase → TimeBase) : (modTime s f).fabric = s.fabric := rfl
@[simp] theorem modTime_bw (s : State) (f : TimeBase → TimeBase) : (modTime s f).bw = s.bw := rfl
@[simp] theorem modTime_bwx (s : State) (f : TimeBase → TimeBase) : (modTime s f).bwx = s.bwx := rfl
@[simp] theorem modTime_power (s : State) (f : TimeBase → TimeBase) : (modTime s f).power = s.power := rfl
@[simp] theorem modTime_tbase (s : State) (f : TimeBase → TimeBase) : (modTime s f).tbase = f s.tbase := rfl
@[simp] theorem modTime_dbg (s : State) (f : TimeBase → TimeBase) : (modTime s f).dbg = s.dbg := rfl
@[simp] theorem modTime_events (s : State) (f : TimeBase → TimeBase) : (modTime s f).events = s.events := rfl
@[simp] theorem modTime_rill (s : State) (f : TimeBase → TimeBase) : (modTime s f).rill = s.rill := rfl

@[simp] theorem modDebug_pending (s : State) (f : Debug → Debug) : (modDebug s f).pending = s.pending := rfl
@[simp] theorem modDebug_time (s : State) (f : Debug → Debug) : (modDebug s f).time = s.time := rfl
@[simp] theorem modDebug_hwPhase (s : State) (f : Debug → Debug) : (modDebug s f).hwPhase = s.hwPhase := rfl
@[simp] theorem modDebug_slowPhase (s : State) (f : Debug → Debug) : (modDebug s f).slowPhase = s.slowPhase := rfl
@[simp] theorem modDebug_freeCtr (s : State) (f : Debug → Debug) : (modDebug s f).freeCtr = s.freeCtr := rfl
@[simp] theorem modDebug_braid (s : State) (f : Debug → Debug) : (modDebug s f).braid = s.braid := rfl
@[simp] theorem modDebug_sluice (s : State) (f : Debug → Debug) : (modDebug s f).sluice = s.sluice := rfl
@[simp] theorem modDebug_ferry (s : State) (f : Debug → Debug) : (modDebug s f).ferry = s.ferry := rfl
@[simp] theorem modDebug_locks (s : State) (f : Debug → Debug) : (modDebug s f).locks = s.locks := rfl
@[simp] theorem modDebug_host (s : State) (f : Debug → Debug) : (modDebug s f).host = s.host := rfl
@[simp] theorem modDebug_lanes (s : State) (f : Debug → Debug) : (modDebug s f).lanes = s.lanes := rfl
@[simp] theorem modDebug_delta (s : State) (f : Debug → Debug) : (modDebug s f).delta = s.delta := rfl
@[simp] theorem modDebug_twin (s : State) (f : Debug → Debug) : (modDebug s f).twin = s.twin := rfl
@[simp] theorem modDebug_eng (s : State) (f : Debug → Debug) : (modDebug s f).eng = s.eng := rfl
@[simp] theorem modDebug_dram (s : State) (f : Debug → Debug) : (modDebug s f).dram = s.dram := rfl
@[simp] theorem modDebug_mems (s : State) (f : Debug → Debug) : (modDebug s f).mems = s.mems := rfl
@[simp] theorem modDebug_crypto (s : State) (f : Debug → Debug) : (modDebug s f).crypto = s.crypto := rfl
@[simp] theorem modDebug_fabric (s : State) (f : Debug → Debug) : (modDebug s f).fabric = s.fabric := rfl
@[simp] theorem modDebug_bw (s : State) (f : Debug → Debug) : (modDebug s f).bw = s.bw := rfl
@[simp] theorem modDebug_bwx (s : State) (f : Debug → Debug) : (modDebug s f).bwx = s.bwx := rfl
@[simp] theorem modDebug_power (s : State) (f : Debug → Debug) : (modDebug s f).power = s.power := rfl
@[simp] theorem modDebug_tbase (s : State) (f : Debug → Debug) : (modDebug s f).tbase = s.tbase := rfl
@[simp] theorem modDebug_dbg (s : State) (f : Debug → Debug) : (modDebug s f).dbg = f s.dbg := rfl
@[simp] theorem modDebug_events (s : State) (f : Debug → Debug) : (modDebug s f).events = s.events := rfl
@[simp] theorem modDebug_rill (s : State) (f : Debug → Debug) : (modDebug s f).rill = s.rill := rfl

@[simp] theorem modEvents_pending (s : State) (f : Events → Events) : (modEvents s f).pending = s.pending := rfl
@[simp] theorem modEvents_time (s : State) (f : Events → Events) : (modEvents s f).time = s.time := rfl
@[simp] theorem modEvents_hwPhase (s : State) (f : Events → Events) : (modEvents s f).hwPhase = s.hwPhase := rfl
@[simp] theorem modEvents_slowPhase (s : State) (f : Events → Events) : (modEvents s f).slowPhase = s.slowPhase := rfl
@[simp] theorem modEvents_freeCtr (s : State) (f : Events → Events) : (modEvents s f).freeCtr = s.freeCtr := rfl
@[simp] theorem modEvents_braid (s : State) (f : Events → Events) : (modEvents s f).braid = s.braid := rfl
@[simp] theorem modEvents_sluice (s : State) (f : Events → Events) : (modEvents s f).sluice = s.sluice := rfl
@[simp] theorem modEvents_ferry (s : State) (f : Events → Events) : (modEvents s f).ferry = s.ferry := rfl
@[simp] theorem modEvents_locks (s : State) (f : Events → Events) : (modEvents s f).locks = s.locks := rfl
@[simp] theorem modEvents_host (s : State) (f : Events → Events) : (modEvents s f).host = s.host := rfl
@[simp] theorem modEvents_lanes (s : State) (f : Events → Events) : (modEvents s f).lanes = s.lanes := rfl
@[simp] theorem modEvents_delta (s : State) (f : Events → Events) : (modEvents s f).delta = s.delta := rfl
@[simp] theorem modEvents_twin (s : State) (f : Events → Events) : (modEvents s f).twin = s.twin := rfl
@[simp] theorem modEvents_eng (s : State) (f : Events → Events) : (modEvents s f).eng = s.eng := rfl
@[simp] theorem modEvents_dram (s : State) (f : Events → Events) : (modEvents s f).dram = s.dram := rfl
@[simp] theorem modEvents_mems (s : State) (f : Events → Events) : (modEvents s f).mems = s.mems := rfl
@[simp] theorem modEvents_crypto (s : State) (f : Events → Events) : (modEvents s f).crypto = s.crypto := rfl
@[simp] theorem modEvents_fabric (s : State) (f : Events → Events) : (modEvents s f).fabric = s.fabric := rfl
@[simp] theorem modEvents_bw (s : State) (f : Events → Events) : (modEvents s f).bw = s.bw := rfl
@[simp] theorem modEvents_bwx (s : State) (f : Events → Events) : (modEvents s f).bwx = s.bwx := rfl
@[simp] theorem modEvents_power (s : State) (f : Events → Events) : (modEvents s f).power = s.power := rfl
@[simp] theorem modEvents_tbase (s : State) (f : Events → Events) : (modEvents s f).tbase = s.tbase := rfl
@[simp] theorem modEvents_dbg (s : State) (f : Events → Events) : (modEvents s f).dbg = s.dbg := rfl
@[simp] theorem modEvents_events (s : State) (f : Events → Events) : (modEvents s f).events = f s.events := rfl
@[simp] theorem modEvents_rill (s : State) (f : Events → Events) : (modEvents s f).rill = s.rill := rfl

@[simp] theorem modBoot_pending (s : State) (f : Boot → Boot) : (modBoot s f).pending = s.pending := rfl
@[simp] theorem modBoot_time (s : State) (f : Boot → Boot) : (modBoot s f).time = s.time := rfl
@[simp] theorem modBoot_hwPhase (s : State) (f : Boot → Boot) : (modBoot s f).hwPhase = s.hwPhase := rfl
@[simp] theorem modBoot_slowPhase (s : State) (f : Boot → Boot) : (modBoot s f).slowPhase = s.slowPhase := rfl
@[simp] theorem modBoot_freeCtr (s : State) (f : Boot → Boot) : (modBoot s f).freeCtr = s.freeCtr := rfl
@[simp] theorem modBoot_braid (s : State) (f : Boot → Boot) : (modBoot s f).braid = s.braid := rfl
@[simp] theorem modBoot_sluice (s : State) (f : Boot → Boot) : (modBoot s f).sluice = s.sluice := rfl
@[simp] theorem modBoot_ferry (s : State) (f : Boot → Boot) : (modBoot s f).ferry = s.ferry := rfl
@[simp] theorem modBoot_locks (s : State) (f : Boot → Boot) : (modBoot s f).locks = s.locks := rfl
@[simp] theorem modBoot_host (s : State) (f : Boot → Boot) : (modBoot s f).host = s.host := rfl
@[simp] theorem modBoot_lanes (s : State) (f : Boot → Boot) : (modBoot s f).lanes = s.lanes := rfl
@[simp] theorem modBoot_delta (s : State) (f : Boot → Boot) : (modBoot s f).delta = s.delta := rfl
@[simp] theorem modBoot_twin (s : State) (f : Boot → Boot) : (modBoot s f).twin = s.twin := rfl
@[simp] theorem modBoot_eng (s : State) (f : Boot → Boot) : (modBoot s f).eng = s.eng := rfl
@[simp] theorem modBoot_dram (s : State) (f : Boot → Boot) : (modBoot s f).dram = s.dram := rfl
@[simp] theorem modBoot_mems (s : State) (f : Boot → Boot) : (modBoot s f).mems = s.mems := rfl
@[simp] theorem modBoot_crypto (s : State) (f : Boot → Boot) : (modBoot s f).crypto = s.crypto := rfl
@[simp] theorem modBoot_fabric (s : State) (f : Boot → Boot) : (modBoot s f).fabric = s.fabric := rfl
@[simp] theorem modBoot_bw (s : State) (f : Boot → Boot) : (modBoot s f).bw = s.bw := rfl
@[simp] theorem modBoot_bwx (s : State) (f : Boot → Boot) : (modBoot s f).bwx = s.bwx := rfl
@[simp] theorem modBoot_power (s : State) (f : Boot → Boot) : (modBoot s f).power = s.power := rfl
@[simp] theorem modBoot_tbase (s : State) (f : Boot → Boot) : (modBoot s f).tbase = s.tbase := rfl
@[simp] theorem modBoot_events (s : State) (f : Boot → Boot) : (modBoot s f).events = s.events := rfl
@[simp] theorem modBoot_rill (s : State) (f : Boot → Boot) : (modBoot s f).rill = s.rill := rfl
@[simp] theorem modBoot_debug_sty (s : State) (f : Boot → Boot) : (modBoot s f).dbg.sty = s.dbg.sty := rfl
@[simp] theorem modBoot_debug_proof (s : State) (f : Boot → Boot) : (modBoot s f).dbg.proof = s.dbg.proof := rfl
@[simp] theorem modBoot_debug_fuses (s : State) (f : Boot → Boot) : (modBoot s f).dbg.fuses = s.dbg.fuses := rfl
@[simp] theorem modBoot_debug_boot (s : State) (f : Boot → Boot) : (modBoot s f).dbg.boot = f s.dbg.boot := rfl
@[simp] theorem modBoot_debug_tamperLow (s : State) (f : Boot → Boot) : (modBoot s f).dbg.tamperLow = s.dbg.tamperLow := rfl
@[simp] theorem modBoot_debug_inReset (s : State) (f : Boot → Boot) : (modBoot s f).dbg.inReset = s.dbg.inReset := rfl

@[simp] theorem modSty_pending (s : State) (f : Stylus → Stylus) : (modSty s f).pending = s.pending := rfl
@[simp] theorem modSty_time (s : State) (f : Stylus → Stylus) : (modSty s f).time = s.time := rfl
@[simp] theorem modSty_hwPhase (s : State) (f : Stylus → Stylus) : (modSty s f).hwPhase = s.hwPhase := rfl
@[simp] theorem modSty_slowPhase (s : State) (f : Stylus → Stylus) : (modSty s f).slowPhase = s.slowPhase := rfl
@[simp] theorem modSty_freeCtr (s : State) (f : Stylus → Stylus) : (modSty s f).freeCtr = s.freeCtr := rfl
@[simp] theorem modSty_braid (s : State) (f : Stylus → Stylus) : (modSty s f).braid = s.braid := rfl
@[simp] theorem modSty_sluice (s : State) (f : Stylus → Stylus) : (modSty s f).sluice = s.sluice := rfl
@[simp] theorem modSty_ferry (s : State) (f : Stylus → Stylus) : (modSty s f).ferry = s.ferry := rfl
@[simp] theorem modSty_locks (s : State) (f : Stylus → Stylus) : (modSty s f).locks = s.locks := rfl
@[simp] theorem modSty_host (s : State) (f : Stylus → Stylus) : (modSty s f).host = s.host := rfl
@[simp] theorem modSty_lanes (s : State) (f : Stylus → Stylus) : (modSty s f).lanes = s.lanes := rfl
@[simp] theorem modSty_delta (s : State) (f : Stylus → Stylus) : (modSty s f).delta = s.delta := rfl
@[simp] theorem modSty_twin (s : State) (f : Stylus → Stylus) : (modSty s f).twin = s.twin := rfl
@[simp] theorem modSty_eng (s : State) (f : Stylus → Stylus) : (modSty s f).eng = s.eng := rfl
@[simp] theorem modSty_dram (s : State) (f : Stylus → Stylus) : (modSty s f).dram = s.dram := rfl
@[simp] theorem modSty_mems (s : State) (f : Stylus → Stylus) : (modSty s f).mems = s.mems := rfl
@[simp] theorem modSty_crypto (s : State) (f : Stylus → Stylus) : (modSty s f).crypto = s.crypto := rfl
@[simp] theorem modSty_fabric (s : State) (f : Stylus → Stylus) : (modSty s f).fabric = s.fabric := rfl
@[simp] theorem modSty_bw (s : State) (f : Stylus → Stylus) : (modSty s f).bw = s.bw := rfl
@[simp] theorem modSty_bwx (s : State) (f : Stylus → Stylus) : (modSty s f).bwx = s.bwx := rfl
@[simp] theorem modSty_power (s : State) (f : Stylus → Stylus) : (modSty s f).power = s.power := rfl
@[simp] theorem modSty_tbase (s : State) (f : Stylus → Stylus) : (modSty s f).tbase = s.tbase := rfl
@[simp] theorem modSty_events (s : State) (f : Stylus → Stylus) : (modSty s f).events = s.events := rfl
@[simp] theorem modSty_rill (s : State) (f : Stylus → Stylus) : (modSty s f).rill = s.rill := rfl
@[simp] theorem modSty_debug_sty (s : State) (f : Stylus → Stylus) : (modSty s f).dbg.sty = f s.dbg.sty := rfl
@[simp] theorem modSty_debug_proof (s : State) (f : Stylus → Stylus) : (modSty s f).dbg.proof = s.dbg.proof := rfl
@[simp] theorem modSty_debug_fuses (s : State) (f : Stylus → Stylus) : (modSty s f).dbg.fuses = s.dbg.fuses := rfl
@[simp] theorem modSty_debug_boot (s : State) (f : Stylus → Stylus) : (modSty s f).dbg.boot = s.dbg.boot := rfl
@[simp] theorem modSty_debug_tamperLow (s : State) (f : Stylus → Stylus) : (modSty s f).dbg.tamperLow = s.dbg.tamperLow := rfl
@[simp] theorem modSty_debug_inReset (s : State) (f : Stylus → Stylus) : (modSty s f).dbg.inReset = s.dbg.inReset := rfl

end Sys2Proof.Machine
end

