-- ==== Sys2Proof/Laws/Fuses.lean ====
section
/-! SUPPORT. The functions that change the fuses or start their programming, and the resets: memory stays in its canonical form, fuses only move on (R391, R582). -/

namespace Sys2Proof.Machine
open Sys2Proof

theorem FusesOnward.refl (a : Fuses) : FusesOnward a a := ⟨Or.inl rfl, Nat.le_refl _, rfl⟩

/-- What leaves the fuses alone, and their programming alone or stopped, keeps what every step keeps of them. -/
theorem onward_of_fuses {s t : State} (h : fuseView t = fuseView s ∨ fuseView t = (s.dbg.fuses, none)) (hs : FuseJobOk s) : FuseJobOk t ∧ FusesOnward s.dbg.fuses t.dbg.fuses := by
  have h1 : t.dbg.fuses = s.dbg.fuses := by
    rcases h with h | h <;> simp only [fuseView, Prod.mk.injEq] at h <;> exact h.1
  refine ⟨fun n j hj => ?_, by rw [h1]; exact FusesOnward.refl _⟩
  rcases h with h | h <;> simp only [fuseView, Prod.mk.injEq] at h
  · rw [h1]
    exact hs n j (by rw [← h.2]; exact hj)
  · rw [h.2] at hj
    cases hj

theorem blankReset_fuses (s : State) : fuseView (blankReset s) = (s.dbg.fuses, none) := rfl
theorem blankReset_memOk (s : State) : MemOk (blankReset s) := ⟨List.Pairwise.nil, fun _ h => by cases h⟩

/-- After a reset of the device the fuses are as they were and none is being programmed. -/
theorem deviceReset_fuses (k : Nat) (s : State) : fuseView (deviceReset k s) = (s.dbg.fuses, none) := by
  unfold deviceReset
  simp
  rfl
theorem deviceReset_memOk (k : Nat) (s : State) : MemOk (deviceReset k s) := by
  unfold deviceReset
  simp
  exact blankReset_memOk s
theorem powerOnReset_fuses (s : State) : fuseView (powerOnReset s) = (s.dbg.fuses, none) := rfl
theorem powerOnReset_memOk (s : State) : MemOk (powerOnReset s) := blankReset_memOk s
theorem resetDevice_fuses (s : State) : fuseView (resetDevice s) = fuseView s ∨ fuseView (resetDevice s) = (s.dbg.fuses, none) := by
  unfold resetDevice
  repeat' split
  · exact Or.inl rfl
  · exact Or.inl (by simp)
  · exact Or.inr (deviceReset_fuses _ _)
theorem resetDevice_memOk (s : State) (h : MemOk s) : MemOk (resetDevice s) := by
  unfold resetDevice
  repeat' split
  · exact h
  · simpa using h
  · exact deviceReset_memOk _ _

/-- What a commit of the SVN counter does: the counter takes the larger value. -/
theorem commitSvn_cases (s : State) : commitSvn s = s ∨ ∃ v, commitSvn s = modDebug s (fun d => { d with fuses := { d.fuses with svn := max d.fuses.svn v }, boot := { d.boot with nextSvn := none } }) := by
  unfold commitSvn
  split
  · exact Or.inl rfl
  · exact Or.inr ⟨_, rfl⟩
@[simp] theorem commitSvn_memOk (s : State) : MemOk (commitSvn s) ↔ MemOk s := by
  rcases commitSvn_cases s with h | ⟨v, h⟩ <;> rw [h]
  exact Iff.rfl

/-- The SVN counter may have risen; nothing else of the fuses and their programming has changed. -/
def SvnRose (s t : State) : Prop := ∃ v, t.dbg.fuses = { s.dbg.fuses with svn := max s.dbg.fuses.svn v } ∧ t.dbg.boot.fuseJob = s.dbg.boot.fuseJob

theorem svnRose_of_fuses {s t : State} (h : fuseView t = fuseView s) : SvnRose s t := by
  simp only [fuseView, Prod.mk.injEq] at h
  exact ⟨0, by rw [h.1]; simp, h.2⟩
theorem SvnRose.fuses {s t u : State} (h : SvnRose s t) (e : fuseView u = fuseView t) : SvnRose s u := by
  simp only [fuseView, Prod.mk.injEq] at e
  obtain ⟨v, h1, h2⟩ := h
  exact ⟨v, by rw [e.1, h1], by rw [e.2, h2]⟩
theorem commitSvn_rose {s t : State} (h : fuseView t = fuseView s) : SvnRose s (commitSvn t) := by
  rcases commitSvn_cases t with e | ⟨v, e⟩ <;> rw [e]
  · exact svnRose_of_fuses h
  · simp only [fuseView, Prod.mk.injEq] at h
    exact ⟨v, by rw [← h.1]; rfl, by rw [← h.2]; rfl⟩
theorem onward_of_rose {s t : State} (h : SvnRose s t) (hs : FuseJobOk s) : FuseJobOk t ∧ FusesOnward s.dbg.fuses t.dbg.fuses := by
  obtain ⟨v, h1, h2⟩ := h
  refine ⟨fun n j hj => ?_, ?_⟩
  · have := hs n j (by rw [← h2]; exact hj)
    rw [h1]
    exact this
  · rw [h1]
    exact ⟨Or.inl rfl, Nat.le_max_left _ _, rfl⟩

theorem firmwareSwitch_rose (s : State) : SvnRose s (firmwareSwitch s) := by
  unfold firmwareSwitch
  split
  · dsimp only
    split
    · exact svnRose_of_fuses ((raiseEv_fuses ..).trans ((modBoot_fuses _ _ rfl).trans (modFerry_fuses ..)))
    · exact commitSvn_rose ((raiseEv_fuses ..).trans ((modBoot_fuses _ _ rfl).trans (modFerry_fuses ..)))
  · exact svnRose_of_fuses rfl
theorem firmwareSwitch_memOk (s : State) (h : MemOk s) : MemOk (firmwareSwitch s) := by
  unfold firmwareSwitch
  dsimp only
  repeat' split
  all_goals simpa using h
theorem directoryRewriteDone_rose (s : State) : SvnRose s (directoryRewriteDone s) := by
  unfold directoryRewriteDone
  split
  · generalize (directory s).getD [] = d
    dsimp only
    generalize he : writeDirectory (d.take 8 ++ (d.drop 12).take 4 ++ (d.drop 8).take 4 ++ d.drop 16) s = t
    have h : fuseView t = fuseView s := by rw [← he, writeDirectory_fuses]
    exact SvnRose.fuses (commitSvn_rose ((modBoot_fuses t _ rfl).trans h)) (nextReload_fuses _)
  · exact svnRose_of_fuses rfl
theorem directoryRewriteDone_memOk (s : State) (h : MemOk s) : MemOk (directoryRewriteDone s) := by
  unfold directoryRewriteDone
  dsimp only
  split
  · simpa using h
  · exact h

/-- What SYS_LIFECYCLE does to the fuses' programming: it starts the step after the present state, or nothing. -/
theorem sysLifecycleBody_fuses (v : Serving) (s : State) :
    fuseView (sysLifecycleBody v s).2 = fuseView s ∨ ∃ j, pay v 0 1 = lifeCode s.dbg.fuses.life + 1 ∧ pay v 0 1 ≤ 3 ∧ fuseView (sysLifecycleBody v s).2 = (s.dbg.fuses, some (pay v 0 1, j)) := by
  unfold sysLifecycleBody
  dsimp only
  split
  · exact Or.inl rfl
  · rename_i h
    simp only [not_or, not_lt, ne_eq, not_not] at h
    split
    · exact Or.inl rfl
    · split
      · exact Or.inl rfl
      · exact Or.inr ⟨_, h.2.2.1, h.2.1, rfl⟩
@[simp] theorem sysLifecycleBody_memOk (v : Serving) (s : State) : MemOk (sysLifecycleBody v s).2 ↔ MemOk s := by
  unfold sysLifecycleBody
  dsimp only
  repeat' split
  all_goals exact Iff.rfl
theorem sysLifecycle_memOk (s : State) (h : MemOk s) : MemOk (sysLifecycle s) := by
  unfold sysLifecycle
  exact ferryServe_keeps _ _ _ _ _ (fun v t ht => (sysLifecycleBody_memOk v t).mpr ht) h
theorem sysLifecycle_onward (s : State) (hs : FuseJobOk s) : FuseJobOk (sysLifecycle s) ∧ FusesOnward s.dbg.fuses (sysLifecycle s).dbg.fuses := by
  unfold sysLifecycle ferryServe
  dsimp only
  split
  · exact onward_of_fuses (Or.inl rfl) hs
  rename_i v _
  split
  swap
  · exact onward_of_fuses (Or.inl rfl) hs
  split
  · exact onward_of_fuses (Or.inl (by simp)) hs
  split
  · exact onward_of_fuses (Or.inl (by simp)) hs
  rcases sysLifecycleBody_fuses v s with h | ⟨j, h1, h2, h⟩
  · exact onward_of_fuses (Or.inl (by simpa using h)) hs
  · have h' : fuseView (setReply (sysLifecycleBody v s).1 (sysLifecycleBody v s).2) = (s.dbg.fuses, some (pay v 0 1, j)) := by simpa using h
    simp only [fuseView, Prod.mk.injEq] at h'
    refine ⟨fun n i hn => ?_, by rw [h'.1]; exact FusesOnward.refl _⟩
    rw [h'.2] at hn
    cases hn
    rw [h'.1]
    exact ⟨h1, h2⟩

theorem fuseProgrammingDone_memOk (b : Bool) (s : State) (h : MemOk s) : MemOk (fuseProgrammingDone b s) := by
  unfold fuseProgrammingDone
  split
  · exact h
  · dsimp only
    split
    · refine (endJob_memOk ..).mpr ((clearProof_memOk ..).mpr ((trip_memOk ..).mpr ?_))
      exact (detachDebugger_memOk (modBoot s (fun b => { b with fuseJob := none }))).mpr h
    · exact (endJob_memOk ..).mpr h
theorem lifeCode_lifeOf (n : Nat) (h : n ≤ 3) : lifeCode (lifeOf n) = n := by
  match n, h with
  | 0, _ => rfl
  | 1, _ => rfl
  | 2, _ => rfl
  | 3, _ => rfl

/-- What FUSE_PROGRAMMING_DONE does to the fuses: a verified step makes the life-cycle state the one that was being programmed. -/
theorem fuseProgrammingDone_fuses (b : Bool) (s : State) :
    fuseView (fuseProgrammingDone b s) = fuseView s ∨ fuseView (fuseProgrammingDone b s) = (s.dbg.fuses, none) ∨
    ∃ n j, s.dbg.boot.fuseJob = some (n, j) ∧ fuseView (fuseProgrammingDone b s) = ({ s.dbg.fuses with life := lifeOf n }, none) := by
  unfold fuseProgrammingDone
  split
  · exact Or.inl rfl
  · rename_i n j hj
    dsimp only
    split
    · refine Or.inr (Or.inr ⟨n, j, hj, ?_⟩)
      simp only [endJob_fuses, clearProof_fuses, trip_fuses]
      have h : fuseView (detachDebugger (modBoot s (fun b => { b with fuseJob := none }))) = (s.dbg.fuses, none) := by
        rw [detachDebugger_fuses]
        rfl
      simp only [fuseView, Prod.mk.injEq] at h ⊢
      simp only [modDebug_dbg, h.1, h.2, and_self]
    · exact Or.inr (Or.inl (by rw [endJob_fuses]; rfl))
theorem fuseProgrammingDone_onward (b : Bool) (s : State) (hs : FuseJobOk s) : FuseJobOk (fuseProgrammingDone b s) ∧ FusesOnward s.dbg.fuses (fuseProgrammingDone b s).dbg.fuses := by
  rcases fuseProgrammingDone_fuses b s with h | h | ⟨n, j, hj, h⟩
  · exact onward_of_fuses (Or.inl h) hs
  · exact onward_of_fuses (Or.inr h) hs
  · obtain ⟨h1, h2⟩ := hs n j hj
    simp only [fuseView, Prod.mk.injEq] at h
    refine ⟨fun m i hm => ?_, ?_⟩
    · rw [h.2] at hm
      cases hm
    · rw [h.1]
      exact ⟨Or.inr (by simp only [lifeCode_lifeOf n h2]; exact h1), Nat.le_refl _, rfl⟩

/-- The fuses are as they were; their programming is as it was, or has stopped. -/
def FusesKept (s t : State) : Prop := fuseView t = fuseView s ∨ fuseView t = (s.dbg.fuses, none)

theorem FusesKept.refl (s : State) : FusesKept s s := .inl rfl
theorem fusesKept_of_eq {s t : State} (h : fuseView t = fuseView s) : FusesKept s t := .inl h
theorem FusesKept.trans {s t u : State} (h : FusesKept s t) (k : FusesKept t u) : FusesKept s u := by
  have e : t.dbg.fuses = s.dbg.fuses := by
    rcases h with h | h <;> simp only [fuseView, Prod.mk.injEq] at h <;> exact h.1
  rcases k with k | k
  · rcases h with h | h
    · exact .inl (k.trans h)
    · exact .inr (k.trans h)
  · exact .inr (by rw [k, e])
theorem forAll_fusesKept {α : Type} (l : List α) (f : State → α → State) (s : State) (h : ∀ t x, FusesKept t (f t x)) : FusesKept s (forAll l f s) := by
  unfold forAll
  induction l generalizing s with
  | nil => exact .refl s
  | cons x l ih => exact (h s x).trans (ih _)

/-- A stopped job of boot stops the fuses' programming if it is that job. -/
theorem stopBootJob_fusesKept (id : Nat) (s : State) : FusesKept s (stopBootJob id s) := by
  have h : fuseView (stopBootJob id s) = (s.dbg.fuses, s.dbg.boot.fuseJob.filter (fun x => x.2 != id)) := rfl
  rw [FusesKept, h, fuseView]
  cases s.dbg.boot.fuseJob with
  | none => exact .inl rfl
  | some x =>
    by_cases e : (x.2 != id) = true
    · exact .inl (by simp [Option.filter, e])
    · exact .inr (by simp [Option.filter, e])
@[simp] theorem stopBootJob_memOk (id : Nat) (s : State) : MemOk (stopBootJob id s) ↔ MemOk s := Iff.rfl
theorem stopJob_fusesKept (id : Nat) (s : State) : FusesKept s (stopJob id s) := by
  have h : FusesKept s (stopBootJob id (stopTwinJob id (stopPowerJob id (stopLaneJob id (stopCryptoJob id (stopDramJob id (stopLoad id s))))))) :=
    (fusesKept_of_eq (by simp)).trans (stopBootJob_fusesKept id _)
  unfold stopJob
  generalize stopBootJob id (stopTwinJob id (stopPowerJob id (stopLaneJob id (stopCryptoJob id (stopDramJob id (stopLoad id s)))))) = t at h
  dsimp only
  split
  · split
    · exact h.trans (fusesKept_of_eq (by simp))
    · exact h
  · exact h
theorem stopJob_memOk (id : Nat) (s : State) (h : MemOk s) : MemOk (stopJob id s) := by
  have h1 : MemOk (stopBootJob id (stopTwinJob id (stopPowerJob id (stopLaneJob id (stopCryptoJob id (stopDramJob id (stopLoad id s))))))) := by
    rw [stopBootJob_memOk, stopTwinJob_memOk, stopPowerJob_memOk, stopLaneJob_memOk, stopCryptoJob_memOk]
    exact stopDramJob_memOk _ _ ((stopLoad_memOk ..).mpr h)
  unfold stopJob
  generalize stopBootJob id (stopTwinJob id (stopPowerJob id (stopLaneJob id (stopCryptoJob id (stopDramJob id (stopLoad id s)))))) = t at h1
  dsimp only
  split
  · split
    · simpa using h1
    · exact h1
  · exact h1
theorem hwReady_fusesKept (lost : List Nat) (s : State) : FusesKept s (hwReady lost s) := by
  unfold hwReady
  dsimp only
  split
  · refine FusesKept.trans ?_ (fusesKept_of_eq (reportJobs_fuses _))
    refine FusesKept.trans (fusesKept_of_eq ((raiseEv_fuses ..).trans ((modBoot_fuses _ _ rfl).trans (modFerry_fuses ..)))) (forAll_fusesKept _ _ _ (fun t x => ?_))
    exact (fusesKept_of_eq (endJob_fuses ..)).trans (stopJob_fusesKept x _)
  · exact .refl s
theorem hwReady_memOk (lost : List Nat) (s : State) (h : MemOk s) : MemOk (hwReady lost s) := by
  unfold hwReady
  dsimp only
  split
  · rw [reportJobs_memOk]
    exact forAll_memOk _ _ _ (fun t x ht => stopJob_memOk _ _ ((endJob_memOk ..).mpr ht)) (by simpa using h)
  · exact h
theorem hwReady_onward (lost : List Nat) (s : State) (hs : FuseJobOk s) : FuseJobOk (hwReady lost s) ∧ FusesOnward s.dbg.fuses (hwReady lost s).dbg.fuses :=
  onward_of_fuses (hwReady_fusesKept lost s) hs

end Sys2Proof.Machine
end

