-- ==== Sys2Proof/Laws/Tables.lean ====
section
/-! SUPPORT. Tables: what a lookup finds after an update, and the accessors of State built on them. -/

namespace Sys2Proof.Machine
open Sys2Proof

@[simp] theorem tget_tset_same {α : Type} (t : Tbl α) (d v : α) (k : Nat) : tget (tset t k v) d k = v := by
  induction t with
  | nil => simp [tset, tget]
  | cons p r ih =>
    obtain ⟨j, w⟩ := p
    unfold tset
    split
    · simp [tget]
    · split
      · simp [tget]
      · simp [tget, *]

theorem tget_tset_other {α : Type} (t : Tbl α) (d v : α) (k j : Nat) (h : j ≠ k) : tget (tset t k v) d j = tget t d j := by
  induction t with
  | nil => simp [tset, tget, Ne.symm h]
  | cons p r ih =>
    obtain ⟨i, w⟩ := p
    unfold tset
    split
    · subst_vars
      simp [tget, Ne.symm h]
    · split
      · simp [tget, Ne.symm h]
      · simp [tget, ih]

@[simp] theorem tget_tmod_same {α : Type} (t : Tbl α) (d : α) (k : Nat) (f : α → α) : tget (tmod t d k f) d k = f (tget t d k) := by simp [tmod]

theorem tget_tmod_other {α : Type} (t : Tbl α) (d : α) (k j : Nat) (f : α → α) (h : j ≠ k) : tget (tmod t d k f) d j = tget t d j := by
  simp [tmod, tget_tset_other _ _ _ _ _ h]

@[simp] theorem niOf_modNi (s : State) (e : Nat) (f : Ni → Ni) : niOf (modNi e f s) e = f (niOf s e) := by simp [niOf, modNi, modBraid]
theorem niOf_modNi_other (s : State) (e g : Nat) (f : Ni → Ni) (h : g ≠ e) : niOf (modNi e f s) g = niOf s g := by simp [niOf, modNi, modBraid, tget_tmod_other _ _ _ _ _ h]
@[simp] theorem routerOf_modRouter (s : State) (r : Nat) (f : Router → Router) : routerOf (modRouter r f s) r = f (routerOf s r) := by simp [routerOf, modRouter, modBraid]
theorem routerOf_modRouter_other (s : State) (r q : Nat) (f : Router → Router) (h : q ≠ r) : routerOf (modRouter r f s) q = routerOf s q := by simp [routerOf, modRouter, modBraid, tget_tmod_other _ _ _ _ _ h]
@[simp] theorem chanOf_modChan (s : State) (c : Nat) (f : Channel → Channel) : chanOf (modChan c f s) c = f (chanOf s c) := by simp [chanOf, modChan, modFerry]
theorem chanOf_modChan_other (s : State) (c d : Nat) (f : Channel → Channel) (h : d ≠ c) : chanOf (modChan c f s) d = chanOf s d := by simp [chanOf, modChan, modFerry, tget_tmod_other _ _ _ _ _ h]
@[simp] theorem laneOf_modLane (s : State) (l : Nat) (f : Lane → Lane) : laneOf (modLane l f s) l = f (laneOf s l) := by simp [laneOf, modLane, modLanes]
theorem laneOf_modLane_other (s : State) (l m : Nat) (f : Lane → Lane) (h : m ≠ l) : laneOf (modLane l f s) m = laneOf s m := by simp [laneOf, modLane, modLanes, tget_tmod_other _ _ _ _ _ h]
@[simp] theorem pathOf_modPath (s : State) (l : Nat) (f : LanePath → LanePath) : pathOf (modPath l f s) l = f (pathOf s l) := by simp [pathOf, modPath, modLanes]
@[simp] theorem laneOf_modPath (s : State) (l m : Nat) (f : LanePath → LanePath) : laneOf (modPath l f s) m = laneOf s m := rfl
@[simp] theorem pathOf_modLane (s : State) (l m : Nat) (f : Lane → Lane) : pathOf (modLane l f s) m = pathOf s m := rfl
@[simp] theorem portOf_modPort (s : State) (p : Nat) (f : Port → Port) : portOf (modPort p f s) p = f (portOf s p) := by simp [portOf, modPort, modDelta]
theorem portOf_modPort_other (s : State) (p q : Nat) (f : Port → Port) (h : q ≠ p) : portOf (modPort p f s) q = portOf s q := by simp [portOf, modPort, modDelta, tget_tmod_other _ _ _ _ _ h]
@[simp] theorem engOf_modEng (s : State) (k : Nat) (f : Engine → Engine) : engOf (modEng k f s) k = f (engOf s k) := by simp [engOf, modEng, modEngines]
theorem engOf_modEng_other (s : State) (k j : Nat) (f : Engine → Engine) (h : j ≠ k) : engOf (modEng k f s) j = engOf s j := by simp [engOf, modEng, modEngines, tget_tmod_other _ _ _ _ _ h]
@[simp] theorem quadOf_modQuad (s : State) (q : Nat) (f : Quad → Quad) : quadOf (modQuad q f s) q = f (quadOf s q) := by simp [quadOf, modQuad, modEngines]
@[simp] theorem engOf_modQuad (s : State) (q k : Nat) (f : Quad → Quad) : engOf (modQuad q f s) k = engOf s k := rfl
@[simp] theorem dchOf_modDch (s : State) (c : Nat) (f : Chan → Chan) : dchOf (modDch c f s) c = f (dchOf s c) := by simp [dchOf, modDch, modDram]
theorem dchOf_modDch_other (s : State) (c d : Nat) (f : Chan → Chan) (h : d ≠ c) : dchOf (modDch c f s) d = dchOf s d := by simp [dchOf, modDch, modDram, tget_tmod_other _ _ _ _ _ h]
@[simp] theorem dchX_modDchX (s : State) (c : Nat) (f : ChanX → ChanX) : dchX (modDchX c f s) c = f (dchX s c) := by simp [dchX, modDchX, modDram]
@[simp] theorem dchOf_modDchX (s : State) (c d : Nat) (f : ChanX → ChanX) : dchOf (modDchX c f s) d = dchOf s d := rfl
@[simp] theorem dchX_modDch (s : State) (c d : Nat) (f : Chan → Chan) : dchX (modDch c f s) d = dchX s d := rfl
@[simp] theorem reachOf_modReach (s : State) (n : Nat) (f : Reach → Reach) : reachOf (modReach n f s) n = f (reachOf s n) := by simp [reachOf, modReach, modFabric]
theorem reachOf_modReach_other (s : State) (n m : Nat) (f : Reach → Reach) (h : m ≠ n) : reachOf (modReach n f s) m = reachOf s m := by simp [reachOf, modReach, modFabric, tget_tmod_other _ _ _ _ _ h]
@[simp] theorem tideOf_modTide (s : State) (t : Nat) (f : Tide → Tide) : tideOf (modTide t f s) t = f (tideOf s t) := by simp [tideOf, modTide, modCrypto]
@[simp] theorem bgroupOf_modBgroup (s : State) (g : Nat) (f : BGroup → BGroup) : bgroupOf (modBgroup g f s) g = f (bgroupOf s g) := by simp [bgroupOf, modBgroup, modMems]

end Sys2Proof.Machine
end

