-- ==== Sys2Proof/Laws/Links.lean ====
section
/-! SUPPORT. What the receive path of a lane leaves as it was, and the parity with which a flit is sent. -/

namespace Sys2Proof.Machine
open Sys2Proof

theorem pathOf_modPath_other (s : State) (l m : Nat) (f : LanePath → LanePath) (h : m ≠ l) : pathOf (modPath l f s) m = pathOf s m := by
  simp [pathOf, modPath, modLanes, tget_tmod_other _ _ _ _ _ h]

/-- A change of a lane's path that leaves its received bits leaves every lane's. -/
theorem modPath_rxRaw {f : LanePath → LanePath} (s : State) (l m : Nat) (h : ∀ p, (f p).rxRaw = p.rxRaw) : (pathOf (modPath l f s) m).rxRaw = (pathOf s m).rxRaw := by
  by_cases e : m = l
  · subst e; simp [h]
  · rw [pathOf_modPath_other _ _ _ _ e]

/-- A state whose lanes are another's has its lanes' paths. -/
theorem pathOf_of_lanes {s t : State} (h : t.lanes = s.lanes) (m : Nat) : pathOf t m = pathOf s m := by simp [pathOf, h]

theorem forAll_rxRaw {α : Type} (l : List α) (f : State → α → State) (m : Nat) (h : ∀ t x, (pathOf (f t x) m).rxRaw = (pathOf t m).rxRaw) (s : State) :
    (pathOf (forAll l f s) m).rxRaw = (pathOf s m).rxRaw := by
  unfold forAll
  induction l generalizing s with
  | nil => rfl
  | cons a r ih => rw [List.foldl_cons, ih, h]

/-- Joining frames of a port takes frames and blocks, and no received bits. -/
theorem gather_rxRaw (p n m : Nat) (s : State) : (pathOf (gather p n s) m).rxRaw = (pathOf s m).rxRaw := by
  induction n generalizing s with
  | zero => rfl
  | succ n ih =>
    have e : ∀ (l : List Nat) (u : State), (pathOf (forAll l (fun u l => modPath l (fun x => { x with rxQueue := x.rxQueue.drop 1 }) u) u) m).rxRaw = (pathOf u m).rxRaw := by
      intro l u
      refine forAll_rxRaw l _ m (fun t x => ?_) u
      exact modPath_rxRaw _ _ _ (by intro; rfl)
    unfold gather
    dsimp only
    split
    · rfl
    · split
      · rw [ih]
        split
        · exact e _ _
        · exact (congrArg LanePath.rxRaw (pathOf_of_lanes rfl m)).trans (e _ _)
      · rw [ih]; exact e _ _

/-- A lane's frame reaches its port; the bits received after it stay. -/
theorem deliverFrame_rxRaw (l last : Nat) (bad : Bool) (fr : List Block) (m : Nat) (s : State) : (pathOf (deliverFrame l last bad fr s) m).rxRaw = (pathOf s m).rxRaw := by
  unfold deliverFrame
  split
  · rfl
  · dsimp only
    split
    · rfl
    · split
      · split
        · refine (gather_rxRaw _ _ _ _).trans ((modPath_rxRaw _ _ _ (by intro; rfl)).trans ((modPath_rxRaw _ _ _ (by intro; rfl)).trans ?_))
          exact congrArg LanePath.rxRaw (pathOf_of_lanes rfl m)
        · refine (gather_rxRaw _ _ _ _).trans ((modPath_rxRaw _ _ _ (by intro; rfl)).trans ?_)
          unfold tagFail
          refine (modPath_rxRaw _ _ _ (by intro; rfl)).trans ?_
          exact congrArg LanePath.rxRaw (pathOf_of_lanes (((raiseEvAt_part (sp := .lanes) _ _ _ _ _ _ (by decide) (by decide)) : _ = _).trans rfl) m)
      · exact (gather_rxRaw _ _ _ _).trans (modPath_rxRaw _ _ _ (by intro; rfl))

/-- With less than a block of bits a native receiver waits for more. -/
theorem nativeBits_short (l n : Nat) (s : State) (h : (pathOf s l).rxRaw.length < 66) : nativeBits l n s = s := by
  have h2 : ¬ 66 ≤ (pathOf s l).rxRaw.length := by omega
  have h3 : ¬ frameBits ≤ (pathOf s l).rxRaw.length := by unfold frameBits; omega
  cases n with
  | zero => rfl
  | succ n => unfold nativeBits; dsimp only; split <;> simp [h2, h3]

/-- So does a Pass receiver in UP in modes 2 and 3. -/
theorem passBits_short (l n : Nat) (s : State) (hm : (laneOf s l).mode < 4) (h : (pathOf s l).rxRaw.length < 66) : passBits l n s = s := by
  have h1 : ¬ 4 ≤ (laneOf s l).mode := by omega
  have h2 : ¬ 66 ≤ (pathOf s l).rxRaw.length := by omega
  cases n with
  | zero => rfl
  | succ n => unfold passBits; dsimp only; split <;> simp [h1, h2]

/-- A native receiver that hunts for a frame takes one candidate at a time. -/
theorem nativeBits_hunt (l k : Nat) (t : State) (h1 : (laneOf t l).rx = .frameHunt) (h2 : frameBits ≤ (pathOf t l).rxRaw.length) : nativeBits l (k + 1) t = nativeBits l k (huntFrame l t) := by
  rw [nativeBits]; simp only [h1, h2, if_true]

theorem nativeBits_hunt_short (l k : Nat) (t : State) (h1 : (laneOf t l).rx = .frameHunt) (h2 : (pathOf t l).rxRaw.length < frameBits) : nativeBits l k t = t := by
  have h3 : ¬ frameBits ≤ (pathOf t l).rxRaw.length := by omega
  cases k with
  | zero => rfl
  | succ k => rw [nativeBits]; simp only [h1, h3, if_false]

/-- In UP it takes one frame at a time. -/
theorem nativeBits_up (l k : Nat) (t : State) (h1 : (laneOf t l).rx = .up) (h2 : frameBits ≤ (pathOf t l).rxRaw.length) : nativeBits l (k + 1) t = nativeBits l k (upFrame l t) := by
  rw [nativeBits]; simp only [h1, h2, if_true]

/-- A Pass receiver in UP of modes 2 and 3 takes one block at a time. -/
theorem passBits_up (l k : Nat) (t : State) (h1 : (laneOf t l).rx = .up) (hm : (laneOf t l).mode < 4) (h2 : 66 ≤ (pathOf t l).rxRaw.length) : passBits l (k + 1) t = passBits l k (upBlock l t) := by
  have h3 : ¬ 4 ≤ (laneOf t l).mode := by omega
  rw [passBits]; simp only [h1, h2, h3, if_true, if_false]

/-- What a frame does to a receiver that hunts for one. -/
theorem huntFrame_rx (l : Nat) (s : State) : (laneOf (huntFrame l s) l).rx = (laneOf s l).rx ∧
    (pathOf (huntFrame l s) l).rxRaw = (pathOf s l).rxRaw.drop (if frameValid (frontFrame (pathOf s l)) then frameBits else 66) ∧
    (pathOf (huntFrame l s) l).goodFrames = (if frameValid (frontFrame (pathOf s l)) then (pathOf s l).goodFrames + 1 else 0) := by
  unfold huntFrame dropBits seeHeaders
  dsimp only
  generalize frontFrame (pathOf s l) = fr
  split <;> simp

/-- Counting symbols and lost frames leaves the received bits and the descrambler. -/
theorem fecSee_path (l a b : Nat) (u : State) : (pathOf (fecSee l a b u) l).rxRaw = (pathOf u l).rxRaw ∧ (pathOf (fecSee l a b u) l).scrRx = (pathOf u l).scrRx ∧
    (laneOf (fecSee l a b u) l).fecCorr = min ((laneOf u l).fecCorr + a) 0xFFFFFFFF ∧ (laneOf (fecSee l a b u) l).fecUncorr = min ((laneOf u l).fecUncorr + b) 0xFFFFFFFF := by
  have ev : ∀ u : State, (laneEvLimited l 3 2 u).lanes = u.lanes := fun u => laneEvLimited_part (sp := .lanes) l 3 2 u (by decide) (by decide)
  unfold fecSee
  dsimp only
  split
  · subst_vars; simp
  · have e : ∀ v : State, laneOf (laneEvLimited l 3 2 v) l = laneOf v l := fun v => by simp only [laneOf, ev]
    rw [pathOf_of_lanes (ev _), e]; simp

/-- The symbols of a lane reach its receiver; loopback stays as it was. -/
theorem lineIn_loopMode (l : Nat) (syms : List Nat) (s : State) : (pathOf (lineIn l syms s) l).loopMode = (pathOf s l).loopMode := by
  unfold lineIn
  dsimp only
  simp only [pathOf_modPath]
  split
  · have : ∀ (bs : List Bool) (q : LanePath), (prbsSee bs q).loopMode = q.loopMode := by
      intro bs q
      unfold prbsSee
      induction bs generalizing q with
      | nil => rfl
      | cons b r ih => rw [List.foldl_cons, ih]; split <;> rfl
    rw [this]
  · rfl

/-- One frame in UP, outside loopback: what the receiver does before the frame reaches the port, and that nothing of it is left. -/
theorem upFrame_splits (l : Nat) (s : State) (h : (pathOf s l).loopMode = 0) : ∃ u last, upFrame l s = deliverFrame l last (frameDecode (frontFrame (pathOf s l))).isNone (openBlocks (pathOf s l).scrRx (frontFrame (pathOf s l))).1 u ∧
    u.delta = s.delta ∧ (pathOf u l).rxRaw = (pathOf s l).rxRaw.drop frameBits ∧ (pathOf u l).scrRx = (openBlocks (pathOf s l).scrRx (frontFrame (pathOf s l))).2 ∧
    (∀ bs n, frameDecode (frontFrame (pathOf s l)) = some (bs, n) → (laneOf u l).fecCorr = min ((laneOf s l).fecCorr + n) 0xFFFFFFFF) ∧
    (frameDecode (frontFrame (pathOf s l)) = none → (laneOf u l).fecUncorr = min ((laneOf s l).fecUncorr + 1) 0xFFFFFFFF) := by
  have fd : ∀ a b u, (fecSee l a b u).delta = u.delta := fun a b u => fecSee_part (sp := .delta) l a b u (by decide) (by decide) (by decide)
  unfold upFrame
  dsimp only
  rw [if_pos h]
  generalize frontFrame (pathOf s l) = fr
  generalize openBlocks (pathOf s l).scrRx fr = ob
  generalize (if frameValid fr = true then (0 : Nat) else (pathOf s l).badFrames + 1) = bf
  cases frameDecode fr with
  | none =>
    refine ⟨_, _, rfl, ?_, ?_, ?_, ?_, ?_⟩
    · exact fd _ _ _
    · simp [dropBits, fecSee_path, seeHeaders]
    · simp [dropBits, fecSee_path, seeHeaders]
    · intro bs n hd; cases hd
    · intro _; simp [dropBits, fecSee_path, seeHeaders]
  | some x =>
    obtain ⟨bs, n⟩ := x
    refine ⟨_, _, rfl, ?_, ?_, ?_, ?_, ?_⟩
    · exact fd _ _ _
    · simp [dropBits, fecSee_path, seeHeaders]
    · simp [dropBits, fecSee_path, seeHeaders]
    · intro bs' n' hd; cases hd; simp [dropBits, fecSee_path, seeHeaders]
    · intro hd; cases hd

/-- Skipping to what the link layer reads changes the received stream alone. -/
theorem cleanStream_port (p : Nat) (s : State) : portOf (cleanStream p s) p = { portOf s p with rxStream := (skipStream (p == 64) (portOf s p).rxStream).2 } ∧ (cleanStream p s).braid = s.braid := by
  unfold cleanStream
  dsimp only
  split
  · exact ⟨by simp, rfl⟩
  · exact ⟨by rw [show ∀ (k n : Nat) (u : State), portOf (portCount p k n u) p = portOf u p from fun _ _ _ => rfl]; simp, rfl⟩

/-- An acknowledgement changes what awaits one, and nothing of the receive side. -/
theorem ackTo_port (p ack : Nat) (s : State) : (portOf (ackTo p ack s) p).rxBuf = (portOf s p).rxBuf ∧ (portOf (ackTo p ack s) p).rxSeq = (portOf s p).rxSeq ∧ (portOf (ackTo p ack s) p).rxStream = (portOf s p).rxStream ∧
    (portOf (ackTo p ack s) p).credits = (portOf s p).credits ∧ (portOf (ackTo p ack s) p).initSeen = (portOf s p).initSeen ∧ (portOf (ackTo p ack s) p).st = (portOf s p).st ∧ (ackTo p ack s).braid = s.braid := by
  unfold ackTo
  dsimp only
  split
  · refine ⟨?_, ?_, ?_, ?_, ?_, ?_, rfl⟩ <;> simp
  · simp

/-- The parity bits a flit is sent with pass the receiver's check (R75). -/
theorem flitParity_holds (f : Flit) : parityHolds (flitBytes f) (flitParity f) = true := by
  unfold parityHolds flitParity
  generalize flitBytes f = l
  induction l with
  | nil => rfl
  | cons b r ih =>
    simp only [List.map_cons, List.zip_cons_cons, List.all_cons, ih, Bool.and_true]
    unfold parityBit
    rcases Nat.mod_two_eq_zero_or_one (byteOnes b) with h | h <;> (simp [h, b2n]; try omega)

end Sys2Proof.Machine
end

