-- ==== Sys2Proof/Laws/Serve.lean ====
section
/-! SUPPORT. What serving a Ferry command does: its own checks and effect, or the answer of a dry run, or of a LEN or TARGET out of range. -/

namespace Sys2Proof.Machine
open Sys2Proof

/-- A message of the opcode with LEN and TARGET in range runs the command. -/
theorem ferryServe_of_served {op ml : Nat} {tg : Nat → Bool} {v : Serving} {s : State} (body : Serving → State → Reply × State) (h : Served s v op ml tg) :
    ferryServe op ml tg body s = setReply (body v s).1 (body v s).2 := by
  obtain ⟨h1, h2, h3, h4, h5, h6⟩ := h
  have : ¬ (ml < v.len) := by omega
  simp [ferryServe, h1, h2, h3, h5, h6, this]

/-- A dry run leaves the state but for its answer. -/
theorem ferryServe_of_dryRun {op ml : Nat} {tg : Nat → Bool} {v : Serving} {s : State} (body : Serving → State → Reply × State)
    (h1 : s.ferry.serving = some v) (h2 : bit v.flags 1 = true) : ∃ r, ferryServe op ml tg body s = setReply r s ∨ ferryServe op ml tg body s = s := by
  by_cases h3 : v.opcode = op ∧ v.reply = none
  · by_cases h4 : ml < v.len ∨ ¬ tg v.target = true
    · exact ⟨rc rcBadArg, .inl (by simp only [ferryServe, h1, h3, and_self, if_true, h4])⟩
    · exact ⟨dryReply op (body v s).1, .inl (by simp only [ferryServe, h1, h3, and_self, if_true, h4, if_false, h2])⟩
  · exact ⟨rc rcBadArg, .inr (by simp only [ferryServe, h1, h3, if_false])⟩

/-- LEN or TARGET out of range is answered BAD_ARG, and nothing else happens. -/
theorem ferryServe_of_badLen {op ml : Nat} {tg : Nat → Bool} {v : Serving} {s : State} (body : Serving → State → Reply × State)
    (h1 : s.ferry.serving = some v) (h2 : v.opcode = op) (h3 : v.reply = none) (h4 : ml < v.len ∨ tg v.target = false) :
    ferryServe op ml tg body s = setReply (rc rcBadArg) s := by
  have : (ml < v.len ∨ ¬ tg v.target = true) := by simpa using h4
  simp only [ferryServe, h1, h2, h3, and_self, if_true, this]

/-- Answering changes the served message alone. -/
theorem setReply_serving (r : Reply) (s : State) : (setReply r s).ferry.serving = s.ferry.serving.map (fun v => { v with reply := some r }) := rfl

/-- While the clocks of a domain run, its steps have their effect (R498, R501). -/
theorem whileClocked_on {d : Nat} {s t : State} (h : clockStopped s d = false) : whileClocked d s t = t := by
  simp [whileClocked, h]

/-- While they are stopped, its steps wait. -/
theorem whileClocked_off {d : Nat} {s t : State} (h : clockStopped s d = true) : whileClocked d s t = s := by
  simp [whileClocked, h]

end Sys2Proof.Machine
end

