-- ==== Sys2Proof/Machine/FabricLogic.lean ====
section
/-! DEFINITION. What the fabric's cells do inside a user design: arithmetic slices (11 R436) and block RAM ports (09 R376).

The spec gives no row for a clock edge of a user design and no encoding of a design's frames, so no command calls these operations;
they are the spec's rules for a reader who models a design. -/

namespace Sys2Proof.Machine

/-- The low `n` bits of an integer read as a signed number of that width. -/
def signedLow (n : Nat) (i : Int) : Int := (BitVec.ofInt n i).toInt

/-- Sum stage of a slice (R436, item 1). -/
inductive SliceSum where
  | x | xPlusW | xMinusW | wMinusX
deriving DecidableEq, Repr

/-- Term T of the gather stage (R436, item 3). -/
inductive SliceTerm where
  | zero | k | ci | r0 | r1
deriving DecidableEq, Repr

/-- Controls of a slice in one cycle. -/
structure SliceCtl where
  sum : SliceSum := .x
  term : SliceTerm := .zero
  /-- T - M in place of T + M. -/
  minus : Bool := false
  /-- BANK: the bank that the result is written to. -/
  bank : Bool := false
  /-- OSEL: the bank that the output stage and CO read. -/
  osel : Bool := false
  round : Bool := false
  /-- s, 1 to 48. -/
  shift : Nat := 1
  /-- SATW, 16 to 56, when the output is clamped. -/
  satw : Option Nat := none
deriving DecidableEq, Repr

/-- The two 56-bit result banks of a slice. -/
structure SliceBanks where
  r0 : BitVec 56 := 0
  r1 : BitVec 56 := 0
deriving DecidableEq, Repr

/-- One of the banks. -/
def SliceBanks.get (b : SliceBanks) (one : Bool) : BitVec 56 := if one then b.r1 else b.r0

/-- Inputs of a slice. -/
structure SliceIn where
  x : BitVec 24 := 0
  w : BitVec 24 := 0
  y : BitVec 20 := 0
  k : BitVec 56 := 0
  ci : BitVec 56 := 0
deriving DecidableEq, Repr

/-- S, which wraps modulo 2^24. -/
def sliceS (c : SliceSum) (i : SliceIn) : BitVec 24 :=
  match c with
  | .x => i.x
  | .xPlusW => i.x + i.w
  | .xMinusW => i.x - i.w
  | .wMinusX => i.w - i.x

/-- M = S x Y, exact in 44 bits. -/
def sliceM (c : SliceSum) (i : SliceIn) : Int := (sliceS c i).toInt * i.y.toInt

/-- T. -/
def sliceT (c : SliceTerm) (b : SliceBanks) (i : SliceIn) : BitVec 56 :=
  match c with
  | .zero => 0
  | .k => i.k
  | .ci => i.ci
  | .r0 => b.r0
  | .r1 => b.r1

/-- Gather stage: T + M or T - M modulo 2^56, into the bank that BANK names. -/
def sliceGather (c : SliceCtl) (b : SliceBanks) (i : SliceIn) : SliceBanks :=
  let m := BitVec.ofInt 56 (sliceM c.sum i)
  let v := if c.minus then sliceT c.term b i - m else sliceT c.term b i + m
  if c.bank then { b with r1 := v } else { b with r0 := v }

/-- Output stage: the bank that OSEL names, rounded half up by the shift when ROUND is set, then clamped; and SAT. -/
def sliceOut (c : SliceCtl) (b : SliceBanks) : Int × Bool :=
  let v := (b.get c.osel).toInt
  let r := if c.round then (v + 2 ^ (c.shift - 1)) / 2 ^ c.shift else v
  match c.satw with
  | none => (r, false)
  | some w =>
    if r < -(2 ^ (w - 1)) then (-(2 ^ (w - 1)), true)
    else if 2 ^ (w - 1) - 1 < r then (2 ^ (w - 1) - 1, true)
    else (r, false)

/-- CO: the bank that OSEL names, before rounding. -/
def sliceCo (c : SliceCtl) (b : SliceBanks) : BitVec 56 := b.get c.osel

/-! ## Block RAM ports (R376) -/

/-- Bits of a block RAM: 36 Kbit (9 init frames of 4 096). -/
def bramBits : Nat := 9 * 4096

/-- One access of a block RAM port: the first bit and the number of bits it covers, and the bits it writes. -/
structure BramAccess where
  lo : Nat := 0
  width : Nat := 1
  write : Option Nat := none
  /-- Mode PASS in place of HOLD. -/
  pass : Bool := false
deriving DecidableEq, Repr

/-- The word that an access covers. -/
def bramWord {n : Nat} (m : BitVec n) (a : BramAccess) : Nat := (m.toNat >>> a.lo) % 2 ^ a.width

/-- The block after an access. -/
def bramWrite {n : Nat} (m : BitVec n) (a : BramAccess) : BitVec n :=
  match a.write with
  | none => m
  | some v => BitVec.ofNat n (m.toNat - (bramWord m a <<< a.lo) + ((v % 2 ^ a.width) <<< a.lo))

/-- Two accesses collide when any bit of them overlaps. -/
def bramOverlap (a b : BramAccess) : Bool := decide (a.lo < b.lo + b.width ∧ b.lo < a.lo + a.width)

/-- What a port reads: its own written word in mode PASS, else the word stored before the write. -/
def bramOwn {n : Nat} (m : BitVec n) (a : BramAccess) : Nat :=
  match a.write, a.pass with
  | some v, true => v % 2 ^ a.width
  | _, _ => bramWord m a

/-- Both ports in one cycle: a read sees the value from before the other port's write; of two writes that collide port A's takes
effect and port B's whole write does not, which COLLB reports. The block, A's word, B's word, COLLB. -/
def bramCycle {n : Nat} (m : BitVec n) (a b : BramAccess) : BitVec n × Nat × Nat × Bool :=
  let coll := a.write.isSome && b.write.isSome && bramOverlap a b
  (bramWrite (if coll then m else bramWrite m b) a, bramOwn m a, bramOwn m b, coll)

/-- A read whose clock edge falls within 300 ps of a write on the other port's clock: the old word or the new word, whole. -/
def bramReadNear {n : Nat} (m : BitVec n) (wr rd : BramAccess) (sawNew : Bool) : Nat :=
  if sawNew then bramWord (bramWrite m wr) rd else bramWord m rd

end Sys2Proof.Machine
end

