-- ==== Sys2Proof/Machine/Pins.lean ====
section
/-! DEFINITION. What the outward pins show, computed from the state (R30, R482, R484, R548, R611, Table 17.7). -/

namespace Sys2Proof.Machine
open Sys2Proof

/-- A lane's transmitter. -/
inductive TxPin where
  | highZ | electricalIdle | data
deriving DecidableEq, Repr

/-- A lane's receiver. -/
inductive RxPin where
  | unterminated | terminated | energyDetect | listening
deriving DecidableEq, Repr

/-- The device has power: VCC_AON is within its limits. -/
def powered (s : State) : Bool := !(s.power.railsOut.contains .aon)

/-- The rail of the lanes is within its limits (R611). -/
def laneRails (s : State) : Bool := powered s && !(s.power.railsOut.contains .lane || s.power.railsOut.contains .laneHv)

/-- The bank of TWIN_HB and the GPIO pins has power (R611, R617). -/
def ioRail (s : State) : Bool := powered s && !(s.power.railsOut.contains .io)

/-- A lane does not move data whatever its setting: reset, failed initial load, STIPPLE (Table 1.9); an HS lane of a FENCED member neither (Table 6.12). -/
def laneStopped (s : State) (l : Nat) : Bool :=
  s.dbg.inReset || s.fabric.cfgErr || inStipple s || (s.twin.role == .fenced && decide (l < 64))

/-- TX of a lane (Table 1.9): a transmitter that has not started is idle (R189), and so is one whose symbols are looped inside (R598). -/
def txPin (s : State) (l : Nat) : TxPin :=
  if ¬ laneRails s then .highZ
  else if laneStopped s l ∨ (tget s.lanes.lanes {} l).pwr ≠ .active ∨ ¬ (tget s.lanes.paths {} l).transmitting ∨ (tget s.lanes.paths {} l).loopMode = 1 then .electricalIdle
  else .data

/-- A lane that an ENERGY entry of the loaded Stipple program names (R509). -/
def sentinel (s : State) (l : Nat) : Bool := s.power.prog.any (fun g => g.entries.any (fun x => x.source == 2 && x.index == l))

/-- RX of a lane (Table 1.9): in STIPPLE only the sentinel lanes detect energy. -/
def rxPin (s : State) (l : Nat) : RxPin :=
  if ¬ laneRails s then .unterminated
  else if s.dbg.inReset ∨ s.fabric.cfgErr then .terminated
  else if inStipple s then (if sentinel s l ∧ l < 64 then .energyDetect else .terminated)
  else
    match (tget s.lanes.lanes {} l).pwr with
    | .active => .listening
    | .quiet => .listening
    | .slackwater => .energyDetect
    | .unset => .terminated

/-- RST_N of a reach as it sees it: true when it is low, asserted (R461, Tables 11.15 and 13.7). -/
def reachReset (s : State) (n : Nat) : Bool :=
  let r := tget s.fabric.reaches {} n
  r.st == .empty || r.st == .loading || r.st == .invalid || r.rstSince.isSome || r.rstHeld.any (fun t => decide (s.time < t + 10 * usCycles))

/-- FATAL_N as seen on the pin: true when it is low, asserted; without its bank's power it is released (R611, R617). -/
def fatalPin (s : State) : Bool := ioRail s && s.events.fatalN

/-- CFG_ERR_N as seen on the pin: true when it is low, asserted (R453); without its bank's power it is released (R611, R617). -/
def cfgErrPin (s : State) : Bool := ioRail s && s.fabric.cfgErr

/-- TWIN_HB: none is high-impedance (Table 1.9, R247, R611). -/
def twinHbPin (s : State) : Option Bool :=
  if ¬ ioRail s then none
  else if s.dbg.inReset ∨ s.fabric.cfgErr ∨ s.twin.role = .unpaired ∨ s.twin.role = .fenced then some false
  else some s.twin.twinHb

/-- Output highway `h` (16 to 31) in bit time `b` (0 to 7) of slot `t`: none is high-impedance; highways 28 to 31 send the least significant bit first (R482, R484). -/
def bwPin (s : State) (h t b : Nat) : Option Bool :=
  if bwOut s then some (bit (bwOutByte s (256 * (h - 16) + t)).toNat (if 28 ≤ h then b else 7 - b)) else none

/-- RST_STY_N is held low by the device: for a 1 that it answers in a response window, for 1.0 to 1.4 µs (R534, R535). -/
def styHeld (s : State) : Bool :=
  match s.dbg.sty.sentBit with
  | some (true, t) => ioRail s && decide (s.time < t + 1600 + Config.styHold t % 641)
  | _ => false

/-! ## Proof (R548) -/

/-- Power domains of a Proof group (Table 14.12). -/
def proofDomains (g : Nat) : List Nat :=
  if g < 16 then [62 + g]
  else if g < 24 then [46 + 2 * (g - 16), 47 + 2 * (g - 16)]
  else if g < 32 then [braidDomain (g - 24)]
  else if g < 56 then [6 + (g - 32)]
  else [[1], [0], [83], [84, 85], [78, 79, 80, 81], [1], [82], [82]].getD (g - 56) []

/-- First event of a Proof group and number of events (Table 15.1, Table 14.12). -/
def proofEvents (g : Nat) : Nat × Nat :=
  if g < 16 then (8 * g, 8)
  else if g < 24 then (128 + 8 * (g - 16), 8)
  else if g < 32 then (320 + 8 * (g - 24), 8)
  else if g < 56 then (192 + 4 * (g - 32), 4)
  else [(440, 14), (416, 24), (400, 16), (456, 20), (480, 8), (0, 0), (384, 8), (384, 8)].getD (g - 56) (0, 0)

/-- An event of a group is raised and has not been taken, of at least a severity. -/
def proofRaised (s : State) (g sev : Nat) : Bool :=
  s.events.pend.any (fun p => decide ((proofEvents g).1 ≤ p.1 ∧ p.1 < (proofEvents g).1 + (proofEvents g).2 ∧ sev ≤ p.2.r.sev))

/-- The clock of a group runs. -/
def proofClock (s : State) (g : Nat) : Bool :=
  if 32 ≤ g ∧ g < 56 then quadClocked s (g - 32) else (proofDomains g).all (fun d => !(clockStopped s d))

/-- Signal `n` of a Proof group; a signal of a domain that is off reads 0; signals 8 to 63 are unspecified (R548, log entry 3). -/
def proofSignal (s : State) (g n : Nat) : Bool :=
  if (proofDomains g).all (domOn s) then
    match n with
    | 0 => true
    | 1 => proofClock s g
    | 2 => (proofDomains g).all (fun d => d == 0 || (gateOf s d).st == .opened)
    | 3 => proofRaised s g 0
    | 4 => proofRaised s g 2
    | 5 => false
    | 6 => false
    | 7 => false
    | n => Config.testPoint g n
  else false

/-- What a Proof pin shows. -/
inductive ProofPin where
  | highZ | clock | level (b : Bool)
deriving DecidableEq, Repr

/-- Highest pin of a Proof selection: PROOF[15], GPIO[15] (R549). -/
def proofTop (target : Nat) : Nat := if target = 0 then 15 else 3

/-- What pin `j` of a Proof selection shows: with CLKOUT the highest pin carries the Proof clock (R549); groups 62 and 63 read 0 unless the life-cycle state is BLANK (Table 14.14). -/
def proofPin (s : State) (target j : Nat) : ProofPin :=
  match tfind s.dbg.proof target with
  | none => .highZ
  | some p =>
    let e := p.entries.getD j 0
    let g := bits e 11 6
    if bit p.flags 0 ∧ j = proofTop target then .clock
    else if bit e 15 then .level (if 62 ≤ g ∧ s.dbg.fuses.life ≠ .blank then false else proofSignal s g (bits e 5 0))
    else .highZ

/-- A GPIO pin: `shell` as the shell design drives it. -/
inductive GpioPin where
  | highZ | input | shell | proof (p : ProofPin)
deriving DecidableEq, Repr

/-- GPIO[i] (Table 1.9): high-impedance without power; inputs in reset, until CFG_DONE, after a failed initial load and in STIPPLE; GPIO[15:12] may carry the reduced Proof. -/
def gpioPin (s : State) (i : Nat) : GpioPin :=
  if ¬ ioRail s then .highZ
  else if s.dbg.inReset ∨ s.fabric.cfgErr ∨ inStipple s then .input
  else if 12 ≤ i ∧ i < 16 ∧ thas s.dbg.proof 1 then .proof (proofPin s 1 (i - 12))
  else if s.fabric.cfgDone then .shell else .input

end Sys2Proof.Machine
end

