-- ==== Sys2Proof/WellFormed.lean ====
section
/-! DEFINITION. Which commands name objects the device has. exec answers on every command; a command whose numbers name nothing the device has is one no sender sends. -/

namespace Sys2Proof

/-- Endpoint IDs end at 0x6F (Table 1.2). -/
def Bound.ep : Nat := 0x70
/-- Routers, 8 x 8. -/
def Bound.router : Nat := 64
/-- Router ports: four links, local ports 5 to 7 (Table 3.7); codes below 8. -/
def Bound.port : Nat := 8
/-- Virtual channels VC0 to VC3. -/
def Bound.vc : Nat := 4
/-- Gates: domains 1 to 85, routers 0x100 to 0x13F (R118). -/
def Bound.gate : Nat := 0x140
/-- Ferry channels 0 to 121 (section 2.2, Table 16.1). -/
def Bound.ferry : Nat := 122
/-- LOCK0 to LOCK255 (section 2.9). -/
def Bound.lock : Nat := 256
/-- Lanes 0 to 67 (R167). -/
def Bound.lane : Nat := 68
/-- Lane quads 0 to 15 and the Twin lanes (R189). -/
def Bound.pll : Nat := 17
/-- Delta ports 0 to 63 and the Twin link, 64. -/
def Bound.link : Nat := 65
/-- Engines 0 to 95 (R27). -/
def Bound.engine : Nat := 96
/-- Engine quads 0 to 23. -/
def Bound.quad : Nat := 24
/-- DRAM channels 0 to 15 (Table 1.2). -/
def Bound.dram : Nat := 16
/-- Basin groups 0 to 7. -/
def Bound.group : Nat := 8
/-- Reaches 0 to 15. -/
def Bound.reach : Nat := 16
/-- Event numbers 0 to 511 (R555). -/
def Bound.event : Nat := 512
/-- Key identifiers 0 to 63 (6 bits, R29). -/
def Bound.kid : Nat := 64
/-- Power domains 0 to 85 (R495). -/
def Bound.domain : Nat := 86
/-- Junction temperature sensors 0 to 7 (R523). -/
def Bound.sensor : Nat := 8
/-- TAMPER_N[1:0] (R387). -/
def Bound.tamper : Nat := 2
/-- Addresses of 48 bits (section 1.7). -/
def Bound.addr : Nat := 2 ^ 48

/-- The numbers of a memory unit. -/
def MemUnit.bounds (m : MemUnit) : List (Nat × Nat) :=
  match m with
  | .basin g => [(g, Bound.group)]
  | .engines q => [(q, Bound.quad)]

/-- Each number a command carries that names an object, with the number of such objects. Numbers that name a packet, a token or a ticket count up without bound in the model. -/
def Instr.bounds (i : Instr) : List (Nat × Nat) :=
  match i with
  | .powerOnReset => []
  | .crystalWatchExpiry _ => []
  | .rillAccess => []
  | .eventRillArrival e => [(e, Bound.event)]
  | .requestPresented e _ r => [(e, Bound.ep), (r.addr, Bound.addr), (r.kid, Bound.kid)]
  | .packetInject e _ => [(e, Bound.ep)]
  | .flitArrival r p _ => [(r, Bound.router), (p, Bound.port)]
  | .routerPipelineStart r => [(r, Bound.router)]
  | .routerSleep r => [(r, Bound.router)]
  | .urgAgeing r p v _ => [(r, Bound.router), (p, Bound.port), (v, Bound.vc)]
  | .outputArbitration r o => [(r, Bound.router), (o, Bound.port)]
  | .creditReturn r p v => [(r, Bound.router), (p, Bound.port), (v, Bound.vc)]
  | .requestDelivery e _ _ => [(e, Bound.ep)]
  | .probeAnswer e _ _ => [(e, Bound.ep)]
  | .responseArrival e _ _ => [(e, Bound.ep)]
  | .orbExpiry e _ => [(e, Bound.ep)]
  | .niTableSwap e => [(e, Bound.ep)]
  | .fenceBitmapUpdate => []
  | .gateDrained g => [(g, Bound.gate)]
  | .drainMaxExpiry g => [(g, Bound.gate)]
  | .routerMaintStep _ => []
  | .vc2FlitPresent e _ a _ _ => [(e, Bound.ep), (a, Bound.addr)]
  | .vc2Inject e _ => [(e, Bound.ep)]
  | .calendarSwap => []
  | .tokenArrival _ => []
  | .ferryMsgWrite _ => []
  | .bellPost _ => []
  | .bellClear _ => []
  | .headwaterInterrupt => []
  | .take => []
  | .ferryAckWrite => []
  | .completionNotification c => [(c, Bound.ferry)]
  | .senderReset c => [(c, Bound.ferry)]
  | .headwaterReset _ => []
  | .lockstepMismatch => []
  | .headwaterWatchdogExpiry => []
  | .hwReady _ => []
  | .firmwareSwitch => []
  | .lockRead _ => []
  | .lockRelease _ _ => []
  | .lockHoldExpiry l => [(l, Bound.lock)]
  | .timebaseLoRead _ => []
  | .fatalSummaryClear _ => []
  | .evDoorbellClear _ => []
  | .bar2Request _ _ => []
  | .pcieReset => []
  | .registerWrite _ => []
  | .kmRngOutRead _ _ => []
  | .cfgXspiRdRead _ => []
  | .lanePllLock q => [(q, Bound.pll)]
  | .pllLockTimeout q => [(q, Bound.pll)]
  | .energyDetected l => [(l, Bound.lane)]
  | .cdrLock l => [(l, Bound.lane)]
  | .equalizerConverged l _ => [(l, Bound.lane)]
  | .blockLock l => [(l, Bound.lane)]
  | .frameLock l => [(l, Bound.lane)]
  | .rxBoundExpiry l => [(l, Bound.lane)]
  | .energyLoss l => [(l, Bound.lane)]
  | .cdrLoss l => [(l, Bound.lane)]
  | .blockLockLoss l => [(l, Bound.lane)]
  | .frameLockLoss l => [(l, Bound.lane)]
  | .pllUnlock q => [(q, Bound.pll)]
  | .nativeFrameReceive l _ => [(l, Bound.lane)]
  | .nativeFrameTransmit l => [(l, Bound.lane)]
  | .passBlockReceive l _ _ _ => [(l, Bound.lane)]
  | .passStreamSend l _ => [(l, Bound.lane)]
  | .txStreamWrite _ => []
  | .passBlockTransmit l => [(l, Bound.lane)]
  | .txSettingsApply l => [(l, Bound.lane)]
  | .adaptationUpdate l _ => [(l, Bound.lane)]
  | .marginRefresh l _ => [(l, Bound.lane)]
  | .corrWindowEnd l => [(l, Bound.lane)]
  | .energyDetect l => [(l, Bound.lane)]
  | .eyeScanDone l _ => [(l, Bound.lane)]
  | .laneStateReached l => [(l, Bound.lane)]
  | .portInit p => [(p, Bound.link)]
  | .portUp p _ => [(p, Bound.link)]
  | .portDown p _ => [(p, Bound.link)]
  | .linkFlitReceive p _ => [(p, Bound.link)]
  | .linkFlitSend p => [(p, Bound.link)]
  | .linkctlReceive p _ => [(p, Bound.link)]
  | .replayTimeout p => [(p, Bound.link)]
  | .linkctlSend p => [(p, Bound.link)]
  | .deltaPacketEntry p => [(p, Bound.link)]
  | .keySwitchApply p => [(p, Bound.link)]
  | .pairingDone _ => []
  | .pairTimeout => []
  | .stateMirrorApply _ _ => []
  | .heartbeatArm => []
  | .heartbeatSend => []
  | .heartbeatArmTimeout => []
  | .heartbeatReceive _ => []
  | .heartbeatMissed => []
  | .mirrorForward c => [(c, Bound.dram)]
  | .mirrorCompletion _ => []
  | .resyncPageCopy => []
  | .bundleIssue k => [(k, Bound.engine)]
  | .operationResult k => [(k, Bound.engine)]
  | .decisionWrite k => [(k, Bound.engine)]
  | .rldCompletion k => [(k, Bound.engine)]
  | .ticketCompletion k _ => [(k, Bound.engine)]
  | .interruptInputRise k l => [(k, Bound.engine), (l, 16)]
  | .interruptEntry k => [(k, Bound.engine)]
  | .exceptionEntry k => [(k, Bound.engine)]
  | .debugHalt k => [(k, Bound.engine)]
  | .engineReset _ => []
  | .run _ => []
  | .qmDescWrite _ => []
  | .abort _ => []
  | .kick _ => []
  | .descriptorStart k => [(k, Bound.engine)]
  | .moverPieceCompletion k => [(k, Bound.engine)]
  | .portBAccess _ _ _ => []
  | .portBRetry _ _ => []
  | .watchdogWarn k => [(k, Bound.engine)]
  | .watchdogExpiry k => [(k, Bound.engine)]
  | .dramRequestAccept c _ => [(c, Bound.dram)]
  | .dramAccessIssue c _ => [(c, Bound.dram)]
  | .dramReadComplete c _ => [(c, Bound.dram)]
  | .pageClose c _ => [(c, Bound.dram)]
  | .mergeFlush c => [(c, Bound.dram)]
  | .refresh c => [(c, Bound.dram)]
  | .temperatureReport c _ => [(c, Bound.dram)]
  | .actWindowEnd c => [(c, Bound.dram)]
  | .selfRefreshEntry c => [(c, Bound.dram)]
  | .selfRefreshExit c => [(c, Bound.dram)]
  | .dqsRetrain c _ => [(c, Bound.dram)]
  | .trainingDone c _ => [(c, Bound.dram)]
  | .initLostDone c => [(c, Bound.dram)]
  | .imbalanceWindow c _ => [(c, Bound.dram)]
  | .scourWalkLine r => [(r, 8)]
  | .scourPassLine => []
  | .scourPassDone => []
  | .basinRequestAccept g _ => [(g, Bound.group)]
  | .basinRequestStart g _ => [(g, Bound.group)]
  | .basinMergeFlush g _ => [(g, Bound.group)]
  | .retentionEntry m => m.bounds
  | .memoryWake m => m.bounds
  | .memoryInitDone m => m.bounds
  | .tamperFilter n => [(n, Bound.tamper)]
  | .glitchTrip => []
  | .zeroization => []
  | .sealInitDone => []
  | .counterToken c _ _ _ => [(c, Bound.dram)]
  | .reseal c _ => [(c, Bound.dram)]
  | .subtreeReinit c => [(c, Bound.dram)]
  | .keyRetireDone k => [(k, Bound.kid)]
  | .tidelineLine _ => []
  | .initialLoad => []
  | .imageRecord _ => []
  | .loadDone => []
  | .scrubPassStart => []
  | .frameReadback _ => []
  | .hatchReadResult => []
  | .policyResetEnd r => [(r, Bound.reach)]
  | .tmrVote => []
  | .directoryRewrite => []
  | .syncPulse _ _ => []
  | .bwFrame _ _ => []
  | .clockLoss => []
  | .bwLockTimeout => []
  | .multiframeBoundary => []
  | .braidTxSend => []
  | .ringWrite _ => []
  | .ringConsume => []
  | .prepareVote d _ => [(d, Bound.domain)]
  | .voteTimeout d => [(d, Bound.domain)]
  | .sleepCommit => []
  | .retentionStep => []
  | .stippleEntered => []
  | .sleepAborted => []
  | .wakeEvent _ => []
  | .dozeExit => []
  | .stippleExitDone => []
  | .stipplePeriod _ => []
  | .powerGood => []
  | .dvfsFrequencyChange q => [(q, Bound.quad)]
  | .pgTimeout _ => []
  | .slowClockLoss => []
  | .trimMeasureDone _ => []
  | .thermalSample n _ => [(n, Bound.sensor)]
  | .railFault _ => []
  | .rstStyNPulse _ => []
  | .deviceReset => []
  | .resetRelease m n _ => [(m, 8), (n, 64)]
  | .firmwareLoad _ => []
  | .attach => []
  | .stylusFrameTimeout => []
  | .idcode => []
  | .challenge _ _ => []
  | .respond _ => []
  | .detach => []
  | .result => []
  | .stylusRead a _ => [(a, Bound.addr)]
  | .stylusWrite a _ _ => [(a, Bound.addr)]
  | .stylusHalt _ => []
  | .stylusRun _ => []
  | .stylusStep _ => []
  | .engReset _ => []
  | .regrd _ _ _ => []
  | .regwr _ _ _ _ => []
  | .resetHw => []
  | .resetDevice => []
  | .eventRaise e _ _ => [(e, Bound.event)]
  | .eventTake => []
  | .eventDrain => []
  | .sysInfo => []
  | .sysBootStatus => []
  | .sysFwStage => []
  | .sysFwActivate => []
  | .sysLifecycle => []
  | .laneSetMode => []
  | .laneSetTaps => []
  | .laneLoadSlotTable => []
  | .laneState => []
  | .laneStatus => []
  | .laneEye => []
  | .routeLoad => []
  | .routeCommit => []
  | .sluiceLoad => []
  | .sluiceCommit => []
  | .weirFence => []
  | .weirOpen => []
  | .routerMaint => []
  | .timeoutSet => []
  | .dramConfig => []
  | .dramTrain => []
  | .dramPower => []
  | .scourSet => []
  | .scourPass => []
  | .hammerSet => []
  | .flipMask => []
  | .keyInstall => []
  | .keyRetire => []
  | .tidelineStart => []
  | .tidelineStatus => []
  | .sealWindow => []
  | .protectRange => []
  | .linkKey => []
  | .reachLoad => []
  | .reachIsolate => []
  | .reachRelease => []
  | .hatchLoad => []
  | .scrubSet => []
  | .reachStatus => []
  | .pwrState => []
  | .pwrDomain => []
  | .dvfsSet => []
  | .stippleProgram => []
  | .timeSet => []
  | .wdtSet => []
  | .deltaPortSet => []
  | .farRouteLoad => []
  | .twinPair => []
  | .twinMirror => []
  | .twinSwitchover => []
  | .deviceIdSet => []
  | .bwInit => []
  | .bwConnect => []
  | .bwStatus => []
  | .proofSelect => []
  | .diagCounters => []
  | .diagLoopback => []
  | .evRoute => []
  | .evRead => []
  | .twinHbInEdge => []
  | .tamperNRise n => [(n, Bound.tamper)]
  | .railReturn _ => []
  | .fuseProgrammingDone _ => []
  | .flashStagingDone _ => []
  | .directoryRewriteDone => []
  | .zeroFillDone => []

/-- Every number of the command names an object the device has. -/
def Instr.wf (i : Instr) : Bool := i.bounds.all (fun p => decide (p.1 < p.2))

end Sys2Proof
end

