-- ==== Sys2Proof/Tests/Slice0.lean ====
section
/-! SUPPORT. Tests: ill-formed commands are refused, the worked examples of the manual, and for each statement with hypotheses a state that meets them. -/

set_option linter.all false

open Sys2Proof Sys2Proof.Machine

/-! ## WellFormed refuses a number that names nothing -/

theorem test_wf_flitArrival : Instr.wf (.flitArrival 64 0 false) = false ∧ Instr.wf (.flitArrival 63 7 false) = true := by decide
theorem test_wf_router_port : Instr.wf (.flitArrival 0 8 false) = false ∧ Instr.wf (.flitArrival 0 7 true) = true := by decide
theorem test_wf_vc : Instr.wf (.creditReturn 0 0 4) = false ∧ Instr.wf (.creditReturn 63 7 3) = true := by decide
theorem test_wf_endpoint : Instr.wf (.requestDelivery 0x70 0 none) = false ∧ Instr.wf (.requestDelivery 0x6F 0 none) = true := by decide
theorem test_wf_address : Instr.wf (.requestPresented 0 0 { op := .rd, addr := 2 ^ 48 }) = false ∧ Instr.wf (.requestPresented 0 0 { op := .rd, addr := 2 ^ 48 - 1 }) = true := by decide
theorem test_wf_request_kid : Instr.wf (.requestPresented 0 0 { op := .rd, kid := 64 }) = false ∧ Instr.wf (.requestPresented 0 0 { op := .rd, kid := 63 }) = true := by decide
theorem test_wf_gate : Instr.wf (.gateDrained 0x140) = false ∧ Instr.wf (.gateDrained 0x13F) = true := by decide
theorem test_wf_channel : Instr.wf (.senderReset 122) = false ∧ Instr.wf (.senderReset 121) = true := by decide
theorem test_wf_lock : Instr.wf (.lockHoldExpiry 256) = false ∧ Instr.wf (.lockHoldExpiry 255) = true := by decide
theorem test_wf_lane : Instr.wf (.cdrLock 68) = false ∧ Instr.wf (.cdrLock 67) = true := by decide
theorem test_wf_pll : Instr.wf (.lanePllLock 17) = false ∧ Instr.wf (.lanePllLock 16) = true := by decide
theorem test_wf_link : Instr.wf (.portInit 65) = false ∧ Instr.wf (.portInit 64) = true := by decide
theorem test_wf_engine : Instr.wf (.bundleIssue 96) = false ∧ Instr.wf (.bundleIssue 95) = true := by decide
theorem test_wf_interrupt_input : Instr.wf (.interruptInputRise 0 16) = false ∧ Instr.wf (.interruptInputRise 95 15) = true := by decide
theorem test_wf_quad : Instr.wf (.dvfsFrequencyChange 24) = false ∧ Instr.wf (.dvfsFrequencyChange 23) = true := by decide
theorem test_wf_dram : Instr.wf (.refresh 16) = false ∧ Instr.wf (.refresh 15) = true := by decide
theorem test_wf_group : Instr.wf (.basinRequestStart 8 []) = false ∧ Instr.wf (.basinRequestStart 7 []) = true := by decide
theorem test_wf_memory_of_basin : Instr.wf (.memoryWake (.basin 8)) = false ∧ Instr.wf (.memoryWake (.basin 7)) = true := by decide
theorem test_wf_memory_of_engines : Instr.wf (.memoryWake (.engines 24)) = false ∧ Instr.wf (.memoryWake (.engines 23)) = true := by decide
theorem test_wf_reach : Instr.wf (.policyResetEnd 16) = false ∧ Instr.wf (.policyResetEnd 15) = true := by decide
theorem test_wf_event : Instr.wf (.eventRaise 512 0 []) = false ∧ Instr.wf (.eventRaise 511 0 []) = true := by decide
theorem test_wf_event_rill : Instr.wf (.eventRillArrival 512) = false ∧ Instr.wf (.eventRillArrival 511) = true := by decide
theorem test_wf_domain : Instr.wf (.voteTimeout 86) = false ∧ Instr.wf (.voteTimeout 85) = true := by decide
theorem test_wf_sensor : Instr.wf (.thermalSample 8 0) = false ∧ Instr.wf (.thermalSample 7 0) = true := by decide
theorem test_wf_tamper : Instr.wf (.tamperFilter 2) = false ∧ Instr.wf (.tamperFilter 1) = true := by decide
theorem test_wf_kid : Instr.wf (.keyRetireDone 64) = false ∧ Instr.wf (.keyRetireDone 63) = true := by decide
theorem test_wf_boot_mode : Instr.wf (.resetRelease 8 0 false) = false ∧ Instr.wf (.resetRelease 7 63 true) = true := by decide
theorem test_wf_slot : Instr.wf (.resetRelease 0 64 false) = false ∧ Instr.wf (.resetRelease 0 63 false) = true := by decide
theorem test_wf_stylus_address : Instr.wf (.stylusRead (2 ^ 48) 4) = false ∧ Instr.wf (.stylusRead 0 4) = true := by decide
theorem test_no_word_spells_a_command : decodeTableWord 32 0 = none := rfl

/-! ## Worked examples of the manual -/

/-- The map of the example shelf (section 8.2). -/
def exMap : List Region := [{ base := 0, size := 128, first := 0, count := 16, grain := 12, hash := true, chBase := 0 }]

/-- Section 8.2: 0x0010_0ABC_D123 is byte 0x00AB_C123 of channel 0; without the hash the line is on channel 13. -/
theorem test_dram_map : dramDecode exMap 0x00100ABCD123 = some (0, 0xABC123) ∧ (dramDecode (exMap.map (fun r => { r with hash := false })) 0x00100ABCD123).map (·.1) = some 13 := by decide
/-- Section 8.2: local byte 0x00AB_C123 is bank group 2, bank 1, row 0x55. -/
theorem test_dram_place : placeOf {} (0xABC123 / 64) = (2 * 4 + 1, 0x55) := by decide
/-- Section 8.6: all sixteen lines k x 0x1_1000 fall on channel 0. -/
theorem test_dram_conflict : (List.range 16).all (fun k => (dramDecode exMap (0x001000000000 + k * 0x11000)).map (·.1) == some 0) = true := by decide
/-- Section 9.1: 0x0001_01A4_56C8 is in Basin group 3, bank 3. -/
theorem test_basin_address : addrTarget [] 0x000101A456C8 = some 0x0B ∧ bankOfLine (0x000101A456C8 / 64) = 3 := by decide
/-- Section 1.7: the data memory of engine 13 belongs to endpoint 0x43; the hole before it is DECODE. -/
theorem test_engine_address : dmBase 13 = 0x000200360000 ∧ addrTarget [] 0x000200360000 = some 0x43 ∧ addrTarget [] 0x000200350000 = none := by decide
/-- Section 2.8: aperture 1 with BASE 0x1812 reaches DRAM line 0x0012_0000_1000 under KID 6. -/
theorem test_bar2 : bar2Addr { State.reset with host := { apertures := [(1, (true, 0x1812))] } } 0x100001000 = 6 * 2 ^ 42 + 0x001200001000 := by decide
/-- Section 2.9: engine 13 owns LOCK7 as 0x143; another engine reads 0x8143, and 0xC143 while it is halted. -/
theorem test_lock_values : ownerId { src := 0x43, addr := 0x0B8000E8 } = 0x143 ∧ lockValue { held := true, owner := 0x143 } = 0x8143 ∧ lockValue { held := true, owner := 0x143, paused := true } = 0xC143 := by decide
/-- Section 3.4: the path E, E, E, E, L0 from (0, 1) to (4, 1) is ROUTE 0x5492, and the entry passes every check. -/
theorem test_route_entry : packRoute [2, 2, 2, 2, 5] = 0x5492 ∧ ([1, 2, 3, 4, 5, 6, 8].all (fun k => (entryFault State.reset 0x07 k 0x05 0x8000000000005492).isNone)) = true := by decide
/-- Section 4.5: the route E, L0 from (0, 0) reaches reach 0 at (1, 0) with one die crossing. -/
theorem test_sluice_route : packRoute [2, 5] = 0x2A ∧ walkRoute 0 [2, 5] = [(0, 2), (8, 5)] ∧ crossBefore (walkRoute 0 [2, 5]) 1 = 1 := by decide
/-- Section 7.6: circular addressing, forward and back. -/
theorem test_circular : wrapPtr 0x10F0 0x28 0x1000 0x100 = 0x1018 ∧ wrapPtr 0x1010 (2 ^ 32 - 0x28) 0x1000 0x100 = 0x10E8 := by decide
/-- Section 7.6: LDWX at 0x101 rotates the word right by 8, STWX back. -/
theorem test_rotate : rotRight 4 1 0x44332211 = 0x11443322 ∧ rotLeft 4 1 0x11443322 = 0x44332211 := by decide
/-- Section 7.7: MVAV rounds and clamps. -/
theorem test_round : rnd (2 ^ 30) 15 = 32768 ∧ sat16 32768 = (32767, true) ∧ rnd 19088743 11 = 9321 := by decide
/-- Section 7.7: the wrapped metric is still compared rightly. -/
theorem test_butterfly : butterfly 32700 32760 50 = ((32750, false), (0x802A, true)) := by decide
/-- Section 6.2: CRC-8 of one byte 0x01. -/
theorem test_crc8_byte : crc8 [1] = 0x07 := by decide
/-- Section 6.2: the nine ASCII digits. -/
theorem test_crc8_digits : crc8 [0x31, 0x32, 0x33, 0x34, 0x35, 0x36, 0x37, 0x38, 0x39] = 0xF4 := by simp [crc8, crc8Bit]
/-- R436: S = 3 + 5, M = 8 x (-2), R0 = 100 - M = 116; 116 rounded by 3 bits is 15. -/
theorem test_slice : (sliceGather { sum := .xPlusW, term := .r0, minus := true } { r0 := 100 } { x := 3, w := 5, y := 0xFFFFE }).r0 = 116 ∧ sliceOut { round := true, shift := 3 } { r0 := 116 } = (15, false) := by decide
/-- R436: the sum wraps modulo 2^24. -/
theorem test_slice_wrap : sliceM .xPlusW { x := 0x7FFFFF, w := 1, y := 1 } = -8388608 := by decide
/-- R376: port A's write wins, port B reads the old word, COLLB is raised. -/
theorem test_bram : bramCycle (5 : BitVec 32) { lo := 0, width := 8, write := some 7 } { lo := 4, width := 8, write := some 1 } = (7, 5, 0, true) := by decide
/-- Section 13.7: 1 966 080 slow ticks at INC_SLOW 2 000 040 000 add 30 x 2 000 040 000 ns. -/
theorem test_slow_time : 1966080 * 2000040000 = 30 * 2000040000 * 65536 := by decide

/-! ## Witnesses of the statements -/

theorem witness_EmptyQueueStepIsOneBraidCycle : State.reset.pending = [] := by decide

theorem witness_TimebaseCountsNanoseconds :
    (State.reset.pending = [] ∧ State.reset.tbase.slowDriven = false ∧ State.reset.slowPhase + 8 < 390625 ∧ State.reset.hwPhase < 3) ∧
    (({ State.reset with hwPhase := 3 } : State).pending = [] ∧ ({ State.reset with hwPhase := 3 } : State).tbase.slowDriven = false ∧ 3 ≤ ({ State.reset with hwPhase := 3 } : State).hwPhase) := by decide

theorem witness_MemoryKeepsItsCanonicalForm : MemOk { State.reset with mems := { mem := [(0x4000000, 1), (0x4000001, 0xFF)] } } ∧
    ∃ t, step { State.reset with mems := { mem := [(0x4000000, 1), (0x4000001, 0xFF)] }, pending := [.routerSleep 0] } = .next t := ⟨by unfold MemOk; decide, _, rfl⟩

theorem witness_LifeCycleMovesForwardOnly : FuseJobOk { State.reset with dbg := { boot := { fuseJob := some (1, 7) } } } ∧
    ∃ t, step { State.reset with dbg := { boot := { fuseJob := some (1, 7) } }, pending := [.fuseProgrammingDone true] } = .next t :=
  ⟨fun n j h => by cases h; decide, _, rfl⟩

theorem witness_EveryCommandStaysWithinItsParts : (∃ t, exec (.routerSleep 0) State.reset = .next t) ∧ StatePart.lanes ∉ touches (.routerSleep 0) := ⟨⟨_, rfl⟩, by decide⟩

def wNi (p : Packet) : State := { State.reset with time := 9000, braid := { nis := [(0, { queue := [p], orbs := [{ index := 3, pid := 12, deadline := some 5000, dst := 8 }] })] } }
def wPkt : Packet := { pid := 9, dst := 8, src := 0, op := .rd, orb := some 4, addr := 0x100000000, len := 8 }
theorem witness_RequestsEnterTheBraid :
    (epListed 0 = true ∧ (Op.rd) ≠ .rsp ∧ (Op.rd) ≠ .probe) ∧
    (wPkt.far = false ∧ addrTarget (mapOf (wNi wPkt) 0) wPkt.addr = some 8 ∧ fenced (wNi wPkt) 0 = false ∧ fenced (wNi wPkt) 8 = false ∧ (8 : Nat) ≠ 0 ∧
      ferryChanOf wPkt.addr = none ∧ (niOf (wNi wPkt) 0).down = false) ∧
    ((niOf (wNi wPkt) 0).queue.find? (fun q => q.pid == 9) = some wPkt ∧ mayInject (wNi wPkt) 0 wPkt = true ∧ wPkt.op ≠ .probe ∧ wPkt.orb.isSome = true ∧
      fromFar (wNi wPkt) wPkt = false ∧ (routeOf (wNi wPkt) 0 (legDst (wNi wPkt) 0 wPkt)).isSome = true ∧
      tget (niOf (wNi wPkt) 0).used 0 wPkt.vc + flitCount wPkt ≤ vcDepth wPkt.vc) ∧
    ((niOf (wNi wPkt) 0).orbs.find? (fun o => o.index == 3) = some { index := 3, pid := 12, deadline := some 5000, dst := 8 } ∧ 5000 < braidNow (wNi wPkt) ∧
      wholePacket (wNi wPkt) 0 12 = none) := by and_intros <;> decide

def wFlit : Flit := { pkt := { pid := 5, dst := 8, src := 0x40, op := .wr, vc := 0, len := 200, route := 2 }, idx := 1, isHead := false, at_ := 100, ageFrom := 100 }
def wHead : Flit := { wFlit with idx := 0, isHead := true }
def wRouter (n : Router) : State := { State.reset with time := 20000, braid := { routers := [(9, n)], wires := [{ hop := .input 9 1, flit := wFlit, sentAt := 19000 }] } }
theorem witness_RoutersMoveFlits :
    (nextWire (wRouter {}) (.input 9 1) = some { hop := .input 9 1, flit := wFlit, sentAt := 19000 } ∧ (routerOf (wRouter {}) 9).dropping.contains wFlit.pkt.pid = false ∧ wFlit.isHead = false) ∧
    ((routerOf (wRouter { asleep := true, wakingSince := some 19976 }) 9).asleep = true ∧ (routerOf (wRouter { asleep := true, wakingSince := some 19976 }) 9).wakingSince = some 19976 ∧ 19976 + 24 ≤ (wRouter {}).time) ∧
    ((63 : Nat) < 64 ∧ maySleep { State.reset with time := 4096 } 63 = true) ∧
    ((1, wHead) ∈ (routerOf (wRouter { buf := [(1, wHead)] }) 9).buf ∧ wHead.isHead = true ∧ wHead.ageFrom + (wRouter {}).braid.ageQuantum ≤ (wRouter {}).time) ∧
    ((routerOf (wRouter { buf := [(1, wHead)] }) 9).asleep = false ∧ sentNow (wRouter { buf := [(1, wHead)] }) 9 2 = false ∧ calEntry (wRouter {}).sluice.committed 9 2 (braidNow (wRouter {}) % 1024) = none ∧
      tfind (routerOf (wRouter { buf := [(1, wHead)] }) 9).busy 2 = none ∧ arbWinner (wRouter { buf := [(1, wHead)] }) 9 2 = some 0 ∧
      frontFlit (routerOf (wRouter { buf := [(1, wHead)] }) 9) (candPort 0) (candVc 0) = some wHead ∧ wHead.pkt.urg ≠ 15) ∧
    ((1 : Nat) < 5 ∧ neighbour 9 1 ≠ 9 ∧ (routerOf (wRouter { owed := [(1, 0, 20000)] }) 9).owed.find? (fun c => c.1 == 1 && c.2.1 == 0 && decide (c.2.2 ≤ (wRouter {}).time)) = some (1, 0, 20000)) ∧
    ((epAt 32 5).isSome = true ∧ (routerOf { State.reset with braid := { routers := [(32, { owed := [(5, 0, 0)] })] } } 32).owed.find? (fun c => c.1 == 5 && c.2.1 == 0 && decide (c.2.2 ≤ 0)) = some (5, 0, 0)) := by and_intros <;> decide

def wAt (ep : Nat) (p : Packet) (o : Op) : State :=
  { State.reset with time := 9000, braid := { wires := [{ hop := .ni ep, flit := { pkt := { p with op := o, len := 0 } }, sentAt := 100 }], nis := [(ep, { orbs := [{ index := 3, pid := 9, deadline := some 9000, dst := 8 }] })] } }
theorem witness_PacketsReachTheirTargets :
    ((wholePacket (wAt 8 wPkt .rd) 8 9).isSome = true ∧ wPkt.ev = none ∧ leaving (wAt 8 wPkt .rd) wPkt = false ∧ isQuad 8 = false ∧ clockStopped (wAt 8 wPkt .rd) (epDomain 8) = false ∧ firstAtNi (wAt 8 wPkt .rd) 8 wPkt = true) ∧
    ((wholePacket (wAt 0x57 wPkt .rd) (0x40 + 23) 9).isSome = true) ∧
    (wPkt.debug = false ∧ wPkt.dma = false ∧ gateClosed (wAt 8 wPkt .rd) 8 = false ∧ wPkt.op ≠ .msg ∧ wPkt.op ≠ .atom ∧ addrTarget State.reset.dram.map wPkt.addr = some 8 ∧ isReach 8 = false ∧ 0x10000000 ≤ wPkt.addr ∧ wPkt.wait ≤ 0xFFFF) ∧
    ((wholePacket (wAt 8 wPkt .probe) 8 9).isSome = true ∧ firstAtNi (wAt 8 wPkt .probe) 8 wPkt = true) ∧
    ((wholePacket (wAt 0 wPkt .rsp) 0 9).isSome = true ∧ wPkt.far = false ∧ wPkt.poison = [] ∧ forcedShut (wAt 0 wPkt .rsp) 0 = false ∧
      (niOf (wAt 0 wPkt .rsp) 0).orbs.find? (fun o => o.pid == 9) = some { index := 3, pid := 9, deadline := some 9000, dst := 8 } ∧ arrivedAt (wAt 0 wPkt .rsp) 0 9 - (wAt 0 wPkt .rsp).braid.epoch ≤ 9000 + 1) := by and_intros <;> decide

def wGate (g : Nat) (x : Gate) : State := { State.reset with time := 9000, braid := { gates := [(g, x)], nis := [(8, { swapPending := true })], maint := some { router := 9, step := 2 }, tokens := [{ id := 7, kind := .grant 5 }] } }
theorem witness_GatesAndTableSwaps :
    (isGate 85 = true ∧ (gateOf (wGate 85 { st := .fencing }) 85).st = .fencing ∧ gateIdle (wGate 85 { st := .fencing }) 85 = true) ∧
    (isGate 0x13F = true ∧ (gateOf (wGate 0x13F { st := .fencing, since := 1000, limit := 8000 }) 0x13F).st = .fencing ∧ (gateOf (wGate 0x13F { st := .fencing, since := 1000, limit := 8000 }) 0x13F).timedOut = false ∧
      (gateOf (wGate 0x13F { st := .fencing, since := 1000, limit := 8000 }) 0x13F).since + (gateOf (wGate 0x13F { st := .fencing, since := 1000, limit := 8000 }) 0x13F).limit ≤ (wGate 0 {}).time) ∧
    ((niOf (wGate 0 {}) 8).swapPending = true) ∧
    ((wGate 0 {}).braid.maint = some { router := 9, step := 2 } ∧ (wGate 0 {}).braid.commitJob = none ∧ (gateOf (wGate 0 {}) (0x100 + 9)).st = .opened) ∧
    ((wGate 0 {}).braid.tokens.find? (fun t => t.id == 7) = some { id := 7, kind := .grant 5 }) := by and_intros <;> decide

def wFlow : Flow := { flow := 3, src := 0, dst := 8, slots := [1023] }
def wSluice (q : List Released) (t : Nat) : State := { State.reset with time := t, sluice := { committed := [wFlow], queue := q, commitB := some 960, shadow := [] } }
def wNoSwap (q : List Released) (t : Nat) : State := { State.reset with time := t, sluice := { committed := [wFlow], queue := q } }
theorem witness_Vc2FlitsArePresented :
    (epListed 0 = true ∧ outClamped (wNoSwap [] 1023) 0 = false ∧ clockStopped (wNoSwap [] 1023) (epDomain 0) = false ∧ flowAt (wNoSwap [] 1023).sluice.committed 0 4 = none) ∧
    (flowAt (wNoSwap [] 1023).sluice.committed 0 3 = some wFlow ∧ fenced (wNoSwap [] 1023) 0 = false ∧ fenced (wNoSwap [] 1023) 8 = false ∧ (niOf (wNoSwap [] 1023) 0).down = false ∧ slotOpen (wNoSwap [] 1023) wFlow = true) ∧
    (slotOpen (wNoSwap [] 1022) wFlow = false ∧ flowAt (wNoSwap [] 1022).sluice.committed 0 3 = some wFlow ∧ fenced (wNoSwap [] 1022) 0 = false ∧ fenced (wNoSwap [] 1022) 8 = false) := by and_intros <;> decide

theorem witness_Vc2FlitsLeaveInTheirSlots :
    ((wNoSwap [{ ep := 0, flow := 3 }] 1023).sluice.queue.find? (fun r => r.ep == 0 && r.flow == 3)).isSome = true ∧ flowAt (wNoSwap [] 1023).sluice.committed 0 3 = some wFlow ∧
    slotOpen (wNoSwap [{ ep := 0, flow := 3 }] 1023) wFlow = true ∧ fenced (wNoSwap [{ ep := 0, flow := 3 }] 1023) 0 = false ∧ fenced (wNoSwap [{ ep := 0, flow := 3 }] 1023) 8 = false ∧
    (niOf (wNoSwap [{ ep := 0, flow := 3 }] 1023) 0).down = false ∧ clockStopped (wNoSwap [{ ep := 0, flow := 3 }] 1023) (braidDomain (colOf (epRouter 0))) = false := by and_intros <;> decide

theorem witness_CalendarsSwapAtTheirTime :
    ((wSluice [] 1024).sluice.commitB = some 960 ∧ (wSluice [] 1024).sluice.commitKind = .command ∧ 960 + 64 ≤ braidNow (wSluice [] 1024)) ∧
    ((modSluice (wSluice [] 1024) (fun y => { y with commitKind := .suspend })).sluice.commitKind = .suspend ∧ 960 + 64 ≤ braidNow (modSluice (wSluice [] 1024) (fun y => { y with commitKind := .suspend }))) ∧
    ((modSluice (wSluice [] 1024) (fun y => { y with commitKind := .resume, suspended := some [wFlow] })).sluice.suspended = some [wFlow] ∧
      960 + 64 ≤ braidNow (modSluice (wSluice [] 1024) (fun y => { y with commitKind := .resume, suspended := some [wFlow] }))) ∧
    ((wSluice [] 1023).sluice.commitB = some 960 ∧ braidNow (wSluice [] 1023) < 960 + 64) := by and_intros <;> decide

def wInbox (p : Packet) (c : Channel) : State := { State.reset with time := 500, braid := { inbox := [{ ep := 5, pkt := p, came := 498, at_ := 498 }] }, ferry := { chans := [(3, c)], resetting := false } }
def wFerryPkt (o : Nat) (b : Byte) : Packet := { pid := 7, op := .wrp, addr := 0xA00600 + o, src := 0x42, dst := 5, len := 4, data := [b, 0, 0, 0] }
theorem witness_MessagesArePostedAndTaken :
    ((ferryWriteAt (wInbox (wFerryPkt 0x3C 9) {}) 7).isSome = true ∧ chanOfPkt (wFerryPkt 0x3C 9) = 3 ∧ msgOpen ({} : Channel) = true ∧ (wFerryPkt 0x3C 9).addr % 0x200 + 4 ≤ 0x40) ∧
    ((ferryWriteAt (wInbox (wFerryPkt 0x80 1) {}) 7).isSome = true ∧ (wFerryPkt 0x80 1).addr % 0x200 = 0x80 ∧ bit (leAt (wFerryPkt 0x80 1).data 0 1) 0 = true ∧ (chanOf (wInbox (wFerryPkt 0x80 1) {}) 3).st = .empty) ∧
    ((ferryWriteAt (wInbox (wFerryPkt 0x80 0) { st := .posted }) 7).isSome = true ∧ bit (leAt (wFerryPkt 0x80 0).data 0 1) 0 = false ∧ (chanOf (wInbox (wFerryPkt 0x80 0) { st := .posted }) 3).st = .posted) ∧
    ((3, ({ st := .posted, postedAt := 462 } : Channel)) ∈ (wInbox (wFerryPkt 0 0) { st := .posted, postedAt := 462 }).ferry.chans) ∧
    (serves { State.reset with ferry := { chans := [(3, { st := .posted })], irq := true, ready := true } } = true ∧
      nextChannel { State.reset with ferry := { chans := [(3, { st := .posted })], irq := true, ready := true } } = some 3) := by and_intros <;> decide

def wServing : Serving := { ch := 3, opcode := 0x100, seq := 9, target := 0xFFFF, flags := 0, len := 0, payload := [], qwait := 0, takenAt := 0, reply := some { code := 0 } }
def wRec : Rec := { ev := 60, cause := 3, sev := 1, detail := [], tb := 0, count := 1 }
theorem witness_HeadwaterAnswersAndNotifies :
    (({ State.reset with ferry := { serving := some wServing } } : State).ferry.serving = some wServing ∧ wServing.waitingFor = 0 ∧ (chanOf State.reset 3).wdraw = false) ∧
    (let s : State := { State.reset with time := 10, ferry := { notify := [(99, true, 10), (95, false, 6), (100, false, 6), (101, false, 6), (105, false, 6), (106, false, 6)] }, delta := { ports := [(3, { bind := some (105, 9) })] } };
     notifyDue s 99 = true ∧ notifyDue s 95 = true ∧ notifyDue s 100 = true ∧ notifyDue s 101 = true ∧ notifyDue s 105 = true ∧ notifyDue s 106 = true ∧ boundDev s 105 = some 9) ∧
    (evDefault State.reset 60 3 [] = some 1 ∧ nextSource { State.reset with events := { pend := [(60, { r := wRec, arrived := true })] } } = some 60 ∧ State.reset.events.takenAt ≠ some (hwCycle State.reset)) ∧
    (({ State.reset with ferry := { ready := true, chans := [(3, { st := .done })] } } : State).ferry.ready = true) := by and_intros <;> decide

theorem witness_HeadwaterResetsAndRestarts :
    (let s : State := { State.reset with ferry := { resetting := true, switchPending := true }, dbg := { boot := { loaded := true } }, rill := [.kick 3], events := { pend := [(420, { r := { wRec with ni := none } })] } };
     s.dbg.boot.loaded = true ∧ s.ferry.resetting = true ∧ s.ferry.recovery = false ∧ s.ferry.serving = none ∧ stagedImage s = 1 ∧ stagedImage { s with dbg := { boot := { fwImage := 1 } } } = 0 ∧ tfind s.events.pend 420 = some { r := { wRec with ni := none } } ∧ s.rill = .kick 3 :: [] ∧ rillRuns s = true ∧ (inboxAny (wInbox (wFerryPkt 0 0) {}) 7).isSome = true) := by and_intros <;> decide

def wLock (o : Op) (l : Lock) (data : List Byte) : State :=
  { State.reset with time := 16000001, braid := { inbox := [{ ep := 0x5C, pkt := { pid := 7, op := o, addr := 0xB80020, src := 0x42, dst := 0x5C, len := 4, data := data }, came := 5, at_ := 5 }] }, locks := { locks := [(1, l)] } }
theorem witness_LocksAreTakenAndReleased :
    ((lockRequest (wLock .rd {} []) 7).isSome = true ∧ (lockOf (wLock .rd {} []) 1).held = false) ∧
    ((lockRequest (wLock .rd { held := true, owner := 0x43 } []) 7).isSome = true ∧ (lockOf (wLock .rd { held := true, owner := 0x43 } []) 1).held = true) ∧
    ((lockRequest (wLock .wr { held := true, owner := 0x42 } [0x42, 0, 0, 0]) 7).isSome = true ∧ (lockOf (wLock .wr { held := true, owner := 0x42 } []) 1).owner = 0x42 ∧ leAt [(0x42 : Byte), 0, 0, 0] 0 4 = 0x42) ∧
    ((lockRequest (wLock .wr { held := true, owner := 0x43 } [0x42, 0, 0, 0]) 7).isSome = true ∧ ¬ (lockOf (wLock .wr { held := true, owner := 0x43 } []) 1).owner = 0x42) ∧
    (lockConflict State.reset = false ∧ lockUsed State.reset = false ∧ State.reset.locks.hwWaiting = none ∧ lockConflict (wLock .rd {} []) = true ∧ lockUsed (wLock .rd {} []) = false ∧ (wLock .rd {} []).locks.braidFirst = true ∧ accessFirst { wLock .rd { held := true } [] with braid := {} } 1 = false) ∧
    ((lockOf (wLock .wr { held := true, owner := 0x43, since := 1 } []) 1).paused = false ∧ (wLock .wr { held := true, owner := 0x43, since := 1 } []).locks.holdMax * usCycles ≤ lockRan (wLock .wr {} []) { held := true, owner := 0x43, since := 1 }) := by and_intros <;> decide

theorem witness_AWriteOfTheOwnerReleasesALock :
    ((lockRequest (wLock .wr { held := true, owner := 0x42 } [0x42, 0, 0, 0]) 7).isSome = true ∧ (lockOf (wLock .wr { held := true, owner := 0x42 } []) 1).owner = 0x42 ∧ leAt [(0x42 : Byte), 0, 0, 0] 0 4 = 0x42) ∧
    ((lockRequest (wLock .wr { held := true, owner := 0x43 } [0x42, 0, 0, 0]) 7).isSome = true ∧ ¬ (lockOf (wLock .wr { held := true, owner := 0x43 } []) 1).owner = 0x42) := by and_intros <;> decide

def wReg (ep o len : Nat) (op : Op) : State :=
  { State.reset with time := 100, braid := { inbox := [{ ep := ep, pkt := { pid := 7, op := op, addr := 0x200000 * ep + o, src := 0x42, dst := ep, len := len }, came := 50, at_ := 50 }] }, host := { apertures := [(2, (true, 1))] } }
theorem witness_HostAndRegisterAccesses :
    ((tget (wReg 0 0 0 .rd).host.apertures (false, 0) (0x200000010 / 2 ^ 32 % 16)).1 = true ∧ (tget (wReg 0 0 0 .rd).host.apertures (false, 0) (0x10 / 2 ^ 32 % 16)).1 = false) ∧
    ((inboxAny (wReg 0x04 0 4 .wr) 7).isSome = true ∧ ((inboxAny (wReg 0x04 0 4 .wr) 7).bind (fun d => braidWrite d (wReg 0x04 0 4 .wr))).isSome = true) ∧
    ((regRead (wReg 0x5A 0x100 4 .rd) 7 0x5A).map (·.2) = some 0x100 ∧ (regRead (wReg 0x5A 0x104 4 .rd) 7 0x5A).map (·.2) = some 0x104 ∧ (regRead (wReg 0x01 0x40 8 .rd) 7 0x01).isSome = true) := by and_intros <;> decide

def wLane (y : Lane) (p : LanePath) (x : PllState) : State := { State.reset with lanes := { lanes := [(7, y)], paths := [(7, p)], plls := [(1, x)] } }
theorem witness_LanesComeUpAndFall :
    (pllSt (wLane {} {} (.starting 1)) 1 = .starting 1 ∧ pllSt (wLane {} {} (.locked 1)) 1 = .locked 1 ∧ (laneOf (wLane { rx := .pllWait } {} .off) 7).rx = .pllWait ∧ (pathOf (wLane {} {} .off) 7).setJob = none) ∧
    ((laneOf (wLane { rx := .signalWait } {} .off) 7).rx = .signalWait ∧ (laneOf (wLane { rx := .cdrAcq } {} .off) 7).rx = .cdrAcq ∧ (laneOf (wLane { rx := .adaptInit } {} .off) 7).rx = .adaptInit) ∧
    ((laneOf (wLane { rx := .lockHunt, mode := 1 } { goodHdr := 128 } .off) 7).mode = 1 ∧ 128 ≤ (pathOf (wLane {} { goodHdr := 128 } .off) 7).goodHdr) ∧
    ((laneOf (wLane { rx := .frameHunt } { goodFrames := 4 } .off) 7).rx = .frameHunt ∧ 4 ≤ (pathOf (wLane {} { goodFrames := 4 } .off) 7).goodFrames) ∧
    ((laneOf (wLane { rx := .up, mode := 1 } {} .off) 7).rx = .up ∧ 24 ≤ ((pathOf (wLane {} { hdrWindow := List.replicate 24 false } .off) 7).hdrWindow.filter (fun v => !v)).length ∧ 4 ≤ (pathOf (wLane {} { badFrames := 4 } .off) 7).badFrames) ∧
    ((pathOf (wLane {} { moving := some .quiet } .off) 7).moving = some .quiet ∧ LanePwr.quiet ≠ .slackwater ∧ (laneOf (wLane { pwr := .active } {} .off) 7).pwr ≠ .slackwater ∧ (laneOf (wLane { pwr := .slackwater } {} .off) 7).energy = false) := by and_intros <;> decide

def wStream (y : Lane) (p : LanePath) : State :=
  { wLane y p .off with time := 90, braid := { inbox := [{ ep := 0x21, pkt := { pid := 7, op := .wrp, addr := 0x200000 * 0x21 + 0x1C0000, src := 0x30, dst := 0x21, len := 2, data := [1, 2] }, came := 50, at_ := 50 }] } }
theorem witness_NativeLanesCarryFrames :
    ((laneOf (wStream { mode := 1, rx := .frameHunt } { rxRaw := List.replicate 5280 false }) 7).rx = .frameHunt ∧ (laneOf (wStream { mode := 1, rx := .up } {}) 7).rx = .up ∧
      (pathOf (lineIn 7 [] (wStream { mode := 1, rx := .up } { rxRaw := List.replicate 5280 false })) 7).rxRaw = List.replicate 5280 false ++ [] ∧ (List.replicate 5280 false).length = 5280) ∧
    (sends (wStream { mode := 1 } { transmitting := true }) 7 = true ∧ portOfLane (wStream { mode := 1 } {}) 7 = none ∧ (pathOf (wStream {} {}) 7).loopMode ≠ 2) := by
  refine ⟨⟨by decide, by decide, rfl, List.length_replicate⟩, by decide⟩

theorem witness_PassStreamsAndAdaptation :
    ((laneOf (wStream { mode := 2, rx := .up } { rxRaw := List.replicate 66 false }) 7).scramble = false ∧ (pathOf (lineIn 7 [] (wStream { mode := 2, rx := .up } { rxRaw := List.replicate 66 false })) 7).rxRaw.length = 66 ∧
      (pathOf (lineIn 7 [] (wStream { mode := 2, rx := .up } {})) 7).loopMode = 0) ∧
    (8 * 2 ≤ (pathOf (wStream {} { rxBits := List.replicate 16 true }) 7).rxBits.length ∧ (pathOf (wStream {} {}) 7).rxBitsOff % streamWrap + 2 ≤ streamWrap ∧ reachBase 0x30 = some 0x10000000000) ∧
    ((inboxAny (wStream {} {}) 7).map (fun d => 4 * (d.ep - 0x20) + (d.pkt.addr % 0x200000 - 0x100000) / 0x40000) = some 7 ∧ (laneOf (wStream { mode := 2, txSrc := 0x30 } {}) 7).txSrc = 0x30 ∧ (pathOf (wStream {} {}) 7).txBits.length + 16 ≤ 32768) ∧
    (sends (wStream { mode := 2 } { transmitting := true }) 7 = true ∧ 65 ≤ (pathOf (wStream {} { txBits := List.replicate 65 true }) 7).txBits.length ∧ (laneOf (wStream { nextTx := some {}, pwr := .active } {}) 7).nextTx = some {}) ∧
    (trialOk ({ ffe := [0, 0, 0, 0, 0, 0, 0, 0], dfe := [] } : Coeffs) { coeffs := { ffe := [1, 0, 0, 0, 0, 0, 0, 0], dfe := [] } } = true) ∧
    ((hwWrite 0x100000000 [1, 2] State.reset).isSome = true) := by and_intros <;> decide

def wMsg (op ml tgt : Nat) (p : List Byte) : Serving := { ch := 96, opcode := op, seq := 9, target := tgt, flags := 0, len := ml, payload := padTo 56 p, qwait := 0, takenAt := 0 }
def wBytes (a : Nat) (l : List Byte) : List Host.Cell := (l.zipIdx.filter (fun x => x.1 != 0)).map (fun x => (a + x.2, x.1))
def wServe (v : Serving) : State := { State.reset with ferry := { serving := some v }, power := { on := [(63, true)] }, lanes := { lanes := [(7, { mode := 1, rx := .up })] } }
theorem wServed (v : Serving) (ml : Nat) (tg : Nat → Bool) (h : v.reply = none ∧ v.len ≤ ml ∧ tg v.target = true ∧ bit v.flags 1 = false) : Served (wServe v) v v.opcode ml tg := ⟨rfl, rfl, h⟩
def wSlotImage : List Byte := [5, 0, 7, 0x51, 1, 0, 1, 0, 32, 0, 0, 0, 50, 26, 112, 6, 1, 0, 7, 0, 3, 4, 5, 0, 0, 0, 0, 0, 0, 0, 0, 0]
def wSlots : State := { wServe (wMsg 0x202 16 0xFFFF [0, 0, 0, 0, 0, 0, 0, 0, 0, 0, 0, 0, 1]) with mems := { mem := wBytes 0x100000000 wSlotImage } }
set_option maxRecDepth 8000 in
theorem witness_LaneCommandsTakeEffect :
    (Served (wServe (wMsg 0x200 14 6 [1, 1, 0xFF])) (wMsg 0x200 14 6 [1, 1, 0xFF]) 0x0200 14 laneTarget ∧ modeArgsOk (wMsg 0x200 14 6 [1, 1, 0xFF]) = true ∧ (modeSettings (wServe (wMsg 0x200 14 6 [1, 1, 0xFF])) 1 0xFF 6).isSome = true ∧
      jobOn (wServe (wMsg 0x200 14 6 [])) 0x0200 6 = false ∧ (laneOf (wServe (wMsg 0x200 14 6 [])) 6).rx ≠ .up ∧ domOn (wServe (wMsg 0x200 14 6 [])) (laneDomain 6) = true ∧
      (quadLanes (pllOf 6)).any (fun m => m != 6 && (laneOf (wServe (wMsg 0x200 14 6 [])) m).mode != 0 && (laneOf (wServe (wMsg 0x200 14 6 [])) m).mode != 1) = false) ∧
    (Served (wServe (wMsg 0x201 3 7 [16, 24, 7])) (wMsg 0x201 3 7 [16, 24, 7]) 0x0201 3 laneTarget ∧ isPam4 (laneOf (wServe (wMsg 0x201 3 7 [])) 7).mode = true) ∧
    (pay (wMsg 0x202 16 0xFFFF [0, 0, 0, 0, 0, 0, 0, 0, 0, 0, 0, 0, 1]) 8 8 = 0x100000000 ∧ hwRead wSlots 0x100000000 16 = some (wSlotImage.take 16) ∧ slotHeaderBad (wSlotImage.take 16) = none ∧
      hwRead wSlots 0x100000000 32 = some wSlotImage ∧ slotTableBad wSlotImage = none) ∧
    (Served (wServe (wMsg 0x203 1 7 [1])) (wMsg 0x203 1 7 [1]) 0x0203 1 laneTarget ∧ portMember (wServe (wMsg 0x203 1 7 [1])) 7 = false) ∧
    (Served (wServe (wMsg 0x204 1 67 [1])) (wMsg 0x204 1 67 [1]) 0x0204 1 laneTarget) ∧
    (Served (wServe (wMsg 0x205 16 7 [0, 0, 0, 0, 7, 16])) (wMsg 0x205 16 7 [0, 0, 0, 0, 7, 16]) 0x0205 16 laneTarget ∧ scanOk (wMsg 0x205 16 7 [0, 0, 0, 0, 7, 16]) 1 = true ∧ (pathOf (wServe (wMsg 0x205 16 7 [])) 7).scan = none) ∧
    (Served (wServe (wMsg 0xA02 2 7 [2, 1])) (wMsg 0xA02 2 7 [2, 1]) 0x0A02 2 laneTarget) := by
  and_intros <;> first | exact wServed _ _ _ (by decide) | decide

def wPort (x : Port) : State := { State.reset with time := 90000, delta := { ports := [(8, x)] }, lanes := { lanes := [(8, { rx := .up })] }, crypto := { switching := [8] }, braid := { tokens := [{ id := 7, kind := .request 2 65 5 }] } }
def wHeadFlit : Flit := { pkt := { pid := 9, op := .rd, src := 0, dst := 8, len := 8 }, idx := 0, isHead := true, isLast := true }
/-- The blocks of a link flit as the far end sends them. -/
def wLinkBlocks (bad : Bool) : List RxBlk := (flitBlocks 0 3 511 0 wHeadFlit).map (fun b => { block := b, bad := bad })
set_option maxRecDepth 20000 in
theorem witness_LinkFlitsCrossADeltaLink :
    (((takeFlit (skipStream (8 == 64) (portOf (wPort { st := .up, rxStream := wLinkBlocks false }) 8).rxStream).2).map (fun x => (x.1.whole, x.1.bad, x.1.seq, x.1.lvc, x.2.length))) = some (true, false, 0, 3, 0)) ∧
    (((takeFlit (skipStream (8 == 64) (portOf (wPort { st := .up, rxStream := wLinkBlocks true }) 8).rxStream).2).map (fun x => x.1.bad)) = some true) ∧
    ((portOf (wPort { st := .up, txq := [(0, wHeadFlit)], credits := [(0, 1)] }) 8).txq.find? (fun e => decide (0 < tget (portOf (wPort { st := .up, txq := [(0, wHeadFlit)], credits := [(0, 1)] }) 8).credits 0 e.1)) = some (0, wHeadFlit)) ∧
    ((portOf (wPort { st := .up, resend := [{ seq := 0, lvc := 0, flit := wHeadFlit }] }) 8).resend = { seq := 0, lvc := 0, flit := wHeadFlit } :: []) ∧
    ((skipStream (8 == 64) (portOf (wPort { st := .init, rxStream := [{ block := linkctlBlock 0 0 1 (fun _ => 15) }] }) 8).rxStream).2 = [{ block := linkctlBlock 0 0 1 (fun _ => 15) }] ∧ isType (linkctlBlock 0 0 1 (fun _ => 15)) 0xD2 = true ∧ crcBlockOk (linkctlBlock 0 0 1 (fun _ => 15)) = true) ∧
    ((portOf (wPort { st := .up, replay := [{ seq := 0, lvc := 0, flit := wHeadFlit }], ackAt := 83600 }) 8).ackAt + 4 * usCycles ≤ 90000) := by and_intros <;> decide

theorem witness_DeltaPortsComeUpAndGoDown :
    ((portOf (wPort { st := .waitLanes, width := 1 }) 8).st = .waitLanes ∧ lanesUp (wPort { st := .waitLanes, width := 1 }) 8 = true ∧ skewOk (wPort { st := .waitLanes, width := 1 }) 8 = true) ∧
    (initDone (wPort { st := .init, width := 1, initSeen := true, credits := (List.range 8).map (fun v => (v, 32)), freed := [] }) 8 = true) ∧
    (downCause (wPort { st := .up, width := 1, replays := 16 }) 8 3 = true) ∧
    (((portOf (wPort { st := .up, rxBuf := [(0, wHeadFlit)] }) 8).rxBuf.find? (fun e => canEnter (wPort { st := .up, rxBuf := [(0, wHeadFlit)] }) 8 e.1)) = some (0, wHeadFlit) ∧ (frontPacket (wPort { st := .up, rxBuf := [(0, wHeadFlit)] }) 8 0).isSome = true) ∧
    (wHeadFlit.pkt.vc ≠ 2 ∧ wHeadFlit.pkt.op ≠ .rsp ∧ epListed wHeadFlit.pkt.dst = true ∧ fenced State.reset wHeadFlit.pkt.dst = false) ∧
    (8 ∈ (wPort {}).crypto.switching ∧ (wPort {}).braid.tokens.find? (fun t => t.id == 7) = some { id := 7, kind := .request 2 65 5 }) := by and_intros <;> decide

def wFarImage : List Byte := [6, 0, 0x20, 0xFA, 1, 0, 0, 0, 32, 0, 0, 0, 85, 75, 187, 236] ++ List.replicate 16 0
def wFar : State := { wServe (wMsg 0x801 16 0xFFFF [0, 0, 0, 0, 0, 0, 0, 0, 0, 0, 0, 0, 1]) with mems := { mem := wBytes 0x100000000 wFarImage } }
set_option maxRecDepth 8000 in
theorem witness_DeltaCommandsTakeEffect :
    (Served (wServe (wMsg 0x800 6 7 [1, 0])) (wMsg 0x800 6 7 [1, 0]) 0x0800 6 (fun t => decide (t < 64)) ∧ portShape 7 1 = true ∧ otherMember (wServe (wMsg 0x800 6 7 [1, 0])) 7 7 = false ∧ (laneOf (wServe (wMsg 0x800 6 7 [1, 0])) 7).mode = 1 ∧ (wServe (wMsg 0x800 6 7 [1, 0])).dbg.fuses.grade ≠ 2) ∧
    (Served (wServe (wMsg 0x800 6 7 [1, 1])) (wMsg 0x800 6 7 [1, 1]) 0x0800 6 (fun t => decide (t < 64)) ∧ portShape 7 1 = true ∧ otherMember (wServe (wMsg 0x800 6 7 [1, 1])) 7 7 = false ∧ (laneOf (wServe (wMsg 0x800 6 7 [1, 1])) 7).mode = 1 ∧ (portOf State.reset 7).st = .disabled) ∧
    (hwRead wFar 0x100000000 32 = some wFarImage ∧ farHeaderBad wFarImage = none ∧ leAt wFarImage 8 4 = 32 ∧ farImageBad wFar wFarImage = none) := by
  and_intros <;> first | exact wServed _ _ _ (by decide) | decide

def wTwin (w : Twin) (x : Port) (v : Serving) : State := { State.reset with time := 2000000000, twin := w, delta := { ports := [(64, x)] }, ferry := { serving := some v, ready := true }, power := { on := [(85, true)] }, lanes := { lanes := [64, 65, 66, 67].map (fun l => (l, { mode := 1, rx := .up })) } }
set_option maxRecDepth 20000 in
theorem witness_TwinMembersPairAndTakeOver :
    (Served (wTwin {} {} (wMsg 0x802 5 0xFFFF [3])) (wMsg 0x802 5 0xFFFF [3]) 0x0802 5 noTarget ∧ domOn (wTwin {} {} (wMsg 0x802 5 0xFFFF [3])) 85 = true ∧ (laneOf (wTwin {} {} (wMsg 0x802 5 0xFFFF [3])) 67).rx = .up ∧ ({} : Twin).role = .unpaired) ∧
    ((portOf (wTwin { pairing := some (0, 4, 7) } { st := .up } {}) 64).st = .up ∧ pairRole 0 0 { partnerActive := false, partnerRequestsActive := true, m := 9 } = .active ∧ pairRole 0 1 { partnerActive := false, partnerRequestsActive := true, m := 9 } = .standbyHot ∧ 7 + 1000 * msCycles ≤ (wTwin {} {} {}).time) ∧
    (beats (wTwin { role := .standbyHot, armed := true } {} {}) = true ∧ (wTwin {} {} {}).ferry.ready = true ∧ (wTwin { role := .active } {} {}).twin.armedAt + 200 * usCycles ≤ (wTwin {} {} {}).time) ∧
    ((skipStream true (portOf (wTwin { role := .standbyHot } { rxStream := [{ block := heartbeatBlock 3 0 7 0 }] } {}) 64).rxStream).2 = [{ block := heartbeatBlock 3 0 7 0 }] ∧ isType (heartbeatBlock 3 0 7 0) 0xD3 = true ∧
      (heartbeatOf (heartbeatBlock 3 0 7 0)).crcOk = true ∧ (heartbeatOf (heartbeatBlock 3 0 7 0)).role = 3 ∧ (heartbeatOf (heartbeatBlock 2 0 7 0)).crcOk = true ∧ (heartbeatOf (heartbeatBlock 2 0 7 0)).role = 2) ∧
    (pinSilent (wTwin { role := .standbyHot, missed := 2 } {} {}) = true ∧ (wTwin { role := .standbyHot, missed := 2 } {} {}).twin.lastHb + 110 * usCycles * 3 ≤ (wTwin {} {} {}).time ∧ mayTakeOver (wTwin { role := .fenced } {} {}) = true) ∧
    (Served (wTwin { role := .active } {} (wMsg 0x804 0 0xFFFF [])) (wMsg 0x804 0 0xFFFF []) 0x0804 0 noTarget) := by
  and_intros <;> first | exact ⟨rfl, rfl, by decide⟩ | decide

def wWin : Window := { start := 0x2000000000, length := 0x100000, bitmap := 0x2040000000, st := .tracked }
def wMirror (w : Twin) (v : Serving) : State := { wTwin w { st := .up } v with time := 5 }
def wMirSet : Serving := wMsg 0x803 32 7 ([0, 0, 0, 0, 0, 0, 0, 0] ++ leBytes 8 dramBase ++ leBytes 8 0x100000 ++ leBytes 8 (dramBase + 0x200000))
theorem witness_MirrorWindowsAreSetAndCleared :
    (Served (wMirror {} wMirSet) wMirSet 0x0803 32 (fun t => decide (t < 8 ∨ t = 0xFFFF)) ∧ pay wMirSet 16 8 = 0x100000 ∧ pay wMirSet 8 8 % 1048576 = 0 ∧ inDram (pay wMirSet 8 8) 0x100000 = true ∧ inDram (pay wMirSet 24 8) 32 = true ∧
      pay wMirSet 24 8 % 64 = 0 ∧ meetsSealed (wMirror {} wMirSet) (pay wMirSet 24 8) 32 = false ∧ overlaps (pay wMirSet 24 8) 32 (pay wMirSet 8 8) 0x100000 = false ∧ otherWindows (wMirror {} wMirSet) 7 = []) ∧
    (tfind (wMirror { windows := [(3, wWin)] } {}).twin.windows 3 = some wWin ∧ windowBusy (wMirror { windows := [(3, wWin)] } {}) wWin = false ∧ payZero (wMsg 0x803 32 3 [1]) 1 8 = true) ∧
    ((portOf (wMirror { role := .active, partnerHot := true } {}) 64).st = .up) := by
  and_intros <;> first | exact ⟨rfl, rfl, by decide⟩ | decide

theorem witness_MirroredWritesAreForwardedAndCompleted :
    ((wMirror { queue := [{ channel := 2, data := [1] }] } {}).twin.queue.find? (fun m => m.channel == 2 && !m.sent) = some { channel := 2, data := [1] } ∧ flitCount (mirrorPacket (wMirror {} {}) { channel := 2, data := [1] }) ≤ roomOn (portOf (wMirror {} {}) 64) 0 ∧
      clockStopped (wMirror {} {}) 85 = false ∧ (portOf (wMirror {} {}) 64).st = .up) ∧
    ((wMirror { answers := [(2, .ok)], queue := [{ channel := 2, sent := true }] } {}).twin.queue.find? (fun m => m.channel == 2 && m.sent) = some { channel := 2, sent := true }) ∧
    ((wMirror { answers := [(2, .timeout)] } {}).twin.answers = [(2, .timeout)] ∧ Status.timeout ≠ .ok ∧ nonPosted .wr = true) ∧
    ((wMirror { resyncJob := some 4, dirty := [5] } {}).twin.dirty.find? (fun p => !((wMirror { resyncJob := some 4, dirty := [5] } {}).twin.copied.contains p) && !(pageQueued (wMirror { resyncJob := some 4, dirty := [5] } {}) p)) = some 5 ∧
      mirrorFlits (wMirror { resyncJob := some 4, dirty := [5] } {}) + 48 ≤ 1024) := by and_intros <;> decide

set_option maxRecDepth 30000 in
theorem witness_TheStandbyAppliesMirroredState :
    ((wMirror { role := .standbyHot, mirrorKeys := true } {}).twin.role = .standbyHot ∧ (portOf (wMirror { role := .standbyHot } {}) 64).st = .up ∧ epListed 8 = true ∧ kidTarget 1 = true) ∧
    (calendarFault (wMirror { role := .standbyHot } {}) ([4, 0, 29, 92, 1, 0, 0, 0, 32, 0, 0, 0, 85, 75, 187, 236] ++ List.replicate 16 0) = none) ∧
    ((wMirror { role := .standbyHot } {}).sluice.commitB = none ∧ ({ wMirror { role := .standbyHot } {} with sluice := { commitB := some 960 } } : State).sluice.commitB = some 960) ∧
    ((wMirror { role := .active, outbox := [.item (.farTable [])] } {}).twin.outbox.contains (.item (.farTable [])) = true) := by and_intros <;> decide

def wEng (e : Engine) : State := { State.reset with time := 100, eng := { eng := [(5, e)] }, power := { on := [(7, true)] }, braid := { completions := [{ gid := 3, ep := 0x41, agent := 1, op := .rd, status := .ok, wait := 9, data := [1, 2, 3, 4], parts := [] }] } }
theorem witness_EnginesIssueAndTakeExceptions :
    (canIssue (wEng { st := .running }) 5 = true ∧ (fetchBundle 5 (wEng { st := .running })).1 = some (0, 0, 0) ∧ bundleFault (wEng { st := .running }) { st := .running } 0 0 0 = none ∧ bundleFault (wEng { st := .running }) { st := .running } 0x3C000000 0 0 = some (1, 0, 0)) ∧
    (decConflict { st := .running } 0x28000000 = false ∧ (decConflict { decAt := some 0 } 0x40000000 = true ∨ decConflict { decAt := some 0 } 0x20000000 = true ∨ decConflict { decAt := some 0 } 0x04000000 = true)) ∧
    (clockStopped (wEng {}) 7 = false ∧ isFrozen {} = false ∧ dueNow { inFlight := [{ left := 0, dest := .g 3, val := 7, order := 1 }] } = true ∧ (takeCompletion 3 (wEng {})).isSome = true) ∧
    (cleanAt { st := .running, r := { sr := [(0, 4), (14, 1), (15, 1)] } } = true ∧ irqPending { st := .running, r := { sr := [(0, 4), (14, 1), (15, 1)] } } = true) ∧
    (bit (stReg (drain { pend := none, excHalt := false })) 7 = false ∧ (drain { pend := none, excHalt := true }).excHalt = true) := by and_intros <;> decide

def wQuad (o : Nat) (b : Byte) (op : Op) (e : Engine) : State :=
  { wEng e with braid := { inbox := [{ ep := 0x41, pkt := { pid := 7, op := op, addr := (if o < 0x200000 then 0x200000 * 0x41 + o else o), src := 0, dst := 0x41, len := 4, data := [b, 0, 0, 0] }, came := 50, at_ := 50 }], completions := [{ gid := 3, ep := 0x41, agent := 5, op := .rd, status := .ok, data := [1] }] }, tbase := { wdts := [(5, { armed := true, timeout := 9 })] }, mems := { pwr := [(9, .on)], retries := [] } }
theorem witness_EngineControlMoverAndPortB :
    ((engWrite (wQuad 0x1100 2 .wr {}) 7 0x1000 0x100 0).map (·.2) = some (5, 2) ∧ bit 2 1 = true ∧ (engWrite (wQuad 0x1100 5 .wr {}) 7 0x1000 0x100 0).map (·.2) = some (5, 5) ∧ ({} : Engine).st = .reset) ∧
    ((engWrite (wQuad 0x2044 5 .wr {}) 7 0x2000 0x40 4).map (·.2) = some (5, 5) ∧ (engWrite (wQuad 0x2048 1 .wr {}) 7 0x2000 0x40 8).map (·.2) = some (5, 1) ∧ (engWrite (wQuad 0x3010 0xA5 .wr {}) 7 0x3000 0x10 0).map (·.2) = some (5, 0xA5)) ∧
    (memPwr (wQuad 0 0 .wr {}) (8 + 5 / 4) = .on) ∧
    ((engOf (wQuad 0 0 .wr { mover := { st := .run, pieces := [{ gid := 3, src := 0, dst := 0, len := 1, writing := false, row := 0 }] } }) 5).mover.pieces.find? (fun p => (wQuad 0 0 .wr {}).braid.completions.any (fun c => c.gid == p.gid && hasCome (wQuad 0 0 .wr {}) c)) = some { gid := 3, src := 0, dst := 0, len := 1, writing := false, row := 0 } ∧ (takeCompletion 3 (wQuad 0 0 .wr {})).isSome = true) ∧
    (clockStopped (wQuad 0 0 .wr {}) 7 = false ∧ engCycles (wQuad 0 0 .wr {}) 1 3 ≤ 100 ∧ (portBFind (wQuad 0x200150000 0 .wr {}) 7).isSome = true ∧ inIm 0x200150000 = false ∧ (wQuad 0 0 .wr {}).mems.retries.any (fun r => r.pid == 7) = false ∧ (portBFind { wQuad 0x200150000 0 .wr {} with mems := { retries := [{ pid := 7, word := 1, attempts := 3 }] } } 7).isSome = true ∧
      ({ wQuad 0x200150000 0 .wr {} with mems := { retries := [{ pid := 7, word := 1, attempts := 3 }] } } : State).mems.retries.find? (fun r => r.pid == 7) = some { pid := 7, word := 1, attempts := 3 }) ∧
    ((wdtOf (wQuad 0 0 .wr {}) 5).armed = true ∧ 2 * (wdtOf (wQuad 0 0 .wr {}) 5).count ≤ (wdtOf (wQuad 0 0 .wr {}) 5).timeout) := by and_intros <;> decide

def wMapR : Region := { base := 0, size := 1, first := 0, count := 1, grain := 8, hash := false, chBase := 0 }
def wDram (h : Chan) (x : ChanX) : State :=
  { State.reset with time := 90000000, dram := { chans := [(0, h)], chansX := [(0, x)], map := [wMapR], mapOld := [wMapR] }, power := { on := [(46, true)] }, braid := { inbox := [{ ep := 0x10, pkt := { pid := 7, op := .rd, addr := dramBase + 0x40, src := 0, dst := 0x10, len := 64 }, came := 50, at_ := 50 }] } }
def wActive : Chan := { pwr := .active, active := some {}, arr := some {} }
def wEntry : DEntry := { pid := 7, line := 1, addr := dramBase + 0x40, kind := .read, mask := fullMask }
theorem witness_DramChannelsServeRequests :
    ((inboxFind (wDram wActive {}) 0x10 7).isSome = true ∧ dramDecode (wDram wActive {}).dram.map (dramBase + 0x40) = some (0, 64) ∧ ((inboxFind (wDram wActive {}) 0x10 7).map (fun d => (firstOfSource (wDram wActive {}) d, dramRefusal (wDram wActive {}) 0 d.pkt 64, dramRoom (wDram wActive {}) 0 d.pkt (requestLines d.pkt 64)))) = some (true, none, true)) ∧
    (nextAccess (wDram { wActive with rq := [wEntry] } {}) 0 = some wEntry ∧ (∀ x ∈ [wEntry], kidSealed (wDram wActive {}) x.kid = false)) ∧
    ((dchOf (wDram { wActive with inProgress := [{ e := wEntry, kid := 0, t := 60 }] } {}) 0).inProgress = { e := wEntry, kid := 0, t := 60 } :: [] ∧ clockStopped (wDram wActive {}) 46 = false) ∧
    (rowAt (wDram { wActive with rows := [(3, { row := 1, hint := 0, last := 5 })] } {}) 0 3 = some { row := 1, hint := 0, last := 5 } ∧ 5 + nsCycles 32 ≤ (wDram {} {}).time) ∧
    ((dchOf (wDram { wActive with merge := [wEntry] } {}) 0).merge.find? (fun e => decide (e.at_ + nsCycles 256 ≤ (wDram {} {}).time) || e.mask == fullMask) = some wEntry) ∧
    ((dchX (wDram wActive {}) 0).lastRef + refreshTime (wDram wActive {}) 0 ≤ (wDram {} {}).time ∧ (dchX (wDram wActive {}) 0).actWin + nsCycles 64000 ≤ (wDram {} {}).time ∧ (dchX (wDram wActive {}) 0).lastReq + (dchOf (wDram wActive {}) 0).srIdle * usCycles ≤ (wDram {} {}).time) ∧
    (domOn (wDram wActive {}) 46 = true ∧ (∃ d ∈ (wDram wActive {}).braid.inbox, d.ep = 0x10 + 0 ∧ d.at_ + 768 ≤ (wDram {} {}).time) ∧ (dchX (wDram wActive {}) 0).lastDqs + msCycles ≤ (wDram {} {}).time ∧ (dchX (wDram wActive {}) 0).imbAt + msCycles ≤ (wDram {} {}).time) := by and_intros <;> decide

def wArr : List Byte := [0, 20, 16, 16, 1, 0]
def wDramCmd (v : Serving) (h : Chan) : State := { wServe v with dram := { chans := [(3, h)], walks := [], pass := none }, braid := { gates := [(49, { st := .drained })] }, power := { on := [(49, true)] } }
def wMapImage : List Byte := [8, 0, 0xA0, 0xD2, 1, 0, 0, 0, 32, 0, 0, 0, 85, 75, 187, 236] ++ List.replicate 16 0
def wMapMsg : Serving := wMsg 0x400 56 0xFFFF [1, 0, 0, 0, 0, 0, 0, 0, 0, 0, 0, 0, 1]
def wScour (n : Nat) : Serving := wMsg 0x404 32 0xFFFF ([1, 1, 9, 0, 0, 0, 0, 0] ++ leBytes 8 basinBase ++ leBytes 8 n)
def wPassSt (p : Pass) : State := { State.reset with dram := { pass := some p, walks := [(2, { memory := 1, rate := 4, start := basinBase, length := 64 })] }, time := 9000000 }
set_option maxRecDepth 8000 in
theorem witness_DramAndScourCommandsTakeEffect :
    (Served (wDramCmd (wMsg 0x400 56 3 wArr) {}) (wMsg 0x400 56 3 wArr) 0x0400 56 (fun t => chanTarget t || noTarget t) ∧ arrOk (arrOf (wMsg 0x400 56 3 wArr)) = true ∧ payZero (wMsg 0x400 56 3 wArr) 5 6 = true ∧ payZero (wMsg 0x400 56 3 wArr) 26 56 = true ∧
      chanOpen (wDramCmd (wMsg 0x400 56 3 wArr) {}) 3 = false ∧ chanBusy (wDramCmd (wMsg 0x400 56 3 wArr) {}) 3 = false) ∧
    (hwRead { wDramCmd wMapMsg {} with mems := { mem := wBytes 0x100000000 wMapImage } } 0x100000000 32 = some wMapImage ∧ pay wMapMsg 8 8 = 0x100000000 ∧ mapHeaderBad wMapImage = none ∧ leAt wMapImage 8 4 = 32 ∧ mapImageBad (wDramCmd wMapMsg {}) wMapImage = none ∧ mapTouchesOpen (wDramCmd wMapMsg {}) [] = false) ∧
    (Served (wDramCmd (wMsg 0x401 0 3 []) { arr := some {} }) (wMsg 0x401 0 3 []) 0x0401 0 chanTarget ∧ domOn (wDramCmd (wMsg 0x401 0 3 []) {}) 49 = true) ∧
    (Served (wDramCmd (wMsg 0x402 8 3 [1, 0, 0, 0, 0xF0]) {}) (wMsg 0x402 8 3 [1, 0, 0, 0, 0xF0]) 0x0402 8 chanTarget ∧ excludedMeets (wDramCmd (wMsg 0x402 8 3 [1, 0, 0, 0, 0xF0]) {}) 3 0xF0 (mustKeep (wDramCmd (wMsg 0x402 8 3 []) {}) 3) = false) ∧
    (Served (wDramCmd (wMsg 0x405 6 3 [8, 0, 1, 0, 100, 0]) {}) (wMsg 0x405 6 3 [8, 0, 1, 0, 100, 0]) 0x0405 6 (fun t => chanTarget t || noTarget t) ∧ pay (wMsg 0x405 6 3 [8, 0, 1, 0, 100, 0]) 4 2 = 100) ∧
    (Served (wDramCmd (wMsg 0x406 4 3 [1, 0, 79, 1]) {}) (wMsg 0x406 4 3 [1, 0, 79, 1]) 0x0406 34 chanTarget ∧ (wDramCmd (wMsg 0x406 4 3 [1, 0, 79, 1]) {}).dbg.fuses.life ≠ .secured) ∧
    (Served (wDramCmd (wMsg 0x403 24 7 (wScour 64).payload) {}) (wMsg 0x403 24 7 (wScour 64).payload) 0x0403 24 (fun t => decide (t < 8)) ∧ scourRangeOk 1 basinBase 64 = true ∧ pay (wScour 64) 8 8 = basinBase ∧ pay (wScour 64) 16 8 = 64 ∧ payZero (wScour 64) 4 8 = true) ∧
    (tfind (wPassSt {}).dram.walks 2 = some { memory := 1, rate := 4, start := basinBase, length := 64 } ∧ scourGap 4 ≤ (wPassSt {}).time) ∧
    ((passAbsorb (wPassSt { start := basinBase, length := 64 })).dram.pass = some { start := basinBase, length := 64 } ∧ passWaits (passAbsorb (wPassSt {})) = false ∧ clockStopped (wPassSt {}) 1 = false ∧ scourGap ({} : Pass).rate ≤ (wPassSt {}).time) ∧
    ((hwWrite basinBase [1] (modDram (passAbsorb (wPassSt { start := basinBase, length := 64, pos := 64, resultAddr := basinBase })) (fun d => { d with pass := none }))).isSome = true) := by
  and_intros <;> first | exact ⟨rfl, rfl, by decide⟩ | decide

def wBasin (b : BGroup) (p : MemPwr) : State := { State.reset with time := 100000, mems := { groups := [(2, b)], pwr := [(2, p)] }, power := { on := [(79, true)], retIdle := [(79, 4)] }, braid := { inbox := [{ ep := 0x0A, pkt := { pid := 7, op := .rd, addr := basinBase + 0x1000000, src := 0, dst := 0x0A, len := 8 }, came := 50, at_ := 50 }] } }
def wDel : Delivered := { ep := 0x0A, pkt := { pid := 7, op := .rd, addr := basinBase + 0x1000000, src := 0, dst := 0x0A, len := 8 }, came := 50, at_ := 50 }
theorem witness_BasinServesAndMemoriesSleep :
    (inboxFind (wBasin {} .on) (0x08 + 2) 7 = some wDel ∧ memPwr (wBasin {} .on) 2 = .on ∧ firstOfSource (wBasin {} .on) wDel = true) ∧
    ((bgroupOf (wBasin { queue := [wDel] } .on) 2).queue = wDel :: [] ∧ banksFree (wBasin {} .on) 2 (lineAccesses wDel.pkt) = true ∧ clockStopped (wBasin {} .on) 79 = false) ∧
    (∀ w ∈ wordsOf wDel.pkt.addr wDel.pkt.len, (wordTag (wBasin {} .on) w).poisoned = false ∧ (wordTag (wBasin {} .on) w).bits = 0) ∧
    ((bgroupOf (wBasin { merge := [{ word := 5, data := [1], mask := 1 }] } .on) 2).merge.find? (fun e => decide (e.at_ + 64 ≤ 100000)) = some { word := 5, data := [1], mask := 1 }) ∧
    (unitIdle { State.reset with time := 100000, mems := { groups := [(2, {})], pwr := [(2, .on)] }, power := { on := [(79, true)], retIdle := [(79, 4)] } } (.basin 2) = true ∧ wakeDue (wBasin {} .retention) (.basin 2) = true ∧ domOn (wBasin {} .init) (memDomain (unitOf (.basin 2))) = true) := by and_intros <;> decide

def wCry (v : Serving) (c : Crypto) : State := { wServe v with crypto := c, dbg := { fuses := { life := .provisioned, cryptoS := true } }, dram := { map := [{ base := 0, size := 64 }] }, delta := { ports := [(5, { encrypt := true, keysel := 0 })] } }
def wKey : Crypto := { slots := [(4, { st := .installed, key := [1] })], linkSlots := [(21, { key := [1] })] }
def wKi : Serving := wMsg 0x500 16 3 ([0, 0, 0, 0, 0, 0, 0, 0] ++ leBytes 8 basinBase)
def wTs : Serving := wMsg 0x502 24 57 ([0, 4, 1, 0, 0, 0, 0, 0] ++ leBytes 8 dramBase ++ leBytes 8 64)
def wSw (f : Byte) : Serving := wMsg 0x504 24 0xFFFF ([f, 0, 0, 0, 0, 0, 0, 0] ++ leBytes 8 dramBase ++ leBytes 8 1073741824)
def wPr : Serving := wMsg 0x505 24 3 ([3, 0, 0, 0, 0, 0, 0, 0] ++ leBytes 8 dramBase ++ leBytes 8 4096)
def wLk (f : Byte) : Serving := wMsg 0x506 16 5 ([f, 0, 1, 0, 1, 2, 3, 0] ++ leBytes 8 basinBase)
set_option maxRecDepth 8000 in
theorem witness_KeysTidelinesAndRangesTakeEffect :
    (Served (wCry wKi {}) wKi 0x0500 16 kidTarget ∧ payZero wKi 2 8 = true ∧ keysDenied (wCry wKi {}) = false ∧ bankHeld (wCry wKi {}) = false ∧ pay wKi 8 8 = basinBase ∧ wakeFor 82 { wCry wKi {} with power := { on := [(82, true)] } } = some { wCry wKi {} with power := { on := [(82, true)] } } ∧ (hwRead (wCry wKi {}) basinBase 72).isSome = true) ∧
    (Served (wCry (wMsg 0x501 0 4 []) wKey) (wMsg 0x501 0 4 []) 0x0501 0 kidTarget ∧ (slotOf (wCry wKi wKey) 4).st = .installed ∧ tideNames (wCry wKi wKey) 4 = false) ∧
    (Served (wCry wTs wKey) wTs 0x0502 24 aliasTarget ∧ payZero wTs 3 8 = true ∧ pay wTs 8 8 = dramBase ∧ pay wTs 16 8 = 64 ∧ inMap (wCry wTs wKey) dramBase 64 = true ∧ crossesWindow (wCry wTs wKey) dramBase 64 = false ∧ (slotOf (wCry wTs wKey) 4).st = .installed ∧ (slotOf (wCry wTs wKey) 0).sealedMode = (slotOf (wCry wTs wKey) 4).sealedMode ∧ modeFits (wCry wTs wKey) (tideMode (wCry wTs wKey) 0 4) dramBase = true) ∧
    (Served (wCry (wMsg 0x503 1 57 [1]) { tides := [(1, { st := .running })] }) (wMsg 0x503 1 57 [1]) 0x0503 1 aliasTarget ∧ (tideOf (wCry wTs { tides := [(1, { st := .running })] }) 1).st = .running) ∧
    (Served (wCry (wSw 0) {}) (wSw 0) 0x0504 24 noTarget ∧ payZero (wSw 0) 1 8 = true ∧ windowArgs (wCry (wSw 0) {}) (pay (wSw 0) 8 8) (pay (wSw 0) 16 8) = true ∧ windowInUse (wCry (wSw 0) {}) 0 0 = false) ∧
    (Served (wCry wPr {}) wPr 0x0505 24 (fun t => decide (t < 16)) ∧ pay wPr 0 1 = 3 ∧ payZero wPr 1 8 = true ∧ pay wPr 8 8 % 4096 = 0 ∧ protectSpan (pay wPr 8 8) (pay wPr 16 8) = true) ∧
    (Served (wCry (wLk 0) wKey) (wLk 0) 0x0506 16 (fun t => decide (t ≤ 64)) ∧ payZero (wLk 0) 7 8 = true ∧ linkSlotBusy (wCry (wLk 0) wKey) 5 0 1 = false ∧ (hwRead (wCry (wLk 0) wKey) basinBase 40).isSome = true ∧ (portOf (wCry (wLk 1) wKey) 5).encrypt = true ∧ (linkSlot (wCry (wLk 1) wKey) 5 0 1).key ≠ []) := by
  and_intros <;> first | exact ⟨rfl, rfl, by decide⟩ | decide

def wCrySt (c : Crypto) : State := { State.reset with crypto := c, time := 100000, dram := { chansX := [(3, { lostPages := [7] })] }, braid := { tokens := [{ id := 4, src := 0x13, dst := 0x5A, kind := .counter 3 7 .increment }] } }
def wSealed : Crypto := { slots := [(4, { st := .installed, sealedMode := true })], window := some (dramBase, 1073741824, true) }
def wFull (e : DEntry) : State := { State.reset with crypto := { wSealed with pages := [(pageKey 3 0, { minors := [(0, 127)] })] }, dram := { chans := [(3, { wq := [e] })] } }
def wTide : Crypto := { tides := [(2, { st := .running, length := 64, boundary := 64 })] }
def wTide2 : Crypto := { tides := [(2, { st := .running, length := 64 })] }
theorem witness_TamperZeroizesAndCountersRise :
    (wCrySt { trigger := some 2 }).crypto.trigger = some 2 ∧ (wCrySt { sealJob := some 2 }).crypto.sealJob = some 2 ∧
    (wCrySt {}).braid.tokens.find? (fun t => match t.kind with
      | .counter ch m o => ch == 3 && decide (o = .increment) && faultFits 7 m .none
      | _ => false) = some { id := 4, src := 0x13, dst := 0x5A, kind := .counter 3 7 .increment } ∧
    isTop (wCrySt {}) 3 7 = true ∧ tokenServed (wCrySt {}) 3 .increment = true ∧ clockStopped (wCrySt {}) 82 = false ∧ keyWritten (wCrySt {}) [] = true ∧ keyWritten { wCrySt {} with braid := { tokens := [{ id := 4, src := 0x13, dst := 0x5A, kind := .counter 3 7 .increment }] } } [] = true ∧
    (resealWaits (wFull { kind := .write, kid := 4, line := 0 }) 3 0 = [{ kind := .write, kid := 4, line := 0 }] ∧ (pageCtr (wFull { kind := .write, kid := 4, line := 0 }) 3 0).major + 1 < 2 ^ 64) ∧
    (dchX (wCrySt {}) 3).lostPages = 7 :: [] ∧
    ((slotOf (wCrySt { slots := [(4, { st := .retiring })] }) 4).st = .retiring ∧ (List.range 16).all (fun c => !(kidBusy (wCrySt { slots := [(4, { st := .retiring })] }) c 4)) = true) ∧
    ((tideOf (tideAbsorb 2 (wCrySt wTide)) 2).st = .running ∧ (tideOf (tideAbsorb 2 (wCrySt wTide)) 2).boundary = 64) ∧
    ((tideOf (tideAbsorb 2 (wCrySt wTide2)) 2).boundary = 0 ∧ (tideAbsorb 2 (wCrySt wTide2)).braid.groups.any (fun g => g.ep == 0x03 && g.agent == 2) = false ∧ 0 * max 1 1 + usCycles ≤ (tideAbsorb 2 (wCrySt wTide2)).time * max 1 1) := by
  and_intros <;> decide

def wFabHead (f : Bool) : List Byte := [17, 0, 177, 250, 1, 0, if f then 0 else 1, 0, if f then 255 else 5] ++ List.replicate 83 0 ++ (if f then [229, 163, 28, 99] else [210, 103, 255, 36])
def wRl (t : Nat) : Serving := wMsg 0x600 16 t ([0, 1, 0, 0, 0, 0, 0, 0] ++ leBytes 8 basinBase)
def wReach (v : Serving) (f : Bool) (r : Reach) : State := { wServe v with mems := { mem := wBytes basinBase (wFabHead f) }, dbg := { fuses := { cryptoS := true } }, fabric := { cfgDone := !f, reaches := [(5, r)] }, power := { on := [(35, true), (84, true)] }, bw := { st := .hunt } }
def wBwi (s : Byte) : Serving := wMsg 0x900 16 0xFFFF [s, 1]
def wBwc : Serving := wMsg 0x901 56 0xFFFF [1, 0, 0, 0, 1, 0, 2, 0x80]
set_option maxRecDepth 20000 in
theorem witness_ReachAndBackwaterCommandsTakeEffect :
    (Served (wReach (wRl 31) true {}) (wRl 31) 0x0600 16 (fun t => decide (t < 16) || t == 31) ∧ payZero (wRl 31) 2 8 = true ∧ loadSourceOk 0 basinBase = true ∧ initialBusy (wReach (wRl 31) true {}) = false ∧ noCrypto (wReach (wRl 31) true {}) = false) ∧
    rawImage (wReach (wRl 31) true {}) 0 basinBase 0 96 = some (wFabHead true) ∧ headerOk true (wFabHead true) = true ∧
    rawImage (wReach (wRl 5) false {}) 0 basinBase 0 96 = some (wFabHead false) ∧ headerOk false (wFabHead false) = true ∧
    (Served (wReach (wRl 5) false {}) (wRl 5) 0x0600 16 (fun t => decide (t < 16) || t == 31) ∧ (reachOf (wReach (wRl 5) false {}) 5).st ≠ .loading ∧ leAt (wFabHead false) 0x18 8 = 0 ∧ leAt (wFabHead false) 8 1 = 5 ∧ leAt (wFabHead true) 8 1 = 0xFF ∧ wakeFor 35 (wReach (wRl 5) false {}) = some (wReach (wRl 5) false {}) ∧ domOn { wReach (wRl 31) true {} with power := { on := [(83, true)] } } 83 = true) ∧
    (Served (wReach (wMsg 0x601 1 5 [1]) false { st := .active }) (wMsg 0x601 1 5 [1]) 0x0601 1 reachTarget ∧ (reachOf (wReach (wMsg 0x601 1 5 [1]) false { st := .active }) 5).st = .active) ∧
    (Served (wReach (wMsg 0x602 0 5 []) false { st := .isolated }) (wMsg 0x602 0 5 []) 0x0602 0 reachTarget ∧ (reachOf (wReach (wMsg 0x601 1 5 [1]) false { st := .isolated }) 5).st = .isolated) ∧
    (Served (wReach (wMsg 0x603 16 5 (wRl 5).payload) false { st := .active }) (wMsg 0x603 16 5 (wRl 5).payload) 0x0603 16 reachTarget ∧ payZero (wMsg 0x603 16 5 ([0, 0, 0, 0, 0, 0, 0, 0] ++ leBytes 8 basinBase)) 0 8 = true ∧ pay (wRl 5) 8 8 = basinBase ∧ loadSourceOk 0 (basinBase + 294943) = true ∧ meetsSealed (wReach (wRl 5) false {}) basinBase 294944 = false) ∧
    (Served (wReach (wMsg 0x604 8 0xFFFF [10, 0, 1]) false {}) (wMsg 0x604 8 0xFFFF [10, 0, 1]) 0x0604 8 noTarget ∧ pay (wMsg 0x604 8 0xFFFF [10, 0, 1]) 0 2 = 10) ∧
    (Served (wReach (wMsg 0x605 1 5 [1]) false {}) (wMsg 0x605 1 5 [1]) 0x0605 1 reachTarget) ∧
    (Served (wReach (wBwi 1) false {}) (wBwi 1) 0x0900 16 noTarget ∧ payZero (wBwi 1) 2 8 = true ∧ bit (pay (wBwi 1) 8 8) 62 = false ∧ wakeFor 84 (wReach (wBwi 1) false {}) = some (wReach (wBwi 1) false {}) ∧ (wReach (wBwi 1) false {}).power.railsOut.contains .bw = false) ∧
    (Served (wReach wBwc false {}) wBwc 0x0901 56 noTarget ∧ payZero wBwc 1 4 = true ∧ payZero wBwc 8 56 = true ∧ (List.range 1).any (connBad wBwc) = false ∧ (wReach wBwc false {}).bw.st ≠ .uninit) ∧
    Served (wReach (wMsg 0x902 1 0xFFFF [1]) false {}) (wMsg 0x902 1 0xFFFF [1]) 0x0902 1 noTarget := by
  and_intros <;> first | exact ⟨rfl, rfl, by decide⟩ | decide

def wFab (f : Fabric) : State := { State.reset with fabric := f, time := 50000000, braid := { completions := [{ ep := 1, agent := 1, status := .ok }] } }
theorem witness_FabricImagesLoadAndFramesAreScrubbed :
    initialBusy (wFab { initialRunning := true }) = true ∧ clockStopped (wFab {}) 83 = false ∧ domOn { wFab {} with power := { on := [(83, true)] } } 83 = true ∧ frameCycles * max (loadFrames { full := true }) 0 ≤ 4000000000 ∧ ({} : Load).since + frameCycles * ({} : Load).frames ≤ (wFab {}).time ∧
    (wFab { load := some { started := true, ended := true } }).fabric.load = some { started := true, ended := true } ∧
    (wFab { load := some { started := true, failed := some (4, 9), target := 3 } }).fabric.load = some { started := true, failed := some (4, 9), target := 3 } ∧
    ((wFab {}).fabric.scrub.reading = false ∧ (wFab {}).fabric.scrub.started + (wFab {}).fabric.scrub.cfg.passMs * msCycles ≤ (wFab {}).time) ∧
    scrubPlace (wFab { reaches := [(3, { st := .active })], scrub := { reading := true } }) 0 17 = some (3 * 14112) ∧
    scrubPlace (wFab { scrub := { reading := true } }) 0 17 = none ∧
    tget (wFab { upsets := [(70, [65])] }).fabric.upsets [] 70 = [65] ∧
    ((wFab { scrub := { judging := some (3, 4, 5) } }).fabric.scrub.judging = some (3, 4, 5) ∧ (wFab {}).braid.completions.find? (fun c => c.ep == 0x01 && c.agent == 1 && hasCome (wFab {}) c) = some { ep := 1, agent := 1, status := .ok }) ∧
    ((reachOf (wFab { reaches := [(3, { st := .isolated, rstSince := some 5 })] }) 3).rstSince = some 5 ∧ 5 + 10 * usCycles ≤ (wFab {}).time) ∧
    (initialBusy { wFab { cfgDone := true } with dbg := { boot := { dirDue := true } } } = false ∧ flashLoading (wFab {}) = false ∧ flashHeld (wFab {}) = false) := by
  and_intros <;> decide

def wBw (b : Backwater) : State := { State.reset with bw := b, time := 50000000, bwx := { initJob := some 4 }, braid := { inbox := [{ ep := 0x58, pkt := { pid := 7, op := .wrp, addr := 0xB00100003, src := 0, dst := 0x58, len := 2, data := [1, 2] }, came := 50, at_ := 50 }] } }
def wBwConn : BwConn := { dst := 300, src := 5 }
theorem witness_BackwaterLocksAndCarriesFrames :
    (wBw { st := .hunt, synced := true }).bw.synced = true ∧
    (wBwConn ∈ (wBw { st := .locked, conns := [wBwConn] }).bw.conns ∧ wBwConn.dst % 256 ≠ 0 ∧ ∀ x ∈ (wBw { st := .locked, conns := [wBwConn] }).bw.conns, x.dst = wBwConn.dst → x = wBwConn) ∧
    ((wBw {}).bwx.initJob = some 4 ∧ (wBw {}).bwx.initAt + 10 * msCycles ≤ (wBw {}).time) ∧
    (wBw { st := .locked, batches := [{ conns := [wBwConn], job := 3, at_ := 0 }], frameStart := 300000 }).bw.mframe = 0 ∧
    (inboxFind (wBw { st := .locked, mframe := 1 }) 0x58 7).isSome = true ∧
    ringOpen (wBw { st := .locked, mframe := 1 }) (0xB00100003 % 0x200000 - 0x100000) 2 = true ∧
    ringOpen (wBw { st := .locked, mframe := 1 }) 0xFFF0 2 = false ∧ clockStopped (wBw {}) 84 = false ∧
    (List.range 4096).all (fun c => (wBw { st := .locked }).bw.ringWritten.contains ((0 + 14) % 16 * 4096 + c)) = false ∧
    (List.range 4096).all (fun c => (wBw { st := .locked, ringWritten := List.range 65536 }).bw.ringWritten.contains ((0 + 14) % 16 * 4096 + c)) = true := by
  refine ⟨by decide, by decide, by decide, by decide, by decide, by decide, by decide, by decide, by simp [wBw]; exact ⟨0, by decide⟩, ?_⟩
  simp [wBw]; intro c hc; omega

def wProg : List Byte := [19, 0, 25, 87, 1, 0, 1, 0, 44, 0, 0, 0, 190, 21, 208, 104, 5, 0, 0, 0, 0, 0, 0, 0, 0, 0, 0, 0, 0, 0, 0, 0, 0, 0, 1, 0, 0, 0, 0, 0, 0, 0, 0, 0]
def wStp : Serving := wMsg 0x703 16 0xFFFF ([0, 0, 0, 0, 0, 0, 0, 0] ++ leBytes 8 basinBase)
def wPwr (v : Serving) : State := { wServe v with mems := { mem := wBytes basinBase wProg }, power := { pmbus := some 9, prog := some {}, on := [(63, true), (10, true)] }, braid := { gates := [(10, { st := .drained })] } }
def wDv (t : Nat) : Serving := wMsg 0x702 (if t = 0xFFFE then 2 else 1) t [0, 0x20]
set_option maxRecDepth 8000 in
theorem witness_PowerAndTimeCommandsTakeEffect :
    (Served (wPwr (wMsg 0x700 19 0xFFFF [1])) (wMsg 0x700 19 0xFFFF [1]) 0x0700 19 noTarget ∧ stateArgsBad (wMsg 0x700 19 0xFFFF [1]) = false ∧ stateArgsBad (wMsg 0x700 19 0xFFFF [3]) = false ∧ (trimSet (wMsg 0x700 19 0xFFFF [1])).any (fun d => offDenied (wPwr wStp) d || offHeld (wPwr wStp) d) = false) ∧
    (Served (wPwr (wMsg 0x701 8 10 [2, 0, 0, 0, 10])) (wMsg 0x701 8 10 [2, 0, 0, 0, 10]) 0x0701 8 (fun t => decide (t ≤ 85)) ∧ retDomain 10 = true ∧ retOk (pay (wMsg 0x701 8 10 [2, 0, 0, 0, 10]) 4 4) = true ∧ payZero (wMsg 0x701 8 10 [2, 0, 0, 0, 10]) 1 4 = true ∧ domOn (wPwr wStp) 11 = false ∧ offDenied (wPwr wStp) 10 = false ∧ gateOff (wPwr wStp) 10 = true ∧ offHeld (wPwr wStp) 10 = false ∧ domOn (wPwr wStp) 10 = true) ∧
    (Served (wPwr (wDv 3)) (wDv 3) 0x0702 2 (fun t => decide (t < 24 ∨ t = 0xFFFF ∨ t = 0xFFFE)) ∧ Served (wPwr (wDv 0xFFFE)) (wDv 0xFFFE) 0x0702 2 (fun t => decide (t < 24 ∨ t = 0xFFFF ∨ t = 0xFFFE)) ∧ pay (wDv 0xFFFE) 1 1 = 0x20) ∧
    (Served (wPwr wStp) wStp 0x0703 16 noTarget ∧ payZero wStp 0 8 = true ∧ pay wStp 8 8 = basinBase) ∧
    (hwRead (wPwr wStp) basinBase 32 = some (wProg.take 32) ∧ progHeaderFault (wProg.take 32) = none ∧ leAt (wProg.take 32) 8 4 = 44 ∧ hwRead (wPwr wStp) basinBase 44 = some wProg ∧ progFault wProg = none) ∧
    (Served (wPwr (wMsg 0x704 16 0xFFFF [1])) (wMsg 0x704 16 0xFFFF [1]) 0x0704 16 noTarget ∧ payZero (wMsg 0x704 16 0xFFFF [1]) 1 8 = true) ∧
    (Served (wPwr (wMsg 0x705 12 95 [3, 0, 0, 0, 1, 0, 0, 0, 1])) (wMsg 0x705 12 95 [3, 0, 0, 0, 1, 0, 0, 0, 1]) 0x0705 12 (fun t => decide (t < 96 ∨ t = 0x0100)) ∧ pay (wMsg 0x705 12 95 [3, 0, 0, 0, 1, 0, 0, 0, 1]) 8 4 = 1 ∧ Served (wPwr (wMsg 0x705 12 256 [3])) (wMsg 0x705 12 256 [3]) 0x0705 12 (fun t => decide (t < 96 ∨ t = 0x0100))) := by
  and_intros <;> first | exact ⟨rfl, rfl, by decide⟩ | decide

theorem witness_DeviceIdSetStoresTheId :
    (Served (wServe (wMsg 0x805 2 0xFFFF [0, 0x40])) (wMsg 0x805 2 0xFFFF [0, 0x40]) 0x0805 2 noTarget ∧ 16384 ≤ pay (wMsg 0x805 2 0xFFFF [0, 0x40]) 0 2) ∧
    (Served { wServe (wMsg 0x805 2 0xFFFF [0xFF, 0x3F]) with twin := { role := .active } } (wMsg 0x805 2 0xFFFF [0xFF, 0x3F]) 0x0805 2 noTarget ∧ pay (wMsg 0x805 2 0xFFFF [0xFF, 0x3F]) 0 2 = 16383) ∧
    (Served (wServe (wMsg 0x805 2 0xFFFF [0xFF, 0x3F])) (wMsg 0x805 2 0xFFFF [0xFF, 0x3F]) 0x0805 2 noTarget ∧ ∀ p < 64, (portOf (wServe (wMsg 0x805 2 0xFFFF [0xFF, 0x3F])) p).st = .disabled) := by
  and_intros <;> first | exact ⟨rfl, rfl, by decide⟩ | decide

def wEvq (v : Serving) : State := { wServe v with events := { hostQ := [{ ev := 5 }, { ev := 6 }] }, power := { on := [(2, true)] } }
def wEvr (a : Nat) : Serving := wMsg 0xB01 16 0xFFFF ([1, 0, 0, 0, 0, 0, 0, 0] ++ leBytes 8 a)
set_option maxRecDepth 8000 in
theorem witness_SetupAndEventCommandsTakeEffect :
    (Served (wEvq (wMsg 0x307 8 0xFFFF [2, 0, 0, 0, 16])) (wMsg 0x307 8 0xFFFF [2, 0, 0, 0, 16]) 0x0307 8 noTarget ∧ payZero (wMsg 0x307 8 0xFFFF [2, 0, 0, 0, 16]) 1 4 = true ∧ timeoutOk 2 16 = true ∧ pay (wMsg 0x307 8 0xFFFF [2, 0, 0, 0, 16]) 4 4 = 16) ∧
    (Served (wEvq (wMsg 0xA00 34 0 [1, 2])) (wMsg 0xA00 34 0 [1, 2]) 0x0A00 34 (fun t => decide (t < 2)) ∧ proofArgsBad (wMsg 0xA00 34 0 [1, 2]) = false ∧ proofAllowed (wEvq (wMsg 0xA00 34 0 [1, 2])) 96 = true ∧ proofConflict { wEvq (wMsg 0xA00 34 0 [1, 2]) with power := { railsOut := [] } } 0 = false) ∧
    (Served (wEvq (wMsg 0xA01 1 0 [0])) (wMsg 0xA01 1 0 [0]) 0x0A01 1 (fun _ => true) ∧ ∃ d, counterDomain 0 0 = some d ∧ domOn { wEvq (wMsg 0xA01 1 0 [0]) with power := { on := [(d, true)] } } d = true) ∧
    (Served (wEvq (wMsg 0xB00 4 511 [0, 0, 0, 0x8C])) (wMsg 0xB00 4 511 [0, 0, 0, 0x8C]) 0x0B00 4 (fun t => decide (t ≤ 0x200)) ∧ evCfgBad 511 (pay (wMsg 0xB00 4 511 [0, 0, 0, 0x8C]) 0 4) = false ∧ pay (wMsg 0xB00 4 512 [1]) 0 4 = 1) ∧
    (Served (wEvq (wEvr 0)) (wEvr 0) 0x0B01 16 noTarget ∧ payZero (wEvr 0) 2 8 = true ∧ pay (wEvr basinBase) 8 8 = basinBase ∧ (writeRecs basinBase ((wEvq (wEvr 0)).events.hostQ.take 1) (wEvq (wEvr 0))).1 = true) := by
  and_intros <;> first | exact ⟨rfl, rfl, by decide⟩ | exact ⟨_, rfl, by decide⟩ | decide

def wSleep (p : Power) : State := { State.reset with power := p, time := 500000, tbase := { slowDriven := true, slowTicks := 90 } }
def wEnt : Entry := { job := 4 }
theorem witness_SleepIsVotedEnteredAndLeft :
    (domOn (wSleep { on := [(9, true)], entry := some wEnt }) 9 = true ∧ voted wEnt 9 = false ∧ wEnt.since + 100 * usCycles ≤ 500000) ∧
    (votesIn (wSleep { on := [], entry := some wEnt }) { wEnt with agreed := [0, 1, 2, 3, 4, 5] } = true ∨ votesIn (wSleep { on := [], entry := some wEnt }) { wEnt with agreed := List.range 86 } = true) ∧
    newWork (wSleep {}) { wEnt with agreed := List.range 86 } = [] ∧
    newWork (wSleep {}) { wEnt with step := 2, target := .stipple } = [] ∧
    abortDue (wSleep {}) { wEnt with step := 2, refused := [(9, 1)] } = true ∧
    (wakes (wSleep { dev := .doze }).power.dev .bmc = true ∧ wakeTrue (wSleep { dev := .doze }) .bmc = true) ∧
    (wSleep { dev := .stipple, wakeSrc := some .bmc }).power.wakeSrc = some .bmc ∧
    (wSleep { dev := .stipple, prog := some { periodMs := 1 } }).power.lastPeriod + msTicks 1 ≤ 90 := by and_intros <;> decide

def wDvfs : Dvfs := { quads := [4], op := 2, job := 7, volt := some 750, begun := some 5 }
def wPs (x : List Dvfs) : State := { State.reset with power := { dvfs := x, on := [(10, true)], railsOut := [.fuse] }, time := 90000000, tbase := { slowDriven := true, slowTicks := 40000, trimJob := some 3 } }
theorem witness_SuppliesClocksAndSensorsAreWatched :
    awaitsGood (wPs [wDvfs]) = some (750, 5) ∧ 5 + 5 * msCycles ≤ (wPs [wDvfs]).time ∧
    (guardOpen (wPs []) { wDvfs with volt := none } = true ∧ quadClean (wPs []) 4 = true) ∧
    ((wPs []).tbase.trimJob = some 3 ∧ (wPs []).tbase.trimAt + 32768 ≤ (wPs []).tbase.slowTicks) ∧
    (wPs []).power.tripped = false ∧ (wPs []).power.railsOut.contains .bw = false := by and_intros <;> decide

def wRst (b : Boot) : State := { State.reset with dbg := { boot := b, inReset := true }, time := 1600000000 }
theorem witness_ResetsBootAndStyPulsesTakeEffect :
    ((wRst {}).tbase.watching = true ∧ (wRst {}).tbase.watchFrom + 1000 * msCycles ≤ (wRst {}).time) ∧ (wRst {}).dbg.inReset = true ∧
    (let s : State := { State.reset with ferry := { resetting := true }, power := { on := [(1, true)] }, dbg := { inReset := false } }; s.ferry.resetting = true ∧ s.ferry.recovery = false ∧ s.dbg.boot.loaded = false ∧ domOn s 1 = true) ∧
    (wRst { fuseJob := some (1, 4) }).dbg.boot.fuseJob = some (1, 4) ∧
    (wRst { staging := some (0, false, 0x20000, [1, 2], 4) }).dbg.boot.staging = some (0, false, 0x20000, [1, 2], 4) ∧
    attachPattern ((List.range 64).map (fun i => i % 2 == 0)) = true ∧
    (wRst { dirRewrite := true }).dbg.boot.dirRewrite = true := by and_intros <;> decide

def wSty (y : Stylus) (l : Life) : State := { State.reset with dbg := { sty := y, fuses := { life := l } }, time := 100000, power := { on := [(7, true)] }, eng := { eng := [(5, { st := .debug })] } }
set_option maxRecDepth 8000 in
theorem witness_StylusCommandsAreServed :
    attachPattern (wSty { symbols := (List.range 64).map (fun i => i % 2 == 0) } .blank).dbg.sty.symbols = true ∧
    (wSty { symbols := [true] } .blank).dbg.sty.lastSymbol + 10 * usCycles ≤ 100000 ∧
    styRefusal (wSty { st := .lockedOut } .secured) 1 [] = some 7 ∧
    styRefusal (wSty { st := .attached, nonce := some (3, 1) } .secured) 3 (padTo 16 [1]) = none ∧
    (styRefusal (wSty { st := .authorized } .secured) 2 (leBytes 1 3) = none ∧ (wSty { st := .authorized } .secured).dbg.sty.refusedUntil ≤ 100000) ∧
    (styRefusal (wSty { st := .authorized } .secured) 4 [] = none ∧ styRefusal (wSty { st := .authorized } .secured) 5 [] = none) ∧
    (styRefusal (wSty { st := .authorized } .secured) 0x10 (leBytes 8 9 ++ leBytes 1 8) = none ∧ styRefusal (wSty { st := .authorized } .secured) 0x11 (leBytes 8 9 ++ leBytes 1 4 ++ padTo 4 [7]) = none) ∧
    (domOn (wSty { st := .authorized } .secured) (6 + 5 / 4) = true ∧ (engOf (wSty { st := .authorized } .secured) 5).st = .debug ∧ styRefusal (wSty { st := .authorized } .secured) 0x20 (leBytes 1 5) = none) ∧
    (styRefusal (wSty { st := .authorized } .secured) 0x24 (leBytes 1 5 ++ leBytes 1 4 ++ leBytes 1 26) = none ∧ regNamed 4 26 = true ∧ regsOpen (engOf (wSty { st := .authorized } .secured) 5) = true) ∧
    (styRefusal (wSty { st := .authorized } .secured) 0x30 [] = none ∧ styRefusal (wSty { st := .authorized } .secured) 0x31 [] = none) := by and_intros <;> decide

def wCalImage : List Byte := [4, 0, 29, 92, 1, 0, 0, 0, 32, 0, 0, 0, 85, 75, 187, 236] ++ List.replicate 16 0
def wSys (v : Serving) : State := { wServe v with mems := { mem := wBytes (basinBase + 4096) wCalImage }, dbg := { boot := { stageState := 2 } }, power := { railsOut := [], on := [(63, true)] }, braid := { nis := [(0x40, { shadowOk := true })], gates := [(46, { st := .opened }), (47, { st := .drained }), (0x105, { st := .opened })] }, sluice := { shadowOk := true } }
def wStg : Serving := wMsg 0x102 20 0xFFFF ([2, 0, 0, 0] ++ leBytes 4 0x100000 ++ leBytes 8 basinBase ++ leBytes 4 4)
def wLif : Serving := wMsg 0x104 8 0xFFFF ([1, 0, 0, 0] ++ leBytes 4 0x5AFE0001)
def wRtl : Serving := wMsg 0x300 16 0x40 ([0, 0, 0, 0, 0, 0, 0, 0] ++ leBytes 8 basinBase)
def wRtc : Serving := wMsg 0x301 24 0xFFFF ([0, 0, 0, 0, 0, 0, 0, 0] ++ leBytes 16 (2 ^ 64))
def wSll : Serving := wMsg 0x302 16 0xFFFF ([0, 0, 0, 0, 0, 0, 0, 0] ++ leBytes 8 (basinBase + 4096))
set_option maxRecDepth 100000 in
theorem witness_SystemRouteAndGateCommandsTakeEffect :
    (Served (wSys (wMsg 0x100 0 3 [])) (wMsg 0x100 0 3 []) 0x0100 0 (fun t => decide (t < 4)) ∧ Served (wSys (wMsg 0x101 0 0xFFFF [])) (wMsg 0x101 0 0xFFFF []) 0x0101 0 noTarget) ∧
    (Served (wSys wStg) wStg 0x0102 20 noTarget ∧ stageArgsBad wStg (wSys wStg) = false ∧ initialBusy (wSys wStg) = false ∧ flashLoading (wSys wStg) = false ∧ flashHeld (wSys wStg) = false ∧ stageArea (wSys wStg) 2 0x100000 4 = some (0x100000, 0x100004) ∧ pay wStg 4 4 = 0x100000 ∧ recordedIn (wSys wStg) 0x100000 0x100004 = false ∧ (hwRead (wSys wStg) basinBase 4).isSome = true) ∧
    (Served (wSys (wMsg 0x103 1 0xFFFF [1])) (wMsg 0x103 1 0xFFFF [1]) 0x0103 1 noTarget) ∧
    (Served (wSys wLif) wLif 0x0104 8 noTarget ∧ payZero wLif 1 4 = true ∧ pay wLif 4 4 = 0x5AFE0000 + 1 ∧ lifeCode (wSys wLif).dbg.fuses.life = 0) ∧
    (Served (wSys wRtl) wRtl 0x0300 16 niTarget ∧ payZero wRtl 0 8 = true ∧ committing (wSys wRtl) 0x40 = false) ∧
    (Served (wSys wRtc) wRtc 0x0301 24 noTarget ∧ payZero wRtc 0 8 = true ∧ niSet wRtc = [0x40] ∧ [0x40].all epListed = true ∧ (niOf (wSys wRtc) 0x40).shadowOk = true) ∧
    (Served (wSys wSll) wSll 0x0302 16 noTarget ∧ payZero wSll 0 8 = true ∧ pay wSll 8 8 = basinBase + 4096 ∧ hwRead (wSys wSll) (basinBase + 4096) 32 = some wCalImage ∧ leAt wCalImage 8 4 = 32 ∧ 32 ≤ calendarMost ∧ calendarFault (wSys wSll) wCalImage = none) ∧
    (Served (wSys (wMsg 0x303 0 0xFFFF [])) (wMsg 0x303 0 0xFFFF []) 0x0303 0 noTarget) ∧
    (Served (wSys (wMsg 0x304 1 46 [1])) (wMsg 0x304 1 46 [1]) 0x0304 1 isGate ∧ fenceDenied 46 = false ∧ reachGate 46 = false ∧ calendarGate (wSys wLif) 46 = false ∧ (gateOf (wSys wLif) 46).st = .opened) ∧
    (Served (wSys (wMsg 0x305 0 47 [])) (wMsg 0x305 0 47 []) 0x0305 0 isGate ∧ (gateOf (wSys wLif) 47).st = .drained ∧ gateHeld (wSys wLif) 47 = false) ∧
    (Served (wSys (wMsg 0x306 3 0x105 [0])) (wMsg 0x306 3 0x105 [0]) 0x0306 3 routerTarget ∧ maintArgsBad 5 0 0 = false ∧ fenceDenied 0x105 = false ∧ calUses (wSys wLif).sluice.committed 5 = false ∧ (gateOf (wSys wLif) 0x105).st = .opened) := by
  and_intros <;> first | exact ⟨rfl, rfl, by decide⟩ | decide
set_option maxRecDepth 100000 in
theorem witness_RouteLoad_image : hwRead (wSys wRtl) basinBase 2048 = some (List.replicate 2048 0) := by decide
theorem leAt_zeros (m : Nat) : ∀ n o : Nat, leAt (List.replicate m 0) o n = 0 := by
  intro n; induction n with
  | zero => intro o; rfl
  | succ n ih => intro o; simp only [leAt, ih]; by_cases h : o < m <;> simp [List.getD, List.getElem?_replicate, h]
theorem witness_RouteLoad_table : tableFault (wSys wRtl) 0x40 (imageEntries (List.replicate 2048 0)) = none := by
  have h0 : bit 0 63 = false := by decide
  have f : ∀ k, firstEntry (wSys wRtl) 0x40 k (imageEntries (List.replicate 2048 0)) = none := by
    intro k; unfold firstEntry; rw [List.findSome?_eq_none_iff]
    intro e he
    obtain ⟨i, _, rfl⟩ := List.mem_map.1 he
    rw [leAt_zeros]; simp only [entryFault, h0]; rfl
  unfold tableFault; rw [List.findSome?_eq_none_iff]; intro k _; rw [f k]; rfl

def wPosted : State := { State.reset with ferry := { ready := true, irq := true, lastDone := 5, chans := [(3, { st := .posted }), (9, { st := .posted }), (0, { st := .posted })] } }
theorem witness_ChannelsAreServedRoundRobin :
    (wServe { wMsg 0x100 0 0 [] with reply := some { code := 0 } }).ferry.serving = some { wMsg 0x100 0 0 [] with reply := some { code := 0 } } ∧
    (serves wPosted = true ∧ takeable wPosted 9 = true ∧ ∀ d < 128, takeable wPosted d = true → (9 + 127 - wPosted.ferry.lastDone) % 128 ≤ (d + 127 - wPosted.ferry.lastDone) % 128) ∧
    (let s : State := { wPosted with ferry := { wPosted.ferry with lastDone := 127 } }; serves s = true ∧ takeable s 0 = true) := by and_intros <;> decide

theorem witness_RouteLoadWritesOnlyTheShadow : ∃ t, exec .routeLoad (wSys wRtl) = .next t ∧ (wSys wRtl).ferry.serving = some wRtl ∧ (0x41 : Nat) ≠ wRtl.target := ⟨_, rfl, rfl, by decide⟩

theorem witness_CommandsThatStoreNothingLeaveMemory : mayStore (.routerSleep 9) = false ∧ mayStore .evRead = true ∧ ∃ t, exec (.routerSleep 9) State.reset = .next t := ⟨rfl, rfl, _, rfl⟩

def wWr (o : Op) (a n : Nat) : Delivered := { ep := 0x0A, pkt := { pid := 7, op := o, addr := basinBase + 0x1000000 + a, src := 0, dst := 0x0A, len := n, data := List.replicate n 3 }, came := 50, at_ := 50 }
set_option maxRecDepth 8000 in
theorem witness_StoresReachTheirBytes :
    ((bgroupOf (wBasin { queue := [wWr .wr 8 16] } .on) 2).queue = [wWr .wr 8 16] ∧ clockStopped (wBasin { queue := [wWr .wr 8 16] } .on) 79 = false ∧ banksFree (wBasin { queue := [wWr .wr 8 16] } .on) 2 (lineAccesses (wWr .wr 8 16).pkt) = true ∧ (wWr .wr 8 16).pkt.addr % 8 = 0) ∧
    (banksFree (wBasin { queue := [wWr .rd 9 3] } .on) 2 (lineAccesses (wWr .rd 9 3).pkt) = true) ∧
    (banksFree (wBasin { queue := [wWr .atom 8 4] } .on) 2 (lineAccesses (wWr .atom 8 4).pkt) = true ∧ mergeOf (wBasin { queue := [wWr .atom 8 4] } .on) 2 ((wWr .atom 8 4).pkt.addr / 8) = none) ∧
    (∃ e, (bgroupOf (wBasin { merge := [{ word := (basinBase + 0x1000000) / 8, data := [1, 2], mask := 3, poison := false, at_ := 1 }] } .on) 2).merge.find? (fun e => decide (e.at_ + 64 ≤ (wBasin {} .on).time)) = some e) ∧ memPwr (wBasin {} .on) 2 = .on ∧
    ((engOf (wEng { decWords := [(0, 0x20, 77)] }) 5).decWords = [(0, 0x20, 77)] ∧ isFrozen (engOf (wEng { decWords := [(0, 0x20, 77)] }) 5) = false ∧ clockStopped (wEng { decWords := [(0, 0x20, 77)] }) 7 = false) ∧
    ((hwWrite 0x100000000 [1, 2, 3] State.reset).isSome = true ∧ ∀ i < 3, ¬ (dramBase ≤ 0x100000000 + i ∧ 0x100000000 + i < dramEnd)) := by
  refine ⟨by and_intros <;> decide, by decide, by and_intros <;> decide, ⟨_, rfl⟩, by decide, by and_intros <;> decide, by decide, by decide⟩

theorem witness_DryRunsChangeOnlyTheAnswer :
    (let v : Serving := { wMsg 0x600 16 5 [] with flags := 2 }; (wServe v).ferry.serving = some v ∧ v.opcode = 0x600 ∧ v.reply = none ∧ bit v.flags 1 = true) ∧ (wMsg 0x600 16 5 []).opcode ≠ 0x601 ∧
    ({ wMsg 0x600 16 5 [] with reply := some { code := 0 } } : Serving).reply ≠ none := by and_intros <;> decide

theorem witness_TwinLanesAreNative : Served (wServe (wMsg 0x200 14 64 [2, 1, 0xFF])) (wMsg 0x200 14 64 [2, 1, 0xFF]) 0x0200 14 laneTarget ∧ pay (wMsg 0x200 14 64 [2, 1, 0xFF]) 0 1 ≠ 1 := ⟨wServed _ _ _ (by decide), by decide⟩

theorem witness_LaneSetTapsLeavesTheSlotTable :
    (Served (wServe (wMsg 0x201 3 6 [16, 24, 4])) (wMsg 0x201 3 6 [16, 24, 4]) 0x0201 3 laneTarget ∧ bit 4 0 = false ∧ bit 4 1 = false ∧ domOn (wServe (wMsg 0x201 3 6 [16, 24, 4])) (laneDomain 6) = true) ∧
    (Served (wServe (wMsg 0x201 3 60 [16, 24, 7])) (wMsg 0x201 3 60 [16, 24, 7]) 0x0201 3 laneTarget ∧ domOn (wServe (wMsg 0x201 3 60 [16, 24, 4])) (laneDomain 60) = false) := ⟨⟨wServed _ _ _ (by decide), by decide, by decide, by decide⟩, wServed _ _ _ (by decide), by decide⟩

theorem witness_NeighboursKeepTheirState : (8 : Nat) ≠ 7 ∧ (.cdrLock 7) ∈ ([.energyDetected 7, .cdrLock 7] : List Instr) ∧ (∃ t, exec (.cdrLock 7) (wLane { rx := .cdrAcq } {} .off) = .next t ∧ (laneOf t 7).rx = .adaptInit) := ⟨by decide, by decide, _, rfl, by decide⟩

theorem witness_EveryCommandCompletes : (∀ w, Instr.heartbeatSend ≠ .rstStyNPulse w) ∧ (20000 : Nat) ≤ 20000 ∧ (1500 : Nat) ≤ 19000 ∧ (700 : Nat) < 1000 := ⟨(fun _ h => by cases h), by decide, by decide, by decide⟩

/-! ## Single steps -/

/-- R72's example: a read of the free LOCK7 by engine 13 answers 0 and takes the lock. -/
def exLock : State := { State.reset with time := 16000001, braid := { inbox := [{ ep := 0x5C, pkt := { pid := 7, op := .rd, addr := 0x0B8000E8, src := 0x43, dst := 0x5C, len := 4 }, came := 5, at_ := 5 }] } }
theorem test_lock_taken : ∃ t, step { exLock with pending := [.lockRead (.braid 7)] } = .next t ∧ (lockOf t 7).owner = 0x143 ∧ (lockOf t 7).held = true ∧ t.pending = [] := ⟨_, rfl, by decide⟩
/-- An empty queue passes one Braid cycle. -/
theorem test_idle : ∃ t, step State.reset = .next t ∧ t.time = State.reset.time + 1 := ⟨_, rfl, by decide⟩
/-- Table 5.8: energy moves a receiver from SIGNAL_WAIT to CDR_ACQ. -/
theorem test_energy : ∃ t, exec (.energyDetected 3) { State.reset with lanes := { lanes := [(3, { rx := .signalWait })] } } = .next t ∧ (laneOf t 3).rx = .cdrAcq := ⟨_, rfl, by decide⟩
/-- R593: DEVICE_ID_SET refuses 16 384. -/
theorem test_device_id : ∃ t, exec .deviceIdSet (wServe (wMsg 0x805 2 0xFFFF [0, 0x40])) = .next t ∧ Answered t 0x0011 := ⟨_, rfl, _, _, rfl, rfl, by decide⟩
/-- R592: DVFS_SET stores the PMBus address 0x77 and refuses 0x78. -/
theorem test_pmbus : (∃ t, exec .dvfsSet (wServe (wMsg 0x702 2 0xFFFE [0, 0x77])) = .next t ∧ t.power.pmbus = some 0x77 ∧ Answered t 0x0000) ∧
    ∃ t, exec .dvfsSet (wServe (wMsg 0x702 2 0xFFFE [0, 0x78])) = .next t ∧ Answered t 0x0011 := ⟨⟨_, rfl, by decide, _, _, rfl, rfl, by decide⟩, _, rfl, _, _, rfl, rfl, by decide⟩
/-- R585: LANE_STATE refuses STATE 3. -/
theorem test_lane_state : ∃ t, exec .laneState (wServe (wMsg 0x203 1 7 [3])) = .next t ∧ Answered t 0x0011 := ⟨_, rfl, _, _, rfl, rfl, by decide⟩
end

section
/-! Requests enter their NI, wait, leave it as flits, and expire (R28, R79, R91, R101, R109, R110). -/

namespace Sys2Proof.Machine
open Sys2Proof

/-- A change of the Braid that leaves its network interfaces leaves each of them. -/
theorem niOf_modBraid (s : State) (f : Braid → Braid) (e : Nat) (h : (f s.braid).nis = s.braid.nis) : niOf (modBraid s f) e = niOf s e := by
  simp [niOf, h]

/-! ## Presenting a request -/

/-- An ORB is reserved in the list of ORBs alone. -/
theorem reserveOrb_queue (ep : Nat) (p : Packet) (s : State) :
    (niOf (reserveOrb ep p s).2 ep).queue = (niOf s ep).queue := by
  unfold reserveOrb
  dsimp only
  split
  · split
    · rw [niOf_modNi]
    · rfl
  · rfl

/-- A packet that has its ORB whenever it needs one lacks none. -/
theorem lacksOrb_eq_false {p : Packet} (h : nonPosted p.op = true → p.orb.isSome = true) : (nonPosted p.op && p.orb.isNone) = false := by
  cases hn : nonPosted p.op
  · rfl
  · simpa using h hn

/-- A packet that holds its ORB, or needs none, reserves none. -/
theorem reserveOrb_of_held (ep : Nat) (p : Packet) (s : State) (h : nonPosted p.op = true → p.orb.isSome = true) :
    reserveOrb ep p s = (p, s) := by
  simp [reserveOrb, lacksOrb_eq_false h]

/-- A part for another NI of this device that no fence, sibling rule or closed local port stops joins the waiting list (R91). -/
theorem presentPart_waits {ep dst : Nat} {p : Packet} {s : State} (hnear : p.far = false)
    (htarget : addrTarget (mapOf s ep) p.addr = some dst) (hfenceEp : fenced s ep = false) (hfenceDst : fenced s dst = false)
    (hother : dst ≠ ep) (hferry : ferryChanOf p.addr = none) (hup : (niOf s ep).down = false) :
    presentPart ep p false s =
      modNi ep (fun m => { m with queue := m.queue ++ [(reserveOrb ep { p with dst := dst } s).1] }) (reserveOrb ep { p with dst := dst } s).2 := by
  have hturn : (dst == ep) = false := by simpa using hother
  unfold presentPart
  simp only [hnear, htarget, hfenceEp, hfenceDst, hferry, hturn, hup, Bool.or_self, Bool.and_false, Bool.false_eq_true, if_false]

/-- REQUEST_PRESENTED of an access while the domain's clocks run. -/
theorem exec_requestPresented_access {ep agent : Nat} {r : Req} {s : State} (hlisted : epListed ep = true) (hclamp : outClamped s ep = false)
    (hclock : clockStopped s (epDomain ep) = false) (hrsp : r.op ≠ .rsp) (hprobe : r.op ≠ .probe) :
    exec (.requestPresented ep agent r) s = .next (presentReq ep agent r s).2 := by
  have hpresent : requestPresented ep agent r s = (presentReq ep agent r s).2 := by
    simp [requestPresented, hlisted, hclamp, hrsp, hprobe]
  show Host.Outcome.next (whileClocked (epDomain ep) s (requestPresented ep agent r s)) = _
  rw [whileClocked_on hclock, hpresent]

/-! ## Injection -/

/-- What a packet carries when its flits enter the local input: the route, its WAIT with the time it has waited, and its DEADLINE (R91, R109). -/
def injected (route : Nat) (p : Packet) (s : State) : Packet :=
  { p with
    route := route, wait := min 0xFFFF (p.wait + (s.time - p.presentedAt)),
    deadline := if nonPosted p.op then (braidNow s + (if p.far then s.braid.orbFar else s.braid.orbLocal) * usCycles) % 2 ^ 32 else p.deadline }

/-- An injected packet of this device with its ORB, a valid route and credit puts its flits on the local input and leaves the waiting list. -/
theorem injectPacket_sends {ep route : Nat} {p : Packet} {s : State} (hturn : turnsAround s ep p = false) (hprobe : p.op ≠ .probe)
    (horb : nonPosted p.op = true → p.orb.isSome = true) (hnear : fromFar s p = false) (hroute : routeOf s ep (legDst s ep p) = some route)
    (hcredit : tget (niOf s ep).used 0 p.vc + flitCount p ≤ vcDepth p.vc) :
    (injectPacket ep p s).braid.wires = s.braid.wires ++ (flitsOf (injected route p s)).map
      (fun f => { hop := .input (epRouter ep) (epPort ep), flit := f, sentAt := s.time + f.idx }) ∧
    (niOf (injectPacket ep p s) ep).queue = (niOf s ep).queue.filter (fun x => x.pid != p.pid) := by
  have hroom : ¬ vcDepth p.vc < tget (niOf s ep).used 0 p.vc + flitCount p := Nat.not_lt.mpr hcredit
  unfold injectPacket
  simp only [hturn, hprobe, hroute, hnear, lacksOrb_eq_false horb, hroom, reserveOrb_of_held ep p s horb, if_false, Bool.not_false, Bool.and_true, Bool.and_false, decide_false, Bool.false_eq_true]
  refine ⟨rfl, ?_⟩
  rw [niOf_modBraid _ _ _ rfl, niOf_modBraid _ _ _ rfl, niOf_modNi]

/-- A waiting packet that may be chosen, in an NI that is up and meets no fence, is injected (R91, R120). -/
theorem packetInject_of_chosen {ep pid : Nat} {p : Packet} {s : State} (hfind : (niOf s ep).queue.find? (fun q => q.pid == pid) = some p)
    (hup : (niOf s ep).down = false) (hfence : meetsFence s ep p = false) (hmay : mayInject s ep p = true) :
    packetInject ep pid s = injectPacket ep p s := by
  simp [packetInject, hfind, hup, hfence, hmay]

/-! ## Expiry -/

/-- An ORB whose DEADLINE has passed, and whose response does not arrive, is freed and its part answered TIMEOUT (R110). -/
theorem orbExpiry_of_past {ep index d : Nat} {o : Orb} {s : State} (hfind : (niOf s ep).orbs.find? (fun o => o.index == index) = some o)
    (hdeadline : o.deadline = some d) (hpast : d < braidNow s) (hnone : wholePacket s ep o.pid = none) (hprobe : o.probe = false) :
    orbExpiry ep index s = finishPart o.pid .timeout (min 0xFFFF (s.time - o.injectedAt)) [] 0
      (braidEv (epRouter ep) 3 1 (epPort ep) { vc := o.vc, dst := o.dst, src := ep, tag := o.index }
        (modNi ep (fun n => { n with orbs := n.orbs.filter (fun x => x.index != index), ctr := tinc n.ctr 5 }) s)) := by
  simp [orbExpiry, hfind, hdeadline, hpast, hnone, hprobe]

/-- Settles O9, by the rules above for presenting, injection and expiry. -/
theorem requestsEnterTheBraid : Obligations.RequestsEnterTheBraid := by
  unfold Obligations.RequestsEnterTheBraid
  refine ⟨?_, ?_, ?_, ?_⟩
  · intro ep agent r s hlisted hclamp hclock hrsp hprobe
    exact exec_requestPresented_access hlisted hclamp hclock hrsp hprobe
  · intro ep dst p s hnear htarget hfenceEp hfenceDst hother hferry hup
    rw [presentPart_waits hnear htarget hfenceEp hfenceDst hother hferry hup, niOf_modNi, reserveOrb_queue]
  · intro ep pid route p s hfind hup hclock hturn hfence hmay hprobe horb hnear hroute hcredit
    refine ⟨injectPacket ep p s, ?_, injectPacket_sends hturn hprobe horb hnear hroute hcredit⟩
    show Host.Outcome.next (whileClocked _ s (packetInject ep pid s)) = _
    rw [whileClocked_on hclock, packetInject_of_chosen hfind hup hfence hmay]
  · intro ep index d o s hfind hdeadline hpast hnone hprobe hclock
    show Host.Outcome.next (whileClocked _ s (orbExpiry ep index s)) = _
    rw [whileClocked_on hclock, orbExpiry_of_past hfind hdeadline hpast hnone hprobe]

end Sys2Proof.Machine
end

section
/-! Whole packets at the target and initiator NIs (R14, R99, R101, R111, R112). -/

namespace Sys2Proof.Machine
open Sys2Proof

/-! ## Requests -/

/-- REQUEST_DELIVERY of a whole request of this device, first of its source and VC and without parity error: it is counted, wakes the quad it names and is delivered (R14, R87). -/
theorem requestDelivery_delivers {ep pid : Nat} {p : Packet} {s : State} (hwhole : wholePacket s ep pid = some p) (hprobe : p.op ≠ .probe)
    (hrsp : p.op ≠ .rsp) (hev : p.ev = none) (hnear : leaving s p = false) (hclock : clockStopped s (epDomain ep) = false)
    (hfirst : firstAtNi s ep p = true) :
    requestDelivery ep pid none s = deliverReq ep p
      (if isQuad ep then wakeQuad (ep - 0x40) (niCount ep 1 (clearNi ep pid s)) else niCount ep 1 (clearNi ep pid s)) := by
  simp only [requestDelivery, hwhole, hprobe, hrsp, hclock, hfirst, parityFits, niParity, hev, hnear, Option.all_none, not_true_eq_false,
    false_and, or_self, if_false, Bool.false_eq_true]

/-- A request for memory in the map of an endpoint that is no quad, no reach, meets no protected range and no closed gate waits at its endpoint. -/
theorem deliverReq_memory_waits {ep : Nat} {p : Packet} {s : State} (hdebug : p.debug = false) (hdma : p.dma = false)
    (hgate : gateClosed s ep = false) (hmsg : p.op ≠ .msg) (hatom : p.op ≠ .atom) (htarget : addrTarget s.dram.map p.addr = some ep)
    (hreach : isReach ep = false) (haddr : 0x10000000 ≤ p.addr) :
    deliverReq ep p s = intoInbox ep p s := by
  have hmem : ¬ p.addr < 0x10000000 := Nat.not_lt.mpr haddr
  simp [deliverReq, hdebug, hdma, hgate, hmsg, hatom, htarget, hreach, hmem]

/-- Outside the quads a delivered request starts waiting at once, its WAIT as it came. -/
theorem intoInbox_of_not_quad {ep : Nat} {p : Packet} {s : State} (hquad : isQuad ep = false) (hwait : p.wait ≤ 0xFFFF) :
    (intoInbox ep p s).braid.inbox =
      s.braid.inbox ++ [{ ep := ep, pkt := p, came := s.time, at_ := s.time, op := (quadOf s (ep - 0x40)).op }] := by
  have hcost : wakeCost s ep = 0 := by simp [wakeCost, hquad]
  simp [intoInbox, hcost, Nat.min_eq_right hwait]

/-! ## PROBEs -/

/-- The target NI answers a whole PROBE that is the first of its source and VC (R99). -/
theorem probeAnswer_ok {ep pid : Nat} {p : Packet} {s : State} (hwhole : wholePacket s ep pid = some p) (hprobe : p.op = .probe)
    (hfirst : firstAtNi s ep p = true) :
    probeAnswer ep pid none s = respond ep p s.time 2 .ok [] [] false (niCount ep 1 (clearNi ep pid s)) := by
  simp [probeAnswer, hwhole, hprobe, hfirst, parityFits, niParity]

/-! ## Responses -/

/-- The ORB of a response that came in time is found among those that have not expired (R111, R112). -/
theorem find_orb_in_time {l : List Orb} {pid now d : Nat} {o : Orb} (hfind : l.find? (fun o => o.pid == pid) = some o)
    (hdeadline : o.deadline = some d) (htime : now ≤ d + 1) :
    l.find? (fun o => o.pid == pid && !(expiredBefore now o)) = some o := by
  obtain ⟨hpid, before, after, rfl, hbefore⟩ := List.find?_eq_some_iff_append.mp hfind
  refine List.find?_eq_some_iff_append.mpr ⟨?_, before, after, rfl, fun x hx => ?_⟩
  · have halive : expiredBefore now o = false := by simp [expiredBefore, hdeadline, htime]
    simp [hpid, halive]
  · have hother := hbefore x hx
    simp_all

/-- A response that came in time frees its ORB and answers its part (R101, R112). -/
theorem acceptResponse_answers {ep came d : Nat} {p : Packet} {o : Orb} {s : State} (hpoison : p.poison = []) (hforced : forcedShut s ep = false)
    (hfind : (niOf s ep).orbs.find? (fun o => o.pid == p.pid) = some o) (hdeadline : o.deadline = some d)
    (htime : came - s.braid.epoch ≤ d + 1) (hprobe : o.probe = false) :
    acceptResponse ep p came s = finishPart p.pid p.status p.wait p.data 0
      (modNi ep (fun n => { n with orbs := n.orbs.filter (fun x => x.pid != p.pid), ctr := tinc n.ctr 1 }) s) := by
  simp [acceptResponse, hforced, find_orb_in_time hfind hdeadline htime, hprobe, hpoison, notePoison]

/-- A whole response of this device without parity error or POISON is accepted as it came. -/
theorem responseArrival_accepts {ep pid : Nat} {p : Packet} {s : State} (hwhole : wholePacket s ep pid = some p) (hrsp : p.op = .rsp)
    (hnear : p.far = false) (hpoison : p.poison = []) :
    responseArrival ep pid none s = acceptResponse ep p (arrivedAt s ep pid) (clearNi ep pid s) := by
  have haccept : p.op = .rsp ∧ ¬ leaving s p ∧ parityFits none p := ⟨hrsp, by simp [leaving, hnear], rfl⟩
  have hstatus : (if p.poison != [] && decide (p.status = .ok) then Status.okPoison else p.status) = p.status := by simp [hpoison]
  simp only [responseArrival, hwhole]
  rw [if_pos haccept, hstatus]
  rfl

/-- Settles O11, by the rules above for requests, PROBEs and responses. -/
theorem packetsReachTheirTargets : Obligations.PacketsReachTheirTargets := by
  unfold Obligations.PacketsReachTheirTargets
  refine ⟨?_, ?_, ?_, ?_, ?_⟩
  · intro ep pid p s hwhole hprobe hrsp hev hnear hquad hclock hfirst
    show Host.Outcome.next (requestDelivery ep pid none s) = _
    rw [requestDelivery_delivers hwhole hprobe hrsp hev hnear hclock hfirst, hquad]
    rfl
  · intro q pid p s hwhole hq hprobe hrsp hev hnear hclock hfirst
    have hquad : isQuad (0x40 + q) = true := by
      simp only [isQuad, decide_eq_true_eq]
      omega
    show Host.Outcome.next (requestDelivery (0x40 + q) pid none s) = _
    rw [requestDelivery_delivers hwhole hprobe hrsp hev hnear hclock hfirst, hquad, Nat.add_sub_cancel_left]
    rfl
  · intro ep p s hdebug hdma hgate hmsg hatom htarget hreach hquad haddr hwait
    rw [deliverReq_memory_waits hdebug hdma hgate hmsg hatom htarget hreach haddr, intoInbox_of_not_quad hquad hwait]
  · intro ep pid p s hwhole hprobe hfirst hclock
    show Host.Outcome.next (whileClocked _ s (probeAnswer ep pid none s)) = _
    rw [whileClocked_on hclock, probeAnswer_ok hwhole hprobe hfirst]
  · intro ep pid d p o s hwhole hrsp hnear hpoison hforced hfind hdeadline htime hprobe hclock
    show Host.Outcome.next (whileClocked _ s (responseArrival ep pid none s)) = _
    rw [whileClocked_on hclock, responseArrival_accepts hwhole hrsp hnear hpoison]
    exact congrArg Host.Outcome.next (acceptResponse_answers hpoison hforced hfind hdeadline htime hprobe)

end Sys2Proof.Machine
end

section
/-! Resets, the boot of the firmware, RST_STY_N pulses, tamper release, fuses and flash writes (R19, R389, R525 to R534, R552, R580, R583). -/

namespace Sys2Proof.Machine
open Sys2Proof

/-! ## What raising events leaves -/

/-- The fatal summary and every part but the Braid and the event router are as they were. -/
def Undisturbed (s t : State) : Prop :=
  (∀ sp : StatePart, sp ≠ .braid → sp ≠ .events → part sp t = part sp s) ∧ t.events.fatalN = s.events.fatalN ∧ t.events.groups = s.events.groups

theorem Undisturbed.refl (s : State) : Undisturbed s s := ⟨fun _ _ _ => rfl, rfl, rfl⟩
theorem Undisturbed.trans {s t u : State} (h : Undisturbed s t) (k : Undisturbed t u) : Undisturbed s u :=
  ⟨fun sp hb he => (k.1 sp hb he).trans (h.1 sp hb he), k.2.1.trans h.2.1, k.2.2.trans h.2.2⟩
theorem Undisturbed.delta {s t : State} (h : Undisturbed s t) : t.delta = s.delta := h.1 .delta (by decide) (by decide)
theorem Undisturbed.crypto {s t : State} (h : Undisturbed s t) : t.crypto = s.crypto := h.1 .crypto (by decide) (by decide)
theorem Undisturbed.tbase {s t : State} (h : Undisturbed s t) : t.tbase = s.tbase := h.1 .tbase (by decide) (by decide)
theorem Undisturbed.dbg {s t : State} (h : Undisturbed s t) : t.dbg = s.dbg := h.1 .debug (by decide) (by decide)

/-- A record on its way asserts nothing yet. -/
theorem sendRecord_undisturbed (ni ev : Nat) (s : State) : Undisturbed s (sendRecord ni ev s) := by
  refine ⟨fun sp hb he => sendRecord_part _ _ _ hb he, ?_⟩
  unfold sendRecord
  split <;> exact ⟨rfl, rfl⟩

/-- FATAL_N and the GROUP bits do not move when an event is raised, only when its record is taken (R563). -/
theorem raiseEvAt_undisturbed (ni : Option Nat) (ev cause sev : Nat) (detail : List Byte) (s : State) :
    Undisturbed s (raiseEvAt ni ev cause sev detail s) := by
  refine ⟨fun sp hb he => raiseEvAt_part _ _ _ _ _ _ hb he, ?_⟩
  unfold raiseEvAt
  dsimp only
  split
  · split
    · split
      · exact (sendRecord_undisturbed _ _ _).2
      · exact ⟨rfl, rfl⟩
    · split
      · exact ⟨rfl, rfl⟩
      · split <;> exact ⟨rfl, rfl⟩
  · exact ⟨rfl, rfl⟩
theorem raiseEv_undisturbed (ev cause sev : Nat) (detail : List Byte) (s : State) : Undisturbed s (raiseEv ev cause sev detail s) :=
  raiseEvAt_undisturbed _ _ _ _ _ _
theorem forAll_undisturbed {α : Type} (l : List α) (f : State → α → State) (s : State) (h : ∀ t x, Undisturbed t (f t x)) :
    Undisturbed s (forAll l f s) := by
  unfold forAll
  induction l generalizing s with
  | nil => exact .refl s
  | cons x l ih => exact (h s x).trans (ih _)

/-! ## Resets -/

@[simp] theorem swapToFast_valid (s : State) : (swapToFast s).tbase.valid = s.tbase.valid := by
  unfold swapToFast
  split <;> rfl

/-- The state of a device reset before its events are raised: all but the time base, fuses, flash and the cause of the reset is as after power-on (Table 14.1, R527). -/
theorem deviceReset_before_events (kind : Nat) (s : State) : ∃ t, Undisturbed t (deviceReset kind s) ∧
    t.dbg.inReset = true ∧ t.dbg.fuses = s.dbg.fuses ∧ t.dbg.boot = { flash := s.dbg.boot.flash, lastFatal := lastFatalOf s, lastReset := kind } ∧
    t.events = {} ∧ t.crypto.slots = [] ∧ t.tbase.valid = s.tbase.valid := by
  refine ⟨_, (forAll_undisturbed _ _ _ fun t k => raiseEv_undisturbed 492 2 0 (leBytes 1 1 ++ leBytes 1 k) t).trans (raiseEv_undisturbed ..),
    rfl, rfl, rfl, rfl, rfl, swapToFast_valid s⟩

/-- A device reset clears the fatal summary into LAST_FATAL and the key slots; fuses, flash and the validity of TIMEBASE stay (Table 14.1, R527). -/
theorem deviceReset_clears (kind : Nat) (s : State) :
    (deviceReset kind s).dbg.inReset = true ∧ (deviceReset kind s).events.fatalN = false ∧ (deviceReset kind s).events.groups = [] ∧
    (deviceReset kind s).dbg.boot.lastFatal = lastFatalOf s ∧ (deviceReset kind s).dbg.boot.lastReset = kind ∧
    (deviceReset kind s).dbg.fuses = s.dbg.fuses ∧ (deviceReset kind s).dbg.boot.flash = s.dbg.boot.flash ∧
    (deviceReset kind s).crypto.slots = [] ∧ (deviceReset kind s).tbase.valid = s.tbase.valid := by
  obtain ⟨t, hquiet, hreset, hfuses, hboot, hevents, hslots, hvalid⟩ := deviceReset_before_events kind s
  simp [hquiet.dbg, hquiet.crypto, hquiet.tbase, hquiet.2, hreset, hfuses, hboot, hevents, hslots, hvalid]

/-- RESET_RELEASE samples the straps (R528). -/
theorem resetRelease_samples (m p : Nat) (g : Bool) {s : State} (hreset : s.dbg.inReset = true) :
    (resetRelease m p g s).dbg.inReset = false ∧ (resetRelease m p g s).dbg.boot.bootMode = m % 8 ∧
    (resetRelease m p g s).dbg.boot.slotId = p % 64 ∧ (resetRelease m p g s).dbg.boot.vmePg = g ∧ (resetRelease m p g s).delta.deviceId = p % 64 := by
  simp only [resetRelease, hreset, if_true]
  split
  · rw [(raiseEv_undisturbed ..).dbg, (raiseEv_undisturbed ..).delta]
    exact ⟨rfl, rfl, rfl, rfl, rfl⟩
  · exact ⟨rfl, rfl, rfl, rfl, rfl⟩

/-- CRYSTAL_WATCH_EXPIRY selects the crystal or marks it absent (R19). -/
theorem crystalWatchExpiry_tbase (o : Bool) {s : State} (hwatching : s.tbase.watching = true) (hdue : s.tbase.watchFrom + 1000 * msCycles ≤ s.time) :
    (crystalWatchExpiry o s).tbase = { s.tbase with watching := false, crystal := o, crystalAbsent := !o } := by
  rw [crystalWatchExpiry, if_pos ⟨hwatching, hdue⟩]
  cases o with
  | true => rfl
  | false => exact (raiseEv_undisturbed ..).tbase

/-- A rail deleted from a list is not in it. -/
theorem not_mem_ldel {α : Type} [DecidableEq α] (l : List α) (x : α) : x ∉ ldel l x := by simp [ldel]

/-! ## RST_STY_N pulses (Table 14.6) -/

theorem exec_rstStyNPulse (w : Nat) (s : State) : exec (.rstStyNPulse w) s = execRstStyNPulse w s := rfl

theorem exec_rstStyNPulse_short {w : Nat} (s : State) (hlow : 200 ≤ w) (hhigh : w ≤ 600) : exec (.rstStyNPulse w) s = .next (shortPulse w s) := by
  rw [exec_rstStyNPulse, execRstStyNPulse, if_neg (by omega), if_pos ⟨hlow, hhigh⟩]

/-- A short pulse opens a response window while response bits wait (R534). -/
theorem shortPulse_responds {w : Nat} {b : Bool} {r : List Bool} {s : State} (hw : w ≤ 400) (hbits : s.dbg.sty.respBits = b :: r) :
    shortPulse w s = modSty s (fun y => { y with respBits := r, sentBit := some (b, s.time) }) := by
  have hwait : w ≤ 400 ∧ s.dbg.sty.respBits ≠ [] := ⟨hw, by simp [hbits]⟩
  simp [shortPulse, hwait, responseWindow, hbits]

/-- Behind the attach pattern it attaches (Table 14.7). -/
theorem shortPulse_attaches {w : Nat} {s : State} (hw : w ≤ 400) (hbits : s.dbg.sty.respBits = []) (hst : s.dbg.sty.st = .detached)
    (hpattern : attachPattern s.dbg.sty.symbols = true) : shortPulse w s = attach s := by
  simp [shortPulse, hw, hbits, hst, hpattern]

/-- Else it is a symbol 0. -/
theorem shortPulse_symbol {w : Nat} {s : State}
    (h : 400 < w ∨ (s.dbg.sty.respBits = [] ∧ (s.dbg.sty.st ≠ .detached ∨ attachPattern s.dbg.sty.symbols = false))) :
    shortPulse w s = takeSymbol false s := by
  rcases h with hw | ⟨hbits, hst | hpattern⟩
  · have hlong : ¬ w ≤ 400 := Nat.not_le.mpr hw
    simp [shortPulse, hlong]
  · simp [shortPulse, hbits, hst]
  · simp [shortPulse, hbits, hpattern]

/-- A glitch is counted; its event leaves the Stylus logic (Table 14.6). -/
theorem styGlitch_sty (s : State) : (styGlitch s).dbg.sty = { s.dbg.sty with glitch := s.dbg.sty.glitch + 1 } := by
  have hdbg : (styGlitch s).dbg = (modSty s (fun y => { y with glitch := y.glitch + 1 })).dbg :=
    raiseLimitedAt_part (sp := .debug) _ _ _ _ _ _ _ _ (by decide) (by decide)
  rw [hdbg]
  rfl

/-- A symbol is put behind those that are kept, and none of fewer than 1024 is lost. -/
theorem takeSymbol_symbols (b : Bool) {s : State} (h : s.dbg.sty.symbols.length < 1024) :
    (takeSymbol b s).dbg.sty.symbols = s.dbg.sty.symbols ++ [b] := by
  have hnone : s.dbg.sty.symbols.length + 1 - 1024 = 0 := by omega
  simp only [takeSymbol, modSty_debug_sty, hnone, List.drop_zero]

/-- What a pulse of each width of Table 14.6 does. -/
theorem rstStyNPulse_by_width (w : Nat) (s : State) :
    (20000 ≤ w → exec (.rstStyNPulse w) s = .next (deviceReset 1 s)) ∧
    (1000 ≤ w ∧ w ≤ 2000 → exec (.rstStyNPulse w) s = .next (takeSymbol true s)) ∧
    (2000 < w ∧ w ≤ 19000 → exec (.rstStyNPulse w) s = .next (styGlitch s)) ∧
    (w < 200 ∨ (600 < w ∧ w < 1000) ∨ (19000 < w ∧ w < 20000) → exec (.rstStyNPulse w) s = .fault .pulseNotSpecified) := by
  rw [exec_rstStyNPulse, execRstStyNPulse]
  refine ⟨fun h => ?_, fun h => ?_, fun h => ?_, fun h => ?_⟩
  · rw [if_pos h]
  · rw [if_neg (by omega), if_neg (by omega), if_pos h]
  · rw [if_neg (by omega), if_neg (by omega), if_neg (by omega), if_pos h]
  · rw [if_neg (by omega), if_neg (by omega), if_neg (by omega), if_neg (by omega)]

/-! ## Fuses and flash -/

theorem dbg_fuses_of_view {s t : State} (h : fuseView t = fuseView s) : t.dbg.fuses = s.dbg.fuses := congrArg Prod.fst h

/-- A verified life-cycle step takes effect with the trigger of zeroization, and its job ends DONE (R387, R583). -/
theorem fuseProgrammingDone_verified {n j : Nat} {s : State} (hjob : s.dbg.boot.fuseJob = some (n, j)) :
    ∃ u, fuseProgrammingDone true s = endJob j rcDone [] u ∧ u.dbg.fuses = { s.dbg.fuses with life := lifeOf n } ∧
      u.crypto.trigger = some (s.crypto.trigger.getD 3) := by
  have hdone : fuseProgrammingDone true s = endJob j rcDone [] (clearProof [0, 1] 2 (trip 3
      (modDebug (detachDebugger (modBoot s (fun b => { b with fuseJob := none }))) (fun d => { d with fuses := { d.fuses with life := lifeOf n } })))) := by
    simp only [fuseProgrammingDone, hjob, if_true]
  refine ⟨_, hdone, ?_, ?_⟩
  · rw [dbg_fuses_of_view (clearProof_fuses ..), dbg_fuses_of_view (trip_fuses ..)]
    show { (detachDebugger (modBoot s (fun b => { b with fuseJob := none }))).dbg.fuses with life := lifeOf n } = _
    rw [dbg_fuses_of_view (detachDebugger_fuses _), modBoot_debug_fuses]
  · have hclear : ∀ t : State, (clearProof [0, 1] 2 t).crypto = t.crypto := fun t =>
      clearProof_part (sp := .crypto) _ _ t (by decide) (by decide) (by decide)
    have hdetach : ∀ t : State, (detachDebugger t).crypto = t.crypto := fun t =>
      detachDebugger_part (sp := .crypto) t (by decide) (by decide) (by decide) (by decide) (by decide) (by decide) (by decide) (by decide)
    simp [hclear, hdetach, trip]

/-- One that is not verified leaves the fuses, and its job ends FAILED_CHECK (R583). -/
theorem fuseProgrammingDone_failed {n j : Nat} {s : State} (hjob : s.dbg.boot.fuseJob = some (n, j)) :
    ∃ u, fuseProgrammingDone false s = endJob j rcFailedCheck [] u ∧ u.dbg.fuses = s.dbg.fuses :=
  ⟨modBoot s (fun b => { b with fuseJob := none }), by simp [fuseProgrammingDone, hjob], rfl⟩

/-- Rewriting the directory changes the flash alone. -/
@[simp] theorem writeDirectory_fwImage (d : List Byte) (s : State) : (writeDirectory d s).dbg.boot.fwImage = s.dbg.boot.fwImage := rfl

/-- The directory rewrite exchanges the numbers of the firmware images (R582; log entry 67). -/
theorem directoryRewriteDone_swaps {s : State} (h : s.dbg.boot.dirRewrite = true) :
    ∃ u, directoryRewriteDone s = nextReload (commitSvn u) ∧ u.dbg.boot.dirRewrite = false ∧
      u.dbg.boot.fwImage = (if s.dbg.boot.fwImage < 2 then 1 - s.dbg.boot.fwImage else s.dbg.boot.fwImage) := by
  unfold directoryRewriteDone
  rw [if_pos h]
  refine ⟨_, rfl, rfl, ?_⟩
  generalize ht : writeDirectory _ s = t
  have himage : t.dbg.boot.fwImage = s.dbg.boot.fwImage := ht ▸ writeDirectory_fwImage _ s
  rw [modBoot_debug_boot, ← himage]

/-- Settles O48, by the rules above for resets, pulses, fuses and flash. -/
theorem resetsBootAndStyPulsesTakeEffect : Obligations.ResetsBootAndStyPulsesTakeEffect := by
  unfold Obligations.ResetsBootAndStyPulsesTakeEffect
  refine ⟨?_, ?_, ?_, ?_, ?_, ?_, ?_, ?_, ?_, ?_, ?_⟩
  · intro s
    exact ⟨_, rfl, rfl, rfl, rfl, rfl, rfl, rfl, rfl, rfl, rfl, not_mem_ldel _ _⟩
  · intro o s hwatching hdue
    refine ⟨_, rfl, ?_⟩
    rw [crystalWatchExpiry_tbase o hwatching hdue]
    exact ⟨rfl, rfl, rfl⟩
  · intro w s
    obtain ⟨hreset, hone, hglitch, hfault⟩ := rstStyNPulse_by_width w s
    refine ⟨hreset, ?_, ?_, ?_, hone, fun h => ⟨_, hglitch h, styGlitch_sty s⟩, hfault⟩
    · intro b r hw hbits
      rw [exec_rstStyNPulse_short s hw.1 (by omega), shortPulse_responds hw.2 hbits]
    · intro hw hbits hst hpattern
      rw [exec_rstStyNPulse_short s hw.1 (by omega), shortPulse_attaches hw.2 hbits hst hpattern]
    · intro hw hplain
      rw [exec_rstStyNPulse_short s hw.1 hw.2, shortPulse_symbol hplain]
  · intro b s
    exact ⟨_, rfl, rfl, takeSymbol_symbols b⟩
  · intro s
    exact ⟨_, rfl, deviceReset_clears 1 s⟩
  · intro m p g s hreset
    exact ⟨_, rfl, resetRelease_samples m p g hreset⟩
  · intro o s hresetting hrecovery hloaded hreset hdom
    show Host.Outcome.next (firmwareLoad o s) = _
    simp [firmwareLoad, hresetting, hrecovery, hloaded, hreset, hdom]
  · intro i s
    exact ⟨_, rfl, rfl, rfl⟩
  · intro n j s hjob
    obtain ⟨u, hdone, hfuses, htrigger⟩ := fuseProgrammingDone_verified hjob
    obtain ⟨v, hfailed, hkept⟩ := fuseProgrammingDone_failed hjob
    exact ⟨⟨u, congrArg Host.Outcome.next hdone, hfuses, htrigger⟩, ⟨v, congrArg Host.Outcome.next hfailed, hkept⟩⟩
  · intro k o j pr img s hstaging
    refine ⟨_, rfl, ?_⟩
    show Host.Outcome.next (flashStagingDone true s) = _
    unfold flashStagingDone
    rw [hstaging]
    rfl
  · intro s hrewrite
    obtain ⟨u, hdone, hidle, himage⟩ := directoryRewriteDone_swaps hrewrite
    exact ⟨u, congrArg Host.Outcome.next hdone, hidle, himage⟩

end Sys2Proof.Machine
end

section
/-! The lock unit: reads and writes through its two ports, and the hold timer (R64 to R72). -/

namespace Sys2Proof.Machine
open Sys2Proof

/-! ## Locks of the state -/

@[simp] theorem lockOf_setLock (n : Nat) (l : Lock) (s : State) : lockOf (setLock n l s) n = l := by simp [lockOf, setLock]
theorem lockOf_setLock_other (l : Lock) (s : State) {n m : Nat} (h : m ≠ n) : lockOf (setLock n l s) m = lockOf s m := by
  simp [lockOf, setLock, tget_tset_other _ _ _ _ _ h]
@[simp] theorem lockOf_lockServed (s : State) (n : Nat) : lockOf (lockServed s) n = lockOf s n := rfl

/-- The lock unit's answer goes out over Braid: its locks stay. -/
theorem respondInbox_locks (d : Delivered) (fixed : Nat) (st : Status) (data : List Byte) (s : State) :
    (respondInbox d fixed st data s).locks = s.locks :=
  respondInbox_part (sp := .locks) d fixed st data s (by decide) (by decide)

/-! ## Reads -/

theorem readLock_held {n owner : Nat} {debug : Bool} {s : State} (h : (lockOf s n).held = true) :
    readLock n owner debug s = (lockValue (lockOf s n), s) := by simp [readLock, h]

theorem readLock_free {n owner : Nat} {s : State} (h : (lockOf s n).held = false) :
    readLock n owner false s = (0, setLock n { held := true, owner := owner, since := s.time, paused := ownerHalted s owner } s) := by
  simp [readLock, h]

/-- LOCK_READ through the Braid port answers what the read of the lock gives (R65). -/
theorem lockRead_braid {pid : Nat} {d : Delivered} {s : State} (hreq : lockRequest s pid = some d) (hop : d.pkt.op = .rd) :
    lockRead (.braid pid) s =
      respondInbox d 2 .ok (padTo d.pkt.len (leBytes 4 (readLock (lockIndex d.pkt) (ownerId d.pkt) d.pkt.debug s).1))
        (lockServed (readLock (lockIndex d.pkt) (ownerId d.pkt) d.pkt.debug s).2) := by
  simp [lockRead, hreq, hop]

/-! ## Writes -/

/-- Which write releases a lock (R66). -/
theorem lockReleases_iff (l : Lock) (owner value len : Nat) :
    lockReleases l owner value len = true ↔ l.held = true ∧ l.owner = owner ∧ value = owner ∧ len = 4 := by
  simp [lockReleases, and_assoc]

/-- A write through the Braid port that releases its lock. -/
theorem lockRelease_braid_releases {pid value : Nat} {d : Delivered} {s : State} (hreq : lockRequest s pid = some d) (hop : d.pkt.op ≠ .rd)
    (h : lockReleases (lockOf s (lockIndex d.pkt)) (ownerId d.pkt) (leAt d.pkt.data 0 4) d.pkt.len = true) :
    lockRelease (.braid pid) value s = respondInbox d 2 .ok [] (lockServed (setLock (lockIndex d.pkt) {} s)) := by
  simp [lockRelease, hreq, hop, h]

/-- Any other write through the Braid port. -/
theorem lockRelease_braid_denied {pid value : Nat} {d : Delivered} {s : State} (hreq : lockRequest s pid = some d) (hop : d.pkt.op ≠ .rd)
    (h : ¬ lockReleases (lockOf s (lockIndex d.pkt)) (ownerId d.pkt) (leAt d.pkt.data 0 4) d.pkt.len = true) :
    lockRelease (.braid pid) value s = respondInbox d 2 .denied [] (lockServed s) := by
  simp [lockRelease, hreq, hop, h]

/-! ## The Headwater port (R67) -/

/-- With no access of the other port in the way the access is served at once. -/
theorem hwLockAccess_serves {n : Nat} {value : Option Nat} {s : State} (hwait : s.locks.hwWaiting = none) (hused : lockUsed s = false)
    (hconflict : lockConflict s = false) : hwLockAccess n value s = hwLockServe n value s := by
  simp [hwLockAccess, hwait, hused, hconflict]

/-- A conflict that the Braid port wins leaves the access for the next cycle. -/
theorem hwLockAccess_waits {n : Nat} {value : Option Nat} {s : State} (hwait : s.locks.hwWaiting = none) (hused : lockUsed s = false)
    (hconflict : lockConflict s = true) (hturn : s.locks.braidFirst = true) :
    hwLockAccess n value s = modLocks s (fun u => { u with braidFirst := false, hwWaiting := some (n, value) }) := by
  simp [hwLockAccess, hwait, hused, hconflict, hturn]

/-- A served read: Headwater, owner 0, holds the lock that was free. -/
theorem hwLockServe_read (n : Nat) (s : State) : lockOf (hwLockServe n none s) n =
    if (lockOf s n).held then lockOf s n else { held := true, owner := 0, since := s.time, paused := ownerHalted s 0 } := by
  show lockOf (readLock n 0 false s).2 n = _
  cases h : (lockOf s n).held with
  | true => simp [readLock_held h]
  | false => simp [readLock_free h]

/-- A served write: owner 0 writes 4 bytes. -/
theorem hwLockServe_write (n value : Nat) (s : State) : lockOf (hwLockServe n (some value) s) n =
    if (lockOf s n).held = true ∧ (lockOf s n).owner = 0 ∧ value = 0 then {} else lockOf s n := by
  show lockOf (if lockReleases (lockOf s n) 0 value 4 then setLock n {} s else s) n = _
  simp only [lockReleases_iff, and_true]
  split
  · rw [lockOf_setLock]
  · rfl

theorem lockRead_headwater {n : Nat} (s : State) (hn : n < 256) : lockRead (.headwater n) s = hwLockAccess n none s := by
  simp [lockRead, hn]

theorem lockRelease_headwater {n : Nat} (value : Nat) (s : State) (hn : n < 256) :
    lockRelease (.headwater n) value s = hwLockAccess n (some value) s := by simp [lockRelease, hn]

/-! ## The hold timer (R69, R72) -/

theorem lockHoldExpiry_releases {n : Nat} {s : State} (hheld : (lockOf s n).held = true) (hruns : (lockOf s n).paused = false)
    (hdue : s.locks.holdMax * usCycles ≤ lockRan s (lockOf s n)) (hfirst : accessFirst s n = false) :
    lockHoldExpiry n s = lockEv n (lockOf s n).owner 0 (setLock n {} s) := by
  simp [lockHoldExpiry, hheld, hruns, hdue, hfirst]

/-- Settles O20, by the condition of R66 on each side. -/
theorem aWriteOfTheOwnerReleasesALock : Obligations.AWriteOfTheOwnerReleasesALock := by
  unfold Obligations.AWriteOfTheOwnerReleasesALock
  intro pid value d s hreq hop
  dsimp only
  refine ⟨fun ⟨hheld, hlen, hvalue, howner⟩ => ?_, fun hother => ?_⟩
  · have hrel := (lockReleases_iff _ _ _ _).mpr ⟨hheld, howner.symm, hvalue.trans howner.symm, hlen⟩
    refine ⟨_, congrArg Host.Outcome.next (lockRelease_braid_releases hreq hop hrel), ?_, fun m hm => ?_⟩
    · simp
    · rw [lockOf_lockServed, lockOf_setLock_other _ _ hm]
  · have hrel : ¬ lockReleases (lockOf s (lockIndex d.pkt)) (ownerId d.pkt) (leAt d.pkt.data 0 4) d.pkt.len = true := fun h => by
      obtain ⟨hheld, howner, hvalue, hlen⟩ := (lockReleases_iff _ _ _ _).mp h
      exact hother ⟨hheld, hlen, hvalue.trans howner.symm, howner.symm⟩
    exact ⟨_, congrArg Host.Outcome.next (lockRelease_braid_denied hreq hop hrel), fun m => rfl⟩

/-- Settles O19, by the rules above for the two ports and the hold timer. -/
theorem locksAreTakenAndReleased : Obligations.LocksAreTakenAndReleased := by
  unfold Obligations.LocksAreTakenAndReleased
  refine ⟨?_, ?_, ?_, ?_, ?_, ?_⟩
  · intro pid d s hreq hop hfree hdebug
    show Host.Outcome.next (lockRead (.braid pid) s) = _
    rw [lockRead_braid hreq hop, hdebug, readLock_free hfree]
  · intro pid d s hreq hop hheld
    show Host.Outcome.next (lockRead (.braid pid) s) = _
    rw [lockRead_braid hreq hop, readLock_held hheld]
  · intro pid value d s hreq hop
    refine ⟨fun h => ?_, fun h => ?_⟩
    · exact congrArg Host.Outcome.next (lockRelease_braid_releases hreq hop ((lockReleases_iff _ _ _ _).mpr h))
    · refine ⟨_, congrArg Host.Outcome.next (lockRelease_braid_denied hreq hop (h ∘ (lockReleases_iff _ _ _ _).mp)), rfl, ?_⟩
      rw [respondInbox_locks]
      rfl
  · intro n value s hn hwait hused hconflict
    refine ⟨⟨_, rfl, ?_⟩, ⟨_, rfl, ?_⟩⟩
    · rw [lockRead_headwater s hn, hwLockAccess_serves hwait hused hconflict, hwLockServe_read]
    · rw [lockRelease_headwater value s hn, hwLockAccess_serves hwait hused hconflict, hwLockServe_write]
  · intro n value s hn hwait hused hconflict hturn
    refine ⟨⟨_, rfl, ?_⟩, ⟨_, rfl, ?_⟩⟩
    · rw [lockRead_headwater s hn, hwLockAccess_waits hwait hused hconflict hturn, modLocks_locks]
    · rw [lockRelease_headwater value s hn, hwLockAccess_waits hwait hused hconflict hturn, modLocks_locks]
  · intro n s hheld hruns hdue hfirst
    refine ⟨setLock n {} s, congrArg Host.Outcome.next (lockHoldExpiry_releases hheld hruns hdue hfirst), ?_, fun m hm => ?_⟩
    · rw [lockOf_setLock]
    · exact lockOf_setLock_other _ _ hm

end Sys2Proof.Machine
end

section
/-! Ferry channels: the order in which they are served, takes, answers and resets (R41 to R55). -/

namespace Sys2Proof.Machine
open Sys2Proof

/-! ## What a walk over a list keeps -/

/-- What every step of a walk leaves, the walk leaves. -/
theorem forAll_keeps {α β : Type} (view : State → β) (l : List α) (f : State → α → State) (s : State) (h : ∀ t x, view (f t x) = view t) :
    view (forAll l f s) = view s := by
  unfold forAll
  induction l generalizing s with
  | nil => rfl
  | cons x l ih => rw [List.foldl_cons, ih, h]

/-- The channels are the Ferry block's. -/
theorem chanOf_of_ferry {s t : State} (h : t.ferry = s.ferry) (c : Nat) : chanOf t c = chanOf s c := by simp [chanOf, h]
@[simp] theorem chanOf_modFerry {s : State} {f : Ferry → Ferry} (h : (f s.ferry).chans = s.ferry.chans) (c : Nat) : chanOf (modFerry s f) c = chanOf s c := by
  simp [chanOf, h]

theorem raiseEv_ferry (ev cause sev : Nat) (detail : List Byte) (s : State) : (raiseEv ev cause sev detail s).ferry = s.ferry :=
  raiseEv_part (sp := .ferry) ev cause sev detail s (by decide) (by decide)
theorem freeLocks_ferry (owner : Nat) (s : State) : (freeLocks owner s).ferry = s.ferry :=
  freeLocks_part (sp := .ferry) owner s (by decide) (by decide) (by decide)

/-! ## The take order (R55) -/

/-- A search finds the first number that passes. -/
theorem findFrom_first {p : Nat → Bool} {a n i : Nat} (hi : i < n) (hp : p (a + i) = true) (hmin : ∀ j < i, p (a + j) = false) :
    findFrom p a n = some (a + i) := by
  induction n generalizing a i with
  | zero => omega
  | succ n ih =>
    cases i with
    | zero => exact if_pos hp
    | succ i =>
      have hno : ¬ p a = true := by simpa using hmin 0 (Nat.succ_pos i)
      rw [findFrom, if_neg hno, ih (a := a + 1) (Nat.lt_of_succ_lt_succ hi), Nat.add_right_comm, Nat.add_assoc]
      · rwa [Nat.add_right_comm, Nat.add_assoc]
      · intro j hj
        rw [Nat.add_right_comm, Nat.add_assoc]
        exact hmin (j + 1) (Nat.succ_lt_succ hj)

/-- The channel that comes first behind the one finished last is the next one. -/
theorem nextChannel_of_first {c : Nat} {s : State} (hlast : s.ferry.lastDone < 128) (hc : c < 128) (htake : takeable s c = true)
    (hfirst : ∀ d < 128, takeable s d = true → (c + 127 - s.ferry.lastDone) % 128 ≤ (d + 127 - s.ferry.lastDone) % 128) :
    nextChannel s = some c := by
  have hround : (s.ferry.lastDone + 1 + (c + 127 - s.ferry.lastDone) % 128) % 128 = c := by omega
  have hfind : findFrom (fun i => takeable s (i % 128)) (s.ferry.lastDone + 1) 128 =
      some (s.ferry.lastDone + 1 + (c + 127 - s.ferry.lastDone) % 128) := by
    refine findFrom_first (Nat.mod_lt _ (by decide)) (by rwa [hround]) fun j hj => ?_
    cases hj' : takeable s ((s.ferry.lastDone + 1 + j) % 128) with
    | false => rfl
    | true =>
      have hle := hfirst _ (Nat.mod_lt _ (by decide)) hj'
      omega
  rw [nextChannel, hfind, Option.map_some, hround]

/-- With channel 127 finished last channel 0 comes first. -/
theorem nextChannel_after_127 {s : State} (hlast : s.ferry.lastDone = 127) (htake : takeable s 0 = true) : nextChannel s = some 0 := by
  refine nextChannel_of_first (by omega) (by omega) htake fun d _ _ => ?_
  simp [hlast]

/-! ## Taking a message -/

/-- TAKE serves the message of the next channel, which is TAKEN; every other channel stays (R42, R45). -/
theorem take_takes {c : Nat} {s : State} (hirq : s.ferry.irq = true) (hserves : serves s = true) (hnext : nextChannel s = some c) :
    (take s).ferry.serving = some { readMsg s c with reply := firstChecks s (readMsg s c) } ∧
    chanOf (take s) c = { chanOf s c with st := .taken, qwait := (readMsg s c).qwait, wdraw := decide ((chanOf s c).st ≠ .posted), withdrawnAt := none } ∧
    ∀ d, d ≠ c → chanOf (take s) d = chanOf s d := by
  have htake : ∃ i, take s = modFerry (modChan c (fun h => { h with st := .taken, qwait := (readMsg s c).qwait, wdraw := decide (h.st ≠ .posted), withdrawnAt := none }) s)
      (fun f => { f with serving := some { readMsg s c with reply := firstChecks s (readMsg s c) }, irq := i }) := by
    simp only [take, hirq, hserves, and_self, if_true, hnext]
    exact ⟨_, rfl⟩
  obtain ⟨i, htake⟩ := htake
  rw [htake]
  refine ⟨rfl, ?_, fun d hd => ?_⟩
  · rw [chanOf_modFerry (by rfl), chanOf_modChan]
  · rw [chanOf_modFerry (by rfl), chanOf_modChan_other _ _ _ _ hd]

/-! ## Reports of jobs and answers (R41, R44, R47, R54) -/

theorem addLog_ferry (e : LogEntry) (s : State) : (addLog e s).ferry = { s.ferry with log := (s.ferry.log ++ [e]).drop (s.ferry.log.length + 1 - 4096) } :=
  mirrorItem_part (sp := .ferry) _ _ (by decide)

@[simp] theorem chanOf_addLog (e : LogEntry) (s : State) (c : Nat) : chanOf (addLog e s) c = chanOf s c := by simp [chanOf, addLog_ferry]
@[simp] theorem chanOf_addNotify (c : Nat) (cmd : Bool) (s : State) (d : Nat) : chanOf (addNotify c cmd s) d = chanOf s d := rfl
@[simp] theorem notify_addLog (e : LogEntry) (s : State) : (addLog e s).ferry.notify = s.ferry.notify := by simp [addLog_ferry]
@[simp] theorem notify_addNotify (c : Nat) (cmd : Bool) (s : State) : (addNotify c cmd s).ferry.notify = s.ferry.notify ++ [(c, cmd, s.time)] := rfl
@[simp] theorem notify_modChan (c : Nat) (f : Channel → Channel) (s : State) : (modChan c f s).ferry.notify = s.ferry.notify := rfl
@[simp] theorem time_modChan (c : Nat) (f : Channel → Channel) (s : State) : (modChan c f s).time = s.time := rfl

/-- What Headwater serves and finished last is no affair of a report. -/
theorem reportJob_service (s : State) (j : Job) :
    ((reportJob s j).ferry.serving, (reportJob s j).ferry.lastDone) = (s.ferry.serving, s.ferry.lastDone) := by
  unfold reportJob
  split
  · split
    · cases hw : !j.withdrawn <;> simp [when_, addLog_ferry, raiseEv_ferry]
    · rfl
  · rfl

theorem reportJobs_service (s : State) :
    ((reportJobs s).ferry.serving, (reportJobs s).ferry.lastDone) = (s.ferry.serving, s.ferry.lastDone) :=
  forAll_keeps (fun t => (t.ferry.serving, t.ferry.lastDone)) _ _ _ reportJob_service

/-- A channel's state once Headwater has written an answer to the message it served (Tables 2.8 and 2.11). -/
def answered (v : Serving) (r : Reply) (c : Channel) : Channel :=
  if c.wdraw then { c with st := .empty, wdraw := false } else { c with resp := respWords v r, ackSeq := v.seq, ackCode := r.code, st := .done }

/-- An answer: nothing is served, the channel is the one finished last and holds the answer, a notification is owed unless the message was withdrawn or asked for none; the jobs that have ended are reported. -/
theorem ackWith_answers (v : Serving) (r : Reply) (s : State) : ∃ u, ackWith v r s = reportJobs u ∧ u.ferry.serving = none ∧
    u.ferry.lastDone = v.ch ∧ chanOf u v.ch = answered v r (chanOf s v.ch) ∧
    u.ferry.notify = s.ferry.notify ++ (if (chanOf s v.ch).wdraw || bit v.flags 0 then [] else [(v.ch, false, s.time)]) := by
  refine ⟨_, rfl, rfl, rfl, ?_, ?_⟩
  · rw [chanOf_modFerry (by rfl), when_]
    split_ifs <;> simp [answered, *]
  · rw [modFerry_ferry, when_]
    split_ifs <;> simp_all

/-- FERRY_ACK_WRITE of an answered message that waits for nothing. -/
theorem ferryAckWrite_answered {v : Serving} {r : Reply} {s : State} (hserving : s.ferry.serving = some v) (hreply : v.reply = some r)
    (hwait : v.waitingFor = 0) : ferryAckWrite s = ackWith v r s := by
  simp [ferryAckWrite, hserving, hreply, hwait]

/-! ## Resets -/

theorem hwReset_ferry (c : HwResetCause) (s : State) : (hwReset c s).ferry =
    { (abortChannels s).ferry with serving := none, lastDone := 127, irq := false, ready := false, resetting := true, recovery := false, switchPending := false, jobs := (abortChannels s).ferry.jobs.map (fun j => { j with acked := true }) } :=
  (freeLocks_ferry _ _).trans (raiseEv_ferry ..)

/-- A device reset clears the Ferry block (Table 14.1). -/
theorem deviceReset_ferry (kind : Nat) (s : State) : (deviceReset kind s).ferry = {} :=
  (raiseEv_ferry ..).trans (forAll_keeps (fun t => t.ferry) _ _ _ fun _ _ => raiseEv_ferry ..)

/-- Settles O51, by the search for the first channel behind the one finished last. -/
theorem channelsAreServedRoundRobin : Obligations.ChannelsAreServedRoundRobin := by
  unfold Obligations.ChannelsAreServedRoundRobin
  refine ⟨?_, ?_, ?_, ?_, ?_⟩
  · intro v r s hserving hreply hwait
    obtain ⟨u, hack, hnone, hlast, -, -⟩ := ackWith_answers v r s
    have hservice := reportJobs_service u
    rw [hnone, hlast, Prod.mk.injEq] at hservice
    refine ⟨reportJobs u, ?_, hservice⟩
    exact congrArg Host.Outcome.next ((ferryAckWrite_answered hserving hreply hwait).trans hack)
  · intro c s hirq hserves hlast hc htake hfirst
    obtain ⟨hserving, hchan, hother⟩ := take_takes hirq hserves (nextChannel_of_first hlast hc htake hfirst)
    exact ⟨take s, _, rfl, hserving, rfl, congrArg Channel.st hchan, hother⟩
  · intro s
    exact ⟨_, rfl, congrArg Ferry.lastDone (deviceReset_ferry 1 s)⟩
  · intro k s
    exact ⟨_, rfl, congrArg Ferry.lastDone (hwReset_ferry k s)⟩
  · intro s hirq hserves hlast htake
    obtain ⟨hserving, -, -⟩ := take_takes hirq hserves (nextChannel_after_127 hlast htake)
    exact ⟨take s, _, rfl, hserving, rfl⟩

end Sys2Proof.Machine
end

section
/-! Messages of senders: writes, sender resets, the interrupt and the take (R38 to R49, R71). -/

namespace Sys2Proof.Machine
open Sys2Proof

/-! ## Writes of senders (R38, R39, R46) -/

/-- A write whose turn it is, that is within what may be written and aborts nothing, changes its channel and is answered OK. -/
theorem ferryWrite_ok {pid : Nat} {mine : Nat → Nat → Bool} {d : Delivered} {s : State} (hat : ferryWriteAt s pid = some d)
    (hmine : mine (d.pkt.addr % 0x200) (leAt d.pkt.data 0 1) = true)
    (hok : d.pkt.addr % 0x200 = 0x80 ∨ (msgOpen (chanOf s (chanOfPkt d.pkt)) = true ∧ d.pkt.addr % 0x200 + d.pkt.data.length ≤ 0x40))
    (haborts : ¬ (d.pkt.addr % 0x200 = 0x80 ∧ bit (leAt d.pkt.data 0 1) 0 = true ∧ (chanOf s (chanOfPkt d.pkt)).st = .empty ∧ chanServed s (chanOfPkt d.pkt) = false)) :
    ferryWrite pid mine s = respondInbox d 6 .ok [] (modChan (chanOfPkt d.pkt) (chanWrite s (chanOfPkt d.pkt) d.pkt) s) := by
  have hnone : (decide (d.pkt.addr % 0x200 = 0x80) && bit (leAt d.pkt.data 0 1) 0 && decide ((chanOf s (chanOfPkt d.pkt)).st = .empty) && !(chanServed s (chanOfPkt d.pkt))) = false := by
    simpa [Bool.and_assoc] using haborts
  have hgood : (decide (d.pkt.addr % 0x200 = 0x80) || (msgOpen (chanOf s (chanOfPkt d.pkt)) && decide (d.pkt.addr % 0x200 + d.pkt.data.length ≤ 0x40))) = true := by
    simpa using hok
  simp only [ferryWrite, hat, hmine, hnone, hgood, if_true, if_false, Bool.false_eq_true, ferryWriteDone]

theorem chanWrite_msg {s : State} {c : Nat} {p : Packet} {h : Channel} (ho : p.addr % 0x200 < 0x40) (hopen : msgOpen h = true) :
    chanWrite s c p h = msgBytes h (p.addr % 0x200) p.data := by simp [chanWrite, ho, hopen]

theorem chanWrite_bell {s : State} {c : Nat} {p : Packet} {h : Channel} (ho : p.addr % 0x200 = 0x80) :
    chanWrite s c p h = if bit (leAt p.data 0 1) 0 then postBell s.time (chanServed s c) h else clearBell s.time h := by simp [chanWrite, ho]

/-- Every channel is served while Headwater is not resetting. -/
theorem chanServed_of_not_resetting {s : State} (h : s.ferry.resetting = false) (c : Nat) : chanServed s c = true := by simp [chanServed, h]

theorem postBell_empty {now : Nat} {h : Channel} (hst : h.st = .empty) :
    postBell now true h = { h with st := .posted, seq := chanSeq h, postedAt := now, wdraw := false, withdrawnAt := none } := by
  simp [postBell, hst]

theorem clearBell_posted {now : Nat} {h : Channel} (hst : h.st = .posted) : clearBell now h = { h with st := .empty, withdrawnAt := some now } := by
  simp [clearBell, hst]

/-! ## Sender resets (R49, R71) -/

theorem senderResetChan_ferry (c : Nat) (s : State) : (senderResetChan c s).ferry = (modChan c (clearBell s.time) s).ferry :=
  forAll_keeps (fun t => t.ferry) _ _ _ fun t o => freeLocks_ferry o t

theorem chanOf_senderResetChan (c : Nat) (s : State) : chanOf (senderResetChan c s) c = clearBell s.time (chanOf s c) := by
  rw [chanOf_of_ferry (senderResetChan_ferry c s), chanOf_modChan]

theorem chanOf_senderResetChan_other (s : State) {c d : Nat} (h : d ≠ c) : chanOf (senderResetChan c s) d = chanOf s d := by
  rw [chanOf_of_ferry (senderResetChan_ferry c s), chanOf_modChan_other _ _ _ _ h]

/-! ## The interrupt (Table 2.12) -/

theorem headwaterInterrupt_raises {c : Nat} {h : Channel} {s : State} (hmem : (c, h) ∈ s.ferry.chans) (hst : h.st = .posted)
    (hdue : h.postedAt + 38 ≤ s.time) : headwaterInterrupt s = modFerry s (fun f => { f with irq := true, irqAt := s.time }) := by
  have hany : s.ferry.chans.any (fun c => c.2.st == .posted && decide (c.2.postedAt + 38 ≤ s.time)) = true :=
    List.any_eq_true.mpr ⟨_, hmem, by simp [hst, hdue]⟩
  simp only [headwaterInterrupt, hany, if_true]

/-- Settles O16, by the rules above for writes of senders, sender resets and takes. -/
theorem messagesArePostedAndTaken : Obligations.MessagesArePostedAndTaken := by
  unfold Obligations.MessagesArePostedAndTaken
  refine ⟨?_, ?_, ?_, ?_, ?_, ?_⟩
  · intro pid d s hat hopen hlen ho
    have hmine : decide (d.pkt.addr % 0x200 < 0x40) = true := decide_eq_true ho
    refine ⟨_, congrArg Host.Outcome.next (ferryWrite_ok hat hmine (.inr ⟨hopen, hlen⟩) (by omega)), rfl, ?_, ?_⟩
    · rw [chanOf_modChan, chanWrite_msg ho hopen]
    · exact fun c hc => chanOf_modChan_other _ _ _ _ hc
  · intro pid d s hat ho hbit hempty hruns
    have hserved := chanServed_of_not_resetting hruns (chanOfPkt d.pkt)
    have hmine : (decide (d.pkt.addr % 0x200 = 0x80) && bit (leAt d.pkt.data 0 1) 0) = true := by simp [ho, hbit]
    refine ⟨_, congrArg Host.Outcome.next (ferryWrite_ok hat hmine (.inl ho) (by simp [hserved])), rfl, ?_, ?_⟩
    · rw [chanOf_modChan, chanWrite_bell ho, if_pos hbit, hserved, postBell_empty hempty]
    · exact fun c hc => chanOf_modChan_other _ _ _ _ hc
  · intro pid d s hat ho hbit hposted
    have hmine : (decide (d.pkt.addr % 0x200 = 0x80) && !(bit (leAt d.pkt.data 0 1) 0)) = true := by simp [ho, hbit]
    refine ⟨_, congrArg Host.Outcome.next (ferryWrite_ok hat hmine (.inl ho) (by simp [hbit])), rfl, ?_, ?_⟩
    · rw [chanOf_modChan, chanWrite_bell ho, if_neg (by simp [hbit]), clearBell_posted hposted]
    · exact fun c hc => chanOf_modChan_other _ _ _ _ hc
  · intro c s hc
    have hreset : senderReset c s = senderResetChan c s := if_pos hc
    exact ⟨_, congrArg Host.Outcome.next hreset, chanOf_senderResetChan c s, fun _ hother => chanOf_senderResetChan_other s hother, rfl⟩
  · intro c h s hmem hst hdue
    exact ⟨_, congrArg Host.Outcome.next (headwaterInterrupt_raises hmem hst hdue), rfl, rfl, rfl⟩
  · intro c s hirq hserves hnext
    obtain ⟨hserving, hchan, -⟩ := take_takes hirq hserves hnext
    exact ⟨take s, rfl, hserving, hchan⟩

end Sys2Proof.Machine
end

section
/-! Answers, completion notifications and event records (R41, R44, R47, R555 to R560). -/

namespace Sys2Proof.Machine
open Sys2Proof

/-! ## Notifications (Table 2.13) -/

/-- COMPLETION_NOTIFICATION of a notification owed and due. -/
theorem completionNotification_due {c : Nat} {s : State} (h : notifyDue s c = true) :
    completionNotification c s = notifySender c (modFerry s (fun f => { f with notify := popNotify f.notify c })) := if_pos h

theorem notifySender_engine {c : Nat} (s : State) (h : c < 96) : notifySender c s = raiseLine c 15 s := if_pos h

theorem notifySender_host {c : Nat} (s : State) (hlow : 96 ≤ c) (hhigh : c < 100) :
    notifySender c s = modHost s (fun h => { h with doorbell := h.doorbell ||| 2 ^ (c - 96), msixSent := h.msixSent ++ [c - 96] }) := by
  rw [notifySender, if_neg (by omega), if_pos hhigh]

theorem notifySender_twin (s : State) :
    notifySender 100 s = modTwin s (fun w => { w with outbox := w.outbox ++ [.completion (chanOf s 100).ackSeq (chanOf s 100).ackCode] }) := rfl

theorem notifySender_stylus (s : State) : notifySender 101 s = modSty s (fun y => { y with ferry := true }) := rfl

theorem notifySender_device {c dev : Nat} {s : State} (hlow : 102 ≤ c) (hhigh : c < 106) (hbound : boundDev s c = some dev) :
    notifySender c s = remoteDone c dev s := by
  rw [notifySender, if_neg (by omega), if_neg (by omega), if_neg (by omega), if_neg (by omega), if_pos hhigh, hbound]

theorem notifySender_reach {c : Nat} (s : State) (h : 106 ≤ c) :
    notifySender c s = modHost s (fun h => { h with ferryDone := h.ferryDone ++ [c] }) := by
  rw [notifySender, if_neg (by omega), if_neg (by omega), if_neg (by omega), if_neg (by omega), if_neg (by omega)]

/-! ## Records (R555 to R560) -/

theorem eventRaise_listed {ev cause sev : Nat} {detail : List Byte} {s : State} (h : evDefault s ev cause detail = some sev) :
    eventRaise ev cause detail s = raiseEvAt (evPlace s ev detail) ev cause sev detail s := by simp [eventRaise, h]

/-- EVENT_TAKE, in a Headwater cycle that has taken none, takes the record of the next source. -/
theorem eventTake_takes {ev : Nat} {p : Pend} {s : State} (hcycle : s.events.takenAt ≠ some (hwCycle s)) (hnext : nextSource s = some ev)
    (hpend : tfind s.events.pend ev = some p) :
    eventTake s = promote ev p (routeRec { p.r with sev := evSev (evCfg s ev) p.r.sev, host := bit (evCfg s ev) 25 } (evCfg s ev)
      (modEvents s (fun e => { e with last := ev, takenAt := some (hwCycle s) }))) := by
  simp only [eventTake, if_neg hcycle, hnext, hpend]

/-- EVENT_DRAIN with no channel POSTED or TAKEN. -/
theorem eventDrain_idle {s : State} (hready : s.ferry.ready = true) (hidle : ∀ c ∈ s.ferry.chans, c.2.st ≠ .posted ∧ c.2.st ≠ .taken) :
    eventDrain s = modEvents s (fun e => { e with fifo := e.fifo.drop s.events.fifo.length, hostQ := ((e.fifo.take s.events.fifo.length).filter forHost).foldl (pushRec 4096) e.hostQ }) := by
  have hbusy : s.ferry.chans.any (fun c => c.2.st == .posted || c.2.st == .taken) = false :=
    List.any_eq_false.mpr fun c hc => by simpa using hidle c hc
  simp only [eventDrain, hready, hbusy, if_true, if_false, Bool.false_eq_true]

/-- Settles O17, by the rules above for answers, notifications and records. -/
theorem headwaterAnswersAndNotifies : Obligations.HeadwaterAnswersAndNotifies := by
  unfold Obligations.HeadwaterAnswersAndNotifies
  refine ⟨?_, ?_, ?_, ?_, ?_, ?_, ?_, ?_, ?_, ?_, ?_⟩
  · intro v r s hserving hreply hwait hheld
    obtain ⟨u, hack, hnone, hlast, hchan, hnotify⟩ := ackWith_answers v r s
    rw [hheld, Bool.false_or] at hnotify
    refine ⟨u, congrArg Host.Outcome.next ((ferryAckWrite_answered hserving hreply hwait).trans hack), ?_, hnone, hlast, hnotify⟩
    simp [hchan, answered, hheld]
  · intro c s hdue hc
    exact congrArg Host.Outcome.next ((completionNotification_due hdue).trans (notifySender_engine _ hc))
  · intro c s hdue hlow hhigh
    exact ⟨_, congrArg Host.Outcome.next ((completionNotification_due hdue).trans (notifySender_host _ hlow hhigh)), rfl, rfl, rfl⟩
  · intro s hdue
    exact ⟨_, congrArg Host.Outcome.next ((completionNotification_due hdue).trans (notifySender_twin _)), rfl, rfl⟩
  · intro s hdue
    exact ⟨_, congrArg Host.Outcome.next ((completionNotification_due hdue).trans (notifySender_stylus _)), rfl, rfl⟩
  · intro c dev s hdue hlow hhigh hbound
    exact congrArg Host.Outcome.next ((completionNotification_due hdue).trans (notifySender_device hlow hhigh hbound))
  · intro c s hdue hc
    exact ⟨_, congrArg Host.Outcome.next ((completionNotification_due hdue).trans (notifySender_reach _ hc)), rfl, rfl⟩
  · intro ev cause sev detail s hsev
    exact congrArg Host.Outcome.next (eventRaise_listed hsev)
  · intro ev p s hcycle hnext hpend
    exact ⟨_, congrArg Host.Outcome.next (eventTake_takes hcycle hnext hpend), rfl⟩
  · intro s hready hidle
    refine ⟨_, congrArg Host.Outcome.next (eventDrain_idle hready hidle), ?_, ?_⟩
    · simp
    · simp
  · intro mask s
    exact ⟨_, rfl, rfl⟩

end Sys2Proof.Machine
end

section
/-! Headwater resets and restarts, the fatal summary and Rill (R33, R34, R50 to R53, R520, R563, R564). -/

namespace Sys2Proof.Machine
open Sys2Proof

/-- A Headwater reset starts the load of the firmware again (R50). -/
theorem hwReset_loaded (c : HwResetCause) (s : State) : (hwReset c s).dbg.boot.loaded = false := by
  have hdbg : ∀ t : State, (freeLocks 0 (raiseEv 441 (hwCause c) 1 [] t)).dbg = t.dbg := fun t =>
    (freeLocks_part (sp := .debug) _ _ (by decide) (by decide) (by decide)).trans (raiseEv_part (sp := .debug) _ _ _ _ _ (by decide) (by decide))
  exact congrArg (fun d => d.boot.loaded) (hdbg _)

/-- HW_READY: the loaded firmware serves; jobs it lost end ABORTED and are stopped (R52). -/
theorem hwReady_serves (lost : List Nat) {s : State} (hloaded : s.dbg.boot.loaded = true) (hresetting : s.ferry.resetting = true)
    (hrecovery : s.ferry.recovery = false) :
    hwReady lost s = reportJobs (forAll (lost.filter (fun j => s.ferry.jobs.any (fun k => k.id == j && k.ended == none)))
      (fun u j => stopJob j (endJob j rcAborted [] u))
      (raiseEv 440 1 0 [] (modBoot (modFerry s (fun f => { f with ready := true, resetting := false })) (fun b => { b with tbReady := s.tbase.tb })))) := by
  simp only [hwReady, hloaded, hresetting, hrecovery, Bool.false_eq_true, not_false_eq_true, and_self, if_true]

/-- The state in which firmware has switched to the activated image, before EV443 (R53, R582). -/
def switched (s : State) : State :=
  modBoot (modFerry s (fun f => { f with switchPending := false, commitSvn := false })) (fun b =>
    { b with fwImage := stagedImage s, fwVersion := leAt (fwImageAt s ((fwOffset s (stagedImage s)).getD 0)) 0x0C 4, fwSvn := leAt (fwImageAt s ((fwOffset s (stagedImage s)).getD 0)) 0x10 4,
             stageState := 0, dirDue := stagedImage s == 1,
             nextSvn := if s.ferry.commitSvn then some (leAt (fwImageAt s ((fwOffset s (stagedImage s)).getD 0)) 0x10 4) else none })

theorem firmwareSwitch_switches {s : State} (hpending : s.ferry.switchPending = true) (hidle : s.ferry.serving = none) :
    firmwareSwitch s = if stagedImage s = 1 then raiseEv 443 1 0 [] (switched s) else commitSvn (raiseEv 443 1 0 [] (switched s)) := by
  simp only [firmwareSwitch, hpending, hidle, Option.isNone_none, and_self, if_true, switched]

/-- Which GROUP bits FATAL_SUMMARY_CLEAR leaves (R564, R523). -/
theorem mem_groups_fatalSummaryClear (mask g : Nat) (s : State) : g ∈ (fatalSummaryClear mask s).events.groups ↔
    g ∈ s.events.groups ∧ (bit mask g = false ∨ (g = 7 ∧ s.power.tripped = true) ∨ tfind s.events.fatalAt g = some s.time) := by
  simp [fatalSummaryClear, or_assoc]

/-- A record of a Rill source that has not come yet arrives, while Rill runs (R17, R563). -/
theorem eventRillArrival_arrives {ev : Nat} {p : Pend} {s : State} (hpend : tfind s.events.pend ev = some p) (hnew : p.arrived = false)
    (hrill : p.r.ni = none) (hruns : rillRuns s = true) :
    eventRillArrival ev s = if evSev (evCfgAon s ev) p.r.sev = 3 ∧ bit (evCfgAon s ev) 26 = true
      then assertFatal ev (modEvents s (fun e => { e with pend := tset e.pend ev { p with arrived := true } }))
      else modEvents s (fun e => { e with pend := tset e.pend ev { p with arrived := true } }) := by
  simp only [eventRillArrival, hpend, hnew, hrill, hruns, Option.isSome_none, Bool.not_true, Bool.or_self, Bool.false_eq_true, if_false]

theorem rillAccess_kick {k : Nat} {r : List Rill} {s : State} (hruns : rillRuns s = true) (hrill : s.rill = .kick k :: r) :
    rillAccess s = modWdt k (fun w => { w with kicked := true }) { s with rill := r } := by
  simp [rillAccess, hruns, hrill]

theorem rillAccess_access {pid : Nat} {d : Delivered} {r : List Rill} {s : State} (hruns : rillRuns s = true) (hrill : s.rill = .access pid :: r)
    (hinbox : inboxAny s pid = some d) :
    rillAccess s = respondInbox d 10 .ok (if d.pkt.op = .rd then List.replicate d.pkt.len 0 else []) { s with rill := r } := by
  simp [rillAccess, hruns, hrill, hinbox]

/-- Settles O18, by the rules above for resets, the firmware, the fatal summary and Rill. -/
theorem headwaterResetsAndRestarts : Obligations.HeadwaterResetsAndRestarts := by
  unfold Obligations.HeadwaterResetsAndRestarts
  refine ⟨?_, ?_, ?_, ?_, ?_, ?_, ?_, ?_, ?_, ?_⟩
  · exact fun c s => rfl
  · exact fun s => rfl
  · intro s
    refine ⟨_, rfl, ?_⟩
    cases s.ferry.switchPending <;> exact ⟨rfl, rfl, rfl⟩
  · intro c s
    have hferry := hwReset_ferry c s
    refine ⟨?_, congrArg Ferry.serving hferry, congrArg Ferry.lastDone hferry, congrArg Ferry.ready hferry, hwReset_loaded c s⟩
    exact hwReset_part c s (by decide) (by decide) (by decide) (by decide) (by decide)
  · intro lost s hloaded hresetting hrecovery
    exact ⟨_, congrArg Host.Outcome.next (hwReady_serves lost hloaded hresetting hrecovery), rfl, rfl, rfl, rfl⟩
  · intro s hpending hidle
    exact ⟨switched s, congrArg Host.Outcome.next (firmwareSwitch_switches hpending hidle), rfl, rfl, rfl, rfl, rfl⟩
  · exact fun mask s => ⟨_, rfl, fun g => mem_groups_fatalSummaryClear mask g s⟩
  · intro ev p s hpend hnew hrill hruns
    exact ⟨_, congrArg Host.Outcome.next (eventRillArrival_arrives hpend hnew hrill hruns), rfl⟩
  · intro k r s hruns hrill
    exact congrArg Host.Outcome.next (rillAccess_kick hruns hrill)
  · intro pid d r s hruns hrill hinbox
    exact congrArg Host.Outcome.next (rillAccess_access hruns hrill hinbox)

end Sys2Proof.Machine
end

section
/-! Accesses of the host and registers whose accesses have side effects (R49, R63, Table 2.17, Table 14.11). -/

namespace Sys2Proof.Machine
open Sys2Proof

/-! ## BAR2 and the apertures (R63) -/

theorem bar2Request_enabled {o : Nat} (r : Req) {s : State} (h : (tget s.host.apertures (false, 0) (o / 2 ^ 32 % 16)).1 = true) :
    bar2Request o r s = receiveTlp { r with op := if r.op = .rd then .rd else .wrp, far := false, addr := bar2Addr s o } s := if_pos h

theorem bar2Request_disabled {o : Nat} (r : Req) {s : State} (h : (tget s.host.apertures (false, 0) (o / 2 ^ 32 % 16)).1 = false) :
    bar2Request o r s = modHost s (fun h => { h with unsupported := h.unsupported + 1 }) := if_neg (by rw [h]; exact Bool.false_ne_true)

/-- A write of aperture register k. -/
theorem bar0Write_aperture {k : Nat} (v : Nat) (s : State) (hk : k < 16) :
    bar0Write (0x20000 + 8 * k + 4) v s = modHost s (fun h => { h with apertures := tset h.apertures k (bit v 31, v % 65536) }) := by
  have hindex : (0x20000 + 8 * k + 4 - 0x20000) / 8 = k := by omega
  rw [bar0Write, if_neg (by omega), if_neg (by omega), if_neg (by omega), if_pos (by omega), hindex]

/-! ## PCIE_RESET (R49, R525) -/

theorem senderResetChan_time (c : Nat) (s : State) : (senderResetChan c s).time = s.time :=
  senderResetChan_part (sp := .time) c s (by decide) (by decide) (by decide) (by decide)

/-- A sender reset of several channels clears the BELL of each of them and of no other. -/
theorem chanOf_senderResets {l : List Nat} (hl : l.Nodup) (s : State) (c : Nat) :
    chanOf (forAll l (fun u c => senderResetChan c u) s) c = if c ∈ l then clearBell s.time (chanOf s c) else chanOf s c := by
  unfold forAll
  induction l generalizing s with
  | nil => rfl
  | cons x l ih =>
    obtain ⟨hx, hl⟩ := List.nodup_cons.mp hl
    rw [List.foldl_cons, ih hl, senderResetChan_time]
    by_cases hc : c = x
    · subst hc
      simp [hx, chanOf_senderResetChan]
    · simp [hc, chanOf_senderResetChan_other s hc]

theorem chanOf_pcieReset (s : State) (c : Nat) :
    chanOf (pcieReset s) c = if c ∈ [96, 97, 98, 99] then clearBell s.time (chanOf s c) else chanOf s c := by
  rw [pcieReset, chanOf_of_ferry (modHost_ferry _ _), chanOf_of_ferry (modEngines_ferry _ _), chanOf_senderResets (by decide)]

/-! ## Registers over Braid -/

theorem registerWrite_braid {pid : Nat} {d : Delivered} {s t : State} (hinbox : inboxAny s pid = some d) (hwrite : braidWrite d s = some t) :
    registerWrite (.braid pid) s = writeDone d t := by simp [registerWrite, hinbox, hwrite]

/-- A read of at most 4 bytes at offset 0x100 draws, and holds the upper half of the draw. -/
theorem kmRngOutRead_draws {pid : Nat} (draw : BitVec 64) {d : Delivered} {s : State} (hread : regRead s pid 0x5A = some (d, 0x100))
    (hdebug : d.pkt.debug = false) (hlen : d.pkt.len ≤ 4) :
    kmRngOutRead pid draw s = respondInbox d 10 .ok (padTo d.pkt.len (leBytes 4 draw.toNat)) (modCrypto s (fun c => { c with rngHeld := draw.toNat / 2 ^ 32 })) := by
  simp [kmRngOutRead, hread, hdebug, hlen]

/-- A read at offset 0x104 returns the held half and clears it. -/
theorem kmRngOutRead_held {pid : Nat} (draw : BitVec 64) {d : Delivered} {s : State} (hread : regRead s pid 0x5A = some (d, 0x104))
    (hdebug : d.pkt.debug = false) :
    kmRngOutRead pid draw s = respondInbox d 10 .ok (padTo d.pkt.len (leBytes 4 s.crypto.rngHeld)) (modCrypto s (fun c => { c with rngHeld := 0 })) := by
  simp [kmRngOutRead, hread, hdebug]

theorem cfgXspiRdRead_streams {pid o : Nat} {d : Delivered} {s : State} (hread : regRead s pid 0x01 = some (d, o)) (hdebug : d.pkt.debug = false) :
    cfgXspiRdRead pid s = respondInbox d 10 .ok (flashBytes s s.fabric.xspiPos d.pkt.len) (modFabric s (fun f => { f with xspiPos := f.xspiPos + d.pkt.len })) := by
  simp [cfgXspiRdRead, hread, hdebug]

/-- Settles O21, by the rules above for the host's accesses and registers with side effects. -/
theorem hostAndRegisterAccesses : Obligations.HostAndRegisterAccesses := by
  unfold Obligations.HostAndRegisterAccesses
  refine ⟨?_, ?_, ?_, ?_, ?_, ?_, ?_, ?_, ?_⟩
  · intro debug s
    refine ⟨_, rfl, ?_⟩
    cases debug <;> exact ⟨rfl, rfl⟩
  · intro o r s henabled
    exact ⟨_, congrArg Host.Outcome.next (bar2Request_enabled r henabled), rfl, rfl⟩
  · intro o r s hdisabled
    exact ⟨_, congrArg Host.Outcome.next (bar2Request_disabled r hdisabled), rfl, rfl⟩
  · intro s
    refine ⟨_, rfl, rfl, rfl, fun c hlow hhigh => ?_, fun c hlow => ?_⟩
    · rw [chanOf_pcieReset, if_pos (by simp; omega)]
    · rw [chanOf_pcieReset, if_neg (by simp; omega)]
  · intro k v s hk
    refine ⟨_, congrArg Host.Outcome.next (bar0Write_aperture v s hk), ?_⟩
    simp
  · intro pid d t s hinbox hwrite
    exact congrArg Host.Outcome.next (registerWrite_braid hinbox hwrite)
  · intro pid draw d s hread hdebug hlen
    exact ⟨_, congrArg Host.Outcome.next (kmRngOutRead_draws draw hread hdebug hlen), rfl⟩
  · intro pid draw d s hread hdebug
    exact ⟨_, congrArg Host.Outcome.next (kmRngOutRead_held draw hread hdebug), rfl⟩
  · intro pid o d s hread hdebug
    exact ⟨_, congrArg Host.Outcome.next (cfgXspiRdRead_streams hread hdebug), rfl⟩

end Sys2Proof.Machine
end

section
/-! Route tables: what ROUTE_LOAD changes (R95). -/

namespace Sys2Proof.Machine
open Sys2Proof

/-- The network interfaces are the Braid's. -/
theorem niOf_of_nis {s t : State} (h : t.braid.nis = s.braid.nis) (e : Nat) : niOf t e = niOf s e := by simp [niOf, h]

/-- A command that is served answers the message alone, or answers it and runs its body, or leaves everything. -/
theorem ferryServe_cases (op ml : Nat) (tg : Nat → Bool) (body : Serving → State → Reply × State) (s : State) :
    ferryServe op ml tg body s = s ∨ (∃ r, ferryServe op ml tg body s = setReply r s) ∨
      ∃ v, s.ferry.serving = some v ∧ ferryServe op ml tg body s = setReply (body v s).1 (body v s).2 := by
  unfold ferryServe
  cases hserving : s.ferry.serving with
  | none => exact .inl rfl
  | some v =>
    dsimp only
    split_ifs
    · exact .inr (.inl ⟨_, rfl⟩)
    · exact .inr (.inl ⟨_, rfl⟩)
    · exact .inr (.inr ⟨v, rfl, rfl⟩)
    · exact .inl rfl

/-- The shadow table of an NI is replaced by one that has been checked. -/
def storeShadow (n : Nat) (table : Tbl Nat) (s : State) : State := modNi n (fun x => { x with shadow := table, shadowOk := true }) s

@[simp] theorem niOf_storeShadow (n : Nat) (table : Tbl Nat) (s : State) :
    niOf (storeShadow n table s) n = { niOf s n with shadow := table, shadowOk := true } := niOf_modNi _ _ _
theorem niOf_storeShadow_other (table : Tbl Nat) (s : State) {n m : Nat} (h : m ≠ n) : niOf (storeShadow n table s) m = niOf s m :=
  niOf_modNi_other _ _ _ _ h

/-- Storing a shadow table touches nothing of any NI but that table and its mark. -/
theorem niOf_storeShadow_rest (n m : Nat) (table : Tbl Nat) (s : State) :
    { niOf (storeShadow n table s) m with shadow := [], shadowOk := false } = { niOf s m with shadow := [], shadowOk := false } := by
  by_cases h : m = n
  · subst h
    rw [niOf_storeShadow]
  · rw [niOf_storeShadow_other table s h]

/-- The effect of ROUTE_LOAD itself is none, or a new shadow table of the NI that TARGET names. -/
theorem routeLoadBody_state (v : Serving) (s : State) :
    (routeLoadBody v s).2 = s ∨ ∃ table, (routeLoadBody v s).2 = storeShadow v.target table s := by
  unfold routeLoadBody
  dsimp only
  split
  · exact .inl rfl
  split
  · exact .inl rfl
  cases hwRead s (pay v 8 8) 2048 with
  | none => exact .inl rfl
  | some img =>
    dsimp only
    cases tableFault s v.target (imageEntries img) with
    | none => exact .inr ⟨_, rfl⟩
    | some fault => exact .inl rfl

/-- Of Braid, ROUTE_LOAD stores at most that table. -/
theorem routeLoad_braid (s : State) : (routeLoad s).braid = s.braid ∨
    ∃ v table, s.ferry.serving = some v ∧ (routeLoad s).braid = (storeShadow v.target table s).braid := by
  rw [routeLoad]
  rcases ferryServe_cases 0x0300 16 niTarget routeLoadBody s with hsame | ⟨r, hanswer⟩ | ⟨v, hserving, hbody⟩
  · rw [hsame]
    exact .inl rfl
  · rw [hanswer]
    exact .inl rfl
  · rw [hbody]
    rcases routeLoadBody_state v s with hnone | ⟨table, hstored⟩
    · rw [hnone]
      exact .inl rfl
    · rw [hstored]
      exact .inr ⟨v, table, hserving, rfl⟩

/-- Settles O52: whatever is served, Braid keeps all but one shadow table. -/
theorem routeLoadWritesOnlyTheShadow : Obligations.RouteLoadWritesOnlyTheShadow := by
  unfold Obligations.RouteLoadWritesOnlyTheShadow
  intro s t hstep
  obtain rfl : routeLoad s = t := Host.Outcome.next.inj hstep
  have hmems : (routeLoad s).mems = s.mems := routeLoad_part (sp := .mems) s (by decide) (by decide)
  rcases routeLoad_braid s with hsame | ⟨v, table, hserving, hstored⟩
  · have hni := niOf_of_nis (congrArg Braid.nis hsame)
    exact ⟨fun n => by rw [hni], fun _ _ n _ => hni n, by rw [hsame], hmems⟩
  · have hni := niOf_of_nis (congrArg Braid.nis hstored)
    refine ⟨fun n => ?_, fun w hw n hn => ?_, ?_, hmems⟩
    · rw [hni, niOf_storeShadow_rest]
    · obtain rfl : v = w := Option.some.inj (hserving.symm.trans hw)
      rw [hni, niOf_storeShadow_other table s hn]
    · rw [hstored]
      rfl

end Sys2Proof.Machine
end

section
/-! The values that the manual gives for reset. -/

namespace Sys2Proof.Machine
open Sys2Proof

/-- Settles O4: State.reset lists no key of any table, so every accessor reads its default. -/
theorem resetLeavesWhatTheSpecStates : Obligations.ResetLeavesWhatTheSpecStates := by
  unfold Obligations.ResetLeavesWhatTheSpecStates
  dsimp only
  refine ⟨rfl, rfl, rfl, rfl, rfl, ?quads, ?engines, rfl, ?channels, rfl, rfl, ?outputs, rfl, rfl, ?ports, ?slots, ?dram, rfl⟩
  case quads => exact fun q => rfl
  case engines => exact fun k => ⟨rfl, rfl⟩
  case channels => exact fun c => rfl
  case outputs => exact fun r out => rfl
  case ports => exact fun p => rfl
  case slots => exact fun k => rfl
  case dram => exact fun c => ⟨rfl, rfl⟩

end Sys2Proof.Machine
end

section
/-! Routers: arrivals, sleep and wake, ageing, arbitration, credits (R22, R85, R105, R106, R131). -/

namespace Sys2Proof.Machine
open Sys2Proof

/-- A change of the Braid that leaves its routers leaves each of them. -/
theorem routerOf_modBraid (s : State) (f : Braid → Braid) (r : Nat) (h : (f s.braid).routers = s.braid.routers) :
    routerOf (modBraid s f) r = routerOf s r := by
  simp [routerOf, h]

@[simp] theorem routerOf_modNi (s : State) (e r : Nat) (f : Ni → Ni) : routerOf (modNi e f s) r = routerOf s r := rfl
@[simp] theorem niOf_modRouter (s : State) (r e : Nat) (f : Router → Router) : niOf (modRouter r f s) e = niOf s e := rfl
@[simp] theorem wires_modRouter (s : State) (r : Nat) (f : Router → Router) : (modRouter r f s).braid.wires = s.braid.wires := rfl

/-! ## Arrivals -/

/-- A flit that is no head, of a packet that is not being dropped, is buffered as it came. -/
theorem acceptFlit_body {r port arrived : Nat} {f : Flit} {s : State} (hkept : (routerOf s r).dropping.contains f.pkt.pid = false)
    (hbody : f.isHead = false) : acceptFlit r port f arrived false s = bufferFlit r port { f with at_ := arrived, ageFrom := arrived } s := by
  simp only [acceptFlit, hkept, hbody, Bool.false_and, Bool.false_eq_true, if_false]

/-- FLIT_ARRIVAL of such a flit: it leaves the link, the router notes the arrival and buffers it, and begins to wake when it sleeps. -/
theorem flitArrival_body {r port : Nat} {w : Wire} {s : State} (hnext : nextWire s (.input r port) = some w)
    (hkept : (routerOf s r).dropping.contains w.flit.pkt.pid = false) (hbody : w.flit.isHead = false) :
    (flitArrival r port false s).braid.wires = s.braid.wires.erase w ∧
    routerOf (flitArrival r port false s) r = { routerOf s r with
      buf := (routerOf s r).buf ++ [(port, { w.flit with at_ := w.sentAt + wireDelay w, ageFrom := w.sentAt + wireDelay w })],
      lastFlit := w.sentAt + wireDelay w,
      wakingSince := if (routerOf s r).asleep then some ((routerOf s r).wakingSince.getD (w.sentAt + wireDelay w)) else none,
      ctr := if (routerOf s r).asleep && (routerOf s r).wakingSince.isNone then tinc (routerOf s r).ctr 1 else (routerOf s r).ctr } := by
  simp only [flitArrival, hnext]
  rw [acceptFlit_body _ hbody, bufferFlit]
  · refine ⟨rfl, ?_⟩
    rw [routerOf_modRouter, routerOf_modRouter, routerOf_modBraid _ _ _ rfl]
  · rw [routerOf_modRouter, routerOf_modBraid _ _ _ rfl]
    exact hkept

/-! ## Sleep and wake -/

/-- A router whose 24 cycles have passed wakes (R131). -/
theorem routerPipelineStart_wakes {r w : Nat} {s : State} (hasleep : (routerOf s r).asleep = true) (hwaking : (routerOf s r).wakingSince = some w)
    (hdue : w + 24 ≤ s.time) :
    routerPipelineStart r s = modRouter r (fun n => { n with asleep := false, wakingSince := none, pipeFrom := w + 24 }) s := by
  simp [routerPipelineStart, hasleep, hwaking, hdue]

theorem routerSleep_sleeps {r : Nat} {s : State} (hr : r < 64) (hmay : maySleep s r = true) :
    routerSleep r s = modRouter r (fun n => { n with asleep := true, wakingSince := none }) s := by
  simp [routerSleep, hr, hmay]

/-! ## Ageing -/

/-- A waiting head flit of the packet named, whose age has reached AGE_QUANTUM, gains 1 URG where it waits (R105). -/
theorem mem_buf_urgAgeing {r port : Nat} {f : Flit} {s : State} (hmem : (port, f) ∈ (routerOf s r).buf) (hhead : f.isHead = true)
    (hvc : f.pkt.vc ≠ 2) (hdue : f.ageFrom + s.braid.ageQuantum ≤ s.time) :
    (port, { f with ageFrom := f.ageFrom + s.braid.ageQuantum, pkt := { f.pkt with urg := min (f.pkt.urg + 1) 15 } }) ∈
      (routerOf (urgAgeing r port f.pkt.vc f.pkt.pid s) r).buf := by
  rw [urgAgeing, routerOf_modRouter]
  exact List.mem_map.mpr ⟨(port, f), hmem, if_pos ⟨rfl, rfl, rfl, hhead, hvc, hdue⟩⟩

/-! ## Arbitration -/

/-- An awake output in service, which sends no VC2 flit and no packet in progress, sends the winner's flit and names it in rr (R106). -/
theorem outputArbitration_winner {r out w : Nat} {f : Flit} {s : State} (hstranded : strandedHead s r out = none) (hawake : (routerOf s r).asleep = false)
    (hfree : sentNow s r out = false) (hslot : calEntry s.sluice.committed r out (braidNow s % 1024) = none) (hbusy : tfind (routerOf s r).busy out = none)
    (hwinner : arbWinner s r out = some w) (hfront : frontFlit (routerOf s r) (candPort w) (candVc w) = some f) (hurg : f.pkt.urg ≠ 15) :
    outputArbitration r out s = sendFlit r out (candPort w) (candVc w) f (modRouter r (fun m => { m with rr := tset m.rr out w }) s) := by
  simp only [outputArbitration, hstranded, hawake, hfree, hslot, hbusy, hwinner, hfront, hurg, Bool.or_self, Bool.false_eq_true, if_false]

/-! ## Credits -/

/-- A due credit of an input from another router goes back to the output upstream of it (R85). -/
theorem creditReturn_router {r port vc : Nat} {c : Nat × Nat × Nat} {s : State} (hport : port < 5)
    (howed : (routerOf s r).owed.find? (fun c => c.1 == port && c.2.1 == vc && decide (c.2.2 ≤ s.time)) = some c) :
    creditReturn r port vc s = modRouter (neighbour r port)
      (fun n => { n with used := tset n.used (4 * opposite port + vc) (tget n.used 0 (4 * opposite port + vc) - 1) })
      (modRouter r (fun n => { n with owed := n.owed.erase c }) s) := by
  have hrouter : ¬ 5 ≤ port := Nat.not_le.mpr hport
  simp only [creditReturn, howed, hrouter, if_false]

/-- One of a local input goes back to the NI. -/
theorem creditReturn_ni {r port vc e : Nat} {c : Nat × Nat × Nat} {s : State} (hport : 5 ≤ port) (hep : epAt r port = some e)
    (howed : (routerOf s r).owed.find? (fun c => c.1 == port && c.2.1 == vc && decide (c.2.2 ≤ s.time)) = some c) :
    creditReturn r port vc s = modNi e (fun n => { n with used := tset n.used vc (tget n.used 0 vc - 1) })
      (modRouter r (fun n => { n with owed := n.owed.erase c }) s) := by
  simp only [creditReturn, howed, hport, hep, if_true]

/-- Settles O10, by the rules above for arrivals, sleep, ageing, arbitration and credits, while the router's clocks run. -/
theorem routersMoveFlits : Obligations.RoutersMoveFlits := by
  unfold Obligations.RoutersMoveFlits
  refine ⟨?arrival, ?wake, ?sleep, ?ageing, ?arbitration, ?creditToRouter, ?creditToNi⟩
  case arrival =>
    intro r port w s hclock hnext hkept hbody
    obtain ⟨hwires, hrouter⟩ := flitArrival_body hnext hkept hbody
    refine ⟨flitArrival r port false s, congrArg Host.Outcome.next (whileClocked_on hclock), hwires, ?_, ?_, fun hasleep hwaking => ?_⟩
    · rw [hrouter]
    · rw [hrouter]
    · rw [hrouter]
      simp [hasleep, hwaking]
  case wake =>
    intro r w s hclock hasleep hwaking hdue
    refine ⟨_, congrArg Host.Outcome.next ((whileClocked_on hclock).trans (routerPipelineStart_wakes hasleep hwaking hdue)), ?_⟩
    rw [routerOf_modRouter]
    exact ⟨rfl, rfl, rfl, rfl⟩
  case sleep =>
    intro r s hclock hr hmay
    refine ⟨_, congrArg Host.Outcome.next ((whileClocked_on hclock).trans (routerSleep_sleeps hr hmay)), ?_⟩
    rw [routerOf_modRouter]
    exact ⟨rfl, rfl⟩
  case ageing =>
    rintro r port _ _ f s hclock hmem rfl rfl hhead hvc hdue
    exact ⟨_, congrArg Host.Outcome.next (whileClocked_on hclock), mem_buf_urgAgeing hmem hhead hvc hdue⟩
  case arbitration =>
    intro r out w f s hclock hstranded hawake hfree hslot hbusy hwinner hfront hurg
    exact congrArg Host.Outcome.next ((whileClocked_on hclock).trans
      (outputArbitration_winner hstranded hawake hfree hslot hbusy hwinner hfront hurg))
  case creditToRouter =>
    intro r port vc at_ s hclock hport hother howed
    refine ⟨_, congrArg Host.Outcome.next ((whileClocked_on hclock).trans (creditReturn_router hport howed)), ?_, ?_⟩
    · rw [routerOf_modRouter_other _ _ _ _ (Ne.symm hother), routerOf_modRouter]
    · rw [routerOf_modRouter, routerOf_modRouter_other _ _ _ _ hother]
      exact tget_tset_same ..
  case creditToNi =>
    intro r port vc at_ e s hclock hport hep howed
    refine ⟨_, congrArg Host.Outcome.next ((whileClocked_on hclock).trans (creditReturn_ni hport hep howed)), ?_, ?_⟩
    · rw [routerOf_modNi, routerOf_modRouter]
    · rw [niOf_modNi, niOf_modRouter]
      exact tget_tset_same ..

end Sys2Proof.Machine
end

section
/-! Weir gates that drain or time out, table swaps, the fence of a maintenance, grant tokens (R96, R121 to R126, R130, R237). -/

namespace Sys2Proof.Machine
open Sys2Proof

/-! ## Gates -/

@[simp] theorem gateOf_setGate (g : Nat) (v : Gate) (s : State) : gateOf (setGate g v s) g = v := by
  unfold setGate
  dsimp only
  split <;> simp [gateOf]

theorem gateOf_fenceGate (g : Nat) (force : Bool) (job : Option Nat) (s : State) :
    gateOf (fenceGate g force job s) g = { st := .fencing, force := force, since := s.time, limit := s.braid.drainMax * usCycles, job := job } :=
  gateOf_setGate ..

/-- The fence bits of every NI are those of the gates once Rill has delivered them (R121). -/
theorem fenced_of_delivered {s : State} (h : s.braid.fenceStale = false) (ep : Nat) : fenced s ep = gateShut s ep := by simp [fenced, h]

theorem fenceBitmapUpdate_runs {s : State} (h : rillRuns s = true) :
    fenceBitmapUpdate s = modBraid s (fun b => { b with fence := [], fenceStale := false }) := by simp [fenceBitmapUpdate, when_, h]

/-- A FENCING gate that is idle drains (R123). -/
theorem gateDrained_idle {g : Nat} {s : State} (hgate : isGate g = true) (hfencing : (gateOf s g).st = .fencing) (hidle : gateIdle s g = true) :
    gateDrained g s = drainGate g s := by simp [gateDrained, hgate, hfencing, hidle]

/-- The limit of a fence that is not forced runs out (R125). -/
theorem drainMaxExpiry_unforced {g : Nat} {s : State} (hgate : isGate g = true) (hfencing : (gateOf s g).st = .fencing)
    (hnew : (gateOf s g).timedOut = false) (hforce : (gateOf s g).force = false) (hdue : (gateOf s g).since + (gateOf s g).limit ≤ s.time) :
    drainMaxExpiry g s = drainTimeout g s := by simp [drainMaxExpiry, hgate, hfencing, hnew, hforce, hdue]

/-- Of a gate that is no reach's, its command ends TIMEOUT, and TRIM or the maintenance that waited for it goes on. -/
theorem drainTimeout_no_reach {g : Nat} (s : State) (h : ¬ (30 ≤ g ∧ g < 46)) : drainTimeout g s =
    maintTimeout g (trimFailed g (endJob? (gateOf s g).job rcTimeout [] (setGate g { gateOf s g with timedOut := true, job := none } s))) :=
  if_neg h

/-! ## Table swaps -/

theorem swapsDone_nis (s : State) : (swapsDone s).braid.nis = s.braid.nis := by
  unfold swapsDone
  dsimp only
  split <;> rfl

/-- Going on with the command that waited leaves the far tables and the DRAM maps that are still to be installed. -/
theorem swapsDone_delta (s : State) : (swapsDone s).delta = s.delta := swapsDone_part (sp := .delta) s (by decide) (by decide)
theorem swapsDone_dram (s : State) : (swapsDone s).dram = s.dram := swapsDone_part (sp := .dram) s (by decide) (by decide)

/-- NI_TABLE_SWAP of an NI with a prepared commit: its route tables are swapped, every other NI is as the swap leaves it (R96). -/
theorem niTableSwap_nis {ep : Nat} {s : State} (h : (niOf s ep).swapPending = true) : (niTableSwap ep s).braid.nis = (swapRoutes ep s).braid.nis := by
  rw [niTableSwap, swapsDone_nis, if_pos h]
  rfl

/-- It waits for no far table and no DRAM map any more (R236, R322). -/
theorem not_mem_farPending_niTableSwap (ep : Nat) (s : State) : ep ∉ (niTableSwap ep s).delta.farPending := by
  rw [niTableSwap, swapsDone_delta]
  exact not_mem_ldel _ _

theorem not_mem_mapPending_niTableSwap (ep : Nat) (s : State) : ep ∉ (niTableSwap ep s).dram.mapPending := by
  rw [niTableSwap, swapsDone_dram]
  exact not_mem_ldel _ _

/-! ## Router maintenance -/

/-- The rerouting commit of step 2 has ended: the router's OPEN gate is fenced (Table 3.13). -/
theorem routerMaintStep_fences {m : Maint} (passed : Bool) {s : State} (hmaint : s.braid.maint = some m) (hstep : m.step = 2)
    (hcommit : s.braid.commitJob = none) (hopen : (gateOf s (0x100 + m.router)).st = .opened) :
    routerMaintStep passed s = setMaint (some { m with step := 3 }) (fenceGate (0x100 + m.router) m.force none s) := by
  simp [routerMaintStep, hmaint, hstep, hcommit, hopen]

@[simp] theorem gateOf_setMaint (m : Option Maint) (s : State) (g : Nat) : gateOf (setMaint m s) g = gateOf s g := rfl

/-! ## Tokens -/

theorem mem_ladd {α : Type} [DecidableEq α] (l : List α) (x : α) : x ∈ ladd l x := by
  unfold ladd
  split <;> simp_all

/-- A grant that arrives lets its packet leave (R237). -/
theorem tokenArrival_grant {id pid : Nat} {k : Token} {s : State} (hfind : s.braid.tokens.find? (fun t => t.id == id) = some k)
    (hgrant : k.kind = .grant pid) :
    tokenArrival id s = modBraid s (fun b => { b with tokens := b.tokens.filter (fun x => x.id != id), granted := ladd b.granted pid }) := by
  simp only [tokenArrival, hfind, hgrant]

/-- Settles O12, by the rules above for gates, table swaps, maintenance and tokens. -/
theorem gatesAndTableSwaps : Obligations.GatesAndTableSwaps := by
  unfold Obligations.GatesAndTableSwaps
  refine ⟨?bitmaps, ?drained, ?expiry, ?swap, ?maintenance, ?token⟩
  case bitmaps =>
    intro s hruns
    exact ⟨_, congrArg Host.Outcome.next (fenceBitmapUpdate_runs hruns), rfl, fun ep => fenced_of_delivered rfl ep⟩
  case drained =>
    intro g s hgate hfencing hidle
    exact congrArg Host.Outcome.next (gateDrained_idle hgate hfencing hidle)
  case expiry =>
    intro g s hgate hreach hfencing hnew hforce hdue
    exact congrArg Host.Outcome.next ((drainMaxExpiry_unforced hgate hfencing hnew hforce hdue).trans (drainTimeout_no_reach s hreach))
  case swap =>
    intro ep s hpending
    have hnis := niTableSwap_nis hpending
    refine ⟨niTableSwap ep s, rfl, ?_, hnis, not_mem_farPending_niTableSwap ep s, not_mem_mapPending_niTableSwap ep s⟩
    rw [niOf_of_nis hnis]
  case maintenance =>
    intro m b s hmaint hstep hcommit hopen
    refine ⟨_, congrArg Host.Outcome.next (routerMaintStep_fences b hmaint hstep hcommit hopen), rfl, ?_⟩
    rw [gateOf_setMaint, gateOf_fenceGate]
    exact ⟨rfl, rfl⟩
  case token =>
    intro id pid k s hfind hgrant
    exact ⟨_, congrArg Host.Outcome.next (tokenArrival_grant hfind hgrant), mem_ladd _ _, rfl⟩

end Sys2Proof.Machine
end

section
/-! SYS, ROUTE, SLUICE, WEIR and ROUTER_MAINT commands whose checks pass: what each answers and does (R92, R95, R96, R124, R130, R147, R149, R578 to R583). -/

namespace Sys2Proof.Machine
open Sys2Proof

/-- A served message is answered with what its command's body answers. -/
theorem served_next {op ml : Nat} {tg : Nat → Bool} {v : Serving} {s u : State} {r : Reply} {body : Serving → State → Reply × State}
    (h : Served s v op ml tg) (hbody : body v s = (r, u)) : Host.Outcome.next (ferryServe op ml tg body s) = (.next (setReply r u) : Host.Outcome State Fault Refusal) := by
  rw [ferryServe_of_served body h, hbody]

theorem Served.no_dryRun {op ml : Nat} {tg : Nat → Bool} {v : Serving} {s : State} (h : Served s v op ml tg) : bit v.flags 1 = false := by
  obtain ⟨-, -, -, -, -, hflag⟩ := h
  exact hflag

/-! ## SYS commands -/

/-- SYS_INFO returns the page TARGET names (R578). -/
theorem sysInfoBody_page (v : Serving) (s : State) : sysInfoBody v s =
    ({ code := rcDone, result := if v.target = 0 then infoIdentity s else if v.target = 1 then infoSensors s else if v.target = 2 then infoStaged s else infoRepair s }, s) := by
  unfold sysInfoBody
  split <;> simp_all

/-- SYS_FW_STAGE whose image can be read holds its bytes until they are written (R580). -/
theorem sysFwStageBody_accepts {v : Serving} {o e : Nat} {img : List Byte} {s : State} (hargs : stageArgsBad v s = false)
    (hrecovery : s.ferry.recovery = true → pay v 0 1 = 0) (hinitial : initialBusy s = false) (hloading : flashLoading s = false)
    (hheld : flashHeld s = false) (harea : stageArea s (pay v 0 1) (pay v 4 4) (pay v 16 4) = some (o, e))
    (hrecorded : pay v 0 1 ≠ 0 → recordedIn s o e = false) (hfits : o + pay v 16 4 ≤ e) (hread : hwRead s (pay v 8 8) (pay v 16 4) = some img) :
    sysFwStageBody v s = (rc rcAccepted, modBoot (startJob v 0xFFFF s).2 (fun b =>
      { b with staging := some (pay v 0 1, pay v 1 1 == 1, o, img, s.ferry.nextJob), stageState := if pay v 0 1 = 0 then 1 else b.stageState })) := by
  have hkind : ¬ (s.ferry.recovery = true ∧ pay v 0 1 ≠ 0) := fun h => h.2 (hrecovery h.1)
  have hfree : ¬ (pay v 0 1 ≠ 0 ∧ recordedIn s o e = true) := fun h => by simp [hrecorded h.1] at h
  have hroom : ¬ e < o + pay v 16 4 := Nat.not_lt.mpr hfits
  simp only [sysFwStageBody, hargs, hkind, hinitial, hloading, hheld, harea, hfree, hroom, hread, Bool.false_eq_true, or_self, if_false]
  rfl

/-- SYS_FW_ACTIVATE of a staged image: the switch is pending, or the reason of the image's first failing check is returned (R582). -/
theorem sysFwActivateBody_tries {v : Serving} {s : State} (hcommit : pay v 0 1 ≤ 1) (hstaged : s.dbg.boot.stageState = 2)
    (hfuse : pay v 0 1 = 1 → s.power.railsOut.contains .fuse = false) (hinitial : initialBusy s = false) (hloading : flashLoading s = false)
    (hheld : flashHeld s = false) :
    (fwTry s (stagedImage s) = some 0 →
      sysFwActivateBody v s = (rc rcDone, modFerry s (fun f => { f with switchPending := true, commitSvn := pay v 0 1 == 1 }))) ∧
    (∀ k, fwTry s (stagedImage s) = some (k + 1) → sysFwActivateBody v s = (failedAt 0 (k + 1), s)) ∧
    (fwTry s (stagedImage s) = none → sysFwActivateBody v s = (failedAt 0 1, s)) := by
  have hrange : ¬ 1 < pay v 0 1 := Nat.not_lt.mpr hcommit
  have hstate : ¬ (s.dbg.boot.stageState ≠ 2 ∨ (pay v 0 1 = 1 ∧ s.power.railsOut.contains .fuse = true)) := by
    rintro (h | ⟨hone, hout⟩)
    · exact h hstaged
    · exact Bool.false_ne_true ((hfuse hone).symm.trans hout)
  have hidle : ¬ (initialBusy s = true ∨ flashLoading s = true ∨ flashHeld s = true) := by simp [hinitial, hloading, hheld]
  refine ⟨fun h => ?_, fun k h => ?_, fun h => ?_⟩ <;> simp only [sysFwActivateBody, hrange, hstate, hidle, h, if_false]

/-- SYS_LIFECYCLE to the next state starts programming (R583). -/
theorem sysLifecycleBody_accepts {v : Serving} {s : State} (hzero : payZero v 1 4 = true) (hcode : pay v 0 1 ≤ 3)
    (hnext : pay v 0 1 = lifeCode s.dbg.fuses.life + 1) (hword : pay v 4 4 = 0x5AFE0000 + pay v 0 1) (hfuse : s.power.railsOut.contains .fuse = false)
    (hidle : s.dbg.boot.fuseJob = none) :
    sysLifecycleBody v s = (rc rcAccepted, modBoot (startJob v 0xFFFF s).2 (fun b => { b with fuseJob := some (pay v 0 1, s.ferry.nextJob) })) := by
  have hargs : ¬ (¬ payZero v 1 4 = true ∨ 3 < pay v 0 1 ∨ pay v 0 1 ≠ lifeCode s.dbg.fuses.life + 1 ∨ pay v 4 4 ≠ 0x5AFE0000 + pay v 0 1) := by
    simp [hzero, hcode, hword, ← hnext]
  unfold sysLifecycleBody
  dsimp only
  rw [if_neg hargs, if_neg (by rw [hfuse]; decide), if_neg (by rw [hidle]; decide)]
  rfl

/-! ## ROUTE_LOAD, ROUTE_COMMIT -/

/-- The table of an image that passed its checks: entries with VALID = 0 are 0, and only those that differ from the default are listed (R95). -/
def imageTable (n : Nat) (img : List Byte) : Tbl Nat :=
  ((imageEntries img).map (fun e => (e.1, if bit e.2 63 then e.2 else 0))).filter (fun e => e.2 != defaultEntry n e.1)

/-- ROUTE_LOAD of a good image stores its table as the shadow. -/
theorem routeLoadBody_stores {v : Serving} {img : List Byte} {s : State} (hzero : payZero v 0 8 = true) (hidle : committing s v.target = false)
    (hread : hwRead s (pay v 8 8) 2048 = some img) (hgood : tableFault s v.target (imageEntries img) = none) :
    routeLoadBody v s = (rc rcDone, storeShadow v.target (imageTable v.target img) s) := by
  simp only [routeLoadBody, hzero, hidle, hread, hgood, not_true_eq_false, Bool.false_eq_true, if_false]
  rfl

/-- ROUTE_COMMIT of NIs with checked shadow tables mirrors them and starts the swap (R96, R242). -/
theorem routeCommitBody_starts {v : Serving} {s : State} (hzero : payZero v 0 8 = true) (hsome : niSet v ≠ [])
    (hlisted : (niSet v).all epListed = true) (hidle : s.braid.commitJob = none) (hchecked : (niSet v).all (fun n => (niOf s n).shadowOk) = true) :
    routeCommitBody v s = (rc rcDone, swapsDone (waitFor 1 (modBraid
      (forAll (niSet v) (fun t n => modNi n (fun x => { x with swapPending := true }) t)
        (forAll (niSet v) (fun u n => mirrorItem (.routes n (niOf u n).shadow) u) s)) (fun b => { b with commitJob := some (niSet v) })))) := by
  have hempty : (niSet v).isEmpty = false := by simpa using hsome
  simp only [routeCommitBody, hzero, hempty, hlisted, hidle, hchecked, not_true_eq_false, Bool.false_eq_true, or_self, Option.isSome_none, if_false]

/-! ## SLUICE_LOAD, SLUICE_COMMIT -/

/-- SLUICE_LOAD of a good calendar stores its flows as the shadow (R147). -/
theorem sluiceLoadBody_stores {v : Serving} {h img : List Byte} {s : State} (hzero : payZero v 0 8 = true) (hidle : s.sluice.commitB = none)
    (hhead : hwRead s (pay v 8 8) 32 = some h) (hmagic : leAt h 0 4 = 0x5C1D0004) (hversion : leAt h 4 2 = 1) (hleast : 32 ≤ leAt h 8 4)
    (hmost : leAt h 8 4 ≤ calendarMost) (hread : hwRead s (pay v 8 8) (leAt h 8 4) = some img) (hgood : calendarFault s img = none) :
    sluiceLoadBody v s = (rc rcDone, modSluice s (fun y =>
      { y with shadow := (recordOffsets img 32 (leAt img 6 2)).1.map (flowOf img), shadowOk := true, shadowImg := img })) := by
  have hlength : ¬ (leAt h 8 4 < 32 ∨ calendarMost < leAt h 8 4) := by omega
  simp only [sluiceLoadBody, hzero, hidle, hhead, hmagic, hversion, hlength, hread, hgood, not_true_eq_false, ne_eq, Option.isSome_none, Bool.false_eq_true, if_false]

/-- SLUICE_COMMIT of a checked calendar starts the commit sequence and mirrors the image (R149, R242). -/
theorem sluiceCommitBody_starts {v : Serving} {s : State} (hidle : s.sluice.commitB = none) (hchecked : s.sluice.shadowOk = true) :
    sluiceCommitBody v s = (rc rcDone, waitFor 1 (mirrorItem (.calendar s.sluice.shadowImg)
      (startCommit .command s.sluice.shadow (v.takenAt - s.braid.epoch) s))) := by
  simp only [sluiceCommitBody, hidle, hchecked, Option.isSome_none, Bool.false_eq_true, not_true_eq_false, if_false]

/-! ## WEIR_FENCE, WEIR_OPEN, ROUTER_MAINT -/

/-- WEIR_FENCE of an OPEN gate fences it (R124). -/
theorem weirFenceBody_fences {v : Serving} {s : State} (hforce : pay v 0 1 ≤ 1) (hallowed : fenceDenied v.target = false)
    (hreach : reachGate v.target = false) (hcalendar : calendarGate s v.target = false) (hopen : (gateOf s v.target).st = .opened) :
    weirFenceBody v s = (rc rcAccepted, fenceGate v.target (bit (pay v 0 1) 0) (some s.ferry.nextJob) (startJob v v.target s).2) := by
  have hrange : ¬ 1 < pay v 0 1 := Nat.not_lt.mpr hforce
  simp only [weirFenceBody, hrange, hallowed, hreach, hcalendar, hopen, Bool.false_eq_true, or_self, if_false]
  rfl

/-- WEIR_OPEN of a DRAINED gate that nothing holds opens it. -/
theorem weirOpenBody_opens {v : Serving} {s : State} (hreach : reachGate v.target = false) (hdrained : (gateOf s v.target).st = .drained)
    (hfree : gateHeld s v.target = false) : weirOpenBody v s = (rc rcDone, openGate v.target s) := by
  simp only [weirOpenBody, hreach, hdrained, hfree, Bool.false_eq_true, if_false]

/-- A DRAINED gate has no fence to abort: it opens. -/
theorem openGate_drained {g : Nat} {s : State} (h : (gateOf s g).st = .drained) : openGate g s = setGate g { st := .opened } s := by
  simp [openGate, h]

/-- ROUTER_MAINT that nothing refuses starts a maintenance (R130). -/
theorem routerMaintBody_starts {v : Serving} {s : State} (hargs : maintArgsBad (v.target - 0x100) (pay v 0 1) (pay v 1 1) = false)
    (hforce : pay v 2 1 ≤ 1) (hallowed : fenceDenied v.target = false) (hcalendar : calUses s.sluice.committed (v.target - 0x100) = false)
    (hmaint : s.braid.maint = none) (hcommit : s.braid.commitJob = none) (hgate : (gateOf s v.target).st ≠ .fencing) (hreal : bit v.flags 1 = false) :
    routerMaintBody v s = (rc rcAccepted, startMaint (v.target - 0x100) (pay v 0 1) (pay v 1 1) (bit (pay v 2 1) 0) s.ferry.nextJob
      (startJob v v.target s).2) := by
  have hrange : ¬ 1 < pay v 2 1 := Nat.not_lt.mpr hforce
  simp only [routerMaintBody, hargs, hrange, hallowed, hcalendar, hmaint, hcommit, hgate, hreal, Option.isSome_none, Bool.false_eq_true, or_self, if_false]
  rfl

/-- Settles O50, by what each command's body answers and does when its checks pass. -/
theorem systemRouteAndGateCommandsTakeEffect : Obligations.SystemRouteAndGateCommandsTakeEffect := by
  unfold Obligations.SystemRouteAndGateCommandsTakeEffect
  refine ⟨?info, ?bootStatus, ?fwStage, ?fwActivate, ?lifecycle, ?routeLoad, ?routeCommit, ?sluiceLoad, ?sluiceCommit, ?weirFence, ?weirOpen, ?routerMaint⟩
  case info => exact fun v s h => served_next h (sysInfoBody_page v s)
  case bootStatus => exact fun v s h => served_next h rfl
  case fwStage =>
    intro v o e img s h hargs hrecovery hinitial hloading hheld harea hrecorded hfits hread
    exact ⟨_, served_next h (sysFwStageBody_accepts hargs hrecovery hinitial hloading hheld harea hrecorded hfits hread), rfl, rfl⟩
  case fwActivate =>
    intro v s h hcommit hstaged hfuse hinitial hloading hheld
    obtain ⟨hpasses, hfails, habsent⟩ := sysFwActivateBody_tries hcommit hstaged hfuse hinitial hloading hheld
    cases hcheck : fwTry s (stagedImage s) with
    | none => exact served_next h (habsent hcheck)
    | some k =>
      cases k with
      | zero => exact served_next h (hpasses hcheck)
      | succ k => exact served_next h (hfails k hcheck)
  case lifecycle =>
    intro v s h hzero hcode hnext hword hfuse hidle
    exact ⟨_, served_next h (sysLifecycleBody_accepts hzero hcode hnext hword hfuse hidle), rfl, rfl⟩
  case routeLoad =>
    intro v img s h hzero hidle hread hgood
    refine ⟨_, served_next h (routeLoadBody_stores hzero hidle hread hgood), ?_, ?_, ?_, fun n hn => niOf_storeShadow_other _ s hn⟩
    · rw [niOf_storeShadow]
    · rw [niOf_storeShadow, imageTable]
    · rw [niOf_storeShadow]
  case routeCommit =>
    exact fun v s h hzero hsome hlisted hidle hchecked => served_next h (routeCommitBody_starts hzero hsome hlisted hidle hchecked)
  case sluiceLoad =>
    intro v h img s hserved hzero hidle hhead hmagic hversion hleast hmost hread hgood
    exact ⟨_, served_next hserved (sluiceLoadBody_stores hzero hidle hhead hmagic hversion hleast hmost hread hgood), rfl, rfl, rfl⟩
  case sluiceCommit => exact fun v s h hidle hchecked => served_next h (sluiceCommitBody_starts hidle hchecked)
  case weirFence =>
    intro v s h hforce hallowed hreach hcalendar hopen
    exact ⟨_, served_next h (weirFenceBody_fences hforce hallowed hreach hcalendar hopen), gateOf_fenceGate ..⟩
  case weirOpen =>
    intro v s h hreach hdrained hfree
    refine ⟨_, served_next h (weirOpenBody_opens hreach hdrained hfree), ?_⟩
    rw [openGate_drained hdrained, gateOf_setGate]
  case routerMaint =>
    intro v s h hargs hforce hallowed hcalendar hmaint hcommit hgate
    exact served_next h (routerMaintBody_starts hargs hforce hallowed hcalendar hmaint hcommit hgate h.no_dryRun)

end Sys2Proof.Machine
end

section
/-! VC2 flits at their NI and the calendars of Sluice: presentation, release, the swap (R84, R139 to R145, R149 to R155). -/

namespace Sys2Proof.Machine
open Sys2Proof

/-! ## What the Sluice steps leave -/

theorem yieldSlot_sluice (ep : Nat) (s : State) : (yieldSlot ep s).sluice = s.sluice := yieldSlot_part (sp := .sluice) ep s (by decide)

theorem discardAtNi_sluice (ep : Nat) (p : Packet) (s : State) : (discardAtNi ep p s).sluice = s.sluice :=
  discardAtNi_part (sp := .sluice) ep p s (by decide) (by decide)

theorem ungrant?_sluice (pkt : Option Packet) (s : State) : (ungrant? pkt s).sluice = s.sluice :=
  ungrant?_part (sp := .sluice) pkt s (by decide) (by decide)

/-- The slot that the NI gives up depends on its wires and the time alone. -/
theorem yieldSlot_modSluice (ep : Nat) (g : Sluice → Sluice) (s : State) : yieldSlot ep (modSluice s g) = modSluice (yieldSlot ep s) g := by
  rw [yieldSlot, yieldSlot, apply_ite (fun t => modSluice t g)]
  rfl

/-! ## Injection -/

/-- An injection notes its cycle at the NI and leaves the calendars and the release queues (R139). -/
theorem sluiceInject_sluice (f : Flow) (r : Released) (s : State) :
    (sluiceInject f r s).sluice = { s.sluice with lastInject := tset s.sluice.lastInject f.src (s.time + 1) } :=
  congrArg (fun y : Sluice => { y with lastInject := tset y.lastInject f.src (s.time + 1) }) (yieldSlot_sluice f.src s)

/-- A flit of this NI's own endpoint becomes a packet of its flow on the local input, with its release wait in WAIT; what the NI is sending gives way (R84, R140, R142). -/
theorem sluiceInject_packet (f : Flow) {r : Released} (s : State) (hown : r.pkt = none) :
    ∃ p : Packet, p.vc = 2 ∧ p.dst = f.dst ∧ p.src = f.src ∧ p.flow = f.flow ∧ p.route = f.route ∧ p.addr = r.addr ∧ p.data = r.data ∧
      p.wait = min 0xFFFF (s.time - r.presentedAt) ∧ (sluiceInject f r s).braid.wires =
        (yieldSlot f.src s).braid.wires ++ (flitsOf p).map (fun x => { hop := .input (epRouter f.src) (epPort f.src), flit := x, sentAt := s.time }) := by
  unfold sluiceInject
  rw [hown]
  exact ⟨_, rfl, rfl, rfl, rfl, rfl, rfl, rfl, congrArg (min 0xFFFF) (Nat.zero_add _), rfl⟩

/-- A flit of the NI's own endpoint needs no exit reservation (R237). -/
theorem flitGranted_own {r : Released} (s : State) (hown : r.pkt = none) : flitGranted s r = true := by simp [flitGranted, hown]

/-! ## Presentation -/

/-- The entry of a presented flit in its release queue (R139). -/
def releasedFlit (ep flow addr : Nat) (data : List Byte) (poison : Bool) (s : State) : Released :=
  { ep := ep, flow := flow, addr := addr, data := data.take 128, poison := poison, presentedAt := s.time }

theorem vc2FlitPresent_unclamped {ep : Nat} (flow addr : Nat) (data : List Byte) (poison : Bool) {s : State} (hclamp : outClamped s ep = false) :
    vc2FlitPresent ep flow addr data poison s = presentFlit ep flow addr data poison none s := by simp [vc2FlitPresent, hclamp]

/-- VC2_FLIT_PRESENT while the endpoint's clocks run and its outputs are not clamped. -/
theorem exec_vc2FlitPresent {ep : Nat} (flow addr : Nat) (data : List Byte) (poison : Bool) {s : State} (hclamp : outClamped s ep = false)
    (hclock : clockStopped s (epDomain ep) = false) :
    exec (.vc2FlitPresent ep flow addr data poison) s = .next (presentFlit ep flow addr data poison none s) :=
  congrArg Host.Outcome.next ((whileClocked_on hclock).trans (vc2FlitPresent_unclamped flow addr data poison hclamp))

/-- A flit of a flow that the calendar does not hold is discarded (R141). -/
theorem presentFlit_unheld {ep flow : Nat} (addr : Nat) (data : List Byte) (poison : Bool) {s : State} (hlisted : epListed ep = true)
    (hflow : flowAt s.sluice.committed ep flow = none) :
    presentFlit ep flow addr data poison none s = discardAtNi ep (flowPacket ep flow 0) s := by
  simp [presentFlit, hflow, hlisted, ungrant?]

section
variable {ep flow : Nat} (addr : Nat) (data : List Byte) (poison : Bool) {f : Flow} {s : State}
  (hflow : flowAt s.sluice.committed ep flow = some f) (hsrc : fenced s ep = false) (hdst : fenced s f.dst = false) (hup : (niOf s ep).down = false)
include hflow hsrc hdst hup

/-- A flit of a held flow that nothing stops leaves at once or waits (R139). -/
theorem presentFlit_held : presentFlit ep flow addr data poison none s =
    if (s.sluice.queue.filter (fun x => x.ep == ep && x.flow == flow)).length = 0 ∧ slotOpen s f then sluiceInject f (releasedFlit ep flow addr data poison s) s
    else if (s.sluice.queue.filter (fun x => x.ep == ep && x.flow == flow)).length < 4 then
      modSluice s (fun y => { y with queue := y.queue ++ [releasedFlit ep flow addr data poison s] })
    else s := by
  simp [presentFlit, hflow, hsrc, hdst, hup, flitGranted, releasedFlit]

/-- In an injection slot of a flow with an empty release queue it leaves at once. -/
theorem presentFlit_injects (hqueue : s.sluice.queue.filter (fun x => x.ep == ep && x.flow == flow) = []) (hopen : slotOpen s f = true) :
    presentFlit ep flow addr data poison none s = sluiceInject f (releasedFlit ep flow addr data poison s) s := by
  rw [presentFlit_held addr data poison hflow hsrc hdst hup, if_pos ⟨by rw [hqueue]; rfl, hopen⟩]

/-- Outside the slots it joins the release queue while that holds fewer than four flits. -/
theorem presentFlit_waits (hroom : (s.sluice.queue.filter (fun x => x.ep == ep && x.flow == flow)).length < 4) (hshut : slotOpen s f = false) :
    presentFlit ep flow addr data poison none s = modSluice s (fun y => { y with queue := y.queue ++ [releasedFlit ep flow addr data poison s] }) := by
  rw [presentFlit_held addr data poison hflow hsrc hdst hup, if_neg (by simp [hshut]), if_pos hroom]

end

/-- Settles O13, by the three ways a presented flit can go: it is discarded, injected or queued. -/
theorem vc2FlitsArePresented : Obligations.Vc2FlitsArePresented := by
  unfold Obligations.Vc2FlitsArePresented
  refine ⟨?unheld, ?injected, ?queued⟩
  case unheld =>
    intro ep flow addr data poison s hlisted hclamp hclock hflow
    rw [exec_vc2FlitPresent flow addr data poison hclamp hclock, presentFlit_unheld addr data poison hlisted hflow]
  case injected =>
    intro ep flow addr data poison f s hclamp hclock hflow hsrc hdst hup hqueue hopen
    have hinject := presentFlit_injects addr data poison hflow hsrc hdst hup hqueue hopen
    obtain ⟨p, hvc, hpdst, hpsrc, hpflow, hroute, haddr, hdata, hwait, hwires⟩ := sluiceInject_packet f (r := releasedFlit ep flow addr data poison s) s rfl
    refine ⟨_, (exec_vc2FlitPresent flow addr data poison hclamp hclock).trans (congrArg _ hinject), ?_, ?_,
      p, hvc, hpdst, hpsrc, hpflow, hroute, haddr, hdata, ?_, hwires⟩
    · rw [sluiceInject_sluice]
    · rw [sluiceInject_sluice, tget_tset_same]
    · rw [hwait, releasedFlit, Nat.sub_self, Nat.min_zero]
  case queued =>
    intro ep flow addr data poison f s hclamp hclock hflow hsrc hdst hup hroom hshut
    exact ⟨_, (exec_vc2FlitPresent flow addr data poison hclamp hclock).trans
      (congrArg _ (presentFlit_waits addr data poison hflow hsrc hdst hup hroom hshut)), rfl, rfl⟩

/-! ## Release -/

/-- The oldest waiting flit of a flow leaves its release queue in an injection slot (R139). -/
theorem vc2Inject_injects {ep flow : Nat} {f : Flow} {r : Released} {s : State} (hflow : flowAt s.sluice.committed ep flow = some f)
    (holdest : s.sluice.queue.find? (fun r => r.ep == ep && r.flow == flow) = some r) (hgranted : flitGranted s r = true)
    (hsrc : fenced s ep = false) (hdst : fenced s f.dst = false) (hup : (niOf s ep).down = false) (hopen : slotOpen s f = true) :
    vc2Inject ep flow s = sluiceInject f r (modSluice s (fun y => { y with queue := popRelease y.queue ep flow })) := by
  simp [vc2Inject, hflow, holdest, hsrc, hdst, hup, hopen, hgranted]

/-- Settles O14: the flit leaves its queue, and what is injected does not depend on the queue. -/
theorem vc2FlitsLeaveInTheirSlots : Obligations.Vc2FlitsLeaveInTheirSlots := by
  unfold Obligations.Vc2FlitsLeaveInTheirSlots
  intro ep flow f r s hclock hflow holdest hown hsrc hdst hup hopen
  have hinject := vc2Inject_injects hflow holdest (flitGranted_own s hown) hsrc hdst hup hopen
  obtain ⟨p, hvc, hpdst, hpsrc, hpflow, hroute, haddr, hdata, hwait, hwires⟩ :=
    sluiceInject_packet f (modSluice s (fun y => { y with queue := popRelease y.queue ep flow })) hown
  refine ⟨_, congrArg Host.Outcome.next ((whileClocked_on hclock).trans hinject), ?_, ?_,
    p, hvc, hpdst, hpsrc, hpflow, hroute, haddr, hdata, hwait, ?_⟩
  · rw [sluiceInject_sluice, modSluice_sluice]
  · rw [sluiceInject_sluice, modSluice_sluice]
  · rw [hwires, yieldSlot_modSluice, modSluice_braid, modSluice_time]

/-! ## The swap of the calendars -/

/-- The calendar that a commit puts in force (R149, R155). -/
def nextCalendar (y : Sluice) : List Flow :=
  match y.commitKind with
  | .command => y.shadow
  | .suspend => []
  | .resume => y.suspended.getD []

/-- What a swap does to Sluice: the next calendar is in force, and the flits of flows it does not hold leave their queues (R151). -/
def swapSluice (y : Sluice) : Sluice :=
  { y with
    committed := nextCalendar y
    shadow := if y.commitKind = .command then y.committed else y.shadow
    suspended := match y.commitKind with
      | .command => y.suspended
      | .suspend => some y.committed
      | .resume => none
    commitB := none
    queue := y.queue.filter (fun r => (flowAt (nextCalendar y) r.ep r.flow).isSome) }

/-- From B + 64 on the pending commit takes effect. -/
theorem calendarSwap_sluice {b : Nat} {s : State} (hcommit : s.sluice.commitB = some b) (hdue : b + 64 ≤ braidNow s) :
    (calendarSwap s).sluice = swapSluice s.sluice := by
  have hdiscards (l : List Released) (dst : Released → Nat) (t : State) :
      (forAll l (fun v r => discardAtNi r.ep (flowPacket r.ep r.flow (dst r)) (ungrant? r.pkt v)) t).sluice = t.sluice :=
    forAll_keeps State.sluice l _ t fun v r => (discardAtNi_sluice _ _ _).trans (ungrant?_sluice r.pkt v)
  simp only [calendarSwap, hcommit, if_pos hdue]
  split <;> exact hdiscards ..

/-- Before B + 64 nothing changes. -/
theorem calendarSwap_early {b : Nat} {s : State} (hcommit : s.sluice.commitB = some b) (hearly : braidNow s < b + 64) : calendarSwap s = s := by
  simp only [calendarSwap, hcommit, if_neg (Nat.not_le.mpr hearly)]

/-- CALENDAR_SWAP of a commit that is due. -/
theorem exec_calendarSwap_due {b : Nat} {s : State} (hcommit : s.sluice.commitB = some b) (hdue : b + 64 ≤ braidNow s) :
    ∃ t, exec .calendarSwap s = .next t ∧ t.sluice = swapSluice s.sluice :=
  ⟨calendarSwap s, rfl, calendarSwap_sluice hcommit hdue⟩

/-- Settles O15, by what a swap does to Sluice for each kind of commit. -/
theorem calendarsSwapAtTheirTime : Obligations.CalendarsSwapAtTheirTime := by
  unfold Obligations.CalendarsSwapAtTheirTime
  refine ⟨?command, ?suspend, ?resume, ?early⟩
  case command =>
    intro b s hcommit hkind hdue
    obtain ⟨t, hexec, hsluice⟩ := exec_calendarSwap_due hcommit hdue
    exact ⟨t, hexec, by simp [hsluice, swapSluice, nextCalendar, hkind]⟩
  case suspend =>
    intro b s hcommit hkind hdue
    obtain ⟨t, hexec, hsluice⟩ := exec_calendarSwap_due hcommit hdue
    exact ⟨t, hexec, by simp [hsluice, swapSluice, nextCalendar, hkind]⟩
  case resume =>
    intro b l s hcommit hkind hsuspended hdue
    obtain ⟨t, hexec, hsluice⟩ := exec_calendarSwap_due hcommit hdue
    exact ⟨t, hexec, by simp [hsluice, swapSluice, nextCalendar, hkind, hsuspended]⟩
  case early => exact fun b s hcommit hearly => congrArg Host.Outcome.next (calendarSwap_early hcommit hearly)

end Sys2Proof.Machine
end

section
/-! Lane commands of Headwater whose checks pass, and those a Twin lane refuses (R169, R184 to R189, R199, R209, R214, R584 to R587, R598). -/

namespace Sys2Proof.Machine
open Sys2Proof

/-- A state whose lanes are another's has its lane records. -/
theorem laneOf_of_lanes {s t : State} (h : t.lanes = s.lanes) (m : Nat) : laneOf t m = laneOf s m := by simp [laneOf, h]

/-! ## LANE_SET_MODE -/

/-- A Twin lane has no mode but the native one (R169). -/
theorem modeArgsOk_twin_other {v : Serving} (htwin : 64 ≤ v.target) (hmode : pay v 0 1 ≠ 1) : modeArgsOk v = false := by
  simp [modeArgsOk, htwin, hmode]

/-- Fields out of range are answered BAD_ARG before anything else is looked at (R569). -/
theorem setModeBody_badArgs {v : Serving} (s : State) (h : modeArgsOk v = false) : setModeBody v s = (rc rcBadArg, s) := by
  simp [setModeBody, h]

/-- LANE_SET_MODE that no check refuses starts its job and the lane (R187, R189). -/
theorem setModeBody_starts {v : Serving} {x : TxSet} {ctle : Option Nat} {s : State} (hargs : modeArgsOk v = true)
    (hsettings : modeSettings s (pay v 1 1) (pay v 2 1) v.target = some (x, ctle))
    (hcoding : isPam4 (pay v 0 1) = true ∨ (x.txpre = false ∧ x.rxpre = false)) (hgrade : s.dbg.fuses.grade ≠ 2)
    (hidle : jobOn s 0x0200 v.target = false) (hdown : (laneOf s v.target).rx ≠ .up) (hfree : portMember s v.target = false)
    (hquad : (quadLanes (pllOf v.target)).any (fun m => m != v.target && (laneOf s m).mode != 0 && (laneOf s m).mode != pay v 0 1) = false)
    (hon : domOn s (laneDomain v.target) = true) :
    setModeBody v s = (rc rcAccepted, startLane v.target (startJob v v.target s).1 v x ctle (startJob v v.target s).2) := by
  have hprecoded : ¬ (¬ isPam4 (pay v 0 1) = true ∧ (x.txpre = true ∨ x.rxpre = true)) := by
    rintro ⟨hnrz, hpre⟩
    obtain hpam | ⟨htx, hrx⟩ := hcoding
    · exact hnrz hpam
    · simp [htx, hrx] at hpre
  have hwake : wakeFor (laneDomain v.target) s = some s := by simp [wakeFor, hon]
  simp only [setModeBody, hargs, hsettings, hprecoded, hgrade, hidle, hdown, hfree, hquad, hwake, not_true_eq_false, false_and, and_false,
    Bool.false_eq_true, if_false]

/-- Settles O56, by the range of MODE on a Twin lane. -/
theorem twinLanesAreNative : Obligations.TwinLanesAreNative := by
  unfold Obligations.TwinLanesAreNative
  exact fun v s h htwin hmode => served_next h (setModeBody_badArgs s (modeArgsOk_twin_other htwin hmode))

/-! ## LANE_SET_TAPS -/

/-- Settings with the taps, the swing and the precoding of a LANE_SET_TAPS payload (R584). -/
def withTaps (v : Serving) (x : TxSet) : TxSet :=
  { x with pre := pay v 0 1, post := pay v 1 1, txpre := bit (pay v 2 1) 0, rxpre := bit (pay v 2 1) 1, swing := bit (pay v 2 1) 2 }

/-- Fields of LANE_SET_TAPS in range, and no precoding in an NRZ mode (R183, R584). -/
def TapsOk (v : Serving) (s : State) : Prop :=
  pay v 0 1 ≤ 16 ∧ pay v 1 1 ≤ 24 ∧ pay v 2 1 < 8 ∧
    ((laneOf s v.target).mode = 0 ∨ isPam4 (laneOf s v.target).mode = true ∨ (bit (pay v 2 1) 0 = false ∧ bit (pay v 2 1) 1 = false))

/-- The two low bits of a multiple of 4 are clear. -/
theorem bits_zero_one_of_mod_four {n : Nat} (h : n % 4 = 0) : bit n 0 = false ∧ bit n 1 = false := by
  constructor <;> simp only [bit, Nat.testBit_eq_decide_div_mod_eq, decide_eq_false_iff_not] <;> omega

/-- The check of LANE_SET_TAPS passes good fields. -/
theorem TapsOk.passes {v : Serving} {s : State} (h : TapsOk v s) :
    ¬ (16 < pay v 0 1 ∨ 24 < pay v 1 1 ∨ 8 ≤ pay v 2 1 ∨
      ((laneOf s v.target).mode ≠ 0 ∧ ¬ isPam4 (laneOf s v.target).mode = true ∧ (bit (pay v 2 1) 0 = true ∨ bit (pay v 2 1) 1 = true))) := by
  obtain ⟨hpre, hpost, hflags, hcoding⟩ := h
  rintro (hbad | hbad | hbad | ⟨hmode, hnrz, hbit⟩)
  · omega
  · omega
  · omega
  · obtain hzero | hpam | ⟨htx, hrx⟩ := hcoding
    · exact hmode hzero
    · exact hnrz hpam
    · simp [htx, hrx] at hbit

/-- On a lane whose domain is on the settings wait for the next boundary (R184). -/
theorem setTapsBody_on {v : Serving} {s : State} (h : TapsOk v s) (hon : domOn s (laneDomain v.target) = true) :
    setTapsBody v s = (rc rcDone, modLane v.target (fun z =>
      { z with nextTx := some (withTaps v ((laneOf s v.target).nextTx.getD (laneOf s v.target).tx)) }) s) := by
  simp only [setTapsBody, hon, if_true, if_neg h.passes]
  rfl

/-- On a lane whose domain is off Headwater keeps them (R576). -/
theorem setTapsBody_off {v : Serving} {s : State} (h : TapsOk v s) (hoff : domOn s (laneDomain v.target) = false) :
    setTapsBody v s = (rc rcDone, modLanes s (fun z =>
      { z with stored := tset z.stored v.target (withTaps v ((laneOf s v.target).nextTx.getD (tget s.lanes.stored {} v.target))) })) := by
  simp only [setTapsBody, hoff, Bool.false_eq_true, if_false, if_neg h.passes]
  rfl

/-- Settles O57, by whether the lane's domain is on. -/
theorem laneSetTapsLeavesTheSlotTable : Obligations.LaneSetTapsLeavesTheSlotTable := by
  unfold Obligations.LaneSetTapsLeavesTheSlotTable
  intro v s h hpre hpost hflags hcoding
  have htaps : TapsOk v s := ⟨hpre, hpost, hflags, hcoding⟩
  cases hdom : domOn s (laneDomain v.target) with
  | true =>
    refine ⟨_, served_next h (setTapsBody_on htaps hdom), rfl, fun m hm => laneOf_modLane_other _ _ _ _ hm, ?_, fun _ => ?_, by simp⟩
    · rw [laneOf_modLane]
    · rw [laneOf_modLane]; rfl
  | false =>
    refine ⟨_, served_next h (setTapsBody_off htaps hdom), rfl, fun _ _ => rfl, rfl, by simp, fun _ hnext => ?_⟩
    rw [modLanes_lanes, tget_tset_same, hnext]
    rfl

/-! ## The other commands -/

/-- A whole image that passes replaces the slot table (R185, R186). -/
theorem loadSlotBody_loads {v : Serving} {h img : List Byte} {s : State} (hzero : payZero v 0 8 = true) (hhead : hwRead s (pay v 8 8) 16 = some h)
    (hgoodHead : slotHeaderBad h = none) (hread : hwRead s (pay v 8 8) (leAt h 8 4) = some img) (hgood : slotTableBad img = none) :
    loadSlotBody v s = (rc rcDone, modLanes s (fun z => { z with slotTable := (List.range (leAt h 6 2)).map (slotEntryAt img) })) := by
  simp [loadSlotBody, hzero, hhead, hgoodHead, hread, hgood]

/-- LANE_STATE that no check refuses is done at once in the state asked for, and starts the move to any other (R209). -/
theorem laneStateBody_moves {v : Serving} {s : State} (hstate : pay v 0 1 ≤ 2) (hidle : jobOn s 0x0200 v.target = false)
    (hfree : portMember s v.target = false) (hmode : (laneOf s v.target).mode ≠ 0) (hon : domOn s (laneDomain v.target) = true) :
    laneStateBody v s = (rc rcDone, if (laneOf s v.target).pwr = lanePwrOf (pay v 0 1) ∧ (pathOf s v.target).moving = none then s
      else waitFor 1 (moveLane v.target (lanePwrOf (pay v 0 1)) s)) := by
  have hwake : wakeFor (laneDomain v.target) s = some s := by simp [wakeFor, hon]
  have hrange : ¬ 2 < pay v 0 1 := Nat.not_lt.mpr hstate
  simp only [laneStateBody, hrange, hfree, hidle, hmode, hwake, and_false, Bool.false_eq_true, if_false]
  split <;> rfl

/-- LANE_STATUS returns the lane's 56 bytes (R214). -/
theorem laneStatusBody_answers {v : Serving} (s : State) (hflags : pay v 0 1 < 2) :
    laneStatusBody v s = ({ code := rcDone, result := laneStatusBytes (laneOf s v.target) },
      if bit (pay v 0 1) 0 then modLane v.target clearLaneCounters s else s) :=
  if_neg (Nat.not_le.mpr hflags)

/-- LANE_EYE in UP with no other scan starts its job and freezes adaptation (R199, R200). -/
theorem laneEyeBody_starts {v : Serving} {s : State} (hscan : scanOk v (laneOf s v.target).mode = true) (hup : (laneOf s v.target).rx = .up)
    (hidle : (pathOf s v.target).scan = none) :
    laneEyeBody v s = (rc rcAccepted, modPath v.target (fun p => { p with scan := some { scanOf v with job := s.ferry.nextJob } })
      (modLane v.target (fun z => { z with frozen := true }) (startJob v v.target s).2)) := by
  simp only [laneEyeBody, hscan, hup, hidle, Option.isSome_none, ne_eq, not_true_eq_false, Bool.false_eq_true, if_false]
  rfl

section
variable {v : Serving} {s : State} (hmode : pay v 0 1 ≤ 2) (hprbs : pay v 1 1 < 2) (hfree : portMember s v.target = false)
  (hset : (laneOf s v.target).mode ≠ 0) (hjob : jobOn s 0x0200 v.target = false) (hscan : (pathOf s v.target).scan = none)
include hmode hprbs hfree hset hjob hscan

/-- DIAG_LOOPBACK that no check refuses. -/
theorem diagLoopbackBody_cases : diagLoopbackBody v s =
    if pay v 0 1 = 0 then
      ((loopOff v.target s).1, if bit (pay v 1 1) 0 then modPath v.target (startPrbs v.target) (loopOff v.target s).2 else (loopOff v.target s).2)
    else (rc rcDone, modPath v.target (fun p =>
      let q := { p with loopMode := pay v 0 1, prbs := false, prbsErr := 0, prbsBits := 0 }
      if bit (pay v 1 1) 0 then startPrbs v.target q else q) s) := by
  have hargs : ¬ (2 < pay v 0 1 ∨ 2 ≤ pay v 1 1) := by omega
  simp only [diagLoopbackBody, hargs, hfree, hset, hjob, hscan, Option.isSome_none, or_self, Bool.false_eq_true, if_false]

/-- A loopback starts with its counts zero, and PRBS where it is asked for (R598). -/
theorem diagLoopbackBody_starts (hloop : pay v 0 1 ≠ 0) : ∃ u, diagLoopbackBody v s = (rc rcDone, u) ∧ (pathOf u v.target).loopMode = pay v 0 1 ∧
    (pathOf u v.target).prbs = bit (pay v 1 1) 0 ∧ (pathOf u v.target).prbsErr = 0 ∧ (pathOf u v.target).prbsBits = 0 := by
  refine ⟨_, (diagLoopbackBody_cases hmode hprbs hfree hset hjob hscan).trans (if_neg hloop), ?_⟩
  rw [pathOf_modPath]
  cases bit (pay v 1 1) 0 <;> exact ⟨rfl, rfl, rfl, rfl⟩

end

/-- MODE 0 without PRBS ends a loopback (R598). -/
theorem diagLoopbackBody_ends {v : Serving} {s : State} (hmode : pay v 0 1 = 0) (hprbs : pay v 1 1 = 0) (hfree : portMember s v.target = false)
    (hset : (laneOf s v.target).mode ≠ 0) (hjob : jobOn s 0x0200 v.target = false) (hscan : (pathOf s v.target).scan = none) :
    diagLoopbackBody v s = ({ code := rcDone, result := leBytes 8 (pathOf s v.target).prbsErr ++ leBytes 8 (pathOf s v.target).prbsBits },
      (loopOff v.target s).2) := by
  rw [diagLoopbackBody_cases (by omega) (by omega) hfree hset hjob hscan, if_pos hmode, hprbs]
  rfl

/-- Settles O25, by what each command's body answers and does when its checks pass. -/
theorem laneCommandsTakeEffect : Obligations.LaneCommandsTakeEffect := by
  unfold Obligations.LaneCommandsTakeEffect
  refine ⟨?setMode, ?setTaps, ?loadSlotTable, ?state, ?status, ?eye, ?loopbackOn, ?loopbackOff⟩
  case setMode =>
    intro v x ctle s h hargs hsettings hcoding hgrade hidle hdown hfree hquad hon
    exact served_next h (setModeBody_starts hargs hsettings hcoding hgrade hidle hdown hfree hquad hon)
  case setTaps =>
    intro v s h hpre hpost hflags hon hcoding
    have htaps : TapsOk v s := ⟨hpre, hpost, hflags, hcoding.imp_right (Or.imp_right bits_zero_one_of_mod_four)⟩
    refine ⟨_, served_next h (setTapsBody_on htaps hon), rfl, ?_⟩
    rw [laneOf_modLane]
    rfl
  case loadSlotTable =>
    intro v h img s hserved hzero hhead hgoodHead hread hgood
    exact ⟨_, served_next hserved (loadSlotBody_loads hzero hhead hgoodHead hread hgood), rfl⟩
  case state =>
    exact fun v s h hstate hidle hfree hmode hon => served_next h (laneStateBody_moves hstate hidle hfree hmode hon)
  case status => exact fun v s h hflags => served_next h (laneStatusBody_answers s hflags)
  case eye =>
    intro v s h hscan hup hidle
    refine ⟨_, served_next h (laneEyeBody_starts hscan hup hidle), ?_, ?_, rfl⟩
    · rw [laneOf_modPath, laneOf_modLane]
    · rw [pathOf_modPath]
  case loopbackOn =>
    intro v s h hleast hmost hprbs hfree hset hjob hscan
    obtain ⟨u, hbody, hloop⟩ := diagLoopbackBody_starts hmost hprbs hfree hset hjob hscan (Nat.ne_of_gt hleast)
    exact ⟨u, served_next h hbody, hloop⟩
  case loopbackOff =>
    exact fun v s h hmode hprbs hfree hset hjob hscan => served_next h (diagLoopbackBody_ends hmode hprbs hfree hset hjob hscan)

end Sys2Proof.Machine
end

section
/-! What is done to one lane, engine, DRAM channel, router or Ferry channel leaves the others of its kind (R190, R191, R198, R279, R287). -/

namespace Sys2Proof.Machine
open Sys2Proof

/-! ## Keeping the others of a kind -/

/-- Of the parts of a kind, each seen through `view`, every one but number k is as it was. -/
def OthersKept {α : Type} (view : State → Nat → α) (k : Nat) (s t : State) : Prop := ∀ j, j ≠ k → view t j = view s j

section
variable {α : Type} {view : State → Nat → α} {k : Nat} {s t u : State}

theorem OthersKept.refl : OthersKept view k s s := fun _ _ => rfl
theorem OthersKept.trans (h : OthersKept view k s t) (h' : OthersKept view k t u) : OthersKept view k s u :=
  fun j hj => (h' j hj).trans (h j hj)
theorem OthersKept.of_eq (h : ∀ j, view t j = view s j) : OthersKept view k s t := fun j _ => h j
theorem OthersKept.ite {c : Prop} [Decidable c] (ht : OthersKept view k s t) (hu : OthersKept view k s u) :
    OthersKept view k s (if c then t else u) := by
  split <;> assumption
theorem OthersKept.clocked {d : Nat} (h : OthersKept view k s t) : OthersKept view k s (whileClocked d s t) := .ite .refl h
theorem OthersKept.walk {β : Type} {l : List β} {f : State → β → State} (h : ∀ t x, OthersKept view k t (f t x)) :
    OthersKept view k s (forAll l f s) :=
  fun j hj => forAll_keeps (fun t => view t j) l f s fun t x => h t x j hj

end

/-! ## Lanes (chapter 05) -/

/-- The record and the path of a lane. -/
def laneView (s : State) (m : Nat) : Lane × LanePath := (laneOf s m, pathOf s m)

section
variable {l : Nat} {s t : State}

theorem modLane_others {f : Lane → Lane} : OthersKept laneView l s (modLane l f s) :=
  fun m hm => Prod.ext (laneOf_modLane_other s l m f hm) (pathOf_modLane s l m f)
theorem modPath_others {f : LanePath → LanePath} : OthersKept laneView l s (modPath l f s) :=
  fun m hm => Prod.ext (laneOf_modPath s l m f) (pathOf_modPath_other s l m f hm)
theorem lanes_others (h : t.lanes = s.lanes) : OthersKept laneView l s t :=
  .of_eq fun m => Prod.ext (laneOf_of_lanes h m) (pathOf_of_lanes h m)

theorem laneEv_lanes (l quality cause sev : Nat) (s : State) : (laneEv l quality cause sev s).lanes = s.lanes :=
  laneEv_part (sp := .lanes) l quality cause sev s (by decide) (by decide)
theorem laneEvLimited_lanes (l cause sev : Nat) (s : State) : (laneEvLimited l cause sev s).lanes = s.lanes :=
  laneEvLimited_part (sp := .lanes) l cause sev s (by decide) (by decide)

theorem energyDetected_others : OthersKept laneView l s (energyDetected l s) := .ite modLane_others .refl
theorem cdrLock_others : OthersKept laneView l s (cdrLock l s) := .ite modLane_others .refl
theorem equalizerConverged_others {c : Coeffs} : OthersKept laneView l s (equalizerConverged l c s) :=
  .ite (modLane_others.trans modPath_others) .refl
theorem rxBoundExpiry_others : OthersKept laneView l s (rxBoundExpiry l s) :=
  have hcount : OthersKept laneView l s (countLockLoss l (modPath l (fun p => { p with goodHdr := 0, goodFrames := 0, badFrames := 0 }) s)) :=
    modPath_others.trans modLane_others
  .ite (.ite (hcount.trans modLane_others) hcount) .refl
theorem txSettingsApply_others : OthersKept laneView l s (txSettingsApply l s) := by
  unfold txSettingsApply
  dsimp only
  split
  · exact .ite modLane_others .refl
  · exact .refl

theorem setMargin_others {margin : Nat} : OthersKept laneView l s (setMargin l margin s) :=
  .ite (modLane_others.trans (lanes_others (laneEvLimited_lanes ..))) modLane_others
theorem adaptationUpdate_others {x : Trial} : OthersKept laneView l s (adaptationUpdate l x s) :=
  .ite ((OthersKept.ite (modLane_others.trans setMargin_others) modLane_others).trans modPath_others) .refl
theorem marginRefresh_others {margin : Nat} : OthersKept laneView l s (marginRefresh l margin s) := .ite setMargin_others .refl
theorem corrWindowEnd_others : OthersKept laneView l s (corrWindowEnd l s) :=
  .ite (modPath_others.trans (lanes_others (laneEv_lanes ..))) modPath_others

theorem lineOut_others {bs : List Bool} : OthersKept laneView l s (lineOut l bs s) := modPath_others
theorem sendPrbs_others {n : Nat} : OthersKept laneView l s (sendPrbs l n s) := modPath_others.trans lineOut_others
theorem sendCodeword_others : OthersKept laneView l s (sendCodeword l s) := .ite .refl (modPath_others.trans lineOut_others)
theorem passBlockTransmit_others : OthersKept laneView l s (passBlockTransmit l s) :=
  .ite (.ite sendPrbs_others (.ite ((modPath_others.trans modPath_others).trans sendCodeword_others)
    ((modPath_others.trans modPath_others).trans lineOut_others))) .refl

end

/-! ## Engines (chapter 07) -/

section
variable {k : Nat} {s t : State}

theorem modEng_others {f : Engine → Engine} : OthersKept engOf k s (modEng k f s) := fun j hj => engOf_modEng_other s k j f hj
theorem engOf_of_eng (h : t.eng = s.eng) (j : Nat) : engOf t j = engOf s j := by simp [engOf, h]

theorem operationResult_others : OthersKept engOf k s (operationResult k s) := .ite modEng_others .refl

theorem engOf_startPllMe (s : State) (j : Nat) : engOf (startPllMe s) j = engOf s j := by
  unfold startPllMe
  split <;> rfl
/-- Waking a quad changes nothing of its engines. -/
theorem engOf_wakeQuad (q : Nat) (s : State) (j : Nat) : engOf (wakeQuad q s) j = engOf s j := by
  unfold wakeQuad
  split
  · rw [engOf_modQuad]
  · rw [engOf_modQuad, engOf_startPllMe]
theorem raiseLine_others {line : Nat} : OthersKept engOf k s (raiseLine k line s) :=
  .ite ((OthersKept.of_eq (engOf_wakeQuad (k / 4) s)).trans modEng_others) .refl
theorem interruptInputRise_others {line : Nat} : OthersKept engOf k s (interruptInputRise k line s) := .ite raiseLine_others .refl

theorem writeWords_eng (a : Nat) (w : List Byte) (poison : Nat → Bool) (s : State) : (writeWords a w poison s).eng = s.eng :=
  writeWords_part (sp := .eng) a w poison s (by decide)
/-- A decision word goes to the memory of its own engine, which notes the access. -/
theorem putDecision_others {d : Nat × Nat × BitVec 64} : OthersKept engOf k s (putDecision k d s) := by
  intro j hj
  unfold putDecision
  dsimp only
  rw [engOf_of_eng (writeWords_eng ..), noteA, engOf_modEng_other _ _ _ _ hj]
theorem writeDecisions_others : OthersKept engOf k s (writeDecisions k s) := (OthersKept.walk fun _ _ => putDecision_others).trans modEng_others
theorem decisionWrite_others : OthersKept engOf k s (decisionWrite k s) := by
  unfold decisionWrite
  dsimp only
  split
  · exact .ite (putDecision_others.trans modEng_others) .refl
  · exact .refl
theorem interruptEntry_others : OthersKept engOf k s (interruptEntry k s) := .ite (writeDecisions_others.trans modEng_others) .refl
theorem engEv_eng (k cause sev : Nat) (s : State) : (engEv k cause sev s).eng = s.eng :=
  engEv_part (sp := .eng) k cause sev s (by decide) (by decide)
theorem exceptionEntry_others : OthersKept engOf k s (exceptionEntry k s) := by
  unfold exceptionEntry
  dsimp only
  split
  · exact .refl
  · exact .ite (.ite ((writeDecisions_others.trans modEng_others).trans (.of_eq (engOf_of_eng (engEv_eng ..))))
      (writeDecisions_others.trans modEng_others)) .refl

end

/-! ## DRAM channels (chapter 08) -/

/-- Both records of a DRAM channel. -/
def dramView (s : State) (d : Nat) : Chan × ChanX := (dchOf s d, dchX s d)

theorem dchX_modDchX_other (s : State) (c d : Nat) (f : ChanX → ChanX) (h : d ≠ c) : dchX (modDchX c f s) d = dchX s d := by
  simp [dchX, modDchX, modDram, tget_tmod_other _ _ _ _ _ h]

section
variable {c : Nat} {s t : State}

theorem modDch_others {f : Chan → Chan} : OthersKept dramView c s (modDch c f s) :=
  fun d hd => Prod.ext (dchOf_modDch_other s c d f hd) (dchX_modDch s c d f)
theorem modDchX_others {f : ChanX → ChanX} : OthersKept dramView c s (modDchX c f s) :=
  fun d hd => Prod.ext (dchOf_modDchX s c d f) (dchX_modDchX_other s c d f hd)
theorem dram_others (h : t.dram = s.dram) : OthersKept dramView c s t := .of_eq fun d => by simp [dramView, dchOf, dchX, h]

theorem dramEv_others {k cause sev : Nat} {detail : List Byte} : OthersKept dramView c s (dramEv c k cause sev detail s) :=
  dram_others (dramEv_part (sp := .dram) _ _ _ _ _ _ (by decide) (by decide))
theorem raiseLimited_others {key period ev cause sev : Nat} {detail : List Byte} :
    OthersKept dramView c s (raiseLimited key period ev cause sev detail s) :=
  dram_others (raiseLimited_part (sp := .dram) _ _ _ _ _ _ _ (by decide) (by decide))
theorem shutAll_others : OthersKept dramView c s (shutAll c s) := .walk fun _ _ => modDch_others

theorem pageClose_others {b : Nat} : OthersKept dramView c s (pageClose c b s) := by
  unfold pageClose
  split
  · exact .refl
  · exact .ite modDch_others (.ite modDch_others .refl)
theorem mergeFlush_others : OthersKept dramView c s (mergeFlush c s) := by
  unfold mergeFlush
  split
  · exact .ite modDch_others .refl
  · exact .refl
theorem refresh_others : OthersKept dramView c s (refresh c s) :=
  .ite (.ite (modDchX_others.trans modDch_others) ((modDchX_others.trans modDch_others).trans shutAll_others)) .refl
theorem actWindowEnd_others : OthersKept dramView c s (actWindowEnd c s) := .ite (modDch_others.trans modDchX_others) .refl
theorem temperatureReport_others {hot : Bool} : OthersKept dramView c s (temperatureReport c hot s) :=
  .ite (modDch_others.trans dramEv_others) modDch_others
theorem dqsRetrain_others {drift : Nat} : OthersKept dramView c s (dqsRetrain c drift s) := by
  have hshut {f : ChanX → ChanX} : OthersKept dramView c s (shutAll c (dramCount c 10 1 (modDchX c f s))) :=
    (modDchX_others.trans modDchX_others).trans shutAll_others
  have hdrift {p : Prop} [Decidable p] {f : ChanX → ChanX} : OthersKept dramView c s
      (if p then dramEv c 3 1 1 [] (shutAll c (dramCount c 10 1 (modDchX c f s))) else shutAll c (dramCount c 10 1 (modDchX c f s))) :=
    .ite (hshut.trans dramEv_others) hshut
  exact .ite (.ite (hdrift.trans raiseLimited_others) hdrift) .refl
theorem imbalanceWindow_others : OthersKept dramView c s (imbalanceWindow c s) := by
  unfold imbalanceWindow
  dsimp only
  refine .ite ?_ .refl
  split
  · exact modDchX_others
  · exact .ite (modDchX_others.trans dramEv_others) modDchX_others

end

/-! ## Routers and Ferry channels (chapters 03, 02) -/

section
variable {r : Nat} {s : State}

theorem modRouter_others {f : Router → Router} : OthersKept routerOf r s (modRouter r f s) := fun q hq => routerOf_modRouter_other s r q f hq
theorem routerSleep_others : OthersKept routerOf r s (routerSleep r s) := .ite modRouter_others .refl
theorem senderReset_others : OthersKept chanOf r s (senderReset r s) := .ite (fun _ hd => chanOf_senderResetChan_other s hd) .refl

end

/-! ## The statement -/

/-- A command that keeps the others of a kind completes and keeps any one of them. -/
theorem completes_of_others {α : Type} {view : State → Nat → α} {k j : Nat} {c : Instr} {s t : State} (hj : j ≠ k)
    (hexec : exec c s = .next t) (h : OthersKept view k s t) : ∃ t, exec c s = .next t ∧ view t j = view s j := ⟨t, hexec, h j hj⟩

/-- The same for a lane's record and path. -/
theorem completes_of_other_lanes {l m : Nat} {c : Instr} {s t : State} (hm : m ≠ l) (hexec : exec c s = .next t)
    (h : OthersKept laneView l s t) : ∃ t, exec c s = .next t ∧ laneOf t m = laneOf s m ∧ pathOf t m = pathOf s m :=
  ⟨t, hexec, Prod.mk.inj (h m hm)⟩

/-- The same for both records of a DRAM channel. -/
theorem completes_of_other_drams {c d : Nat} {i : Instr} {s t : State} (hd : d ≠ c) (hexec : exec i s = .next t)
    (h : OthersKept dramView c s t) : ∃ t, exec i s = .next t ∧ dchOf t d = dchOf s d ∧ dchX t d = dchX s d :=
  ⟨t, hexec, Prod.mk.inj (h d hd)⟩

/-- ENERGY_DETECTED leaves all of its own lane but the receiver state and the energy mark. -/
theorem laneOf_energyDetected (l : Nat) (s : State) :
    laneOf (energyDetected l s) l = { laneOf s l with rx := (laneOf (energyDetected l s) l).rx, energy := (laneOf (energyDetected l s) l).energy } := by
  unfold energyDetected
  split
  · rw [laneOf_modLane]
  · rfl

/-- Settles O58, command by command, by what each does to the other parts of its kind. -/
theorem neighboursKeepTheirState : Obligations.NeighboursKeepTheirState := by
  unfold Obligations.NeighboursKeepTheirState
  refine ⟨?lanes, ?engines, ?drams, ?routers, ?channels, ?energy⟩
  case lanes =>
    intro l m x y n s hm
    simp only [List.forall_mem_cons, List.not_mem_nil, false_imp_iff, implies_true, and_true]
    exact ⟨completes_of_other_lanes hm rfl energyDetected_others, completes_of_other_lanes hm rfl cdrLock_others,
      completes_of_other_lanes hm rfl equalizerConverged_others, completes_of_other_lanes hm rfl rxBoundExpiry_others,
      completes_of_other_lanes hm rfl txSettingsApply_others, completes_of_other_lanes hm rfl adaptationUpdate_others,
      completes_of_other_lanes hm rfl passBlockTransmit_others, completes_of_other_lanes hm rfl marginRefresh_others,
      completes_of_other_lanes hm rfl corrWindowEnd_others⟩
  case engines =>
    intro k j n s hj
    simp only [List.forall_mem_cons, List.not_mem_nil, false_imp_iff, implies_true, and_true]
    exact ⟨completes_of_others hj rfl (.clocked operationResult_others), completes_of_others hj rfl interruptInputRise_others,
      completes_of_others hj rfl (.clocked interruptEntry_others), completes_of_others hj rfl (.clocked exceptionEntry_others),
      completes_of_others hj rfl (.clocked decisionWrite_others)⟩
  case drams =>
    intro c d n b s hd
    simp only [List.forall_mem_cons, List.not_mem_nil, false_imp_iff, implies_true, and_true]
    exact ⟨completes_of_other_drams hd rfl (.clocked pageClose_others), completes_of_other_drams hd rfl (.clocked mergeFlush_others),
      completes_of_other_drams hd rfl (.clocked refresh_others), completes_of_other_drams hd rfl (.clocked actWindowEnd_others),
      completes_of_other_drams hd rfl temperatureReport_others, completes_of_other_drams hd rfl (.clocked dqsRetrain_others),
      completes_of_other_drams hd rfl (.clocked imbalanceWindow_others)⟩
  case routers =>
    intro r q a b c s hq
    simp only [List.forall_mem_cons, List.not_mem_nil, false_imp_iff, implies_true, and_true]
    exact ⟨completes_of_others hq rfl (.clocked modRouter_others), completes_of_others hq rfl (.clocked routerSleep_others)⟩
  case channels => exact fun c d s hd => completes_of_others hd rfl senderReset_others
  case energy => exact fun l s => ⟨energyDetected l s, rfl, laneOf_energyDetected l s⟩

end Sys2Proof.Machine
end

section
/-! The receiver and the power state of a lane: its climb from PLL_WAIT to UP, its falls, and the PLL of its quad (R189 to R193, R209 to R211, Table 5.12). -/

namespace Sys2Proof.Machine
open Sys2Proof

/-! ## The PLL of a quad (R189) -/

theorem lanePllLock_starting {q m : Nat} {s : State} (h : pllSt s q = .starting m) :
    lanePllLock q s = forAll (quadLanes q) (fun t l => if (laneOf t l).mode = m then lanePllReady l t else t) (setPll q (.locked m) s) := by
  simp only [lanePllLock, h]

theorem pllLockTimeout_starting {q m : Nat} {s : State} (h : pllSt s q = .starting m) :
    pllLockTimeout q s = forAll (quadLanes q) (fun t l => if (laneOf t l).rx = .pllWait then
      endJob? (pathOf t l).setJob rcTimeout [] (modPath l (fun p => { p with setJob := none, transmitting := false })
        (modLane l (fun y => { y with lockLoss := min (y.lockLoss + 1) 0xFFFFFFFF }) t)) else t) (setPll q .off s) := by
  simp only [pllLockTimeout, h]

theorem pllUnlock_locked {q m : Nat} {s : State} (h : pllSt s q = .locked m) :
    pllUnlock q s = forAll (quadLanes q) (fun t l => if (laneOf t l).mode ≠ 0 then
      (if rxAtLeast (laneOf (laneEv l 0 6 2 t) l) 2 then
        modPath l (fun p => { p with transmitting := false }) (rxFallTo l .pllWait (laneEv l 0 6 2 t)) else laneEv l 0 6 2 t) else t)
      (setPll q (.starting m) s) := by
  simp only [pllUnlock, h]

theorem endJob?_lanes (id : Option Nat) (code : Nat) (result : List Byte) (s : State) : (endJob? id code result s).lanes = s.lanes :=
  endJob?_part (sp := .lanes) id code result s (by decide) (by decide) (by decide) (by decide) (by decide)

/-- A receiver that waits for its PLL waits for a signal next (R190). -/
theorem laneOf_lanePllReady {l : Nat} {s : State} (h : (laneOf s l).rx = .pllWait) :
    laneOf (lanePllReady l s) l = { laneOf s l with rx := .signalWait } := by
  simp only [lanePllReady, if_pos h]
  rw [laneOf_of_lanes (endJob?_lanes ..), laneOf_modPath, laneOf_modLane]

theorem lanePllReady_others {l : Nat} {s : State} : OthersKept laneView l s (lanePllReady l s) :=
  .ite ((modLane_others.trans modPath_others).trans (lanes_others (endJob?_lanes ..))) .refl

/-! ## The climb (R190 to R193) -/

theorem laneOf_energyDetected_waiting {l : Nat} {s : State} (h : (laneOf s l).rx = .signalWait) :
    laneOf (energyDetected l s) l = { laneOf s l with rx := .cdrAcq, energy := true } := by
  rw [energyDetected, if_pos h, laneOf_modLane]

theorem laneOf_cdrLock {l : Nat} {s : State} (h : (laneOf s l).rx = .cdrAcq) :
    laneOf (cdrLock l s) l = { laneOf s l with rx := .adaptInit, coeffs := startCoeffs (laneOf s l) } := by
  rw [cdrLock, if_pos h, laneOf_modLane]

theorem laneOf_equalizerConverged {l : Nat} (c : Coeffs) {s : State} (h : (laneOf s l).rx = .adaptInit) :
    laneOf (equalizerConverged l c s) l = { laneOf s l with rx := .lockHunt, coeffs := c } := by
  rw [equalizerConverged, if_pos h, laneOf_modPath, laneOf_modLane]

/-- What 128 valid headers make of the path of a native lane: the counts of the hunt for frames start at zero (R192, R193). -/
def huntFrames (p : LanePath) : LanePath := { p with hdrWindow := [], goodFrames := 0, badFrames := 0, rxCw := 0 }

/-- A native lane hunts for frames after block lock (R190). -/
theorem blockLock_native {l : Nat} {s : State} (hrx : (laneOf s l).rx = .lockHunt) (hmode : (laneOf s l).mode = 1) (hgood : 128 ≤ (pathOf s l).goodHdr) :
    blockLock l s = modLane l (fun x => { x with rx := .frameHunt, blockLock := true }) (modPath l huntFrames s) := by
  have hnative : ¬ 4 ≤ 1 := by decide
  simp only [blockLock, hrx, hmode, hgood, hnative, or_true, and_self, if_true, if_false]
  rfl

theorem frameLock_hunting {l : Nat} {s : State} (hrx : (laneOf s l).rx = .frameHunt) (hgood : 4 ≤ (pathOf s l).goodFrames) :
    frameLock l s = rxUp l s := if_pos ⟨hrx, hgood⟩

/-- Outside ADAPT_INIT a failed bound counts a lock loss and restarts the counts of the hunt (R191). -/
theorem rxBoundExpiry_restarts {l : Nat} {s : State} (h : (laneOf s l).rx = .cdrAcq ∨ (laneOf s l).rx = .lockHunt ∨ (laneOf s l).rx = .frameHunt) :
    rxBoundExpiry l s = countLockLoss l (modPath l (fun p => { p with goodHdr := 0, goodFrames := 0, badFrames := 0 }) s) := by
  unfold rxBoundExpiry
  rcases h with h | h | h <;> simp [h]

/-! ## The falls (R191, R193) -/

theorem rxAtLeast_up {y : Lane} {n : Nat} (h : y.rx = .up) (hn : n ≤ 7) : rxAtLeast y n = true := by simpa [rxAtLeast, rxCode, h] using hn

/-- A loss in UP raises its link event and sends the receiver back (Table 5.12). -/
theorem rxLoss_up {l cause : Nat} {r : RxState} {s : State} (h : (laneOf s l).rx = .up) :
    rxLoss l cause r s = rxFallTo l r (laneEv l 0 cause 1 s) := by
  simp only [rxLoss, if_pos h]

theorem laneOf_countLockLoss (l : Nat) (s : State) :
    laneOf (countLockLoss l s) l = { laneOf s l with lockLoss := min ((laneOf s l).lockLoss + 1) 0xFFFFFFFF } := laneOf_modLane _ _ _

section
variable {l : Nat} {s : State} (hup : (laneOf s l).rx = .up)
include hup

theorem rx_countLockLoss_up : (laneOf (countLockLoss l s) l).rx = .up := by rw [laneOf_countLockLoss]; exact hup

theorem energyLoss_up : energyLoss l s = rxFallTo l .signalWait (laneEv l 0 2 1 (modLane l (fun y => { y with energy := false }) s)) := by
  have hkept : (laneOf (modLane l (fun y => { y with energy := false }) s) l).rx = .up := by rw [laneOf_modLane]; exact hup
  rw [energyLoss, if_pos (rxAtLeast_up hup (by decide)), rxLoss_up hkept]

theorem cdrLoss_up : cdrLoss l s = rxFallTo l .cdrAcq (laneEv l 0 3 1 (countLockLoss l s)) := by
  rw [cdrLoss, if_pos (rxAtLeast_up hup (by decide)), rxLoss_up (rx_countLockLoss_up hup)]

theorem blockLockLoss_up (hbad : 24 ≤ ((pathOf s l).hdrWindow.filter (fun v => !v)).length) :
    blockLockLoss l s = rxFallTo l .lockHunt (laneEv l 0 4 1 (countLockLoss l s)) := by
  rw [blockLockLoss, if_pos ⟨rxAtLeast_up hup (by decide), .inr hbad⟩, rxLoss_up (rx_countLockLoss_up hup)]

theorem frameLockLoss_up (hmode : (laneOf s l).mode = 1) (hbad : 4 ≤ (pathOf s l).badFrames) :
    frameLockLoss l s = rxFallTo l .frameHunt (laneEv l 0 5 1 (countLockLoss l s)) := by
  rw [frameLockLoss, if_pos ⟨hup, hmode, hbad⟩, rxLoss_up (rx_countLockLoss_up hup)]

end

/-! ## Power states (R209 to R211) -/

/-- Reaching a state other than SLACKWATER ends the move (R209). -/
theorem laneReached_awake (l : Nat) (p : LanePwr) (s : State) (hp : p ≠ .slackwater) :
    laneReached l p s = modLane l (fun z => { z with pwr := p }) (modPath l (fun x =>
      { x with moving := none, transmitting := decide (p = .active), preTx := if p = .active && x.transmitting then x.preTx else 0 }) s) := by
  cases p with
  | slackwater => exact absurd rfl hp
  | active | quiet | unset => rfl

/-- A move from a state other than SLACKWATER ends at once: the lanes are the reached state's (R209). -/
theorem laneStateReached_awake {l : Nat} {p : LanePwr} {s : State} (hmoving : (pathOf s l).moving = some p)
    (hpwr : (laneOf s l).pwr ≠ .slackwater) : (laneStateReached l s).lanes = (laneReached l p s).lanes := by
  simp only [laneStateReached, hmoving, hpwr, not_false_eq_true, ne_eq, true_or, or_true, if_true]
  rfl

theorem energyDetect_slackwater {l : Nat} {s : State} (hpwr : (laneOf s l).pwr = .slackwater) (henergy : (laneOf s l).energy = false) :
    energyDetect l s = laneEv l 1 5 0 (modLane l (fun z => { z with energy := true }) s) := by
  simp [energyDetect, hpwr, henergy]

/-! ## The statement -/

/-- A command that makes its lane `y` and keeps the others. -/
theorem lane_becomes {l : Nat} {c : Instr} {s t : State} {y : Lane} (hexec : exec c s = .next t) (hown : laneOf t l = y)
    (hothers : OthersKept laneView l s t) : ∃ t, exec c s = .next t ∧ laneOf t l = y ∧ ∀ k, k ≠ l → laneOf t k = laneOf s k :=
  ⟨t, hexec, hown, fun k hk => congrArg Prod.fst (hothers k hk)⟩

/-- Settles O22, by what each step of the receiver does in the state it is for. -/
theorem lanesComeUpAndFall : Obligations.LanesComeUpAndFall := by
  unfold Obligations.LanesComeUpAndFall
  refine ⟨?pllLock, ?pllReady, ?pllTimeout, ?pllUnlock, ?energyDetected, ?cdrLock, ?converged, ?blockLock, ?frameLock, ?bound, ?losses, ?reached, ?energyDetect⟩
  case pllLock => exact fun q m s h => congrArg Host.Outcome.next (lanePllLock_starting h)
  case pllReady =>
    intro l s hrx _
    refine ⟨_, rfl, ?_, fun k hk => congrArg Prod.fst (lanePllReady_others k hk)⟩
    rw [laneOf_lanePllReady hrx]
  case pllTimeout => exact fun q m s h => congrArg Host.Outcome.next (pllLockTimeout_starting h)
  case pllUnlock => exact fun q m s h => congrArg Host.Outcome.next (pllUnlock_locked h)
  case energyDetected => exact fun l s h => lane_becomes rfl (laneOf_energyDetected_waiting h) energyDetected_others
  case cdrLock => exact fun l s h => lane_becomes rfl (laneOf_cdrLock h) cdrLock_others
  case converged => exact fun l c s h => lane_becomes rfl (laneOf_equalizerConverged c h) equalizerConverged_others
  case blockLock =>
    intro l s hrx hmode hgood
    refine lane_becomes (congrArg Host.Outcome.next (blockLock_native hrx hmode hgood)) ?_ (modPath_others.trans modLane_others)
    rw [laneOf_modLane, laneOf_modPath]
  case frameLock => exact fun l s hrx hgood => congrArg Host.Outcome.next (frameLock_hunting hrx hgood)
  case bound =>
    intro l s h
    refine ⟨_, congrArg Host.Outcome.next (rxBoundExpiry_restarts h), laneOf_countLockLoss _ _, ?_, ?_⟩
    all_goals rw [countLockLoss, pathOf_modLane, pathOf_modPath]
  case losses =>
    intro l s hup
    exact ⟨⟨_, congrArg Host.Outcome.next (energyLoss_up hup), laneOf_modLane _ _ _⟩,
      ⟨_, congrArg Host.Outcome.next (cdrLoss_up hup), laneOf_countLockLoss _ _⟩,
      fun hbad => ⟨_, congrArg Host.Outcome.next (blockLockLoss_up hup hbad), laneOf_countLockLoss _ _⟩,
      fun hmode hbad => ⟨_, congrArg Host.Outcome.next (frameLockLoss_up hup hmode hbad), laneOf_countLockLoss _ _⟩⟩
  case reached =>
    intro l p s hmoving hp hpwr
    have hlanes := (laneStateReached_awake hmoving hpwr).trans (congrArg State.lanes (laneReached_awake l p s hp))
    refine ⟨laneStateReached l s, rfl, ?_, ?_, ?_⟩
    · rw [laneOf_of_lanes hlanes, laneOf_modLane, laneOf_modPath]
    · rw [pathOf_of_lanes hlanes, pathOf_modLane, pathOf_modPath]
    · rw [pathOf_of_lanes hlanes, pathOf_modLane, pathOf_modPath]
  case energyDetect =>
    intro l s hpwr henergy
    exact ⟨_, congrArg Host.Outcome.next (energyDetect_slackwater hpwr henergy), laneOf_modLane _ _ _⟩

end Sys2Proof.Machine
end

section
/-! Native frames: what a lane makes of the frame it has received whole, and the frame it sends (R176, R178, R179, R182, R193, R194). -/

namespace Sys2Proof.Machine
open Sys2Proof

/-! ## Receiving -/

theorem laneOf_lineIn (l : Nat) (syms : List Nat) (s : State) (m : Nat) : laneOf (lineIn l syms s) m = laneOf s m := by
  unfold lineIn
  rw [laneOf_modPath]
theorem lineIn_delta (l : Nat) (syms : List Nat) (s : State) : (lineIn l syms s).delta = s.delta := lineIn_part (sp := .delta) l syms s (by decide)
theorem huntFrame_delta (l : Nat) (s : State) : (huntFrame l s).delta = s.delta := huntFrame_part (sp := .delta) l s (by decide)

/-- From LOCK_HUNT on a native receiver reads what its symbols complete. -/
theorem nativeFrameReceive_reads {l : Nat} {syms : List Nat} {s : State} (hmode : (laneOf s l).mode = 1) (hrx : rxAtLeast (laneOf s l) 5 = true) :
    nativeFrameReceive l syms s = nativeBits l ((pathOf (lineIn l syms s) l).rxRaw.length + 1) (lineIn l syms s) := if_pos ⟨hmode, hrx⟩

/-- Of the bits of one frame a receiver that hunts for frames looks at one candidate: what an invalid one leaves is no frame (R193). -/
theorem nativeBits_hunt_one {l n : Nat} {t : State} (hrx : (laneOf t l).rx = .frameHunt) (hlen : (pathOf t l).rxRaw.length = frameBits) :
    nativeBits l (n + 1) t = huntFrame l t := by
  obtain ⟨hstays, hraw, -⟩ := huntFrame_rx l t
  rw [nativeBits_hunt l n t hrx hlen.ge]
  refine nativeBits_hunt_short l n _ (hstays.trans hrx) ?_
  rw [hraw, List.length_drop, hlen, frameBits]
  split <;> decide

/-- Of the bits of one frame a receiver in UP takes them all (R179). -/
theorem nativeBits_up_one {l n : Nat} {t : State} (hrx : (laneOf t l).rx = .up) (hlen : (pathOf t l).rxRaw.length = frameBits)
    (hloop : (pathOf t l).loopMode = 0) : nativeBits l (n + 1) t = upFrame l t := by
  obtain ⟨u, last, hup, -, hraw, -⟩ := upFrame_splits l t hloop
  rw [nativeBits_up l n t hrx hlen.ge]
  refine nativeBits_short l n _ ?_
  rw [hup, deliverFrame_rxRaw, hraw, List.length_drop, hlen, Nat.sub_self]
  decide

/-! ## Sending -/

/-- The 75 blocks of a plain frame: what waits, and IDLE after it (R177). -/
def plainFrame (p : LanePath) : List Block := (p.txBlocks ++ List.replicate 75 idleBlock).take 75

/-- The bits of a frame of scrambled blocks with its check blocks (R175, R178). -/
def frameOut (sc : List Block) : List Bool := (sc ++ checkBlocks sc).foldl (fun b x => b ++ blockBits x) []

/-- A lane that is no member of a port sends its own blocks, scrambled and unencrypted. -/
theorem nativeFrameTransmit_plain {l : Nat} {s : State} (hmode : (laneOf s l).mode = 1) (hsends : sends s l = true) (hfar : (pathOf s l).loopMode ≠ 2)
    (hprbs : (pathOf s l).prbs = false) (hport : portOfLane s l = none) :
    nativeFrameTransmit l s = lineOut l (frameOut (runBlocks scrBit (pathOf s l).scrTx (plainFrame (pathOf s l))).1)
      (modPath l (fun x => { x with txBlocks := x.txBlocks.drop 75, scrTx := (runBlocks scrBit (pathOf s l).scrTx (plainFrame (pathOf s l))).2 }) s) := by
  have hload : loadFrame l s = s := by simp only [loadFrame, hport]
  simp only [nativeFrameTransmit, hmode, hsends, hprbs, hload, hport, ne_eq, hfar, not_false_eq_true, and_self, if_true, Bool.false_eq_true, if_false,
    Option.filter_none, Option.isSome_none]
  rfl

/-- Bits that leave move the precoder on and stand as the last symbols sent (R182). -/
theorem pathOf_lineOut (l : Nat) (bs : List Bool) (s : State) : pathOf (lineOut l bs s) l =
    { pathOf s l with preTx := (laneSymbols (laneOf s l) (pathOf s l).preTx bs).2, lastSymbols := (laneSymbols (laneOf s l) (pathOf s l).preTx bs).1 } :=
  pathOf_modPath _ _ _

/-- Settles O23, by the one frame that the bits hold and by the frame sent. -/
theorem nativeLanesCarryFrames : Obligations.NativeLanesCarryFrames := by
  unfold Obligations.NativeLanesCarryFrames
  refine ⟨?hunt, ?up, ?transmit⟩
  case hunt =>
    intro l syms s hmode hrx hlen
    have hread : nativeFrameReceive l syms s = huntFrame l (lineIn l syms s) := by
      rw [nativeFrameReceive_reads hmode (by simp [rxAtLeast, rxCode, hrx]),
        nativeBits_hunt_one ((congrArg Lane.rx (laneOf_lineIn l syms s l)).trans hrx) hlen]
    obtain ⟨-, hraw, hgood⟩ := huntFrame_rx l (lineIn l syms s)
    exact ⟨_, congrArg Host.Outcome.next hread, (huntFrame_delta ..).trans (lineIn_delta ..), hgood, hraw⟩
  case up =>
    intro l syms s hmode hrx hloop hlen
    have hloopIn : (pathOf (lineIn l syms s) l).loopMode = 0 := (lineIn_loopMode l syms s).trans hloop
    have hread : nativeFrameReceive l syms s = upFrame l (lineIn l syms s) := by
      rw [nativeFrameReceive_reads hmode (rxAtLeast_up hrx (by decide)),
        nativeBits_up_one ((congrArg Lane.rx (laneOf_lineIn l syms s l)).trans hrx) hlen hloopIn]
    obtain ⟨u, last, hup, hdelta, hraw, hscr, hcorr, huncorr⟩ := upFrame_splits l (lineIn l syms s) hloopIn
    rw [laneOf_lineIn] at hcorr huncorr
    refine ⟨u, last, congrArg Host.Outcome.next (hread.trans hup), hdelta.trans (lineIn_delta ..), ?_, hscr, hcorr, huncorr⟩
    rw [hraw, List.drop_eq_nil_iff, hlen, frameBits]
  case transmit =>
    intro l s hmode hsends hfar hprbs hport
    refine ⟨_, congrArg Host.Outcome.next (nativeFrameTransmit_plain hmode hsends hfar hprbs hport), ?_⟩
    rw [pathOf_lineOut, laneOf_modPath, pathOf_modPath]
    rfl

end Sys2Proof.Machine
end

section
/-! Pass lanes: the streams they carry, their settings in force, adaptation, margins and eye scans (R184, R194 to R199, R201 to R205). -/

namespace Sys2Proof.Machine
open Sys2Proof

/-! ## The receive stream (R201 to R204) -/

/-- The record of a block: an error record when its header is invalid (R202). -/
def recordOf (b : Block) : Block := if hdrValid b then b else { header := 2, payload := errorPayload }

/-- Outside loopback a block becomes its record. -/
theorem passRecord_delivers {l : Nat} (b : Block) {s : State} (hloop : (pathOf s l).loopMode = 0) :
    passRecord l false b s = pushRecord l (recordOf b) s := by
  simp only [passRecord, hloop, ne_eq, not_true_eq_false, if_false, Bool.false_or, recordOf]
  cases hdrValid b <;> rfl

/-- The lane once the header of its next block is seen. -/
def headerSeen (l : Nat) (s : State) : State := modPath l (fun x => { x with scrRx := (pathOf s l).scrRx }) (seeHeaders l [bitsBlock (pathOf s l).rxRaw] s)

/-- Seeing a header leaves the received bits, the stream, the loopback and the mode. -/
theorem headerSeen_keeps (l : Nat) (s : State) : (pathOf (headerSeen l s) l).rxRaw = (pathOf s l).rxRaw ∧ (pathOf (headerSeen l s) l).rxBits = (pathOf s l).rxBits ∧
    (pathOf (headerSeen l s) l).loopMode = (pathOf s l).loopMode ∧ (laneOf (headerSeen l s) l).mode = (laneOf s l).mode := by
  rw [headerSeen, pathOf_modPath, laneOf_modPath, seeHeaders, pathOf_modLane, pathOf_modPath, laneOf_modLane, laneOf_modPath]
  exact ⟨rfl, rfl, rfl, rfl⟩

/-- One block in UP, unscrambled and outside loopback. -/
theorem upBlock_plain {l : Nat} {s : State} (hscramble : (laneOf s l).scramble = false) (hloop : (pathOf s l).loopMode = 0) :
    upBlock l s = dropBits l 66 (pushRecord l (recordOf (bitsBlock (pathOf s l).rxRaw)) (headerSeen l s)) := by
  obtain ⟨-, -, hloopSeen, -⟩ := headerSeen_keeps l s
  rw [← passRecord_delivers _ (hloopSeen.trans hloop)]
  simp only [upBlock, hscramble, Bool.false_eq_true, if_false]
  rfl

/-- A record enters the stream: the received bits stay, and the lane but for the records it lost (R204). -/
theorem pushRecord_keeps (l : Nat) (b : Block) (s : State) :
    (pathOf (pushRecord l b s) l).rxRaw = (pathOf s l).rxRaw ∧ (laneOf (pushRecord l b s) l).mode = (laneOf s l).mode := by
  unfold pushRecord
  dsimp only
  split
  · rw [pathOf_of_lanes (laneEvLimited_lanes ..), laneOf_of_lanes (laneEvLimited_lanes ..), pathOf_modLane, pathOf_modPath, laneOf_modLane, laneOf_modPath]
    exact ⟨rfl, rfl⟩
  · rw [pathOf_modPath, laneOf_modPath]
    exact ⟨rfl, rfl⟩

/-- Of the bits of one block a receiver of mode 2 or 3 in UP takes them all. -/
theorem passBits_up_one {l n : Nat} {t : State} (hrx : (laneOf t l).rx = .up) (hmode : (laneOf t l).mode < 4) (hscramble : (laneOf t l).scramble = false)
    (hloop : (pathOf t l).loopMode = 0) (hlen : (pathOf t l).rxRaw.length = 66) : passBits l (n + 1) t = upBlock l t := by
  obtain ⟨hrawSeen, -, -, hmodeSeen⟩ := headerSeen_keeps l t
  obtain ⟨hraw, hmodeKept⟩ := pushRecord_keeps l (recordOf (bitsBlock (pathOf t l).rxRaw)) (headerSeen l t)
  rw [passBits_up l n t hrx hmode hlen.ge]
  refine passBits_short l n _ ?_ ?_
  · rw [upBlock_plain hscramble hloop, dropBits, laneOf_modPath, hmodeKept, hmodeSeen]
    exact hmode
  · rw [upBlock_plain hscramble hloop, dropBits, pathOf_modPath]
    simp [hraw, hrawSeen, hlen]

/-- From LOCK_HUNT on a Pass receiver reads what its symbols complete. -/
theorem passBlockReceive_reads {l : Nat} {syms : List Nat} {s : State} (hmode : 2 ≤ (laneOf s l).mode) (hrx : rxAtLeast (laneOf s l) 5 = true) :
    passBlockReceive l syms s = passBits l ((pathOf (lineIn l syms s) l).rxRaw.length + 1) (lineIn l syms s) := if_pos ⟨hmode, hrx⟩

/-- The state after n bytes have left the receive stream. -/
def bytesSent (l n : Nat) (s : State) : State := modPath l (fun x => { x with rxBits := x.rxBits.drop (8 * n), rxBitsOff := x.rxBitsOff + n }) s

/-- Without a flow the bytes go best-effort to the reach of RX_DST (R203). -/
theorem passStreamSend_bestEffort {l n base : Nat} {s : State} (hmode : 2 ≤ (laneOf s l).mode) (hl : l < 64) (hleast : 1 ≤ n) (hmost : n ≤ 128)
    (hbits : 8 * n ≤ (pathOf s l).rxBits.length) (hwrap : (pathOf s l).rxBitsOff % streamWrap + n ≤ streamWrap) (hflow : (laneOf s l).rxFlow = 0)
    (hbase : reachBase (laneOf s l).rxDst = some base) :
    passStreamSend l n s = (presentReq (0x20 + l / 4) (l % 4)
      { op := .wrp, addr := base + (pathOf s l).rxBitsOff % streamWrap, len := n, data := bitsBytes n (pathOf s l).rxBits } (bytesSent l n s)).2 := by
  simp only [passStreamSend, hmode, hl, hleast, hmost, hbits, hwrap, and_self, if_true, hflow, hbase]
  rfl

/-! ## The transmit stream (R205) -/

/-- A write of TX_SRC to a lane's window that fits the buffer is appended and answered OK. -/
theorem txStreamWrite_appends {pid l : Nat} {d : Delivered} {s : State} (hinbox : inboxAny s pid = some d) (hlow : 0x20 ≤ d.ep) (hhigh : d.ep < 0x30)
    (hregs : d.pkt.addr < 0x10000000) (hwindow : 0x100000 ≤ d.pkt.addr % 0x200000) (hop : d.pkt.op ≠ .rd)
    (hl : l = 4 * (d.ep - 0x20) + (d.pkt.addr % 0x200000 - 0x100000) / 0x40000) (hmode : 2 ≤ (laneOf s l).mode) (hnear : d.pkt.far = false)
    (hsrc : d.pkt.src = (laneOf s l).txSrc) (hroom : (pathOf s l).txBits.length + 8 * d.pkt.data.length ≤ streamBits) :
    txStreamWrite pid s = respondInbox d 10 .ok []
      (modPath l (fun p => { p with txBits := p.txBits ++ d.pkt.data.foldl (fun b x => b ++ lsbBits 8 x.toNat) [] }) s) := by
  subst hl
  have hplace : 0x20 ≤ d.ep ∧ d.ep < 0x30 ∧ d.pkt.addr < 0x10000000 ∧ 0x100000 ≤ d.pkt.addr % 0x200000 ∧ d.pkt.op ≠ .rd :=
    ⟨hlow, hhigh, hregs, hwindow, hop⟩
  simp only [txStreamWrite, hinbox, if_pos hplace, Nat.not_lt.mpr hmode, hnear, hsrc, Nat.not_lt.mpr hroom, ne_eq, not_true_eq_false, Bool.false_eq_true,
    or_self, if_false]

/-- The next whole record of the transmit stream, as the block it leaves in (R201, R205). -/
def nextTxBlock (p : LanePath) : Block := { header := if p.txBits.headD false then 2 else 1, payload := bitsNum ((p.txBits.drop 1).take 64) }

/-- In modes 2 and 3 without scrambling the next whole record leaves as it is. -/
theorem passBlockTransmit_plain {l : Nat} {s : State} (hleast : 2 ≤ (laneOf s l).mode) (hmost : (laneOf s l).mode < 4) (hsends : sends s l = true)
    (hfar : (pathOf s l).loopMode ≠ 2) (hprbs : (pathOf s l).prbs = false) (hscramble : (laneOf s l).scramble = false)
    (hwhole : 65 ≤ (pathOf s l).txBits.length) :
    passBlockTransmit l s = lineOut l (blockBits (nextTxBlock (pathOf s l)))
      (modPath l (fun q => { q with scrTx := (pathOf s l).scrTx }) (modPath l (fun q => { q with txBits := q.txBits.drop 65 }) s)) := by
  simp only [passBlockTransmit, hleast, hsends, hfar, hprbs, hscramble, hwhole, Nat.not_le.mpr hmost, ne_eq, not_false_eq_true, and_self, if_true,
    Bool.false_eq_true, if_false, decide_true]
  rfl

/-! ## Settings, adaptation, quality (R184, R195 to R198) -/

theorem txSettingsApply_applies {l : Nat} {x : TxSet} {s : State} (hnext : (laneOf s l).nextTx = some x) (hmode : (laneOf s l).mode ≠ 0)
    (hpwr : (laneOf s l).pwr ≠ .unset) : txSettingsApply l s = modLane l (fun z => { z with tx := x, nextTx := none }) s := by
  simp only [txSettingsApply, hnext, if_pos (And.intro hmode hpwr)]

/-- MARGIN takes the new value, whether or not its event is raised. -/
theorem laneOf_setMargin (l margin : Nat) (s : State) : laneOf (setMargin l margin s) l = { laneOf s l with margin := min margin 255 } := by
  unfold setMargin
  dsimp only
  split
  · rw [laneOf_of_lanes (laneEvLimited_lanes ..), laneOf_modLane]
  · rw [laneOf_modLane]

/-- In UP an admitted trial that lowers no margin and moves no CTLE code is taken with its margin; the path notes no lowering and no CTLE move (R196). -/
theorem adaptationUpdate_takes {l : Nat} {x : Trial} {s : State} (hrx : (laneOf s l).rx = .up) (hfrozen : (laneOf s l).frozen = false)
    (htrial : trialOk (laneOf s l).coeffs x = true) (hfell : x.marginFell = false) (hmargin : (laneOf s l).margin ≤ x.newMargin)
    (hctle : x.movesCtle = false) :
    adaptationUpdate l x s = modPath l (fun q => q) (setMargin l x.newMargin (modLane l (fun z => { z with coeffs := x.coeffs }) s)) := by
  have hkept : trialFell (laneOf s l) x = false := by simp [trialFell, hfell, hmargin]
  simp only [adaptationUpdate, rxAtLeast_up hrx (by decide : 4 ≤ 7), hfrozen, htrial, hkept, hctle, hrx, Bool.false_eq_true, not_false_eq_true, true_or,
    and_self, if_true, if_false]

/-- A scan whose counts can be written ends DONE, and adaptation goes on (R199, R200). -/
theorem eyeScanDone_writes {l : Nat} {counts : List Nat} {c : Scan} {s t : State} (hscan : (pathOf s l).scan = some c)
    (hwrite : hwWrite c.result ((List.range (scanPoints c)).foldl (fun b i => b ++ leBytes 2 (min (counts.getD i 0) 0xFFFF)) [])
      (modPath l (fun p => { p with scan := none }) (modLane l (fun y => { y with frozen := false }) s)) = some t) :
    eyeScanDone l counts s = endJob c.job rcDone [] t := by
  simp only [eyeScanDone, hscan, hwrite]

/-- Settles O24, by what each step does under its conditions. -/
theorem passStreamsAndAdaptation : Obligations.PassStreamsAndAdaptation := by
  unfold Obligations.PassStreamsAndAdaptation
  refine ⟨?receive, ?streamSend, ?streamWrite, ?transmit, ?settings, ?adaptation, ?margin, ?window, ?scan⟩
  case receive =>
    intro l syms s hmode hscramble hrx hloop hlen
    have hlane := laneOf_lineIn l syms s l
    have hread : passBlockReceive l syms s = upBlock l (lineIn l syms s) := by
      rw [passBlockReceive_reads (by omega) (rxAtLeast_up hrx (by decide)),
        passBits_up_one (by rw [hlane, hrx]) (by rw [hlane]; omega) (by rw [hlane, hscramble]) hloop hlen]
    obtain ⟨-, hbits, -, -⟩ := headerSeen_keeps l (lineIn l syms s)
    exact ⟨headerSeen l (lineIn l syms s), congrArg Host.Outcome.next (hread.trans (upBlock_plain (by rw [hlane, hscramble]) hloop)), hbits,
      lineIn_delta l syms s, lineIn_part (sp := .braid) l syms s (by decide)⟩
  case streamSend =>
    intro l n base s hmode hl hleast hmost hbits hwrap hflow hbase
    refine ⟨bytesSent l n s, congrArg Host.Outcome.next (passStreamSend_bestEffort hmode hl hleast hmost hbits hwrap hflow hbase), ?_⟩
    rw [bytesSent, pathOf_modPath]
    exact ⟨rfl, rfl⟩
  case streamWrite =>
    intro pid l d s hinbox hlow hhigh hregs hwindow hop hl hmode hnear hsrc hroom
    refine ⟨_, congrArg Host.Outcome.next (txStreamWrite_appends hinbox hlow hhigh hregs hwindow hop hl hmode hnear hsrc hroom), ?_⟩
    rw [pathOf_modPath]
  case transmit =>
    intro l s hmode hsends hfar hprbs hscramble hwhole
    refine ⟨_, congrArg Host.Outcome.next (passBlockTransmit_plain (by omega) (by omega) hsends hfar hprbs hscramble hwhole), ?_⟩
    rw [pathOf_lineOut, laneOf_modPath, laneOf_modPath, pathOf_modPath, pathOf_modPath]
    rfl
  case settings =>
    intro l x s hnext hmode hpwr
    exact ⟨_, congrArg Host.Outcome.next (txSettingsApply_applies hnext hmode hpwr), laneOf_modLane _ _ _⟩
  case adaptation =>
    intro l x s hrx hfrozen htrial hfell hmargin hctle
    refine ⟨_, congrArg Host.Outcome.next (adaptationUpdate_takes hrx hfrozen htrial hfell hmargin hctle), ?_⟩
    rw [laneOf_modPath, laneOf_setMargin, laneOf_modLane]
  case margin =>
    intro l margin s hrx
    exact ⟨modLane l (fun z => { z with margin := min margin 255 }) s, laneOf_modLane _ _ _, congrArg Host.Outcome.next (if_pos hrx)⟩
  case window => exact fun l s => ⟨modPath l (fun p => { p with corrWin := 0 }) s, pathOf_modPath _ _ _, rfl⟩
  case scan => exact fun l counts c s t hscan hwrite => congrArg Host.Outcome.next (eyeScanDone_writes hscan hwrite)

end Sys2Proof.Machine
end

section
/-! Delta ports: link flits, LINKCTLs, replays (R221 to R228). -/

namespace Sys2Proof.Machine
open Sys2Proof

/-! ## Ports of the state -/

/-- A state whose Delta is another's has its ports. -/
theorem portOf_of_delta {s t : State} (h : t.delta = s.delta) (p : Nat) : portOf t p = portOf s p := by simp [portOf, h]

@[simp] theorem portOf_portCount (p k n q : Nat) (s : State) : portOf (portCount p k n s) q = portOf s q := rfl
@[simp] theorem portOf_modTwin (s : State) (f : Twin → Twin) (p : Nat) : portOf (modTwin s f) p = portOf s p := rfl

/-- A table made of the numbers below `n` lists each of them. -/
theorem tget_range_map {α : Type} {n v : Nat} (f : Nat → α) (d : α) (h : v < n) : tget ((List.range n).map (fun i => (i, f i))) d v = f v := by
  have hfind : ∀ (l : List Nat), v ∈ l → tget (l.map (fun i => (i, f i))) d v = f v := by
    intro l
    induction l with
    | nil => simp
    | cons i l ih =>
      intro hmem
      by_cases hi : i = v
      · simp [tget, hi]
      · simp [tget, hi, ih ((List.mem_cons.mp hmem).resolve_left (Ne.symm hi))]
  exact hfind _ (List.mem_range.mpr h)

/-! ## Receiving link flits (R222, R223, R226) -/

/-- The flit at the front of the stream is read after it has been taken from the stream. -/
theorem linkFlitReceive_reads {p : Nat} {f : RxLinkFlit} {r : List RxBlk} {s : State}
    (hfront : takeFlit (skipStream (p == 64) (portOf s p).rxStream).2 = some (f, r)) :
    ∃ u, linkFlitReceive p s = readFlit p f u ∧ portOf u p = { portOf s p with rxStream := r } ∧ u.braid = s.braid := by
  obtain ⟨hport, hbraid⟩ := cleanStream_port p s
  refine ⟨modPort p (fun x => { x with rxStream := r }) (cleanStream p s), ?_, ?_, hbraid⟩
  · simp only [linkFlitReceive, hport, hfront]
  · rw [portOf_modPort, hport]

theorem readFlit_accepts {p : Nat} {f : RxLinkFlit} {s : State} (hup : (portOf s p).st = .up) (hwhole : f.whole = true) (hcrc : f.crcOk = true)
    (hgood : f.bad = false) (hseq : f.seq = (portOf s p).rxSeq) : readFlit p f s = rxFlit p f (ackTo p f.ack s) := by
  have haccepts : acceptsFlit (portOf s p) f = true := by simp [acceptsFlit, hup, hwhole, hcrc, hgood, hseq]
  simp only [readFlit, haccepts, hwhole, hcrc, Bool.and_self, if_true]

/-- The receive buffer grows by the flit, the next SEQ is expected and an acknowledgement is owed (R226). -/
theorem portOf_rxFlit (p : Nat) (f : RxLinkFlit) (s : State) : portOf (rxFlit p f s) p =
    { portOf s p with rxBuf := (portOf s p).rxBuf ++ [(f.lvc, flitFrom f s.braid.nextPid)], rxSeq := ((portOf s p).rxSeq + 1) % 512, ackPending := true, nakSent := false } := by
  unfold rxFlit
  dsimp only
  rw [portOf_portCount, portOf_modPort]
  split <;> rfl

/-- The first flit that fails its CRC or holds a bad block asks for a retry; what has been received stays (R226). -/
theorem readFlit_asksRetry {p : Nat} {f : RxLinkFlit} {s : State} (hfails : f.crcOk = false ∨ f.bad = true) (hnew : (portOf s p).nakSent = false) :
    (portOf (readFlit p f s) p).nakPending = true ∧ (portOf (readFlit p f s) p).nakSent = true ∧
    (portOf (readFlit p f s) p).rxBuf = (portOf s p).rxBuf ∧ (portOf (readFlit p f s) p).rxSeq = (portOf s p).rxSeq ∧
    (portOf (readFlit p f s) p).rxStream = (portOf s p).rxStream := by
  have hrefuses : acceptsFlit (portOf s p) f = false := by rcases hfails with h | h <;> simp [acceptsFlit, h]
  obtain ⟨hbuf, hseq, hstream, -⟩ := ackTo_port p f.ack s
  simp only [readFlit, hrefuses, hnew, Bool.false_eq_true, if_false, portOf_modPort, true_and]
  split
  · exact ⟨hbuf, hseq, hstream⟩
  · exact ⟨rfl, rfl, rfl⟩

/-! ## Sending link flits (R225, R227, R228) -/

@[simp] theorem portOf_sendLinkFlit (p : Nat) (f : LinkFlit) (s : State) :
    portOf (sendLinkFlit p f s) p = { portOf s p with txStream := (portOf s p).txStream ++ [.flit f] } := by
  rw [sendLinkFlit, portOf_portCount, portOf_modPort]

/-- A queue without the first entry of an LVC. -/
def withoutOldest (lvc : Nat) (q : List (Nat × Flit)) : List (Nat × Flit) :=
  q.takeWhile (fun e => e.1 != lvc) ++ (q.dropWhile (fun e => e.1 != lvc)).drop 1

/-- A flit leaves the transmit queue: it takes a credit and a SEQ, and waits for its acknowledgement (R225, R227). -/
def launch (p : Nat) (g : LinkFlit) (s : State) : State :=
  modPort p (fun y =>
    { y with txq := withoutOldest g.lvc (portOf s p).txq, txSeq := (y.txSeq + 1) % 512, credits := tset y.credits g.lvc (tget y.credits 0 g.lvc - 1),
             replay := y.replay ++ [g], ackAt := if y.replay.isEmpty then s.time else y.ackAt }) s

theorem linkFlitSend_sends {p lvc : Nat} {f : Flit} {s : State} (hp : p < 64) (hup : (portOf s p).st = .up) (hnone : (portOf s p).resend = [])
    (hfind : (portOf s p).txq.find? (fun e => decide (0 < tget (portOf s p).credits 0 e.1)) = some (lvc, f)) (hroom : (portOf s p).replay.length < 256) :
    linkFlitSend p s = grantPort p (sendLinkFlit p { seq := (portOf s p).txSeq, lvc := lvc, flit := f }
      (launch p { seq := (portOf s p).txSeq, lvc := lvc, flit := f } s)) := by
  have hlink : p ≠ 64 := Nat.ne_of_lt hp
  simp only [linkFlitSend, hlink, hup, hnone, hfind, hroom, if_true, if_false]
  rfl

/-- A flit to be replayed goes before any other (R227). -/
theorem linkFlitSend_replays {p : Nat} {f : LinkFlit} {r : List LinkFlit} {s : State} (hp : p < 64) (hup : (portOf s p).st = .up)
    (hresend : (portOf s p).resend = f :: r) : linkFlitSend p s = sendLinkFlit p f (modPort p (fun y => { y with resend := r }) s) := by
  have hlink : p ≠ 64 := Nat.ne_of_lt hp
  simp only [linkFlitSend, hlink, hup, hresend, if_true, if_false]

/-! ## LINKCTLs (R224, R225) -/

/-- A block of the type at the front of the stream is taken from it. -/
theorem takeBlock_front {p ty : Nat} {b : RxBlk} {r : List RxBlk} {s : State} (hfront : (skipStream (p == 64) (portOf s p).rxStream).2 = b :: r)
    (htype : isType b.block ty = true) : ∃ u, takeBlock p ty s = some (b.block, u) ∧ portOf u p = { portOf s p with rxStream := r } := by
  have hport := (cleanStream_port p s).1
  refine ⟨modPort p (fun x => { x with rxStream := r }) (cleanStream p s), ?_, ?_⟩
  · simp only [takeBlock, hport, hfront, htype, if_true]
  · rw [portOf_modPort, hport]

/-- The credits of a LINKCTL are the port's, and its INIT is noted (R225). -/
def addCredits (p : Nat) (c : LinkCtl) (s : State) : State :=
  modPort p (fun y => { y with credits := (List.range 8).map (fun v => (v, tget y.credits 0 v + c.credit.getD v 0)), initSeen := y.initSeen || c.init }) s

/-- In INIT no replay can start. -/
theorem readLinkctl_init {p : Nat} {c : LinkCtl} {s : State} (hcrc : c.crcOk = true) (hst : (portOf s p).st = .init) :
    readLinkctl p c s = addCredits p c (ackTo p c.ack s) := by
  have hstreams : streams s p = true := by simp [streams, hst]
  have hdown : decide (PortState.init = .up) = false := by decide
  simp only [readLinkctl, hcrc, hstreams, hst, hdown, and_self, if_true, Bool.and_false, Bool.false_eq_true, if_false]
  rfl

/-- What a LINKCTL returns is owed no more (R224, R225). -/
def returnCredits (p : Nat) (s : State) : State :=
  modPort p (fun y => { y with
    freed := (List.range 8).map (fun v => (v, tget y.freed 0 v - min 15 (tget (portOf s p).freed 0 v))), ackPending := false, nakPending := false }) s

theorem linkctlSend_up {p : Nat} {s : State} (hup : (portOf s p).st = .up) : linkctlSend p s = pushBlocks p
    [linkctlBlock (((portOf s p).rxSeq + 511) % 512) (b2n (portOf s p).nakPending) 0 (fun v => min 15 (tget (portOf s p).freed 0 v))] (returnCredits p s) := by
  have hinit : decide (PortState.up = .init) = false := by decide
  simp only [linkctlSend, hup, hinit, or_true, if_true]
  rfl

/-! ## Replays (R227) -/

/-- Every unacknowledged flit is to be resent. -/
def resendAll (p : Nat) (s : State) : State := modPort p (fun y => { y with resend := y.replay, replays := y.replays + 1, ackAt := s.time }) s

theorem replayTimeout_due {p : Nat} {s : State} (hup : (portOf s p).st = .up) (hsome : (portOf s p).replay ≠ [])
    (hdue : (portOf s p).ackAt + 4 * usCycles ≤ s.time) : replayTimeout p s = replayRate p (portCount p 4 1 (resendAll p s)) := by
  have hkept : (portOf s p).replay.isEmpty = false := by simpa using hsome
  simp only [replayTimeout, startReplay, hup, hkept, hdue, Bool.false_eq_true, not_false_eq_true, and_self, if_true, if_false]
  rfl

/-- Settles O26, by the rules above for the two directions of the stream and the replays. -/
theorem linkFlitsCrossADeltaLink : Obligations.LinkFlitsCrossADeltaLink := by
  unfold Obligations.LinkFlitsCrossADeltaLink
  refine ⟨?accepts, ?refuses, ?sends, ?replays, ?credits, ?returns, ?timeout⟩
  case accepts =>
    intro p f r s hfront hup hwhole hcrc hgood hseq
    obtain ⟨u, hreads, hport, hbraid⟩ := linkFlitReceive_reads hfront
    obtain ⟨hbuf, hrxSeq, hstream, -, -, -, hack⟩ := ackTo_port p f.ack u
    refine ⟨_, congrArg Host.Outcome.next (hreads.trans (readFlit_accepts (by rw [hport, hup]) hwhole hcrc hgood (by rw [hport, hseq]))), ?_⟩
    simp only [portOf_rxFlit, hbuf, hrxSeq, hstream, hack, hport, hbraid, and_self]
  case refuses =>
    intro p f r s hfront hfails hnew
    obtain ⟨u, hreads, hport, -⟩ := linkFlitReceive_reads hfront
    have hretry := readFlit_asksRetry (s := u) hfails (by rw [hport, hnew])
    rw [hport] at hretry
    exact ⟨_, congrArg Host.Outcome.next hreads, hretry⟩
  case sends =>
    intro p lvc f s hp hup hnone hfind hroom
    refine ⟨_, congrArg Host.Outcome.next (linkFlitSend_sends hp hup hnone hfind hroom), ?_⟩
    simp [launch]
  case replays =>
    intro p f r s hp hup hresend
    refine ⟨_, congrArg Host.Outcome.next (linkFlitSend_replays hp hup hresend), ?_⟩
    simp
  case credits =>
    intro p b r s hfront htype hcrc hinit
    obtain ⟨u, htake, hport⟩ := takeBlock_front hfront htype
    obtain ⟨-, -, hstream, hcredits, hseen, -⟩ := ackTo_port p (linkctlOf b.block).ack u
    have hreads : linkctlReceive p s = addCredits p (linkctlOf b.block) (ackTo p (linkctlOf b.block).ack u) := by
      simp only [linkctlReceive, htake]
      exact readLinkctl_init hcrc (by rw [hport, hinit])
    refine ⟨_, congrArg Host.Outcome.next hreads, ?_⟩
    simp only [addCredits, portOf_modPort, hstream, hcredits, hseen, hport, and_true]
    exact fun v hv => tget_range_map _ _ hv
  case returns =>
    intro p s hup
    refine ⟨_, _, congrArg Host.Outcome.next (linkctlSend_up hup), ?_⟩
    simp only [returnCredits, portOf_modPort, true_and]
    exact fun v hv => tget_range_map _ _ hv
  case timeout =>
    intro p s hup hsome hdue
    refine ⟨_, congrArg Host.Outcome.next (replayTimeout_due hup hsome hdue), ?_⟩
    simp [resendAll]

end Sys2Proof.Machine
end

section
/-! Delta ports come up and go down, packets enter from them, keys switch, requests wait for room (R219, R220, R232, R237, R240, Table 6.3). -/

namespace Sys2Proof.Machine
open Sys2Proof

/-! ## States of a port (Table 6.3) -/

/-- The empty link layer with which a port enters INIT at a time: every credit goes back to the far end (R219, R225). -/
def freshLink (now : Nat) (y : Port) : Port :=
  { y with st := .init, txSeq := 0, rxSeq := 0, acked := 511, ackAt := now, replay := [], resend := [], replays := 0, credits := [],
           freed := (List.range 8).map (fun v => (v, 32)), initSeen := false, nakSent := false, ackPending := false, nakPending := false }

theorem portInit_starts {p : Nat} {s : State} (hwaits : (portOf s p).st = .waitLanes) (hwidth : (portOf s p).width ≠ 0) (hlanes : lanesUp s p = true)
    (hskew : skewOk s p = true) : portInit p s = modPort p (freshLink s.time) s := if_pos ⟨hwaits, hwidth, hlanes, hskew⟩

theorem portUp_done {p : Nat} (flight : Nat) {s : State} (h : initDone s p = true) :
    portUp p flight s = portEv p 1 0 (modPort p (fun x => { x with st := .up, flight := flight % 65536, ackAt := s.time }) s) := if_pos h

theorem portDown_falls {p cause : Nat} {s : State} (hup : (portOf s p).st = .up) (hcause : downCause s p cause = true) :
    portDown p cause s = portFall p cause s := if_pos ⟨hup, hcause⟩

/-! ## Packets that enter (R232) -/

theorem deltaPacketEntry_enters {p lvc n : Nat} {f : Flit} {q : Packet} {s : State} (hp : p < 64)
    (hfind : (portOf s p).rxBuf.find? (fun e => canEnter s p e.1) = some (lvc, f)) (hfront : frontPacket s p lvc = some (q, n)) :
    deltaPacketEntry p s = if leaving s q then enterForward p lvc n q s else enterLocal p lvc n q s := by
  have hlink : p ≠ 64 := Nat.ne_of_lt hp
  simp only [deltaPacketEntry, hfind, hfront, hlink, if_false]

/-- A request for an unfenced endpoint of this device joins the waiting list of the port's NI. -/
theorem enterLocal_waits {p lvc n : Nat} {q : Packet} {s : State} (hvc : q.vc ≠ 2) (hop : q.op ≠ .rsp) (hlisted : epListed q.dst = true)
    (hfence : fenced s q.dst = false) : enterLocal p lvc n q s =
      modNi (portNi p) (fun m => { m with queue := m.queue ++ [{ q with agent := 16 + 8 * (p % 4) + lvc }] }) (freeFront p lvc n s) := by
  simp only [enterLocal, hvc, hop, hlisted, hfence, Bool.not_true, Bool.false_eq_true, if_false]

/-! ## Key switches (R240) -/

/-- The link encrypts with its other slot, and no switch of it is under way. -/
def switchKey (link : Nat) (s : State) : State :=
  modPort link (fun x => { x with keysel := 1 - x.keysel }) (modCrypto s (fun c => { c with switching := ldel c.switching link }))

theorem keySwitchApply_switches {link : Nat} {s : State} (h : link ∈ s.crypto.switching) : keySwitchApply link s =
    modFerry (raiseEvAt (some (portNi link)) 467 2 0 (leBytes 1 link) (switchKey link s)) (fun f =>
      { f with serving := f.serving.map (fun v => if v.opcode = 0x0506 ∧ v.target = link then { v with waitingFor := 0 } else v) }) :=
  if_pos (List.contains_iff_mem.mpr h)

theorem keysel_switchKey (link : Nat) (s : State) : (portOf (switchKey link s) link).keysel = 1 - (portOf s link).keysel := by
  rw [switchKey, portOf_modPort, portOf_of_delta (modCrypto_delta _ _)]

/-! ## Tokens (R237) -/

theorem tokenArrival_request {id n l pid : Nat} {k : Token} {s : State} (hfind : s.braid.tokens.find? (fun t => t.id == id) = some k)
    (hrequest : k.kind = .request n l pid) (hnew : k.waiting = false) : tokenArrival id s =
      grantPort (l / 8) (modBraid s (fun b => { b with tokens := b.tokens.filter (fun x => x.id != id) ++ [{ k with waiting := true }] })) := by
  simp only [tokenArrival, hfind, hrequest, hnew, Bool.false_eq_true, if_false]

/-- Settles O27, by the rules above for the states of a port, entries, key switches and tokens. -/
theorem deltaPortsComeUpAndGoDown : Obligations.DeltaPortsComeUpAndGoDown := by
  unfold Obligations.DeltaPortsComeUpAndGoDown
  refine ⟨?init, ?up, ?down, ?entry, ?waits, ?keys, ?token⟩
  case init =>
    intro p s hwaits hwidth hlanes hskew
    refine ⟨_, congrArg Host.Outcome.next (portInit_starts hwaits hwidth hlanes hskew), ?_⟩
    rw [portOf_modPort]
    exact ⟨rfl, rfl, rfl, rfl, fun v hv => tget_range_map _ _ hv, fun q hq => portOf_modPort_other _ _ _ _ hq⟩
  case up => exact fun p flight s h => ⟨_, congrArg Host.Outcome.next (portUp_done flight h), portOf_modPort _ _ _⟩
  case down => exact fun p cause s hup hcause => congrArg Host.Outcome.next (portDown_falls hup hcause)
  case entry => exact fun p lvc n f q s hp hfind hfront => congrArg Host.Outcome.next (deltaPacketEntry_enters hp hfind hfront)
  case waits =>
    intro p lvc n q s hvc hop hlisted hfence
    rw [enterLocal_waits hvc hop hlisted hfence, niOf_modNi]
  case keys =>
    intro link s h
    exact ⟨_, congrArg Host.Outcome.next (keySwitchApply_switches h), keysel_switchKey link s, not_mem_ldel _ _⟩
  case token =>
    intro id n l pid k s hfind hrequest hnew
    exact ⟨_, congrArg Host.Outcome.next (tokenArrival_request hfind hrequest hnew), rfl⟩

end Sys2Proof.Machine
end

section
/-! DELTA_PORT_SET and FAR_ROUTE_LOAD whose checks pass (R217, R218, R234, R235, R630). -/

namespace Sys2Proof.Machine
open Sys2Proof

/-! ## DELTA_PORT_SET -/

/-- No check of DELTA_PORT_SET refuses: the fields are in range, encryption is asked for on a part that has it, and the member lanes are native and of no other port (R217, R218). -/
structure PortSetOk (v : Serving) (s : State) : Prop where
  shape : portShape v.target (pay v 0 1) = true
  flags : pay v 1 1 < 16
  dev : pay v 2 1 < 4
  zero : pay v 3 1 = 0
  id : pay v 4 2 < 16384
  grade : s.dbg.fuses.grade ≠ 2
  crypto : bit (pay v 1 1) 2 = true → s.dbg.fuses.cryptoS = true
  lanes : ∀ k, k < pay v 0 1 → otherMember s v.target (v.target + k) = false ∧ (laneOf s (v.target + k)).mode = 1

/-- The state in which a port is disabled: only the room it has reserved stays. -/
def disablePort (p : Nat) (s : State) : State := modPort p (fun x => { reserved := x.reserved }) (portFall p 0 s)

/-- The state in which a port has been enabled with a width: it waits for its lanes. -/
def reopenPort (p w keysel : Nat) (s : State) : State :=
  modPort p (fun x => { width := w, st := .waitLanes, keysel := keysel, reserved := x.reserved }) (portFall p 0 s)

/-- A port with the flags and the bound device of a DELTA_PORT_SET payload (R218). -/
def withSettings (v : Serving) (x : Port) : Port :=
  { x with dateline := bit (pay v 1 1) 1, encrypt := bit (pay v 1 1) 2, bind := if bit (pay v 1 1) 3 then some (102 + pay v 2 1, pay v 4 2) else none }

section
variable {v : Serving} {s : State} (h : PortSetOk v s)
include h

theorem PortSetOk.passes_fields : ¬ (¬ portShape v.target (pay v 0 1) = true ∨ 16 ≤ pay v 1 1 ∨ 4 ≤ pay v 2 1 ∨ pay v 3 1 ≠ 0 ∨ 16384 ≤ pay v 4 2) := by
  rintro (hbad | hbad | hbad | hbad | hbad)
  · exact hbad h.shape
  · exact absurd h.flags (Nat.not_lt.mpr hbad)
  · exact absurd h.dev (Nat.not_lt.mpr hbad)
  · exact hbad h.zero
  · exact absurd h.id (Nat.not_lt.mpr hbad)

theorem PortSetOk.passes_part : ¬ (s.dbg.fuses.grade = 2 ∨ (bit (pay v 1 1) 2 = true ∧ ¬ s.dbg.fuses.cryptoS = true)) := by
  rintro (hgrade | ⟨hencrypt, hplain⟩)
  · exact h.grade hgrade
  · exact hplain (h.crypto hencrypt)

theorem PortSetOk.passes_members : ((List.range (pay v 0 1)).map (fun k => v.target + k)).any (otherMember s v.target) = false := by
  simpa using fun k hk => (h.lanes k hk).1

theorem PortSetOk.passes_modes : ((List.range (pay v 0 1)).map (fun k => v.target + k)).any (fun l => (laneOf s l).mode != 1) = false := by
  simpa using fun k hk => (h.lanes k hk).2

theorem portSetBody_disables (hoff : bit (pay v 1 1) 0 = false) :
    portSetBody v s = (portResult (disablePort v.target s) v.target, disablePort v.target s) := by
  simp only [portSetBody, if_neg h.passes_fields, if_neg h.passes_part, h.passes_members, h.passes_modes, hoff, Bool.false_eq_true, not_false_eq_true,
    if_true, if_false]
  rfl

theorem portSetBody_enables (hon : bit (pay v 1 1) 0 = true) (hdisabled : (portOf s v.target).st = .disabled) :
    portSetBody v s =
      (portResult (modPort v.target (withSettings v) (reopenPort v.target (pay v 0 1) (portOf s v.target).keysel s)) v.target,
        modPort v.target (withSettings v) (reopenPort v.target (pay v 0 1) (portOf s v.target).keysel s)) := by
  have hnew : (PortState.disabled != PortState.disabled) = false := by decide
  simp only [portSetBody, if_neg h.passes_fields, if_neg h.passes_part, h.passes_members, h.passes_modes, hon, hdisabled, hnew, Bool.false_and,
    Bool.false_eq_true, not_true_eq_false, if_false]
  rfl

end

/-! ## FAR_ROUTE_LOAD -/

/-- The next far table, still to be installed at every NI (R236). -/
def loadFar (tbl : Tbl Nat) (s : State) : State :=
  modDelta s (fun d => { d with farOld := d.far, far := tbl, farPending := (List.range 0x70).filter epListed })

theorem farRouteBody_loads {v : Serving} {h img : List Byte} {s : State} (hzero : payZero v 0 8 = true) (hhead : hwRead s (pay v 8 8) 32 = some h)
    (hgoodHead : farHeaderBad h = none) (hread : hwRead s (pay v 8 8) (leAt h 8 4) = some img) (hgood : farImageBad s img = none) :
    farRouteBody v s =
      ({ code := rcDone, result := leBytes 2 (farTable img s.delta.deviceId).length ++ leBytes 2 (leAt img 6 2 - (farTable img s.delta.deviceId).length) },
        waitFor 1 (mirrorItem (.farTable (farTable img s.delta.deviceId)) (loadFar (farTable img s.delta.deviceId) s))) := by
  simp only [farRouteBody, hzero, hhead, hgoodHead, hread, hgood, not_true_eq_false, if_false]
  rfl

/-- Sending an item to the partner leaves Delta. -/
theorem mirrorItem_delta (m : MirrorItem) (s : State) : (mirrorItem m s).delta = s.delta := mirrorItem_part (sp := .delta) m s (by decide)

/-- Settles O28, by what each command's body answers and does when its checks pass. -/
theorem deltaCommandsTakeEffect : Obligations.DeltaCommandsTakeEffect := by
  unfold Obligations.DeltaCommandsTakeEffect
  refine ⟨?disables, ?enables, ?farTable⟩
  case disables =>
    intro v s h hshape hflags hdev hzero hid hgrade hplain hoff hlanes
    have hok : PortSetOk v s := ⟨hshape, hflags, hdev, hzero, hid, hgrade, by simp [hplain], hlanes⟩
    refine ⟨_, served_next h (portSetBody_disables hok hoff), ?_⟩
    rw [disablePort, portOf_modPort]
    exact ⟨rfl, rfl, rfl⟩
  case enables =>
    intro v s h hshape hflags hdev hzero hid hgrade hcrypto hon hlanes hdisabled
    have hok : PortSetOk v s := ⟨hshape, hflags, hdev, hzero, hid, hgrade, hcrypto, hlanes⟩
    refine ⟨_, served_next h (portSetBody_enables hok hon hdisabled), ?_⟩
    rw [reopenPort, portOf_modPort, portOf_modPort]
    exact ⟨rfl, rfl, rfl, rfl, rfl⟩
  case farTable =>
    intro v h img s hserved hzero hhead hgoodHead hread hgood
    refine ⟨_, served_next hserved (farRouteBody_loads hzero hhead hgoodHead hread hgood), ?_⟩
    rw [mirrorItem_delta]
    exact ⟨rfl, rfl, fun ep hlisted hep => List.mem_filter.mpr ⟨List.mem_range.mpr hep, hlisted⟩⟩

end Sys2Proof.Machine
end

section
/-! The Twin pair: pairing, heartbeats, takeover, fencing, switchover (R241, R247 to R250, R594, R596, Table 6.12). -/

namespace Sys2Proof.Machine
open Sys2Proof

/-! ## Pairing (R241, R594) -/

/-- No check of TWIN_PAIR without flags refuses: the fields are in range, the member is unpaired and not pairing, and the Twin lanes are UP with their domain on. -/
structure PairOk (v : Serving) (s : State) : Prop where
  id : pay v 0 2 < 16384
  member : pay v 2 1 < 2
  want : pay v 3 1 < 2
  flags : pay v 4 1 = 0
  role : s.twin.role = .unpaired
  idle : s.twin.pairing = none
  on : domOn s 85 = true
  lanes : ∀ l, 64 ≤ l → l < 68 → (laneOf s l).mode = 1 ∧ (laneOf s l).rx = .up

/-- The Twin link waits for its lanes, unless it is enabled and unencrypted already. -/
def openLink (s : State) : State :=
  modPort 64 (fun x => if x.st = .disabled ∨ x.encrypt ≠ false then { width := 4, st := .waitLanes, encrypt := false, keysel := x.keysel } else x) s

/-- The member is pairing from now on, with the fields of TWIN_PAIR. -/
def startPairing (v : Serving) (job now : Nat) (s : State) : State :=
  modTwin s (fun w => { w with pairId := pay v 0 2, member := pay v 2 1, encrypt := false, mirrorKeys := false, pairing := some (pay v 3 1, job, now) })

theorem openLink_enabled (s : State) : (portOf (openLink s) 64).st ≠ .disabled := by
  rw [openLink, portOf_modPort]
  by_cases h : (portOf s 64).st = .disabled ∨ (portOf s 64).encrypt ≠ false
  · rw [if_pos h]
    nofun
  · rw [if_neg h]
    exact fun hst => h (.inl hst)

theorem PairOk.passes_lanes {v : Serving} {s : State} (h : PairOk v s) :
    [64, 65, 66, 67].all (fun l => (laneOf s l).mode == 1 && (laneOf s l).rx == .up) = true := by
  refine List.all_eq_true.mpr fun l hl => ?_
  have hrange : 64 ≤ l ∧ l < 68 := by
    simp only [List.mem_cons, List.not_mem_nil, or_false] at hl
    omega
  obtain ⟨hmode, hrx⟩ := h.lanes l hrange.1 hrange.2
  simp [hmode, hrx]

theorem twinPairBody_starts {v : Serving} {s : State} (h : PairOk v s) :
    twinPairBody v s = (rc rcAccepted, startPairing v s.ferry.nextJob s.time (openLink (startJob v 0xFFFF s).2)) := by
  have hid := Nat.not_le.mpr h.id
  have hmember := Nat.not_le.mpr h.member
  have hwant := Nat.not_le.mpr h.want
  have hflags : ¬ 4 ≤ 0 := by decide
  have hplain : bit 0 0 = false := by decide
  have hkeys : bit 0 1 = false := by decide
  have hwake : wakeFor 85 s = some s := by simp [wakeFor, h.on]
  unfold twinPairBody
  simp only [h.flags, hid, hmember, hwant, hflags, hplain, hkeys, h.role, h.idle, hwake, h.passes_lanes, Bool.false_eq_true, false_and, if_false, reduceCtorEq, or_self,
    Option.isSome_none, not_true_eq_false]
  rfl

/-- What a finished pairing leaves on either member: M is known, the pairing has ended, the pair's ID is the device's (R241). -/
def paired (p : PairReply) (s : State) : State :=
  modDelta (modTwin s (fun w => { w with pairing := none, m := p.m, armedAt := s.time, lastHb := s.time, missed := 0, handover := false }))
    (fun d => { d with deviceId := s.twin.pairId })

/-- The member that becomes ACTIVE tracks its windows, with every page dirty (R595). -/
def activated (s t : State) : State :=
  modTwin t (fun w =>
    { w with role := .active, partnerHot := true, windows := w.windows.map (fun x => (x.1, { x.2 with st := .tracked })), dirty := allPages s })

section
variable {p : PairReply} {want job t0 : Nat} {s : State} (hpairing : s.twin.pairing = some (want, job, t0))
include hpairing

theorem pairingDone_active (hup : (portOf s 64).st = .up) (hrole : pairRole want s.twin.member p = .active) :
    pairingDone p s = endJob job rcDone (leBytes 4 p.m ++ leBytes 1 0)
      (forAll s.twin.windows (fun u x => fillBitmap x.2 0xFF u) (activated s (paired p s))) := by
  simp only [pairingDone, hpairing, hup, hrole, if_true]
  rfl

theorem pairingDone_standby (hup : (portOf s 64).st = .up) (hrole : pairRole want s.twin.member p = .standbyHot) :
    pairingDone p s = endJob job rcDone (leBytes 4 p.m ++ leBytes 1 1) (enterStandby (paired p s)) := by
  simp only [pairingDone, hpairing, hup, hrole, if_true, reduceCtorEq, if_false]
  rfl

theorem pairTimeout_due (hrole : s.twin.role = .unpaired) (hdue : t0 + 1000 * msCycles ≤ s.time) :
    pairTimeout s = endJob job rcTimeout [] (modPort 64 (fun _ => {}) (modTwin s (fun w => { w with pairing := none }))) := by
  simp only [pairTimeout, hpairing, hdue, hrole, if_true]

end

/-! ## Heartbeats (R247) -/

theorem heartbeatArm_arms {s : State} (hbeats : beats s = true) (hready : s.ferry.ready = true)
    (hsound : ¬ (s.twin.role = .active ∧ s.events.fatalN = true ∧ s.events.fatalFence = true)) :
    heartbeatArm s = modTwin s (fun w => { w with armed := true, armedAt := s.time }) := by
  have hfatal : (s.twin.role == .active && s.events.fatalN && s.events.fatalFence) = false := by
    simpa [← Bool.not_eq_true, ← and_assoc] using hsound
  simp [heartbeatArm, hbeats, hready, hfatal]

/-- A heartbeat is sent, with an edge of TWIN_HB. -/
def beat (s : State) : State :=
  modTwin s (fun x => { x with armed := false, lastSent := s.time, hbSeq := (x.hbSeq + 1) % 2 ^ 32, twinHb := !x.twinHb })

theorem heartbeatSend_due {s : State} (hbeats : beats s = true) (harmed : s.twin.armed = true) (hkeeps : s.twin.handover = false)
    (hdue : s.twin.lastSent + 100 * usCycles ≤ s.time) : heartbeatSend s = if (portOf s 64).st = .up then
      pushBlocks 64 [heartbeatBlock (hbRole s.twin) s.twin.member ((s.twin.hbSeq + 1) % 2 ^ 32) s.twin.epoch] (beat s) else beat s := by
  simp only [heartbeatSend, hbeats, harmed, hkeeps, hdue, and_self, if_true, Bool.false_eq_true, if_false]
  rfl

theorem heartbeatArmTimeout_fences {s : State} (hactive : s.twin.role = .active) (hdue : s.twin.armedAt + 200 * usCycles ≤ s.time) :
    heartbeatArmTimeout s = twinDone 0x0804 (fence s) := if_pos ⟨hactive, hdue⟩

/-- A valid heartbeat at a paired member ends the misses (R248). -/
def heard (h : Heartbeat) (s : State) : State :=
  modTwin s (fun w =>
    { w with lastHb := s.time, missed := 0, partnerActiveAt := if h.role = 1 then some s.time else w.partnerActiveAt, partnerHot := h.role == 2 })

/-- The heartbeat at the front of the Twin link's stream is taken, and means to the member what its role makes of it. -/
theorem heartbeatReceive_valid {b : RxBlk} {r : List RxBlk} {s : State} (hfront : (skipStream true (portOf s 64).rxStream).2 = b :: r)
    (htype : isType b.block 0xD3 = true) (hcrc : (heartbeatOf b.block).crcOk = true) (hpaired : s.twin.role ≠ .unpaired) :
    ∃ u, heartbeatReceive s = heartbeatRole (heartbeatOf b.block) (heard (heartbeatOf b.block) u) ∧ u.twin = s.twin ∧ u.time = s.time := by
  obtain ⟨u, htake, -⟩ := takeBlock_front (p := 64) hfront htype
  have htwin : u.twin = s.twin := takeBlock_part (sp := .twin) htake (by decide)
  have htime : u.time = s.time := takeBlock_part (sp := .time) htake (by decide)
  refine ⟨u, ?_, htwin, htime⟩
  simp only [heartbeatReceive, htake, readHeartbeat, hcrc, htwin, ne_eq, hpaired, not_false_eq_true, and_self, if_true]
  rfl

theorem heartbeatRole_handover {h : Heartbeat} {s : State} (hrole : s.twin.role = .standbyHot) (hhandover : h.role = 3) :
    heartbeatRole h s = takeover 1 s := by simp only [heartbeatRole, hrole, hhandover, if_true]

/-- A standby's heartbeat asks nothing of the active. -/
theorem heartbeatRole_standby {h : Heartbeat} {s : State} (hrole : s.twin.role = .active) (hstandby : h.role = 2) : heartbeatRole h s = s := by
  have hother : ¬ (2 = 1 ∧ (epochAbove h.epoch s.twin.epoch = true ∨ (h.epoch % 256 = s.twin.epoch % 256 ∧ s.twin.member = 1))) := fun h => absurd h.1 (by decide)
  simp only [heartbeatRole, hrole, hstandby, if_neg hother]

/-! ## Missed heartbeats (R248, R250) -/

/-- One more heartbeat is missed. -/
def miss (s : State) : State := modTwin s (fun w => { w with missed := w.missed + 1 })

theorem heartbeatMissed_first {s : State} (hbeats : beats s = true) (hnone : s.twin.missed = 0) (hdue : s.twin.lastHb + 110 * usCycles ≤ s.time) :
    heartbeatMissed s = raiseEv 472 1 1 [] (miss s) := by
  simp only [heartbeatMissed, hbeats, hnone, modTwin_twin, Nat.zero_add, Nat.mul_one, hdue, and_self, if_true]
  rfl

theorem partnerLost_silent {s : State} (hrole : s.twin.role = .standbyHot) (hthree : s.twin.missed = 3) (hsilent : pinSilent s = true) :
    partnerLost s = takeover 1 (raiseEv 472 2 2 [] (senderResetChan 100 s)) := by
  simp only [partnerLost, hrole, hthree, hsilent, reduceCtorEq, if_true, if_false]

/-- The third miss with a silent pin: the hot standby takes over (R250). -/
theorem heartbeatMissed_third {s : State} (hrole : s.twin.role = .standbyHot) (htwo : s.twin.missed = 2)
    (hdue : s.twin.lastHb + 110 * usCycles * 3 ≤ s.time) (hsilent : pinSilent s = true) :
    heartbeatMissed s = takeover 1 (raiseEv 472 2 2 [] (senderResetChan 100 (miss s))) := by
  have hbeats : beats s = true := by simp [beats, hrole]
  have hmissed : (miss s).twin.missed = 3 := congrArg (· + 1) htwo
  have hlost : heartbeatMissed s = partnerLost (miss s) := by
    simp only [heartbeatMissed, hbeats, modTwin_twin, htwo, Nat.reduceAdd, hdue, and_self, if_true, Nat.reduceEqDiff, Nat.reduceLeDiff, if_false]
    rfl
  exact hlost.trans (partnerLost_silent (s := miss s) hrole hmissed hsilent)

/-- A sender reset leaves the Twin endpoint. -/
theorem senderResetChan_twin (c : Nat) (s : State) : (senderResetChan c s).twin = s.twin :=
  senderResetChan_part (sp := .twin) c s (by decide) (by decide) (by decide) (by decide)

/-! ## TWIN_SWITCHOVER (R596) -/

theorem switchoverBody_active (v : Serving) {s : State} (h : s.twin.role = .active) :
    switchoverBody v s = (rc rcDone, waitFor 1 (modTwin s (fun w => { w with handover := true }))) := by simp only [switchoverBody, h]

theorem switchoverBody_fenced (v : Serving) {s : State} (h : s.twin.role = .fenced) (hmay : mayTakeOver s = true) :
    switchoverBody v s = (rc rcDone, takeover 1 s) := by simp only [switchoverBody, h, hmay, if_true]

/-- Settles O29, by the rules above for pairing, heartbeats sent, received and missed, and switchovers. -/
theorem twinMembersPairAndTakeOver : Obligations.TwinMembersPairAndTakeOver := by
  unfold Obligations.TwinMembersPairAndTakeOver
  refine ⟨?pair, ?doneActive, ?doneStandby, ?pairTimeout, ?arm, ?sendPin, ?sendLink, ?armTimeout, ?handover, ?standbyBeat, ?firstMiss, ?thirdMiss, ?edge,
    ?switchActive, ?switchFenced⟩
  case pair =>
    intro v s h hid hmember hwant hflags hrole hidle hon hlanes
    exact ⟨_, served_next h (twinPairBody_starts ⟨hid, hmember, hwant, hflags, hrole, hidle, hon, hlanes⟩), rfl, rfl, rfl, openLink_enabled _⟩
  case doneActive =>
    exact fun p want job t0 s hpairing hup hrole => ⟨_, congrArg Host.Outcome.next (pairingDone_active hpairing hup hrole), rfl, rfl, rfl, rfl⟩
  case doneStandby =>
    exact fun p want job t0 s hpairing hup hrole => ⟨_, congrArg Host.Outcome.next (pairingDone_standby hpairing hup hrole), rfl, rfl, rfl⟩
  case pairTimeout =>
    intro want job t0 s hpairing hrole hdue
    refine ⟨_, congrArg Host.Outcome.next (pairTimeout_due hpairing hrole hdue), rfl, ?_⟩
    rw [portOf_modPort]
  case arm => exact fun s hbeats hready hsound => ⟨_, congrArg Host.Outcome.next (heartbeatArm_arms hbeats hready hsound), rfl, rfl⟩
  case sendPin =>
    intro s hbeats harmed hkeeps hlink hdue
    exact ⟨_, congrArg Host.Outcome.next ((heartbeatSend_due hbeats harmed hkeeps hdue).trans (if_neg hlink)), rfl, rfl, rfl, rfl⟩
  case sendLink =>
    intro s hbeats harmed hkeeps hlink hdue
    exact ⟨_, congrArg Host.Outcome.next ((heartbeatSend_due hbeats harmed hkeeps hdue).trans (if_pos hlink)), rfl, rfl⟩
  case armTimeout => exact fun s hactive hdue => congrArg Host.Outcome.next (heartbeatArmTimeout_fences hactive hdue)
  case handover =>
    intro b r s hfront htype hcrc hhandover hrole
    obtain ⟨u, hreceive, htwin, htime⟩ := heartbeatReceive_valid hfront htype hcrc (by rw [hrole]; decide)
    have htakes := heartbeatRole_handover (s := heard (heartbeatOf b.block) u) (by show u.twin.role = _; rw [htwin, hrole]) hhandover
    refine ⟨_, congrArg Host.Outcome.next (hreceive.trans htakes), htime, rfl, ?_⟩
    rw [heard, modTwin_twin, hhandover]
    rfl
  case standbyBeat =>
    intro b r s hfront htype hcrc hstandby hrole
    obtain ⟨u, hreceive, htwin, htime⟩ := heartbeatReceive_valid hfront htype hcrc (by rw [hrole]; decide)
    have hkeeps := heartbeatRole_standby (s := heard (heartbeatOf b.block) u) (by show u.twin.role = _; rw [htwin, hrole]) hstandby
    refine ⟨_, congrArg Host.Outcome.next (hreceive.trans hkeeps), ?_⟩
    rw [heard, modTwin_twin, hstandby, htwin, htime]
    rfl
  case firstMiss =>
    intro s hbeats hnone hdue
    exact ⟨_, congrArg Host.Outcome.next (heartbeatMissed_first hbeats hnone hdue), congrArg (· + 1) hnone⟩
  case thirdMiss =>
    intro s hrole htwo hdue hsilent
    refine ⟨_, congrArg Host.Outcome.next (heartbeatMissed_third hrole htwo hdue hsilent), ?_⟩
    rw [senderResetChan_twin]
    exact congrArg (· + 1) htwo
  case edge => exact fun s => ⟨_, rfl, rfl, rfl⟩
  case switchActive => exact fun v s h hactive => ⟨_, served_next h (switchoverBody_active v hactive), rfl⟩
  case switchFenced => exact fun v s h hfenced hmay => served_next h (switchoverBody_fenced v hfenced hmay)

end Sys2Proof.Machine
end

section
/-! Mirror windows, forwarded writes and copies of dirty pages (R243 to R246, R595). -/

namespace Sys2Proof.Machine
open Sys2Proof

theorem tfind_tset_same {α : Type} (t : Tbl α) (k : Nat) (v : α) : tfind (tset t k v) k = some v := by
  induction t with
  | nil => simp [tset, tfind]
  | cons p t ih =>
    obtain ⟨j, w⟩ := p
    unfold tset
    split
    · simp [tfind]
    · split
      · simp [tfind]
      · next hne _ => simp [tfind, hne, ih]

/-! ## TWIN_MIRROR (R595) -/

/-- The window that a SET payload names, in a state. -/
def payWindow (v : Serving) (st : WinState) : Window := { start := pay v 8 8, length := pay v 16 8, bitmap := pay v 24 8, st := st }

/-- No check of SET refuses: whole MiB of DRAM, an aligned unsealed bitmap in DRAM outside the window, no window but the slot's own, and room for one more (R595). -/
structure WindowOk (v : Serving) (s : State) : Prop where
  others : otherWindows s v.target = []
  room : s.twin.windows.length < 8
  length : pay v 16 8 ≠ 0
  start : pay v 8 8 % 1048576 = 0
  whole : pay v 16 8 % 1048576 = 0
  inside : inDram (pay v 8 8) (pay v 16 8) = true
  total : pay v 16 8 ≤ 17179869184
  aligned : pay v 24 8 % 64 = 0
  bitmap : inDram (pay v 24 8) (pay v 16 8 / 32768) = true
  unsealed : meetsSealed s (pay v 24 8) (pay v 16 8 / 32768) = false
  apart : overlaps (pay v 24 8) (pay v 16 8 / 32768) (pay v 8 8) (pay v 16 8) = false

section
variable {v : Serving} {s : State}

/-- The operation that FUNCTION names, of a payload whose unused bytes are zero. -/
theorem twinMirrorBody_set (hslot : v.target < 8) (hfunction : pay v 0 1 = 0) (hzero : payZero v 1 8 = true) : twinMirrorBody v s = mirrorSet v s := by
  have hsmall : ¬ 8 ≤ v.target := Nat.not_le.mpr hslot
  simp [twinMirrorBody, hfunction, hzero, hsmall]

theorem twinMirrorBody_clear (hslot : v.target < 8) (hfunction : pay v 0 1 = 1) (hzero : payZero v 1 8 = true) : twinMirrorBody v s = mirrorClear v s := by
  have hsmall : ¬ 8 ≤ v.target := Nat.not_le.mpr hslot
  simp [twinMirrorBody, hfunction, hzero, hsmall]

theorem twinMirrorBody_resync (hall : v.target = 0xFFFF) (hfunction : pay v 0 1 = 2) (hzero : payZero v 1 8 = true) :
    twinMirrorBody v s = mirrorResync v s := by
  simp [twinMirrorBody, hfunction, hzero, hall]

/-- On a member that is not ACTIVE the window is INACTIVE and its bitmap zeroed. -/
theorem mirrorSet_inactive (h : WindowOk v s) (hrole : s.twin.role ≠ .active) : mirrorSet v s = (rc rcDone, fillBitmap (payWindow v .inactive) 0
    (modTwin s (fun x => { x with windows := tset x.windows v.target (payWindow v .inactive) }))) := by
  have hroom : ¬ 8 ≤ s.twin.windows.length := Nat.not_le.mpr h.room
  have htotal : ¬ 17179869184 < pay v 16 8 := Nat.not_lt.mpr h.total
  simp only [mirrorSet, h.length, h.start, h.whole, h.inside, htotal, h.aligned, h.bitmap, h.unsealed, h.apart, h.others, hroom, hrole,
    List.foldl_nil, List.any_nil, ne_eq, not_true_eq_false, Bool.false_eq_true, or_self, if_false, decide_false]
  rfl

/-- On the active it is TRACKED, with all its pages dirty and its bitmap filled. -/
theorem mirrorSet_tracked (h : WindowOk v s) (hrole : s.twin.role = .active) : mirrorSet v s = (rc rcDone, fillBitmap (payWindow v .tracked) 0xFF
    (modTwin s (fun x => { x with windows := tset x.windows v.target (payWindow v .tracked),
                                  dirty := x.dirty ++ (List.range (pay v 16 8 / 4096)).map (fun k => pay v 8 8 / 4096 + k) }))) := by
  have hroom : ¬ 8 ≤ s.twin.windows.length := Nat.not_le.mpr h.room
  have htotal : ¬ 17179869184 < pay v 16 8 := Nat.not_lt.mpr h.total
  simp only [mirrorSet, h.length, h.start, h.whole, h.inside, htotal, h.aligned, h.bitmap, h.unsealed, h.apart, h.others, hroom, hrole,
    List.foldl_nil, List.any_nil, ne_eq, not_true_eq_false, Bool.false_eq_true, or_self, if_false, decide_true, if_true]
  rfl

theorem mirrorClear_idle {w : Window} (hfind : tfind s.twin.windows v.target = some w) (hidle : windowBusy s w = false) :
    mirrorClear v s = (rc rcDone, dropWindow v.target w s) := by
  simp only [mirrorClear, hfind, hidle, Bool.false_eq_true, if_false]

/-- The resynchronization is under way, as a job. -/
theorem mirrorResync_starts (hactive : s.twin.role = .active) (hup : (portOf s 64).st = .up) (hhot : s.twin.partnerHot = true)
    (hidle : s.twin.resyncJob = none) :
    mirrorResync v s = (rc rcAccepted, modTwin (startJob v 0xFFFF s).2 (fun w => { w with resyncJob := some s.ferry.nextJob, copied := [] })) := by
  simp only [mirrorResync, hactive, hup, hhot, hidle, and_self, not_true_eq_false, if_false, Option.isSome_none, Bool.false_eq_true]
  rfl

end

/-- Settles O30, by what each operation of TWIN_MIRROR answers and does when its checks pass. -/
theorem mirrorWindowsAreSetAndCleared : Obligations.MirrorWindowsAreSetAndCleared := by
  unfold Obligations.MirrorWindowsAreSetAndCleared
  refine ⟨?setInactive, ?setTracked, ?clear, ?resync⟩
  case setInactive =>
    intro v s h hslot hfunction hzero hothers hroom hlength hstart hwhole hinside htotal haligned hbitmap hunsealed hapart hrole
    have hok : WindowOk v s := ⟨hothers, hroom, hlength, hstart, hwhole, hinside, htotal, haligned, hbitmap, hunsealed, hapart⟩
    exact ⟨_, served_next h ((twinMirrorBody_set hslot hfunction hzero).trans (mirrorSet_inactive hok hrole)), tfind_tset_same _ _ _, rfl⟩
  case setTracked =>
    intro v s h hslot hfunction hzero hothers hroom hlength hstart hwhole hinside htotal haligned hbitmap hunsealed hapart hrole
    have hok : WindowOk v s := ⟨hothers, hroom, hlength, hstart, hwhole, hinside, htotal, haligned, hbitmap, hunsealed, hapart⟩
    exact ⟨_, served_next h ((twinMirrorBody_set hslot hfunction hzero).trans (mirrorSet_tracked hok hrole)), tfind_tset_same _ _ _, rfl⟩
  case clear =>
    exact fun v w s h hslot hfunction hzero hfind hidle =>
      served_next h ((twinMirrorBody_clear hslot hfunction hzero).trans (mirrorClear_idle hfind hidle))
  case resync =>
    intro v s h hall hfunction hzero hactive hup hhot hidle
    exact ⟨_, served_next h ((twinMirrorBody_resync hall hfunction hzero).trans (mirrorResync_starts hactive hup hhot hidle)), rfl, rfl⟩

/-! ## Forwarded writes (R243, R246) -/

/-- The flits of a mirrored write join the Twin link's queue on LVC 0. -/
def sendMirrored (m : Mirrored) (s : State) : State :=
  modPort 64 (fun x => { x with txq := x.txq ++ (flitsOf (mirrorPacket s m)).map (fun f => (0, { f with at_ := s.time })) }) s

/-- The oldest write of a channel not yet sent is sent. -/
theorem mirrorForward_sends {c : Nat} {m : Mirrored} {s : State} (hfind : s.twin.queue.find? (fun m => m.channel == c && !m.sent) = some m)
    (hup : (portOf s 64).st = .up) (hroom : flitCount (mirrorPacket s m) ≤ roomOn (portOf s 64) 0) :
    mirrorForward c s = unhold c (mirrorLag (modTwin (sendMirrored m s) (fun w => { w with queue := markSent w.queue c }))) := by
  simp only [mirrorForward, forwardNext, hfind, hup, hroom, and_self, if_true]
  rfl

/-- The answer is taken, and the channel's oldest sent write waits for it no more. -/
def endOldest (c : Nat) (r : List (Nat × Status)) (s : State) : State :=
  modTwin s (fun w => { w with answers := r, queue := dropFirst (fun m => m.channel == c && m.sent) w.queue })

section
variable {c : Nat} {st : Status} {r : List (Nat × Status)} {m : Mirrored} {s : State} (hanswer : s.twin.answers = (c, st) :: r)
  (hfind : s.twin.queue.find? (fun m => m.channel == c && m.sent) = some m)
include hanswer hfind

theorem mirrorCompletion_ends : mirrorCompletion s = clearDone (mirrorLag (mirrorAnswer m
    (if st = .ok then cleanCopied m (endOldest c r s) else trackedEntry (markDirty m.addr (endOldest c r s))))) := by
  simp only [mirrorCompletion, hanswer, mirrorEnded, modTwin_twin, hfind]
  rfl

end

/-- A write that copies no page makes none clean. -/
theorem cleanCopied_write {m : Mirrored} (s : State) (h : m.copy = false) : cleanCopied m s = s := by
  simp only [cleanCopied, h, Bool.false_and, Bool.false_eq_true, if_false]

/-! ## Copies of dirty pages (R245) -/

/-- The resynchronization has ended: TRACKED windows are MIRRORED. -/
def resynced (s : State) : State :=
  modTwin s (fun w => { w with resyncJob := none, copied := [],
                               windows := w.windows.map (fun x => (x.1, { x.2 with st := if x.2.st = .tracked then .mirrored else x.2.st })) })

theorem not_tracked_of_resynced (s : State) : ∀ w ∈ (resynced s).twin.windows, w.2.st ≠ .tracked := by
  intro w hw
  obtain ⟨x, -, rfl⟩ := List.mem_map.mp hw
  show (if x.2.st = .tracked then WinState.mirrored else x.2.st) ≠ .tracked
  by_cases h : x.2.st = .tracked
  · rw [if_pos h]
    nofun
  · rwa [if_neg h]

theorem resyncPageCopy_ends {j : Nat} {s : State} (hjob : s.twin.resyncJob = some j) (hclean : s.twin.dirty = []) :
    resyncPageCopy s = endJob j rcDone [] (raiseEv 471 3 2 [] (resynced s)) := by
  simp only [resyncPageCopy, hjob, hclean, if_true]
  rfl

/-- The 16 pieces of a page are queued. -/
def queuePage (page : Nat) (s : State) : State :=
  modTwin s (fun w => { w with copied := w.copied ++ [page], queue := w.queue ++ (List.range 16).map (fun i => copyPiece page i s) })

theorem resyncPageCopy_copies {j page : Nat} {s : State} (hjob : s.twin.resyncJob = some j) (hdirty : s.twin.dirty ≠ [])
    (hfind : s.twin.dirty.find? (fun p => !(s.twin.copied.contains p) && !(pageQueued s p)) = some page) (hroom : mirrorFlits s + 48 ≤ 1024) :
    resyncPageCopy s = mirrorLag (queuePage page s) := by
  simp only [resyncPageCopy, hjob, if_neg hdirty, hfind, if_pos hroom]
  rfl

/-- Settles O31, by the rules above for forwarded writes, the partner's answers and copies, while the clocks of Twin run. -/
theorem mirroredWritesAreForwardedAndCompleted : Obligations.MirroredWritesAreForwardedAndCompleted := by
  unfold Obligations.MirroredWritesAreForwardedAndCompleted
  refine ⟨?forward, ?ok, ?failed, ?answer, ?ends, ?copies⟩
  case forward =>
    intro c m s hclock hfind hup hroom
    refine ⟨_, congrArg Host.Outcome.next ((whileClocked_on hclock).trans (mirrorForward_sends hfind hup hroom)), rfl, rfl, rfl, ?_⟩
    rw [portOf_modTwin, sendMirrored, portOf_modPort]
  case ok =>
    intro c r m s hanswer hfind hwrite
    have hends := mirrorCompletion_ends hanswer hfind
    rw [if_pos rfl, cleanCopied_write _ hwrite] at hends
    exact ⟨_, congrArg Host.Outcome.next hends, rfl, rfl, rfl, rfl⟩
  case failed =>
    intro c st r m s hanswer hbad hfind
    have hends := mirrorCompletion_ends hanswer hfind
    rw [if_neg hbad] at hends
    exact ⟨_, congrArg Host.Outcome.next hends, rfl, rfl⟩
  case answer => exact fun m s hwaits => if_pos hwaits
  case ends =>
    intro j s hclock hjob hclean
    exact ⟨_, congrArg Host.Outcome.next ((whileClocked_on hclock).trans (resyncPageCopy_ends hjob hclean)), rfl, not_tracked_of_resynced s⟩
  case copies =>
    intro j page s hclock hjob hdirty hfind hroom
    exact ⟨_, congrArg Host.Outcome.next ((whileClocked_on hclock).trans (resyncPageCopy_copies hjob hdirty hfind hroom)), rfl, rfl, rfl⟩

end Sys2Proof.Machine
end

section
/-! The standby applies the state that the active mirrors to it (R242, Table 6.10). -/

namespace Sys2Proof.Machine
open Sys2Proof

/-! ## At the hot standby -/

/-- What a hot standby makes of an item of Table 6.10. -/
def applyItem (item : MirrorItem) (s : State) : State :=
  match item with
  | .routes ni table => if epListed ni then applyRoutes ni table s else s
  | .calendar img => applyCalendar img s
  | .farTable t => modDelta s (fun d => { d with far := t, farOld := t, farPending := [] })
  | .log c o q r tb => addLog { ch := c, opcode := o, seq := q, code := r, timebase := tb } s
  | .keySlot kid m key => if s.twin.mirrorKeys ∧ kidTarget kid then setSlot kid (if key.isEmpty then {} else { st := .installed, sealedMode := m, key := key }) s else s
  | .linkKey l d k key salt => if s.twin.mirrorKeys ∧ l ≤ 64 ∧ d < 2 ∧ k < 2 then modLinkSlot l d k (fun _ => { key := key, salt := salt }) s else s

section
variable {s : State} (hhot : s.twin.role = .standbyHot) (hup : (portOf s 64).st = .up)
include hhot hup

theorem stateMirrorApply_applies (item : MirrorItem) : stateMirrorApply item true s = applyItem item s := by
  simp only [stateMirrorApply, hhot, hup, reduceCtorEq, false_and, ne_eq, not_true_eq_false, or_self, if_false]
  cases item <;> rfl

theorem stateMirrorApply_reports (item : MirrorItem) : stateMirrorApply item false s = raiseEv 471 1 2 [] s := by
  simp only [stateMirrorApply, hhot, hup, reduceCtorEq, false_and, ne_eq, not_true_eq_false, or_self, if_false, Bool.false_eq_true, not_false_eq_true,
    if_true]
  rfl

end

/-- The flows of a calendar image (R147). -/
def imageFlows (img : List Byte) : List Flow := (recordOffsets img 32 (leAt img 6 2)).1.map (flowOf img)

theorem applyCalendar_commits {img : List Byte} {s : State} (hidle : s.sluice.commitB = none) (hgood : calendarFault s img = none) :
    applyCalendar img s = startCommit .command (imageFlows img) (braidNow s) (modSluice s (fun y => { y with shadow := imageFlows img })) := by
  simp only [applyCalendar, hidle, hgood, Option.isSome_none, Bool.false_eq_true, if_false]
  rfl

theorem applyCalendar_waits {img : List Byte} {b : Nat} {s : State} (hcommit : s.sluice.commitB = some b) :
    applyCalendar img s = modTwin s (fun w => { w with mirrorCal := some img }) := by
  simp only [applyCalendar, hcommit, Option.isSome_some, if_true]

/-! ## At the active -/

/-- The partner's answer takes the item off the messages sent; one it could not apply raises EV471 as well. -/
theorem stateMirrorApply_answered {item : MirrorItem} {s : State} (applied : Bool) (hactive : s.twin.role = .active) (hup : (portOf s 64).st = .up)
    (hsent : s.twin.outbox.contains (.item item) = true) : stateMirrorApply item applied s =
      if applied then modTwin s (fun w => { w with outbox := w.outbox.erase (.item item) })
      else raiseEv 471 1 2 [] (modTwin s (fun w => { w with outbox := w.outbox.erase (.item item) })) := by
  simp only [stateMirrorApply, hactive, hup, and_self, if_true, mirrorAnswered, hsent]
  rfl

/-- Settles O32, item by item at the standby, and by the answers at the active. -/
theorem theStandbyAppliesMirroredState : Obligations.TheStandbyAppliesMirroredState := by
  unfold Obligations.TheStandbyAppliesMirroredState
  refine ⟨?routes, ?calendar, ?calendarWaits, ?farTable, ?log, ?keySlot, ?linkKey, ?fails, ?answered⟩
  case routes =>
    intro ni x s hhot hup hlisted
    exact congrArg Host.Outcome.next ((stateMirrorApply_applies hhot hup _).trans (if_pos hlisted))
  case calendar =>
    intro img s hhot hup hidle hgood
    exact ⟨_, congrArg Host.Outcome.next ((stateMirrorApply_applies hhot hup _).trans (applyCalendar_commits hidle hgood)), rfl, rfl, rfl, rfl⟩
  case calendarWaits =>
    intro img b s hhot hup hcommit
    exact ⟨_, congrArg Host.Outcome.next ((stateMirrorApply_applies hhot hup _).trans (applyCalendar_waits hcommit)), rfl, rfl⟩
  case farTable => exact fun x s hhot hup => ⟨_, congrArg Host.Outcome.next (stateMirrorApply_applies hhot hup _), rfl, rfl, rfl⟩
  case log => exact fun c o q r tb s hhot hup => congrArg Host.Outcome.next (stateMirrorApply_applies hhot hup _)
  case keySlot =>
    intro kid m key s hhot hup hkeys hkid
    exact congrArg Host.Outcome.next ((stateMirrorApply_applies hhot hup _).trans (if_pos ⟨hkeys, hkid⟩))
  case linkKey =>
    intro l d k salt key s hhot hup hkeys hl hd hk
    exact congrArg Host.Outcome.next ((stateMirrorApply_applies hhot hup _).trans (if_pos ⟨hkeys, hl, hd, hk⟩))
  case fails => exact fun i s hhot hup => congrArg Host.Outcome.next (stateMirrorApply_reports hhot hup i)
  case answered =>
    intro i s hactive hup hsent
    exact ⟨_, congrArg Host.Outcome.next (stateMirrorApply_answered true hactive hup hsent), rfl,
      congrArg Host.Outcome.next (stateMirrorApply_answered false hactive hup hsent)⟩

end Sys2Proof.Machine
end

section
/-! Engines: bundles and the faults found in them, results that land, completions, interrupts, exceptions, the debugger's halt (R254, R263, R279, R285, R287, R288, R292, R294, R298, R299, R541). -/

namespace Sys2Proof.Machine
open Sys2Proof

/-- While the clocks of its domain run, a step answers the state it makes. -/
theorem next_whileClocked {d : Nat} {s t u : State} (hclock : clockStopped s d = false) (h : t = u) :
    (.next (whileClocked d s t) : Host.Outcome State Fault Refusal) = .next u :=
  congrArg Host.Outcome.next ((whileClocked_on hclock).trans h)

/-! ## Bundles (R254, R279, R292) -/

section
variable {k x y z : Nat} {s t : State} (hissue : canIssue s k = true) (hstop : (engOf s k).stopReq = false)
  (hfetch : fetchBundle k s = (some (x, y, z), t))
include hissue hstop hfetch

theorem bundleIssue_of_fault {c slot a : Nat} (hfault : bundleFault s (engOf s k) x y z = some (c, slot, a)) :
    bundleIssue k s = setFault k c slot a t := by
  simp only [bundleIssue, hissue, hstop, hfetch, hfault, Bool.false_and, Bool.false_eq_true, if_true, if_false]

/-- A bundle without fault issues, unless it needs the memory that port A has just given to a decision word (R279). -/
theorem bundleIssue_of_no_fault (hfault : bundleFault s (engOf s k) x y z = none) :
    bundleIssue k s = if decConflict (engOf s k) y then modEng k (fun u => { u with stall := some u.r.cyc }) t else issueBundle k x y z t := by
  simp only [bundleIssue, hissue, hstop, hfetch, hfault, Bool.false_and, Bool.false_eq_true, if_true, if_false]

end

/-! ## Results and decision words (R263, R279) -/

theorem operationResult_lands {k : Nat} {s : State} (hfree : isFrozen (engOf s k) = false) (hdue : dueNow (engOf s k) = true) :
    operationResult k s = modEng k landDue s := if_pos (by rw [hfree, hdue]; rfl)

/-- The oldest decision word, once due, goes to its word of data memory, and port A's access is noted. -/
theorem decisionWrite_stores {k a : Nat} {w : BitVec 64} {rest : List (Nat × Nat × BitVec 64)} {s : State}
    (hwords : (engOf s k).decWords = (0, a, w) :: rest) (hfree : isFrozen (engOf s k) = false) :
    decisionWrite k s = modEng k (fun t => { t with decWords := rest, decAt := some t.r.cyc })
      (writeWords (dmBase k + a / 8 * 8) (leBytes 8 w.toNat) (fun _ => false) (noteA k ((dmBase k + a / 8 * 8) / 8) s)) := by
  simp only [decisionWrite, putDecision, hwords, hfree, and_self, if_true]

/-! ## Completions (R298, R299) -/

/-- What every end of an RLD or RATOM leaves of its engine: no freeze, and RLAST with STATUS and WAIT. -/
def endRemote (c : Completion) (e : Engine) : Engine :=
  { e with frozen := none, r := { e.r with rlast := statusCode c.status * 65536 + c.wait } }

section
variable {k gid reg pc addr order : Nat} {wide ds : Bool} {c : Completion} {s t : State}
  (hfrozen : (engOf s k).frozen = some (.remote gid reg wide pc addr order ds)) (htake : takeCompletion gid s = some (c, t))
include hfrozen htake

/-- With OK the value comes to its register, that of a wide load to both. -/
theorem rldCompletion_ok (hok : c.status = .ok) : rldCompletion k s = modEng k (fun e => { endRemote c e with
      inFlight := e.inFlight ++ [{ left := 0, dest := .g reg, val := BitVec.ofNat 160 (leAt c.data 0 (if wide then 8 else 4)), order := order }] ++
        (if wide then [{ left := 0, dest := .g (reg + 1), val := BitVec.ofNat 160 (leAt c.data 0 8 / 2 ^ 32), order := order }] else []) }) t := by
  cases wide <;> simp only [rldCompletion, hfrozen, htake, hok, endRemote, Bool.false_eq_true, if_true, if_false]

/-- Any other STATUS makes POISON or BUS the pending exception. -/
theorem rldCompletion_failed (hbad : c.status ≠ .ok) : rldCompletion k s = modEng k (fun e => { endRemote c e with
      pend := some { cause := if c.status = .okPoison then 6 else 7, slot := 1, status := statusCode c.status, pc := pc, epc := e.pc, addr := addr, dslot := ds } }) t := by
  simp only [rldCompletion, hfrozen, htake, hbad, endRemote, if_false]

end

theorem ticketCompletion_ends {k ticket : Nat} {c : Completion} {s t : State} (hbusy : (tget (engOf s k).tickets {} ticket).busy = true)
    (htake : takeCompletion (tget (engOf s k).tickets {} ticket).gid s = some (c, t)) :
    ticketCompletion k ticket s = endTicketFreeze k ticket
      (modEng k (fun e => { e with tickets := tset e.tickets ticket { tget (engOf s k).tickets {} ticket with busy := false, status := c.status, wait := c.wait } })
        (if (tget (engOf s k).tickets {} ticket).get then storeParts k (tget (engOf s k).tickets {} ticket).localAddr c t else t)) := by
  simp only [ticketCompletion, hbusy, htake, if_true]

/-! ## Interrupts and exceptions (R287, R288, R292, R294) -/

theorem interruptEntry_enters {k : Nat} {s : State} (hst : (engOf s k).st = .running) (hclean : cleanAt (engOf s k) = true)
    (hirq : irqPending (engOf s k) = true) (hhalt : (engOf s k).haltReq = false) (hstep : (engOf s k).stepping = false)
    (hstop : (engOf s k).stopReq = false) (hpend : (engOf s k).pend = none) :
    interruptEntry k s = modEng k enterInterrupt (writeDecisions k s) := by
  simp [interruptEntry, hst, hclean, hirq, hhalt, hstep, hstop, hpend]

/-- The engine once the decision words are written and every operation in flight has completed, the exception taken up. -/
def drainedFor (k : Nat) (s : State) : Engine := drain { engOf (writeDecisions k s) k with pend := none }

/-- An engine with the registers that tell of an exception; a DOUBLE one has cause 9. -/
def noteException (p : PendExc) (e : Engine) : Engine :=
  { e with excInfo := excWord e p (if bit (stReg e) 7 then 9 else p.cause), excPc := p.pc % 8192,
           excAddr := if p.cause = 3 ∨ p.cause = 4 ∨ p.cause = 6 ∨ p.cause = 7 then p.addr else 0 }

theorem exceptionEntry_of_pending {k : Nat} {p : PendExc} {s : State} (hpend : (engOf s k).pend = some p)
    (hst : (engOf s k).st = .running ∨ (engOf s k).st = .wfi) (hfree : isFrozen (engOf s k) = false) :
    exceptionEntry k s =
      if bit (stReg (drainedFor k s)) 7 || (drainedFor k s).excHalt then
        engEv k (if bit (stReg (drainedFor k s)) 7 then 3 else 1) 2 (modEng k (fun _ => { setSrRaw 24 p.epc (noteException p (drainedFor k s)) with
          st := .halted, pc := p.epc, branch := none, retSt := none, pend := none }) (writeDecisions k s))
      else modEng k (fun _ => enterException p (noteException p (drainedFor k s))) (writeDecisions k s) := by
  unfold exceptionEntry
  dsimp only
  rw [hpend]
  exact if_pos ⟨hst, hfree⟩

/-- Settles O33, by the rules above, one for each way such a step goes. -/
theorem enginesIssueAndTakeExceptions : Obligations.EnginesIssueAndTakeExceptions := by
  unfold Obligations.EnginesIssueAndTakeExceptions
  refine ⟨?issues, ?freezes, ?faults, ?lands, ?decision, ?remote, ?ticket, ?line, ?interrupt, ?exception, ?debug⟩
  case issues =>
    intro k x y z s t hissue hstop hfetch hfault hconflict
    exact congrArg Host.Outcome.next ((bundleIssue_of_no_fault hissue hstop hfetch hfault).trans (if_neg (Bool.eq_false_iff.mp hconflict)))
  case freezes =>
    intro k x y z s t hissue hstop hfetch hfault hconflict
    exact congrArg Host.Outcome.next ((bundleIssue_of_no_fault hissue hstop hfetch hfault).trans (if_pos hconflict))
  case faults =>
    intro k x y z c slot a s t hissue hstop hfetch hfault
    exact congrArg Host.Outcome.next (bundleIssue_of_fault hissue hstop hfetch hfault)
  case lands =>
    intro k s hclock hfree hdue
    exact ⟨_, next_whileClocked hclock (operationResult_lands hfree hdue), engOf_modEng .., modEng_others⟩
  case decision =>
    intro k a w rest s hclock hwords hfree
    exact next_whileClocked hclock (decisionWrite_stores hwords hfree)
  case remote =>
    intro k gid reg pc addr order wide ds c s t hclock hfrozen htake
    by_cases hok : c.status = .ok
    · refine ⟨_, next_whileClocked hclock (rldCompletion_ok hfrozen htake hok), ?_⟩
      rw [engOf_modEng]
      exact ⟨rfl, rfl, fun _ => ⟨rfl, rfl⟩, fun hbad => absurd hok hbad⟩
    · refine ⟨_, next_whileClocked hclock (rldCompletion_failed hfrozen htake hok), ?_⟩
      rw [engOf_modEng]
      exact ⟨rfl, rfl, fun h => absurd h hok, fun _ => ⟨rfl, rfl⟩⟩
  case ticket =>
    intro k ticket c s t hbusy htake
    refine ⟨_, congrArg Host.Outcome.next (ticketCompletion_ends hbusy htake), ?_⟩
    rw [engOf_modEng, tget_tset_same]
    exact ⟨rfl, rfl, rfl, rfl⟩
  case line => exact fun k line s hk hline => congrArg Host.Outcome.next (if_pos ⟨hk, hline⟩)
  case interrupt =>
    intro k s hclock hst hclean hirq hhalt hstep hstop hpend
    exact ⟨_, next_whileClocked hclock (interruptEntry_enters hst hclean hirq hhalt hstep hstop hpend), engOf_modEng .., modEng_others⟩
  case exception =>
    intro k p s hclock hpend hst hfree
    have hentry := exceptionEntry_of_pending hpend hst hfree
    refine ⟨fun hsingle hgo => ?_, fun hhalts => ?_⟩
    · have hgoes : ¬ (bit (stReg (drainedFor k s)) 7 || (drainedFor k s).excHalt) = true := by
        rw [Bool.or_eq_true, not_or]
        exact ⟨Bool.eq_false_iff.mp hsingle, Bool.eq_false_iff.mp hgo⟩
      exact next_whileClocked hclock (hentry.trans (if_neg hgoes))
    · exact next_whileClocked hclock (hentry.trans (if_pos ((Bool.or_eq_true ..).mpr hhalts)))
  case debug => exact fun k s hhalt hwfi => congrArg Host.Outcome.next (if_pos ⟨hhalt, .inl hwfi⟩)

end Sys2Proof.Machine
end

section
/-! Engine control registers, the quad mover, port B and the watchdogs (R304, R305, R308 to R311, R313, R520, R521, Tables 7.13 and 7.17). -/

namespace Sys2Proof.Machine
open Sys2Proof

/-! ## Registers written over Braid (Tables 7.13, 7.17, R520) -/

section
variable {pid k v : Nat} {d : Delivered} {s : State}

theorem engineReset_resets (hwrite : engWrite s pid 0x1000 0x100 0 = some (d, k, v)) (hreset : bit v 1 = true) :
    engineReset pid s = writeDone d (resetEngine k s) := by
  simp only [engineReset, hwrite, hreset, if_true]

theorem runWrite_applies (hwrite : engWrite s pid 0x1000 0x100 0 = some (d, k, v)) (hreset : bit v 1 = false) :
    runWrite pid s = writeDone d (modEng k (applyCtrl v) s) := by
  simp only [runWrite, hwrite, hreset, Bool.false_eq_true, if_false]

theorem applyCtrl_of_reset {e : Engine} (hst : e.st = .reset) (hrun : bit v 0 = true) :
    applyCtrl v e = { e with excHalt := bit v 2, runBit := true, st := .running, pc := e.start } := by
  simp only [applyCtrl, hst, hrun, if_true]

theorem qmDescWrite_starts (hwrite : engWrite s pid 0x2000 0x40 4 = some (d, k, v)) (hidle : (engOf s k).mover.st ≠ .run) :
    qmDescWrite pid s = writeDone d (startMover k (v % 2 ^ 32) s) := by
  simp only [qmDescWrite, hwrite, hidle, if_false]

theorem abortWrite_aborts (hwrite : engWrite s pid 0x2000 0x40 8 = some (d, k, v)) (habort : bit v 0 = true) (hrun : (engOf s k).mover.st = .run) :
    abortWrite pid s = writeDone d (quadGo (k / 4) (modEng k (fun e => { e with mover := { e.mover with abort := true } }) s)) := by
  simp only [abortWrite, hwrite, habort, hrun, and_self, if_true]

theorem kickWrite_kicks (hwrite : engWrite s pid 0x3000 0x10 0 = some (d, k, v)) (hkey : v % 256 = 0xA5) :
    kickWrite pid s = writeDone d { s with rill := s.rill ++ [.kick k] } := by
  simp only [kickWrite, hwrite, hkey, if_true]

end

/-! ## The quad mover (R308 to R310) -/

/-- The channel with the descriptor at `desc` read into it (Table 7.11). -/
def loadDescriptor (s : State) (k : Nat) (m : Mover) : Mover :=
  let l := mgetN s.mems.mem (dmBase k + m.desc) 48
  { m with loaded := true, src := leAt l 0 8, dst := leAt l 8 8, xlen := leAt l 0x10 4, ycnt := leAt l 0x14 2, flags := leAt l 0x16 2, sstride := sext 32 (leAt l 0x18 4), dstride := sext 32 (leAt l 0x1C 4), next := leAt l 0x20 4, status := descStatus s k m.desc }

theorem descriptorStart_loads {k : Nat} {s : State} (hrun : (engOf s k).mover.st = .run) (hloaded : (engOf s k).mover.loaded = false)
    (hpaused : (engOf s k).mover.paused = false) (hpwr : memPwr s (8 + k / 4) = .on) :
    ∃ t, descriptorStart k s = quadGo (k / 4) (modEng k (fun e => { e with mover := loadDescriptor s k (engOf s k).mover }) t) :=
  ⟨_, if_pos ⟨hrun, by simp [hloaded], by simp [hpaused], hpwr⟩⟩

theorem moverPieceCompletion_ends {k : Nat} {p : Piece} {c : Completion} {s t : State}
    (hfind : (engOf s k).mover.pieces.find? (fun p => s.braid.completions.any (fun c => c.gid == p.gid && hasCome s c)) = some p)
    (htake : takeCompletion p.gid s = some (c, t)) : moverPieceCompletion k s = quadGo (k / 4) (pieceDone k p c t) := by
  simp only [moverPieceCompletion, hfind, htake]

/-! ## Port B (R304, R305) -/

theorem portBAccess_serves {pid : Nat} {coll : Option Nat} {errs : List WordErr} {d : Delivered} {s : State} (hfind : portBFind s pid = some d)
    (hfirst : s.mems.retries.any (fun r => r.pid == pid) = false) (hpwr : memPwr s (8 + (d.ep - 0x40)) = .on) (hat : d.at_ ≤ s.time) :
    portBAccess pid coll errs s = portBServe d (d.pkt.addr / 8) coll (addWordErrs errs s) := by
  simp only [portBAccess, hfind, hfirst, hpwr, hat, and_self, Bool.false_eq_true, if_true, if_false]

/-- A write or ATOM that collides at word `w` of data memory waits to retry, with the words before `w` written. -/
theorem portBServe_collides {d : Delivered} {lo w : Nat} {s : State} (hop : d.pkt.op ≠ .rd) (hdata : inIm d.pkt.addr = false)
    (hlo : lo ≤ w) (hhi : 8 * w < d.pkt.addr + d.pkt.len) :
    portBServe d lo (some w) s = modMems (if d.pkt.op = .atom then s else portBPut d lo w s)
      (fun m => { m with retries := m.retries ++ [{ pid := d.pkt.pid, word := w, at_ := s.time }] }) := by
  simp only [portBServe, hop, hdata, hlo, hhi, and_self, decide_true, Bool.not_false, Bool.and_self, Option.getD_some, if_true, if_false]

/-- A WR that collides at none of its words is written whole. -/
theorem portBServe_writes {d : Delivered} {lo : Nat} {coll : Option Nat} {s : State} (hop : d.pkt.op = .wr) (hdata : inIm d.pkt.addr = false)
    (hfree : ∀ w, coll = some w → w < lo ∨ d.pkt.addr + d.pkt.len ≤ 8 * w) :
    portBServe d lo coll s = portBAnswer d .ok [] [] (portBPut d lo ((d.pkt.addr + d.pkt.len + 7) / 8) s) := by
  cases coll with
  | none => simp [portBServe, hop, hdata]
  | some w =>
    have hmisses : ¬ (lo ≤ w ∧ 8 * w < d.pkt.addr + d.pkt.len) := by
      have := hfree w rfl
      omega
    simp [portBServe, hop, hdata, hmisses]

/-- The retry of a request is over. -/
def endRetry (pid : Nat) (s : State) : State := modMems s (fun m => { m with retries := m.retries.filter (fun x => x.pid != pid) })

section
variable {pid : Nat} {coll : Option Nat} {d : Delivered} {r : BRetry} {s : State} (hfind : portBFind s pid = some d)
  (hretry : s.mems.retries.find? (fun r => r.pid == pid) = some r) (hdue : r.at_ + engCycles s (d.ep - 0x40) r.attempts ≤ s.time)
include hfind hretry hdue

theorem portBRetry_serves (hfree : coll ≠ some r.word) : portBRetry pid coll s = portBServe d r.word coll (endRetry pid s) := by
  simp only [portBRetry, hfind, hretry, Nat.not_lt.mpr hdue, hfree, if_false, endRetry]

/-- A further collision is counted; the fourth ends the request COLLIDE. -/
theorem portBRetry_collides (hcoll : coll = some r.word) : portBRetry pid coll s =
    if r.attempts < 3 then modMems s (fun m => { m with retries := m.retries.map (fun x => if x.pid = pid then { x with attempts := x.attempts + 1 } else x) })
    else portBAnswer d .collide [] [] (endRetry pid s) := by
  simp only [portBRetry, hfind, hretry, Nat.not_lt.mpr hdue, hcoll, if_true, if_false, endRetry]

end

/-! ## Watchdogs (R521) -/

@[simp] theorem wdtOf_modWdt (k : Nat) (f : Wdt → Wdt) (s : State) : wdtOf (modWdt k f s) k = f (wdtOf s k) := by
  simp [wdtOf, modWdt, modTime]

theorem watchdogWarn_warns {k : Nat} {s : State} (harmed : (wdtOf s k).armed = true) (hwarned : (wdtOf s k).warned = false)
    (hkicked : (wdtOf s k).kicked = false) (hpaused : (wdtOf s k).paused = false) (hhalf : 2 * (wdtOf s k).count ≤ (wdtOf s k).timeout) :
    watchdogWarn k s = raiseEv 432 1 1 (leBytes 1 k) (modWdt k (fun x => { x with warned := true }) s) :=
  if_pos (by simp [harmed, hwarned, hkicked, hpaused, hhalf])

theorem watchdogExpiry_acts {k : Nat} {s : State} (harmed : (wdtOf s k).armed = true) (hcount : (wdtOf s k).count = 0)
    (hkicked : (wdtOf s k).kicked = false) (hpaused : (wdtOf s k).paused = false) :
    watchdogExpiry k s = raiseEv 432 2 (if (wdtOf s k).action = 3 then 3 else 2) (leBytes 1 k)
      (if (wdtOf s k).action = 2 then resetEngine k (modWdt k (fun x => { x with armed := false }) s) else modWdt k (fun x => { x with armed := false }) s) :=
  if_pos (by simp [harmed, hcount, hkicked, hpaused])

/-- Settles O34, by the rules above for register writes, the mover, port B and the watchdogs. -/
theorem engineControlMoverAndPortB : Obligations.EngineControlMoverAndPortB := by
  unfold Obligations.EngineControlMoverAndPortB
  refine ⟨?reset, ?run, ?desc, ?abort, ?kick, ?start, ?piece, ?access, ?collides, ?writes, ?retry, ?warn, ?expiry⟩
  case reset => exact fun pid k v d s hwrite hreset => congrArg Host.Outcome.next (engineReset_resets hwrite hreset)
  case run =>
    intro pid k v d s hwrite hreset hst hrun
    refine ⟨_, congrArg Host.Outcome.next (runWrite_applies hwrite hreset), ?_⟩
    rw [engOf_modEng, applyCtrl_of_reset hst hrun]
    exact ⟨rfl, rfl, rfl, modEng_others⟩
  case desc =>
    intro pid k v d s hwrite hidle
    exact ⟨_, congrArg Host.Outcome.next (qmDescWrite_starts hwrite hidle), congrArg Engine.mover (engOf_modEng ..)⟩
  case abort =>
    intro pid k v d s hwrite habort hrun
    exact ⟨_, congrArg Host.Outcome.next (abortWrite_aborts hwrite habort hrun), congrArg Engine.mover (engOf_modEng ..)⟩
  case kick => exact fun pid k v d s hwrite hkey => congrArg Host.Outcome.next (kickWrite_kicks hwrite hkey)
  case start =>
    intro k s hclock hrun hloaded hpaused hpwr
    obtain ⟨t, hstart⟩ := descriptorStart_loads hrun hloaded hpaused hpwr
    refine ⟨_, next_whileClocked hclock hstart, ?_⟩
    rw [engOf_modEng]
    exact ⟨rfl, rfl, rfl, rfl, rfl, rfl⟩
  case piece => exact fun k p c s t hclock hfind htake => next_whileClocked hclock (moverPieceCompletion_ends hfind htake)
  case access =>
    exact fun pid coll errs d s hfind hfirst hpwr hat => congrArg Host.Outcome.next (portBAccess_serves hfind hfirst hpwr hat)
  case collides => exact fun w d s hop hdata hlo hhi => portBServe_collides hop hdata hlo hhi
  case writes => exact fun d coll s hop hdata hfree => portBServe_writes hop hdata hfree
  case retry =>
    intro pid coll d r s hfind hretry hdue
    refine ⟨fun hfree => ?_, fun hcoll hfew => ?_, fun hcoll hlast => ?_⟩
    · exact congrArg Host.Outcome.next (portBRetry_serves hfind hretry hdue hfree)
    · exact congrArg Host.Outcome.next ((portBRetry_collides hfind hretry hdue hcoll).trans (if_pos hfew))
    · exact congrArg Host.Outcome.next ((portBRetry_collides hfind hretry hdue hcoll).trans (if_neg (Nat.not_lt.mpr hlast)))
  case warn =>
    intro k s harmed hwarned hkicked hpaused hhalf
    exact ⟨_, congrArg Host.Outcome.next (watchdogWarn_warns harmed hwarned hkicked hpaused hhalf), wdtOf_modWdt ..⟩
  case expiry =>
    intro k s harmed hcount hkicked hpaused
    exact ⟨_, congrArg Host.Outcome.next (watchdogExpiry_acts harmed hcount hkicked hpaused), wdtOf_modWdt ..⟩

end Sys2Proof.Machine
end

section
/-! DRAM channels: requests, accesses, rows, refresh, self-refresh, retraining, training, lost lines, traffic windows (R325, R331, R333, R337, R339, R340, R342, R343, R345, R346, R347, R348, R353, R360). -/

namespace Sys2Proof.Machine
open Sys2Proof

/-! ## Requests and accesses (R325, R327, R333) -/

section
variable {c pid ch loc : Nat} {d : Delivered} {s : State} (hfind : inboxFind s (0x10 + c) pid = some d)
  (hdecode : dramDecode s.dram.map d.pkt.addr = some (ch, loc)) (hchan : c < 16) (hactive : (dchOf s c).pwr = .active)
  (hhold : (dchOf s c).hold.length < 16) (hfirst : firstOfSource s d = true)
include hfind hdecode hchan hactive hhold hfirst

theorem dramRequestAccept_refuses {st : Status} (hrefusal : dramRefusal s c d.pkt loc = some st) :
    dramRequestAccept c pid s = respondInbox d 20 st [] s := by
  simp only [dramRequestAccept, hfind, hdecode, hchan, hactive, hhold, hfirst, and_self, if_true, hrefusal]

theorem dramRequestAccept_accepts (hrefusal : dramRefusal s c d.pkt loc = none) (hroom : dramRoom s c d.pkt (requestLines d.pkt loc) = true)
    (hfree : (requestLines d.pkt loc).any (fun x => lineHeld s c x.2.1) = false) :
    dramRequestAccept c pid s = acceptRequest c d loc s := by
  simp only [dramRequestAccept, hfind, hdecode, hchan, hactive, hhold, hfirst, and_self, if_true, hrefusal, hroom, hfree, Bool.not_false, Bool.and_self]

end

/-- Where no sealed access waits, no counter block is asked for. -/
theorem dramAccessIssue_issues {c : Nat} {e : DEntry} {s : State} (draw : Nat) (hactive : (dchOf s c).pwr = .active)
    (hplain : ∀ x ∈ (dchOf s c).rq ++ (dchOf s c).wq, kidSealed s x.kid = false) (hnext : nextAccess s c = some e) :
    dramAccessIssue c draw s = issueEntry c e draw s := by
  have hnone : ((dchOf s c).rq ++ (dchOf s c).wq).filter (fun e => kidSealed s e.kid) = [] :=
    List.filter_eq_nil_iff.mpr fun x hx => Bool.eq_false_iff.mp (hplain x hx)
  simp only [dramAccessIssue, hactive, if_true, hnone, forAll, List.foldl_nil, hnext]

/-- The access read first is over, with the upsets it met unless the queues hold all bytes asked for. -/
def readAccess (c : Nat) (errs : List LineErr) (a : DAccess) (r : List DAccess) (s : State) : State :=
  let t := modDch c (fun h => { h with inProgress := r }) s
  if covered a.e then t else upsetLine c a.e.line errs t

theorem dramReadComplete_demand {c : Nat} {a : DAccess} {r : List DAccess} {s : State} (errs : List LineErr)
    (hfront : (dchOf s c).inProgress = a :: r) (hkind : a.e.kind = .read) : dramReadComplete c errs s =
      finishLine c a.e a.t (observed .demand c a (readAccess c errs a r s)).1.st (askedBytes a.e (observed .demand c a (readAccess c errs a r s)).1.data)
        (observed .demand c a (readAccess c errs a r s)).1.verified (observed .demand c a (readAccess c errs a r s)).2 := by
  simp only [dramReadComplete, hfront, hkind]
  rfl

/-! ## Rows, merge entries, refresh (R331, R337, R339, R353) -/

theorem pageClose_closes {c b : Nat} {r : OpenRow} {s : State} (hrow : rowAt s c b = some r)
    (hdue : ((r.hint = 0 ∨ r.hint = 3) ∧ r.last + nsCycles 32 ≤ s.time) ∨ r.hint = 2)
    (hidle : ((dchOf s c).rq ++ (dchOf s c).wq).any (fun e => bankOf s c e == b && rowOfEntry s c e == r.row) = false) :
    pageClose c b s = modDch c (fun h => { h with rows := tdel h.rows b }) s := by
  simp only [pageClose, hrow, hidle, Bool.false_eq_true, not_false_eq_true, and_true]
  rcases hdue with hauto | hshort
  · rw [if_pos hauto]
  · rw [if_pos hshort, ite_self]

theorem mergeFlush_flushes {c : Nat} {e : DEntry} {s : State}
    (hfind : (dchOf s c).merge.find? (fun e => decide (e.at_ + nsCycles 256 ≤ s.time) || e.mask == fullMask) = some e)
    (hroom : (dchOf s c).wq.length < 128) : mergeFlush c s = flushMerge c e s := by
  simp only [mergeFlush, hfind, hroom, if_true]

/-- The next tREFI of a channel begins. -/
def restartRefresh (c : Nat) (s : State) : State := modDchX c (fun x => { x with lastRef := s.time }) s

section
variable {c : Nat} {s : State} (hactive : (dchOf s c).pwr = .active) (hdue : (dchX s c).lastRef + refreshTime s c ≤ s.time)
include hactive hdue

theorem refresh_performs (hfree : ((dchOf s c).rq = [] ∧ (dchOf s c).wq = []) ∨ 4 ≤ (dchOf s c).owedRefresh) :
    refresh c s = shutAll c (modDch c (fun g => { g with owedRefresh := 0 }) (restartRefresh c s)) := by
  have hnow : ((!(dchOf s c).rq.isEmpty || !(dchOf s c).wq.isEmpty) && decide ((dchOf s c).owedRefresh < 4)) = false := by
    rcases hfree with ⟨hrq, hwq⟩ | howed
    · simp [hrq, hwq]
    · simp [Nat.not_lt.mpr howed]
  simp only [refresh, hactive, hdue, and_self, if_true, hnow, Bool.false_eq_true, if_false]
  rfl

theorem refresh_postpones (hwaits : (dchOf s c).rq ≠ [] ∨ (dchOf s c).wq ≠ []) (hfew : (dchOf s c).owedRefresh < 4) :
    refresh c s = modDch c (fun g => { g with owedRefresh := g.owedRefresh + 1 }) (restartRefresh c s) := by
  have hlater : ((!(dchOf s c).rq.isEmpty || !(dchOf s c).wq.isEmpty) && decide ((dchOf s c).owedRefresh < 4)) = true := by
    simpa [hfew] using hwaits
  simp only [refresh, hactive, hdue, and_self, if_true, hlater]
  rfl

end

theorem actWindowEnd_due {c : Nat} {s : State} (hdue : (dchX s c).actWin + nsCycles 64000 ≤ s.time) :
    actWindowEnd c s = modDchX c (fun x => { x with actWin := s.time }) (modDch c (fun h =>
      { h with acts := [], throttled := [], lastThrottledAct := [], hammer := h.nextHammer.getD h.hammer, nextHammer := none }) s) := if_pos hdue

/-! ## Self-refresh (R340, R342) -/

theorem selfRefreshEntry_enters {c : Nat} {s : State} (hactive : (dchOf s c).pwr = .active) (hset : (dchOf s c).srIdle ≠ 0)
    (hdue : (dchX s c).lastReq + (dchOf s c).srIdle * usCycles ≤ s.time) (hrq : (dchOf s c).rq = []) (hwq : (dchOf s c).wq = [])
    (hreads : (dchOf s c).inProgress = []) (hhold : (dchOf s c).hold = []) (hinbox : ∀ d ∈ s.braid.inbox, d.ep ≠ 0x10 + c) :
    selfRefreshEntry c s = toSelfRefresh c s :=
  if_pos ⟨hactive, hset, hdue, by simp [hrq], by simp [hwq], by simp [hreads], by simp [hhold], by simpa using hinbox⟩

theorem selfRefreshExit_leaves {c : Nat} {d : Delivered} {s : State} (hasleep : (dchOf s c).pwr = .selfRefresh) (hon : domOn s (46 + c) = true)
    (hmem : d ∈ s.braid.inbox) (hep : d.ep = 0x10 + c) (hdue : d.at_ + 768 ≤ s.time) :
    selfRefreshExit c s = restartInbox (0x10 + c) (leaveSelfRefresh c s) :=
  if_pos ⟨hasleep, hon, List.any_eq_true.mpr ⟨d, hmem, by simp [hep, hdue]⟩⟩

/-! ## Retraining and training (R345 to R348) -/

/-- A measured drift is kept, with whether it has passed 1/8 UI since the last training. -/
def noteDrift (c drift : Nat) (s : State) : State :=
  modDchX c (fun y => { y with drift := drift, lastDqs := s.time, driftRaised := y.driftRaised || decide (125 < drift) }) s

theorem dqsRetrain_due {c : Nat} {s : State} (drift : Nat) (hactive : (dchOf s c).pwr = .active) (hdue : (dchX s c).lastDqs + msCycles ≤ s.time) :
    dqsRetrain c drift s =
      let v := shutAll c (dramCount c 10 1 (noteDrift c drift s))
      let w := if 125 < drift ∧ (dchX s c).driftRaised = false then dramEv c 3 1 1 [] v else v
      if 250 < drift then raiseLimited (30200 + c) (100 * msCycles) (131 + 4 * c) 2 2 [] w else w := by
  simp only [dqsRetrain, hactive, hdue, and_self, if_true, Bool.not_eq_true]
  rfl

/-- What a training leaves whatever its outcome: its job is off the channel, and the drift and the timers start over. -/
def endTraining (c : Nat) (s : State) : State :=
  modDchX c (fun x => { x with trainJob := none, drift := 0, driftRaised := false, lastRef := s.time, lastReq := s.time, lastDqs := s.time, actWin := s.time, imbAt := s.time }) s

/-- The channel is ACTIVE under the arrangement it was trained with. -/
def activate (c : Nat) (s : State) : State :=
  modDch c (fun g => { g with pwr := .active, trained := true, everTrained := true, active := g.arr, rows := [], sinceRfm := [], rfmDue := [] }) s

section
variable {c : Nat} {s : State} (htraining : (dchOf s c).pwr = .training)
include htraining

theorem trainingDone_again (hever : (dchOf s c).everTrained = true) :
    trainingDone c true s = endJob? (dchX s c).trainJob rcDone [] (activate c (endTraining c s)) := by
  simp only [trainingDone, htraining, hever, if_true]
  rfl

theorem trainingDone_first (hever : (dchOf s c).everTrained = false) :
    trainingDone c true s = endJob? (dchX s c).trainJob rcDone [] (activate c (firstTraining c (endTraining c s))) := by
  simp only [trainingDone, htraining, hever, if_true, Bool.false_eq_true, if_false]
  rfl

theorem trainingDone_fails : trainingDone c false s =
    endJob? (dchX s c).trainJob rcFailedCheck [] (dramEv c 3 3 2 [] (modDch c (fun g => { g with pwr := .untrained, trained := false }) (endTraining c s))) := by
  simp only [trainingDone, htraining, if_true, Bool.false_eq_true, if_false]
  rfl

end

/-! ## Lost lines (R343) -/

/-- The lost lines of a channel hold zeros, its eighths are lost no more, and INIT_LOST is off it. -/
def zeroLost (c : Nat) (s : State) : State :=
  let x := dchX s c
  let cap := arrLines (activeArr s c)
  dramCount c 1 (((List.range 8).filter (fun i => bit x.lost i)).length * (cap / 8))
    (modDchX c (fun y => { y with lost := 0, initLostJob := none, zeroed := y.zeroed ||| y.lost })
      (modMems s (fun m =>
        { m with lines := m.lines.filter (fun l => !(l.1 / 268435456 == c && bit x.lost (eighthOf cap (l.1 % 268435456)))),
                 mem := (List.range 8).foldl (fun l i => if bit x.lost i then mzero l (dramPhys c (i * (cap * 8))) (cap * 8) else l) m.mem })))

theorem zeroLost_channel (c : Nat) (s : State) :
    (dchX (zeroLost c s) c).lost = 0 ∧ (dchX (zeroLost c s) c).zeroed = ((dchX s c).zeroed ||| (dchX s c).lost) := by
  rw [zeroLost, dramCount, dchX_modDchX, dchX_modDchX]
  exact ⟨rfl, rfl⟩

section
variable {c j : Nat} {s : State} (hjob : (dchX s c).initLostJob = some j)
include hjob

theorem initLostDone_none (hlost : (List.range 8).filter (fun i => bit (dchX s c).lost i) = []) :
    initLostDone c s = endJob j rcDone [] (zeroLost c s) := by
  simp only [initLostDone, zeroLost, hjob, hlost]

theorem initLostDone_some {i : Nat} {rest : List Nat} (hlost : (List.range 8).filter (fun i => bit (dchX s c).lost i) = i :: rest) :
    initLostDone c s = endJob j rcDone [] (applyFlip c (i * (arrLines (activeArr s c) / 8)) (zeroLost c s)) := by
  simp only [initLostDone, zeroLost, hjob, hlost]

end

/-- No eighth is named by an empty mask. -/
theorem no_eighth_of_zero : (List.range 8).filter (fun i => bit 0 i) = [] := by decide

/-! ## Traffic windows (R360) -/

/-- The counts of a channel's traffic start over. -/
def startWindow (c : Nat) (s : State) : State :=
  modDchX c (fun y => { y with imbAt := s.time, linesLast := y.linesWin, linesWin := 0, busyWin := 0 }) s

section
variable {c : Nat} {s : State} (hdue : (dchX s c).imbAt + msCycles ≤ s.time)
include hdue

theorem imbalanceWindow_alone (hfind : s.dram.map.find? (fun r => decide (2 ≤ r.count ∧ r.first ≤ c ∧ c < r.first + r.count)) = none) :
    imbalanceWindow c s = startWindow c s := by
  simp only [imbalanceWindow, hdue, if_true, hfind]
  rfl

theorem imbalanceWindow_region {r : Region} (hfind : s.dram.map.find? (fun r => decide (2 ≤ r.count ∧ r.first ≤ c ∧ c < r.first + r.count)) = some r) :
    imbalanceWindow c s =
      let total : Nat := (List.range r.count).foldl (fun n i => n + (if r.first + i = c then (dchX s c).linesWin else windowLines s (r.first + i))) 0
      if 4 * total < (dchX s c).linesWin * r.count ∧ 100 * usCycles ≤ (dchX s c).busyWin then
        dramEv c 1 2 1 (leBytes 4 (dchX s c).linesWin ++ leBytes 4 (total / r.count)) (startWindow c s)
      else startWindow c s := by
  simp only [imbalanceWindow, hdue, if_true, hfind]
  rfl

end

/-- Settles O35, by the rules above, one for each way a step of a channel goes while its clocks run. -/
theorem dramChannelsServeRequests : Obligations.DramChannelsServeRequests := by
  unfold Obligations.DramChannelsServeRequests
  refine ⟨?accept, ?issue, ?complete, ?close, ?flush, ?performs, ?postpones, ?temperature, ?window, ?sleeps, ?wakes, ?retrain, ?trains, ?lostNone, ?lostSome, ?imbalance⟩
  case accept =>
    intro c pid ch loc d s hclock hfind hdecode hchan hactive hhold hfirst
    refine ⟨fun st hrefusal => ?_, fun hrefusal hroom hfree => ?_⟩
    · exact next_whileClocked hclock (dramRequestAccept_refuses hfind hdecode hchan hactive hhold hfirst hrefusal)
    · exact next_whileClocked hclock (dramRequestAccept_accepts hfind hdecode hchan hactive hhold hfirst hrefusal hroom hfree)
  case issue =>
    exact fun c draw e s hclock hactive hplain hnext => next_whileClocked hclock (dramAccessIssue_issues draw hactive hplain hnext)
  case complete => exact fun c errs a r s hclock hfront hkind => next_whileClocked hclock (dramReadComplete_demand errs hfront hkind)
  case close =>
    intro c b r s hclock hrow hdue hidle
    refine ⟨_, next_whileClocked hclock (pageClose_closes hrow hdue hidle), ?_⟩
    rw [dchOf_modDch]
  case flush => exact fun c e s hclock hfind hroom => next_whileClocked hclock (mergeFlush_flushes hfind hroom)
  case performs =>
    intro c s hclock hactive hdue hfree
    refine ⟨_, next_whileClocked hclock (refresh_performs hactive hdue hfree), ?_⟩
    rw [dchOf_modDch, dchX_modDch, restartRefresh, dchX_modDchX]
    exact ⟨rfl, rfl⟩
  case postpones =>
    intro c s hclock hactive hdue hwaits hfew
    refine ⟨_, next_whileClocked hclock (refresh_postpones hactive hdue hwaits hfew), ?_⟩
    rw [dchOf_modDch]
    exact ⟨rfl, rfl⟩
  case temperature => exact fun c hot s => ⟨modDch c (fun g => { g with tempHigh := hot }) s, congrArg Chan.tempHigh (dchOf_modDch ..), rfl⟩
  case window =>
    intro c s hclock hdue
    refine ⟨_, next_whileClocked hclock (actWindowEnd_due hdue), ?_⟩
    rw [dchOf_modDchX, dchOf_modDch, dchX_modDchX]
    exact ⟨rfl, rfl, rfl, rfl⟩
  case sleeps =>
    exact fun c s hclock hactive hset hdue hrq hwq hreads hhold hinbox =>
      next_whileClocked hclock (selfRefreshEntry_enters hactive hset hdue hrq hwq hreads hhold hinbox)
  case wakes =>
    exact fun c d s hclock hasleep hon hmem hep hdue => next_whileClocked hclock (selfRefreshExit_leaves hasleep hon hmem hep hdue)
  case retrain =>
    intro c drift s hclock hactive hdue
    refine ⟨noteDrift c drift s, ?_, ?_, ?_, next_whileClocked hclock (dqsRetrain_due drift hactive hdue)⟩ <;> rw [noteDrift, dchX_modDchX]
  case trains =>
    intro c s hclock htraining
    refine ⟨fun hever => ?_, fun hever => ?_, ?_⟩
    · refine ⟨_, next_whileClocked hclock (trainingDone_again htraining hever), ?_⟩
      rw [activate, dchOf_modDch]
      exact ⟨rfl, rfl, rfl, rfl⟩
    · refine ⟨_, next_whileClocked hclock (trainingDone_first htraining hever), ?_⟩
      rw [activate, dchOf_modDch]
      exact ⟨rfl, rfl, rfl⟩
    · refine ⟨_, next_whileClocked hclock (trainingDone_fails htraining), ?_⟩
      rw [dchOf_modDch]
      exact ⟨rfl, rfl⟩
  case lostNone =>
    intro c j s hclock hjob hlost
    obtain ⟨hfound, hzeroed⟩ := zeroLost_channel c s
    rw [hlost, Nat.or_zero] at hzeroed
    exact ⟨_, next_whileClocked hclock (initLostDone_none hjob (by rw [hlost, no_eighth_of_zero])), hfound, hzeroed⟩
  case lostSome =>
    intro c j i rest s hclock hjob hlost
    exact ⟨_, next_whileClocked hclock (initLostDone_some hjob hlost), zeroLost_channel c s⟩
  case imbalance =>
    intro c s hclock hdue
    refine ⟨startWindow c s, ?_, ?_, ?_, ?_, fun hfind => ?_, fun r hfind => ?_⟩
    case refine_5 => exact next_whileClocked hclock (imbalanceWindow_alone hdue hfind)
    case refine_6 => exact next_whileClocked hclock (imbalanceWindow_region hdue hfind)
    all_goals rw [startWindow, dchX_modDchX]

end Sys2Proof.Machine
end

section
/-! DRAM and Scour commands whose checks pass, and the lines of walks and passes (R317, R320 to R322, R338, R340, R343, R345, R355 to R358). -/

namespace Sys2Proof.Machine
open Sys2Proof

theorem wakeFor_on {d : Nat} {s : State} (h : domOn s d = true) : wakeFor d s = some s := if_pos h

/-! ## DRAM_CONFIG (R317, R320 to R322) -/

/-- A channel holds an arrangement for its next training. -/
def storeArr (c : Nat) (a : Arrange) (s : State) : State := modDch c (fun h => { h with arr := some a }) s

theorem dramConfigBody_channel {v : Serving} {s : State} (hfunction : pay v 0 1 = 0) (hchan : chanTarget v.target = true) (hzero : payZero v 5 6 = true)
    (hrest : payZero v 26 56 = true) (hgood : arrOk (arrOf v) = true) (hshut : chanOpen s v.target = false) (hidle : chanBusy s v.target = false) :
    dramConfigBody v s = (rc rcDone, storeArr v.target (arrOf v) s) := by
  simp only [dramConfigBody, hfunction, configChannel, hchan, hzero, hrest, hgood, hshut, hidle, not_true_eq_false, or_self, Bool.false_eq_true, if_false]
  rfl

/-- The regions of a map image. -/
def imageRegions (img : List Byte) : List Region := (List.range (leAt img 6 2)).map (regionOf img)

/-- A map is to be installed at every NI, beside the one before it (R322). -/
def loadMap (map : List Region) (s : State) : State :=
  modDram s (fun d => { d with mapOld := d.map, map := map, mapPending := (List.range 0x70).filter epListed })

theorem dramConfigBody_map {v : Serving} {h img : List Byte} {s : State} (hfunction : pay v 0 1 = 1) (hall : v.target = 0xFFFF) (hzero : payZero v 1 8 = true)
    (hrest : payZero v 16 56 = true) (hhead : hwRead s (pay v 8 8) 32 = some h) (hgoodHead : mapHeaderBad h = none)
    (hread : hwRead s (pay v 8 8) (leAt h 8 4) = some img) (hgood : mapImageBad s img = none) (hshut : mapTouchesOpen s (imageRegions img) = false) :
    dramConfigBody v s = (rc rcDone, waitFor 1 (loadMap (imageRegions img) s)) := by
  rw [imageRegions] at hshut
  simp only [dramConfigBody, hfunction, configMap, hall, hzero, hrest, hhead, hgoodHead, hread, hgood, hshut, ne_eq, not_true_eq_false, or_self,
    Bool.false_eq_true, if_false]
  rfl

/-! ## DRAM_TRAIN, DRAM_POWER (R340, R343, R345) -/

/-- A channel trains for a job. -/
def train (c j : Nat) (s : State) : State :=
  modDchX c (fun x => { x with trainJob := some j }) (modDch c (fun h => { h with pwr := .training }) s)

theorem dramTrainBody_trains {v : Serving} {s : State} (hshut : chanOpen s v.target = false) (harr : (dchOf s v.target).arr ≠ none)
    (hidle : chanBusy s v.target = false) (hon : domOn s (46 + v.target) = true) :
    dramTrainBody v s = (rc rcAccepted, train v.target s.ferry.nextJob (startJob v v.target s).2) := by
  simp only [dramTrainBody, hshut, Option.isNone_eq_false_iff.mpr (Option.isSome_iff_ne_none.mpr harr), hidle, wakeFor_on hon, Bool.false_eq_true, if_false]
  rfl

section
variable {v : Serving} {s : State} (hzero : payZero v 1 4 = true) (hidle : chanBusy s v.target = false)
include hzero hidle

theorem dramPowerBody_srIdle (hfunction : pay v 0 1 = 0) (hrange : pay v 4 4 ≤ 10000) :
    dramPowerBody v s = (rc rcDone, modDch v.target (fun h => { h with srIdle := pay v 4 4 }) s) := by
  simp [dramPowerBody, hzero, hidle, hfunction, Nat.not_lt.mpr hrange]

theorem dramPowerBody_keep (hfunction : pay v 0 1 = 1) (hrest : payZero v 5 8 = true)
    (hkept : excludedMeets s v.target (pay v 4 1) (mustKeep s v.target) = false) :
    dramPowerBody v s = (rc rcDone, modDch v.target (fun h => { h with keep := pay v 4 1 }) s) := by
  simp [dramPowerBody, hzero, hidle, hfunction, hrest, hkept]

theorem dramPowerBody_initLost (hfunction : pay v 0 1 = 2) (hrest : payZero v 4 8 = true) (hon : domOn s (46 + v.target) = true) :
    dramPowerBody v s = (rc rcAccepted, modDchX v.target (fun x => { x with initLostJob := some s.ferry.nextJob }) (startJob v v.target s).2) := by
  simp [dramPowerBody, initLost, hzero, hidle, hfunction, hrest, wakeFor_on hon, startJob]

end

/-! ## HAMMER_SET (R338) -/

/-- The settings of a HAMMER_SET payload. -/
def hammerOf (v : Serving) : Hammer := { prob := pay v 0 1, actMax := pay v 2 2, actGap := pay v 4 2 }

/-- A channel takes settings at the end of its activation window. -/
def setNextHammer (x : Hammer) (s : State) (c : Nat) : State := modDch c (fun h => { h with nextHammer := some x }) s

/-- The fields of a HAMMER_SET payload are in range. -/
structure HammerOk (v : Serving) : Prop where
  prob : pay v 0 1 = 0 ∨ (8 ≤ pay v 0 1 ∧ pay v 0 1 ≤ 13)
  zero : payZero v 1 2 = true
  gapMin : 100 ≤ pay v 4 2
  gapMax : pay v 4 2 ≤ 64000

theorem HammerOk.passes {v : Serving} (h : HammerOk v) :
    ¬ ((pay v 0 1 ≠ 0 ∧ (pay v 0 1 < 8 ∨ 13 < pay v 0 1)) ∨ ¬ payZero v 1 2 = true ∨ pay v 4 2 < 100 ∨ 64000 < pay v 4 2) := by
  obtain ⟨hprob, hzero, hmin, hmax⟩ := h
  rintro (hbad | hbad | hbad | hbad)
  · omega
  · exact hbad hzero
  · omega
  · omega

theorem hammerBody_one {v : Serving} {s : State} (h : HammerOk v) (hone : v.target ≠ 0xFFFF) (hidle : chanBusy s v.target = false) :
    hammerBody v s = (rc rcDone, setNextHammer (hammerOf v) s v.target) := by
  simp only [hammerBody, if_neg h.passes, if_neg hone, List.any_cons, List.any_nil, hidle, Bool.or_self, Bool.false_eq_true, if_false]
  rfl

theorem hammerBody_all {v : Serving} {s : State} (h : HammerOk v) (hall : v.target = 0xFFFF) (hidle : (List.range 16).any (chanBusy s) = false) :
    hammerBody v s = (rc rcDone, forAll (List.range 16) (setNextHammer (hammerOf v)) s) := by
  simp only [hammerBody, if_neg h.passes, if_pos hall, hidle, Bool.false_eq_true, if_false]
  rfl

/-- A walk that gives settings to the channels of a list gives them to each, and leaves the settings in force. -/
theorem hammer_forAll_setNextHammer (x : Hammer) (c : Nat) (l : List Nat) (s : State) :
    (dchOf (forAll l (setNextHammer x) s) c).nextHammer = (if c ∈ l then some x else (dchOf s c).nextHammer) ∧
    (dchOf (forAll l (setNextHammer x) s) c).hammer = (dchOf s c).hammer := by
  unfold forAll
  induction l generalizing s with
  | nil => exact ⟨rfl, rfl⟩
  | cons d l ih =>
    obtain ⟨hnext, hkept⟩ := ih (setNextHammer x s d)
    rw [List.foldl_cons, hnext, hkept, setNextHammer]
    by_cases hd : c = d
    · subst hd
      simp
    · simp [dchOf_modDch_other _ _ _ _ hd, hd]

/-! ## FLIP_MASK (R355) -/

/-- The pairs of a FLIP_MASK payload. -/
def flipPairs (v : Serving) : List (Nat × Nat) := (List.range (pay v 0 1)).map (fun i => (pay v (2 + 2 * i) 1, pay v (3 + 2 * i) 1))

section
variable {v : Serving} {s : State} (hzero : payZero v 1 2 = true) (hlen : v.len ≤ 2 + 2 * pay v 0 1) (hlife : s.dbg.fuses.life ≠ .secured)
  (hidle : chanBusy s v.target = false)
include hzero hlen hlife hidle

theorem flipBody_arms (hsome : pay v 0 1 ≠ 0) (hcount : pay v 0 1 ≤ 16) (hpairs : ∀ p ∈ flipPairs v, p.1 ≤ 79) (hfree : (dchX s v.target).flip = none) :
    flipBody v s = (rc rcAccepted, modDchX v.target (fun x => { x with flip := some (flipPairs v, some s.ferry.nextJob) }) (startJob v v.target s).2) := by
  have hgood : (flipPairs v).any (fun p => decide (79 < p.1)) = false := by simpa using hpairs
  unfold flipPairs at hgood
  simp only [flipBody, hzero, Nat.not_lt.mpr hlen, Nat.not_lt.mpr hcount, hgood, hlife, hidle, hfree, hsome, not_true_eq_false, Bool.false_eq_true,
    Option.isSome_none, false_and, or_self, if_false]
  rfl

theorem flipBody_disarms {m : List (Nat × Nat)} {j : Option Nat} (hnone : pay v 0 1 = 0) (harmed : (dchX s v.target).flip = some (m, j)) :
    flipBody v s = (rc rcDone, endJob? j rcAborted [] (modDchX v.target (fun x => { x with flip := none }) s)) := by
  rw [hnone] at hlen
  simp only [flipBody, hnone, hzero, Nat.not_lt.mpr hlen, Nat.not_lt_zero, List.range_zero, List.map_nil, List.any_nil, hlife, hidle, harmed,
    not_true_eq_false, ne_eq, and_false, Bool.false_eq_true, or_self, if_false, if_true]

end

/-! ## SCOUR_SET, SCOUR_PASS (R357, R358) -/

/-- The walk a SCOUR_SET payload defines. -/
def walkOf (v : Serving) (now : Nat) : Walk := { memory := pay v 0 1, rate := pay v 2 2, start := pay v 8 8, length := pay v 16 8, last := now }

/-- The pass a SCOUR_PASS payload asks for. -/
def passOf (v : Serving) (j now : Nat) : Pass :=
  { memory := pay v 0 1, rate := pay v 2 2, start := pay v 8 8, length := pay v 16 8, resultAddr := pay v 24 8, job := j, last := now }

section
variable {v : Serving} {s : State} (hmemory : pay v 0 1 ≤ 1) (hzero : payZero v 4 8 = true)
include hmemory hzero

theorem scourSetBody_removes (hmode : pay v 1 1 = 0) :
    scourSetBody v s = (rc rcDone, modDram s (fun d => { d with walks := tdel d.walks v.target })) := by
  simp [scourSetBody, Nat.not_lt.mpr hmemory, hzero, hmode]

theorem scourSetBody_defines (hmode : pay v 1 1 = 1) (hrate : pay v 2 2 ≠ 0) (hrange : scourRangeOk (pay v 0 1) (pay v 8 8) (pay v 16 8) = true)
    (hapart : s.dram.walks.any (fun w => w.1 != v.target && overlaps (pay v 8 8) (pay v 16 8) w.2.start w.2.length) = false) :
    scourSetBody v s = (rc rcDone, modDram s (fun d => { d with walks := tset d.walks v.target (walkOf v s.time) })) := by
  simp only [scourSetBody, Nat.not_lt.mpr hmemory, hzero, hmode, hrate, hrange, hapart, Nat.lt_irrefl, one_ne_zero, not_true_eq_false, Bool.false_eq_true,
    or_self, if_false]
  rfl

theorem scourPassBody_starts (hrange : scourRangeOk (pay v 0 1) (pay v 8 8) (pay v 16 8) = true) (hidle : s.dram.pass = none) :
    scourPassBody v s = (rc rcAccepted, modDram (startJob v 0 s).2 (fun d => { d with pass := some (passOf v s.ferry.nextJob s.time) })) := by
  simp only [scourPassBody, Nat.not_lt.mpr hmemory, hzero, hrange, hidle, not_true_eq_false, Option.isSome_none, Bool.false_eq_true, or_self, if_false]
  rfl

end

/-! ## Lines of walks and passes (R356 to R358) -/

/-- A walk moves on by one line, which is read or skipped. -/
def advanceWalk (r : Nat) (w : Walk) (s : State) : State :=
  modDram (dropScour (16 + r) s) (fun d =>
    { d with walks := tset d.walks r { w with pos := (w.pos + 64) % w.length, last := s.time, skipped := w.skipped + b2n (scourSkips s (w.start + w.pos)) } })

theorem scourWalkLine_due {r : Nat} {w : Walk} {s : State} (hfind : tfind s.dram.walks r = some w) (hlength : w.length ≠ 0)
    (hdue : w.last + scourGap w.rate ≤ s.time) : scourWalkLine r s =
      if scourSkips s (w.start + w.pos) then advanceWalk r w s else scourRead (16 + r) (w.start + w.pos) (advanceWalk r w s) := by
  simp only [scourWalkLine, hfind, hlength, hdue, ne_eq, not_false_eq_true, and_self, if_true]
  rfl

/-- A pass moves on by one line, which is read or skipped. -/
def advancePass (p : Pass) (s : State) : State :=
  modDram s (fun d => { d with pass := some { p with pos := p.pos + 64, last := s.time, skipped := p.skipped + b2n (scourSkips s (p.start + p.pos)) } })

section
variable {p : Pass} {s : State} (hpass : (passAbsorb s).dram.pass = some p) (hanswered : passWaits (passAbsorb s) = false)
include hpass hanswered

theorem scourPassLine_due (hleft : p.pos < p.length) (hdue : p.last + scourGap p.rate ≤ (passAbsorb s).time) : scourPassLine s =
    if scourSkips (passAbsorb s) (p.start + p.pos) then advancePass p (passAbsorb s)
    else scourRead 1 (p.start + p.pos) (advancePass p (passAbsorb s)) := by
  simp only [scourPassLine, hpass, hanswered, hleft, hdue, Bool.false_eq_true, not_false_eq_true, and_self, if_true]
  rfl

theorem scourPassDone_writes {t : State} (hover : p.length ≤ p.pos)
    (hwrite : hwWrite p.resultAddr (passResult p) (modDram (passAbsorb s) (fun d => { d with pass := none })) = some t) :
    scourPassDone s = endJob p.job rcDone [] t := by
  simp only [scourPassDone, hpass, hanswered, hover, hwrite, Bool.false_eq_true, not_false_eq_true, and_self, if_true]

end

/-- Settles O36, by what each command's body answers and does when its checks pass, and by the rules for lines of walks and passes. -/
theorem dramAndScourCommandsTakeEffect : Obligations.DramAndScourCommandsTakeEffect := by
  unfold Obligations.DramAndScourCommandsTakeEffect
  refine ⟨?arrange, ?map, ?train, ?power, ?hammerOne, ?hammerAll, ?flip, ?walkSet, ?passSet, ?walkLine, ?passLine, ?passDone⟩
  case arrange =>
    intro v s h hfunction hchan hzero hrest hgood hshut hidle
    refine ⟨_, served_next h (dramConfigBody_channel hfunction hchan hzero hrest hgood hshut hidle), ?_, fun c hc => dchOf_modDch_other _ _ _ _ hc⟩
    rw [storeArr, dchOf_modDch]
  case map =>
    intro v h img s hserved hfunction hall hzero hrest hhead hgoodHead hread hgood hshut
    exact ⟨_, served_next hserved (dramConfigBody_map hfunction hall hzero hrest hhead hgoodHead hread hgood hshut), rfl, rfl, rfl⟩
  case train =>
    intro v s h hshut harr hidle hon
    refine ⟨_, served_next h (dramTrainBody_trains hshut harr hidle hon), ?_⟩
    rw [train, dchOf_modDchX, dchOf_modDch, dchX_modDchX]
    exact ⟨rfl, rfl⟩
  case power =>
    intro v s h hzero hidle
    refine ⟨fun hfunction hrange => ?_, fun hfunction hrest hkept => ?_, fun hfunction hrest hon => ?_⟩
    · exact ⟨_, served_next h (dramPowerBody_srIdle hzero hidle hfunction hrange), congrArg Chan.srIdle (dchOf_modDch ..)⟩
    · exact ⟨_, served_next h (dramPowerBody_keep hzero hidle hfunction hrest hkept), congrArg Chan.keep (dchOf_modDch ..)⟩
    · exact ⟨_, served_next h (dramPowerBody_initLost hzero hidle hfunction hrest hon), congrArg ChanX.initLostJob (dchX_modDchX ..)⟩
  case hammerOne =>
    intro v s h htarget hprob hzero hmin hmax hidle
    refine ⟨_, served_next h (hammerBody_one ⟨hprob, hzero, hmin, hmax⟩ (by omega) hidle), ?_⟩
    rw [setNextHammer, dchOf_modDch]
    exact ⟨rfl, rfl⟩
  case hammerAll =>
    intro v s h hall hprob hzero hmin hmax hidle
    refine ⟨_, served_next h (hammerBody_all ⟨hprob, hzero, hmin, hmax⟩ hall hidle), fun c hc => ?_⟩
    obtain ⟨hnext, hkept⟩ := hammer_forAll_setNextHammer (hammerOf v) c (List.range 16) s
    exact ⟨hnext.trans (if_pos (List.mem_range.mpr hc)), hkept⟩
  case flip =>
    intro v s h hzero hlen hlife hidle
    refine ⟨fun hsome hcount hpairs hfree => ?_, fun m j hnone harmed => ?_⟩
    · exact ⟨_, served_next h (flipBody_arms hzero hlen hlife hidle hsome hcount hpairs hfree), congrArg ChanX.flip (dchX_modDchX ..)⟩
    · exact ⟨_, served_next h (flipBody_disarms hzero hlen hlife hidle hnone harmed), congrArg ChanX.flip (dchX_modDchX ..)⟩
  case walkSet =>
    intro v s h hmemory hzero
    refine ⟨fun hmode => ?_, fun hmode hrate hrange hapart => ?_⟩
    · exact ⟨_, served_next h (scourSetBody_removes hmemory hzero hmode), rfl⟩
    · exact ⟨_, served_next h (scourSetBody_defines hmemory hzero hmode hrate hrange hapart), rfl⟩
  case passSet =>
    exact fun v s h hmemory hzero hrange hidle => ⟨_, served_next h (scourPassBody_starts hmemory hzero hrange hidle), rfl⟩
  case walkLine =>
    exact fun r w s hclock hfind hlength hdue => ⟨advanceWalk r w s, next_whileClocked hclock (scourWalkLine_due hfind hlength hdue), rfl⟩
  case passLine =>
    exact fun p s hclock hpass hanswered hleft hdue =>
      ⟨advancePass p (passAbsorb s), next_whileClocked hclock (scourPassLine_due hpass hanswered hleft hdue), rfl⟩
  case passDone =>
    exact fun p s t hclock hpass hanswered hover hwrite => next_whileClocked hclock (scourPassDone_writes hpass hanswered hover hwrite)

end Sys2Proof.Machine
end

section
/-! The one-time fuses over a step: which commands can move them, and that those only move them on (R391, R582). -/

namespace Sys2Proof.Machine
open Sys2Proof

/-- The commands after which the fuses or their programming may differ: resets, SYS_LIFECYCLE and the end of its programming, the commits of the SVN counter, and HW_READY, which stops jobs that were lost. -/
def movesFuses (c : Instr) : Bool :=
  match c with
  | .powerOnReset | .deviceReset | .resetDevice | .rstStyNPulse _ | .hwReady _ | .sysLifecycle | .fuseProgrammingDone _ | .firmwareSwitch
  | .directoryRewriteDone => true
  | _ => false

/-- A command that answers the state its frame lemma speaks of leaves the fuses and their programming. -/
theorem fuses_of_next {s t u : State} (hkept : fuseView u = fuseView s)
    (h : (.next u : Host.Outcome State Fault Refusal) = .next t) : fuseView t = fuseView s := by
  cases h
  exact hkept

/-- Every other command leaves the fuses and their programming, by the frame lemma of its effect. -/
theorem exec_fuses {c : Instr} {s t : State} (hc : movesFuses c = false) (h : exec c s = .next t) : fuseView t = fuseView s := by
  cases c
  case powerOnReset | deviceReset | resetDevice | rstStyNPulse | hwReady | sysLifecycle | fuseProgrammingDone | firmwareSwitch | directoryRewriteDone =>
    cases hc
  all_goals
    refine fuses_of_next ?_ h
    simp

/-- A pulse on RST_STY_N of 20 us or more resets the device; a shorter one is the debugger's and leaves the fuses. -/
theorem execRstStyNPulse_fusesKept {w : Nat} {s t : State} (h : execRstStyNPulse w s = .next t) : FusesKept s t := by
  unfold execRstStyNPulse at h
  split at h
  · cases h
    exact .inr (deviceReset_fuses 1 s)
  split at h
  · exact .inl (fuses_of_next (shortPulse_fuses w s) h)
  split at h
  · exact .inl (fuses_of_next (takeSymbol_fuses true s) h)
  split at h
  · exact .inl (fuses_of_next (styGlitch_fuses s) h)
  · cases h

/-- Every command moves the fuses forward only. -/
theorem exec_onward {c : Instr} {s t : State} (hs : FuseJobOk s) (h : exec c s = .next t) : FuseJobOk t ∧ FusesOnward s.dbg.fuses t.dbg.fuses := by
  cases c
  case powerOnReset =>
    cases h
    exact onward_of_fuses (.inr (powerOnReset_fuses s)) hs
  case deviceReset =>
    cases h
    exact onward_of_fuses (.inr (deviceReset_fuses 1 s)) hs
  case resetDevice =>
    cases h
    exact onward_of_fuses (resetDevice_fuses s) hs
  case rstStyNPulse w => exact onward_of_fuses (execRstStyNPulse_fusesKept h) hs
  case hwReady lost =>
    cases h
    exact hwReady_onward lost s hs
  case sysLifecycle =>
    cases h
    exact sysLifecycle_onward s hs
  case fuseProgrammingDone b =>
    cases h
    exact fuseProgrammingDone_onward b s hs
  case firmwareSwitch =>
    cases h
    exact onward_of_rose (firmwareSwitch_rose s) hs
  case directoryRewriteDone =>
    cases h
    exact onward_of_rose (directoryRewriteDone_rose s) hs
  all_goals exact onward_of_fuses (.inl (exec_fuses rfl h)) hs

/-- Settles O7: the queue is not part of what is claimed, one Braid cycle leaves the fuses, and every command moves them on. -/
theorem lifeCycleMovesForwardOnly : Obligations.LifeCycleMovesForwardOnly := by
  unfold Obligations.LifeCycleMovesForwardOnly
  intro s t hs h
  unfold step at h
  split at h
  · exact onward_of_fuses (.inl (fuses_of_next (tick_fuses s) h)) hs
  · next c r hqueue => exact exec_onward (s := { s with pending := r }) hs h

/-- Settles O5: memory lists no byte after reset, and no fuse job runs. -/
theorem resetIsSafe : Obligations.ResetIsSafe := by
  unfold Obligations.ResetIsSafe
  refine ⟨⟨List.Pairwise.nil, fun c hc => ?_⟩, fun n j hjob => ?_⟩
  · cases hc
  · cases hjob

end Sys2Proof.Machine
end

section
/-! What accesses to the on-chip memories leave of the bytes, the Basin groups and the states of the memories (sections 9.1 to 9.3). -/

namespace Sys2Proof.Machine
open Sys2Proof

/-! ## Bytes -/

theorem mem_of_core {s t : State} (h : coreView t = coreView s) : t.mems.mem = s.mems.mem := congrArg (fun x => x.2.2) h

/-- What bytes read after a run of bytes is written. -/
theorem mget_msetN (m : List Host.Cell) (a x : Nat) (l : List Byte) :
    mget (msetN m a l) x = if a ≤ x ∧ x < a + l.length then l.getD (x - a) 0 else mget m x := by
  split
  · next h =>
    obtain ⟨i, rfl⟩ : ∃ i, x = a + i := ⟨x - a, by omega⟩
    rw [mget_msetN_inside _ _ _ _ (by omega), Nat.add_sub_cancel_left]
  · exact mget_msetN_outside _ _ _ _ (by omega)

theorem leBytes_length (n v : Nat) : (leBytes n v).length = n := by
  induction n generalizing v with
  | zero => rfl
  | succ n ih => rw [leBytes, List.length_cons, ih]

/-- The words of an access are those its bytes lie in. -/
theorem mem_wordsOf {a n w : Nat} : w ∈ wordsOf a n ↔ a / 8 ≤ w ∧ w < (a + max n 1 + 7) / 8 := by
  simp only [wordsOf, List.mem_map, List.mem_range]
  constructor
  · rintro ⟨i, hi, rfl⟩
    omega
  · rintro ⟨hlow, hhigh⟩
    exact ⟨w - a / 8, by omega, by omega⟩

/-- The words of an access of whole words. -/
theorem mem_wordsOf_aligned {a n w : Nat} (ha : a % 8 = 0) (hn : n % 8 = 0) (hpos : 0 < n) : w ∈ wordsOf a n ↔ a ≤ w * 8 ∧ w * 8 + 8 ≤ a + n := by
  rw [mem_wordsOf]
  omega

/-! ## Words -/

@[simp] theorem setWordTag_mem (w : Nat) (x : WordTag) (s : State) : (setWordTag w x s).mems.mem = s.mems.mem := rfl
@[simp] theorem setWordTag_groups (w : Nat) (x : WordTag) (s : State) : (setWordTag w x s).mems.groups = s.mems.groups := rfl
@[simp] theorem modBgroup_mem (g : Nat) (f : BGroup → BGroup) (s : State) : (modBgroup g f s).mems.mem = s.mems.mem := rfl

/-- Writing words stores the bytes given; tags are no bytes. -/
theorem writeWords_mem (a : Nat) (l : List Byte) (poison : Nat → Bool) (s : State) : (writeWords a l poison s).mems.mem = msetN s.mems.mem a l :=
  forAll_keeps (fun t => t.mems.mem) _ _ _ fun _ _ => rfl

theorem readWords_mem (ws : List Nat) (s : State) : (readWords ws s).2.mems.mem = s.mems.mem := mem_of_core (readWords_core ws s)

/-- Reading words that hold no upset and no poison finds them clean, and changes nothing (R368). -/
theorem readWords_clean {ws : List Nat} {s : State} (h : ∀ w ∈ ws, (wordTag s w).poisoned = false ∧ (wordTag s w).bits = 0) :
    readWords ws s = (ws.map (fun w => (w, .clean)), s) := by
  have hout : ws.map (fun w => (w, wordOutcome (wordTag s w) (Config.freeNat (s.freeCtr + w)))) = ws.map (fun w => (w, .clean)) := by
    refine List.map_congr_left fun w hw => ?_
    obtain ⟨hpoison, hbits⟩ := h w hw
    simp [wordOutcome, hpoison, hbits]
  have hsure : ws.any (fun w => decide (2 < (wordTag s w).bits)) = false := by
    rw [List.any_eq_false]
    intro w hw
    simp [(h w hw).2]
  have hkept : forAll (ws.map (fun w => (w, WordRead.clean))) (fun t r => if r.2 = .corrected then setWordTag r.1 { wordTag t r.1 with bits := 0 } t else t) s = s := by
    unfold forAll
    rw [List.foldl_map]
    exact List.foldl_fixed ws
  unfold readWords
  simp only [hout, hsure, hkept]
  rfl

/-- An upset changes the tag of its word, and bytes in that word alone. -/
theorem upsetWord_mget {e : WordErr} {a : Nat} (s : State) (h : e.word ≠ a / 8) : mget (upsetWord e s).mems.mem a = mget s.mems.mem a := by
  unfold upsetWord
  dsimp only
  split
  · refine mget_msetN_outside _ _ _ _ ?_
    rw [List.length_map, List.length_range]
    omega
  · rfl
theorem upsetWord_groups (e : WordErr) (s : State) : (upsetWord e s).mems.groups = s.mems.groups := by
  unfold upsetWord
  dsimp only
  split <;> rfl

theorem addWordErrs_mget {errs : List WordErr} {a : Nat} (s : State) (h : ∀ x ∈ errs, x.word ≠ a / 8) :
    mget (addWordErrs errs s).mems.mem a = mget s.mems.mem a := by
  unfold addWordErrs forAll
  induction errs generalizing s with
  | nil => rfl
  | cons e errs ih =>
    rw [List.forall_mem_cons] at h
    rw [List.foldl_cons, ih _ h.2, upsetWord_mget s h.1]
theorem bgroupOf_addWordErrs (errs : List WordErr) (s : State) (g : Nat) : bgroupOf (addWordErrs errs s) g = bgroupOf s g :=
  forAll_keeps (fun t => bgroupOf t g) _ _ _ fun t e => congrArg (fun l => tget l ({} : BGroup) g) (upsetWord_groups e t)

/-! ## Merge entries (R372) -/

/-- A byte under the merge buffer is what the group's entries and the stored byte make it. -/
theorem basinByte_congr {g a : Nat} {s t : State} (hmerge : (bgroupOf t g).merge = (bgroupOf s g).merge) (hbyte : mget t.mems.mem a = mget s.mems.mem a) :
    basinByte t g a = basinByte s g a := by
  unfold basinByte mergeOf
  rw [hmerge, hbyte]

/-- The bytes of a word as a read gives them, the merge buffer over the stored ones. -/
def mergedBytes (s : State) (g w : Nat) : List Byte := (List.range 8).map (fun i => basinByte s g (w * 8 + i))

/-- Flushing an entry stores its word's bytes as a read gave them, whether it was complete or not. -/
theorem flushWord_mem (g : Nat) (e : BMerge) (s : State) : (flushWord g e s).mems.mem = msetN s.mems.mem (e.word * 8) (mergedBytes s g e.word) := by
  unfold flushWord
  dsimp only
  split
  · exact writeWords_mem ..
  · rw [writeWords_mem]
    congr 1
    refine mem_of_core ?_
    simp [core_ite]

theorem mget_flushWord (g a : Nat) (e : BMerge) (s : State) :
    mget (flushWord g e s).mems.mem a = if a / 8 = e.word then basinByte s g a else mget s.mems.mem a := by
  rw [flushWord_mem, mget_msetN, mergedBytes, List.length_map, List.length_range]
  by_cases h : a / 8 = e.word
  · rw [if_pos (by omega), if_pos h, List.getD_eq_getElem _ _ (by simp; omega)]
    simp only [List.getElem_map, List.getElem_range]
    congr 1
    omega
  · rw [if_neg (by omega), if_neg h]

/-! ## Requests of a group (R365, R366) -/

/-- The oldest request of a group leaves the queue, and its banks are busy. -/
def takeBasinRequest (g : Nat) (d : Delivered) (r : List Delivered) (s : State) : State :=
  useBanks g (lineAccesses d.pkt) (modBgroup g (fun b => { b with queue := r, flushed := false }) s)

@[simp] theorem takeBasinRequest_queue (g : Nat) (d : Delivered) (r : List Delivered) (s : State) : (bgroupOf (takeBasinRequest g d r s) g).queue = r := by
  simp [takeBasinRequest, useBanks]
@[simp] theorem takeBasinRequest_merge (g : Nat) (d : Delivered) (r : List Delivered) (s : State) :
    (bgroupOf (takeBasinRequest g d r s) g).merge = (bgroupOf s g).merge := by
  simp [takeBasinRequest, useBanks]
@[simp] theorem takeBasinRequest_mem (g : Nat) (d : Delivered) (r : List Delivered) (s : State) : (takeBasinRequest g d r s).mems.mem = s.mems.mem := rfl

/-- What a group does for a request it has taken. -/
def serveBasin (g : Nat) (d : Delivered) (s : State) : State :=
  match d.pkt.op with
  | .rd => if fromScour d.pkt then basinScrub g d s else basinServeRead g d s
  | .atom => basinServeAtom g d s
  | _ => basinServeWrite g d s

theorem basinRequestStart_serves {g : Nat} {errs : List WordErr} {d : Delivered} {r : List Delivered} {s : State}
    (hqueue : (bgroupOf s g).queue = d :: r) (hfree : banksFree s g (lineAccesses d.pkt) = true) :
    basinRequestStart g errs s = serveBasin g d (addWordErrs errs (takeBasinRequest g d r s)) := by
  simp only [basinRequestStart, hqueue, hfree, Bool.not_true, Bool.false_eq_true, if_false]
  rfl

theorem serveBasin_read {g : Nat} {d : Delivered} (hop : d.pkt.op = .rd) (s : State) :
    serveBasin g d s = if fromScour d.pkt then basinScrub g d s else basinServeRead g d s := by
  simp only [serveBasin, hop]
theorem serveBasin_atom {g : Nat} {d : Delivered} (hop : d.pkt.op = .atom) (s : State) : serveBasin g d s = basinServeAtom g d s := by
  simp only [serveBasin, hop]
theorem serveBasin_write {g : Nat} {d : Delivered} (hread : d.pkt.op ≠ .rd) (hatom : d.pkt.op ≠ .atom) (s : State) :
    serveBasin g d s = basinServeWrite g d s := by
  unfold serveBasin
  split
  · contradiction
  · contradiction
  · rfl

/-- Flushing the first due entry of a group, which is noted (R366, R372). -/
theorem basinMergeFlush_flushes {g : Nat} {errs : List WordErr} {e : BMerge} {s : State}
    (hfind : (bgroupOf s g).merge.find? (fun e => decide (e.at_ + 64 ≤ s.time)) = some e) (hon : memPwr s g = .on)
    (hturn : (bgroupOf s g).queue.isEmpty = true ∨ (bgroupOf s g).flushed = false) :
    basinMergeFlush g errs s = modBgroup g (fun b => { b with flushed := true }) (flushWord g e (addWordErrs errs s)) := by
  have hmay : memPwr s g = .on ∧ ((bgroupOf s g).queue.isEmpty = true ∨ ¬ (bgroupOf s g).flushed = true) :=
    ⟨hon, hturn.imp_right Bool.eq_false_iff.mp⟩
  simp only [basinMergeFlush, hfind, if_pos hmay]

end Sys2Proof.Machine
end

section
/-! Stores reach their bytes, and no others: Basin writes, ATOMs and flushes, decision words, results of Headwater (R199, R279, R365, R370, R372, R600). -/

namespace Sys2Proof.Machine
open Sys2Proof

/-! ## Basin writes (R372) -/

/-- The byte a write packet has for an address; below its own address it has none. -/
def packetByte (p : Packet) (a : Nat) : Byte := if p.addr ≤ a then p.data.getD (a - p.addr) 0 else 0

theorem wordPart_bytes_length (p : Packet) (w : Nat) : (wordPart p w).1.length = 8 := by simp [wordPart]

theorem wordPart_byte {p : Packet} {w i : Nat} (hi : i < 8) : (wordPart p w).1.getD i 0 = packetByte p (w * 8 + i) := by
  rw [List.getD_eq_getElem _ _ (by rwa [wordPart_bytes_length])]
  simp [wordPart, packetByte]

/-- A word that lies wholly in the write is written whole. -/
theorem wordPart_mask {p : Packet} {w : Nat} (hlow : p.addr ≤ w * 8) (hhigh : w * 8 + 8 ≤ p.addr + p.len) : (wordPart p w).2 = 255 := by
  have hall : (List.range 8).filter (fun i => decide (p.addr ≤ w * 8 + i ∧ w * 8 + i < p.addr + p.len)) = List.range 8 := by
    rw [List.filter_eq_self]
    intro i hi
    rw [List.mem_range] at hi
    exact decide_eq_true (by omega)
  rw [wordPart, hall]
  exact (by decide : listMask (List.range 8) = 255)

/-- What a write does to one of its words. -/
def storeWord (g : Nat) (p : Packet) (s : State) (w : Nat) : State :=
  if (wordPart p w).2 = 255 then writeWords (w * 8) (wordPart p w).1 (fun _ => flitPoison p w) (dropMerge g w s)
  else mergeWrite g w (wordPart p w).1 (wordPart p w).2 (flitPoison p w) s

theorem storeWord_whole {g w : Nat} {p : Packet} (s : State) (hwhole : (wordPart p w).2 = 255) (a : Nat) :
    mget (storeWord g p s w).mems.mem a = if a / 8 = w then packetByte p a else mget s.mems.mem a := by
  rw [storeWord, if_pos hwhole, writeWords_mem, mget_msetN, wordPart_bytes_length]
  by_cases h : a / 8 = w
  · rw [if_pos (by omega), if_pos h, wordPart_byte (by omega), Nat.add_sub_cancel' (by omega)]
  · rw [if_neg (by omega), if_neg h]
    rfl

/-- A walk over whole words stores the packet's bytes in them and leaves the other words. -/
theorem forAll_storeWord_whole {g : Nat} {p : Packet} {ws : List Nat} (s : State) (hwhole : ∀ w ∈ ws, (wordPart p w).2 = 255) (a : Nat) :
    mget (forAll ws (storeWord g p) s).mems.mem a = if a / 8 ∈ ws then packetByte p a else mget s.mems.mem a := by
  unfold forAll
  induction ws generalizing s with
  | nil => rfl
  | cons w ws ih =>
    rw [List.forall_mem_cons] at hwhole
    rw [List.foldl_cons, ih _ hwhole.2, storeWord_whole s hwhole.1]
    by_cases hw : a / 8 = w
    · simp [hw]
    · simp [hw]

theorem basinServeWrite_mem (g : Nat) (d : Delivered) (s : State) :
    (basinServeWrite g d s).mems.mem = (forAll (wordsOf d.pkt.addr d.pkt.len) (storeWord g d.pkt) s).mems.mem :=
  mem_of_core (basinAnswer_core ..)

/-- A write of whole aligned words stores its data, and nothing else. -/
theorem mget_basinServeWrite {g : Nat} {d : Delivered} (s : State) (haddr : d.pkt.addr % 8 = 0) (hlen : d.pkt.len % 8 = 0) (hpos : 0 < d.pkt.len)
    (a : Nat) : mget (basinServeWrite g d s).mems.mem a =
      if d.pkt.addr ≤ a ∧ a < d.pkt.addr + d.pkt.len then d.pkt.data.getD (a - d.pkt.addr) 0 else mget s.mems.mem a := by
  have hwhole : ∀ w ∈ wordsOf d.pkt.addr d.pkt.len, (wordPart d.pkt w).2 = 255 := by
    intro w hw
    obtain ⟨hlow, hhigh⟩ := (mem_wordsOf_aligned haddr hlen hpos).mp hw
    exact wordPart_mask hlow hhigh
  have hin : a / 8 ∈ wordsOf d.pkt.addr d.pkt.len ↔ d.pkt.addr ≤ a ∧ a < d.pkt.addr + d.pkt.len := by
    rw [mem_wordsOf_aligned haddr hlen hpos]
    omega
  rw [basinServeWrite_mem, forAll_storeWord_whole s hwhole, if_congr hin rfl rfl]
  split
  · next h => rw [packetByte, if_pos h.1]
  · rfl

/-! ## Basin reads and ATOMs (R367) -/

theorem serveBasin_read_mem {g : Nat} {d : Delivered} (hop : d.pkt.op = .rd) (s : State) : (serveBasin g d s).mems.mem = s.mems.mem := by
  rw [serveBasin_read hop]
  split
  · exact mem_of_core (basinScrub_core ..)
  · exact mem_of_core (basinServeRead_core ..)

/-- An ATOM whose word no merge entry holds writes its LEN bytes, or none. -/
theorem mget_basinServeAtom_outside {g a : Nat} {d : Delivered} {s : State} (hmerge : mergeOf s g (d.pkt.addr / 8) = none)
    (hout : a < d.pkt.addr ∨ d.pkt.addr + d.pkt.len ≤ a) : mget (basinServeAtom g d s).mems.mem a = mget s.mems.mem a := by
  have hread : (basinRead g (wordsOf d.pkt.addr d.pkt.len) s).2.mems.mem = s.mems.mem := mem_of_core (basinRead_core ..)
  simp only [basinServeAtom, hmerge]
  split
  · rw [mem_of_core (basinAnswer_core ..), hread]
  split
  · rw [mem_of_core (basinAnswer_core ..), hread]
  · rw [mem_of_core (basinAnswer_core ..), writeWords_mem, mget_msetN_outside _ _ _ _ (by rwa [leBytes_length]), hread]

/-! ## Decision words (R279) -/

theorem decisionWrite_mem {k a : Nat} {w : BitVec 64} {rest : List (Nat × Nat × BitVec 64)} {s : State}
    (hwords : (engOf s k).decWords = (0, a, w) :: rest) (hfree : isFrozen (engOf s k) = false) :
    (decisionWrite k s).mems.mem = msetN s.mems.mem (dmBase k + a / 8 * 8) (leBytes 8 w.toNat) := by
  rw [decisionWrite_stores hwords hfree]
  exact writeWords_mem ..

/-! ## Results of Headwater (R199, R600) -/

theorem hwWriteByte_mem {a : Nat} (b : Byte) (s : State) (h : ¬ (dramBase ≤ a ∧ a < dramEnd)) : (hwWriteByte a b s).mems.mem = mset s.mems.mem a b := by
  rw [hwWriteByte, if_neg h]
  dsimp only
  split <;> rfl

/-- The first n bytes of a result, written one after the other. -/
theorem mget_hwWriteBytes {a n : Nat} {l : List Byte} (s : State) (h : ∀ i < n, ¬ (dramBase ≤ a + i ∧ a + i < dramEnd)) (x : Nat) :
    mget ((List.range n).foldl (fun t i => hwWriteByte (a + i) (l.getD i 0) t) s).mems.mem x =
      if a ≤ x ∧ x < a + n then l.getD (x - a) 0 else mget s.mems.mem x := by
  induction n with
  | zero => rw [if_neg (by omega)]; rfl
  | succ n ih =>
    rw [List.range_succ, List.foldl_append, List.foldl_cons, List.foldl_nil, hwWriteByte_mem _ _ (h n (by omega))]
    by_cases hx : x = a + n
    · rw [hx, mget_mset_same, if_pos (by omega), Nat.add_sub_cancel_left]
    · rw [mget_mset_other _ _ _ _ hx, ih (fun i hi => h i (by omega))]
      exact if_congr (by omega) rfl rfl

theorem mget_hwWrite {a : Nat} {l : List Byte} {s u : State} (hwrite : hwWrite a l s = some u)
    (h : ∀ i < l.length, ¬ (dramBase ≤ a + i ∧ a + i < dramEnd)) (x : Nat) :
    mget u.mems.mem x = if a ≤ x ∧ x < a + l.length then l.getD (x - a) 0 else mget s.mems.mem x := by
  unfold hwWrite at hwrite
  split at hwrite
  · cases hwrite
    exact mget_hwWriteBytes s h x
  · cases hwrite

/-- Settles O54, by what each store makes a byte read after it. -/
theorem storesReachTheirBytes : Obligations.StoresReachTheirBytes := by
  unfold Obligations.StoresReachTheirBytes
  refine ⟨?write, ?read, ?atom, ?flush, ?decision, ?result⟩
  case write =>
    intro g errs d r s hqueue hclock hfree hread hatom haddr hlen hpos
    refine ⟨_, next_whileClocked hclock ((basinRequestStart_serves hqueue hfree).trans (serveBasin_write hread hatom _)), fun a hlow hhigh => ?_,
      fun a hout herrs => ?_⟩
    · rw [mget_basinServeWrite _ haddr hlen hpos, if_pos ⟨hlow, hhigh⟩]
    · rw [mget_basinServeWrite _ haddr hlen hpos, if_neg (by omega), addWordErrs_mget _ herrs, takeBasinRequest_mem]
  case read =>
    intro g errs d r s hqueue hclock hfree hop
    refine ⟨_, next_whileClocked hclock (basinRequestStart_serves hqueue hfree), fun a herrs => ?_⟩
    rw [serveBasin_read_mem hop, addWordErrs_mget _ herrs, takeBasinRequest_mem]
  case atom =>
    intro g errs d r s hqueue hclock hfree hop hmerge
    refine ⟨_, next_whileClocked hclock ((basinRequestStart_serves hqueue hfree).trans (serveBasin_atom hop _)), fun a hout herrs => ?_⟩
    rw [mget_basinServeAtom_outside _ hout, addWordErrs_mget _ herrs, takeBasinRequest_mem]
    rw [mergeOf, bgroupOf_addWordErrs, takeBasinRequest_merge]
    exact hmerge
  case flush =>
    intro g errs e s hfind hclock hon hturn
    refine ⟨_, next_whileClocked hclock (basinMergeFlush_flushes hfind hon hturn), fun a herrs => ?_⟩
    have hkept := addWordErrs_mget s herrs
    rw [modBgroup_mem, mget_flushWord, hkept, basinByte_congr (congrArg BGroup.merge (bgroupOf_addWordErrs ..)) hkept]
  case decision =>
    intro k a w rest s hclock hwords hfree
    refine ⟨_, next_whileClocked hclock rfl, fun i hi => ?_, fun x hx => ?_⟩
    · rw [decisionWrite_mem hwords hfree, mget_msetN_inside _ _ _ _ (by rwa [leBytes_length])]
    · rw [decisionWrite_mem hwords hfree, mget_msetN_outside _ _ _ _ (by rwa [leBytes_length])]
  case result =>
    intro a l s u hwrite hout
    refine ⟨fun i hi => ?_, fun x hx => ?_⟩
    · rw [mget_hwWrite hwrite hout, if_pos (by omega), Nat.add_sub_cancel_left]
    · rw [mget_hwWrite hwrite hout, if_neg (by omega)]

end Sys2Proof.Machine
end

section
/-! Basin groups accept, perform and flush; the on-chip memories enter RETENTION, wake and are cleared (R365 to R372, R379 to R382). -/

namespace Sys2Proof.Machine
open Sys2Proof

/-! ## Acceptance (R366) -/

theorem basinRequestAccept_accepts {g pid : Nat} {d : Delivered} {s : State} (hfind : inboxFind s (0x08 + g) pid = some d) (hg : g < 8)
    (hon : memPwr s g = .on) (hroom : (bgroupOf s g).queue.length < 32) (hfirst : firstOfSource s d = true) :
    basinRequestAccept g pid s = modBgroup g (fun b => { b with queue := b.queue ++ [d], lastReq := s.time }) (inboxDrop pid s) := by
  simp only [basinRequestAccept, hfind]
  exact if_pos ⟨hg, hon, hroom, hfirst⟩

@[simp] theorem bgroupOf_inboxDrop (pid g : Nat) (s : State) : bgroupOf (inboxDrop pid s) g = bgroupOf s g := rfl

/-! ## Reads (R365, R368) -/

theorem basinRead_clean {g : Nat} {ws : List Nat} {s : State} (h : ∀ w ∈ ws, (wordTag s w).poisoned = false ∧ (wordTag s w).bits = 0) :
    basinRead g ws s = (ws.map (fun w => (w, .clean)), s) := by
  rw [basinRead, readWords_clean h]
  refine Prod.ext rfl ?_
  show (ws.map (fun w => (w, WordRead.clean))).foldl _ s = s
  rw [List.foldl_map]
  exact List.foldl_fixed ws

theorem anyRead_clean (ws : List Nat) {o : WordRead} (ho : o ≠ .clean) : anyRead (ws.map (fun w => (w, .clean))) o = false := by
  rw [anyRead, List.any_map, List.any_eq_false]
  intro w hw
  simpa using ho.symm

/-- A transfer of good words has no bad flit. -/
theorem badFlits_of_good {a n : Nat} {bad : Nat → Bool} (h : ∀ w, bad w = false) : badFlits a n bad = [] := by
  rw [badFlits, List.filter_eq_nil_iff]
  intro i hi
  rw [Bool.not_eq_true, List.any_eq_false]
  intro w hw
  rw [h w]
  exact Bool.false_ne_true

theorem basinServeRead_clean {g : Nat} {d : Delivered} {s : State}
    (hwords : ∀ w ∈ wordsOf d.pkt.addr d.pkt.len, (wordTag s w).poisoned = false ∧ (wordTag s w).bits = 0)
    (hentries : ∀ e ∈ (bgroupOf s g).merge, e.poison = false) :
    basinServeRead g d s = basinAnswer d 12 .ok ((List.range d.pkt.len).map (fun i => basinByte s g (d.pkt.addr + i))) [] s := by
  have hflits : badFlits d.pkt.addr d.pkt.len (fun w =>
      ((wordsOf d.pkt.addr d.pkt.len).map (fun w => (w, WordRead.clean))).any (fun r => r.1 == w && r.2 == .poisoned) ||
        (mergeOf s g w).any (fun e => e.poison)) = [] := by
    refine badFlits_of_good fun w => ?_
    have hentry : (mergeOf s g w).any (fun e => e.poison) = false := by
      cases hfind : mergeOf s g w with
      | none => rfl
      | some e => exact hentries e (List.mem_of_find?_eq_some hfind)
    rw [hentry, Bool.or_false, List.any_map, List.any_eq_false]
    intro x hx
    simp
  simp only [basinServeRead, basinRead_clean hwords, anyRead_clean _ (show WordRead.uncorr ≠ .clean by decide), hflits, Bool.false_eq_true, if_false, if_true]

/-! ## States of the memories (Table 9.4) -/

theorem memPwr_of_pwr {s t : State} (h : t.mems.pwr = s.mems.pwr) (u : Nat) : memPwr t u = memPwr s u := by rw [memPwr, memPwr, h]
@[simp] theorem memPwr_setMemPwr (u : Nat) (p : MemPwr) (s : State) : memPwr (setMemPwr u p s) u = p := tget_tset_same ..
@[simp] theorem modBgroup_pwr (g : Nat) (f : BGroup → BGroup) (s : State) : (modBgroup g f s).mems.pwr = s.mems.pwr := rfl

theorem basinEv_pwr (g cause w : Nat) (s : State) : (basinEv g cause w s).mems.pwr = s.mems.pwr :=
  (congrArg Mems.pwr (raiseEv_part (sp := .mems) _ _ _ _ _ (by decide) (by decide))).trans (modBgroup_pwr ..)
theorem retentionCount_pwr (u i : Nat) (s : State) : (retentionCount u i s).mems.pwr = s.mems.pwr := by
  unfold retentionCount
  split <;> rfl

/-- The event of a memory that lost its contents leaves every memory's state. -/
theorem lostEvent_pwr (u : Nat) (s : State) : (lostEvent u s).mems.pwr = s.mems.pwr := by
  unfold lostEvent
  split
  · split
    · exact basinEv_pwr ..
    · refine forAll_keeps (fun t => t.mems.pwr) _ _ _ fun t i => congrArg Mems.pwr ?_
      exact (ev488_part (sp := .mems) _ _ _ _ _ _ (by decide) (by decide)).trans (ev488_part (sp := .mems) _ _ _ _ _ _ (by decide) (by decide))
  · rfl

theorem memPwr_unitAwake (u : Nat) (s : State) : memPwr (unitAwake u s) u = .on := by
  rw [unitAwake, memPwr_of_pwr ((lostEvent_pwr ..).trans (retentionCount_pwr ..)), memPwr_setMemPwr]

section
variable {m : MemUnit} {s : State} (hunit : unitOk m = true)
include hunit

theorem retentionEntry_enters (hon : memPwr s (unitOf m) = .on) (hidle : unitIdle s m = true) : retentionEntry m s = toRetention m s := by
  simp [retentionEntry, hunit, hon, hidle]

/-- A unit whose wake is due is ON, with the bytes it held. -/
theorem memoryWake_wakes (hret : memPwr s (unitOf m) = .retention) (hdue : wakeDue s m = true) : memPwr (memoryWake m s) (unitOf m) = .on := by
  have hgo : (unitOk m && memPwr s (unitOf m) == .retention && wakeDue s m) = true := by simp [hunit, hret, hdue]
  rw [memoryWake, if_pos hgo]
  cases m <;> exact memPwr_unitAwake ..

/-- A unit whose INIT ends: cleared, ON, an emptied merge buffer for a group, the gate opened once its domain is ready (R382). -/
theorem memoryInitDone_clears (hinit : memPwr s (unitOf m) = .init) (hdom : domOn s (memDomain (unitOf m)) = true) :
    ∃ u, memoryInitDone m s = domainWaits u ∧ memPwr u (unitOf m) = .on ∧ u.mems.mem = (clearUnit (unitOf m) s).mems.mem := by
  have hgo : (unitOk m && memPwr s (unitOf m) == .init && domOn s (memDomain (unitOf m))) = true := by simp [hunit, hinit, hdom]
  have hgate : ∀ (c : Prop) [Decidable c] (t : State), (if c then setGateSt (memDomain (unitOf m)) .opened t else t).mems = t.mems := by
    intro c _ t
    split
    · exact setGateSt_part (sp := .mems) _ _ t (by decide)
    · rfl
  rw [memoryInitDone]
  simp only [hgo, if_true]
  refine ⟨_, rfl, ?_, ?_⟩
  · rw [memPwr_of_pwr (congrArg Mems.pwr (hgate _ _))]
    cases m <;> exact memPwr_setMemPwr ..
  · rw [hgate]
    cases m <;> rfl

end

/-- Settles O37, by the rules above and those for the requests and merge entries of a group. -/
theorem basinServesAndMemoriesSleep : Obligations.BasinServesAndMemoriesSleep := by
  unfold Obligations.BasinServesAndMemoriesSleep
  refine ⟨?accept, ?start, ?read, ?flush, ?retain, ?wake, ?init⟩
  case accept =>
    intro g pid d s hclock hfind hg hon hroom hfirst
    refine ⟨_, next_whileClocked hclock (basinRequestAccept_accepts hfind hg hon hroom hfirst), ?_, rfl⟩
    rw [bgroupOf_modBgroup, bgroupOf_inboxDrop]
  case start =>
    intro g errs d r s hclock hqueue hfree
    exact ⟨takeBasinRequest g d r s, takeBasinRequest_queue .., next_whileClocked hclock (basinRequestStart_serves hqueue hfree)⟩
  case read => exact fun g d s hwords hentries => ⟨s, basinServeRead_clean hwords hentries, rfl⟩
  case flush =>
    intro g errs e s hclock hfind hon hturn
    exact ⟨_, next_whileClocked hclock (basinMergeFlush_flushes hfind hon (hturn.imp_left List.isEmpty_iff.mpr)), rfl⟩
  case retain => exact fun m s hunit hon hidle => congrArg Host.Outcome.next (retentionEntry_enters hunit hon hidle)
  case wake => exact fun m s hunit hret hdue => ⟨_, rfl, memoryWake_wakes hunit hret hdue, mem_of_core (memoryWake_core m s)⟩
  case init =>
    intro m s hunit hinit hdom
    obtain ⟨u, hdone, hon, hmem⟩ := memoryInitDone_clears hunit hinit hdom
    exact ⟨u, congrArg Host.Outcome.next hdone, hon, hmem⟩

end Sys2Proof.Machine
end

section
/-! Tamper and glitch trips, zeroization, the counters of the sealed window, retired keys and tidelines (R387 to R390, R402 to R424). -/

namespace Sys2Proof.Machine
open Sys2Proof

theorem tideOf_of_crypto {s t : State} (h : t.crypto = s.crypto) (i : Nat) : tideOf t i = tideOf s i := by rw [tideOf, tideOf, h]

theorem tideOf_modTide_other {i j : Nat} (f : Tide → Tide) (s : State) (h : j ≠ i) : tideOf (modTide i f s) j = tideOf s j := by
  simp [tideOf, modTide, tget_tmod_other _ _ _ _ _ h]

/-! ## Zeroization (R387 to R389) -/

@[simp] theorem endJob_crypto (id code : Nat) (result : List Byte) (s : State) : (endJob id code result s).crypto = s.crypto :=
  endJob_part (sp := .crypto) _ _ _ s (by decide) (by decide) (by decide) (by decide) (by decide)

/-- A tideline is unbound and its job ends. -/
def dropTide (s : State) (x : Nat × Tide) : State := endJob x.2.job rcAborted [] (modTide x.1 (fun _ => {}) s)

/-- Dropping tidelines unbinds those that are dropped, and leaves the others. -/
theorem tideOf_forAll_dropTide (l : List (Nat × Tide)) (s : State) (i : Nat) :
    tideOf (forAll l dropTide s) i = if i ∈ l.map Prod.fst then {} else tideOf s i := by
  unfold forAll
  induction l generalizing s with
  | nil => rfl
  | cons x l ih =>
    rw [List.foldl_cons, ih, dropTide, tideOf_of_crypto (endJob_crypto ..)]
    by_cases hx : i = x.1
    · subst hx
      simp
    · rw [tideOf_modTide_other _ s hx, List.map_cons]
      exact if_congr (List.mem_cons.trans (or_iff_right hx)).symm rfl rfl

/-- Dropping tidelines leaves the rest of the keys and counters. -/
theorem dropTides_rest (s : State) : { (dropTides s).crypto with tides := [] } = { s.crypto with tides := [] } :=
  forAll_keeps (fun t => { t.crypto with tides := [] }) _ dropTide s fun t x => by rw [dropTide, endJob_crypto]; rfl

theorem dropTides_unbinds {s : State} {x : Nat × Tide} (hx : x ∈ s.crypto.tides) (hbound : x.2.st ≠ .unbound) : tideOf (dropTides s) x.1 = {} := by
  refine (tideOf_forAll_dropTide _ s x.1).trans (if_pos (List.mem_map_of_mem ?_))
  exact List.mem_filter.mpr ⟨hx, by simpa using hbound⟩

/-- The secure bank after zeroization: keys, link keys and caches are gone, the sealed window is not ready (R388). -/
def zeroedCrypto (c : Crypto) : Crypto :=
  { c with slots := [], linkSlots := [], switching := [], cache := [], cacheDirty := [], rootsSaved := [], zeroized := true, rngHeld := 0, treeKey := 0, sealJob := none, window := c.window.map (fun w => (w.1, w.2.1, false)), trigger := none }

theorem zeroBank_crypto (s : State) : (zeroBank s).crypto = zeroedCrypto s.crypto :=
  forAll_keeps (fun t => t.crypto) _ _ _ fun _ _ => endJob_crypto ..

/-- What follows the zeroing of the bank leaves keys and counters but for the tidelines. -/
theorem zeroization_crypto {k : Nat} {s : State} (htrigger : s.crypto.trigger = some k) : (zeroization s).crypto = (dropTides (zeroBank s)).crypto := by
  have hretire : ∀ t : State, (when_ (s.dbg.fuses.life == .retired) retireInit t).crypto = t.crypto := by
    intro t
    unfold when_
    split
    · exact retireInit_part (sp := .crypto) t (by decide)
    · rfl
  simp only [zeroization, htrigger]
  rw [(raiseEv_undisturbed ..).crypto, hretire]
  exact (clearProof_part (sp := .crypto) _ _ _ (by decide) (by decide) (by decide)).trans (dropLinks_part (sp := .crypto) _ (by decide) (by decide)
    (by decide) (by decide) (by decide) (by decide) (by decide) (by decide) (by decide) (by decide))

/-! ## Counters (R408, R410, R411, R415) -/

/-- A waiting token of a channel that asks for an operation and that the fault found fits. -/
def tokenFits (c n : Nat) (op : CounterOp) (f : CounterFault) (t : Token) : Bool :=
  match t.kind with
  | .counter ch m o => ch == c && decide (o = op) && faultFits n m f
  | _ => false

theorem counterToken_serves {c n : Nat} {op : CounterOp} {f : CounterFault} {t : Token} {s : State} (hserved : tokenServed s c op = true)
    (hfind : s.braid.tokens.find? (tokenFits c n op f) = some t) :
    counterToken c n op f s =
      counterServe c (tokenCounter t) op (counterFails c n f (useManager op (modBraid s (fun b => { b with tokens := b.tokens.filter (fun x => x.id != t.id) })))) := by
  unfold counterToken
  split
  · next hnone => cases hfind.symm.trans hnone
  · next u hsome =>
    cases hfind.symm.trans hsome
    exact if_pos hserved

/-- An increment of a top node raises the root, all three of whose copies then agree (R408, R415). -/
theorem rootOf_counterRise {c m : Nat} {s : State} (htop : isTop s c m = true) : rootOf (counterRise c m s) c = rootOf s c + 1 := by
  rw [counterRise, if_pos htop]
  generalize rootOf s c + 1 = r
  have hfirst : tget (tset (tset (tset s.crypto.roots c r) (16 + c) r) (32 + c) r) 0 c = r := by
    rw [tget_tset_other _ _ _ _ _ (by omega), tget_tset_other _ _ _ _ _ (by omega), tget_tset_same]
  have hsecond : tget (tset (tset (tset s.crypto.roots c r) (16 + c) r) (32 + c) r) 0 (16 + c) = r := by
    rw [tget_tset_other _ _ _ _ _ (by omega), tget_tset_same]
  simp [rootOf, hfirst, hsecond]

/-! ## Re-sealing (R413) -/

theorem pageCtr_of_crypto {s t : State} (h : t.crypto = s.crypto) (c page : Nat) : pageCtr t c page = pageCtr s c page := by rw [pageCtr, pageCtr, h]
@[simp] theorem pageCtr_modPageCtr (c page : Nat) (f : PageCtr → PageCtr) (s : State) : pageCtr (modPageCtr c page f s) c page = f (pageCtr s c page) :=
  tget_tmod_same ..

/-- A re-seal whose major counter can rise: the next major counter, minor counters at 0. -/
theorem pageCtr_reseal {c page : Nat} {e : DEntry} {r : List DEntry} {s : State} (hwaits : resealWaits s c page = e :: r)
    (hroom : (pageCtr s c page).major + 1 < 2 ^ 64) :
    pageCtr (reseal c page s) c page = { major := (pageCtr s c page).major + 1, minors := [] } := by
  simp only [reseal, hwaits, if_neg (Nat.not_le.mpr hroom)]
  rw [pageCtr_of_crypto (raiseLimitedAt_part (sp := .crypto) _ _ _ _ _ _ _ _ (by decide) (by decide)),
    pageCtr_of_crypto (forAll_keeps (fun t => t.crypto) _ _ _ fun t i => resealLine_part (sp := .crypto) _ _ _ _ _ t (by decide)), pageCtr_modPageCtr]

/-! ## Retired keys (R419, R420) -/

section
variable {k : Nat} {s : State} (hretiring : (slotOf s k).st = .retiring) (hidle : (List.range 16).all (fun c => !(kidBusy s c k)) = true)
include hretiring hidle

theorem keyRetireDone_writes (hleft : keyWritten s ((slotOf s k).key.take 64) = false) :
    keyRetireDone k s = writeBackKey ((slotOf s k).key.take 64) s := by
  simp [keyRetireDone, hretiring, hleft, -List.all_eq_true, hidle]

theorem keyRetireDone_empties (hwritten : keyWritten s ((slotOf s k).key.take 64) = true) :
    keyRetireDone k s = mirrorKey (.keySlot k false []) (keyEv k 2 (endJob? (slotOf s k).job rcDone [] (modCrypto s (fun c => { c with slots := tdel c.slots k })))) := by
  simp only [keyRetireDone, hretiring, hwritten, hidle, ne_eq, not_true_eq_false, and_false, if_false, if_true]

end

/-! ## Tidelines (R423, R424) -/

section
variable {i : Nat} {s : State} (hrunning : (tideOf (tideAbsorb i s) i).st = .running)
include hrunning

theorem tidelineLine_ends (hover : (tideOf (tideAbsorb i s) i).start + (tideOf (tideAbsorb i s) i).length ≤ (tideOf (tideAbsorb i s) i).boundary) :
    tidelineLine i s = tideEv i 1 0 (endJob (tideOf (tideAbsorb i s) i).job rcDone [] (modTide i (fun y => { y with st := .done }) (tideAbsorb i s))) := by
  simp only [tidelineLine, hrunning, ne_eq, not_true_eq_false, if_false, if_pos hover]

theorem tidelineLine_presents (hleft : (tideOf (tideAbsorb i s) i).boundary < (tideOf (tideAbsorb i s) i).start + (tideOf (tideAbsorb i s) i).length)
    (hidle : (tideAbsorb i s).braid.groups.any (fun g => g.ep == 0x03 && g.agent == i) = false)
    (hdue : (tideOf (tideAbsorb i s) i).last * max (tideOf (tideAbsorb i s) i).rate 1 + usCycles ≤ (tideAbsorb i s).time * max (tideOf (tideAbsorb i s) i).rate 1) :
    tidelineLine i s = (presentReq 0x03 i { op := .rd, addr := (tideOf (tideAbsorb i s) i).boundary, len := 64, kid := 56 + i }
      (modTide i (fun y => { y with last := (tideAbsorb i s).time }) (tideAbsorb i s))).2 := by
  simp only [tidelineLine, hrunning, ne_eq, not_true_eq_false, if_false, if_neg (Nat.not_le.mpr hleft), hidle, hdue, Bool.false_eq_true, not_false_eq_true,
    and_self, if_true]

end

/-- Settles O39, by the rules above, one for each of the steps. -/
theorem tamperZeroizesAndCountersRise : Obligations.TamperZeroizesAndCountersRise := by
  unfold Obligations.TamperZeroizesAndCountersRise
  refine ⟨?tamper, ?glitch, ?zeroize, ?sealed, ?token, ?root, ?reseal, ?subtree, ?retire, ?tide⟩
  case tamper =>
    intro i s hi
    have hfilter : tamperFilter i s = trip 1 (modDebug s (fun d => { d with tamperLow := ladd d.tamperLow i })) := if_pos hi
    exact ⟨_, congrArg Host.Outcome.next hfilter, rfl, mem_ladd _ _, rfl⟩
  case glitch => exact fun s => ⟨_, rfl, rfl, rfl⟩
  case zeroize =>
    intro k s htrigger
    have hcrypto := zeroization_crypto htrigger
    have hrest : { (zeroization s).crypto with tides := [] } = { zeroedCrypto s.crypto with tides := [] } := by
      rw [hcrypto, dropTides_rest, zeroBank_crypto]
    refine ⟨_, rfl, congrArg Crypto.slots hrest, congrArg Crypto.linkSlots hrest, congrArg Crypto.trigger hrest, congrArg Crypto.zeroized hrest,
      congrArg Crypto.window hrest, fun x hx hbound => ?_⟩
    have hlisted : x ∈ (zeroBank s).crypto.tides := by
      rw [zeroBank_crypto]
      exact hx
    rw [tideOf_of_crypto hcrypto, dropTides_unbinds hlisted hbound]
  case sealed =>
    intro j s hclock hjob
    refine ⟨modCrypto s (fun c => { c with sealJob := none, window := c.window.map (fun w => (w.1, w.2.1, true)) }), next_whileClocked hclock ?_, rfl, rfl⟩
    simp only [sealInitDone, hjob]
  case token => exact fun c n op f t s hclock hserved hfind => next_whileClocked hclock (counterToken_serves hserved hfind)
  case root =>
    intro c m s u hu htop
    rw [hu]
    exact rootOf_counterRise htop
  case reseal => exact fun c page e r s hclock hwaits hroom => ⟨_, next_whileClocked hclock rfl, pageCtr_reseal hwaits hroom⟩
  case subtree =>
    intro c n r s hclock hlost
    refine ⟨modDchX c (fun x => { x with lostPages := r }) s, next_whileClocked hclock ?_, congrArg ChanX.lostPages (dchX_modDchX ..)⟩
    simp only [subtreeReinit, hlost]
  case retire =>
    exact fun k s hclock hretiring hidle => ⟨fun hleft => next_whileClocked hclock (keyRetireDone_writes hretiring hidle hleft),
      fun hwritten => next_whileClocked hclock (keyRetireDone_empties hretiring hidle hwritten)⟩
  case tide =>
    exact fun i s hclock hrunning => ⟨fun hover => next_whileClocked hclock (tidelineLine_ends hrunning hover),
      fun hleft hidle hdue => next_whileClocked hclock (tidelineLine_presents hrunning hleft hidle hdue)⟩

end Sys2Proof.Machine
end

section
/-! Power, clock, Stipple, time and watchdog commands whose checks pass (R380, R496, R499, R508, R513, R518, R519, R592). -/

namespace Sys2Proof.Machine
open Sys2Proof

/-! ## PWR_STATE (R499, R500) -/

/-- ACTIVE ends TRIM: every domain of its mask is switched on again. -/
def wakeMask (s : State) : State := forAll s.power.trimMask (fun u d => domainOn d u) (modPower s (fun p => { p with dev := .active, trimMask := [] }))

/-- PREPARE goes out for a sleep. -/
def beginSleep (v : Serving) (target : DevState) (s : State) : State :=
  modPower (startJob v 0xFFFF s).2 (fun p =>
    { p with wakeAfter := pay v 4 4, wakeSrc := none, wakeEntries := [], entry := some { target := target, job := s.ferry.nextJob, since := s.time } })

section
variable {v : Serving} (s : State) (hargs : stateArgsBad v = false)
include hargs

theorem pwrStateBody_active (hstate : pay v 0 1 = 0) : pwrStateBody v s = enterActive s := by simp [pwrStateBody, hargs, hstate, stateOf]
theorem pwrStateBody_trim (hstate : pay v 0 1 = 1) : pwrStateBody v s = enterTrim v s := by simp [pwrStateBody, hargs, hstate, stateOf]
theorem pwrStateBody_doze (hstate : pay v 0 1 = 2) : pwrStateBody v s = enterSleep v .doze s := by simp [pwrStateBody, hargs, hstate, stateOf]
theorem pwrStateBody_stipple (hstate : pay v 0 1 = 3) : pwrStateBody v s = enterSleep v .stipple s := by simp [pwrStateBody, hargs, hstate, stateOf]

end

section
variable {v : Serving} {s : State} (hjob : s.power.trimJob = none) (hentry : s.power.entry = none)
include hjob hentry

theorem enterActive_wakes : enterActive s = (rc rcDone, if maskReady (wakeMask s) then wakeMask s else waitFor 1 (wakeMask s)) := by
  simp only [enterActive, hjob, hentry, Option.isSome_none, Bool.false_eq_true, or_self, if_false]
  rfl

theorem enterTrim_starts (hmay : (trimSet v).any (fun d => offDenied s d || offHeld s d) = false)
    (hsettled : (trimSet v).any (fun d => (gateOf s d).st == .fencing) = false) :
    enterTrim v s = (rc rcAccepted, trimCheck (forAll (trimSet v) (fun u d => trimOne d u) (modPower (startJob v 0xFFFF s).2 (fun p =>
      { p with dev := .trim, trimMask := trimSet v, trimJob := some s.ferry.nextJob, trimFailed := false })))) := by
  simp only [enterTrim, hmay, hsettled, hjob, hentry, Option.isSome_none, Bool.false_eq_true, or_self, if_false]
  rfl

theorem enterSleep_doze (hflows : s.sluice.committed = []) : enterSleep v .doze s = (rc rcAccepted, beginSleep v .doze s) := by
  simp [enterSleep, hflows, hjob, hentry, beginSleep, startJob]

theorem enterSleep_stipple (hflows : s.sluice.committed = [] ∨ s.twin.role = .standbyHot) (hprog : s.power.prog.isSome = true)
    (hrole : s.twin.role ≠ .active) : enterSleep v .stipple s = (rc rcAccepted, beginSleep v .stipple s) := by
  have hquiet : ¬ ((!s.sluice.committed.isEmpty) = true ∧ s.twin.role ≠ .standbyHot) := by
    rcases hflows with hnone | hstandby
    · simp [hnone]
    · simp [hstandby]
  have hprogram : s.power.prog.isNone = false := Option.isNone_eq_false_iff.mpr hprog
  simp only [enterSleep, hquiet, hprogram, hrole, hjob, hentry, Option.isSome_none, Bool.false_eq_true, reduceCtorEq, false_and, and_false, or_self, if_false]
  rfl

end

/-! ## PWR_DOMAIN (R495, R496) -/

section
variable {v : Serving} {s : State} (hzero : payZero v 1 4 = true)
include hzero

theorem pwrDomainBody_retention (hfunction : pay v 0 1 = 2) (hdomain : retDomain v.target = true) (hrange : retOk (pay v 4 4) = true) :
    pwrDomainBody v s = (rc rcDone, modPower s (fun p => { p with retIdle := tset p.retIdle v.target (pay v 4 4) })) := by
  simp [pwrDomainBody, hfunction, hzero, hdomain, hrange]

theorem pwrDomainBody_on (hfunction : pay v 0 1 = 1) : pwrDomainBody v s = domainOnReply v.target s := by
  simp [pwrDomainBody, hfunction, hzero]

theorem pwrDomainBody_off (hfunction : pay v 0 1 = 0) : pwrDomainBody v s = domainOffReply v.target s := by
  simp [pwrDomainBody, hfunction, hzero]

end

theorem domainOnReply_already {d : Nat} {s : State} (hmask : s.power.trimMask.contains d = false) (hon : domOn s d = true) :
    domainOnReply d s = (rc rcDone, s) := by
  simp only [domainOnReply, hmask, hon, Bool.false_eq_true, if_false, if_true]

theorem domainOnReply_powers {d : Nat} {s : State} (hmask : s.power.trimMask.contains d = false) (hoff : domOn s d = false) :
    domainOnReply d s = (rc rcDone, if domainReady (domainOn d s) d then domainOn d s else waitFor 1 (domainOn d s)) := by
  simp only [domainOnReply, hmask, hoff, Bool.false_eq_true, if_false]

theorem domainOffReply_done {d : Nat} {s : State} (hmay : offDenied s d = false) (hgate : gateOff s d = true) (hfree : offHeld s d = false) :
    domainOffReply d s = (rc rcDone, if domOn s d then domainOff d (closeGate d s) else s) := by
  simp only [domainOffReply, hmay, hgate, hfree, not_true_eq_false, Bool.false_eq_true, or_self, if_false]

/-! ## DVFS_SET (R513, R592) -/

theorem dvfsSetBody_queues {v : Serving} {s : State} (hquads : v.target ≠ 0xFFFE) (hlen : v.len ≤ 1) (hop : pay v 0 1 ≤ 3)
    (hbus : s.power.pmbus.isSome = true) :
    dvfsSetBody v s = (rc rcAccepted, beginDvfs 4096 (modPower (startJob v 0x10000 s).2 (fun p =>
      { p with dvfs := p.dvfs ++ [{ quads := dvfsQuads v.target, op := pay v 0 1, job := s.ferry.nextJob }] }))) := by
  simp only [dvfsSetBody, hquads, Nat.not_lt.mpr hlen, Nat.not_lt.mpr hop, Option.isNone_eq_false_iff.mpr hbus, Bool.false_eq_true, false_and, or_self, if_false]
  rfl

theorem dvfsSetBody_pmbus {v : Serving} {s : State} (hbus : v.target = 0xFFFE) (hzero : pay v 0 1 = 0) (hlow : 0x08 ≤ pay v 1 1) (hhigh : pay v 1 1 ≤ 0x77) :
    dvfsSetBody v s = (rc rcDone, modPower s (fun p => { p with pmbus := some (pay v 1 1) })) := by
  simp only [dvfsSetBody, pmbusSet, hbus, hzero, Nat.not_lt.mpr hlow, Nat.not_lt.mpr hhigh, ne_eq, not_true_eq_false, or_self, if_true, if_false]

/-! ## STIPPLE_PROGRAM (R508) -/

theorem stippleProgramBody_loads {v : Serving} {h img : List Byte} {s : State} (hzero : payZero v 0 8 = true) (hhead : hwRead s (pay v 8 8) 32 = some h)
    (hgoodHead : progHeaderFault h = none) (hread : hwRead s (pay v 8 8) (leAt h 8 4) = some img) (hgood : progFault img = none) :
    stippleProgramBody v s = (rc rcDone, modPower s (fun p =>
      { p with prog := some { periodMs := leAt img 0x10 2, entries := (stipOffsets img).map (stipEntryAt img) } })) := by
  simp only [stippleProgramBody, hzero, hhead, hgoodHead, hread, hgood, not_true_eq_false, if_false]

/-! ## TIME_SET (R516 to R518) -/

section
variable {v : Serving} {s : State} (hzero : payZero v 1 8 = true)
include hzero

theorem timeSetBody_set (hfunction : pay v 0 1 = 0) : timeSetBody v s = (rc rcDone, timeSetTo (pay v 8 8) s) := by
  simp [timeSetBody, hfunction, hzero]

theorem timeSetBody_step (hfunction : pay v 0 1 = 1) : timeSetBody v s = (rc rcDone, timeStep (pay v 8 8) s) := by
  simp [timeSetBody, hfunction, hzero]

theorem timeSetBody_trim (hfunction : pay v 0 1 = 2) (hidle : s.tbase.trimJob = none) :
    timeSetBody v s = (rc rcAccepted, modTime (startJob v 0xFFFF s).2 (fun b => { b with trimJob := some s.ferry.nextJob, trimAt := b.slowTicks })) := by
  simp [timeSetBody, hfunction, hzero, hidle, startJob]

end

theorem timeSetTo_tbase (x : Nat) (s : State) : (timeSetTo x s).tbase = { s.tbase with tb := x, valid := true } := (raiseEv_undisturbed ..).tbase
theorem timeStep_tbase (x : Nat) (s : State) : (timeStep x s).tbase = { s.tbase with tb := (s.tbase.tb + x) % tbWrap } := (raiseEv_undisturbed ..).tbase

/-! ## WDT_SET (R519) -/

theorem wdtSetBody_headwater {v : Serving} {s : State} (h : v.target = 0x0100) : wdtSetBody v s = (rc rcDenied, s) := if_pos h

/-- The settings a WDT_SET payload gives a watchdog, which starts from TIMEOUT. -/
def wdtSettings (v : Serving) (w : Wdt) : Wdt :=
  { action := pay v 0 1, timeout := msTicks (pay v 4 4), grace := pay v 8 4, armed := pay v 0 1 != 0, count := msTicks (pay v 4 4), paused := w.paused }

theorem wdtSetBody_sets {v : Serving} {s : State} (hengine : v.target ≠ 0x0100) (haction : pay v 0 1 ≤ 3) (hzero : payZero v 1 4 = true)
    (htimeMin : 1 ≤ pay v 4 4) (htimeMax : pay v 4 4 ≤ 60000) (hgraceMin : 1 ≤ pay v 8 4) (hgraceMax : pay v 8 4 ≤ 10000) :
    wdtSetBody v s = (rc rcDone, modWdt v.target (wdtSettings v) s) := by
  simp only [wdtSetBody, hengine, hzero, Nat.not_lt.mpr haction, Nat.not_lt.mpr htimeMin, Nat.not_lt.mpr htimeMax, Nat.not_lt.mpr hgraceMin,
    Nat.not_lt.mpr hgraceMax, not_true_eq_false, or_self, if_false]
  rfl

/-- Settles O43, by what each command's body answers and does when its checks pass. -/
theorem powerAndTimeCommandsTakeEffect : Obligations.PowerAndTimeCommandsTakeEffect := by
  unfold Obligations.PowerAndTimeCommandsTakeEffect
  refine ⟨?state, ?domain, ?dvfs, ?program, ?time, ?headwater, ?watchdog⟩
  case state =>
    intro v s h hargs hjob hentry
    refine ⟨fun hstate => ?_, fun hstate hmay hsettled => ?_, fun hstate hflows => ?_, fun hstate hflows hprog hrole => ?_⟩
    · exact ⟨wakeMask s, rfl, served_next h ((pwrStateBody_active s hargs hstate).trans (enterActive_wakes hjob hentry))⟩
    · exact served_next h ((pwrStateBody_trim s hargs hstate).trans (enterTrim_starts hjob hentry hmay hsettled))
    · exact ⟨_, served_next h ((pwrStateBody_doze s hargs hstate).trans (enterSleep_doze hjob hentry hflows)), rfl, rfl⟩
    · exact ⟨_, served_next h ((pwrStateBody_stipple s hargs hstate).trans (enterSleep_stipple hjob hentry hflows hprog hrole)), rfl, rfl⟩
  case domain =>
    intro v s h hzero
    refine ⟨fun hfunction hdomain hrange => ?_, fun hfunction hmask hon => ?_, fun hfunction hmask hoff => ?_, fun hfunction hmay hgate hfree => ?_⟩
    · exact served_next h (pwrDomainBody_retention hzero hfunction hdomain hrange)
    · exact served_next h ((pwrDomainBody_on hzero hfunction).trans (domainOnReply_already hmask hon))
    · exact ⟨_, rfl, served_next h ((pwrDomainBody_on hzero hfunction).trans (domainOnReply_powers hmask hoff))⟩
    · exact served_next h ((pwrDomainBody_off hzero hfunction).trans (domainOffReply_done hmay hgate hfree))
  case dvfs =>
    exact fun v s h => ⟨fun hquads hlen hop hbus => served_next h (dvfsSetBody_queues hquads hlen hop hbus),
      fun hbus hzero hlow hhigh => served_next h (dvfsSetBody_pmbus hbus hzero hlow hhigh)⟩
  case program =>
    exact fun v hd img s h hzero hhead hgoodHead hread hgood => served_next h (stippleProgramBody_loads hzero hhead hgoodHead hread hgood)
  case time =>
    intro v s h hzero
    refine ⟨fun hfunction => ?_, fun hfunction => ?_, fun hfunction hidle => ?_⟩
    · refine ⟨_, served_next h (timeSetBody_set hzero hfunction), ?_⟩
      rw [timeSetTo_tbase]
      exact ⟨rfl, rfl⟩
    · refine ⟨_, served_next h (timeSetBody_step hzero hfunction), ?_⟩
      rw [timeStep_tbase]
      exact ⟨rfl, rfl⟩
    · exact ⟨_, served_next h (timeSetBody_trim hzero hfunction hidle), rfl, rfl⟩
  case headwater => exact fun v s h htarget => served_next h (wdtSetBody_headwater htarget)
  case watchdog =>
    intro v s h hengine haction hzero htimeMin htimeMax hgraceMin hgraceMax
    refine ⟨_, served_next h (wdtSetBody_sets hengine haction hzero htimeMin htimeMax hgraceMin hgraceMax), ?_⟩
    have hset : tget (modWdt v.target (wdtSettings v) s).tbase.wdts {} v.target = wdtSettings v (tget s.tbase.wdts {} v.target) := tget_tmod_same ..
    rw [hset]
    exact ⟨rfl, rfl, rfl, rfl, fun k hk => tget_tmod_other _ _ _ _ _ hk⟩

end Sys2Proof.Machine
end

section
/-! Key, tideline, sealed-window, range and link-key commands whose checks pass (R402, R418 to R421, R426, R428, R431, R432). -/

namespace Sys2Proof.Machine
open Sys2Proof

/-! ## KEY_INSTALL (R418) -/

theorem slotOf_of_crypto {s t : State} (h : t.crypto = s.crypto) (k : Nat) : slotOf t k = slotOf s k := by rw [slotOf, slotOf, h]
@[simp] theorem slotOf_setSlot (k : Nat) (x : KeySlot) (s : State) : slotOf (setSlot k x s) k = x := tget_tset_same ..
theorem slotOf_setSlot_other {k j : Nat} (x : KeySlot) (s : State) (h : j ≠ k) : slotOf (setSlot k x s) j = slotOf s j := tget_tset_other _ _ _ _ _ h

/-- Whether the pair is linked is a matter of Twin and of its port. -/
theorem pairLinked_of_parts {s t : State} (htwin : t.twin = s.twin) (hdelta : t.delta = s.delta) : pairLinked t = pairLinked s := by
  rw [pairLinked, pairLinked, htwin, portOf_of_delta hdelta]

/-- A key goes out to a linked partner of a pair that mirrors keys, and to no other (Table 6.10). -/
theorem mirrorKey_outbox (m : MirrorItem) (s : State) :
    (mirrorKey m s).twin.outbox = if s.twin.mirrorKeys ∧ pairLinked s = true then s.twin.outbox ++ [.item m] else s.twin.outbox := by
  by_cases hkeys : s.twin.mirrorKeys = true
  · by_cases hlinked : pairLinked s = true
    · simp [mirrorKey, mirrorItem, when_, hkeys, hlinked]
    · simp [mirrorKey, mirrorItem, when_, hlinked]
  · simp [mirrorKey, when_, hkeys]

/-- The key that a blob holds, as a slot keeps it. -/
def installedSlot (v : Serving) (k : List Byte) : KeySlot := { st := .installed, sealedMode := pay v 0 1 == 1, key := k }

/-- A key enters its slot, with its event. -/
def placeKey (v : Serving) (k : List Byte) (s : State) : State := keyEv v.target 1 (setSlot v.target (installedSlot v k) s)

theorem keyEv_undisturbed (kid cause : Nat) (s : State) : Undisturbed s (keyEv kid cause s) := raiseEv_undisturbed ..

theorem placeKey_crypto (v : Serving) (k : List Byte) (s : State) : (placeKey v k s).crypto = (setSlot v.target (installedSlot v k) s).crypto :=
  (keyEv_undisturbed ..).crypto
theorem placeKey_twin (v : Serving) (k : List Byte) (s : State) : (placeKey v k s).twin = s.twin := keyEv_part (sp := .twin) _ _ _ (by decide) (by decide)
theorem placeKey_delta (v : Serving) (k : List Byte) (s : State) : (placeKey v k s).delta = s.delta := (keyEv_undisturbed ..).delta

/-- A key enters its slot and goes to the partner. -/
def installKey (v : Serving) (k : List Byte) (s : State) : State := mirrorKey (.keySlot v.target (pay v 0 1 == 1) k) (placeKey v k s)

theorem slotOf_installKey (v : Serving) (k : List Byte) (s : State) (j : Nat) :
    slotOf (installKey v k s) j = slotOf (setSlot v.target (installedSlot v k) s) j :=
  slotOf_of_crypto ((mirrorKey_part (sp := .crypto) _ _ (by decide)).trans (placeKey_crypto v k s)) j

theorem installKey_outbox (v : Serving) (k : List Byte) (s : State) : (installKey v k s).twin.outbox =
    if s.twin.mirrorKeys ∧ pairLinked s = true then s.twin.outbox ++ [.item (.keySlot v.target (pay v 0 1 == 1) k)] else s.twin.outbox := by
  rw [installKey, mirrorKey_outbox, pairLinked_of_parts (placeKey_twin v k s) (placeKey_delta v k s), placeKey_twin]

/-- The fields, the life-cycle state, the bank, the slot and the window permit a KEY_INSTALL. -/
structure KeyInstallOk (v : Serving) (s : State) : Prop where
  mode : pay v 0 1 ≤ 1
  kek : pay v 1 1 ≤ 15
  zero : payZero v 2 8 = true
  allowed : keysDenied s = false
  writable : bankHeld s = false
  empty : (slotOf s v.target).st = .empty
  window : pay v 0 1 = 1 → windowReady s = true

/-- What is left of a KEY_INSTALL whose checks pass, once the CRYPTO domain is on and the blob is read. -/
theorem KeyInstallOk.body {v : Serving} {s w : State} {blob : List Byte} (h : KeyInstallOk v s) (hwake : wakeFor 82 s = some w)
    (hread : hwRead w (pay v 8 8) (if pay v 0 1 = 1 then 104 else 72) = some blob) (k : Option (List Byte))
    (hunwrap : Config.keyUnwrap (Config.kek (pay v 1 1)) blob = k) :
    keyInstallBody v s = k.elim (failedAt 0 8, w) (fun key => (rc rcDone, installKey v key w)) := by
  have hwindow : ¬ (pay v 0 1 = 1 ∧ ¬ windowReady s = true) := fun hbad => hbad.2 (h.window hbad.1)
  simp only [keyInstallBody, Nat.not_lt.mpr h.mode, Nat.not_lt.mpr h.kek, h.zero, h.allowed, h.writable, h.empty, hwindow, hwake, hread, hunwrap, ne_eq,
    not_true_eq_false, Bool.false_eq_true, or_self, if_false]
  cases k <;> rfl

/-! ## KEY_RETIRE (R419, R420) -/

/-- A retiring key takes no new request, and what waits under it is flushed. -/
def retireKey (v : Serving) (s : State) : State :=
  writeBackKey ((slotOf s v.target).key.take 64) (forAll (List.range 16) (fun u c => flushWhere c (fun e => e.kid == v.target) u)
    (setSlot v.target { slotOf s v.target with st := .retiring, job := some s.ferry.nextJob } (startJob v v.target s).2))

theorem keyRetireBody_retires {v : Serving} {s : State} (hlife : s.dbg.fuses.life ≠ .retired) (hinstalled : (slotOf s v.target).st = .installed)
    (hfree : tideNames s v.target = false) : keyRetireBody v s = (rc rcAccepted, retireKey v s) := by
  simp only [keyRetireBody, hlife, hinstalled, hfree, ne_eq, not_true_eq_false, Bool.false_eq_true, or_self, if_false]
  rfl

/-! ## TIDELINE_START, TIDELINE_STATUS (R421, R426) -/

/-- A KID that a tideline may name: 0, or an installed key. -/
def KidFits (s : State) (k : Nat) : Prop := k = 0 ∨ (k ≤ 55 ∧ (slotOf s k).st = .installed)

theorem KidFits.passes {s : State} {k : Nat} (h : KidFits s k) : (k != 0 && (decide (55 < k) || (slotOf s k).st != .installed)) = false := by
  rcases h with rfl | ⟨hrange, hinstalled⟩
  · rfl
  · simp [hrange, hinstalled]

/-- The fields of a TIDELINE_START are in range, and its lines lie in the map and on one side of the sealed window. -/
structure TideArgsOk (v : Serving) (s : State) : Prop where
  differ : pay v 0 1 ≠ pay v 1 1
  rateMin : 1 ≤ pay v 2 1
  rateMax : pay v 2 1 ≤ 4
  zero : payZero v 3 8 = true
  start : pay v 8 8 % 64 = 0
  length : pay v 16 8 % 64 = 0
  nonempty : pay v 16 8 ≠ 0
  map : inMap s (pay v 8 8) (pay v 16 8) = true
  apart : crossesWindow s (pay v 8 8) (pay v 16 8) = false

/-- The tideline is unbound, both KIDs are keys of one mode, and that mode fits the range. -/
structure TideKeysOk (v : Serving) (s : State) : Prop where
  unbound : (tideOf s (v.target - 56)).st = .unbound
  old : KidFits s (pay v 0 1)
  new : KidFits s (pay v 1 1)
  mode : (slotOf s (pay v 0 1)).sealedMode = (slotOf s (pay v 1 1)).sealedMode
  fits : modeFits s (tideMode s (pay v 0 1) (pay v 1 1)) (pay v 8 8) = true

/-- The tideline a TIDELINE_START payload describes, at the start of its range. -/
def tideOfPayload (v : Serving) (job now : Nat) : Tide :=
  { st := .running, old := pay v 0 1, new := pay v 1 1, rate := pay v 2 1, start := pay v 8 8, length := pay v 16 8,
    boundary := pay v 8 8, job := job, last := now - usCycles }

/-- A channel learns the boundary of a tideline. -/
def setBound (i a : Nat) (s : State) (c : Nat) : State := modDchX c (fun x => { x with bounds := tset x.bounds i a }) s

/-- A tideline starts, and every channel knows its boundary. -/
def beginTide (v : Serving) (s : State) : State :=
  forAll (List.range 16) (setBound (v.target - 56) (pay v 8 8))
    (modTide (v.target - 56) (fun _ => tideOfPayload v s.ferry.nextJob s.time) (startJob v v.target s).2)

theorem tideOf_beginTide (v : Serving) (s : State) : tideOf (beginTide v s) (v.target - 56) = tideOfPayload v s.ferry.nextJob s.time := by
  rw [beginTide, tideOf_of_crypto (forAll_keeps State.crypto _ (setBound _ _) _ fun _ _ => rfl), tideOf_modTide]

theorem tideStartBody_starts {v : Serving} {s : State} (hargs : TideArgsOk v s) (hpart : noCrypto s = false) (hkeys : TideKeysOk v s)
    (hapart : s.crypto.tides.any (fun t => t.2.st != .unbound && overlaps (pay v 8 8) (pay v 16 8) t.2.start t.2.length) = false) :
    tideStartBody v s = (rc rcAccepted, beginTide v s) := by
  simp only [tideStartBody, hargs.differ, Nat.not_lt.mpr hargs.rateMin, Nat.not_lt.mpr hargs.rateMax, hargs.zero, hargs.start, hargs.length, hargs.nonempty,
    hargs.map, hargs.apart, hpart, hkeys.unbound, hkeys.old.passes, hkeys.new.passes, hkeys.mode, hkeys.fits, hapart, ne_eq, not_true_eq_false,
    Bool.false_eq_true, or_self, if_false]
  rfl

theorem tideStatusBody_query {v : Serving} (s : State) (hfunction : pay v 0 1 = 0) :
    tideStatusBody v s = ({ code := rcDone, result := tideResult (tideOf s (v.target - 56)) }, s) := by
  simp only [tideStatusBody, hfunction]

theorem tideStatusBody_pause {v : Serving} {s : State} (hfunction : pay v 0 1 = 1) (hrunning : (tideOf s (v.target - 56)).st = .running) :
    tideStatusBody v s = (rc rcDone, modTide (v.target - 56) (fun x => { x with st := .paused }) s) := by
  simp only [tideStatusBody, hfunction, hrunning, if_true]

theorem tideStatusBody_resume {v : Serving} {s : State} (hfunction : pay v 0 1 = 2) (hpaused : (tideOf s (v.target - 56)).st = .paused) :
    tideStatusBody v s = (rc rcDone, modTide (v.target - 56) (fun x => { x with st := .running }) s) := by
  simp only [tideStatusBody, hfunction, hpaused, if_true]

theorem tideStatusBody_release {v : Serving} {s : State} (hfunction : pay v 0 1 = 3) (hover : (tideOf s (v.target - 56)).st = .done) :
    tideStatusBody v s = (rc rcDone, modTide (v.target - 56) (fun _ => {}) s) := by
  simp only [tideStatusBody, hfunction, hover, if_true]

/-! ## SEAL_WINDOW (R402) -/

/-- The window is set, not ready, with a tree key of its own. -/
def placeWindow (v : Serving) (s : State) : State :=
  modCrypto (freshNat (startJob v 0 s).2).2 (fun c =>
    { c with window := some (pay v 8 8, pay v 16 8, false), treeKey := (freshNat (startJob v 0 s).2).1, sealJob := some s.ferry.nextJob })

/-- Emptying the counter stores leaves the rest of the secure bank. -/
theorem clearCounters_crypto (s : State) :
    (clearCounters s).crypto = { s.crypto with pages := [], roots := [], cache := [], cacheDirty := [], tree := [] } :=
  forAll_keeps State.crypto _ _ _ fun _ _ => rfl

section
variable {v : Serving} {s : State} (hpart : noCrypto s = false) (hzero : payZero v 1 8 = true) (hidle : s.crypto.sealJob = none)
include hpart hzero hidle

theorem sealWindowBody_removes (hfunction : pay v 0 1 = 1) (hfree : windowInUse s 0 0 = false) :
    sealWindowBody v s = (rc rcDone, modCrypto s (fun c => { c with window := none })) := by
  simp [sealWindowBody, hpart, hzero, hidle, hfunction, hfree]

theorem sealWindowBody_sets {w : State} (hfunction : pay v 0 1 = 0) (hargs : windowArgs s (pay v 8 8) (pay v 16 8) = true)
    (hfree : windowInUse s (pay v 8 8) (pay v 16 8) = false) (hwake : wakeFor 82 s = some w) :
    sealWindowBody v s = (rc rcAccepted, clearCounters (placeWindow v w)) := by
  simp only [sealWindowBody, hpart, hzero, hidle, hfunction, hargs, hfree, hwake, Nat.not_lt_zero, not_true_eq_false, and_false, Bool.false_eq_true,
    Option.isSome_none, or_self, zero_ne_one, if_true, if_false]
  rfl

end

/-! ## PROTECT_RANGE (R428) -/

/-- The range a PROTECT_RANGE payload describes. -/
def rangeOfPayload (v : Serving) : Protect :=
  { enable := bit (pay v 0 1) 0, lock := bit (pay v 0 1) 1, start := pay v 8 8, length := pay v 16 8 }

theorem protectBody_stores {v : Serving} {s : State} (hunlocked : (tget s.crypto.ranges {} v.target).lock = false) (hflags : pay v 0 1 ≤ 3)
    (hzero : payZero v 1 8 = true)
    (henabled : bit (pay v 0 1) 0 = true → pay v 16 8 ≠ 0 ∧ pay v 8 8 % 4096 = 0 ∧ pay v 16 8 % 4096 = 0 ∧ protectSpan (pay v 8 8) (pay v 16 8) = true) :
    protectBody v s = (rc rcDone, modCrypto s (fun c => { c with ranges := tset c.ranges v.target (rangeOfPayload v) })) := by
  have hrange : ¬ (bit (pay v 0 1) 0 = true ∧ (pay v 16 8 = 0 ∨ pay v 8 8 % 4096 ≠ 0 ∨ pay v 16 8 % 4096 ≠ 0 ∨
      ¬ protectSpan (pay v 8 8) (pay v 16 8) = true)) := by
    rintro ⟨henable, hbad⟩
    obtain ⟨hsome, hstart, hlength, hspan⟩ := henabled henable
    simp [hsome, hstart, hlength, hspan] at hbad
  simp only [protectBody, hunlocked, Nat.not_lt.mpr hflags, hzero, hrange, not_true_eq_false, Bool.false_eq_true, or_self, if_false]
  rfl

/-! ## LINK_KEY (R431, R432) -/

/-- A link slot takes what it is given, and so does the partner's (Table 6.10). -/
def placeLinkKey (v : Serving) (key : List Byte) (salt : Nat) (x : LinkSlot) (s : State) : State :=
  mirrorKey (.linkKey v.target (pay v 1 1) (pay v 2 1) key salt) (modLinkSlot v.target (pay v 1 1) (pay v 2 1) (fun _ => x) s)

section
variable {v : Serving} {s : State}

theorem linkInstall_installs {blob : List Byte} (hfree : linkSlotBusy s v.target (pay v 1 1) (pay v 2 1) = false)
    (hread : hwRead s (pay v 8 8) 40 = some blob) (k : Option (List Byte)) (hunwrap : Config.keyUnwrap (Config.kek (pay v 3 1)) blob = k) :
    linkInstall v s =
      k.elim (failedAt 0 8, s) (fun key => (rc rcDone, placeLinkKey v key (pay v 4 3) { key := key, salt := pay v 4 3 } s)) := by
  simp only [linkInstall, hfree, hread, hunwrap, Bool.false_eq_true, if_false]
  cases k <;> rfl

theorem linkSwitch_waits (hencrypt : (portOf s v.target).encrypt = true) (hkey : (linkSlot s v.target 0 (1 - (portOf s v.target).keysel)).key ≠ []) :
    linkSwitch v s = (rc rcDone, waitFor 1 (modCrypto s (fun c => { c with switching := ladd c.switching v.target }))) := by
  simp only [linkSwitch, hencrypt, hkey, not_true_eq_false, or_self, if_false]

/-- The fields, the life-cycle state and the bank permit a LINK_KEY. -/
structure LinkKeyOk (v : Serving) (s : State) : Prop where
  dir : pay v 1 1 ≤ 1
  slot : pay v 2 1 ≤ 1
  kek : pay v 3 1 ≤ 15
  zero : payZero v 7 8 = true
  allowed : keysDenied s = false
  writable : bankHeld s = false

/-- What is left of a LINK_KEY once its checks pass. -/
theorem LinkKeyOk.body (h : LinkKeyOk v s) (hfunction : pay v 0 1 ≤ 2) :
    linkKeyBody v s =
      if pay v 0 1 = 0 then linkInstall v s
      else if pay v 0 1 = 1 then linkSwitch v s
      else if linkSlotBusy s v.target (pay v 1 1) (pay v 2 1) then (rc rcBusy, s)
      else (rc rcDone, placeLinkKey v [] 0 {} s) := by
  simp only [linkKeyBody, Nat.not_lt.mpr hfunction, Nat.not_lt.mpr h.dir, Nat.not_lt.mpr h.slot, Nat.not_lt.mpr h.kek, h.zero, h.allowed, h.writable,
    not_true_eq_false, Bool.false_eq_true, or_self, and_false, if_false]
  rfl

theorem linkKeyBody_install (h : LinkKeyOk v s) (hfunction : pay v 0 1 = 0) : linkKeyBody v s = linkInstall v s := by
  rw [h.body (by omega), if_pos hfunction]

theorem linkKeyBody_switch (h : LinkKeyOk v s) (hfunction : pay v 0 1 = 1) : linkKeyBody v s = linkSwitch v s := by
  rw [h.body (by omega), if_neg (by omega), if_pos hfunction]

theorem linkKeyBody_clear (h : LinkKeyOk v s) (hfunction : pay v 0 1 = 2) (hfree : linkSlotBusy s v.target (pay v 1 1) (pay v 2 1) = false) :
    linkKeyBody v s = (rc rcDone, placeLinkKey v [] 0 {} s) := by
  rw [h.body (by omega), if_neg (by omega), if_neg (by omega), hfree]
  rfl

end

/-- Settles O38, by what each command's body answers and does when its checks pass. -/
theorem keysTidelinesAndRangesTakeEffect : Obligations.KeysTidelinesAndRangesTakeEffect := by
  unfold Obligations.KeysTidelinesAndRangesTakeEffect
  refine ⟨?install, ?retire, ?start, ?status, ?window, ?range, ?linkKey⟩
  case install =>
    intro v blob s w h hmode hkek hzero hallowed hwritable hempty hwindow hwake hread
    have hbody := KeyInstallOk.body ⟨hmode, hkek, hzero, hallowed, hwritable, hempty, hwindow⟩ hwake hread
    cases hunwrap : Config.keyUnwrap (Config.kek (pay v 1 1)) blob with
    | none => exact served_next h (hbody none hunwrap)
    | some k =>
      refine ⟨installKey v k w, served_next h (hbody (some k) hunwrap), ?_, fun j hj => ?_, installKey_outbox v k w⟩
      · rw [slotOf_installKey, slotOf_setSlot, installedSlot]
      · rw [slotOf_installKey, slotOf_setSlot_other _ _ hj]
  case retire => exact fun v s h hlife hinstalled hfree => served_next h (keyRetireBody_retires hlife hinstalled hfree)
  case start =>
    intro v s h hdiffer hmin hmax hzero hstart hlength hsome hmap hwindow hpart hunbound hkids hmode hfits hapart
    have hold : KidFits s (pay v 0 1) := hkids _ (by simp)
    have hnew : KidFits s (pay v 1 1) := hkids _ (by simp)
    exact ⟨beginTide v s, served_next h (tideStartBody_starts ⟨hdiffer, hmin, hmax, hzero, hstart, hlength, hsome, hmap, hwindow⟩ hpart
      ⟨hunbound, hold, hnew, hmode, hfits⟩ hapart), tideOf_beginTide v s⟩
  case status =>
    exact fun v s h => ⟨fun hfunction => served_next h (tideStatusBody_query s hfunction),
      fun hfunction hrunning => served_next h (tideStatusBody_pause hfunction hrunning),
      fun hfunction hpaused => served_next h (tideStatusBody_resume hfunction hpaused),
      fun hfunction hover => served_next h (tideStatusBody_release hfunction hover)⟩
  case window =>
    intro v s w h hpart hzero hidle
    refine ⟨fun hfunction hfree => served_next h (sealWindowBody_removes hpart hzero hidle hfunction hfree), fun hfunction hargs hfree hwake => ?_⟩
    refine ⟨_, served_next h (sealWindowBody_sets hpart hzero hidle hfunction hargs hfree hwake), ?_⟩
    rw [clearCounters_crypto]
    exact ⟨rfl, rfl, rfl, rfl, rfl⟩
  case range =>
    intro v s h hunlocked hflags hzero henabled
    exact ⟨_, served_next h (protectBody_stores hunlocked hflags hzero henabled), tget_tset_same .., fun j hj => tget_tset_other _ _ _ _ _ hj⟩
  case linkKey =>
    intro v s h hdir hslot hkek hzero hallowed hwritable
    have hok : LinkKeyOk v s := ⟨hdir, hslot, hkek, hzero, hallowed, hwritable⟩
    refine ⟨fun blob hfunction hfree hread => ?_, fun hfunction hencrypt hkey => ?_, fun hfunction hfree => ?_⟩
    · have hbody := fun k hunwrap => served_next h ((linkKeyBody_install hok hfunction).trans (linkInstall_installs hfree hread k hunwrap))
      cases hunwrap : Config.keyUnwrap (Config.kek (pay v 3 1)) blob with
      | none => exact hbody none hunwrap
      | some key => exact hbody (some key) hunwrap
    · exact served_next h ((linkKeyBody_switch hok hfunction).trans (linkSwitch_waits hencrypt hkey))
    · exact served_next h (linkKeyBody_clear hok hfunction hfree)

end Sys2Proof.Machine
end

section
/-! Reach, hatch, scrub and Backwater commands whose checks pass (R457, R460, R467, R468, R471, R479, R487, R493). -/

namespace Sys2Proof.Machine
open Sys2Proof

/-! ## Reaches (Table 11.9) -/

theorem reachOf_of_fabric {s t : State} (h : t.fabric = s.fabric) (n : Nat) : reachOf t n = reachOf s n := by rw [reachOf, reachOf, h]

@[simp] theorem reachOf_reachEv (n cause sev : Nat) (detail : List Byte) (s : State) (m : Nat) : reachOf (reachEv n cause sev detail s) m = reachOf s m :=
  reachOf_of_fabric (reachEv_part (sp := .fabric) _ _ _ _ _ (by decide) (by decide)) m

@[simp] theorem reachOf_openGate (g : Nat) (s : State) (n : Nat) : reachOf (openGate g s) n = reachOf s n :=
  reachOf_of_fabric (openGate_part (sp := .fabric) _ _ (by decide) (by decide) (by decide) (by decide) (by decide)) n

@[simp] theorem reachOf_releaseReach (n : Nat) (s : State) :
    reachOf (releaseReach n s) n = { reachOf s n with st := .active, stage1 := false, stage2 := false, regionalClocks := true } := by
  rw [releaseReach, reachOf_openGate, reachOf_modReach]

/-! ## REACH_LOAD (R457) -/

/-- The fields of a REACH_LOAD are in range, and no load is under way, due or waiting. -/
structure ReachLoadOk (v : Serving) (s : State) : Prop where
  flags : pay v 1 1 ≤ 3
  zero : payZero v 2 8 = true
  source : loadSourceOk (pay v 0 1) (pay v 8 8) = true
  idle : s.fabric.load = none
  noReload : s.fabric.reloads = []
  booted : initialBusy s = false
  port : pay v 0 1 = 1 → flashHeld s = false

/-- An encrypted image is loaded only where the part has its crypto and the bank has not been zeroized. -/
def KeysServe (s : State) (h : List Byte) : Prop := bit (leAt h 7 1) 0 = true → noCrypto s = false ∧ s.crypto.zeroized = false

section
variable {v : Serving} {s w : State} {h : List Byte}

theorem KeysServe.not_zeroized (hkeys : KeysServe s h) : ¬ (bit (leAt h 7 1) 0 = true ∧ s.crypto.zeroized = true) :=
  fun hbad => Bool.false_ne_true ((hkeys hbad.1).2.symm.trans hbad.2)

theorem KeysServe.not_absent (hkeys : KeysServe s h) : ¬ (bit (leAt h 7 1) 0 = true ∧ noCrypto s = true) :=
  fun hbad => Bool.false_ne_true ((hkeys hbad.1).1.symm.trans hbad.2)

/-- A REACH_LOAD whose header is read goes on by what it loads: the whole fabric, or one reach. -/
theorem ReachLoadOk.body (hok : ReachLoadOk v s) (hread : rawImage s (pay v 0 1) (pay v 8 8) 0 96 = some h)
    (hsettled : v.target < 16 → (reachOf s v.target).st ≠ .loading ∧ (reachOf s v.target).st ≠ .isolating) :
    reachLoadBody v s = if v.target = 31 then loadFull v h s else loadReach v h s := by
  have hport : ¬ (pay v 0 1 = 1 ∧ flashHeld s = true) := fun hbad => Bool.false_ne_true ((hok.port hbad.1).symm.trans hbad.2)
  have hstate : ¬ (v.target < 16 ∧ ((reachOf s v.target).st = .loading ∨ (reachOf s v.target).st = .isolating)) :=
    fun hbad => hbad.2.elim (hsettled hbad.1).1 (hsettled hbad.1).2
  simp only [reachLoadBody, Nat.not_lt.mpr hok.flags, hok.zero, hok.source, hok.idle, hok.noReload, hok.booted, hport, hstate, hread, Option.isSome_none,
    List.isEmpty_nil, not_true_eq_false, Bool.false_eq_true, or_self, if_false]

/-- The load that a REACH_LOAD of the whole fabric describes. -/
def fullLoadOf (v : Serving) (h : List Byte) : Load := withHeader { target := 31, full := true, source := pay v 0 1, addr := pay v 8 8 } h

/-- The load that a REACH_LOAD of one reach describes. -/
def reachLoadOf (v : Serving) (h : List Byte) : Load :=
  withHeader { target := v.target, source := pay v 0 1, addr := pay v 8 8, release := bit (pay v 1 1) 0, force := bit (pay v 1 1) 1 } h

theorem loadFull_begins (hfresh : s.fabric.cfgDone = false) (hgood : headerOk true h = true) (hall : leAt h 8 1 = 0xFF) (hkeys : KeysServe s h)
    (hwake : wakeFor 83 s = some w) :
    loadFull v h s = (rc rcAccepted, beginLoad { fullLoadOf v h with job := some w.ferry.nextJob } (startJob v 31 w).2) := by
  simp only [loadFull, withHeader, hfresh, hgood, hall, hkeys.not_zeroized, hkeys.not_absent, hwake, ne_eq, not_true_eq_false, Bool.false_eq_true, or_self,
    if_false]
  rfl

/-- The load command of a reach starts its job and records where its image is. -/
def recordImage (v : Serving) (w : State) : State :=
  modReach v.target (fun r => { r with recorded := some (pay v 0 1, pay v 8 8), rstSince := none }) (startJob v v.target w).2

/-- A reach load starts: an ACTIVE reach isolates first, another one's Ferry channel is reset and its frames are written. -/
def startReachLoad (v : Serving) (l : Load) (before : ReachState) (u : State) : State :=
  if before = .active then isolateReach v.target .load l.force none (modFabric u (fun g => { g with load := some l }))
  else beginLoad l (senderResetChan (106 + v.target) u)

theorem loadReach_starts (hloading : (reachOf s v.target).st ≠ .loading) (hisolating : (reachOf s v.target).st ≠ .isolating)
    (hgood : headerOk false h = true) (hshell : leAt h 0x18 8 = s.fabric.shellId) (hdone : s.fabric.cfgDone = true) (hmine : leAt h 8 1 = v.target)
    (hkeys : KeysServe s h) (hwake : wakeFor (30 + v.target) s = some w) :
    loadReach v h s = (rc rcAccepted,
      startReachLoad v { reachLoadOf v h with job := some w.ferry.nextJob } (reachOf s v.target).st (recordImage v w)) := by
  have hjob : startJob v v.target w = (w.ferry.nextJob, (startJob v v.target w).2) := rfl
  rw [recordImage]
  generalize (startJob v v.target w).2 = t at hjob ⊢
  simp only [loadReach, startReachLoad, reachLoadOf, withHeader, hloading, hisolating, hgood, hshell, hdone, hmine, hkeys.not_zeroized, hkeys.not_absent,
    hwake, hjob, ne_eq, not_true_eq_false, or_self, if_false]
  split <;> rfl

/-! ## REACH_ISOLATE, REACH_RELEASE (R460) -/

theorem reachIsolateBody_isolates (hfield : pay v 0 1 ≤ 1) (hbooted : initialBusy s = false) (hactive : (reachOf s v.target).st = .active) :
    reachIsolateBody v s =
      (rc rcAccepted, isolateReach v.target .isolate (bit (pay v 0 1) 0) (some s.ferry.nextJob) (startJob v v.target s).2) := by
  simp only [reachIsolateBody, Nat.not_lt.mpr hfield, hbooted, hactive, ne_eq, not_true_eq_false, Bool.false_eq_true, if_false]
  rfl

theorem reachReleaseBody_releases (hbooted : initialBusy s = false) (hisolated : (reachOf s v.target).st = .isolated)
    (hquiet : (reachOf s v.target).rstSince = none) :
    reachReleaseBody v s = (rc rcDone, reachEv v.target 4 0 [] (releaseReach v.target s)) := by
  simp only [reachReleaseBody, hbooted, hisolated, hquiet, Option.isSome_none, ne_eq, not_true_eq_false, Bool.false_eq_true, if_false]

/-! ## HATCH_LOAD, SCRUB_SET, REACH_STATUS (R466 to R468, R471) -/

/-- The address of a HATCH_LOAD is aligned, and its whole portion lies in memory, outside the sealed window. -/
structure HatchArgsOk (v : Serving) (s : State) : Prop where
  zero : payZero v 0 8 = true
  aligned : pay v 8 8 % 64 = 0
  first : loadSourceOk 0 (pay v 8 8) = true
  last : loadSourceOk 0 (pay v 8 8 + 294943) = true
  apart : meetsSealed s (pay v 8 8) 294944 = false

/-- What a HATCH_LOAD makes of the portion it reads: a good one is bound. -/
def bindHatch (v : Serving) (s : State) (portion : Option (List Byte)) : Reply × State :=
  match portion with
  | none => (failedRead, s)
  | some img =>
    match hatchBad v.target (reachOf s v.target).designId img with
    | some o => (failedAt o 4, s)
    | none => (rc rcDone, modReach v.target (fun x => { x with hatch := some (pay v 8 8) }) s)

theorem bindHatch_bad {img : List Byte} {o : Nat} (hbad : hatchBad v.target (reachOf s v.target).designId img = some o) :
    bindHatch v s (some img) = (failedAt o 4, s) := by
  simp only [bindHatch, hbad]

theorem bindHatch_good {img : List Byte} (hgood : hatchBad v.target (reachOf s v.target).designId img = none) :
    bindHatch v s (some img) = (rc rcDone, modReach v.target (fun x => { x with hatch := some (pay v 8 8) }) s) := by
  simp only [bindHatch, hgood]

theorem HatchArgsOk.body (hargs : HatchArgsOk v s) (hbooted : initialBusy s = false)
    (hstate : (reachOf s v.target).st = .isolating ∨ (reachOf s v.target).st = .isolated ∨ (reachOf s v.target).st = .active) :
    hatchBody v s = bindHatch v s (hwRead s (pay v 8 8) 294944) := by
  simp only [hatchBody, hargs.zero, hargs.aligned, hargs.first, hargs.last, hargs.apart, hbooted, hstate, ne_eq, not_true_eq_false, Bool.false_eq_true,
    or_self, if_false]
  -- With the read itself in the goal, the two matches are compared by computing its 294 944 bytes.
  cases hwRead s (pay v 8 8) 294944 <;> rfl

theorem scrubSetBody_stores (hmin : 10 ≤ pay v 0 2) (hmax : pay v 0 2 ≤ 10000) (henable : pay v 2 1 ≤ 1) (hzero : payZero v 3 4 = true)
    (hbooted : initialBusy s = false) :
    scrubSetBody v s = (rc rcDone, modFabric s (fun f =>
      { f with scrub := { f.scrub with next := some { passMs := pay v 0 2, enable := bit (pay v 2 1) 0, policy := pay v 4 4 } } })) := by
  simp only [scrubSetBody, Nat.not_lt.mpr hmin, Nat.not_lt.mpr hmax, Nat.not_lt.mpr henable, hzero, hbooted, not_true_eq_false, Bool.false_eq_true, or_self,
    if_false]

theorem reachStatusBody_reads (s : State) (hkeep : pay v 0 1 = 0) :
    reachStatusBody v s = ({ code := rcDone, result := reachResult s v.target }, s) := by
  simp [reachStatusBody, hkeep]

theorem reachStatusBody_clears (s : State) (hclear : pay v 0 1 = 1) :
    reachStatusBody v s =
      ({ code := rcDone, result := reachResult s v.target }, modReach v.target (fun r => { r with benign := 0, critical := 0, uncorr := 0 }) s) := by
  simp [reachStatusBody, hclear]

/-! ## BW_INIT, BW_CONNECT, BW_STATUS (R479, R487, R493) -/

/-- The fields of a BW_INIT are in range, its rail is up and no BW_INIT waits for its lock. -/
structure BwInitOk (v : Serving) (s : State) : Prop where
  source : pay v 0 1 ≤ 2
  braid : pay v 1 1 ≤ 1
  zero : payZero v 2 8 = true
  addr : bit (pay v 8 8) 62 = false
  rail : s.power.railsOut.contains .bw = false
  idle : s.bwx.initJob = none

/-- A BW_INIT whose checks pass releases the interface, or starts it with a job held. -/
theorem BwInitOk.body (hok : BwInitOk v s) (hwake : wakeFor 84 s = some w) :
    bwInitBody v s =
      if pay v 0 1 = 2 then (rc rcDone, bwRelease w) else (rc rcAccepted, bwStart v w.ferry.nextJob (startJob v 84 w).2) := by
  simp only [bwInitBody, Nat.not_lt.mpr hok.source, Nat.not_lt.mpr hok.braid, hok.zero, hok.addr, hok.rail, hok.idle, hwake, Option.isSome_none,
    not_true_eq_false, Bool.false_eq_true, or_self, if_false]
  rfl

/-- The batch of changes that a BW_CONNECT brings. -/
def connBatch (v : Serving) (s : State) : BwBatch := { conns := (List.range (pay v 0 1)).map (connEntry v), job := s.ferry.nextJob, at_ := s.time }

theorem bwConnectBody_waits (hmin : 1 ≤ pay v 0 1) (hmax : pay v 0 1 ≤ 13) (hzero : payZero v 1 4 = true) (hrest : payZero v (4 + 4 * pay v 0 1) 56 = true)
    (hgood : (List.range (pay v 0 1)).any (connBad v) = false) (hstarted : s.bw.st ≠ .uninit) :
    bwConnectBody v s = (rc rcAccepted, modBw (startJob v 84 s).2 (fun b => { b with batches := b.batches ++ [connBatch v s] })) := by
  simp only [bwConnectBody, Nat.ne_of_gt hmin, Nat.not_lt.mpr hmax, hzero, hrest, hgood, hstarted, not_true_eq_false, Bool.false_eq_true, or_self, if_false]
  rfl

theorem bwStatusBody_reads (s : State) (hkeep : pay v 0 1 = 0) : bwStatusBody v s = ({ code := rcDone, result := bwResult s }, s) := by
  simp [bwStatusBody, hkeep]

theorem bwStatusBody_clears (s : State) (hclear : pay v 0 1 = 1) :
    bwStatusBody v s = ({ code := rcDone, result := bwResult s }, modBw s (fun b => { b with syncErr := 0, lateFrame := 0, lateWrite := 0 })) := by
  simp [bwStatusBody, hclear]

end

/-- Settles O40, by what each command's body answers and does when its checks pass. -/
theorem reachAndBackwaterCommandsTakeEffect : Obligations.ReachAndBackwaterCommandsTakeEffect := by
  unfold Obligations.ReachAndBackwaterCommandsTakeEffect
  refine ⟨?load, ?isolate, ?release, ?hatch, ?scrub, ?status, ?bwInit, ?bwConnect, ?bwStatus⟩
  case load =>
    intro v h s w hserved hflags hzero hsource hidle hnoReload hbooted hport hread hkeys
    have hok : ReachLoadOk v s := ⟨hflags, hzero, hsource, hidle, hnoReload, hbooted, hport⟩
    refine ⟨fun hwhole hfresh hgood hall hwake => ?_, fun hreach hloading hisolating hgood hshell hdone hmine hwake => ?_⟩
    · have hbody := (hok.body hread (fun hlt => by omega)).trans (if_pos hwhole)
      exact served_next hserved (hbody.trans (loadFull_begins hfresh hgood hall hkeys hwake))
    · have hbody := (hok.body hread (fun _ => ⟨hloading, hisolating⟩)).trans (if_neg (by omega))
      refine ⟨recordImage v w, ?_, served_next hserved (hbody.trans (loadReach_starts hloading hisolating hgood hshell hdone hmine hkeys hwake))⟩
      rw [recordImage, reachOf_modReach]
  case isolate => exact fun v s h hfield hbooted hactive => served_next h (reachIsolateBody_isolates hfield hbooted hactive)
  case release =>
    intro v s h hbooted hisolated hquiet
    refine ⟨_, served_next h (reachReleaseBody_releases hbooted hisolated hquiet), ?_⟩
    rw [reachOf_reachEv, reachOf_releaseReach]
    exact ⟨rfl, rfl, rfl⟩
  case hatch =>
    intro v s h hzero haligned hfirst hlast hapart hbooted hstate
    have hbody := HatchArgsOk.body ⟨hzero, haligned, hfirst, hlast, hapart⟩ hbooted hstate
    cases hread : hwRead s (pay v 8 8) 294944 with
    | none => exact served_next h (hbody.trans (congrArg (bindHatch v s) hread))
    | some img =>
      rw [hread] at hbody
      dsimp only
      cases hbad : hatchBad v.target (reachOf s v.target).designId img with
      | some o => exact served_next h (hbody.trans (bindHatch_bad hbad))
      | none => exact served_next h (hbody.trans (bindHatch_good hbad))
  case scrub =>
    exact fun v s h hmin hmax henable hzero hbooted => ⟨_, served_next h (scrubSetBody_stores hmin hmax henable hzero hbooted), rfl⟩
  case status =>
    exact fun v s h => ⟨fun hkeep => served_next h (reachStatusBody_reads s hkeep), fun hclear => served_next h (reachStatusBody_clears s hclear)⟩
  case bwInit =>
    intro v s w h hsource hbraid hzero haddr hrail hidle hwake
    have hbody := BwInitOk.body ⟨hsource, hbraid, hzero, haddr, hrail, hidle⟩ hwake
    exact ⟨fun hoff => served_next h (hbody.trans (if_pos hoff)),
      fun hon => ⟨_, served_next h (hbody.trans (if_neg (Nat.ne_of_lt hon))), rfl, rfl, rfl, rfl, rfl, rfl⟩⟩
  case bwConnect =>
    exact fun v s h hmin hmax hzero hrest hgood hstarted => ⟨_, served_next h (bwConnectBody_waits hmin hmax hzero hrest hgood hstarted), rfl⟩
  case bwStatus =>
    exact fun v s h => ⟨fun hkeep => served_next h (bwStatusBody_reads s hkeep), fun hclear => served_next h (bwStatusBody_clears s hclear)⟩

end Sys2Proof.Machine
end

section
/-! Fabric images load record by record, and frames are scrubbed (R442 to R470, R582). -/

namespace Sys2Proof.Machine
open Sys2Proof

/-! ## Loads (R445 to R458) -/

section
variable {s : State} {l : Load}

theorem initialLoad_begins (hdue : initialBusy s = true) (hidle : s.fabric.load = none) :
    initialLoad s = startInitial 0 (modFabric s (fun f => { f with initialRunning := true })) := if_pos ⟨hdue, hidle⟩

/-- A plate enters the table of the running load. -/
def keepPlate (i : Nat) (p : BitVec 4096) (s : State) : State :=
  modFabric s (fun f => { f with load := f.load.map (fun x => { x with plates := tset x.plates i p }) })

/-- The running load has no record left. -/
def endRecords (s : State) : State := modFabric s (fun f => { f with load := f.load.map (fun x => { x with ended := true }) })

/-- What one record does to the configuration memory and to the load. -/
def performRecord (r : RecordOut) (s : State) : State :=
  match r with
  | .fail reason addr => failLoad reason addr s
  | .frames n ws => advanceLoad n (forAll ws (fun t w => writeFrame w.1 w.2 t) s)
  | .plate n i p => advanceLoad n (keepPlate i p s)
  | .stop n => advanceLoad n (endRecords s)

/-- The next record of a running load is due: the frames of those before it are written. -/
theorem imageRecord_due (flashFails : Bool) (hload : s.fabric.load = some l) (hstarted : l.started = true) (hmore : l.ended = false)
    (hgood : l.failed = none) (hdue : l.since + frameCycles * l.frames ≤ s.time) :
    imageRecord flashFails s =
      if flashFails = true ∧ l.source = 1 then failLoad 5 0 (raiseEv 404 2 2 [] s) else performRecord (nextRecord s l) s := by
  simp only [imageRecord, hload, hstarted, hmore, hgood, Nat.not_lt.mpr hdue, ne_eq, not_true_eq_false, Bool.false_eq_true, or_self, if_false]
  rfl

theorem loadDone_ends (hload : s.fabric.load = some l) (hstarted : l.started = true) (hended : l.ended = true) (hgood : l.failed = none)
    (hwritten : l.since + frameCycles * max (loadFrames l) l.frames ≤ s.time) :
    loadDone s = nextReload (if l.full then fullLoaded l (modFabric s (fun f => { f with load := none }))
      else reachLoaded l (modFabric s (fun f => { f with load := none }))) := by
  rw [loadDone, hload]
  exact if_pos ⟨hstarted, hended, hgood, hwritten⟩

/-- A failed load leaves nothing but zeros behind it. -/
def dropLoad (l : Load) (s : State) : State := modFabric (zeroTarget l s) (fun f => { f with load := none })

/-- The reach of a failed load is INVALID, and its event tells the reason. -/
def invalidateReach (n reason addr : Nat) (s : State) : State :=
  reachEv n 2 2 (leBytes 1 reason ++ leBytes 4 addr) (modReach n (fun x => { x with st := .invalid, reason := reason, failFrame := addr }) s)

/-- Once the zeros are written, a failed load goes on with the boot, or its command ends. -/
theorem zeroFillDone_ends {reason addr : Nat} (hload : s.fabric.load = some l) (hstarted : l.started = true) (hfailed : l.failed = some (reason, addr))
    (hwritten : l.since + frameCycles * loadFrames l ≤ s.time) :
    zeroFillDone s = match l.boot with
      | some k => initialFailed k reason (dropLoad l s)
      | none =>
        nextReload (endJob? l.job rcFailedCheck (leBytes 1 reason)
          (if l.full then dropLoad l s else invalidateReach l.target reason addr (dropLoad l s))) := by
  simp only [zeroFillDone, hload, hfailed, hstarted, Nat.not_lt.mpr hwritten, not_true_eq_false, or_self, if_false]
  cases l.boot with
  | some k => rfl
  | none => cases l.full <;> rfl

end

/-! ## Scrub passes (R463, R464) -/

section
variable {s : State}

/-- A pass starts at frame 0 of reach 0, with the settings that wait for it. -/
def beginPass (s : State) : State :=
  modFabric s (fun f =>
    { f with scrub :=
      { f.scrub with cfg := s.fabric.scrub.next.getD s.fabric.scrub.cfg, next := none, started := s.time, reading := true, frame := 0, shellLeft := 120 } })

theorem scrubPassStart_begins (hover : s.fabric.scrub.reading = false)
    (hdue : s.fabric.scrub.started + s.fabric.scrub.cfg.passMs * msCycles ≤ s.time) (hon : domOn s 83 = true) (hclock : clockStopped s 83 = false) :
    scrubPassStart s = beginPass s := if_pos (by simp [hover, hdue, hon, hclock])

/-- A pass comes to a place. -/
def scrubAt (p : Nat) (s : State) : State := modFabric s (fun f => { f with scrub := { f.scrub with frame := p } })

/-- The port is free and no word is being judged: the next frame of the pass is read, of a reach or of the shell. -/
theorem frameReadback_reads (flips : List Nat) (hreading : s.fabric.scrub.reading = true) (hjudged : s.fabric.scrub.judging = none)
    (hport : s.fabric.load.any (fun l => l.started) = false) :
    frameReadback flips s = match scrubPlace s s.fabric.scrub.frame 17 with
      | some p => readReachFrame (p / 14112) (p / 14112 * 2 ^ 19 + p % 14112) (flips.filter (fun x => decide (x < 4096))) (scrubAt (p + 1) s)
      | none => readShellFrame flips (scrubAt (16 * 14112) s) := by
  have hfree : ¬ s.fabric.load.any (fun l => l.started) = true := by rw [hport]; exact Bool.false_ne_true
  exact if_pos ⟨hreading, hjudged, hfree⟩

/-- The bits found flipped in a frame are corrected. -/
def dropUpsets (addr : Nat) (s : State) : State := modFabric s (fun f => { f with upsets := tdel f.upsets addr })

/-- A frame with one flipped bit is corrected, and the word of that bit judged. -/
theorem readReachFrame_one (n : Nat) {addr b : Nat} (hone : tget s.fabric.upsets [] addr = [b]) :
    readReachFrame n addr [] s = judgeWord n addr (b / 32) (dropUpsets addr s) := by
  rw [readReachFrame, hone]
  rfl

/-! ## Judged words (R465) -/

/-- The answer to a hatch read is taken, and no word is being judged. -/
def takeHatchRead (c : Completion) (s : State) : State :=
  modFabric (modBraid s (fun b => { b with completions := b.completions.filter (fun x => x.gid != c.gid) }))
    (fun f => { f with scrub := { f.scrub with judging := none } })

theorem hatchReadResult_judges {n addr w : Nat} {c : Completion} (hjudging : s.fabric.scrub.judging = some (n, addr, w))
    (hcome : s.braid.completions.find? (fun c => c.ep == 0x01 && c.agent == 1 && hasCome s c) = some c) :
    hatchReadResult s = if c.status ≠ .ok then criticalWord n addr w 3 (takeHatchRead c s)
      else if bit (leAt c.data (w / 8) 1) (w % 8) = true then criticalWord n addr w 1 (takeHatchRead c s)
      else modReach n (fun r => { r with benign := min 4294967295 (r.benign + 1) }) (takeHatchRead c s) := by
  rw [hatchReadResult, hjudging, hcome]
  rfl

/-! ## Policy resets and the directory (R461, R468, R582) -/

/-- RST_N of a reach ends. -/
def endReset (n : Nat) (s : State) : State := modReach n (fun r => { r with rstSince := none, priorIsolated := false }) s

theorem policyResetEnd_ends {n t0 : Nat} (hsince : (reachOf s n).rstSince = some t0) (hdue : t0 + 10 * usCycles ≤ s.time)
    (hisolated : (reachOf s n).st = .isolated) :
    policyResetEnd n s = reachEv n 5 1 [] (if (reachOf s n).priorIsolated then endReset n s else releaseReach n (endReset n s)) := by
  rw [policyResetEnd, hsince]
  exact if_pos ⟨hdue, hisolated⟩

theorem directoryRewrite_starts (hdue : s.dbg.boot.dirDue = true) (hbooted : initialBusy s = false) (hquiet : flashLoading s = false)
    (hfree : flashHeld s = false) : directoryRewrite s = modBoot s (fun b => { b with dirDue := false, dirRewrite := true }) :=
  if_pos (by simp [hdue, hbooted, hquiet, hfree])

end

/-- Settles O41, step by step, by what each step does when it is due. -/
theorem fabricImagesLoadAndFramesAreScrubbed : Obligations.FabricImagesLoadAndFramesAreScrubbed := by
  unfold Obligations.FabricImagesLoadAndFramesAreScrubbed
  refine ⟨?initial, ?record, ?done, ?zeros, ?pass, ?readback, ?judge, ?hatch, ?reset, ?vote, ?directory⟩
  case initial => exact fun s hclock hdue hidle => next_whileClocked hclock (initialLoad_begins hdue hidle)
  case record =>
    intro l flashFails s hclock hload hstarted hmore hgood hdue
    refine next_whileClocked hclock ((imageRecord_due flashFails hload hstarted hmore hgood hdue).trans ?_)
    cases nextRecord s l <;> rfl
  case done =>
    exact fun l s hclock hload hstarted hended hgood hwritten => next_whileClocked hclock (loadDone_ends hload hstarted hended hgood hwritten)
  case zeros =>
    intro l r a s hclock hload hstarted hfailed hwritten
    have hends := zeroFillDone_ends hload hstarted hfailed hwritten
    refine ⟨fun k hboot => ?_, fun hboot hfull => ?_, fun hboot hreach => ?_⟩
    · rw [hboot] at hends
      exact next_whileClocked hclock hends
    · rw [hboot, hfull] at hends
      exact next_whileClocked hclock hends
    · rw [hboot, hreach] at hends
      exact next_whileClocked hclock hends
  case pass =>
    exact fun s hover hdue hon hclock =>
      ⟨_, congrArg Host.Outcome.next (scrubPassStart_begins hover hdue hon hclock), rfl, rfl, rfl, rfl, rfl, rfl⟩
  case readback =>
    intro fl s hclock hreading hjudged hport
    have hreads := frameReadback_reads fl hreading hjudged hport
    refine ⟨fun p hplace => ?_, fun hplace => ?_⟩
    · rw [hplace] at hreads
      exact ⟨_, next_whileClocked hclock hreads, rfl, rfl, rfl⟩
    · rw [hplace] at hreads
      exact ⟨_, next_whileClocked hclock hreads, rfl⟩
  case judge => exact fun n addr b s hone => ⟨_, readReachFrame_one n hone, rfl⟩
  case hatch =>
    exact fun n addr w c s hclock hjudging hcome => ⟨_, rfl, next_whileClocked hclock (hatchReadResult_judges hjudging hcome)⟩
  case reset =>
    intro n t0 s hsince hdue hisolated
    refine ⟨_, congrArg Host.Outcome.next (policyResetEnd_ends hsince hdue hisolated), ?_⟩
    rw [reachOf_reachEv]
    cases (reachOf s n).priorIsolated with
    | true => simp [endReset, hisolated]
    | false => simp [endReset]
  case vote => exact fun _ => rfl
  case directory =>
    exact fun s hdue hbooted hquiet hfree =>
      ⟨_, congrArg Host.Outcome.next (directoryRewrite_starts hdue hbooted hquiet hfree), rfl, rfl⟩

end Sys2Proof.Machine
end

section
/-! What every command does: the parts of the state it stays within (O8), memory in its canonical form (O6), the bytes it leaves (O53), and that it completes (O59). -/

namespace Sys2Proof.Machine
open Sys2Proof

/-- The four ways a pulse on RST_STY_N goes that the block answers, by its width (Table 14.6). -/
theorem execRstStyNPulse_cases {w : Nat} {s t : State} (h : execRstStyNPulse w s = .next t) :
    t = deviceReset 1 s ∨ t = shortPulse w s ∨ t = takeSymbol true s ∨ t = styGlitch s := by
  unfold execRstStyNPulse at h
  split at h
  · cases h
    exact .inl rfl
  split at h
  · cases h
    exact .inr (.inl rfl)
  split at h
  · cases h
    exact .inr (.inr (.inl rfl))
  split at h
  · cases h
    exact .inr (.inr (.inr rfl))
  · cases h

/-! ## Parts -/

/-- A command that answers the state its frame lemma speaks of leaves the part. -/
theorem part_of_next {sp : StatePart} {s t u : State} (hkept : part sp u = part sp s)
    (h : (.next u : Host.Outcome State Fault Refusal) = .next t) : part sp t = part sp s := by
  cases h
  exact hkept

/-- A pulse on RST_STY_N stays within the parts of a device reset, whatever its width. -/
theorem execRstStyNPulse_part {w : Nat} {s t : State} {sp : StatePart} (hsp : sp ∉ touches (.rstStyNPulse w))
    (h : execRstStyNPulse w s = .next t) : part sp t = part sp s := by
  simp only [touches, List.mem_cons, List.not_mem_nil, or_false, not_or] at hsp
  rcases execRstStyNPulse_cases h with rfl | rfl | rfl | rfl <;> simp [hsp]

/-- Every command leaves the parts that touches does not list for it, by the frame lemma of its effect. -/
theorem exec_part {c : Instr} {s t : State} {sp : StatePart} (hsp : sp ∉ touches c) (h : exec c s = .next t) : part sp t = part sp s := by
  cases c
  case rstStyNPulse w => exact execRstStyNPulse_part hsp h
  all_goals
    refine part_of_next ?_ h
    simp only [touches, List.mem_cons, List.not_mem_nil, or_false, not_or] at hsp
    simp [hsp]

/-- No command touches the queue, the time or the phases of the clocks. -/
theorem clocks_not_touched (c : Instr) :
    StatePart.queue ∉ touches c ∧ StatePart.time ∉ touches c ∧ StatePart.hwPhase ∉ touches c ∧ StatePart.slowPhase ∉ touches c := by
  cases c <;> simp [touches]

/-- Settles O8, command by command, by the frame lemma of each command's effect. -/
theorem everyCommandStaysWithinItsParts : Obligations.EveryCommandStaysWithinItsParts := by
  unfold Obligations.EveryCommandStaysWithinItsParts
  exact ⟨fun _ _ _ h _ hsp => exec_part hsp h, clocks_not_touched⟩

/-! ## The canonical form of memory -/

/-- A command that answers a state whose memory is in its canonical form. -/
theorem memOk_of_next {t u : State} (hok : MemOk u) (h : (.next u : Host.Outcome State Fault Refusal) = .next t) : MemOk t := by
  cases h
  exact hok

/-- A pulse on RST_STY_N resets the device, which empties memory, or leaves memory. -/
theorem execRstStyNPulse_memOk {w : Nat} {s t : State} (hs : MemOk s) (h : execRstStyNPulse w s = .next t) : MemOk t := by
  rcases execRstStyNPulse_cases h with rfl | rfl | rfl | rfl
  · exact deviceReset_memOk 1 s
  · exact (shortPulse_memOk w s).mpr hs
  · exact (takeSymbol_memOk true s).mpr hs
  · exact (styGlitch_memOk s).mpr hs

/-- Every command keeps memory in its canonical form: the resets empty it, every other command keeps it by the lemma of its effect. -/
theorem exec_memOk {c : Instr} {s t : State} (hs : MemOk s) (h : exec c s = .next t) : MemOk t := by
  cases c
  case powerOnReset => exact memOk_of_next (powerOnReset_memOk s) h
  case deviceReset => exact memOk_of_next (deviceReset_memOk 1 s) h
  case resetDevice => exact memOk_of_next (resetDevice_memOk s hs) h
  case rstStyNPulse w => exact execRstStyNPulse_memOk hs h
  case hwReady lost => exact memOk_of_next (hwReady_memOk lost s hs) h
  case firmwareSwitch => exact memOk_of_next (firmwareSwitch_memOk s hs) h
  case sysLifecycle => exact memOk_of_next (sysLifecycle_memOk s hs) h
  case fuseProgrammingDone b => exact memOk_of_next (fuseProgrammingDone_memOk b s hs) h
  case directoryRewriteDone => exact memOk_of_next (directoryRewriteDone_memOk s hs) h
  all_goals
    refine memOk_of_next ?_ h
    simp [hs]

/-- Settles O6: the queue is not part of memory, one Braid cycle leaves memory, and every command keeps its canonical form. -/
theorem memoryKeepsItsCanonicalForm : Obligations.MemoryKeepsItsCanonicalForm := by
  unfold Obligations.MemoryKeepsItsCanonicalForm
  intro s t hs h
  unfold step at h
  split at h
  · exact memOk_of_next ((tick_memOk s).mpr hs) h
  · next c r hqueue => exact exec_memOk (s := { s with pending := r }) hs h

/-! ## Bytes of memory -/

/-- A command that answers the state its frame lemma speaks of leaves the bytes of memory. -/
theorem mem_of_next {s t u : State} (hkept : coreView u = coreView s)
    (h : (.next u : Host.Outcome State Fault Refusal) = .next t) : t.mems.mem = s.mems.mem := by
  cases h
  exact mem_of_core hkept

/-- What a command that stores nothing does to the memories, if it does anything to them: powers, marks and queues change, no byte does. -/
theorem exec_mem_of_touched {c : Instr} {s t : State} (hc : mayStore c = false) (hmems : StatePart.mems ∈ touches c) (h : exec c s = .next t) :
    t.mems.mem = s.mems.mem := by
  cases c
  case selfRefreshExit | basinRequestAccept | memoryWake | subtreeReinit | retentionStep | sleepAborted | stippleExitDone | laneSetMode | laneState
      | dramTrain | dramPower | keyInstall | sealWindow | reachLoad | twinPair | bwInit | diagCounters =>
    refine mem_of_next ?_ h
    simp
  all_goals simp [mayStore, touches] at hc hmems

/-- A command that stores nothing leaves every byte: it does not touch the memories at all, or not their bytes. -/
theorem exec_mem {c : Instr} {s t : State} (hc : mayStore c = false) (h : exec c s = .next t) : t.mems.mem = s.mems.mem := by
  by_cases hmems : StatePart.mems ∈ touches c
  · exact exec_mem_of_touched hc hmems h
  · have hkept : part .mems t = part .mems s := exec_part hmems h
    exact congrArg Mems.mem hkept

/-- Settles O53: a command that mayStore does not list leaves the bytes of memory. -/
theorem commandsThatStoreNothingLeaveMemory : Obligations.CommandsThatStoreNothingLeaveMemory := by
  unfold Obligations.CommandsThatStoreNothingLeaveMemory
  intro c s t hc h a
  rw [exec_mem hc h]

/-! ## Completion -/

/-- A pulse of a width that Table 14.6 specifies answers a next state. -/
theorem rstStyNPulse_completes {w : Nat} (s : State) (hw : 20000 ≤ w ∨ (200 ≤ w ∧ w ≤ 600) ∨ (1000 ≤ w ∧ w ≤ 19000)) :
    ∃ t, exec (.rstStyNPulse w) s = .next t := by
  obtain ⟨hreset, hsymbol, hglitch, _⟩ := rstStyNPulse_by_width w s
  rcases hw with hlong | ⟨hlow, hhigh⟩ | ⟨hlow, hhigh⟩
  · exact ⟨_, hreset hlong⟩
  · exact ⟨_, exec_rstStyNPulse_short s hlow hhigh⟩
  · rcases Nat.lt_or_ge 2000 w with hlonger | hshort
    · exact ⟨_, hglitch ⟨hlonger, hhigh⟩⟩
    · exact ⟨_, hsymbol ⟨hlow, hshort⟩⟩

/-- Settles O59: the arm of every command but RST_STY_N_PULSE answers a next state, and a pulse goes by its width. -/
theorem everyCommandCompletes : Obligations.EveryCommandCompletes := by
  unfold Obligations.EveryCommandCompletes
  refine ⟨fun c s hc => ?_, fun w s hw => rstStyNPulse_completes s hw, fun w s hw => (rstStyNPulse_by_width w s).2.2.2 hw⟩
  cases c
  case rstStyNPulse w => exact absurd rfl (hc w)
  all_goals exact ⟨_, rfl⟩

end Sys2Proof.Machine
end

section
/-! A step: the command in front of the queue, or one Braid cycle, with its time, TIMEBASE and phases (13.7 The time base, Table 13.12). -/

namespace Sys2Proof.Machine
open Sys2Proof

/-- Settles O1: the queue's front is the command that step runs. -/
theorem stepRunsTheCommandInFront : Obligations.StepRunsTheCommandInFront := by
  unfold Obligations.StepRunsTheCommandInFront
  exact fun c r s => rfl

theorem step_of_empty {s : State} (h : s.pending = []) : step s = .next (tick s) := by
  unfold step
  rw [h]

/-! ## One Braid cycle -/

/-- The clocks after one Braid cycle, before the blocks do what is theirs in it. -/
def advanceClocks (s : State) : State := slowAdvance (hwAdvance { orbFullTick s with time := s.time + 1 })

/-- Behind the clocks, the blocks' own steps of one Braid cycle leave the parts that hold the clocks. -/
theorem tick_part_of_clocks (s : State) {sp : StatePart} (hsp : sp = .time ∨ sp = .hwPhase ∨ sp = .tbase) : part sp (tick s) = part sp (advanceClocks s) := by
  unfold tick advanceClocks
  rcases hsp with rfl | rfl | rfl <;> simp

theorem slowAdvance_time (s : State) : (slowAdvance s).time = s.time := slowAdvance_part (sp := .time) s (by decide) (by decide)
theorem slowAdvance_hwPhase (s : State) : (slowAdvance s).hwPhase = s.hwPhase := slowAdvance_part (sp := .hwPhase) s (by decide) (by decide)
theorem hwAdvance_time (s : State) : (hwAdvance s).time = s.time := hwAdvance_part (sp := .time) s (by decide) (by decide)
theorem hwAdvance_slowPhase (s : State) : (hwAdvance s).slowPhase = s.slowPhase := hwAdvance_part (sp := .slowPhase) s (by decide) (by decide)
theorem orbFullTick_hwPhase (s : State) : (orbFullTick s).hwPhase = s.hwPhase := orbFullTick_part (sp := .hwPhase) s (by decide)
theorem orbFullTick_slowPhase (s : State) : (orbFullTick s).slowPhase = s.slowPhase := orbFullTick_part (sp := .slowPhase) s (by decide)
theorem orbFullTick_tbase (s : State) : (orbFullTick s).tbase = s.tbase := orbFullTick_part (sp := .tbase) s (by decide)

/-- Without a tick of the slow clock TIMEBASE is not its matter. -/
theorem slowAdvance_tbase {s : State} (h : s.slowPhase + 8 < 390625) : (slowAdvance s).tbase = s.tbase := by
  rw [slowAdvance, if_neg (Nat.not_le.mpr h)]

theorem hwAdvance_completes {s : State} (hphase : 3 ≤ s.hwPhase) (hfast : s.tbase.slowDriven = false) :
    (hwAdvance s).hwPhase = s.hwPhase - 3 ∧ (hwAdvance s).tbase.tb = (s.tbase.tb + 65536) % tbWrap := by
  rw [hwAdvance, if_pos (by omega)]
  simp [hfast]

theorem hwAdvance_waits {s : State} (hphase : s.hwPhase < 3) : (hwAdvance s).hwPhase = s.hwPhase + 5 ∧ (hwAdvance s).tbase = s.tbase := by
  rw [hwAdvance, if_neg (by omega)]
  exact ⟨rfl, rfl⟩

theorem tick_time (s : State) : (tick s).time = s.time + 1 := by
  have h : (tick s).time = (advanceClocks s).time := tick_part_of_clocks (sp := .time) s (.inl rfl)
  rw [h, advanceClocks, slowAdvance_time, hwAdvance_time]

theorem tick_hwPhase (s : State) : (tick s).hwPhase = (hwAdvance { orbFullTick s with time := s.time + 1 }).hwPhase := by
  have h : (tick s).hwPhase = (advanceClocks s).hwPhase := tick_part_of_clocks (sp := .hwPhase) s (.inr (.inl rfl))
  rw [h, advanceClocks, slowAdvance_hwPhase]

/-- Without a tick of the slow clock TIMEBASE is what PLL_HW makes it. -/
theorem tick_tbase {s : State} (hslow : s.slowPhase + 8 < 390625) :
    (tick s).tbase = (hwAdvance { orbFullTick s with time := s.time + 1 }).tbase := by
  have h : (tick s).tbase = (advanceClocks s).tbase := tick_part_of_clocks (sp := .tbase) s (.inr (.inr rfl))
  rw [h, advanceClocks, slowAdvance_tbase]
  rwa [hwAdvance_slowPhase, orbFullTick_slowPhase]

/-- Settles O2: one Braid cycle passes, which leaves the parts that its frame lemma allows. -/
theorem emptyQueueStepIsOneBraidCycle : Obligations.EmptyQueueStepIsOneBraidCycle := by
  unfold Obligations.EmptyQueueStepIsOneBraidCycle
  intro s hempty
  refine ⟨tick s, step_of_empty hempty, tick_time s, fun sp hsp => ?_⟩
  simp only [List.mem_cons, List.not_mem_nil, or_false] at hsp
  rcases hsp with rfl | rfl | rfl | rfl | rfl | rfl | rfl | rfl | rfl | rfl | rfl | rfl <;> simp

/-- Settles O3, by whether the Braid cycle completes a cycle of PLL_HW. -/
theorem timebaseCountsNanoseconds : Obligations.TimebaseCountsNanoseconds := by
  unfold Obligations.TimebaseCountsNanoseconds
  intro s hempty hfast hslow
  refine ⟨fun hphase => ⟨tick s, step_of_empty hempty, ?_⟩, fun hphase => ⟨tick s, step_of_empty hempty, ?_⟩⟩
  · obtain ⟨hnext, htb⟩ := hwAdvance_completes (s := { orbFullTick s with time := s.time + 1 }) ((orbFullTick_hwPhase s).symm ▸ hphase)
      ((orbFullTick_tbase s).symm ▸ hfast)
    rw [tick_tbase hslow, tick_hwPhase, hnext, htb, orbFullTick_tbase, orbFullTick_hwPhase]
    exact ⟨rfl, rfl⟩
  · obtain ⟨hnext, htb⟩ := hwAdvance_waits (s := { orbFullTick s with time := s.time + 1 }) ((orbFullTick_hwPhase s).symm ▸ hphase)
    rw [tick_tbase hslow, tick_hwPhase, hnext, htb, orbFullTick_tbase, orbFullTick_hwPhase]
    exact ⟨rfl, rfl⟩

end Sys2Proof.Machine
end

section
/-! Dry runs of the Ferry commands (R42, R569, R571). -/

namespace Sys2Proof.Machine
open Sys2Proof

/-- A Ferry command serves the messages of its opcode, by a body of its own. -/
def ServesOpcode (p : Instr × Nat) : Prop :=
  ∃ (maxLen : Nat) (target : Nat → Bool) (body : Serving → State → Reply × State), ∀ s, exec p.1 s = .next (ferryServe p.2 maxLen target body s)

/-- The answer of a dry run is never ACCEPTED. -/
theorem dryReply_not_accepted (op : Nat) (r : Reply) : (dryReply op r).code ≠ rcAccepted := by
  show (if r.code = rcAccepted then rcDone else r.code) ≠ rcAccepted
  split
  · decide
  · assumption

section
variable {op ml : Nat} {tg : Nat → Bool} {v : Serving} {s : State} (body : Serving → State → Reply × State) (hserving : s.ferry.serving = some v)
include hserving

/-- A message of the command that is not answered yet and has DRYRUN set is answered, and nothing else changes. -/
theorem ferryServe_dryRun (hop : v.opcode = op) (hreply : v.reply = none) (hdry : bit v.flags 1 = true) :
    ∃ r, ferryServe op ml tg body s = setReply r s ∧ r.code ≠ rcAccepted := by
  by_cases hbad : ml < v.len ∨ ¬ tg v.target = true
  · exact ⟨rc rcBadArg, by simp only [ferryServe, hserving, hop, hreply, hbad, and_self, if_true], by decide⟩
  · exact ⟨dryReply op (body v s).1, by simp only [ferryServe, hserving, hop, hreply, hbad, hdry, and_self, if_true, if_false], dryReply_not_accepted op _⟩

/-- A message of another opcode, or one that is answered already, is not the command's. -/
theorem ferryServe_other (hother : v.opcode ≠ op ∨ v.reply ≠ none) : ferryServe op ml tg body s = s := by
  have hnot : ¬ (v.opcode = op ∧ v.reply = none) := fun ⟨hop, hreply⟩ => hother.elim (· hop) (· hreply)
  simp only [ferryServe, hserving, hnot, if_false]

end

/-- Settles O55: each of the 59 commands serves its opcode, and serving a dry run only answers it. -/
theorem dryRunsChangeOnlyTheAnswer : Obligations.DryRunsChangeOnlyTheAnswer := by
  unfold Obligations.DryRunsChangeOnlyTheAnswer
  intro p hp
  have hserves : ServesOpcode p := by
    revert p
    repeat' refine List.forall_mem_cons.mpr ⟨⟨_, _, _, fun _ => rfl⟩, ?_⟩
    exact fun p hp => absurd hp List.not_mem_nil
  obtain ⟨ml, tg, body, hexec⟩ := hserves
  refine ⟨fun s v hserving hop hreply hdry => ?_, fun s v hserving hother => ?_⟩
  · obtain ⟨r, hanswer, hcode⟩ := ferryServe_dryRun (ml := ml) (tg := tg) body hserving hop hreply hdry
    exact ⟨r, (hexec s).trans (congrArg Host.Outcome.next hanswer), hcode⟩
  · exact (hexec s).trans (congrArg Host.Outcome.next (ferryServe_other body hserving hother))

end Sys2Proof.Machine
end

section
/-! DEVICE_ID_SET, TIMEOUT_SET, PROOF_SELECT, DIAG_COUNTERS, EV_ROUTE and EV_READ (R549, R561, R591, R593, R597, R599, R600). -/

namespace Sys2Proof.Machine
open Sys2Proof

/-! ## DEVICE_ID_SET (R593) -/

section
variable {v : Serving} {s : State}

theorem deviceIdBody_outOfRange (hid : 16384 ≤ pay v 0 2) : deviceIdBody v s = (rc rcBadArg, s) := if_pos hid

/-- A port that DEVICE_ID_SET looks at is enabled. -/
theorem any_portOn_iff : (List.range 64).any (fun p => portOn s p) = true ↔ ∃ p < 64, (portOf s p).st ≠ .disabled := by simp [portOn]

theorem deviceIdBody_inUse (hid : pay v 0 2 ≤ 16383) (huse : (∃ p < 64, (portOf s p).st ≠ .disabled) ∨ s.twin.role ≠ .unpaired) :
    deviceIdBody v s = (rc rcBadState, s) := by
  rw [deviceIdBody, if_neg (by omega), if_pos (huse.imp_left any_portOn_iff.mpr)]

theorem deviceIdBody_stores (hid : pay v 0 2 ≤ 16383) (hports : ∀ p < 64, (portOf s p).st = .disabled) (hrole : s.twin.role = .unpaired) :
    deviceIdBody v s = (rc rcDone, modDelta s (fun d => { d with deviceId := pay v 0 2 })) := by
  have hfree : ¬ ((List.range 64).any (fun p => portOn s p) = true ∨ s.twin.role ≠ .unpaired) := by
    rintro (hon | hpaired)
    · obtain ⟨p, hp, hst⟩ := any_portOn_iff.mp hon
      exact hst (hports p hp)
    · exact hpaired hrole
  rw [deviceIdBody, if_neg (by omega), if_neg hfree]

end

/-- Settles O44, by the three ways DEVICE_ID_SET goes. -/
theorem deviceIdSetStoresTheId : Obligations.DeviceIdSetStoresTheId := by
  unfold Obligations.DeviceIdSetStoresTheId
  intro v s h
  refine ⟨fun hid => served_next h (deviceIdBody_outOfRange hid), fun hid huse => served_next h (deviceIdBody_inUse hid huse), fun hid hports hrole => ?_⟩
  exact ⟨_, served_next h (deviceIdBody_stores hid hports hrole), rfl, rfl⟩

/-! ## TIMEOUT_SET, PROOF_SELECT and DIAG_COUNTERS (R549, R591, R597) -/

section
variable {v : Serving} {s : State}

theorem timeoutSetBody_applies (hzero : payZero v 1 4 = true) (hrange : timeoutOk (pay v 0 1) (pay v 4 4) = true) :
    timeoutSetBody v s = (rc rcDone, applyTimeout (pay v 0 1) (pay v 4 4) s) := by
  simp only [timeoutSetBody, hzero, hrange, not_true_eq_false, or_self, if_false]

/-- The selection a PROOF_SELECT payload gives its target. -/
def proofOfPayload (v : Serving) : Proof :=
  { clkDiv := pay v 0 1, flags := pay v 1 1, entries := (List.range (proofPins v.target)).map (proofEntry v) }

/-- The selection is stored, and EV492 tells it. -/
def selectProof (v : Serving) (s : State) : State :=
  raiseEv 492 1 0 [] (modDebug s (fun d => { d with proof := tset d.proof v.target (proofOfPayload v) }))

theorem proofSelectBody_selects (hargs : proofArgsBad v = false) (hmay : proofAllowed s v.ch = true) (hfree : proofConflict s v.target = false) :
    proofSelectBody v s = (rc rcDone, selectProof v s) := by
  simp only [proofSelectBody, hargs, hmay, hfree, not_true_eq_false, Bool.false_eq_true, if_false]
  rfl

theorem selectProof_proof (v : Serving) (s : State) : tget (selectProof v s).dbg.proof {} v.target = proofOfPayload v := by
  rw [selectProof, (raiseEv_undisturbed ..).dbg]
  exact tget_tset_same ..

theorem diagCountersBody_reads {d : Nat} (hdomain : counterDomain (pay v 0 1) v.target = some d) (hon : domOn s d = true) :
    diagCountersBody v s =
      ({ code := rcDone, result := (List.range (counterCount (pay v 0 1))).flatMap (fun i => leBytes 4 (counterAt s (pay v 0 1) v.target i)) },
        clearCounterSet (pay v 0 1) v.target s) := by
  simp only [diagCountersBody, hdomain, hon, if_true]

/-! ## EV_ROUTE (R561, R599) -/

theorem evRouteBody_source (hsource : v.target < 512) (hgood : evCfgBad v.target (pay v 0 4) = false) :
    evRouteBody v s = ({ code := rcDone, result := leBytes 4 (evCfg s v.target) }, setEvCfg v.target (pay v 0 4) s) := by
  rw [evRouteBody, if_neg (by omega), hgood]
  rfl

theorem evRouteBody_control (hcontrol : v.target = 0x200) (hbits : pay v 0 4 ≤ 1) :
    evRouteBody v s = ({ code := rcDone, result := leBytes 4 (b2n s.events.fatalFence) }, setEvCtrl (pay v 0 4) s) := by
  rw [evRouteBody, if_pos hcontrol, if_neg (by omega)]

theorem evCfg_setEvCfg (n w : Nat) (s : State) : evCfg (setEvCfg n w s) n = w / 64 * 64 % 2 ^ 32 := by
  simp only [evCfg, setEvCfg, modEvents_events, tget_tset_same, BitVec.toNat_ofNat]

theorem evCfg_setEvCfg_other (w : Nat) (s : State) {n m : Nat} (h : m ≠ n) : evCfg (setEvCfg n w s) m = evCfg s m := by
  simp only [evCfg, setEvCfg, modEvents_events, tget_tset_other _ _ _ _ _ h]

/-! ## EV_READ (R600) -/

/-- The host's queue keeps the records behind the first n. -/
def dropRecords (q : List Rec) (n : Nat) (s : State) : State := modEvents s (fun e => { e with hostQ := q.drop n })

/-- The answer of EV_READ: how many records it returns and how many are still queued, then the records it carries itself. -/
def readReply (q : List Rec) (n : Nat) (carried : List Byte) : Reply :=
  { code := rcDone, result := readCounts (q.take n).length (q.drop n).length ++ carried }

theorem evReadBody_one (hzero : payZero v 2 8 = true) (hmax : pay v 0 2 = 1) (haddr : pay v 8 8 = 0) :
    evReadBody v s = (readReply s.events.hostQ 1 (padTo 32 ((s.events.hostQ.take 1).flatMap recBytes)), dropRecords s.events.hostQ 1 s) := by
  have hargs : ¬ (pay v 0 2 < 1 ∨ 4096 < pay v 0 2 ∨ ¬ payZero v 2 8 = true ∨ (pay v 8 8 = 0 ∧ pay v 0 2 ≠ 1)) := by simp [hmax, hzero]
  rw [evReadBody, if_neg hargs, if_pos haddr, hmax]
  rfl

theorem evReadBody_writes {t : State} (hzero : payZero v 2 8 = true) (hleast : 1 ≤ pay v 0 2) (hmost : pay v 0 2 ≤ 4096) (haddr : pay v 8 8 ≠ 0)
    (hwrite : writeRecs (pay v 8 8) (s.events.hostQ.take (pay v 0 2)) s = (true, t)) :
    evReadBody v s = (readReply s.events.hostQ (pay v 0 2) [], dropRecords s.events.hostQ (pay v 0 2) t) := by
  have hargs : ¬ (pay v 0 2 < 1 ∨ 4096 < pay v 0 2 ∨ ¬ payZero v 2 8 = true ∨ (pay v 8 8 = 0 ∧ pay v 0 2 ≠ 1)) := by simp [hzero, haddr]; omega
  rw [evReadBody, if_neg hargs, if_neg haddr, hwrite, readReply, List.append_nil]
  rfl

end

/-- Settles O45, by what each command's body answers and does when its checks pass. -/
theorem setupAndEventCommandsTakeEffect : Obligations.SetupAndEventCommandsTakeEffect := by
  unfold Obligations.SetupAndEventCommandsTakeEffect
  refine ⟨?timeout, ?proof, ?counters, ?route, ?read⟩
  case timeout => exact fun v s h hzero hrange => served_next h (timeoutSetBody_applies hzero hrange)
  case proof =>
    exact fun v s h hargs hmay hfree => ⟨_, served_next h (proofSelectBody_selects hargs hmay hfree), selectProof_proof v s⟩
  case counters => exact fun v d s h hdomain hon => served_next h (diagCountersBody_reads hdomain hon)
  case route =>
    intro v s h
    refine ⟨fun hsource hgood => ?_, fun hcontrol hbits => ?_⟩
    · exact ⟨_, served_next h (evRouteBody_source hsource hgood), evCfg_setEvCfg .., fun n hn => evCfg_setEvCfg_other _ _ hn⟩
    · exact ⟨_, served_next h (evRouteBody_control hcontrol hbits), rfl, rfl⟩
  case read =>
    intro v s h hzero
    refine ⟨fun hmax haddr => ?_, fun t hleast hmost haddr hwrite => ?_⟩
    · exact ⟨_, served_next h (evReadBody_one hzero hmax haddr), rfl, rfl⟩
    · have hanswer := served_next h (evReadBody_writes hzero hleast hmost haddr hwrite)
      rw [readReply, List.append_nil] at hanswer
      exact ⟨_, hanswer, rfl, rfl⟩

end Sys2Proof.Machine
end

section
/-! Backwater: frame lock, frames, connections, and TDM over Braid (R475 to R491). -/

namespace Sys2Proof.Machine
open Sys2Proof

/-! ## What events and ended jobs leave -/

@[simp] theorem raiseEv_bw (ev cause sev : Nat) (detail : List Byte) (s : State) : (raiseEv ev cause sev detail s).bw = s.bw :=
  raiseEv_part (sp := .bw) ev cause sev detail s (by decide) (by decide)
@[simp] theorem raiseLimited_bw (key period ev cause sev : Nat) (detail : List Byte) (s : State) :
    (raiseLimited key period ev cause sev detail s).bw = s.bw := raiseLimited_part (sp := .bw) key period ev cause sev detail s (by decide) (by decide)
@[simp] theorem endJob_bw (id code : Nat) (result : List Byte) (s : State) : (endJob id code result s).bw = s.bw :=
  endJob_part (sp := .bw) id code result s (by decide) (by decide) (by decide) (by decide) (by decide)
@[simp] theorem endJob?_bw (id : Option Nat) (code : Nat) (result : List Byte) (s : State) : (endJob? id code result s).bw = s.bw :=
  endJob?_part (sp := .bw) id code result s (by decide) (by decide) (by decide) (by decide) (by decide)

/-! ## Frame lock (R475 to R479) -/

section
variable {s : State}

theorem syncPulse_tooWide {w : Nat} (p : Nat) (hw : 3 ≤ w) (hst : s.bw.st ≠ .uninit) : syncPulse w p s = raiseEv 457 1 1 [] (syncError s) := by
  rw [syncPulse, if_neg (by rintro (hnone | hzero) <;> [exact hst hnone; omega]), if_pos hw]

theorem syncPulse_locks {w : Nat} (hw : w = 1 ∨ w = 2) (hst : s.bw.st = .hunt) (hsynced : s.bw.synced = true) :
    syncPulse w 2048 s = bwLock (w == 2) s := by
  have hopen : ¬ (s.bw.st = .uninit ∨ w = 0) := by rcases hw with rfl | rfl <;> simp [hst]
  rw [syncPulse, if_neg hopen, if_neg (by omega), if_pos hst, if_pos ⟨hsynced, rfl⟩]

theorem bwLock_locked (twoClock : Bool) (s : State) : (bwLock twoClock s).bw.st = .locked ∧
    (bwLock twoClock s).bw.mframe = if twoClock || !s.bw.mfSet then 0 else (s.bw.mframe + 1) % 16 := by simp [bwLock]

theorem clockLoss_hunts (hst : s.bw.st ≠ .uninit) (hsource : s.bw.source = 0) :
    clockLoss s = raiseEv 460 1 2 [] (modBw (bwHunt s) (fun b => { b with clockLost := true })) := if_pos ⟨hst, hsource⟩

/-- BW_INIT does not wait for the lock any longer. -/
def dropInitJob (s : State) : State := modBwx s (fun x => { x with initJob := none })

theorem bwLockTimeout_due {j : Nat} (hjob : s.bwx.initJob = some j) (hdue : s.bwx.initAt + 10 * msCycles ≤ s.time) :
    bwLockTimeout s = endJob j rcTimeout [] (dropInitJob s) := by
  rw [bwLockTimeout, if_pos ⟨by rw [hjob]; rfl, hdue⟩, hjob]
  rfl

end

/-! ## Frames (R483 to R486) -/

/-- A byte seen in slot 0 of a highway is kept for the next comparison; nothing else of Backwater changes. -/
theorem slotZero_bw (h : Nat) (b : Byte) (s : State) : ∃ z, (slotZero h b s).bw = { s.bw with slot0 := z } := by
  unfold slotZero
  split
  · exact ⟨s.bw.slot0, rfl⟩
  · exact ⟨_, raiseLimited_bw ..⟩

/-- So with the slots 0 of several highways. -/
theorem slotZeros_bw (f : Nat → Byte) (l : List Nat) (s : State) :
    ∃ z, (forAll l (fun u h => slotZero h (f h) u) s).bw = { s.bw with slot0 := z } := by
  induction l generalizing s with
  | nil => exact ⟨s.bw.slot0, rfl⟩
  | cons h l ih =>
    obtain ⟨z, hz⟩ := slotZero_bw h (f h) s
    obtain ⟨y, hy⟩ := ih (slotZero h (f h) s)
    exact ⟨y, hy.trans (by rw [hz])⟩

/-- Backwater after a frame with its sync: the slots are captured, and the frame before it and its connections make the output frame (R485, R488). -/
def frameCaptured (sl : Tbl Byte) (now : Nat) (b : Backwater) : Backwater :=
  { b with
    badSyncs := 0, misplaced := false, mfZero := false, frameStart := now, mframe := if b.mfZero then 0 else (b.mframe + 1) % 16,
    out := outBytes b.conns1 b.in1, in1 := wholeFrame sl, conns1 := b.conns, conns2 := b.conns1,
    txChan := putRing b.txChan b.mframe (channelBytes b.conns (wholeFrame sl)), txPending := b.txBraid }

theorem bwFrame_captures (sl : Tbl Byte) {s : State} (hlocked : s.bw.st = .locked) :
    ∃ z, (bwFrame sl false s).bw = { frameCaptured sl s.time s.bw with slot0 := z } := by
  obtain ⟨z, hz⟩ := slotZeros_bw (fun h => tget (wholeFrame sl) 0 (256 * h)) (List.range 16) s
  refine ⟨z, ?_⟩
  rw [bwFrame, if_pos hlocked]
  simp only [modBw_bw, modBwx_bw, Bool.false_eq_true, if_false, hz, hlocked, if_true, frameCaptured]

/-- A byte of the input frame by its slot. -/
theorem tget_wholeFrame (sl : Tbl Byte) {k : Nat} (h : k < 4096) : tget (wholeFrame sl) 0x7F k = slotByte sl k := tget_range_map _ _ h

/-- After changes of a table in turn an entry that none of them writes is as before. -/
theorem tget_foldl_tset_other {α β : Type} (key : α → Nat) (val : α → β) (d : β) {k : Nat} (l : List α) (t : Tbl β) (h : ∀ x ∈ l, key x ≠ k) :
    tget (l.foldl (fun t x => tset t (key x) (val x)) t) d k = tget t d k := by
  induction l generalizing t with
  | nil => rfl
  | cons x l ih =>
    rw [List.foldl_cons, ih _ (fun y hy => h y (List.mem_cons_of_mem _ hy))]
    exact tget_tset_other _ _ _ _ _ (Ne.symm (h x List.mem_cons_self))

/-- After changes of a table in turn the only element with a key gives that entry its value. -/
theorem tget_foldl_tset_unique {α β : Type} (key : α → Nat) (val : α → β) (d : β) {c : α} (l : List α) (t : Tbl β) (hc : c ∈ l)
    (honly : ∀ x ∈ l, key x = key c → x = c) : tget (l.foldl (fun t x => tset t (key x) (val x)) t) d (key c) = val c := by
  induction l generalizing t with
  | nil => cases hc
  | cons x l ih =>
    have honly' : ∀ y ∈ l, key y = key c → y = c := fun y hy => honly y (List.mem_cons_of_mem _ hy)
    rw [List.foldl_cons]
    by_cases hagain : c ∈ l
    · exact ih _ hagain honly'
    · obtain rfl : c = x := (List.mem_cons.mp hc).resolve_right hagain
      rw [tget_foldl_tset_other key val d l _ (fun y hy hkey => hagain (honly' y hy hkey ▸ hy))]
      exact tget_tset_same ..

/-- An output slot that one connection names carries that connection's input byte (R485, R486). -/
theorem tget_outBytes {l : List BwConn} {c : BwConn} (frame : Tbl Byte) (hc : c ∈ l) (hdst : c.dstBraid = false) (hsrc : c.srcBraid = false)
    (honly : ∀ x ∈ l, x.dstBraid = false → x.dst = c.dst → x = c) : tget (outBytes l frame) 0x7F c.dst = tget frame 0x7F c.src := by
  refine tget_foldl_tset_unique (fun x : BwConn => x.dst) (fun x => tget frame 0x7F x.src) 0x7F _ _ (List.mem_filter.mpr ⟨hc, by simp [hdst, hsrc]⟩) ?_
  intro x hx hkey
  obtain ⟨hmem, hslots⟩ := List.mem_filter.mp hx
  rw [Bool.and_eq_true, Bool.not_eq_true', Bool.not_eq_true'] at hslots
  exact honly x hmem hslots.1 hkey

/-- A connected byte of an input frame leaves in its output slot two frames later (R485). -/
theorem bwFrame_twice_carries (sl sl2 : Tbl Byte) {c : BwConn} {s : State} (hlocked : s.bw.st = .locked) (hc : c ∈ s.bw.conns) (hdst : c.dstBraid = false)
    (hsrc : c.srcBraid = false) (hslot : c.src < 4096) (hout : c.dst % 256 ≠ 0) (honly : ∀ x ∈ s.bw.conns, x.dstBraid = false → x.dst = c.dst → x = c) :
    bwOutByte (bwFrame sl2 false (bwFrame sl false s)) c.dst = slotByte sl c.src := by
  obtain ⟨y, hfirst⟩ := bwFrame_captures sl hlocked
  have hstill : (bwFrame sl false s).bw.st = .locked := by rw [hfirst]; exact hlocked
  obtain ⟨z, hsecond⟩ := bwFrame_captures sl2 hstill
  have hend : (bwFrame sl2 false (bwFrame sl false s)).bw.st = .locked := by rw [hsecond]; exact hstill
  have hbytes : (bwFrame sl2 false (bwFrame sl false s)).bw.out = outBytes s.bw.conns (wholeFrame sl) := by
    simp only [hsecond, hfirst, frameCaptured]
  rw [bwOutByte, if_neg hout, if_pos hend, hbytes, tget_outBytes _ hc hdst hsrc honly, tget_wholeFrame sl hslot]

/-! ## Connections (R488) -/

/-- The batches that have waited 125 us at the start of the frame. -/
def dueBatches (s : State) : List BwBatch := s.bw.batches.filter (fun b => decide (b.at_ + 125 * usCycles ≤ s.bw.frameStart))

/-- The due batches take effect in the order they were accepted, and the others wait on. -/
def applyBatches (s : State) : State :=
  modBw s (fun b =>
    { b with conns := ((dueBatches s).flatMap (fun x => x.conns)).foldl applyConn b.conns, batches := b.batches.filter (fun x => !(decide (x.at_ + 125 * usCycles ≤ s.bw.frameStart))) })

theorem multiframeBoundary_applies {s : State} (hlocked : s.bw.st = .locked) (hzero : s.bw.mframe = 0) :
    multiframeBoundary s = forAll (dueBatches s) (fun u b => endJob b.job rcDone [] u) (applyBatches s) := if_pos ⟨hlocked, hzero⟩

theorem multiframeBoundary_bw {s : State} (hlocked : s.bw.st = .locked) (hzero : s.bw.mframe = 0) : (multiframeBoundary s).bw = (applyBatches s).bw := by
  rw [multiframeBoundary_applies hlocked hzero]
  exact forAll_keeps State.bw _ _ _ (fun t b => endJob_bw ..)

/-! ## TDM over Braid (R489 to R491) -/

section
variable {s : State}

theorem braidTxSend_sends (hpending : s.bw.txPending = true) : braidTxSend s =
    forAll (List.range 8) (fun t i => (presentReq 0x58 0 (pairWrite s s.bw.txAddr (s.bwx.txFrame % 16 * 0x1000 + 512 * i) (txBytes s i)) t).2)
      (modBw s (fun b => { b with txPending := false })) := if_pos hpending

/-- The offset of a write in the receive ring. -/
def ringOffset (d : Delivered) : Nat := d.pkt.addr % 0x200000 - 0x100000

/-- The ring takes the bytes of a write in its window. -/
def storeRing (d : Delivered) (s : State) : State :=
  modBw s (fun b =>
    { b with
      ring := (d.pkt.data.zipIdx).foldl (fun t x => tset t (ringOffset d + x.2) x.1) b.ring,
      ringWritten := (List.range d.pkt.data.length).foldl (fun l i => ladd l (ringOffset d + i)) b.ringWritten })

theorem ringWrite_stores {pid : Nat} {d : Delivered} (hfind : inboxFind s 0x58 pid = some d) (hopen : ringOpen s (ringOffset d) d.pkt.data.length = true) :
    ringWrite pid s = respondInbox d 10 .ok [] (storeRing d s) := by
  rw [ringWrite, hfind]
  exact if_pos hopen

theorem ringWrite_denied {pid : Nat} {d : Delivered} (hfind : inboxFind s 0x58 pid = some d) (hshut : ringOpen s (ringOffset d) d.pkt.data.length = false) :
    ringWrite pid s = respondInbox d 10 .denied [] (raiseLimited 45802 msCycles 458 2 1 [] (modBw s (fun b => { b with lateWrite := min (b.lateWrite + 1) 4294967295 }))) := by
  rw [ringWrite, hfind]
  exact if_neg (hshut ▸ Bool.false_ne_true)

/-- The ring frame that the present output frame consumes. -/
def ringFrame (s : State) : Nat := (s.bw.mframe + 14) % 16

/-- The outputs connected to the ring take a byte each; the ring frame is consumed. -/
def feedOutputs (byte : BwConn → Byte) (s : State) : State :=
  modBw (modBwx s (fun x => { x with consumed := true })) (fun b =>
    { b with
      ringWritten := b.ringWritten.filter (fun o => o / 4096 != ringFrame s),
      out := (s.bw.conns2.filter (fun c => c.srcBraid && !c.dstBraid)).foldl (fun m c => tset m c.dst (byte c)) b.out })

/-- A late ring frame is counted. -/
def countLateFrame (s : State) : State := modBw s (fun b => { b with lateFrame := min (b.lateFrame + 1) 4294967295 })

theorem ringConsume_whole (hlocked : s.bw.st = .locked) (hnew : s.bwx.consumed = false)
    (hwhole : (List.range 4096).all (fun c => s.bw.ringWritten.contains (ringFrame s * 4096 + c)) = true) :
    ringConsume s = feedOutputs (fun c => tget s.bw.ring 0x7F (ringFrame s * 4096 + c.src)) s := by
  rw [ringFrame] at hwhole
  simp only [ringConsume, hlocked, hnew, hwhole, not_false_eq_true, and_self, Bool.false_eq_true, if_true]
  rfl

theorem ringConsume_late (hlocked : s.bw.st = .locked) (hnew : s.bwx.consumed = false)
    (hlate : (List.range 4096).all (fun c => s.bw.ringWritten.contains (ringFrame s * 4096 + c)) = false) :
    ringConsume s = raiseLimited 45801 msCycles 458 1 1 [] (countLateFrame (feedOutputs (fun _ => 0x7F) s)) := by
  rw [ringFrame] at hlate
  simp only [ringConsume, hlocked, hnew, hlate, not_false_eq_true, and_self, Bool.false_eq_true, if_true, if_false]
  rfl

end

/-- Settles O42, step by step, by what each step does under its conditions. -/
theorem backwaterLocksAndCarriesFrames : Obligations.BackwaterLocksAndCarriesFrames := by
  unfold Obligations.BackwaterLocksAndCarriesFrames
  refine ⟨?wide, ?lock, ?frame, ?carry, ?clock, ?timeout, ?boundary, ?send, ?store, ?denied, ?whole, ?late⟩
  case wide => exact fun w p s hw hst => congrArg Host.Outcome.next (syncPulse_tooWide p hw hst)
  case lock =>
    intro w s hw hst hsynced
    refine ⟨_, congrArg Host.Outcome.next (syncPulse_locks hw hst hsynced), ?_⟩
    obtain ⟨hlocked, hframe⟩ := bwLock_locked (w == 2) s
    refine ⟨hlocked, hframe.trans ?_⟩
    simp only [Bool.or_eq_true, beq_iff_eq, Bool.not_eq_true']
  case frame =>
    intro sl s hlocked
    obtain ⟨z, hframe⟩ := bwFrame_captures sl hlocked
    refine ⟨bwFrame sl false s, rfl, ?_⟩
    simp only [hframe, frameCaptured, hlocked, and_self]
  case carry =>
    exact fun sl sl2 c s hlocked hc hdst hsrc hslot hout honly =>
      ⟨_, _, rfl, rfl, bwFrame_twice_carries sl sl2 hlocked hc hdst hsrc hslot hout honly⟩
  case clock =>
    intro s hst hsource
    refine ⟨_, congrArg Host.Outcome.next (clockLoss_hunts hst hsource), ?_⟩
    rw [raiseEv_bw]
    exact ⟨rfl, rfl, rfl⟩
  case timeout => exact fun j s hjob hdue => ⟨_, congrArg Host.Outcome.next (bwLockTimeout_due hjob hdue), rfl⟩
  case boundary =>
    intro s hlocked hzero
    refine ⟨multiframeBoundary s, rfl, ?_⟩
    rw [multiframeBoundary_bw hlocked hzero]
    exact ⟨rfl, rfl⟩
  case send => exact fun s hclock hpending => next_whileClocked hclock (braidTxSend_sends hpending)
  case store => exact fun pid d s hclock hfind hopen => ⟨_, next_whileClocked hclock (ringWrite_stores hfind hopen), rfl, rfl⟩
  case denied => exact fun pid d s hclock hfind hshut => next_whileClocked hclock (ringWrite_denied hfind hshut)
  case whole => exact fun s hclock hlocked hnew hwhole => ⟨_, next_whileClocked hclock (ringConsume_whole hlocked hnew hwhole), rfl, rfl, rfl⟩
  case late => exact fun s hclock hlocked hnew hlate => ⟨_, next_whileClocked hclock (ringConsume_late hlocked hnew hlate), rfl, rfl, rfl⟩

end Sys2Proof.Machine
end

section
/-! Supplies, operating points, the slow clock and sensors (R512 to R518, R523, R611, R612). -/

namespace Sys2Proof.Machine
open Sys2Proof

/-! ## What raised events leave -/

@[simp] theorem raiseEv_power (ev cause sev : Nat) (detail : List Byte) (s : State) : (raiseEv ev cause sev detail s).power = s.power :=
  raiseEv_part (sp := .power) ev cause sev detail s (by decide) (by decide)

theorem when_raiseEv_power (c : Bool) (ev cause sev : Nat) (detail : List Byte) (s : State) : (when_ c (raiseEv ev cause sev detail) s).power = s.power := by
  cases c
  · rfl
  · exact raiseEv_power ..

/-! ## Operating points (R512 to R515) -/

section
variable {s : State} {x : Dvfs} {r : List Dvfs}

/-- A change waits for power-good when it is begun with a new voltage and power-good has not come. -/
theorem awaitsGood_eq_some {w b : Nat} (h : awaitsGood s = some (w, b)) :
    ∃ x r, s.power.dvfs = x :: r ∧ x.volt = some w ∧ x.pgAt = none ∧ x.begun = some b := by
  unfold awaitsGood at h
  split at h
  · cases h
  · next x r hdvfs =>
    split at h
    · next w' b' hvolt hpg hbegun =>
      cases h
      exact ⟨x, r, hdvfs, hvolt, hpg, hbegun⟩
    · cases h

/-- The rail stands at the commanded voltage, and the time of power-good is marked. -/
def markGood (w : Nat) (x : Dvfs) (r : List Dvfs) (s : State) : State :=
  modPower s (fun p => { p with vccMe := w, dvfs := { x with pgAt := some s.time } :: r })

theorem powerGood_marks {w b : Nat} (h : awaitsGood s = some (w, b)) :
    ∃ x r, powerGood s = markGood w x r s := by
  obtain ⟨x, r, hdvfs, -⟩ := awaitsGood_eq_some h
  refine ⟨x, r, ?_⟩
  simp only [powerGood, h, markGood, modPower, hdvfs]

theorem awaitsGood_markGood (w : Nat) (x : Dvfs) (r : List Dvfs) (s : State) : awaitsGood (markGood w x r s) = none := by
  simp [awaitsGood, markGood]

/-- A quad named by the change in front takes its point. -/
def takePoint (q : Nat) (x : Dvfs) (r : List Dvfs) (s : State) : State :=
  modPower (modQuad q (fun y => { y with op := x.op }) s) (fun p => { p with dvfs := { x with quads := ldel x.quads q } :: r })

theorem dvfsFrequencyChange_takes {q : Nat} (hdvfs : s.power.dvfs = x :: r) (hguard : guardOpen s x = true) (hnamed : q ∈ x.quads)
    (hclean : quadClean s q = true) : dvfsFrequencyChange q s =
      if (ldel x.quads q).isEmpty then endJob x.job rcDone [] (nextDvfs (setPoints x.op x.later (takePoint q x r s))) else takePoint q x r s := by
  rw [dvfsFrequencyChange, hdvfs]
  exact if_pos ⟨hguard, List.contains_iff_mem.mpr hnamed, hclean⟩

theorem quadOf_takePoint (q : Nat) (x : Dvfs) (r : List Dvfs) (s : State) : (quadOf (takePoint q x r s) q).op = x.op := by
  have hquad : quadOf (takePoint q x r s) q = quadOf (modQuad q (fun y => { y with op := x.op }) s) q := rfl
  rw [hquad, quadOf_modQuad]

theorem pgTimeout_ends {f : Bool} {w b : Nat} (hwaits : awaitsGood s = some (w, b)) (hdvfs : s.power.dvfs = x :: r)
    (hdue : f = true ∨ b + 5 * msCycles ≤ s.time) : pgTimeout f s =
      endJob x.job rcTimeout [] (beginDvfs 4096 (raiseEv 418 (if f then 2 else 1) 2 [] (modPower s (fun p => { p with dvfs := r })))) := by
  rw [pgTimeout, hwaits, hdvfs]
  exact if_pos hdue

end

/-! ## The slow clock (R517, R518) -/

section
variable {s : State}

theorem slowClockLoss_driving (hslow : s.tbase.slowDriven = true) :
    slowClockLoss s = raiseEv 431 2 2 [] (modTime s (fun b => { b with valid := false, crystal := false })) := if_pos hslow

/-- The measurement is over; an increment within 4 % of nominal becomes that of the slow clock. -/
def endTrim (n : Nat) (s : State) : State :=
  modTime s (fun b => { b with trimJob := none, incSlow := if 1920000000 ≤ 2 * n ∧ 2 * n ≤ 2080000000 then 2 * n else b.incSlow })

theorem trimMeasureDone_ends (n : Nat) {j : Nat} (hjob : s.tbase.trimJob = some j) (hdue : s.tbase.trimAt + 32768 ≤ s.tbase.slowTicks) :
    trimMeasureDone n s = endJob j (if 1920000000 ≤ 2 * n ∧ 2 * n ≤ 2080000000 then rcDone else rcFailedCheck) [] (endTrim n s) := by
  simp only [trimMeasureDone, hjob, hdue, if_true, endTrim]
  split
  · rfl
  · rfl

end

/-! ## Sensors (R523) -/

/-- A reading above the limit is told once. -/
theorem mem_crossing8 {v limit : Int} (raised : List Nat) (k : Nat) (h : limit < v) : k ∈ (crossing8 v limit raised k).2 := by
  rw [crossing8, if_pos h]
  exact mem_ladd _ _

/-- 5 degrees below the limit it may be told again. -/
theorem not_mem_crossing8 {v limit : Int} (raised : List Nat) (k : Nat) (h : v ≤ limit - 40) : k ∉ (crossing8 v limit raised k).2 := by
  rw [crossing8, if_neg (by omega), if_pos h]
  exact not_mem_ldel _ _

/-- The reading is kept, with the thresholds it has crossed. -/
def keepReading (k : Nat) (v : Int) (s : State) : State :=
  modPower s (fun p =>
    { p with sensors := tset p.sensors k v, raisedHigh := (crossing8 v 800 p.raisedHigh k).2, raisedCrit := (crossing8 v 880 p.raisedCrit k).2 })

/-- The reading is kept, and the thresholds it crosses are told. -/
def tellReading (k : Nat) (v : Int) (s : State) : State :=
  when_ (crossing8 v 880 s.power.raisedCrit k).1 (raiseEv (420 + k) 2 2 (leBytes 2 (toBits 16 v)))
    (when_ (crossing8 v 800 s.power.raisedHigh k).1 (raiseEv (420 + k) 1 1 (leBytes 2 (toBits 16 v))) (keepReading k v s))

section
variable {k : Nat} {v : Int} {s : State}

theorem thermalSample_cool (hk : k < 8) (hcool : v < 1000) : thermalSample k v s = tellReading k v s := by
  rw [thermalSample, if_pos hk]
  exact if_neg (fun htrip => absurd htrip.1 (by omega))

theorem thermalSample_trips (hk : k < 8) (hhot : 1000 ≤ v) (hfirst : s.power.tripped = false) :
    thermalSample k v s = thermalTrip k (tellReading k v s) := by
  rw [thermalSample, if_pos hk]
  exact if_pos ⟨hhot, by simp [hfirst]⟩

theorem tellReading_power (k : Nat) (v : Int) (s : State) : (tellReading k v s).power = (keepReading k v s).power := by
  rw [tellReading, when_raiseEv_power, when_raiseEv_power]

end

/-! ## Rails (R611, R612) -/

section
variable {r : Rail} {s : State}

theorem railFault_new (hin : s.power.railsOut.contains r = false) :
    railFault r s = if s.dbg.inReset then modPower s (fun p => { p with railsOut := p.railsOut ++ [r] })
      else railEffect r (modPower s (fun p => { p with railsOut := p.railsOut ++ [r] })) := if_neg (hin ▸ Bool.false_ne_true)

theorem railReturn_returns (hr : r ≠ .aon) : railReturn r s = modPower s (fun p => { p with railsOut := ldel p.railsOut r }) := if_neg hr

end

/-- Settles O47, step by step, by what each step does under its conditions. -/
theorem suppliesClocksAndSensorsAreWatched : Obligations.SuppliesClocksAndSensorsAreWatched := by
  unfold Obligations.SuppliesClocksAndSensorsAreWatched
  refine ⟨?good, ?change, ?timeout, ?slow, ?trim, ?cool, ?trip, ?fault, ?back⟩
  case good =>
    intro w b s hwaits
    obtain ⟨x, r, hgood⟩ := powerGood_marks hwaits
    exact ⟨_, congrArg Host.Outcome.next hgood, rfl, awaitsGood_markGood w x r s⟩
  case change =>
    exact fun q x r s hdvfs hguard hnamed hclean =>
      ⟨takePoint q x r s, quadOf_takePoint q x r s, rfl, congrArg Host.Outcome.next (dvfsFrequencyChange_takes hdvfs hguard hnamed hclean)⟩
  case timeout => exact fun f w b x r s hwaits hdvfs hdue => congrArg Host.Outcome.next (pgTimeout_ends hwaits hdvfs hdue)
  case slow =>
    intro s hslow
    refine ⟨_, congrArg Host.Outcome.next (slowClockLoss_driving hslow), ?_⟩
    rw [(raiseEv_undisturbed ..).tbase, raiseEv_power]
    exact ⟨rfl, rfl, rfl, rfl⟩
  case trim => exact fun n j s hjob hdue => ⟨endTrim n s, congrArg Host.Outcome.next (trimMeasureDone_ends n hjob hdue), rfl, rfl⟩
  case cool =>
    intro k v s hk hcool
    refine ⟨_, congrArg Host.Outcome.next (thermalSample_cool hk hcool), ?_⟩
    rw [tellReading_power]
    exact ⟨tget_tset_same .., rfl, fun h => mem_crossing8 _ k h, fun h => not_mem_crossing8 _ k (by omega), fun h => mem_crossing8 _ k h,
      fun h => not_mem_crossing8 _ k (by omega)⟩
  case trip => exact fun k v s hk hhot hfirst => ⟨_, congrArg Host.Outcome.next (thermalSample_trips hk hhot hfirst)⟩
  case fault => exact fun r s hin => ⟨_, rfl, congrArg Host.Outcome.next (railFault_new hin)⟩
  case back => exact fun r s hr => ⟨_, congrArg Host.Outcome.next (railReturn_returns hr), rfl, not_mem_ldel _ _⟩

end Sys2Proof.Machine
end

section
/-! Sleep: votes, the commit, aborts, wake and exit, and the Stipple sequencer (R501 to R510, R546). -/

namespace Sys2Proof.Machine
open Sys2Proof

/-! ## Votes (R501, R502) -/

section
variable {d : Nat} {e : Entry} {s : State} (hentry : s.power.entry = some e) (hvoting : e.step = 1) (hd : d < 86) (hon : domOn s d = true)
  (hnew : voted e d = false)
include hentry hvoting hd hon hnew

theorem prepareVote_votes (ok : Bool) : prepareVote d ok s =
    setEntry (some (if refuses s e.target d ok then { e with refused := e.refused ++ [(d, 1)] } else { e with agreed := e.agreed ++ [d] })) s := by
  rw [prepareVote, hentry]
  exact if_pos ⟨hvoting, hd, hon, by rw [hnew]; exact Bool.false_ne_true⟩

theorem voteTimeout_refuses (hdue : e.since + 100 * usCycles ≤ s.time) :
    voteTimeout d s = setEntry (some { e with refused := e.refused ++ [(d, 2)] }) s := by
  rw [voteTimeout, hentry]
  exact if_pos ⟨hvoting, hd, hon, by rw [hnew]; exact Bool.false_ne_true, hdue⟩

end

/-! ## The commit (Table 13.4) -/

/-- An entry at A1 whose votes are all in and agree, with no wake event and no new work since. -/
def MayCommit (e : Entry) (s : State) : Prop :=
  s.power.entry = some e ∧ e.step = 1 ∧ votesIn s e = true ∧ e.refused = [] ∧ e.wakeAt ≠ 1 ∧ newWork s e = []

section
variable {e : Entry} {s : State}

theorem MayCommit.sleepCommit (h : MayCommit e s) : sleepCommit s =
    if s.dbg.sty.st ≠ .detached ∧ ¬ e.past = true then fallAsleep e true s
    else if e.target = .doze then fallAsleep e false s
    else if s.sluice.commitB.isSome = true then s
    else if ¬ s.sluice.committed.isEmpty = true then startCommit .suspend [] (braidNow s) (setEntry (some { e with past := true }) s)
    else commitStipple e s := by
  obtain ⟨hentry, hvoting, hvotes, hagreed, hquiet, hidle⟩ := h
  rw [Machine.sleepCommit, hentry]
  exact if_pos ⟨hvoting, hvotes, by rw [hagreed]; rfl, hquiet, by rw [hidle]; rfl⟩

theorem sleepCommit_emulates (h : MayCommit e s) (hdebug : s.dbg.sty.st ≠ .detached) (hfirst : e.past = false) : sleepCommit s = fallAsleep e true s := by
  rw [h.sleepCommit, if_pos ⟨hdebug, by rw [hfirst]; exact Bool.false_ne_true⟩]

theorem sleepCommit_dozes (h : MayCommit e s) (hfree : s.dbg.sty.st = .detached) (hdoze : e.target = .doze) : sleepCommit s = fallAsleep e false s := by
  rw [h.sleepCommit, if_neg (fun hdebug => hdebug.1 hfree), if_pos hdoze]

theorem sleepCommit_suspends (h : MayCommit e s) (hfree : s.dbg.sty.st = .detached) (hdeep : e.target ≠ .doze) (hidle : s.sluice.commitB = none)
    (hflows : s.sluice.committed ≠ []) : sleepCommit s = startCommit .suspend [] (braidNow s) (setEntry (some { e with past := true }) s) := by
  rw [h.sleepCommit, if_neg (fun hdebug => hdebug.1 hfree), if_neg hdeep, hidle]
  have hsome : ¬ s.sluice.committed.isEmpty = true := fun hempty => hflows (List.isEmpty_iff.mp hempty)
  exact if_pos hsome

theorem sleepCommit_descends (h : MayCommit e s) (hfree : s.dbg.sty.st = .detached) (hdeep : e.target ≠ .doze) (hidle : s.sluice.commitB = none)
    (hnone : s.sluice.committed = []) : sleepCommit s = commitStipple e s := by
  rw [h.sleepCommit, if_neg (fun hdebug => hdebug.1 hfree), if_neg hdeep, hidle, hnone]
  rfl

end

/-- A device that falls asleep is in the target state, its job and the state before are kept, and the entry is over. -/
theorem fallAsleep_power (e : Entry) (emulated : Bool) (s : State) :
    (fallAsleep e emulated s).power.dev = e.target ∧ (fallAsleep e emulated s).power.entry = none ∧ (fallAsleep e emulated s).power.sleepJob = some e.job ∧
    (fallAsleep e emulated s).power.prev = if s.power.dev = .trim then .trim else .active := by
  unfold fallAsleep startSequencer
  dsimp only
  split <;> exact ⟨rfl, rfl, rfl, rfl⟩

/-! ## Retention and STIPPLE (R380, R502) -/

theorem memPwr_setMemPwr_other (p : MemPwr) (s : State) {u x : Nat} (h : x ≠ u) : memPwr (setMemPwr u p s) x = memPwr s x := tget_tset_other _ _ _ _ _ h

/-- A memory that is ON enters RETENTION. -/
def retainMem (t : State) (u : Nat) : State := if memPwr t u = .on then setMemPwr u .retention (retentionCount u 4 t) else t

theorem memPwr_retainMem (t : State) (u x : Nat) : memPwr (retainMem t u) x = if x = u ∧ memPwr t x = .on then .retention else memPwr t x := by
  unfold retainMem
  by_cases hon : memPwr t u = .on
  · rw [if_pos hon]
    by_cases hx : x = u
    · subst hx
      rw [memPwr_setMemPwr, if_pos ⟨rfl, hon⟩]
    · rw [memPwr_setMemPwr_other _ _ hx, memPwr_of_pwr (retentionCount_pwr ..), if_neg (fun h => hx h.1)]
  · rw [if_neg hon, if_neg]
    rintro ⟨rfl, h⟩
    exact hon h

/-- Each of the memories that is ON enters RETENTION, and no other changes. -/
theorem memPwr_retainMems (l : List Nat) (s : State) (x : Nat) :
    memPwr (forAll l retainMem s) x = if x ∈ l ∧ memPwr s x = .on then .retention else memPwr s x := by
  induction l generalizing s with
  | nil => simp [forAll]
  | cons u l ih =>
    have hcons : forAll (u :: l) retainMem s = forAll l retainMem (retainMem s u) := rfl
    rw [hcons, ih, memPwr_retainMem]
    by_cases hon : memPwr s x = .on
    · by_cases hx : x = u
      · subst hx
        simp [hon]
      · simp [hx, hon]
    · simp [hon]

theorem memPwr_memsRetain (s : State) (x : Nat) : memPwr (memsRetain s) x = if x < 32 ∧ memPwr s x = .on then .retention else memPwr s x := by
  have hretain : memsRetain s = forAll (List.range 32) retainMem s := rfl
  rw [hretain, memPwr_retainMems]
  simp only [List.mem_range]

theorem memsRetain_power (s : State) : (memsRetain s).power = s.power := by
  have hkept : ∀ t u, (retainMem t u).power = t.power := by
    intro t u
    unfold retainMem
    split
    · exact (setMemPwr_part (sp := .power) u .retention _ (by decide)).trans (retentionCount_part (sp := .power) u 4 t (by decide))
    · rfl
  exact forAll_keeps State.power _ retainMem s hkept

section
variable {e : Entry} {s : State} (hentry : s.power.entry = some e) (hidle : newWork s e = [])
include hentry hidle

theorem retentionStep_retains (hstep : e.step = 2) (hslow : s.tbase.slowDriven = true) (hquiet : e.wakeAt ≠ 2) :
    retentionStep s = memsRetain (setEntry (some { e with step := 3 }) s) := by
  rw [retentionStep, hentry]
  exact if_pos ⟨hstep, hslow, hquiet, by rw [hidle]; rfl⟩

theorem stippleEntered_enters (hstep : e.step = 3) (hquiet : e.wakeAt ≠ 3) : stippleEntered s = enginesDown (lanesDown (fallAsleep e false s)) := by
  rw [stippleEntered, hentry]
  exact if_pos ⟨hstep, hquiet, by rw [hidle]; rfl⟩

end

/-- Engines and lanes that go down leave the device state. -/
theorem enginesDown_lanesDown_power (s : State) : (enginesDown (lanesDown s)).power = s.power :=
  (enginesDown_part (sp := .power) _ (by decide) (by decide) (by decide) (by decide) (by decide) (by decide)).trans
    (lanesDown_part (sp := .power) s (by decide) (by decide) (by decide) (by decide) (by decide) (by decide))

/-! ## Aborts (R503) -/

theorem sleepAborted_due {e : Entry} {s : State} (hentry : s.power.entry = some e) (hdue : abortDue s e = true) : sleepAborted s =
    endJob e.job rcBusy [] (raiseEv 416 1 1 (leBytes 1 e.step ++ leBytes 1 (abortCause s e).1 ++ leBytes 1 (abortCause s e).2) (setEntry none (undoEntry e s))) := by
  rw [sleepAborted, hentry]
  exact if_pos hdue

/-! ## Wake and exit (R505 to R507) -/

section
variable {w : WakeSource} {s : State}

/-- The source that first woke the device is kept, with the entries of the program that did. -/
def keepWake (w : WakeSource) (s : State) : State :=
  modPower s (fun p =>
    { p with wakeSrc := some (p.wakeSrc.getD w), wakeEntries := if p.wakeSrc = none ∧ w = .stipple then reached s else p.wakeEntries })

theorem wakeEvent_wakes (hasleep : s.power.entry = none) (hwakes : wakes s.power.dev w = true) (htrue : wakeTrue s w = true) :
    wakeEvent w s = keepWake w s := by
  rw [wakeEvent, hasleep]
  exact if_pos ⟨hwakes, htrue⟩

/-- An awake device is in the state before the sleep; events, the ended job and a takeover leave that. -/
theorem awake_power (s : State) :
    (awake s).power = { s.power with dev := s.power.prev, sleepJob := none, wakeSrc := none, wakeEntries := [], emulated := false } := by
  have hended : ∀ (id : Option Nat) (code : Nat) (t : State), (endJob? id code [] t).power = t.power := fun id code t =>
    endJob?_part (sp := .power) id code [] t (by decide) (by decide) (by decide) (by decide) (by decide)
  have htaken : ∀ t : State, (takeover 2 t).power = t.power := fun t => takeover_part (sp := .power) 2 t (by decide) (by decide) (by decide) (by decide)
  unfold awake
  dsimp only
  split
  · rw [htaken, hended, raiseEv_power, modPower_power]
  · rw [hended, raiseEv_power, modPower_power]

theorem dozeExit_leaves (hdoze : s.power.dev = .doze) (hwoken : s.power.wakeSrc = some w) : dozeExit s = awake s := if_pos ⟨.inl hdoze, by rw [hwoken]; rfl⟩

section
variable (hasleep : s.power.dev = .stipple) (hreal : s.power.emulated = false) (hwoken : s.power.wakeSrc = some w)
include hasleep hreal hwoken

theorem stippleExitDone_leaves (hfirst : s.power.resuming = false) (hnone : (stippleRestore s).sluice.suspended = none) :
    stippleExitDone s = stippleLeave (stippleRestore s) := by
  simp only [stippleExitDone, hasleep, hreal, hwoken, hfirst, hnone, Bool.false_eq_true, not_false_eq_true, Option.isSome_some, and_self, if_true, if_false]

theorem stippleExitDone_resumes {cal : List Flow} (hfirst : s.power.resuming = false) (hsome : (stippleRestore s).sluice.suspended = some cal) :
    stippleExitDone s = startCommit .resume cal (braidNow (stippleRestore s)) (modPower (stippleRestore s) (fun p => { p with resuming := true })) := by
  simp only [stippleExitDone, hasleep, hreal, hwoken, hfirst, hsome, Bool.false_eq_true, not_false_eq_true, Option.isSome_some, and_self, if_true, if_false]

theorem stippleExitDone_resumed (hresuming : s.power.resuming = true) (hdone : s.sluice.commitB = none) : stippleExitDone s = stippleLeave s := by
  simp only [stippleExitDone, hasleep, hreal, hwoken, hresuming, hdone, Bool.false_eq_true, not_false_eq_true, Option.isSome_some, Option.isNone_none, and_self, if_true]

end

theorem stippleLeave_power (s : State) : (stippleLeave s).power =
    { s.power with dev := s.power.prev, sleepJob := none, wakeSrc := none, wakeEntries := [], emulated := false, resuming := false } := by
  have hlanes : ∀ (b : Bool) (t : State), (lanesUpAgain b t).power = t.power := fun b t =>
    lanesUpAgain_part (sp := .power) b t (by decide) (by decide) (by decide) (by decide) (by decide) (by decide)
  rw [stippleLeave, awake_power, hlanes, modPower_power]

end

/-! ## The Stipple sequencer (R509) -/

/-- The samples of a program's entries in a period. -/
def periodSamples (v : List Int) (g : StipProg) : List (StipEntry × Int) := g.entries.zip ((List.range g.entries.length).map (fun i => v.getD i 0))

/-- The entries of a program after a period. -/
def periodEntries (v : List Int) (g : StipProg) (s : State) : List StipEntry := (periodSamples v g).map (fun p => stipUpdate p.1 (stipSample s p.1 p.2))

/-- What a period samples is kept, the entries take their samples, and the next period begins. -/
def samplePeriod (v : List Int) (g : StipProg) (s : State) : State :=
  modTwin (modPower (forAll (periodSamples v g) (fun u p => keepSample u p.1 p.2) s)
      (fun p => { p with prog := some { g with entries := periodEntries v g s }, lastPeriod := p.lastPeriod + msTicks g.periodMs }))
    (fun w => { w with edges := 0, twinHb := if w.role = .standbyStipple then !w.twinHb else w.twinHb })

theorem stipplePeriod_samples (v : List Int) {g : StipProg} {s : State} (hprog : s.power.prog = some g) (hasleep : s.power.dev = .stipple)
    (hquiet : s.power.wakeSrc = none) (hdue : s.power.lastPeriod + msTicks g.periodMs ≤ s.tbase.slowTicks) : stipplePeriod v s =
      if (reached (samplePeriod v g s)).isEmpty then samplePeriod v g s
      else modPower (samplePeriod v g s) (fun p => { p with wakeSrc := some .stipple, wakeEntries := reached (samplePeriod v g s) }) := by
  rw [stipplePeriod, hprog]
  exact if_pos ⟨hasleep, hquiet, hdue⟩

/-- Settles O46, step by step, by what each step does under its conditions. -/
theorem sleepIsVotedEnteredAndLeft : Obligations.SleepIsVotedEnteredAndLeft := by
  unfold Obligations.SleepIsVotedEnteredAndLeft
  refine ⟨?vote, ?noVote, ?commit, ?retention, ?entered, ?aborted, ?wake, ?doze, ?exit, awake_power, ?period⟩
  case vote =>
    exact fun d ok e s hentry hvoting hd hon hnew => congrArg Host.Outcome.next (prepareVote_votes hentry hvoting hd hon hnew ok)
  case noVote =>
    exact fun d e s hentry hvoting hd hon hnew hdue => congrArg Host.Outcome.next (voteTimeout_refuses hentry hvoting hd hon hnew hdue)
  case commit =>
    intro e s hentry hvoting hvotes hagreed hquiet hidle
    have hmay : MayCommit e s := ⟨hentry, hvoting, hvotes, hagreed, hquiet, hidle⟩
    refine ⟨fun hdebug hfirst => ?_, fun hfree hdeep hcommit hflows => ?_, fun hfree hdoze => ?_, fun hfree hdeep hcommit hnone => ?_⟩
    · exact congrArg Host.Outcome.next (sleepCommit_emulates hmay hdebug hfirst)
    · exact congrArg Host.Outcome.next (sleepCommit_suspends hmay hfree hdeep hcommit hflows)
    · obtain ⟨hdev, hover, hjob, hprev⟩ := fallAsleep_power e false s
      exact ⟨_, congrArg Host.Outcome.next (sleepCommit_dozes hmay hfree hdoze), hdev.trans hdoze, hover, hjob, hprev⟩
    · exact ⟨_, congrArg Host.Outcome.next (sleepCommit_descends hmay hfree hdeep hcommit hnone), rfl, rfl, rfl⟩
  case retention =>
    intro e s hentry hstep hslow hquiet hidle
    refine ⟨_, congrArg Host.Outcome.next (retentionStep_retains hentry hidle hstep hslow hquiet), ?_, fun u => ?_⟩
    · rw [memsRetain_power]
      rfl
    · rw [memPwr_memsRetain]
      rfl
  case entered =>
    intro e s hentry hstep hquiet hidle htarget
    obtain ⟨hdev, hover, hjob, -⟩ := fallAsleep_power e false s
    refine ⟨_, congrArg Host.Outcome.next (stippleEntered_enters hentry hidle hstep hquiet), ?_⟩
    rw [enginesDown_lanesDown_power]
    exact ⟨hdev.trans htarget, hover, hjob⟩
  case aborted => exact fun e s hentry hdue => ⟨_, congrArg Host.Outcome.next (sleepAborted_due hentry hdue), rfl⟩
  case wake =>
    exact fun w s hasleep hwakes htrue => ⟨_, congrArg Host.Outcome.next (wakeEvent_wakes hasleep hwakes htrue), rfl, rfl⟩
  case doze =>
    intro w s hdoze hwoken
    refine ⟨_, congrArg Host.Outcome.next (dozeExit_leaves hdoze hwoken), ?_⟩
    rw [awake_power]
    exact ⟨rfl, rfl, rfl⟩
  case exit =>
    intro w s hasleep hreal hwoken
    refine ⟨fun hfirst hnone => ?_, fun cal hfirst hsome => ?_, fun hresuming hdone => ?_, stippleLeave_power s⟩
    · exact congrArg Host.Outcome.next (stippleExitDone_leaves hasleep hreal hwoken hfirst hnone)
    · exact congrArg Host.Outcome.next (stippleExitDone_resumes hasleep hreal hwoken hfirst hsome)
    · exact congrArg Host.Outcome.next (stippleExitDone_resumed hasleep hreal hwoken hresuming hdone)
  case period =>
    intro v g s hprog hasleep hquiet hdue
    exact ⟨samplePeriod v g s, periodEntries v g s, ⟨rfl, rfl⟩, congrArg Host.Outcome.next (stipplePeriod_samples v hprog hasleep hquiet hdue)⟩

end Sys2Proof.Machine
end

section
/-! The Stylus line: attaching, authorization, accesses, engines under the debugger, and resets (R525, R533 to R545). -/

namespace Sys2Proof.Machine
open Sys2Proof

/-! ## Attaching and frames (R533, R536 to R538) -/

section
variable {s : State}

/-- The debugger is attached, authorized at once in BLANK and RETIRED parts. -/
def attached (s : State) : State :=
  modSty s (fun y =>
    { y with
      st := if s.dbg.fuses.life = .blank ∨ s.dbg.fuses.life = .retired then .authorized else .attached,
      symbols := [], ferry := false, respBits := [], sentBit := some (true, s.time) })

theorem attach_attaches (hfree : s.dbg.sty.st = .detached) (hpattern : attachPattern s.dbg.sty.symbols = true) :
    attach s = raiseEv 490 1 0 [] (attached s) := by
  simp only [attach, hfree, hpattern, and_self, if_true, decide_eq_true_eq]
  rfl

theorem stylusFrameTimeout_discards (hsome : s.dbg.sty.symbols ≠ []) (hdue : s.dbg.sty.lastSymbol + 10 * usCycles ≤ s.time) :
    stylusFrameTimeout s = modSty s (fun y => { y with symbols := [] }) :=
  if_pos ⟨fun hempty => hsome (List.isEmpty_iff.mp hempty), hdue⟩

variable {cmd n : Nat} {p : List Byte} {body : State → StyResp × State} (hattached : s.dbg.sty.st ≠ .detached)
include hattached

theorem stylusServe_refused {k : Nat} (hrefused : styRefusal s cmd p = some k) : stylusServe cmd p n body s = styRespond s.dbg.sty.ferry n { status := k } s := by
  rw [stylusServe, if_neg hattached, hrefused]

theorem stylusServe_serves (hgood : styRefusal s cmd p = none) : stylusServe cmd p n body s = styRespond s.dbg.sty.ferry n (body s).1 (body s).2 := by
  rw [stylusServe, if_neg hattached, hgood]

/-- A frame that is not refused is answered with what its command's body answers. -/
theorem stylus_next (hgood : styRefusal s cmd p = none) {r : StyResp} {t : State} (hbody : body s = (r, t)) :
    (.next (stylusServe cmd p n body s) : Host.Outcome State Fault Refusal) = .next (styRespond s.dbg.sty.ferry n r t) := by
  rw [stylusServe_serves hattached hgood, hbody]

end

/-! ## Authorization (R537) -/

section
variable {s : State}

/-- The nonce is kept with the record it is for. -/
def keepNonce (record : Nat) (n : BitVec 256) (s : State) : State := modSty s (fun y => { y with nonce := some (n, record % 256) })

/-- A nonce serves one RESPOND. -/
def dropNonce (s : State) : State := modSty s (fun y => { y with nonce := none })

/-- The right tag authorizes the debugger. -/
def authorize (s : State) : State := modSty (dropNonce s) (fun y => { y with st := .authorized, fails := 0 })

section
variable {n : BitVec 256} {r : Nat} {tag : List Byte} (hst : s.dbg.sty.st = .attached) (hnonce : s.dbg.sty.nonce = some (n, r))
include hst hnonce

theorem respondBody_right (htag : padTo 16 tag = correctTag s n r) : respondBody tag s = (styOk [], authorize s) := by
  simp only [respondBody, hst, hnonce, htag, decide_true, ne_eq, not_true_eq_false, if_true, if_false]
  rfl

theorem respondBody_wrong (htag : padTo 16 tag ≠ correctTag s n r) : respondBody tag s = ({ status := 2 }, wrongTag (dropNonce s)) := by
  simp only [respondBody, hst, hnonce, htag, decide_false, ne_eq, not_true_eq_false, Bool.false_eq_true, if_false]
  rfl

end

/-- A wrong tag is counted; the eighth in a row locks the debugger out. -/
theorem wrongTag_sty (s : State) : (wrongTag s).dbg.sty.st = (if 8 ≤ s.dbg.sty.fails + 1 then .lockedOut else s.dbg.sty.st) ∧
    (wrongTag s).dbg.sty.fails = s.dbg.sty.fails + 1 ∧ (wrongTag s).dbg.sty.nonce = s.dbg.sty.nonce := by
  unfold wrongTag
  split
  · rw [(raiseEv_undisturbed ..).dbg]
    exact ⟨rfl, rfl, rfl⟩
  · rw [(raiseEv_undisturbed ..).dbg]
    exact ⟨rfl, rfl, rfl⟩

end

/-! ## Detaching (R536, R547, R550) -/

theorem clearProof_sty (targets : List Nat) (reason : Nat) (s : State) : (clearProof targets reason s).dbg.sty = s.dbg.sty :=
  forAll_keeps (fun t => t.dbg.sty) _ _ s fun _ _ => by rw [(raiseEv_undisturbed ..).dbg]; rfl

theorem senderResetChan_dbg (c : Nat) (s : State) : (senderResetChan c s).dbg = s.dbg :=
  senderResetChan_part (sp := .debug) c s (by decide) (by decide) (by decide) (by decide)

theorem realSleep_dbg (s : State) : (realSleep s).dbg = s.dbg := realSleep_part (sp := .debug) s (by decide) (by decide)

/-- The line of a detached debugger. -/
def detachedLine (y : Stylus) : Stylus :=
  { y with st := .detached, nonce := none, outstanding := none, last := none, symbols := [], respBits := [], sentBit := none }

theorem detachDebugger_sty {s : State} (hst : s.dbg.sty.st = .attached ∨ s.dbg.sty.st = .authorized) :
    (detachDebugger s).dbg.sty = detachedLine s.dbg.sty := by
  rw [detachDebugger, if_pos hst]
  dsimp only
  rw [realSleep_dbg, (raiseEv_undisturbed ..).dbg]
  split
  · rw [clearProof_sty, senderResetChan_dbg]
    rfl
  · rw [senderResetChan_dbg]
    rfl

/-! ## Accesses (R539) -/

/-- The request a debugger's access at a system address makes. -/
def styReq (op : Op) (a size : Nat) (data : List Byte) (s : State) : Req :=
  { op := op, far := (sysAddr a).2.1, farDev := (sysAddr a).2.2, farEp := farEpOf s (sysAddr a).1, addr := (sysAddr a).1, len := size, data := data, debug := true }

/-- The access has been presented at NI 0x06 and is outstanding. -/
def styPresented (op : Op) (a size : Nat) (data : List Byte) (s : State) : State :=
  modSty (presentReq 0x06 0 (styReq op a size data s) s).2
    (fun y => { y with outstanding := some ((presentReq 0x06 0 (styReq op a size data s) s).1, size, op == .wr) })

theorem collect_idle {s : State} (hidle : s.dbg.sty.outstanding = none) : (collect s).2 = s := by rw [collect, hidle]

theorem styAccess_presents (op : Op) (a : Nat) {size : Nat} (data : List Byte) {s : State} (hsize : size = 4 ∨ size = 8 ∨ size = 64)
    (hidle : s.dbg.sty.outstanding = none) : styAccess op a size data s = collect (styPresented op a size data s) := by
  have hlegal : ¬ (size ≠ 4 ∧ size ≠ 8 ∧ size ≠ 64) := by omega
  rw [styAccess, if_neg hlegal]
  simp only [collect_idle hidle, hidle, Option.isSome_none, Bool.false_eq_true, if_false]
  rfl

/-! ## Engines (R540 to R545) -/

section
variable {k : Nat} {s : State}

theorem onEngine_powered (body : State → StyResp × State) (hk : k < 96) (hon : domOn s (6 + k / 4) = true) : onEngine k body s = body s := by
  rw [onEngine, if_neg (by omega), if_pos hon]

/-- A halt is asked for. -/
def askHalt (k : Nat) (s : State) : State := modEng k (fun e => { e with haltReq := e.st != .debug }) s

/-- A halted engine runs again, with its lock timers; its mover channel may go on. -/
def runAgain (k : Nat) (stepping : Bool) (s : State) : State :=
  resumeLocks (ownerOf k)
    (modEng k (fun e => { e with st := .running, haltReq := false, stepping := stepping, mover := { e.mover with paused := false } }) s)

theorem engOf_runAgain (k : Nat) (stepping : Bool) (s : State) : engOf (runAgain k stepping s) k =
    { engOf s k with st := .running, haltReq := false, stepping := stepping, mover := { (engOf s k).mover with paused := false } } := by
  rw [runAgain, engOf_of_eng (resumeLocks_part (sp := .eng) _ _ (by decide)), engOf_modEng]

theorem goOn_halted (stepping : Bool) (hhalted : (engOf s k).st = .debug) :
    goOn k stepping s = (styOk (engStatBytes (quadGo (k / 4) (runAgain k stepping s)) k), quadGo (k / 4) (runAgain k stepping s)) := if_pos hhalted

theorem goOn_other (stepping : Bool) (hother : (engOf s k).st ≠ .debug) : goOn k stepping s = ({ status := 8 }, s) := if_neg hother

/-- An engine after its reset: ENG_START stays, and a running mover channel is aborted. -/
def engineAfterReset (e : Engine) : Engine :=
  { start := e.start, pc := e.start, mover := if e.mover.st = .run then { e.mover with abort := true, paused := false } else e.mover }

theorem resetEngine_resets (k : Nat) (s : State) :
    ∃ w, resetEngine k s = quadGo (k / 4) (senderResetChan k w) ∧ engOf w k = engineAfterReset (engOf s k) :=
  ⟨_, rfl, engOf_modEng s k fun _ => engineAfterReset (engOf s k)⟩

/-- Reading CYC_LO latches CYC_HI. -/
def latchCycHi (k c i : Nat) (s : State) : State :=
  if c = 4 ∧ i = 20 then modEng k (fun x => { x with r := { x.r with cycHiDebug := x.r.cyc / 2 ^ 32 % 2 ^ 32 } }) s else s

theorem latchCycHi_keeps (k c i : Nat) (s : State) : (latchCycHi k c i s).braid = s.braid ∧ (engOf (latchCycHi k c i s) k).pc = (engOf s k).pc := by
  unfold latchCycHi
  split
  · exact ⟨rfl, by rw [engOf_modEng]⟩
  · exact ⟨rfl, rfl⟩

section
variable {c i : Nat} (hnamed : regNamed c i = true) (hopen : regsOpen (engOf s k) = true)
include hnamed hopen

theorem regrdBody_reads : regrdBody k c i s = (styOk (leBytes 8 (toBits 64 (regValue k (engOf s k) c i))), latchCycHi k c i s) := by
  simp only [regrdBody, hnamed, hopen, not_true_eq_false, if_false]
  rfl

end

end

/-! ## Resets by the debugger (R34, R525) -/

theorem resetDevice_resets {s : State} (hattached : s.dbg.sty.st ≠ .detached) (hgood : styRefusal s 0x31 [] = none) : resetDevice s = deviceReset 2 s := by
  rw [resetDevice, if_neg hattached, hgood]

/-- Settles O49, command by command, by what each does with a frame that is not refused. -/
theorem stylusCommandsAreServed : Obligations.StylusCommandsAreServed := by
  unfold Obligations.StylusCommandsAreServed
  refine ⟨?attach, ?timeout, ?refused, ?idcode, ?challenge, ?respond, ?detach, ?result, ?access, ?engine, ?reset⟩
  case attach =>
    intro s hfree hpattern
    refine ⟨_, congrArg Host.Outcome.next (attach_attaches hfree hpattern), ?_⟩
    rw [(raiseEv_undisturbed ..).dbg]
    exact ⟨rfl, rfl⟩
  case timeout => exact fun s hsome hdue => congrArg Host.Outcome.next (stylusFrameTimeout_discards hsome hdue)
  case refused => exact fun cmd p n k b s hattached hrefused => ⟨stylusServe_refused hattached hrefused, fun r => ⟨_, rfl⟩⟩
  case idcode => exact fun s hattached hgood => stylus_next hattached hgood rfl
  case challenge => exact fun r n s hattached hgood hdue => stylus_next hattached hgood (if_neg (Nat.not_lt.mpr hdue))
  case respond =>
    intro tag n r s hst hgood hnonce
    have hattached : s.dbg.sty.st ≠ .detached := by rw [hst]; decide
    refine ⟨fun htag => ?_, fun htag => ?_⟩
    · exact ⟨_, stylus_next hattached hgood (respondBody_right hst hnonce htag), rfl, rfl, rfl⟩
    · obtain ⟨hnext, hfails, hdropped⟩ := wrongTag_sty (dropNonce s)
      refine ⟨_, stylus_next hattached hgood (respondBody_wrong hst hnonce htag), hnext.trans ?_, hfails, hdropped⟩
      show (if 8 ≤ s.dbg.sty.fails + 1 then StyState.lockedOut else s.dbg.sty.st) = _
      rw [hst]
  case detach =>
    intro s hst hgood
    have hattached : s.dbg.sty.st ≠ .detached := by rcases hst with hst | hst <;> rw [hst] <;> decide
    have hline := detachDebugger_sty hst
    exact ⟨_, stylus_next hattached hgood rfl, congrArg Stylus.st hline, congrArg Stylus.nonce hline, congrArg Stylus.outstanding hline⟩
  case result => exact fun s hattached hgood => stylus_next hattached hgood rfl
  case access =>
    intro a n s hattached hsize hidle
    exact ⟨fun hgood => stylus_next hattached hgood (styAccess_presents .rd a [] hsize hidle),
      fun l hgood => stylus_next hattached hgood (styAccess_presents .wr a (padTo n l) hsize hidle)⟩
  case engine =>
    intro k s hattached hk hon
    refine ⟨fun hgood => ?_, fun hgood hhalted => ?_, fun hgood hhalted => ?_, fun hother => ⟨fun hgood => ?_, fun hgood => ?_⟩, fun hgood => ?_,
      resetEngine_resets k s, fun c i hgood hnamed hopen => ?_, fun c i x hgood hnamed hopen => ?_⟩
    · exact ⟨askHalt k s, engOf_modEng .., fun j hj => engOf_modEng_other _ _ _ _ hj, stylus_next hattached hgood (onEngine_powered _ hk hon)⟩
    · exact ⟨_, engOf_runAgain k false s, stylus_next hattached hgood ((onEngine_powered _ hk hon).trans (goOn_halted false hhalted))⟩
    · exact ⟨_, engOf_runAgain k true s, stylus_next hattached hgood ((onEngine_powered _ hk hon).trans (goOn_halted true hhalted))⟩
    · exact stylus_next hattached hgood ((onEngine_powered _ hk hon).trans (goOn_other false hother))
    · exact stylus_next hattached hgood ((onEngine_powered _ hk hon).trans (goOn_other true hother))
    · exact stylus_next hattached hgood (onEngine_powered _ hk hon)
    · exact ⟨_, stylus_next hattached hgood ((onEngine_powered _ hk hon).trans (regrdBody_reads hnamed hopen)), latchCycHi_keeps k c i s⟩
    · refine stylus_next hattached hgood ((onEngine_powered _ hk hon).trans ?_)
      simp only [hnamed, hopen, not_true_eq_false, if_false]
  case reset =>
    intro s hattached
    exact ⟨fun hgood => stylus_next hattached hgood rfl, fun hgood => congrArg Host.Outcome.next (resetDevice_resets hattached hgood)⟩

end Sys2Proof.Machine
end
